-- ==== Sys2Proof/Word.lean ====
section
/-! DEFINITION. The word types of the model: register contents, bytes and sparse tables. -/

namespace Sys2Proof

/-- A 64-bit register or data word. -/
abbrev Word := BitVec 64

/-- One byte of memory. -/
abbrev Byte := BitVec 8

/-- A sparse table: key and value pairs in one canonical form (keys strictly rising, no entry equal to what an
unlisted key reads as).  The operations over it are in Sys2Proof/Machine/Sparse.lean. -/
abbrev Sp (α : Type) := List (Nat × α)

end Sys2Proof
end

