-- ==== Sys2Proof/Syntax.lean ====
section
/-! DEFINITION. The commands and events of the block: the one inductive Instr, one constructor per row of the
opcode table, and the types of their operands.  A constructor of a mailbox command takes the command's header
(the port it was taken from and its TAG) and then its arguments in the order of the owning chapter's command table;
a constructor of an event takes what its cause outside the block supplies. -/

namespace Sys2Proof

/-- The six mailbox ports of R558, in the order of their numbers p. -/
inductive Port where
  | h0 | p1 | p2 | svc | jtag | fab
deriving DecidableEq, Repr

/-- The header of a mailbox command: the port whose ring it was taken from and its TAG (R563). -/
structure Hdr where
  port : Port
  tag  : BitVec 16
deriving DecidableEq, Repr

/-- One Seam wire that fails its deskew (R125): edge 0 FD0-FD1, 1 FD2-FD3, 2 FD0-FD2, 3 FD1-FD3; a group of the
edge; a wire of the group, 0 to 31, or a spare, 32 and 33. -/
structure SeamFault where
  edge  : Fin 4
  group : Fin 768
  wire  : Fin 34
deriving DecidableEq, Repr

/-- The settings of one fabric PLL in an FPLL section (R81, R85, R197). -/
structure FpllSet where
  pll     : Fin 16
  region  : BitVec 8
  d       : Nat
  m       : Nat
  o       : List Nat
  phase   : List Nat
  freeRun : Bool
deriving DecidableEq, Repr

/-- What the sector's logic has at a pin (R265, R267, R269): serialiser and deserialiser ratio, the clock of the sector, 0 to 15, that both
run on, and whether the plate enables TERM_EN, and DLY_CE with DLY_INC. -/
structure PinIo where
  ser    : Nat
  des    : Nat
  clk    : Fin 16
  termEn : Bool
  dlyEn  : Bool
deriving DecidableEq, Repr

/-- One pin of an IO section (R193, R197): its number 48b + k on the die, and its settings. -/
structure PinSet where
  pin      : Fin 384
  tpp      : Bool
  region   : BitVec 8
  standard : BitVec 4
  drive    : BitVec 3
  term     : BitVec 3
  idelay   : BitVec 8
  odelay   : BitVec 8
  safe     : BitVec 3
  io       : PinIo
deriving DecidableEq, Repr

/-- One used access point of a NOC section (R197): its owning region and its advertised burst, 2^burst flits. -/
structure ApSet where
  ap     : Fin 96
  region : BitVec 8
  burst  : BitVec 3
deriving DecidableEq, Repr

/-- One hop of a link's route (R219): the device sector and the line of a transit line (direction, row or column, launch slot, transit
index as SEND_LINE packs them), the exit tap 1 to 4, the register mask, and the Seam group crossed at the exit, 0xFFFF for none. -/
structure Hop where
  sector : Nat
  line   : Nat
  exit   : Nat
  mask   : Nat
  group  : Nat
deriving DecidableEq, Repr

/-- The route that the loader has found for a link (R221). -/
structure LinkRoute where
  link : Nat
  hops : List Hop
deriving DecidableEq, Repr

/-- What the FPLL, IO and NOC sections of one die carry, whose encodings the manual does not give:
the loader's reading of them. -/
structure DieSettings where
  die   : Fin 4
  fplls : List FpllSet
  /-- The PLL and the output that drive a global clock network (R82). -/
  nets  : List (Fin 32 × Fin 16 × Fin 8)
  pins  : List PinSet
  /-- VCCO_CLASS of a bank, and its internal reference code (full plates only). -/
  banks : List (Fin 8 × BitVec 3 × BitVec 7)
  aps   : List ApSet
deriving DecidableEq, Repr

/-- A RAM port's inputs at an active edge of its clock (R130). -/
structure RamReq where
  en   : Bool
  addr : BitVec 16
  din  : BitVec 72
  we   : BitVec 8
  orCe : Bool
  orSr : Bool
deriving DecidableEq, Repr

/-- What training reads from a channel's SPD (R376, R379, R399): the type; RDIMMs fitted, 0 for components; the device
width and, on x16 components, whether one x8 device carries the redundancy; ranks and whether all have one geometry;
widths of the bank group, bank, column and row addresses; the alert latency in ns; refresh-management support. -/
structure Dimm where
  ddr4      : Bool
  rdimms    : Nat
  devWidth  : Nat
  redundX8  : Bool
  ranks     : Nat
  sameRanks : Bool
  bgBits    : Nat
  bankBits  : Nat
  colBits   : Nat
  rowBits   : Nat
  alertNs   : Nat
  rfm       : Bool
deriving DecidableEq, Repr

/-- A command to a subchannel's DRAM as its retry buffer keeps it (R399): an activate of a bank's row, a read or write burst of a line, a
refresh of a rank, refresh management of a bank (R397). -/
inductive DCmd where
  | activate (bank row : Nat)
  | read (line : Nat)
  | write (line : Nat)
  | refresh (rank : Nat)
  | rfm (bank : Nat)
deriving DecidableEq, Repr

/-- The data of a request of less than a line, or of an atomic OR (R384, R431): byte enables and the data. -/
structure Merge where
  aor  : Bool
  mask : BitVec 64
  data : BitVec 512
deriving DecidableEq, Repr

/-- JTAG TAP instructions (R605). -/
inductive TapInstr where
  | bypass | idcode | boundary | extest | intest
deriving DecidableEq, Repr


/-- One command or event of the block (a row of the opcode table). -/
inductive Instr where
  -- Staged start, reset and the Ring Port (02)
  | porstNAssert (lowNs : Nat) (mayReset : Bool)
  | porstNRelease
  | stage1Enter (faults : List SeamFault)
  | stage2Enter
  | stage3Enter (fitted : BitVec 8)
  | bootPlateLoad
  | dieReset (h : Hdr) (die : Nat)
  | dieResetTakeEffect (die : Fin 4)
  | dieResetRelease (die : Fin 4) (faults : List SeamFault)
  | siteReset (h : Hdr) (site : Nat)
  | siteResetRelease (site : Fin 3)
  | vccauxLoss
  | ringLockAcquired
  | ringLockLost
  | ringWindow (delay : BitVec 16) (length : BitVec 16)
  | ringWindowStart
  | ringCensus (hop : BitVec 8) (rxError : Bool)
  | ringStartPacket (group : BitVec 16) (lead : BitVec 8)
  | ringTriggerPacket (group : BitVec 16) (trig : BitVec 4) (lead : BitVec 8)
  | ringAbortPacket (group : BitVec 16)
  | ringPacketForward (packet : BitVec 64)
  | ringJoinTimeout
  | ringJoin (h : Hdr)
  | ringLeave (h : Hdr)
  -- Root clock and derived clocks (03)
  | alignmentMarker
  | devTimeWrap
  | primaryRingLost
  | refclkLost
  | referenceRestored (ring : Bool)
  | referenceSlewDone
  | rootPllUnlock
  | fpllUnlock (die : Fin 4) (pll : Fin 16)
  | fpllRelock (die : Fin 4) (pll : Fin 16)
  -- Fabric logic and routing (04)
  | seamMarginLoss (edge : Fin 4) (group : Fin 768) (wire : Fin 34) (margin : BitVec 6)
  | seamParityFail (edge : Fin 4) (group : Fin 768) (wire : Fin 34)
  | configUpset (sector : Fin 320) (frame : Fin 6656) (bits : List (Fin 2093))
  -- Tray RAM and Tank RAM (05)
  | ramPortAccess (sector : Fin 320) (ram : Fin 68) (a : Option RamReq) (b : Option RamReq) (near : Bool) (bFirst : Bool) (err : Fin 3)
  | tankQueueWrite (sector : Fin 320) (tank : Fin 8) (din : BitVec 72) (we : BitVec 8)
  | tankQueueRead (sector : Fin 320) (tank : Fin 8) (orCe : Bool) (orSr : Bool) (err : Fin 3)
  | userRamScrubRead (sector : Fin 320) (ram : Fin 68) (which : Fin 4) (err : Fin 3)
  | userRamScrubWriteback (sector : Fin 320) (ram : Fin 68)
  | scrubStarved (sector : Fin 320) (ram : Fin 68)
  -- MAC engines (06)
  | engineStart (e : Fin 15360)
  | engineHalt (e : Fin 15360)
  | engineHaltRelease (e : Fin 15360)
  | engineReset (e : Fin 15360) (high : Bool)
  | engineFifoWrite (e : Fin 15360) (b : Bool) (word : BitVec 36)
  | engineOqRead (e : Fin 15360)
  | engineNop (e : Fin 15360)
  | engineMac (e : Fin 15360) (errA : Fin 3) (errB : Fin 3)
  | engineNmac (e : Fin 15360) (errA : Fin 3) (errB : Fin 3)
  | engineNorm (e : Fin 15360)
  | engineAgset (e : Fin 15360)
  | engineSet (e : Fin 15360) (errA : Fin 3) (errB : Fin 3)
  | engineRep (e : Fin 15360)
  | engineLoop (e : Fin 15360)
  | engineJmp (e : Fin 15360)
  | engineWait (e : Fin 15360)
  | engineSig (e : Fin 15360)
  | engineStop (e : Fin 15360)
  | engineStopDrained (e : Fin 15360)
  | engineGpiChange (e : Fin 15360) (gpi0 : Bool) (gpi1 : Bool)
  -- Plates: loading, partial plates and relocation (07)
  | plateLoad (h : Hdr) (source : Nat) (freezeFirst : Nat) (retain : Nat) (target : Nat) (region : Nat) (policy : Nat) (addr : Nat) (len : Nat)
  | plateRelocate (h : Hdr) (region : Nat) (target : Nat)
  | regionFreeze (h : Hdr) (region : Nat)
  | regionRelease (h : Hdr) (regions : BitVec 256)
  | regionReset (h : Hdr) (region : Nat)
  | regionClear (h : Hdr) (region : Nat)
  | plateSpares (h : Hdr) (sectors : BitVec 320)
  | plateUnretain (h : Hdr) (region : Nat)
  | plateStatus (h : Hdr) (region : Nat)
  | frameRecordWrite (load : Nat) (readBackOk : Bool)
  | loadStreamDone (load : Nat) (dies : List DieSettings) (routes : List LinkRoute)
  | loadVerifyDone (load : Nat) (faults : List SeamFault)
  | freezeDrainEnd (region : Nat)
  | relocateCutover (region : Nat)
  | linkReroute (link : Nat) (route : Option (List Hop))
  | configScrubFrame (die : Fin 4)
  | mbeReload (sector : Fin 320)
  | autoRelocate (region : Nat) (spare : Nat)
  -- Shutter capture and contact sheets (08)
  | shutter (h : Hdr) (addr : Nat)
  | shutterResume (h : Hdr)
  | shutterCancel (h : Hdr)
  | shutterStatus (h : Hdr)
  | shutterTriggerLine (line : Fin 8)
  | shutterCapture
  | shutterNoEdgeTimeout
  | contactRecordWrite
  | shutterReadoutDone
  -- I/O banks (09)
  | vccoFaultEnter (die : Fin 4) (bank : Fin 8) (mv : BitVec 12)
  | vccoFaultExit (die : Fin 4) (bank : Fin 8) (mv : BitVec 12)
  | ioCalibration (die : Fin 4) (ok : Bool)
  | ioPinWrite (die : Fin 4) (pin : Fin 384) (size8 : Bool) (high : Bool) (value : BitVec 64)
  | delayFabricStep (die : Fin 4) (pin : Fin 384) (output : Bool) (inc : Bool)
  | termEnChange (die : Fin 4) (pin : Fin 384) (on : Bool)
  | vccoLevelChange (die : Fin 4) (bank : Fin 8) (mv : BitVec 12)
  | delayLineTapMove (die : Fin 4) (pin : Fin 384)
  -- Test pattern processors (10)
  | tppLoad (h : Hdr) (tpp : Nat) (addr : Nat) (first : Nat) (count : Nat)
  | tppRun (h : Hdr) (tpp : Nat) (addr : Nat)
  | tppAbort (h : Hdr) (mask : Nat)
  | tppStatus (h : Hdr) (tpp : Nat)
  | tppCalibrate (h : Hdr) (mask : Nat)
  | tppSite (h : Hdr) (tpp : Nat) (enables : Nat)
  | tppCalDone (tpp : Fin 24) (cals : List (BitVec 12 × BitVec 12 × Bool)) (temp : BitVec 8)
  | tppStreamReady (tpp : Fin 24)
  | tppStartInstant (tpp : Fin 24)
  | startFEdge (tpp : Fin 24)
  | abortFEdge (tpp : Fin 24)
  | trigFEdge (tpp : Fin 24) (trig : Fin 16)
  | siteOffChange (tpp : Fin 24) (off : BitVec 8)
  | seqNext (tpp : Fin 24) (dbe : Bool)
  | seqRepeat (tpp : Fin 24) (dbe : Bool)
  | seqLoop (tpp : Fin 24) (dbe : Bool)
  | seqJump (tpp : Fin 24) (dbe : Bool)
  | seqCall (tpp : Fin 24) (dbe : Bool)
  | seqRet (tpp : Fin 24) (dbe : Bool)
  | seqJof (tpp : Fin 24) (dbe : Bool)
  | seqMatch (tpp : Fin 24) (dbe : Bool) (hits : List (Fin 8 × Nat)) (fails : BitVec 48)
  | seqApgStep (tpp : Fin 24) (dbe : Bool)
  | seqStream (tpp : Fin 24) (dbe : Bool)
  | seqStreamVector (tpp : Fin 24)
  | seqWaitTrig (tpp : Fin 24) (dbe : Bool)
  | seqStop (tpp : Fin 24) (dbe : Bool)
  | streamRefillRead (tpp : Fin 24)
  | streamReadResponse (tpp : Fin 24) (line : Nat) (ok : Bool) (data : BitVec 512)
  | tppDrainEnd (tpp : Fin 24)
  | tppDrainTimeout (tpp : Fin 24)
  -- Algorithmic pattern generation and fail capture (11)
  | compareResult (tpp : Fin 24) (vecnum : BitVec 48) (volts : List (Fin 48 × Int))
  | failRecordSend (tpp : Fin 24)
  | bitmapLineEvict (tpp : Fin 24) (line : Nat)
  | bitmapAorResponse (tpp : Fin 24) (line : Nat) (ok : Bool)
  | cntClear (tpp : Fin 24)
  -- Serial lanes (12)
  | laneUp (h : Hdr) (die : Nat) (mask : Nat) (group : Nat) (spares : Nat)
  | laneDown (h : Hdr) (die : Nat) (mask : Nat)
  | laneQuiesce (h : Hdr) (die : Nat) (mask : Nat)
  | laneResume (h : Hdr) (die : Nat) (mask : Nat)
  | laneLoopback (h : Hdr) (lane : Nat) (kind : Nat) (squelch : Nat)
  | lanePrbs (h : Hdr) (lane : Nat) (poly : Nat) (gen : Nat) (chk : Nat) (inv : Nat)
  | laneEyescan (h : Hdr) (lane : Nat) (hStart : Nat) (hLen : Nat) (hStep : Nat) (vStart : Nat) (vLen : Nat) (vStep : Nat) (dwell : Nat) (addr : Nat)
  | laneStatus (h : Hdr) (lane : Nat)
  | laneUpTimeout (die : Fin 4) (mask : BitVec 32)
  | laneTxBlock (lane : Fin 128) (ctrl : Bool) (payload : BitVec 64)
  | laneRxBlock (lane : Fin 128) (hdr : BitVec 2) (payload : BitVec 64) (drained : Nat)
  | rxSlip (lane : Fin 128)
  | blockLockGained (lane : Fin 128)
  | blockLockLost (lane : Fin 128)
  | lnbCaps (lane : Fin 128) (map : BitVec 8) (nonce : BitVec 8) (groupCap : Bool)
  | lnbStepReq (lane : Fin 128) (code : Fin 8)
  | lnbStepAck (lane : Fin 128) (code : Fin 8)
  | laneRateSwitch (lane : Fin 128)
  | lnbCoeff (lane : Fin 128) (preset : BitVec 4) (pre : BitVec 2) (post : BitVec 2)
  | lnbCoeffAck (lane : Fin 128)
  | lnbSteerReq (lane : Fin 128) (logical : Fin 32) (abrupt : Bool)
  | lnbSteerAck (lane : Fin 128) (logical : Fin 32)
  | lnbSteerDone (lane : Fin 128) (logical : Fin 32)
  | groupMarker (lane : Fin 128) (logical : Fin 32) (dup : Bool) (clean : Bool)
  | laneEqEnd (lane : Fin 128) (ctle : BitVec 4) (tap1 : BitVec 8) (margin : BitVec 8)
  | laneCheckEnd (lane : Fin 128) (pass : Bool)
  | laneLockTimeout (lane : Fin 128)
  | laneBaseRetry (lane : Fin 128)
  | laneRetrain (lane : Fin 128)
  | laneDegrading (lane : Fin 128) (errs : BitVec 16) (margin : BitVec 8)
  | eyescanDone (lane : Fin 128) (counts : List Nat)
  | laneSnap (lane : Fin 128)
  | bmkSend (die : Fin 4) (group : BitVec 8)
  | lnbRepeat (lane : Fin 128)
  -- DRAM controllers (13); rate 255 is an omitted rate
  | dramTrain (h : Hdr) (ch : Nat) (rate : Nat)
  | dramStatus (h : Hdr) (ch : Nat)
  | dramQuiesce (h : Hdr) (ch : Nat)
  | dramResume (h : Hdr) (ch : Nat)
  | dramOffline (h : Hdr) (ch : Nat)
  | dramOnline (h : Hdr) (ch : Nat)
  | dramSelftest (h : Hdr) (ch : Nat) (off : Nat) (len : Nat) (kind : Nat)
  | dramBracket (h : Hdr) (ch : Nat) (ctrl : BitVec 64)
  | dramRecover (h : Hdr) (ch : Nat)
  | dramTrainDone (ch : Fin 8) (dimm : Option Dimm) (pairDdr4 : Option Bool) (pass : Option (Fin 4)) (selfRef : Bool)
  | bracketGo (ch : Fin 8)
  | bracketDone (ch : Fin 8) (results : List (BitVec 27))
  | dramLineRead (ch : Fin 8) (id : Nat) (line : Nat) (src : BitVec 12) (stream : Bool)
  | dramLineWrite (ch : Fin 8) (id : Option Nat) (line : Nat) (src : BitVec 12) (data : BitVec 512)
  | dramLockedPair (ch : Fin 8) (id : Nat) (line : Nat) (src : BitVec 12) (merge : Merge)
  | dramBurstComplete (ch : Fin 8) (i : Nat) (errs : List (Fin 4 × Fin 20))
  | dramWriteStarve (ch : Fin 8)
  | dramRefreshDue (ch : Fin 8) (sub : Fin 2) (rank : Fin 4)
  | dramRefreshRateRead (ch : Fin 8) (hot : BitVec 4)
  | actTableClear (ch : Fin 8) (sub : Fin 2) (rank : Fin 4) (bg : Fin 8) (bank : Fin 4)
  | dramAlert (ch : Fin 8) (sub : Fin 2)
  | dramAlertRelease (ch : Fin 8) (sub : Fin 2)
  | dramReplayWindowEnd (ch : Fin 8) (sub : Fin 2)
  | dramPatrolRead (ch : Fin 8) (errs : List (Fin 4 × Fin 20)) (overtaken : Bool)
  | dramInitBlock (ch : Fin 8)
  | dramZqCal (ch : Fin 8) (rank : Fin 4)
  | dramDriftTrack (ch : Fin 8) (rank : Fin 4) (moves : List (Fin 80 × Bool))
  | dramDrainDone (ch : Fin 8)
  | dramSchedulerSlot (ch : Fin 8) (sub : Fin 2)
  | vddqDcRemoved (pair : Fin 4)
  -- Line scramblers (14); target slot 16 is CLEAR
  | lsuKeyLoad (h : Hdr) (slot : Nat) (ref : Nat)
  | lsuKeyClear (h : Hdr) (slot : Nat)
  | lsuRegionSet (h : Hdr) (region : Nat) (base : Nat) (limit : Nat) (valid : Nat)
  | lsuRekey (h : Hdr) (region : Nat) (slot : Nat) (tagEn : Nat)
  | lsuStatus (h : Hdr) (region : Nat)
  | lsuReadCheck (ch : Fin 8) (i : Nat)
  | sweepLineConvert (ch : Fin 8)
  | sweepReadReturn (ch : Fin 8)
  | sweepComplete (region : Fin 64)
  -- Network on chip (15); port IDs of R448; kind: 0 RD, 1 WR_NP, 2 WR_P, 3 AOR, 4 MSG; len in bytes less 1
  | nocRequestIssue (src : BitVec 12) (via : Fin 5) (kind : Fin 5) (addr : BitVec 48) (len : Fin 4096) (label : BitVec 12) (stream : Bool) (data : List (BitVec 8))
  | routerFlit (router : Fin 100) (header : BitVec 128) (payload : BitVec 512) (headerError : Fin 3)
  | nocCreditReturn (router : Fin 100) (port : Fin 16) (vc : Fin 4)
  | nocResponseArrive (dst : BitVec 12) (tag : BitVec 12) (status : Fin 7) (flits : List (BitVec 6 × Bool × BitVec 512)) (fifoFull : Bool)
  | apTargetRequest (d : Fin 4) (k : Fin 96) (src : BitVec 12) (tag : BitVec 12) (kind : Fin 3) (off : BitVec 31) (len : Fin 4096) (data : List (BitVec 8))
  | apTargetResponse (d : Fin 4) (k : Fin 96) (id : BitVec 24) (targetError : Bool) (data : List (BitVec 8))
  | nocFence (src : BitVec 12) (label : BitVec 12)
  | fenceMark (src : BitVec 12) (dst : BitVec 12)
  | fenceAck (src : BitVec 12) (dst : BitVec 12)
  | targetTimeout (port : BitVec 12)
  | rerouteStart (gone : BitVec 4) (spared : List (Fin 34)) (halved : List (Fin 34)) (sites : List (Fin 3))
  | rerouteTablesConfirmed
  | routerTableRetire (router : Fin 100)
  | rerouteSlow
  | domainDrainEnd (domain : Fin 75)
  | domainOpened (domain : Fin 75)
  | nocGlobalFence (h : Hdr)
  | nocStatus (h : Hdr) (die : Nat) (isPort : Nat) (number : Nat)
  | nocIsolate (h : Hdr) (port : Nat)
  | nocRelease (h : Hdr) (port : Nat)
  | nocDomainOff (h : Hdr) (domain : Nat)
  | nocDomainOn (h : Hdr) (domain : Nat)
  | sitePortMoveConfirm (site : Fin 3)
  -- Die links (16); d is the die of the module end, 4 for HD
  | dlStatus (h : Hdr) (module : Nat)
  | dlRetrain (h : Hdr) (module : Nat)
  | dlDown (h : Hdr) (module : Nat)
  | dlUp (h : Hdr) (module : Nat)
  | dlClearDegrade (h : Hdr) (module : Nat)
  | seamSteer (h : Hdr) (die : Nat) (group : Nat) (wire : Nat)
  | discoverySend (d : Fin 5) (m : Fin 34)
  | discoveryRecord (d : Fin 5) (m : Fin 34) (record : BitVec 384)
  | discoverTimeout (d : Fin 5) (m : Fin 34)
  | parameterExchangeDone (d : Fin 5) (m : Fin 34) (record : BitVec 384) (found : BitVec 68)
  | retrainTimeout (d : Fin 5) (m : Fin 34)
  | fregalFlitReceive (d : Fin 5) (m : Fin 34) (flit : BitVec 2048)
  | fregalNak (d : Fin 5) (m : Fin 34) (seq : BitVec 16)
  | replayTimeout (d : Fin 5) (m : Fin 34)
  | carryReq (d : Fin 5) (m : Fin 34) (k : Fin 4)
  | carryAck (d : Fin 5) (m : Fin 34) (k : Fin 4) (seq : BitVec 16) (offset : BitVec 16)
  | carryResume (d : Fin 5) (m : Fin 34) (count : BitVec 32)
  | dlLaneMargin (d : Fin 5) (m : Fin 34) (lane : Fin 64)
  | dlClockLoss (d : Fin 5) (m : Fin 34)
  | dlTrainTimeout (d : Fin 5) (m : Fin 34)
  | dlRxLockLoss (d : Fin 5) (m : Fin 34)
  -- Queue engine (17); a vector from 4,096 is a Greone vector; owner 6 is Greone firmware
  | qeGroupAssign (h : Hdr) (group : Nat) (owner : Nat)
  | qeQueueCreate (h : Hdr) (queue : Nat) (base : Nat) (log2 : Nat) (dir : Nat) (esize : Nat) (vector : Nat) (cls : Nat) (irqEn : Nat) (pin : Nat) (pushSrc : Nat) (wbAddr : Nat) (delivAddr : Nat) (window : Nat)
  | qeQueueDestroy (h : Hdr) (queue : Nat)
  | qeQueueReset (h : Hdr) (queue : Nat)
  | qeQueueStatus (h : Hdr) (queue : Nat)
  | qeVectorSet (h : Hdr) (vector : Nat) (cls : Nat) (thresh : Nat) (timer : Nat) (target : Nat) (mask : Nat)
  | qeStatus (h : Hdr)
  | qeCompletionDoorbell (src : BitVec 12) (q : Fin 1048576) (value : BitVec 64)
  | qeSubmissionDoorbell (src : BitVec 12) (q : Fin 1048576) (value : BitVec 64)
  | qePush (src : BitVec 12) (q : Fin 1048576) (wide : Bool) (data : BitVec 512)
  | qeCreditReturn (src : BitVec 12) (q : Fin 1048576) (n : BitVec 64)
  | qeRingWriteResponse (i : Nat) (ok : Bool)
  | qeContextFill (q : Fin 1048576)
  | qeContextWriteback (q : Fin 1048576) (evict : Bool)
  | qeContextRetry (q : Fin 1048576)
  | qeSubmissionFetch (q : Fin 1048576)
  | qeFetchResponse (i : Nat) (ok : Bool)
  | qeHeadWriteback (q : Fin 1048576)
  | qeVectorTimer (vec : Fin 4352)
  | qeVectorFire (vec : Fin 4352)
  | qeSleepReq
  | qeSleepEntered
  | qeAwake
  -- Event interrupt controller (18)
  | eicSourceEdge (n : Fin 2048)
  | eicSourceLevel (sector : Fin 320) (line : Fin 256) (high : Bool)
  | eicNotify (t : Fin 8)
  | eicClaim (t : Fin 8)
  | eicComplete (t : Fin 8) (src : Fin 2048)
  | eicSourceSet (h : Hdr) (src : Nat) (prio : Nat) (enable : Nat) (mode : Nat)
  | eicTargetSet (h : Hdr) (target : Nat) (thresh : Nat) (msgAddr : Nat)
  | eicStatus (h : Hdr)
  -- Greone controller, mailboxes and device management (19)
  | lockstepMismatch
  | watchdogExpiry
  | greoneRestartBegin
  | greoneReady
  | safelightFrame (frame : BitVec 160)
  | safelightSegmentFail (segment : Fin 5) (reverse : Bool)
  | mbxDoorbell (p : Port) (tail : BitVec 7)
  | mbxRspRelease (p : Port) (head : BitVec 7)
  | mbxCommandTake (p : Port)
  | mbxResponseWrite (p : Port)
  | devInfo (h : Hdr)
  | devStatus (h : Hdr)
  | mbxBarrier (h : Hdr)
  | regRead (h : Hdr) (addr : Nat) (size : Nat)
  | regWrite (h : Hdr) (addr : Nat) (size : Nat) (value : Nat)
  | greoneRestart (h : Hdr)
  | expertDrop (h : Hdr) (level : Nat)
  | eventRead (h : Hdr) (seq : Nat)
  | eventQueue (h : Hdr) (queue : Nat) (floor : Nat)
  | settingsRead (h : Hdr) (id : Nat)
  | settingsWrite (h : Hdr) (id : Nat) (value : Nat)
  | settingsCommit (h : Hdr) (reqAddr : Nat) (reqLen : Nat)
  | testRun (h : Hdr) (test : Nat) (target : Nat) (args : Nat)
  | testSchedule (h : Hdr) (test : Nat) (quiet : Nat) (target : Nat) (time : Nat) (args : Nat)
  | testCancel (h : Hdr) (slot : Nat)
  | testStatus (h : Hdr) (slot : Nat)
  | testQuietPoint (slot : Fin 16)
  | selfTestComplete (test : Fin 256) (target : Fin 65536) (pass : Bool) (offsets : List Nat)
  | v1Info (h : Hdr)
  | v1Status (h : Hdr)
  | v1Barrier (h : Hdr)
  | cfgLoad (h : Hdr) (arg0 : Nat) (arg1 : Nat) (arg2 : Nat)
  | cfgStatus (h : Hdr) (arg0 : Nat)
  | memTrain (h : Hdr) (arg0 : Nat)
  | memStatus (h : Hdr) (arg0 : Nat)
  | linkUp (h : Hdr) (arg0 : Nat) (arg1 : Nat)
  | linkDown (h : Hdr) (arg0 : Nat) (arg1 : Nat)
  | regRd (h : Hdr) (arg2 : Nat)
  | regWr (h : Hdr) (arg1 : Nat) (arg2 : Nat)
  | counterClearWrite (addr : BitVec 32) (size8 : Bool) (value : BitVec 64)
  | registerWrite (addr : BitVec 32) (size8 : Bool) (value : BitVec 64)
  | eventFrame
  | eventLogWrite
  -- Security (20)
  | secStatus (h : Hdr)
  | secNonce (h : Hdr)
  | secIdCert (h : Hdr) (which : Nat) (addr : Nat) (len : Nat)
  | secQuote (h : Hdr) (addr : Nat) (len : Nat) (nonce : BitVec 256)
  | quoteSigned
  | secOwnerKeyPut (h : Hdr) (slot : Nat) (addr : Nat)
  | secOwnerProgram (h : Hdr) (addr : Nat) (len : Nat)
  | secOwnerRevoke (h : Hdr) (addr : Nat) (len : Nat)
  | secFuseLock (h : Hdr) (addr : Nat) (len : Nat)
  | secSvnAdvance (h : Hdr) (addr : Nat) (len : Nat)
  | secSealKeySet (h : Hdr) (addr : Nat) (len : Nat)
  | secPolicySet (h : Hdr) (addr : Nat) (len : Nat)
  | fuseProgramDone (ok : Bool) (got : BitVec 256)
  | nonceExpiry (p : Port)
  | jtagTapInstruction (instr : TapInstr)
  -- Boot, firmware update, the Service Port and run locks (21); a Service Port frame is given by its bytes
  | bootImageChoice
  | svcWrite (frame : List (BitVec 8))
  | svcRead (frame : List (BitVec 8))
  | svcImage (frame : List (BitVec 8))
  | svcPing (frame : List (BitVec 8))
  | fwStatus (h : Hdr)
  | fwBegin (h : Hdr) (len : Nat)
  | fwEraseDone (ok : Bool)
  | fwEnd (h : Hdr) (digest : BitVec 256)
  | fwVerify (h : Hdr)
  | fwActivate (h : Hdr) (whenPermitted : Nat)
  | fwAbort (h : Hdr)
  | fwAcceptDefaults (h : Hdr) (addr : Nat) (len : Nat)
  | fwRevert (h : Hdr)
  | runLock (h : Hdr) (lease : Nat)
  | runUnlock (h : Hdr) (force : Nat)
  | runLockExpiry (p : Port)
  | fwArmedActivation
  | fwTrialCheck (pass : Bool)
  | crashClear
  | flashProgramDone (ok : Bool)
  | fwReadbackDone (ok : Bool)
  -- Power and thermal (22); die 4 is HD; a temperature in 0.25 degree units
  | powerWarn
  | powerWarnClear
  | holdupLost
  | holdupGood
  | thermalSample (temps : List (BitVec 12))
  | railSample (mv : List Nat)
  | pwrStatus (h : Hdr)
  | thermSet (h : Hdr) (die : Nat) (thresh : Nat)
deriving DecidableEq, Repr

end Sys2Proof
end

