-- ==== Sys2Proof/Decode.lean ====
section
/-! DEFINITION. The words of the opcode table.  The table gives no row a bit: the block takes commands and events, not
instruction words, so no word spells one.  The entries of a mailbox ring are decoded in Sys2Proof/Machine/Mailbox.lean. -/

namespace Sys2Proof

/-- The command that a word of the opcode table spells: none, since no row has bits there. -/
def decodeTableWord (_nbits _w : Nat) : Option Instr := none

end Sys2Proof
end

