-- ==== Sys2Proof/Machine/Codes.lean ====
section
/-! DEFINITION. Event codes (R583 and the chapters it names) and the general statuses (R565). -/

namespace Sys2Proof.Machine

namespace Ev

def eventLost : Nat := 0x0001
def greoneRestarted : Nat := 0x0002
def refFallback : Nat := 0x0003
def holdover : Nat := 0x0004
def clockFault : Nat := 0x0005
def fpllUnlock : Nat := 0x0006
def ringLockLost : Nat := 0x0007
def ringJoinTimeout : Nat := 0x0008
def siteClassBad : Nat := 0x0009
def vccoFault : Nat := 0x000A
def ioCalFail : Nat := 0x000B
def settingsError : Nat := 0x000C
def safelightSegment : Nat := 0x000D
def sectorMbe : Nat := 0x0100
def sectorHardFault : Nat := 0x0101
def sectorRelocated : Nat := 0x0102
def noSpare : Nat := 0x0103
def linkRerouted : Nat := 0x0104
def loadAborted : Nat := 0x0105
def framDbe : Nat := 0x0106
def framLogFull : Nat := 0x0107
def scrubStarved : Nat := 0x0108
def maceError : Nat := 0x0109
def maceLogFull : Nat := 0x010A
def shutterAborted : Nat := 0x0200
def tppCalStale : Nat := 0x0300
def failRecordsLost : Nat := 0x0301
def failBitmapIncomplete : Nat := 0x0302
def failCntSat : Nat := 0x0303
def laneRateLimited : Nat := 0x0400
def laneNoPartner : Nat := 0x0401
def laneRetrain : Nat := 0x0402
def laneSteered : Nat := 0x0403
def laneAbrupt : Nat := 0x0404
def laneGroupDegraded : Nat := 0x0405
def dramHot : Nat := 0x0500
def dramUe : Nat := 0x0501
def dramDeviceSuspect : Nat := 0x0502
def dramLogFull : Nat := 0x0503
def dramRateLimited : Nat := 0x0504
def dramContentsLost : Nat := 0x0505
def dramOpAborted : Nat := 0x0506
def lsuTagFail : Nat := 0x0600
def lsuLogFull : Nat := 0x0601
def nocTargetDead : Nat := 0x0700
def nocRerouteDone : Nat := 0x0701
def nocRerouteSlow : Nat := 0x0702
def apRspDropped : Nat := 0x0703
def nocHeaderError : Nat := 0x0704
def dlClockSwitch : Nat := 0x0800
def dlNoCommon : Nat := 0x0801
def dlWidthDisagree : Nat := 0x0802
def dlModuleHalved : Nat := 0x0803
def dlLaneSteered : Nat := 0x0804
def dlCarryEnd : Nat := 0x0805
def dlModuleDown : Nat := 0x0806
def dlEdgeLost : Nat := 0x0807
def seamWireSteered : Nat := 0x0808
def seamAbrupt : Nat := 0x0809
def seamGroupLost : Nat := 0x080A
def seamDirConflict : Nat := 0x080B
def qeRingFull : Nat := 0x0900
def qeQueueError : Nat := 0x0901
def qeDoorbellBad : Nat := 0x0902
def testDone : Nat := 0x0E00
def rollbackLow : Nat := 0x0B00
def fuseProgrammed : Nat := 0x0B01
def ownerSlotChanged : Nat := 0x0B02
def ownerKeyMissing : Nat := 0x0B03
def policyInvalid : Nat := 0x0B04
def authRejected : Nat := 0x0B05
def fwActivated : Nat := 0x0C00
def fwConfirmed : Nat := 0x0C01
def fwTrialFailed : Nat := 0x0C02
def fwFallback : Nat := 0x0C03
def fwProvisional : Nat := 0x0C04
def fwStagingInvalid : Nat := 0x0C05
def runLockExpired : Nat := 0x0C06
def powerWarn : Nat := 0x0D00
def powerWarnClear : Nat := 0x0D01
def holdupLost : Nat := 0x0D02
def holdupGood : Nat := 0x0D03
def railOutOfRange : Nat := 0x0D04
def thermWarn : Nat := 0x0D05
def thermCrit : Nat := 0x0D06

end Ev

namespace St

def ok : Nat := 0x0000
def busy : Nat := 0x0001
def refusedState : Nat := 0x0002
def badArg : Nat := 0x0003
def authFail : Nat := 0x0004
def notInV1 : Nat := 0x0005
def quiesceNeeded : Nat := 0x0006
def timeout : Nat := 0x0007
def interrupted : Nat := 0x0008
def badOpcode : Nat := 0x0009
def expertDisabled : Nat := 0x000A
def nonceStale : Nat := 0x0B00
def slotState : Nat := 0x0B01
def lastOwner : Nat := 0x0B02
def fuseFail : Nat := 0x0B03
def rollbackExhausted : Nat := 0x0B04
def keyMismatch : Nat := 0x0B05
def runLocked : Nat := 0x0C00
def powerNotGood : Nat := 0x0C01
def updateLocked : Nat := 0x0C02
def fwSvnLow : Nat := 0x0C03
def imageBad : Nat := 0x0C04
def digestMismatch : Nat := 0x0C05
def flashFail : Nat := 0x0C06
def notProvisional : Nat := 0x0C07
def noFallback : Nat := 0x0C08
def thermRange : Nat := 0x0D00

end St

end Sys2Proof.Machine
end

