-- ==== Sys2Proof/Config.lean ====
section
/-! DEFINITION. What the manual leaves open: free values and uninterpreted functions.  None has a body, so no proof can see a value: a statement about one holds for every value. -/

namespace Sys2Proof.Config

/-- The free values the model draws, one for each count: a value the manual leaves open (data of a memory outside the
part, a random number, an undefined result). -/
opaque free : Nat → Nat

/-- Free values by two numbers: what a memory's words hold where the manual does not say. -/
opaque freeAt : Nat → Nat → Nat

/-- The SECDED check bits HECC over the other 120 bits of a flit header (R450); the manual does not give the code. -/
opaque hecc : BitVec 120 → BitVec 8

/-- Payload bits [63:8] of the lane layer's IDLE block, which the manual does not give (R355). -/
opaque idleFill : BitVec 56

/-- What manufacture writes into a part: the hardware secret, the primes of its identity key, its identity and manufacturing
certificates (R590, R606, R607). -/
opaque hwSecret : BitVec 256
opaque primeP : BitVec 1536
opaque primeQ : BitVec 1536
opaque idCert : List (BitVec 8)
opaque mfgCert : List (BitVec 8)

/-- SHA-256 of the boot ROM (R612), and the hashes of the four firmware signing keys it holds (R589). -/
opaque romHash : BitVec 256
opaque romKey : Nat → BitVec 256

/-- The number that chooses, for a die and a destination router, the module whose ports a table names among the eligible modules of the
edge (R464), and the hash of SRC and DST by which a router selects among eligible ports (R463); the manual gives neither. -/
opaque routeExit : Nat → Nat → Nat
opaque routerHash : Nat → Nat → Nat

/-- The field of a sector, by its key, and the bit of it, that a configuration bit of a frame holds, by sector type (0 Type A, 1 Type B),
frame and bit; none for a bit of no field. The manual does not give the places of the fields (R198). -/
opaque frameBit : Nat → Nat → Nat → Option (Nat × Nat)

/-- Which of the wires that can reach a multiplexer is its source: the multiplexer's kind and index in its cluster, the source's number,
and the number of wires to choose from; the manual gives the counts only (R101, R102, R113). -/
opaque muxWire : Nat → Nat → Nat → Nat → Nat

/-- The level of a signal that enters the fabric from outside it (a pin, a lane, an access point, a TPP port) at a DEV_TIME. -/
opaque portIn : Nat → Nat → Bool

/-- CHAIN of the first nibble cell of a column of clusters, which nothing drives (R91). -/
opaque chainTop : Bool

/-- What a combinational loop of the fabric settles to, by the number of its evaluation. -/
opaque loopValue : Nat → Bool

/-- The value that a Seam slot carries between the first parity failure and the end of an abrupt steering (R128): by DEV_TIME and slot. -/
opaque seamWrong : Nat → Nat → Bool

end Sys2Proof.Config
end

