-- ==== Sys2Proof/Machine/Sparse.lean ====
section
/-! DEFINITION. Sparse tables: one read and one write over key and value lists in canonical form.
`d` is what an unlisted key reads as; writing that value removes the entry, so equal tables are equal lists. -/

namespace Sys2Proof.Machine

/-- What key `k` reads as: its entry, or the default `d k`. -/
def spGet {α : Type} (d : Nat → α) : Sp α → Nat → α
  | [], k => d k
  | (a, v) :: m, k => if a = k then v else spGet d m k

/-- Remove the entry of key `k`. -/
def spDrop {α : Type} : Sp α → Nat → Sp α
  | [], _ => []
  | (a, v) :: m, k => if a = k then spDrop m k else (a, v) :: spDrop m k

/-- Insert an entry before the first greater key. -/
def spInsert {α : Type} : Sp α → Nat → α → Sp α
  | [], k, v => [(k, v)]
  | (a, w) :: m, k, v => if k < a then (k, v) :: (a, w) :: m else (a, w) :: spInsert m k v

/-- Write `v` at key `k`, keeping the canonical form. -/
def spSet {α : Type} [DecidableEq α] (d : Nat → α) (m : Sp α) (k : Nat) (v : α) : Sp α :=
  if v = d k then spDrop m k else spInsert (spDrop m k) k v

/-- Remove every entry whose key satisfies `p`: those keys read as the default again. -/
def spClear {α : Type} (p : Nat → Bool) : Sp α → Sp α
  | [] => []
  | (a, v) :: m => if p a then spClear p m else (a, v) :: spClear p m

/-- Every key of `m` lies above `lo`, keys rise strictly, and no entry is the default. -/
def spWfFrom {α : Type} [DecidableEq α] (d : Nat → α) : Option Nat → Sp α → Bool
  | _, [] => true
  | lo, (a, v) :: m =>
    (match lo with
      | none => true
      | some b => decide (b < a)) && decide (v ≠ d a) && spWfFrom d (some a) m

/-- The canonical form of a sparse table. -/
def spWf {α : Type} [DecidableEq α] (d : Nat → α) (m : Sp α) : Bool := spWfFrom d none m

/-- The keys listed in a table. -/
def spKeys {α : Type} (m : Sp α) : List Nat := m.map Prod.fst

end Sys2Proof.Machine
end

