-- ==== Sys2Proof/Machine/RegMap.lean ====
section
/-! DEFINITION. The register map of the control space (R36): every register of the manual with its reset value and
its access types, by block window.  A register's address here is its offset in the 4 GiB control space:
window number times 0x100_0000 plus the offset in the window. -/

namespace Sys2Proof.Machine

/-- A counter's place in its register: COUNT at [lo + w - 1:lo], OVF at bit ovf (R578, R579). -/
structure CntL where
  lo  : Nat
  w   : Nat
  ovf : Nat
deriving DecidableEq, Repr

/-- One row of the register map: an array of n2 by n registers, its reset value by the two indices (outer, inner),
the bits a write sets (RW), the bits a write of 1 clears (W1C) and the counters it holds. -/
structure RegRow where
  off   : Nat
  n     : Nat
  step  : Nat
  n2    : Nat
  step2 : Nat
  reset : Nat → Nat → Nat
  rw    : Nat
  w1c   : Nat
  cnts  : List CntL

/-- The mask of a field of w bits from bit lo. -/
def fm (lo w : Nat) : Nat := (2 ^ w - 1) * 2 ^ lo

/-- One register. -/
def rOne (off reset rw w1c : Nat) : RegRow := ⟨off, 1, 8, 1, 0x1000000, fun _ _ => reset, rw, w1c, []⟩

/-- An array of n registers. -/
def rArr (off n step reset rw w1c : Nat) : RegRow := ⟨off, n, step, 1, 0x1000000, fun _ _ => reset, rw, w1c, []⟩

/-- An array of n2 by n registers. -/
def rArr2 (off n2 step2 n step reset rw w1c : Nat) : RegRow := ⟨off, n, step, n2, step2, fun _ _ => reset, rw, w1c, []⟩

/-- A 31-bit counter with OVF in bit 31 (R578). -/
def rCnt (off : Nat) : RegRow := ⟨off, 1, 8, 1, 0x1000000, fun _ _ => 0, 0, 0, [⟨0, 31, 31⟩]⟩

/-- An array of n such counters. -/
def rCntArr (off n step : Nat) : RegRow := ⟨off, n, step, 1, 0x1000000, fun _ _ => 0, 0, 0, [⟨0, 31, 31⟩]⟩

/-- The indices (outer, inner) of the register of row r at offset o, if o is one of its registers. -/
def RegRow.idx? (r : RegRow) (o : Nat) : Option (Nat × Nat) :=
  if o < r.off then none
  else
    let i := (o - r.off) / r.step2
    let k := (o - r.off) % r.step2
    if i < r.n2 && k / r.step < r.n && k % r.step == 0 then some (i, k / r.step) else none

/-- The first row of a table that holds a register at offset o. -/
def findRow : List RegRow → Nat → Option (RegRow × Nat × Nat)
  | [], _ => none
  | r :: rs, o =>
    match r.idx? o with
    | some (i, j) => some (r, i, j)
    | none => findRow rs o

/-- A field of a register: the register's offset from its block's base, the lowest bit and the width. -/
structure Fld where
  off : Nat
  lo  : Nat
  w   : Nat
deriving DecidableEq, Repr

/-- The base of block window n. -/
def win (n : Nat) : Nat := n * 0x1000000

/-- The base of the window at die offset o of fabric die d (R36). -/
def dieWin (d o : Nat) : Nat := win (0x20 + 0x20 * d + o)

namespace Rg

/-! Window 0x05: stage and reset registers (02). -/
def rst : Nat := win 0x05
def stage : Fld := ⟨0x0000, 0, 3⟩
def stageDone : Fld := ⟨0x0000, 3, 1⟩
def ringJoined : Fld := ⟨0x0000, 4, 1⟩
def h0Present : Fld := ⟨0x0000, 5, 1⟩
def provisional : Fld := ⟨0x0000, 6, 1⟩
def dieInReset (d : Nat) : Fld := ⟨0x0000, 8 + d, 1⟩
def dieReady (d : Nat) : Fld := ⟨0x0000, 12 + d, 1⟩
def causePor : Fld := ⟨0x0008, 0, 1⟩
def causeLockstep : Fld := ⟨0x0008, 1, 1⟩
def causeWatchdog : Fld := ⟨0x0008, 2, 1⟩
def causeUpdate : Fld := ⟨0x0008, 3, 1⟩
def causeCommanded : Fld := ⟨0x0008, 4, 1⟩
def causeDieReset (d : Nat) : Fld := ⟨0x0008, 8 + d, 1⟩

/-! Window 0x07: Ring Port registers (02). -/
def ring : Nat := win 0x07
def ringState : Fld := ⟨0x0000, 0, 3⟩
def ringLocked : Fld := ⟨0x0000, 3, 1⟩
def ringBypassOpen : Fld := ⟨0x0000, 4, 1⟩
def ringPosition : Fld := ⟨0x0000, 8, 8⟩
def ringComp : Fld := ⟨0x0008, 0, 24⟩
def ringCrcErrCount : Nat := win 0x07 + 0x0010
def ringLateCount : Nat := win 0x07 + 0x0018

end Rg

/-- RST_STAGE and RST_CAUSE, window 0x05. -/
def rstRows : List RegRow := [rOne 0x0000 0 0 0, rOne 0x0008 1 0 (fm 0 5 + fm 8 4)]

/-- RING_STATUS, RING_COMP and the two Ring Port counters, window 0x07. -/
def ringRows : List RegRow := [rOne 0x0000 0 0 0, rOne 0x0008 0 (fm 0 24) 0, rCnt 0x0010, rCnt 0x0018]

namespace Rg

/-! Window 0x04: root clock registers; die offset 0x03: FPLL_STATUS_n (03). -/
def clk : Nat := win 0x04
def clkPrimary : Fld := ⟨0x0000, 0, 1⟩
def clkFallbackEn : Fld := ⟨0x0000, 1, 1⟩
def clkLocked : Fld := ⟨0x0008, 0, 1⟩
def clkOnRing : Fld := ⟨0x0008, 1, 1⟩
def clkSlewing : Fld := ⟨0x0008, 2, 1⟩
def clkHoldover : Fld := ⟨0x0008, 3, 1⟩
def clkRefFallback : Fld := ⟨0x0008, 4, 1⟩
def clkClockFault : Fld := ⟨0x0008, 5, 1⟩
def clkRefclkOk : Fld := ⟨0x0008, 6, 1⟩
def clkRingOk : Fld := ⟨0x0008, 7, 1⟩
def clkTimeWrap : Fld := ⟨0x0008, 8, 1⟩
def devTime : Nat := win 0x04 + 0x0010
def fpll (d n : Nat) : Nat := dieWin d 0x03 + 0x0100 + 8 * n
def fpllLocked : Fld := ⟨0, 0, 1⟩
def fpllUnlockSeen : Fld := ⟨0, 1, 1⟩
def fpllInUse : Fld := ⟨0, 2, 1⟩

end Rg

/-- The layout of UNLOCK_COUNT. -/
def fpllCnt : CntL := ⟨16, 15, 31⟩

/-- Root clock, window 0x04; DEV_TIME is a view of the block's time. -/
def clkRows : List RegRow := [rOne 0x0000 2 (fm 0 2) 0, rOne 0x0008 0 0 (fm 4 1 + fm 8 1), rOne 0x0010 0 0 0]

/-- FPLL_STATUS_n of a fabric die, die offset 0x03. -/
def fpllRows : List RegRow := [{ rArr 0x0100 16 8 0 0 (fm 1 1) with cnts := [fpllCnt] }]

namespace Rg

/-! Die offset 0x02: Seam ends (04). -/
def seam (d : Nat) : Nat := dieWin d 0x02
def seamMarginMin : Fld := ⟨0x0000, 0, 6⟩
def seamAutoSteer : Fld := ⟨0x0000, 6, 1⟩
def seamGrp (d g : Nat) : Nat := dieWin d 0x02 + 0x10000 + 8 * g
def sgSparesUsed : Fld := ⟨0, 0, 2⟩
def sgLost : Fld := ⟨0, 2, 1⟩
def sgInUse : Fld := ⟨0, 3, 1⟩
def sgDir : Fld := ⟨0, 4, 1⟩
def sgDirConflict : Fld := ⟨0, 5, 1⟩
def sgSteering : Fld := ⟨0, 6, 1⟩
def sgSpareFor (k : Nat) : Fld := ⟨0, 8 + 8 * k, 6⟩

end Rg

/-- The layout of PARITY_ERRORS. -/
def seamCnt : CntL := ⟨24, 7, 31⟩

/-- SEAM_CTRL and SEAM_GRP_STATUS_n, die offset 0x02. -/
def seamRows : List RegRow :=
  [rOne 0x0000 0x4C (fm 0 7) 0, { rArr 0x10000 1536 8 0x3F3F00 0 0 with cnts := [seamCnt] }]

namespace Rg

/-! Die offset 0x06: fabric RAM errors (05) and MAC engine errors (06). -/
def fram (d : Nat) : Nat := dieWin d 0x06
def scrubGlobalEn : Fld := ⟨0x0000, 0, 1⟩
def scrubInterval : Fld := ⟨0x0000, 1, 3⟩
def framSbeEventEn : Fld := ⟨0x0000, 4, 1⟩
def framSbeCount (d : Nat) : Nat := dieWin d 0x06 + 0x0008
def framDbeCount (d : Nat) : Nat := dieWin d 0x06 + 0x0010
def framCollCount (d : Nat) : Nat := dieWin d 0x06 + 0x0018
def framErrLog (d : Nat) : Nat := dieWin d 0x06 + 0x0100
def maceSbeEventEn : Fld := ⟨0x8000, 0, 1⟩
def maceSbeCount (d : Nat) : Nat := dieWin d 0x06 + 0x8008
def maceDbeCount (d : Nat) : Nat := dieWin d 0x06 + 0x8010
def maceErrLog (d : Nat) : Nat := dieWin d 0x06 + 0x8100
def maceStatus (d n : Nat) : Nat := dieWin d 0x06 + 0x10000 + 8 * n

end Rg

/-- Fabric RAM and MAC engine registers, die offset 0x06; MACE_STATUS_n is a view of the engine. -/
def framRows : List RegRow :=
  [ rOne 0x0000 0x05 (fm 0 5) 0, rCnt 0x0008, rCnt 0x0010, rCnt 0x0018, rArr 0x0100 16 8 0 0 1,
    rOne 0x8000 0 (fm 0 1) 0, rCnt 0x8008, rCnt 0x8010, rArr 0x8100 16 8 0 0 1, rArr 0x10000 3840 8 0x80 0 0 ]

namespace Rg

/-! Die offset 0x00: the configuration engine (07). -/
def cfg (d : Nat) : Nat := dieWin d 0x00
def cfgScrubSbe (d : Nat) : Nat := dieWin d 0x00 + 0x0008
def cfgScrubMbe (d : Nat) : Nat := dieWin d 0x00 + 0x0010
/-- CFG_SECTOR_n of sector number k, 0 to 319 (80 per die). -/
def sector (k : Nat) : Nat := dieWin (k / 80) 0x00 + 0x1000 + 8 * (k % 80)
def secState : Fld := ⟨0, 0, 3⟩
def secSpare : Fld := ⟨0, 3, 1⟩
def secHardFault : Fld := ⟨0, 4, 1⟩
def secRelocated : Fld := ⟨0, 5, 1⟩
def secRegion : Fld := ⟨0, 8, 8⟩
def secLastMbe : Fld := ⟨0, 16, 13⟩

end Rg

/-- The configuration engine, die offset 0x00. -/
def cfgRows : List RegRow := [rCnt 0x0008, rCnt 0x0010, rArr 0x1000 80 8 0 0 0]

namespace Rg

/-! Die offset 0x05: I/O banks (09); bank b of die d, pin n = 48b + k of die d. -/
def ioBank (d b : Nat) : Nat := dieWin d 0x05 + 8 * b
def vccoClass : Fld := ⟨0, 0, 3⟩
def vccoOk : Fld := ⟨0, 3, 1⟩
def vccoFault : Fld := ⟨0, 4, 1⟩
def ioCalDone : Fld := ⟨0, 5, 1⟩
def ioCalFail : Fld := ⟨0, 6, 1⟩
def vrefCode : Fld := ⟨0, 8, 7⟩
def ioPin (d n : Nat) : Nat := dieWin d 0x05 + 0x1000 + 8 * n
def pinSafe : Fld := ⟨0, 0, 3⟩
def pinOwner : Fld := ⟨0, 3, 2⟩
def pinInSafe : Fld := ⟨0, 5, 1⟩
def pinLevel : Fld := ⟨0, 6, 1⟩
def pinStandard : Fld := ⟨0, 8, 4⟩
def pinDrive : Fld := ⟨0, 12, 3⟩
def pinTerm : Fld := ⟨0, 15, 3⟩
def pinIdelay : Fld := ⟨0, 24, 8⟩
def pinOdelay : Fld := ⟨0, 32, 8⟩
def pinIdelayNow : Fld := ⟨0, 40, 8⟩
def pinOdelayNow : Fld := ⟨0, 48, 8⟩

end Rg

/-- The layout of FAULT_COUNT. -/
def ioFaultCnt : CntL := ⟨16, 15, 31⟩

/-- I/O banks, die offset 0x05: IO_BANK_STATUS_b and IO_PIN_n (HV banks have k from 0 to 23). -/
def ioRows : List RegRow :=
  [ { rArr 0x0000 8 8 0 0 (fm 4 1 + fm 6 1) with cnts := [ioFaultCnt] },
    rArr 0x1000 312 8 0x20 (fm 0 3 + fm 24 16) 0, rArr (0x1000 + 8 * 336) 24 8 0x20 (fm 0 3 + fm 24 16) 0 ]

namespace Rg

/-! A TPP's block window (10, 11). -/
def tpp (n : Nat) : Nat := dieWin (n / 6) (0x08 + n % 6)
def tState : Fld := ⟨0x0000, 0, 3⟩
def tReady : Fld := ⟨0x0000, 3, 1⟩
def tCalDone : Fld := ⟨0x0000, 4, 1⟩
def tCalStale : Fld := ⟨0x0000, 5, 1⟩
def tTsIgnored : Fld := ⟨0x0000, 6, 1⟩
def tEndCode : Fld := ⟨0x0000, 8, 8⟩
def tSiteFail : Fld := ⟨0x0000, 16, 8⟩
def tPc : Fld := ⟨0x0000, 25, 15⟩
def tVecnum : Fld := ⟨0x0008, 0, 48⟩
def pinSite (k : Nat) : Fld := ⟨0x0800 + 8 * k, 0, 4⟩
def pinMux (k : Nat) : Fld := ⟨0x0800 + 8 * k, 4, 2⟩
def pinVtl (k : Nat) : Fld := ⟨0x0800 + 8 * k, 8, 8⟩
def pinVth (k : Nat) : Fld := ⟨0x0800 + 8 * k, 16, 8⟩
def pinTermOff (k : Nat) : Fld := ⟨0x0800 + 8 * k, 24, 3⟩
def pinTermCmp (k : Nat) : Fld := ⟨0x0800 + 8 * k, 27, 3⟩
def pinTermMask (k : Nat) : Fld := ⟨0x0800 + 8 * k, 30, 3⟩
def pinDeskewD (k : Nat) : Fld := ⟨0x0800 + 8 * k, 40, 12⟩
def pinDeskewS (k : Nat) : Fld := ⟨0x0800 + 8 * k, 52, 12⟩
def calDrive (k : Nat) : Fld := ⟨0x0C00 + 8 * k, 0, 12⟩
def calStrobe (k : Nat) : Fld := ⟨0x0C00 + 8 * k, 12, 12⟩
def calPinFail (k : Nat) : Fld := ⟨0x0C00 + 8 * k, 24, 1⟩
def calTemp (k : Nat) : Fld := ⟨0x0C00 + 8 * k, 32, 8⟩
def tsPeriod (t : Nat) : Fld := ⟨0x1000 + 8 * t, 0, 24⟩
def tsValid (t : Nat) : Fld := ⟨0x1000 + 8 * t, 24, 1⟩
def tsD (t k : Nat) : Fld := ⟨0x20000 + 0x180 * t + 8 * k, 0, 21⟩
def tsR (t k : Nat) : Fld := ⟨0x20000 + 0x180 * t + 8 * k, 21, 21⟩
def tsS (t k : Nat) : Fld := ⟨0x20000 + 0x180 * t + 8 * k, 42, 21⟩
def apgOrder : Fld := ⟨0x30000, 0, 1⟩
def apgBg : Fld := ⟨0x30000, 1, 3⟩
def apgDiagK : Fld := ⟨0x30000, 4, 3⟩
def apgDinvInit : Fld := ⟨0x30000, 7, 1⟩
def apgXtEn : Fld := ⟨0x30000, 8, 1⟩
def apgXpMask : Fld := ⟨0x30008, 0, 16⟩
def apgYpMask : Fld := ⟨0x30008, 16, 16⟩
def apgBpMask : Fld := ⟨0x30008, 32, 5⟩
def apgDqInv : Fld := ⟨0x30010, 0, 32⟩
/-- INIT, MIN, MAX and STEP of generator g: 0 X, 1 Y; B has no STEP and narrower fields. -/
def apgInit (g : Nat) : Fld := ⟨0x30020 + 8 * g, 0, if g == 2 then 5 else 16⟩
def apgMin (g : Nat) : Fld := ⟨0x30020 + 8 * g, 16, if g == 2 then 5 else 16⟩
def apgMax (g : Nat) : Fld := ⟨0x30020 + 8 * g, 32, if g == 2 then 5 else 16⟩
def apgStep (g : Nat) : Fld := ⟨0x30020 + 8 * g, 48, 16⟩
def apgX : Fld := ⟨0x30038, 0, 16⟩
def apgY : Fld := ⟨0x30038, 16, 16⟩
def apgB : Fld := ⟨0x30038, 32, 5⟩
def apgDinv : Fld := ⟨0x30038, 37, 1⟩
def apgWrap : Fld := ⟨0x30038, 38, 1⟩
def apgBgNow : Fld := ⟨0x30038, 39, 3⟩
def apgUserBg (i : Nat) : Fld := ⟨0x30040 + 8 * i, 0, 64⟩
def apgXtSel (j : Nat) : Fld := ⟨0x30060, 6 * j, 6⟩
def apgPerm (i : Nat) : Fld := ⟨0x30800 + 8 * i, 0, 6⟩
def apgSel (k : Nat) : Fld := ⟨0x31000 + 8 * k, 0, 7⟩
def fRecEn : Fld := ⟨0x32000, 0, 1⟩
def fBmEn : Fld := ⟨0x32000, 1, 1⟩
def fCntEn : Fld := ⟨0x32000, 2, 1⟩
def fCntAutoClear : Fld := ⟨0x32000, 3, 1⟩
def fCntSiteBits : Fld := ⟨0x32000, 8, 2⟩
def fCntBankBits : Fld := ⟨0x32000, 10, 3⟩
def fRowShift : Fld := ⟨0x32000, 13, 4⟩
def fColShift : Fld := ⟨0x32000, 17, 4⟩
def fBmX : Fld := ⟨0x32000, 24, 5⟩
def fBmY : Fld := ⟨0x32000, 29, 5⟩
def fBmB : Fld := ⟨0x32000, 34, 3⟩
def fBmQ : Fld := ⟨0x32000, 37, 3⟩
def fSiteQueue (x : Nat) : Fld := ⟨0x32100 + 8 * x, 0, 20⟩
def fSiteRecEn (x : Nat) : Fld := ⟨0x32100 + 8 * x, 20, 1⟩
def fSiteLimitDisable (x : Nat) : Fld := ⟨0x32100 + 8 * x, 21, 1⟩
def fSiteLimit (x : Nat) : Fld := ⟨0x32100 + 8 * x, 24, 24⟩
def fBmBase (x : Nat) : Fld := ⟨0x32200 + 8 * x, 0, 48⟩
def fStat (x : Nat) : Nat := 0x32300 + 8 * x
def fLost (x : Nat) : Fld := ⟨0x32300 + 8 * x, 0, 24⟩
def fLimitHit (x : Nat) : Fld := ⟨0x32300 + 8 * x, 25, 1⟩
def fBmIncomplete (x : Nat) : Fld := ⟨0x32300 + 8 * x, 26, 1⟩
def fBmError (x : Nat) : Fld := ⟨0x32300 + 8 * x, 27, 1⟩
def fSeqNext (x : Nat) : Fld := ⟨0x32300 + 8 * x, 32, 31⟩
def apgXOp (i : Nat) : Fld := ⟨0x34000 + 8 * i, 0, 4⟩
def apgYOp (i : Nat) : Fld := ⟨0x34000 + 8 * i, 4, 4⟩
def apgBOp (i : Nat) : Fld := ⟨0x34000 + 8 * i, 8, 4⟩
def apgDOp (i : Nat) : Fld := ⟨0x34000 + 8 * i, 12, 2⟩
def apgBgLoad (i : Nat) : Fld := ⟨0x34000 + 8 * i, 14, 1⟩
def apgIBg (i : Nat) : Fld := ⟨0x34000 + 8 * i, 15, 3⟩
def apgXtAxor (e : Nat) : Fld := ⟨0x38000 + 8 * e, 0, 37⟩
def apgXtDinv (e : Nat) : Fld := ⟨0x38000 + 8 * e, 37, 1⟩
def apgRowCnt (i : Nat) : Nat := 0x40000 + 8 * i
def apgColCnt (i : Nat) : Nat := 0x60000 + 8 * i

end Rg

/-- The layouts of LOST and of a row or column counter. -/
def lostCnt : CntL := ⟨0, 24, 24⟩
def apgCnt : CntL := ⟨0, 16, 16⟩

/-- A TPP's window (10 and 11). -/
def tppRows : List RegRow :=
  [ rOne 0x0000 0 0 (fm 5 2), rOne 0x0008 0 0 0,
    rArr 0x0800 12 0x20 0xA0600F (fm 0 6 + fm 8 25 + fm 40 24) 0,
    rArr 0x0800 48 8 0xA0600F (fm 0 4 + fm 8 25 + fm 40 24) 0,
    rArr 0x0C00 48 8 0 0 0, rArr 0x1000 64 8 0x271 (fm 0 25) 0, rArr2 0x20000 64 0x180 48 8 0 (fm 0 63) 0,
    rOne 0x30000 0 (fm 0 9) 0, rOne 0x30008 0 (fm 0 37) 0, rOne 0x30010 0 (fm 0 32) 0,
    rArr 0x30020 2 8 0x0001FFFF00000000 (fm 0 64) 0, rOne 0x30030 0x1F00000000 (fm 0 5 + fm 16 5 + fm 32 5) 0,
    rOne 0x30038 0 0 0, rArr 0x30040 4 8 0 (fm 0 64) 0, rOne 0x30060 0x0FFFFFFFFFFFFFFF (fm 0 60) 0,
    { rArr 0x30800 37 8 0 (fm 0 6) 0 with reset := fun _ i => i },
    rArr 0x31000 48 8 0x45 (fm 0 7) 0,
    rOne 0x32000 1 (fm 0 4 + fm 8 13 + fm 24 16) 0,
    rArr 0x32100 8 8 0x100000 (fm 0 22 + fm 24 24) 0, rArr 0x32200 8 8 0 (fm 6 42) 0,
    { rArr 0x32300 8 8 0 0 0 with cnts := [lostCnt] },
    rArr 0x34000 256 8 0 (fm 0 18) 0, rArr 0x38000 1024 8 0 (fm 0 38) 0,
    { rArr 0x40000 16384 8 0 0 0 with cnts := [apgCnt] }, { rArr 0x60000 16384 8 0 0 0 with cnts := [apgCnt] } ]

namespace Rg

/-! Lane quads, die offsets 0x18 to 0x1F (12). -/
/-- The registers of lane n, 0 to 127: lane 4q + j of its die is lane j of quad Q_q. -/
def lane (n : Nat) : Nat := dieWin (n / 32) (0x18 + (n % 32) / 4) + 0x1000 * (n % 4)
def lAutoUp : Fld := ⟨0x00, 0, 1⟩
def lMode : Fld := ⟨0x00, 1, 2⟩
def lMaxRate : Fld := ⟨0x00, 3, 3⟩
def lTxInvert : Fld := ⟨0x00, 10, 1⟩
def lRxInvert : Fld := ⟨0x00, 11, 1⟩
def lWidth : Fld := ⟨0x00, 6, 1⟩
def lStartPreset : Fld := ⟨0x00, 7, 3⟩
def lDegradeThresh : Fld := ⟨0x00, 12, 4⟩
def lMarginMin : Fld := ⟨0x00, 16, 8⟩
def lState : Fld := ⟨0x08, 0, 3⟩
def lRate : Fld := ⟨0x08, 3, 3⟩
def lBlockLock : Fld := ⟨0x08, 6, 1⟩
def lQuiesced : Fld := ⟨0x08, 7, 1⟩
def lTest : Fld := ⟨0x08, 8, 1⟩
def lRateLimited : Fld := ⟨0x08, 9, 1⟩
def lFailed : Fld := ⟨0x08, 10, 1⟩
def lSteering : Fld := ⟨0x08, 11, 1⟩
def lTxReject : Fld := ⟨0x08, 12, 1⟩
def lFarMap : Fld := ⟨0x08, 16, 8⟩
def lLogical : Fld := ⟨0x08, 24, 5⟩
def lGroup : Fld := ⟨0x08, 32, 8⟩
def lCPre : Fld := ⟨0x10, 4, 4⟩
def lCPost : Fld := ⟨0x10, 8, 5⟩
def lMargin : Fld := ⟨0x10, 24, 8⟩
def lCtle : Fld := ⟨0x10, 0, 4⟩
def lDfe : Fld := ⟨0x10, 16, 8⟩
/-- The five counters of a lane: 0 HDR_ERR, 1 LOCK_LOSS, 2 PRBS_ERR, 3 LNB_CRC_ERR, 4 RX_DROP. -/
def lCnt (i : Nat) : Nat := 0x20 + 8 * i

end Rg

/-- The layout of a lane counter. -/
def laneCnt : CntL := ⟨0, 48, 63⟩

/-- A lane quad's window: LANE_CFG, LANE_STATUS, LANE_EQ, LANE_SNAP and the five counters of four lanes. -/
def quadRows : List RegRow :=
  [ rArr2 0x00 4 0x1000 1 8 0x104238 (fm 0 24) 0, rArr2 0x08 4 0x1000 1 8 0x1F000000 0 (fm 9 1 + fm 12 1),
    rArr2 0x10 4 0x1000 1 8 0 0 0, rArr2 0x18 4 0x1000 1 8 0 0 0,
    { rArr2 0x20 4 0x1000 5 8 0 0 0 with cnts := [laneCnt] } ]

namespace Rg

/-! DRAM controllers, die offsets 0x10 and 0x11 (13), and line scramblers, 0x12 and 0x13 (14). -/
def dc (n : Nat) : Nat := dieWin (n / 2) (0x10 + n % 2)
def dcState : Fld := ⟨0x0000, 0, 4⟩
def dcDdr4 : Fld := ⟨0x0000, 4, 1⟩
def dcRate : Fld := ⟨0x0000, 5, 3⟩
def dcRateLimited : Fld := ⟨0x0000, 8, 1⟩
def dcHot : Fld := ⟨0x0000, 9, 1⟩
def dcInitDone : Fld := ⟨0x0000, 10, 1⟩
def dcContentsLost : Fld := ⟨0x0000, 11, 1⟩
def dcCapacity : Fld := ⟨0x0000, 16, 8⟩
def dcWrHigh : Fld := ⟨0x0008, 0, 7⟩
def dcWrLow : Fld := ⟨0x0008, 7, 7⟩
def dcMapHash : Fld := ⟨0x0008, 14, 1⟩
def dcCeLogEn : Fld := ⟨0x0008, 15, 1⟩
def dcRefMode : Fld := ⟨0x0010, 0, 1⟩
def dcAlertWindow : Fld := ⟨0x0010, 1, 7⟩
def dcScrubPeriod : Fld := ⟨0x0010, 8, 8⟩
def dcActThresh : Fld := ⟨0x0018, 0, 16⟩
def dcCeCount (n : Nat) : Nat := dc n + 0x0100
def dcUeCount (n : Nat) : Nat := dc n + 0x0108
def dcReplayCount (n : Nat) : Nat := dc n + 0x0110
def dcAlertCount (n : Nat) : Nat := dc n + 0x0118
def dcMitigateCount (n : Nat) : Nat := dc n + 0x0120
def dcWstarveCount (n : Nat) : Nat := dc n + 0x0128
def dcErrLog (n : Nat) : Nat := dc n + 0x0200
def bkTarget : Fld := ⟨0x1000, 0, 3⟩
def bkFirst : Fld := ⟨0x1000, 8, 9⟩
def bkStep : Fld := ⟨0x1000, 17, 5⟩
def bkCount : Fld := ⟨0x1000, 22, 7⟩
def bkBusy : Fld := ⟨0x1000, 36, 1⟩
def bkRangeErr : Fld := ⟨0x1000, 37, 1⟩
def bkResult (n k : Nat) : Nat := dc n + 0x1100 + 8 * k
def dly (n k : Nat) : Nat := dc n + 0x2000 + 8 * k
def dlyWr : Fld := ⟨0, 9, 9⟩

def lsu (n : Nat) : Nat := dieWin (n / 2) (0x12 + n % 2)
def lsuViews : Fld := ⟨0x0000, 0, 7⟩
def lsuLocked : Fld := ⟨0x0000, 7, 1⟩
def lsuLoaded (k : Nat) : Fld := ⟨0x0008, k, 1⟩
def lsuInUse (k : Nat) : Fld := ⟨0x0008, 16 + k, 1⟩
def lsuTagFail (n : Nat) : Nat := lsu n + 0x0100
def lsuSweepFail (n : Nat) : Nat := lsu n + 0x0108
def lsuSweepLines (n : Nat) : Nat := lsu n + 0x0110
def lsuErrLog (n : Nat) : Nat := lsu n + 0x0200
def rgBase (r : Nat) : Fld := ⟨0x1000 + 0x20 * r, 0, 48⟩
def rgLimit (r : Nat) : Fld := ⟨0x1008 + 0x20 * r, 0, 48⟩
def rgValid (r : Nat) : Fld := ⟨0x1010 + 0x20 * r, 0, 1⟩
def rgKey (r : Nat) : Fld := ⟨0x1010 + 0x20 * r, 1, 4⟩
def rgKeyClear (r : Nat) : Fld := ⟨0x1010 + 0x20 * r, 5, 1⟩
def rgTagEn (r : Nat) : Fld := ⟨0x1010 + 0x20 * r, 6, 1⟩
def rgEpoch (r : Nat) : Fld := ⟨0x1010 + 0x20 * r, 7, 1⟩
def rgSweep (r : Nat) : Fld := ⟨0x1010 + 0x20 * r, 8, 1⟩
def rgNewKey (r : Nat) : Fld := ⟨0x1010 + 0x20 * r, 9, 4⟩
def rgNewClear (r : Nat) : Fld := ⟨0x1010 + 0x20 * r, 13, 1⟩
def rgNewTagEn (r : Nat) : Fld := ⟨0x1010 + 0x20 * r, 14, 1⟩
def rgBound (r : Nat) : Fld := ⟨0x1018 + 0x20 * r, 0, 48⟩

end Rg

/-- A DRAM controller's window (13). -/
def dcRows : List RegRow :=
  [ rOne 0x0000 0 0 (fm 8 1 + fm 11 1), rOne 0x0008 0x5060 (fm 0 16) 0, rOne 0x0010 0x1800 (fm 0 1 + fm 8 8) 0,
    rOne 0x0018 0x0800 (fm 0 16) 0, rCntArr 0x0100 6 8, rArr 0x0200 16 8 0 0 1,
    rOne 0x1000 0x410020000 (fm 0 29 + fm 32 4) (fm 37 1), rOne 0x1008 0 (fm 0 64) 0,
    rArr 0x1100 80 8 0 0 0, rArr 0x2000 80 8 0 (fm 0 25) 0 ]

/-- A line scrambler's window (14); LSU_KEY_s is write-only and stores nothing that a read returns. -/
def lsuRows : List RegRow :=
  [ rOne 0x0000 0 (fm 0 7) 0, rOne 0x0008 0 0 0, rCntArr 0x0100 3 8, rArr 0x0200 16 8 0 0 1, rArr 0x0800 32 8 0 0 0,
    rArr 0x1000 64 0x20 0 (fm 16 32) 0, rArr 0x1008 64 0x20 0 (fm 16 32) 0,
    rArr 0x1010 64 0x20 0x20 (fm 0 8 + fm 9 6) 0, rArr 0x1018 64 0x20 0 0 0 ]

namespace Rg

/-! Network registers (15): die offset 0x01 of a fabric die (die 0 to 3), window 0x0A of HD (die 4). -/
def noc (d : Nat) : Nat := if d < 4 then dieWin d 0x01 else win 0x0A
def nocBufCfg : Fld := ⟨0xF00000, 0, 12⟩
def nocTimeout : Fld := ⟨0xF00008, 0, 17⟩
/-- Router i of die d. -/
def router (d i : Nat) : Nat := noc d + 0x80000 * i
def rtNewEpoch : Fld := ⟨0x0000, 0, 1⟩
def rtTableValid (t : Nat) : Fld := ⟨0x0000, 1 + t, 1⟩
def rtFlipSeen : Fld := ⟨0x0000, 3, 1⟩
def rtOldCount : Fld := ⟨0x0000, 16, 16⟩
def rtPortMask (t e : Nat) : Fld := ⟨0x1000 + 0x400 * t + 8 * e, 0, 16⟩
def rtAction (t e : Nat) : Fld := ⟨0x1000 + 0x400 * t + 8 * e, 16, 2⟩
/-- Target port q of die d. -/
def tport (d q : Nat) : Nat := noc d + 0xD00000 + 0x20 * q
def tpState : Fld := ⟨0, 0, 3⟩
def tpForced : Fld := ⟨0, 3, 1⟩
def tpTimeoutSeen : Fld := ⟨0, 4, 1⟩
def tpBurst : Fld := ⟨0, 5, 3⟩
def tpOutstanding : Fld := ⟨0, 16, 11⟩
def tpDiscard : Nat := 0x08
def tpRspDrop : Nat := 0x10
/-- Initiator port q of die d. -/
def iport (d q : Nat) : Nat := noc d + 0xE00000 + 0x20 * q
def ipTags : Fld := ⟨0, 0, 13⟩
def ipFenceBusy : Fld := ⟨0, 13, 1⟩
def ipEpoch : Fld := ⟨0, 14, 1⟩
def ipFlipHold : Fld := ⟨0, 15, 1⟩
def ipDecode : Nat := 0x08
def ipDenied : Nat := 0x10

end Rg

/-- The routers, target ports and initiator ports of a die with n routers. -/
def netRows (n : Nat) : List RegRow :=
  [ rArr 0x0000 n 0x80000 0x2 0 0, rArr2 0x1000 n 0x80000 256 8 0 (fm 0 18) 0,
    rArr 0xD00000 256 0x20 2 0 (fm 4 1), rCntArr 0xD00008 256 0x20, rCntArr 0xD00010 256 0x20,
    rArr 0xE00000 256 0x20 0 0 0, rCntArr 0xE00008 256 0x20, rCntArr 0xE00010 256 0x20 ]

/-- A fabric die's network registers. -/
def nocRows : List RegRow := netRows 24

/-- HD's network registers. -/
def hdNocRows : List RegRow :=
  [rOne 0xF00000 0x763 0 0, rOne 0xF00008 0x3E8 (fm 0 17) 0] ++ netRows 4

namespace Rg

/-! Die-link module ends (16): module m's end on fabric die d (0 to 3) or on HD (4). -/
def dl (d m : Nat) : Nat := (if d < 4 then dieWin d 0x04 else win 0x0A + 0xC00000) + 0x400 * m
def mState : Fld := ⟨0x00, 0, 3⟩
def mVersion : Fld := ⟨0x00, 3, 1⟩
def mRate : Fld := ⟨0x00, 4, 1⟩
def mWidth : Fld := ⟨0x00, 5, 2⟩
def mCarrying : Fld := ⟨0x00, 7, 1⟩
def mCarrier : Fld := ⟨0x00, 8, 1⟩
def mClockSrc : Fld := ⟨0x00, 9, 1⟩
def mSteering : Fld := ⟨0x00, 10, 1⟩
def mSparesUsed : Fld := ⟨0x00, 11, 3⟩
def mDisagree : Fld := ⟨0x00, 14, 2⟩
def mWidthHeld : Fld := ⟨0x00, 16, 1⟩
def mPeerClass : Fld := ⟨0x00, 32, 32⟩
def mMarginMin : Fld := ⟨0x08, 0, 6⟩
def mAutoSteer : Fld := ⟨0x08, 6, 1⟩
def mCarryEn : Fld := ⟨0x08, 7, 1⟩
def mRxFail : Fld := ⟨0x10, 0, 64⟩
def mSpareFor (k : Nat) : Fld := ⟨0x18, 8 * k, 7⟩
def mCrcErr : Nat := 0x20
def mReplay : Nat := 0x28
def mRetrainCount : Nat := 0x30
def mCarryCount : Nat := 0x38
def mPeerRec (i : Nat) : Fld := ⟨0x80 + 8 * i, 0, 64⟩

end Rg

/-- The module ends of a window, from offset b. -/
def dlRowsAt (b : Nat) : List RegRow :=
  [ rArr b 34 0x400 0 0 0, rArr (b + 0x08) 34 0x400 0xCC (fm 0 8) 0, rArr (b + 0x10) 34 0x400 0 0 0,
    rArr (b + 0x18) 34 0x400 0x7F7F7F7F 0 0,
    { rArr2 (b + 0x20) 34 0x400 4 8 0 0 0 with cnts := [⟨0, 31, 31⟩] }, rArr2 (b + 0x80) 34 0x400 6 8 0 0 0 ]

/-- A fabric die's module ends. -/
def dlRows : List RegRow := dlRowsAt 0

/-- HD's module ends. -/
def hdDlRows : List RegRow := dlRowsAt 0xC00000

/-- The site interface windows 0xA0 to 0xA2: the manual gives no register in them. -/
def siteRows : List RegRow := []

namespace Rg

/-! Window 0x09: queue engine (17). -/
def qe : Nat := win 0x09
def qeEnable : Fld := ⟨0x0000, 0, 1⟩
def qeCtxBase : Fld := ⟨0x0000, 26, 22⟩
def qeSleep : Fld := ⟨0x0008, 0, 2⟩
def qeWakePend : Fld := ⟨0x0008, 2, 13⟩
def qePinned : Fld := ⟨0x0008, 16, 14⟩
def qeIntake : Fld := ⟨0x0008, 32, 13⟩
def qePushReject : Nat := win 0x09 + 0x0100
def qeDbBad : Nat := win 0x09 + 0x0108
def qeCtxMiss : Nat := win 0x09 + 0x0110
def qeCtxFail : Nat := win 0x09 + 0x0118
def qeIntakeFull : Nat := win 0x09 + 0x0120
/-- Host vector n, 0 to 4,095; Greone vector n is number 4096 + n here. -/
def vec (n : Nat) : Nat := win 0x09 + (if n < 4096 then 0x10000 + 8 * n else 0x20000 + 8 * (n - 4096))
def vThresh : Fld := ⟨0, 0, 8⟩
def vTimer : Fld := ⟨0, 8, 10⟩
def vTarget : Fld := ⟨0, 18, 2⟩
def vMask : Fld := ⟨0, 20, 1⟩
def vTimerRun : Fld := ⟨0, 21, 1⟩
def vWakePending : Fld := ⟨0, 22, 1⟩
def vCount : Fld := ⟨0, 24, 8⟩

end Rg

/-- The queue engine, window 0x09. -/
def qeRows : List RegRow :=
  [ rOne 0x0000 0 0 0, rOne 0x0008 0 0 0, rCntArr 0x0100 5 8,
    rArr 0x10000 4096 8 0x101 (fm 0 21) 0, rArr 0x20000 256 8 0x101 (fm 0 21) 0 ]

namespace Rg

/-! Window 0x08: event interrupt controller (18). -/
def eicT (t : Nat) : Nat := win 0x08 + 0x1000 * t
def eicThresh : Fld := ⟨0x00, 0, 5⟩
def eicRunPrio : Fld := ⟨0x18, 0, 5⟩
def eicNotified : Fld := ⟨0x18, 5, 1⟩
def eicMsgAddr : Fld := ⟨0x20, 0, 48⟩
def eicBadComplete : Nat := 0x28
def eicPend (w : Nat) : Nat := win 0x08 + 0x8000 + 8 * w
def eicS (n : Nat) : Nat := win 0x08 + 0x10000 + 8 * n
def srcPrio : Fld := ⟨0, 0, 5⟩
def srcMode : Fld := ⟨0, 5, 1⟩
def srcPending : Fld := ⟨0, 6, 1⟩
def srcActive : Fld := ⟨0, 7, 1⟩
def srcEnable : Fld := ⟨0, 8, 8⟩
def srcActiveTarget : Fld := ⟨0, 16, 3⟩
def srcInput : Fld := ⟨0, 19, 1⟩
def srcClaimedLevel : Fld := ⟨0, 20, 5⟩

end Rg

/-- The event interrupt controller, window 0x08: THRESH, RUNPRIO, MSG_ADDR and BAD_COMPLETE of each target, and
EIC_SRC_n; EIC_CLAIM_t, EIC_COMPLETE_t and EIC_PEND_w store nothing of their own. -/
def eicRows : List RegRow :=
  [ rArr2 0x00 8 0x1000 1 8 0 (fm 0 5) 0, rArr2 0x08 8 0x1000 1 8 0 0 0, rArr2 0x10 8 0x1000 1 8 0 0 0,
    rArr2 0x18 8 0x1000 1 8 0 0 0, rArr2 0x20 8 0x1000 1 8 0 (fm 6 42) 0,
    { rArr2 0x28 8 0x1000 1 8 0 0 0 with cnts := [⟨0, 16, 16⟩] },
    rArr 0x8000 32 8 0 0 0,
    rArr 0x10000 1024 8 0 (fm 0 6 + fm 8 8) 0, rArr 0x12000 1024 8 0 (fm 0 5 + fm 8 8) 0 ]

namespace Rg

/-! Window 0x00: mailboxes (19); the base of page p (R558). -/
def mbx (p : Nat) : Nat := 0x100000 * p
def mbxCmd (p i : Nat) : Nat := mbx p + 0x40 * i
def mbxRsp (p i : Nat) : Nat := mbx p + 0x1000 + 0x40 * i
def cmdTail : Fld := ⟨0x2000, 0, 7⟩
def cmdHead : Fld := ⟨0x2008, 0, 7⟩
def rspTail : Fld := ⟨0x2010, 0, 7⟩
def rspHead : Fld := ⟨0x2018, 0, 7⟩
def mbxReady : Fld := ⟨0x2020, 0, 1⟩
def mbxProto : Fld := ⟨0x2020, 1, 1⟩
def mbxLevel : Fld := ⟨0x2020, 2, 2⟩
def mbxRestarting : Fld := ⟨0x2020, 4, 1⟩
def mbxRspFull : Fld := ⟨0x2020, 5, 1⟩
def mbxInFlight : Fld := ⟨0x2020, 8, 7⟩
def mbxDbBad (p : Nat) : Nat := mbx p + 0x2028
def mbxDirectWin (p i : Nat) : Nat := mbx p + 0x2040 + 8 * i

end Rg

/-- The six mailbox pages, window 0x00: both rings, and the mailbox registers of 19. -/
def mbxRows : List RegRow :=
  [ rArr2 0x0000 6 0x100000 1024 8 0 (fm 0 64) 0,
    rArr2 0x2000 6 0x100000 1 8 0 (fm 0 7) 0, rArr2 0x2008 6 0x100000 1 8 0 0 0, rArr2 0x2010 6 0x100000 1 8 0 0 0,
    rArr2 0x2018 6 0x100000 1 8 0 (fm 0 7) 0, rArr2 0x2020 6 0x100000 1 8 0 0 0,
    { rArr2 0x2028 6 0x100000 1 8 0 0 0 with cnts := [⟨0, 31, 31⟩] },
    rArr2 0x2040 6 0x100000 4 8 0 0 0 ]

namespace Rg

/-! Window 0x03: security (20); window 0x06: firmware update (21); window 0x05 from 0x0100: power (22). -/
def sec : Nat := win 0x03
def sFwSvn : Fld := ⟨0x0000, 0, 8⟩
def sPlateSvn : Fld := ⟨0x0000, 8, 6⟩
def sJtag : Fld := ⟨0x0000, 16, 2⟩
def sExpert : Fld := ⟨0x0000, 18, 2⟩
def sSvcDisable : Fld := ⟨0x0000, 20, 1⟩
def sClearviewLock : Fld := ⟨0x0000, 21, 1⟩
def sUpdateLock : Fld := ⟨0x0000, 22, 1⟩
def sSealKey : Fld := ⟨0x0000, 23, 1⟩
def sProgBusy : Fld := ⟨0x0000, 24, 1⟩
def owner (n : Nat) : Nat := win 0x03 + 0x0100 + 8 * n
def oState : Fld := ⟨0, 0, 2⟩
def oKeyOk : Fld := ⟨0, 2, 1⟩
def oHashPrefix : Fld := ⟨0, 8, 56⟩

def fw : Nat := win 0x06
def fwState : Fld := ⟨0x1000, 0, 3⟩
def fwActive : Fld := ⟨0x1000, 3, 1⟩
def fwTrials : Fld := ⟨0x1000, 4, 2⟩
def fwCrashes : Fld := ⟨0x1000, 6, 2⟩
def fwLast : Fld := ⟨0x1000, 8, 4⟩
def fwReceived : Fld := ⟨0x1000, 32, 32⟩
def fwSlotValid (k : Nat) : Fld := ⟨0x1010 + 8 * k, 0, 1⟩
def fwSlotUsable (k : Nat) : Fld := ⟨0x1010 + 8 * k, 1, 1⟩
def fwSlotSvn (k : Nat) : Fld := ⟨0x1010 + 8 * k, 8, 8⟩
def fwSlotSchema (k : Nat) : Fld := ⟨0x1010 + 8 * k, 16, 16⟩
def fwSlotVersion (k : Nat) : Fld := ⟨0x1010 + 8 * k, 32, 32⟩
def runHeld (p : Nat) : Fld := ⟨0x1020, p, 1⟩
def runLease : Fld := ⟨0x1020, 8, 24⟩
def svcCrcErr : Nat := win 0x06 + 0x1030

def pwr : Nat := win 0x05
def pWarn : Fld := ⟨0x0100, 0, 1⟩
def pHoldup : Fld := ⟨0x0100, 1, 1⟩
def pThermTrip : Fld := ⟨0x0100, 2, 1⟩
def pThermWarn (d : Nat) : Fld := ⟨0x0100, 8 + d, 1⟩
def pRailFault (i : Nat) : Fld := ⟨0x0100, 16 + i, 1⟩
def pStatus : Nat := win 0x05 + 0x0100
def thTemp (d : Nat) : Fld := ⟨0x0200 + 8 * d, 0, 12⟩
def thThresh (d : Nat) : Fld := ⟨0x0200 + 8 * d, 12, 8⟩
def thMax (d : Nat) : Fld := ⟨0x0200 + 8 * d, 32, 12⟩

end Rg

/-- SEC_FUSE_STATUS and SEC_OWNER_n, window 0x03; their reset values are fuse readings, copied in at Device reset. -/
def secRows : List RegRow := [rOne 0x0000 0 0 0, rArr 0x0100 4 8 0 0 0]

/-- FW_UPDATE_STATUS, FW_SLOT_s, RUN_LOCK_STATUS and SVC_CRC_ERR_COUNT, window 0x06. -/
def fwRows : List RegRow := [rOne 0x1000 0 0 0, rArr 0x1010 2 8 0 0 0, rOne 0x1020 0 0 0, rCnt 0x1030]

/-- The layout of WARN_COUNT. -/
def warnCnt : CntL := ⟨32, 31, 63⟩

/-- PWR_STATUS and THERM_DIE_n, window 0x05. -/
def pwrRows : List RegRow :=
  [{ rOne 0x0100 0 0 0 with cnts := [warnCnt] }, rArr 0x0200 5 8 0x5F000 0 0]
/-- The register tables of the windows with one table each on HD (R36). -/
def hubRows (w : Nat) : List RegRow :=
  if w == 0x00 then mbxRows
  else if w == 0x03 then secRows
  else if w == 0x04 then clkRows
  else if w == 0x05 then rstRows ++ pwrRows
  else if w == 0x06 then fwRows
  else if w == 0x07 then ringRows
  else if w == 0x08 then eicRows
  else if w == 0x09 then qeRows
  else if w == 0x0A then hdNocRows ++ hdDlRows
  else if w == 0xA0 || w == 0xA1 || w == 0xA2 then siteRows
  else []

/-- The register tables of a fabric die's windows, by die offset (R36). -/
def dieRows (o : Nat) : List RegRow :=
  if o == 0x00 then cfgRows
  else if o == 0x01 then nocRows
  else if o == 0x02 then seamRows
  else if o == 0x03 then fpllRows
  else if o == 0x04 then dlRows
  else if o == 0x05 then ioRows
  else if o == 0x06 then framRows
  else if 0x08 ≤ o && o ≤ 0x0D then tppRows
  else if o == 0x10 || o == 0x11 then dcRows
  else if o == 0x12 || o == 0x13 then lsuRows
  else if 0x18 ≤ o && o ≤ 0x1F then quadRows
  else []

/-- The register table of block window w. -/
def winRows (w : Nat) : List RegRow :=
  if 0x20 ≤ w && w < 0xA0 then dieRows ((w - 0x20) % 0x20) else hubRows w

/-- The row and indices of the register at control-space offset a, if the manual gives one there. -/
def regAt (a : Nat) : Option (RegRow × Nat × Nat) := findRow (winRows (a / 0x1000000)) (a % 0x1000000)

/-- What a register holds after a reset of its block (R11); an address with no register reads as zero (R10). -/
def regDefault (a : Nat) : BitVec 64 :=
  match regAt a with
  | some (r, i, j) => BitVec.ofNat 64 (r.reset i j)
  | none => 0

end Sys2Proof.Machine
end

