-- ==== Sys2Proof/Machine/State.lean ====
section
/-! DEFINITION. The state of the block as plain data: every register, memory, queue, counter, mode and pin that the
manual gives the MQX9480, and the queue of commands that are waiting.  All the manual's registers (status, control,
counters and error logs) live in `regs`, keyed by their offset in the control space (Sys2Proof/Machine/RegMap.lean);
what no register holds stands in one structure for each chapter. -/

namespace Sys2Proof.Machine

open Sys2Proof

/-- Why the machine stops.  No command of this block stops it: every outcome the manual gives a command is a state, so
no constructor exists and nobody raises one (safe). -/
inductive Fault where
deriving DecidableEq, Repr

/-- Why a command is refused by the model. -/
inductive Refusal where
  /-- Raised by Sys2Proof/Machine/Dispatch.lean alone, for a command without a meaning yet: safe, the run stops. -/
  | notModelled (mnemonic : String)
deriving DecidableEq, Repr

/-- A mailbox command in flight: its port, its TAG, the opcode its response carries and whether it came in protocol v1
(R563, R573). -/
structure Cmd where
  port : Port
  tag  : BitVec 16
  op   : BitVec 16
  v1   : Bool
deriving DecidableEq, Repr

/-- A command that has been taken and not yet answered: the command, its v2 opcode and the object it names. -/
structure OpenCmd where
  cmd : Cmd
  op2 : Nat
  obj : Nat
deriving DecidableEq, Repr

/-- A response that is decided and not yet written to its ring: results are pairs of a size in bytes and a value, in
the order of R564. -/
structure Rsp where
  cmd    : Cmd
  status : BitVec 16
  res    : List (Nat × Nat)
deriving DecidableEq, Repr

/-- An event as its block sends it (R554, R582). -/
structure EvFrame where
  time    : BitVec 64
  code    : BitVec 16
  origin  : BitVec 12
  detail  : BitVec 64
  detail2 : BitVec 31
deriving DecidableEq, Repr

/-- An entry of the event log (R582). -/
structure EvEntry where
  frame : EvFrame
  seq   : BitVec 31
  first : Bool
deriving DecidableEq, Repr

/-- What the part puts on its outside wires, buses and hardened fabric ports. -/
inductive Out where
  /-- A ring packet sent downstream on RING_OUT (R56). -/
  | ringPacket (packet : BitVec 64)
  /-- A level on a reset sideband of site H0, P1 or P2: true is reset asserted (R483). -/
  | siteReset (site : Nat) (asserted : Bool)
  /-- A level on the wake line of H0 (R525, R548). -/
  | wakeH0 (asserted : Bool)
  /-- SLEEP_ACK to H0 (R525). -/
  | sleepAck
  /-- An interrupt message (R546): address, KIND, NUMBER, TARGET, LEVEL, TIME. -/
  | irqMessage (addr kind number target level : Nat) (time : BitVec 64)
  /-- The interrupt line of Greone core 0 or 1 rises (R545). -/
  | greoneIrq (core : Nat)
  /-- A one-cycle pulse of a MAC engine: EVT, or DONE (R172). -/
  | engineEvt (engine : Nat)
  | engineDone (engine : Nat)
  /-- Applications of a vector at a TPP's pins: TPP, first VECNUM, how many, start and period in ps, timing set, sites
  enabled, PECs (R273, R280); where the edges D, R and S of each slot of an active pin are placed from the period's start, in 2 ps (R288, R291), and
  the termination setting at each active pin (R274). -/
  | vectors (tpp vecnum count start period tset : Nat) (sites : BitVec 8) (pec : BitVec 192) (edges : List (Nat × Int × Int × Int))
    (terms : List (Nat × Nat))
  /-- A pulse of EVT at a TPP's fabric port (R277, R303). -/
  | tppEvt (tpp : Nat)
  /-- A refill read of a TPP's stream buffer (R308). -/
  | streamRead (tpp line addr : Nat)
  /-- Fail records sent to the queue engine, one or two (R333). -/
  | failRecords (tpp queue : Nat) (words : List (BitVec 256))
  /-- An atomic OR of a fail bitmap line (R338). -/
  | atomicOr (tpp addr : Nat) (mask : BitVec 512)
  /-- A lane transmits (R353, R356): its number, the sync header (none in RAW mode) and the 64 bits as sent. -/
  | laneBlock (lane : Nat) (header : Option (BitVec 2)) (bits : BitVec 64)
  /-- A lane delivers a block or raw word at the fabric port of a lane (R348). -/
  | laneRx (port : Nat) (ctrl err : Bool) (payload : BitVec 64)
  /-- A response of a line scrambler to a request (R402, R429, R431): channel, requester's number, response status of
  R454, poison, and the line. -/
  | lineResponse (ch id status : Nat) (poison : Bool) (data : BitVec 512)
  /-- Commands that a subchannel's replay issues again, in their original order (R400). -/
  | dramReplay (ch sub : Nat) (cmds : List DCmd)
  /-- A write of the device's own engines to a site: its port ID, the offset in its window (R25), and bytes. -/
  | memWrite (port offset : Nat) (bytes : List Nat)
  /-- A part of a request that an initiator bridge sends (R449 to R460): source and destination port IDs, packet type, VC,
  epoch, tag, address, bytes, stream refill, and the clear view of R433. -/
  | nocRequest (src dst typ vc epoch tag addr len : Nat) (stream : Bool) (data : List Nat)
  /-- The response of an initiator bridge to a request (R460): label, worst status; and a part's data (status, POISON). -/
  | nocDone (src label status : Nat)
  | nocData (src label offset status : Nat) (poison : Bool) (data : BitVec 512)
  /-- A FENCE_MARK sent, and its acknowledgement (R475). -/
  | fenceMark (src dst epoch : Nat)
  | fenceAck (src dst : Nat)
  /-- A flit that a router sends out on a port, delivers to a local port, or answers at an absorbing entry (R462). -/
  | routerOut (router port vc : Nat) (header : BitVec 128)
  | routerLocal (router : Nat) (header : BitVec 128)
  | routerAnswer (router status : Nat) (header : BitVec 128)
  /-- An inbound request at an access point's fabric port (R455): type, offset, length less 1, identifier. -/
  | apTarget (d k typ off len id : Nat) (data : List Nat)
  /-- An access point's response (R455): identifier, status and data. -/
  | apResponse (d k id status : Nat) (data : List Nat)
  /-- A message to a site over its sideband: move ports away from a module (R478). -/
  | sitePortMove (site : Nat)
  /-- A discovery record sent on a module's sideband (R484): the end's die and module, and its 48 bytes. -/
  | discoveryRecord (d m : Nat) (bytes : List Nat)
  /-- A Fregal Link flit sent (R490, R496): its bytes. -/
  | fregalFlit (d m : Nat) (bytes : List Nat)
  /-- A NoC flit that a receiving bridge enters into its die at a module's router ports (R491). -/
  | bridgeFlit (d m : Nat) (header : BitVec 128) (payload : BitVec 512)
  /-- The value that a register read with effects of its own returns (R538): address and value. -/
  | regData (addr value : Nat)
  /-- An answer of the Service Port (R619): TYPE, STATUS, SEQ, ADDR, LEN and payload. -/
  | svcAnswer (typ status seq addr len : Nat) (payload : List Nat)
  /-- A level on THERMTRIP_N: true is driven low (R651). -/
  | thermTrip (low : Bool)
deriving DecidableEq, Repr

/-- Stages, reset scopes and start-up progress (02); STAGE itself is the field of RST_STAGE. -/
structure StartSt where
  /-- The device is in RESET (R39). -/
  inReset       : Bool
  /-- PORST_N is low. -/
  porstLow      : Bool
  /-- The boot ROM has chosen a verified image for this boot (R623). -/
  imageChosen   : Bool
  /-- Every fabric die has been cleared (R116). -/
  fabricCleared : Bool
  /-- DRAM training of Stage 3 has ended on every channel (R42). -/
  trainingEnded : Bool
  /-- Channels whose Stage 3 training has not ended. -/
  trainingLeft  : BitVec 8
  /-- The boot plate has been released (R42). -/
  bootReleased  : Bool
  /-- Fabric dies whose reset has taken effect (R47). -/
  dieHeld       : BitVec 4
  /-- Fabric dies that have left their reset and whose derived clocks wait for an alignment marker (R79), and dies that have
  lost their forwarded clock (R482). -/
  unaligned     : BitVec 4
  /-- Of these, the dies that leave a fabric die reset. -/
  fromReset     : BitVec 4
  /-- Reset lines of sites H0, P1 and P2 (R483). -/
  siteHeld      : BitVec 3
  /-- Sites in the interval of R671 after a site reset, before a module is up again or 100 ms have passed. -/
  siteWindow    : BitVec 3
  /-- Sites that are populated: a discovery record of an allowed class has been seen (R22, R23). -/
  sitePresent   : BitVec 3
deriving DecidableEq, Repr

/-- The Ring Port beside its registers (02). -/
structure RingSt where
  /-- A usable window announced and not yet started: its DELAY and LENGTH (R56, R63). -/
  window        : Option (BitVec 16 × BitVec 16)
  /-- The node acts on no start or trigger packet until a new CENSUS (R66). -/
  holdOff       : Bool
  /-- The join timeout event has been raised (R67). -/
  timeoutRaised : Bool
  /-- VCCAUX is present (R58). -/
  vccaux        : Bool
deriving DecidableEq, Repr

/-- Clocks beside their registers (03). -/
structure ClkSt where
  /-- Every derived clock is gated (R85). -/
  gated    : Bool
  /-- Greone, Safelight and the Ring Port run on the backup oscillator (R87). -/
  backup   : Bool
  /-- The ring has been the reference since the Device reset: it has locked a first time (R73). -/
  ringUsed : Bool
  /-- A slew in progress goes to the ring reference. -/
  slewRing : Bool
  /-- Fabric PLL outputs stopped by a loss of lock (R85), by PLL number 16d + n. -/
  fpllStopped : List Nat
  /-- Fabric PLL outputs free-running after a loss of lock. -/
  fpllFree : List Nat
deriving DecidableEq, Repr

/-- A Seam wire that is being steered (R127, R128): its edge, group and wire, the spare, the step of R127 reached, and
for an abrupt fault the DEV_TIME of the first parity failure. -/
structure SeamSteer where
  edge   : Nat
  group  : Nat
  wire   : Nat
  spare  : Nat
  step   : Nat
  abrupt : Option (BitVec 64)
deriving DecidableEq, Repr

/-- The Seam beside its registers (04). -/
structure SeamSt where
  steers : List SeamSteer
  /-- Spare wires that failed their deskew: edge, group, spare (R125). -/
  badSpares : List (Nat × Nat × Nat)
  /-- Sides whose region has been loaded since the group became LOST: edge, group, side (R129). -/
  reloaded : List (Nat × Nat × Nat)
deriving DecidableEq, Repr

/-- What the fabric's storage elements hold (04). A key's sector is the device sector, its cluster 24 row + column. -/
structure FabSt where
  /-- Flip-flops and their shadow latches: key 128 (480 sector + cluster) + 8 cell + i for FA_i, + 4 + i for FB_i (R88, R97). -/
  ff    : Sp Bool
  latch : Sp Bool
  /-- Wire registers (R109): of Level 2 drivers, key 112 (480 sector + cluster) + 28 direction + track; of taps, key 256 (480 sector +
  cluster) + 64 direction + 16 (tap - 1) + line, at the cluster of the tap. -/
  seg   : Sp Bool
  tap   : Sp Bool
  /-- The four registers of a Seam slot between its sending and its receiving side, bit 0 the sending sample: key 64 (768 edge + group)
  + slot (R122). -/
  slots : Sp (BitVec 4)
  /-- The DEV_TIME up to which clock edges have reached the fabric. -/
  time  : BitVec 64
deriving DecidableEq, Repr

/-- What a stage of a RAM port's output holds: the data and the flags aligned with it (R130). -/
structure RamOut where
  data : BitVec 72
  sbe  : Bool
  dbe  : Bool
  coll : Bool
deriving DecidableEq, Repr

/-- The output stages of a RAM port: the read latch, the cascade's stage, the output register (R136, R151). -/
structure RamStages where
  latch : RamOut
  mid   : RamOut
  oreg  : RamOut
deriving DecidableEq, Repr

/-- A Tray RAM or a Tank RAM (05): 512 or 4,096 words of 72 bits, a word's error mark (0 none, 1 single, 2 double bit),
and what its ports show. -/
structure Ram where
  words   : Sp (BitVec 72)
  marks   : Sp Nat
  portA   : RamStages
  portB   : RamStages
  /-- QUEUE mode: write and read positions, words held, QERR (R137). -/
  wpos    : Nat
  rpos    : Nat
  count   : Nat
  qerr    : Bool
  /-- User scrub: the next word, and a word to write back (R148). -/
  scrubPos  : Nat
  scrubBack : Option Nat
deriving DecidableEq, Repr

/-- Output data with no flag. -/
def RamOut.ofData (v : BitVec 72) : RamOut := { data := v, sbe := false, dbe := false, coll := false }

/-- Every stage of a port holds one value. -/
def RamStages.all (x : RamOut) : RamStages := { latch := x, mid := x, oreg := x }

/-- A RAM no plate uses: cleared. -/
def Ram.cleared : Ram :=
  { words := [], marks := [], portA := RamStages.all (RamOut.ofData 0), portB := RamStages.all (RamOut.ofData 0), wpos := 0, rpos := 0,
    count := 0, qerr := false, scrubPos := 0, scrubBack := none }

/-- An address generator's settings (R169): MOD is its length M, 1 to 512. -/
structure AddrGen where
  base   : BitVec 9
  step   : BitVec 10
  mod    : Nat
  bitrev : Bool
  ri     : Nat
  wi     : Nat
deriving DecidableEq, Repr

/-- What a MAC engine is doing: idle, running a program, draining after STOP (R181), stopped by HALT (R177), or stopped
before an illegal instruction (R182). -/
inductive EngMode where
  | idle | running | draining | halted | illegal
deriving DecidableEq, Repr

/-- A MAC engine (06). -/
structure Engine where
  mode     : EngMode
  pc       : BitVec 5
  /-- The instruction at pc has begun and waits: a WAIT, or a stall (R175, R177). -/
  inProgress : Bool
  /-- Levels of HALT and RST, and a start request that waits (R176). -/
  halt     : Bool
  rst      : Bool
  startReq : Bool
  accR     : BitVec 56
  accI     : BitVec 56
  exp      : BitVec 6
  nw       : BitVec 32
  /-- Sticky flags: [0] UNDERRUN, [1] OVERRUN, [2] PSAT, [3] AOVF, [4] OSAT, [5] NSAT, [6] OMDBE, [7] ILLEGAL. -/
  flags    : BitVec 8
  ag0      : AddrGen
  ag1      : AddrGen
  omA      : Sp (BitVec 36)
  omB      : Sp (BitVec 36)
  /-- The number of the free values that a built-in self-test left in the words not listed (R187). -/
  omBlur   : Option Nat
  /-- Words of OM_A and OM_B with a stored error: 0 none, 1 single, 2 double bit (R171). -/
  markA    : Sp Nat
  markB    : Sp Nat
  ia       : List (BitVec 36)
  ib       : List (BitVec 36)
  oq       : List (BitVec 54)
  gpi0     : Bool
  gpi1     : Bool
  gpo0     : Bool
  gpo1     : Bool
  /-- Issues left of a REP (R178). -/
  rep      : Option Nat
  /-- A LOOP in progress: its first address, END, iterations left (R180). -/
  loop     : Option (BitVec 5 × BitVec 5 × Nat)
deriving DecidableEq, Repr

/-- An address generator whose plate fields are clear: all zero, MOD 0 standing for M 512. -/
def AddrGen.zero : AddrGen := { base := 0, step := 0, mod := 512, bitrev := false, ri := 0, wi := 0 }

/-- An engine no plate uses: cleared. -/
def Engine.cleared : Engine :=
  { mode := .idle, pc := 0, inProgress := false, halt := false, rst := false, startReq := false, accR := 0, accI := 0,
    exp := 0, nw := 0, flags := 0, ag0 := AddrGen.zero, ag1 := AddrGen.zero, omA := [], omB := [], omBlur := none, markA := [], markB := [], ia := [], ib := [],
    oq := [],
    gpi0 := false, gpi1 := false, gpo0 := false, gpo1 := false, rep := none, loop := none }

/-- A plate's header as the loader has checked it (R195). -/
structure PlateHdr where
  kind     : Nat
  secType  : Nat
  owner    : Nat
  autoRel  : Bool
  sealed   : Bool
  svn      : Nat
  totalLen : Nat
  sections : Nat
  designId : BitVec 128
  map      : BitVec 320
  ivBase   : BitVec 64
deriving DecidableEq, Repr

/-- A retained plate (R230): its source and place, its header, and the offset, length and digest of its sections when it was loaded. -/
structure Retained where
  flash   : Bool
  addr    : Nat
  hdr     : PlateHdr
  digests : List (Nat × Nat × BitVec 256)
deriving DecidableEq, Repr

/-- A section descriptor (R197): its type, die and sector, whether it is sealed, frame or record count, place, tag and digest; its
index and the bytes 0x00 to 0x17 that are the additional data of its seal (R204). -/
structure PlateSec where
  index  : Nat
  typ    : Nat
  die    : Nat
  sector : Nat
  sealed : Bool
  count  : Nat
  off    : Nat
  len    : Nat
  tag    : Nat
  digest : BitVec 256
  aad    : List Nat
deriving DecidableEq, Repr

/-- A link (R219 to R222). -/
structure Link where
  clock   : Nat
  latency : Nat
  sendSec : Nat
  sendLine : Nat
  recvSec : Nat
  recvLine : Nat
  recvTap : Nat
  freeze  : Bool
  /-- Its route; none where none has been found. -/
  hops    : List Hop
  /-- Its route is being written, or no free group was found for it. -/
  writing : Bool
deriving DecidableEq, Repr

/-- A load in progress (R208). -/
structure Load where
  id       : Nat
  /-- The v2 opcode that waits for it: PLATE_LOAD, PLATE_RELOCATE, or 0 for firmware's own. -/
  op2      : Nat
  /-- 0 CHECK (a freeze comes first), 1 STREAM, 2 VERIFY. -/
  state    : Nat
  flash    : Bool
  addr     : Nat
  hdr      : PlateHdr
  secs     : List PlateSec
  targets  : List Nat
  /-- Region of each target sector, in the order of targets, and the POLICY words. -/
  regions  : List Nat
  policies : List (Nat × BitVec 32)
  retain   : Bool
  /-- The sector a relocation moves the region from. -/
  moveFrom : Option Nat
  /-- An automatic relocation (R227); the boot plate (R42). -/
  auto     : Bool
  boot     : Bool
  /-- The frame records still to be taken: section index and record. -/
  records  : List (Nat × Nat)
  /-- The sealing keys as they stood when the load entered STREAM (R609). -/
  keys     : List (BitVec 256)
  /-- The header and the section table as CHECK read them, and the stored bytes of the sections read so far, by index. -/
  signed   : List Nat
  bytes    : List (Nat × List Nat)
  /-- The links that its LINKS sections declare. -/
  links    : List (Nat × Link)
  /-- Fabric PLLs it configures, 16d + n. -/
  plls     : List Nat
deriving DecidableEq, Repr

/-- A region beside the sector states (R189, R197). -/
structure Region where
  policy    : BitVec 32
  retained  : Option Retained
  lastLoad  : Nat
  owner     : Nat
  designId  : BitVec 128
  sealed    : Bool
  relocatable : Bool
  /-- Loaded by a full plate, whose regions are released together (R213). -/
  full      : Bool
  /-- Loaded as the boot plate (R42). -/
  boot      : Bool
  svn       : Nat
  /-- SHA-256 of the signed bytes of its plate (R203, R612). -/
  digest    : BitVec 256
deriving DecidableEq, Repr

/-- A freeze in progress (R214): 0 draining, 1 waiting for the marker. -/
structure Freeze where
  region : Nat
  phase  : Nat
  /-- DEV_TIME at which it began: DRAIN_LIMIT runs from it. -/
  since  : BitVec 64
deriving DecidableEq, Repr

/-- A release waiting for the next marker (R213). -/
structure Release where
  id      : Nat
  regions : List Nat
deriving DecidableEq, Repr

/-- A relocation cutover (R226): its load, the region, its old and new sectors, and the step reached: 0 the target is LOADED, 1 the old
sector is being frozen, 2 frozen, 3 joining drivers switched. -/
structure Cutover where
  id     : Nat
  region : Nat
  old    : Nat
  new    : Nat
  step   : Nat
  auto   : Bool
  /-- The region's links as they stand after it: their numbers, ends and routes. -/
  links  : List (Nat × Link)
deriving DecidableEq, Repr

/-- The configuration engines and the loader beside their registers (07). -/
structure CfgSt where
  /-- Configuration frames, key 6656 sector + frame: none is the cleared content (R116, R198). -/
  frames   : Sp (Option (BitVec 2048))
  /-- The fields as the stored bits give them, upsets and transit fields included; the key is of kind, place and index in a sector. -/
  fields   : Sp Nat
  /-- The link that a transit field belongs to, by the field's key; 0 none (R220). -/
  transit  : Sp Nat
  /-- Bits of a stored frame that an upset has changed: 0 to 2,047 data, then the 13 SECDED check bits, then the CRC-32 (R201, R228). -/
  upsets   : Sp (List Nat)
  /-- The bit a frame's last scrub passes corrected, and how many passes in a row (R231). -/
  fixes    : Sp (Nat × Nat)
  /-- DEV_TIME of a sector's last multi-bit error (R231). -/
  lastMbe  : Sp (Option (BitVec 64))
  /-- The next frame the scrub of each die reads, 0 to 532,479 (R228). -/
  scrubPos : Sp Nat
  regions  : Sp Region
  loads    : List Load
  nextLoad : Nat
  freezes  : List Freeze
  releases : List Release
  /-- Region resets: the region, and whether the hold has begun (R215). -/
  resets   : List (Nat × Bool)
  cutovers : List Cutover
  links    : Sp (Option Link)
  /-- Owning region of each access point, key 96d + k (R197); 0 none. -/
  apOwner  : Sp Nat
  /-- Owning region of each pin assigned to the fabric or a TPP, key 384d + n; 0 none. -/
  pinOwner : Sp Nat
  /-- Fabric PLL settings, key 16d + n (R81, R197). -/
  fplls    : Sp (Option FpllSet)
  /-- The fabric PLL and the output that drive each global clock network, key 32d + n (R82). -/
  nets     : Sp (Option (Nat × Nat))
  /-- Sectors waiting for a reload under ON_MBE 2 (R229). -/
  mbeWait  : List Nat
deriving DecidableEq, Repr

/-- A region no plate has named. -/
def Region.none : Region :=
  { policy := 0, retained := Option.none, lastLoad := 0, owner := 0, designId := 0, sealed := false, relocatable := false, full := false, boot := false,
    svn := 0, digest := 0 }

/-- A Shutter session (08). Block: 0 IDLE, 1 ARMED, 2 CAPTURING, 3 READING, 4 HELD (R239). -/
structure ShutSt where
  state     : Nat
  cmd       : Option Cmd
  stop      : Bool
  ram       : Bool
  kind      : Nat
  line      : Nat
  session   : BitVec 16
  domain    : BitVec 128
  map       : BitVec 320
  base      : Nat
  /-- T, once it is set (R234). -/
  time      : Option (BitVec 64)
  /-- Masked networks that have delivered their capture edge, and those that delivered none in 1 ms (R236). -/
  captured  : BitVec 128
  /-- Those that have also delivered the falling edge after it (R233). -/
  fell      : BitVec 128
  noEdge    : BitVec 128
  /-- Sectors of the map that were not LIVE at T (R237), and those loaded or cleared since (R247). -/
  notLive   : BitVec 320
  stale     : BitVec 320
  /-- Sectors whose masked networks are stopped by a stop-shutter (R241). -/
  held      : BitVec 320
  /-- The next record of the sheet, in the order clusters, memories; records written of each; a write met an error. -/
  next      : Nat
  clusters  : Nat
  memories  : Nat
  destError : Bool
  /-- SHUTTER_RESUME waits for the next marker (R242). -/
  resume    : Option Cmd
deriving DecidableEq, Repr

/-- No session. -/
def ShutSt.idle : ShutSt :=
  { state := 0, cmd := none, stop := false, ram := false, kind := 0, line := 0, session := 0, domain := 0, map := 0,
    base := 0, time := none, captured := 0, fell := 0, noEdge := 0, notLive := 0, stale := 0, held := 0, next := 0, clusters := 0,
    memories := 0, destError := false, resume := none }

/-- I/O banks beside their registers (09): banks in VCCO_FAULT, and the voltage of each bank's VCCO in mV, by 8 d + b; the safe state in force of each
pin, by 384 d + n, and pins whose new safe state waits for a marker (R261); the level a keeper holds (R259); TERM_EN of each
pin (R265), and what
the sector's logic has at each (R267). -/
structure IoSt where
  faulted  : List Nat
  level    : Sp Nat
  safeNow  : Sp Nat
  safePend : List Nat
  keep     : Sp Bool
  termOn   : Sp Bool
  logic    : Sp PinIo
deriving DecidableEq, Repr

/-- The state of an algorithmic pattern generator (R313, R314): the current and saved values of X, Y and B, DINV, the
background and WRAP. -/
structure ApgSt where
  x    : BitVec 16
  y    : BitVec 16
  b    : BitVec 5
  sx   : BitVec 16
  sy   : BitVec 16
  sb   : BitVec 5
  dinv : Bool
  bg   : BitVec 3
  wrap : Bool
deriving DecidableEq, Repr

/-- Consecutive applications of one word whose compare results are still to come (R325): the first VECNUM, how many, the
start of the first and the period in ps, the timing set, PECs, the APG state of the first and the instruction executed
after each, and the sites enabled. -/
structure AppBatch where
  first  : Nat
  count  : Nat
  start  : Nat
  period : Nat
  tset   : Nat
  pec    : BitVec 192
  apg    : ApgSt
  instr  : Option Nat
  sites  : BitVec 8
deriving DecidableEq, Repr

/-- A loop on the loop stack (R281): its body, passes left. -/
structure SeqLoop where
  first : Nat
  last  : Nat
  left  : Nat
deriving DecidableEq, Repr

/-- A fail record on its way to a queue (R329). -/
structure FailRec where
  queue : Nat
  word  : BitVec 256
deriving DecidableEq, Repr

/-- A site's record path in a run (R334, R335): compare fails counted against LIMIT, the instant from which LIMIT_DISABLE
disables it in ps, and the records lost since the last marker, with the VECNUM and SEQ of the first. -/
structure SiteRun where
  fails    : Nat
  limitAt  : Option Nat
  lost     : Nat
  lostVec  : Nat
  lostSeq  : Nat
deriving DecidableEq, Repr

/-- A site at run start. -/
def SiteRun.fresh : SiteRun := { fails := 0, limitAt := none, lost := 0, lostVec := 0, lostSeq := 0 }

/-- A line of the bitmap coalescing cache, or an outstanding atomic OR: address, mask and the sites whose bits it holds. -/
structure BmLine where
  addr  : Nat
  mask  : BitVec 512
  sites : BitVec 8
deriving DecidableEq, Repr

/-- A test pattern processor beside its registers (10, 11). -/
structure Tpp where
  /-- The vector cache: words of 256 bits (R307). -/
  cache    : Sp (BitVec 256)
  /-- The run's settings (R300). -/
  startSrc : Nat
  buf      : Nat
  group    : Nat
  word     : Nat
  segs     : List (Nat × Nat)
  offset   : Int
  /-- The run's charge of R309 in MB/s: in all, by set, by channel. -/
  charge   : Rat
  charges  : List Rat
  /-- START_F held while not READY (R677), and the start instant once set, in ps. -/
  startHeld : Bool
  startAt  : Option Int
  /-- The start of the next application in ps, and the run's start instant. -/
  time     : Nat
  t0       : Nat
  loops    : List SeqLoop
  /-- Calls: the CALL's address and the loops active at it. -/
  calls    : List (Nat × Nat)
  /-- Applications done of a WAIT_TRIG in progress; stream vectors left of a STREAM in progress and its word. -/
  waited   : Nat
  streaming : Option Nat
  /-- The run ends at the first period boundary at or after this instant, with this code (R305). -/
  stop     : Option (Nat × Nat)
  /-- The last application has ended: END_CODE to write, and its instant (R345). -/
  ended    : Option (Nat × Nat)
  /-- Triggers seen and not consumed: fabric, number, instant (R284). -/
  trigs    : List (Bool × Nat × Int)
  /-- Site enables of TPP_SITE, SITE_OFF acting and at the port, and changes on their way: instant, SITE_OFF, mask. -/
  siteEn   : BitVec 8
  siteOff  : BitVec 8
  siteLine : BitVec 8
  siteQ    : List (Nat × Bool × BitVec 8)
  /-- Pins: last driven level L, driver on, taken over by the vectors, termination class: 0 safe state, 1 drive, 2 off,
  3 compare, 4 mask (R273, R274, R297). -/
  lvl      : BitVec 48
  drv      : BitVec 48
  owned    : BitVec 48
  term     : Sp Nat
  /-- Stream buffer (R308): the next line to read, lines asked for, lines held (none: poisoned), and the place of the
  next vector: segment and vector. -/
  sNext    : Nat
  sAsked   : List Nat
  sLines   : Sp (Option (Option (BitVec 512)))
  sSeg     : Nat
  sVec     : Nat
  /-- What a calibration stores without a register (R292): the phase of the bank's base clock, the number from which the linearity corrections
  of its placement units stand, and the VCCO of the bank in mV then (R290). -/
  basePhase : Nat
  linearity : Nat
  calLevel  : Nat
  apg      : ApgSt
  batches  : List AppBatch
  sites    : Sp SiteRun
  fifo     : List FailRec
  bmLines  : List BmLine
  bmOut    : List BmLine
  /-- Events of R335, R340 and R342 raised in this run. -/
  saidLost : Bool
  saidBm   : Bool
  saidCnt  : Bool
deriving DecidableEq, Repr

/-- An APG that has never started. -/
def ApgSt.zero : ApgSt := { x := 0, y := 0, b := 0, sx := 0, sy := 0, sb := 0, dinv := false, bg := 0, wrap := false }

/-- A TPP after its reset. -/
def Tpp.reset : Tpp :=
  { cache := [], startSrc := 0, buf := 0, group := 0, word := 0, segs := [], offset := 0, charge := 0, charges := [],
    startHeld := false, startAt := none, time := 0, t0 := 0, loops := [], calls := [], waited := 0, streaming := none,
    stop := none, ended := none, trigs := [], siteEn := 0, siteOff := 0, siteLine := 0, siteQ := [], lvl := 0, drv := 0,
    owned := 0, term := [], sNext := 0, sAsked := [], sLines := [], sSeg := 0, sVec := 0, basePhase := 0, linearity := 0, calLevel := 0, apg := ApgSt.zero,
    batches := [], sites := [], fifo := [], bmLines := [], bmOut := [], saidLost := false, saidBm := false,
    saidCnt := false }

/-- A block waiting in a lane's receive FIFO (R348): control flag, RX_ERR and payload. -/
structure RxBlk where
  ctrl    : Bool
  err     : Bool
  payload : BitVec 64
deriving DecidableEq, Repr

/-- An eye scan in progress (R372): first H and V, their counts and steps, DWELL and destination. -/
structure EyeScan where
  h0    : Int
  hs    : Nat
  hStep : Nat
  v0    : Int
  vs    : Nat
  vStep : Nat
  dwell : Nat
  addr  : Nat
deriving DecidableEq, Repr

/-- A serial lane beside its registers (12). -/
structure LaneSt where
  /-- LANE_CFG as it stood at the last LANE_UP. -/
  cfg      : BitVec 64
  /-- Bring-up (R358): 0 waiting for block lock and CAPS in BASE, 1 EQ in BASE, 2 CHECK in BASE, 3 the code's CHECK passed. -/
  phase    : Nat
  nonce    : BitVec 8
  farNonce : Option (BitVec 8)
  seq      : BitVec 8
  /-- The message being repeated (R357). -/
  msg      : Option (BitVec 64)
  /-- The code of a STEP_REQ sent, or of a step in progress whose transmitter has not switched. -/
  asked    : Option Nat
  stepTo   : Option Nat
  /-- Codes that failed since LANE_UP, and EQ and CHECK at a code fallen back to (R360). -/
  failed   : BitVec 8
  back     : Bool
  /-- Result of the CHECK or lock of a group lane at its code, while the others' are awaited (R365). -/
  result   : Option Bool
  /-- DEV_TIME at which it left DISABLED or entered BASE, BASE retries since, LANE_NO_PARTNER raised (R360). -/
  since    : BitVec 64
  retries  : Nat
  said     : Bool
  /-- Loopback kind and SQUELCH (R370); PRBS polynomial, generator, checker, inversion (R371); one has ended. -/
  loop     : Nat
  squelch  : Bool
  poly     : Nat
  gen      : Bool
  chk      : Bool
  inv      : Bool
  tested   : Bool
  scan     : Option EyeScan
  /-- Consecutive valid headers up to 64, and which of the last 64 headers were invalid, the latest in bit 0 (R354); an invalid header or a bad LNB
  in CHECK (R359); a data lane that failed with no spare left (R369). -/
  good     : Nat
  bad      : BitVec 64
  spoiled  : Bool
  lost     : Bool
  /-- Scrambler and descrambler (R353): the last 58 scrambled bits, the latest in bit 0. -/
  tx       : BitVec 58
  rx       : BitVec 58
  /-- Receive FIFO of 64 port cycles, and the next block delivered follows a drop (R349). -/
  fifo     : List RxBlk
  dropped  : Bool
  /-- RAW mode (R356): bits received that do not fill a word yet, and how many. -/
  rawBits  : BitVec 64
  rawCount : Nat
  /-- Transmitted generator bits; checker: last 31 bits, error-free bits while unlocked, locked, errors of the last 64 bits. -/
  genReg   : BitVec 31
  chkReg   : BitVec 31
  chkGood  : Nat
  chkLock  : Bool
  chkErrs  : BitVec 64
  /-- Copies of the five counters at the last SNAP. -/
  snaps    : Sp (BitVec 48)
  /-- The logical lane of its own port, 16 and 17 for spares (R365); markers sent. -/
  port     : Nat
  bmk      : BitVec 24
  /-- Sender's side of a steering (R367): the spare, and whether DUP is sent. -/
  sendOn   : Option (Nat × Bool)
  /-- Receiver's side: started, abrupt with its DEV_TIME, blocks flagged, the spare on which DUP has been seen. -/
  steer    : Option (Option (BitVec 64) × Nat × Option Nat)
deriving DecidableEq, Repr

/-- A lane after its reset. -/
def LaneSt.reset : LaneSt :=
  { cfg := 0, good := 0, bad := 0, spoiled := false, lost := false, phase := 0, nonce := 0, farNonce := none, seq := 0, msg := none, asked := none, stepTo := none, failed := 0,
    back := false, result := none, since := 0, retries := 0, said := false, loop := 0, squelch := false, poly := 0,
    gen := false, chk := false, inv := false, tested := false, scan := none, tx := 0, rx := 0, fifo := [],
    dropped := false, rawBits := 0, rawCount := 0, genReg := 0, chkReg := 0, chkGood := 0, chkLock := false, chkErrs := 0,
    snaps := [], port := 31, bmk := 0, sendOn := none, steer := none }

/-- The form a line is stored in (R421, R437): its key, tagged mode, epoch, its device address [47:6] and its region, 64
where it lies in none. -/
structure LineForm where
  key    : Option (BitVec 128)
  tagged : Bool
  epoch  : Bool
  addr   : Nat
  region : Nat
deriving DecidableEq, Repr

/-- What a read in a channel serves: a read, a locked pair, or the sweep (R384, R438). -/
inductive DKind where
  | read | pair | sweep
deriving DecidableEq, Repr

/-- A read in a channel (R384): its requester's number, line, view (R433), form at issue, whether it is a stream read,
the DEV_TIME of its acceptance, and the data of a locked pair. -/
structure DReq where
  id      : Nat
  kind    : DKind
  line    : Nat
  scr     : Bool
  form    : LineForm
  stream  : Bool
  time    : BitVec 64
  merge   : Option Merge
  /-- DEV_TIME at which its burst was issued; none before, or where the write queue answered it. -/
  issued  : Option (BitVec 64)
deriving DecidableEq, Repr

/-- A write in a channel's write queue: its line in stored form, its tag, and the DEV_TIME at which it entered. -/
structure DWrite where
  line : Nat
  data : BitVec 512
  tag  : BitVec 32
  time : BitVec 64
deriving DecidableEq, Repr

/-- A read that has returned to the line scrambler: stored form, stored tag, uncorrectable. -/
structure DRet where
  req  : DReq
  data : BitVec 512
  tag  : BitVec 32
  bad  : Bool
deriving DecidableEq, Repr

/-- An alert on a subchannel (R400, R401): replays begun for it, and whether ALERT_N is still asserted, and the DEV_TIME at which it
was. -/
structure DAlert where
  replays  : Nat
  asserted : Bool
  time     : BitVec 64
deriving DecidableEq, Repr

/-- Why a channel trains (R409): Stage 3, DRAM_TRAIN, DRAM_ONLINE, DRAM_RECOVER, the end of a die
reset. -/
inductive TrainWhy where
  | stage3 | command | online | recover | dieReset
deriving DecidableEq, Repr

/-- A DRAM channel beside its registers (13), with the DRAM on it. -/
structure DcSt where
  /-- What the last SPD read found. -/
  dimm      : Option Dimm
  /-- Capacity in bytes of the memory that last passed training (R380). -/
  cap       : Nat
  /-- Lines in stored form and their stored tags, by channel offset [37:6]. -/
  lines     : Sp (BitVec 512)
  tags      : Sp (BitVec 32)
  /-- 1 MiB blocks below this one are initialised, and those listed beside it (R406, R407). -/
  initBelow : Nat
  initExtra : List Nat
  rq        : List DReq
  issued    : List DReq
  rets      : List DRet
  wq        : List DWrite
  /-- A drain is active; a forced one (R389, R390). -/
  drain     : Bool
  forced    : Bool
  /-- The line of the open locked pair, and of the sweep's conversion (R384, R437). -/
  lock      : List Nat
  /-- Slots of the present window of 128 given to stream reads and to other traffic (R391), by subchannel. -/
  streamUsed : Sp Nat
  otherUsed  : Sp Nat
  /-- The open row of each bank: key 4096 subchannel + bank. -/
  openRows  : Sp (Option Nat)
  /-- Tracking tables (R396): key 16 x bank key + entry: row and count. -/
  acts      : Sp (Option (Nat × Nat))
  /-- Refresh intervals due and not issued, by subchannel and rank: key 4 subchannel + rank (R395). -/
  owed      : Sp Nat
  hotRanks  : List Nat
  /-- Correctable errors of the last second by DQ pair group (R403): subchannel, rank, group, line, DEV_TIME. -/
  ceSeen    : List (Nat × Nat × Nat × Nat × Nat)
  suspects  : List (Nat × Nat × Nat)
  training  : Option TrainWhy
  /-- The rate that training was asked for (R413, R414), by its code of DC_STATUS.RATE. -/
  rateAsked : Option Nat
  /-- Ranges of lines that a self-test march has overwritten: first line, last line, and the number of the free values they
  hold. -/
  blurs     : List (Nat × Nat × Nat)
  alerts    : Sp (Option DAlert)
  /-- The retry buffer of each subchannel (R399): its last 64 commands, oldest first, each with the DEV_TIME of its issue. -/
  retry     : Sp (List (BitVec 64 × DCmd))
  /-- The next line the patrol scrub reads (R404). -/
  patrolPos : Nat
  /-- The DRAM is in self-refresh (R50, R409). -/
  selfRefresh : Bool
  /-- Contents were lost while the channel is in CHANNEL_ERROR (R643, R417). -/
  lost      : Bool
  /-- MAP_HASH since the last Stage 3 (R379); DC_SCHED, DC_REFRESH and DC_ACT_THRESH since the last refresh interval. -/
  mapHash   : Bool
  schedNow  : Nat
  refNow    : Nat
  actNow    : Nat
  /-- The place in the present window of 128 slots, by subchannel (R391); the bank that the next same-bank refresh of a
  subchannel and rank takes. -/
  slotNo    : Sp Nat
  refBank   : Sp Nat
deriving DecidableEq, Repr

/-- A channel after a Device reset. -/
def DcSt.reset : DcSt :=
  { dimm := none, cap := 0, lines := [], tags := [], initBelow := 0, initExtra := [], rq := [], issued := [], rets := [],
    wq := [], drain := false, forced := false, lock := [], streamUsed := [], otherUsed := [], openRows := [], acts := [],
    owed := [], hotRanks := [], ceSeen := [], suspects := [], training := none, rateAsked := none, blurs := [], alerts := [], retry := [], patrolPos := 0,
    selfRefresh := false, lost := false, mapHash := true, schedNow := 0x5060, refNow := 0x1800, actNow := 0x0800,
    slotNo := [], refBank := [] }

/-- The DRAM mapping in force (R28 to R31): mode, granule setting, and the capacity of each channel in bytes. -/
structure DMap where
  mode : Nat
  gran : Nat
  caps : List Nat
deriving DecidableEq, Repr

/-- A re-key that runs or waits (R436, R440): its region and command. -/
structure Sweep where
  region : Nat
  cmd    : Cmd
deriving DecidableEq, Repr

/-- Line scramblers beside their registers (14): the keys that Greone firmware holds for the slots, the key slots of each line scrambler
(key 16n + slot), and sweeps in arrival order, the first running. -/
structure LsuSt where
  keys   : Sp (Option (BitVec 128))
  slots  : Sp (Option (BitVec 128))
  /-- The generation of each slot's key (R610). -/
  gens   : Sp Nat
  sweeps : List Sweep
deriving DecidableEq, Repr


/-- A non-posted part that holds a network tag (R461): its initiator and tag, the request it belongs to, the target port it is
addressed to, whether it stands in that port's table (0 waits for an entry, 1 in the table, 2 seen answered; R468), and its kind
(0 RD, 1 WR_NP, 3 AOR). -/
structure NetPart where
  src   : Nat
  tag   : Nat
  req   : Nat
  dst   : Nat
  phase : Nat
  kind  : Nat
deriving DecidableEq, Repr

/-- A non-posted request at its initiator bridge (R460): its number, the initiator and its label, parts without a response, and
the worst status so far. -/
structure NetReq where
  num   : Nat
  src   : Nat
  label : Nat
  left  : Nat
  worst : Nat
deriving DecidableEq, Repr

/-- What a fence is for: the initiator's own fence with its label (R475), a round of GLOBAL_FENCE (R476), or the hold of a
re-route's step 4 (R466). -/
inductive FenceFor where
  | own (label : Nat)
  | global (round : Nat)
  | flip
deriving DecidableEq, Repr

/-- A fence in progress at an initiator port: the tags and the targets it waits for. -/
structure NetFence where
  src  : Nat
  what : FenceFor
  tags : List Nat
  dsts : List Nat
deriving DecidableEq, Repr

/-- A set of routing tables (R464, R465, R500): the fabric dies it routes around and absorbs, the sites present, the modules that no
entry names, and the modules that half of the entries of their edge name. -/
structure TableSet where
  gone   : BitVec 4
  sites  : BitVec 3
  spared : List Nat
  halved : List Nat
deriving DecidableEq, Repr

/-- The default set: every die in service, every site present. -/
def TableSet.default : TableSet := { gone := 0, sites := 7, spared := [], halved := [] }

/-- A re-route (R466): the set it installs, the sites whose ports must move first (R478), and the step reached: 0 waiting its turn,
1 tables written, 2 confirmed and waiting for the marker, 3 flipped; DEV_TIME of its flip; NOC_REROUTE_SLOW raised. -/
structure Reroute where
  set     : TableSet
  sites   : List Nat
  step    : Nat
  flipped : BitVec 64
  slow    : Bool
deriving DecidableEq, Repr

/-- A flit in a router's buffers that waits for its output port (R458). -/
structure RtFlit where
  router  : Nat
  port    : Nat
  header  : BitVec 128
  payload : BitVec 512
deriving DecidableEq, Repr

/-- The network beside its registers (15). -/
structure NetSt where
  /-- Block of the target port of each site's window (R469, R671), by site, coded as NOC_TPORT_STATUS.STATE. -/
  sitePorts : Sp Nat
  parts     : List NetPart
  reqs      : List NetReq
  nextReq   : Nat
  /-- Posted writes not known to have taken effect: initiator, target, and the fence markers sent to the target behind them. -/
  posted    : List (Nat × Nat × Nat)
  fences    : List NetFence
  reroutes  : List Reroute
  /-- The set that routing table 0 or 1 of every router holds (R462, R465). -/
  tables    : Sp TableSet
  /-- Rounds of GLOBAL_FENCE started; commands that wait for the next marker are of this round (R476). -/
  gfRound   : Nat
  /-- Domains switched off, and domains that drain (R470): column 10 d + c, 40 + channel, 48 + TPP, 72 + site. -/
  domOff    : List Nat
  domDrain  : List Nat
  /-- Isolated target ports whose block, region or site has not been reset since (R479). -/
  unreset   : List Nat
  /-- Credits that a router output port has spent and not got back (R457): key 64 router + 4 port + VC. -/
  spent     : Sp Nat
  /-- The burst a router has started on an output VC and not ended (R458), by the same key: its SRC and DST. -/
  bursts    : Sp (Option (Nat × Nat))
  flits     : List RtFlit
deriving DecidableEq, Repr


/-- A packet at a sending bridge (R491): its VC, its NoC flits, its units in order, and for carried traffic the module they
belong to. -/
structure LinkPkt where
  vc    : Nat
  flits : Nat
  units : List (List Nat)
  sib   : Option Nat
deriving DecidableEq, Repr

/-- A packet that a receiving bridge is rebuilding (R491): its NoC header without HECC, and the ADDR of its first flit. -/
structure LinkRx where
  header : Nat
  addr   : Nat
  count  : Nat
deriving DecidableEq, Repr

/-- One end of a die-link module beside its registers (16): key 34 die + module, die 4 for HD. -/
structure LinkEnd where
  /-- Failed-lane maps (R484, R487): this end's receiver and its record of the peer's, lanes 0 to 63 and spares 64 to 67;
  the width held under R488. -/
  rxFail   : BitVec 68
  txFail   : BitVec 68
  heldAt   : Nat
  /-- CAPS of the peer, and a lane below margin that the retrain is to replace (R501). -/
  caps     : BitVec 64
  low      : Option Nat
  /-- Sender: next sequence number, the flits of the replay buffer with their payloads from the last one acknowledged on
  (true: the first of them is acknowledged), packets waiting, the flits of the packet being taken from the router, and
  the SEQ last replayed from with the replays in a row (R493). -/
  txSeq    : Nat
  held     : List (Nat × List Nat)
  headAck  : Bool
  queue    : List LinkPkt
  taking   : List (BitVec 128 × BitVec 512)
  replays  : Nat × Nat
  /-- Credits per VC, the last CREDIT counts received, credits given at the first ACTIVE (R494). -/
  credit   : Sp Nat
  seen     : Sp Nat
  started  : Bool
  /-- Receiver: the sequence number expected, a NAK is out, bytes of an unfinished unit, where its first unaccepted unit
  began (flit and offset), the packet being rebuilt, NoC flits passed on per VC. -/
  rxSeq    : Nat
  nak      : Bool
  part     : List Nat
  unitAt   : Nat × Nat
  rx       : Option LinkRx
  passed   : Sp Nat
  /-- Carry-over (R497): the carrier and whether it has acknowledged; units carried out and in; the COUNT of RESUME, and the units of the
  module itself that wait for it. -/
  carrier  : Option (Nat × Bool)
  outCount : Nat
  inCount  : Nat
  resumeAt : Option Nat
  late     : List (List Nat)
  /-- DL_DOWN waits for its re-route (R499). -/
  downDue  : Bool
deriving DecidableEq, Repr

/-- A module end after its reset. -/
def LinkEnd.reset : LinkEnd :=
  { rxFail := 0, txFail := 0, heldAt := 0, caps := 0, low := none, txSeq := 0, held := [], headAck := false, queue := [], taking := [],
    replays := (0, 0), credit := [], seen := [], started := false, rxSeq := 0, nak := false, part := [], unitAt := (0, 0),
    rx := none, passed := [], carrier := none, outCount := 0, inCount := 0, resumeAt := none, late := [], downDue := false }

/-- Die links beside their registers (16): module ends; modules whose forwarded clock is lost, and edges whose receiving die
changes its clock at the next marker (R482); edges that have lost every module (R504). -/
structure DlSt where
  ends     : Sp LinkEnd
  clkLost  : List Nat
  clkMove  : List Nat
  edgeDown : List Nat
deriving DecidableEq, Repr

/-- A queue context (R509); positions count modulo 2D (R510). -/
structure QCtx where
  base    : Nat
  valid   : Bool
  sub     : Bool
  es64    : Bool
  irq     : Bool
  greone  : Bool
  wb      : Bool
  pin     : Bool
  log2    : Nat
  vector  : Nat
  tail    : Nat
  head    : Nat
  pushSrc : BitVec 12
  error   : Bool
  full    : Bool
  wbAddr  : Nat
  deliv   : Nat
  window  : Nat
  credit  : Nat
  dropped : BitVec 31
  ovf     : Bool
deriving DecidableEq, Repr

/-- No queue. -/
def QCtx.none : QCtx :=
  { base := 0, valid := false, sub := false, es64 := false, irq := false, greone := false, wb := false, pin := false,
    log2 := 0, vector := 0, tail := 0, head := 0, pushSrc := 0, error := false, full := false, wbAddr := 0, deliv := 0,
    window := 0, credit := 0, dropped := 0, ovf := false }

/-- A context in the cache, and whether it has changed since it was read (R511). -/
structure QCache where
  ctx   : QCtx
  dirty : Bool
deriving DecidableEq, Repr

/-- Work at the doorbell port: the initiator's port ID, the queue and what it asks. -/
inductive QWork where
  | push (src q : Nat) (wide : Bool) (data : BitVec 512)
  | doorbell (src q value : Nat)
  | credit (src q n : Nat)
deriving DecidableEq, Repr

/-- A ring write on its way: its queue, first position, entries, their address and bytes, the DEV_TIME at which the first was
accepted, and whether its queue has not been reset since. -/
structure RingWrite where
  q     : Nat
  pos   : Nat
  n     : Nat
  addr  : Nat
  bytes : List Nat
  time  : BitVec 64
  live  : Bool
deriving DecidableEq, Repr

/-- A firing of a vector in progress (R523; host vectors 0 to 4,095, Greone vectors from 4,096): the ring writes it waits for,
as queue and position; entries counted after its fence began; whether AWAKE began it (R527). -/
structure VecFire where
  vec   : Nat
  wait  : List (Nat × Nat)
  later : Nat
  woken : Bool
deriving DecidableEq, Repr

/-- The queue engine beside its registers (17). -/
structure QeSt where
  cache     : Sp (Option QCache)
  /-- Work that waits for a context to be read (R511). -/
  waiting   : List QWork
  /-- Queues whose context access failed and is to be retried (R512). -/
  retry     : List Nat
  /-- Owner of each group: none is Greone firmware (R508). -/
  owners    : Sp (Option Port)
  /-- The queues that exist, and those that a QE_QUEUE_DESTROY waits to end (R530). -/
  made      : List Nat
  closing   : List Nat
  writes    : List RingWrite
  /-- Reads of submitted entries on their way: queue, position, entries. -/
  fetches   : List (Nat × Nat × Nat)
  /-- Entries delivered since a queue's creation (R519). -/
  delivered : Sp Nat
  /-- Queues whose QE_DOORBELL_BAD has been raised since they were reset (R515). -/
  badSaid   : List Nat
  /-- Positions of a queue that were taken and will never be published (R518). -/
  lost      : Sp Nat
  /-- Queues whose HEAD is to be written back (R520). -/
  wbDue     : List Nat
  /-- Vectors whose timer has run for TIMER_US, or that an error fires, and that have not fired since (R518, R523). -/
  due       : List Nat
  firings   : List VecFire
  /-- Host vectors whose one firing ENTERING waits for (R525); AWAKE has arrived meanwhile. -/
  entering  : List Nat
  awakeSeen : Bool
deriving DecidableEq, Repr

/-- The event interrupt controller beside its registers (18). -/
structure EicSt where
  /-- The wake line to H0 has been asserted in this sleep for a held notification (R548). -/
  wokeHost : Bool
  /-- The taps of LIVE sectors that drive a fabric interrupt line high: sector and line (R534). -/
  taps     : List (Nat × Nat)
deriving DecidableEq, Repr

/-- Mailboxes beside their rings and registers (19). -/
structure MbxSt where
  /-- Responses decided and not yet written, in order of completion (R568). -/
  rsp      : List Rsp
  /-- Commands taken and not yet answered. -/
  opens    : List OpenCmd
  /-- Port levels are capped here by EXPERT_DROP (R566), 2 where none was issued; by port number. -/
  levelCap : Sp Nat
deriving DecidableEq, Repr

/-- Events and the event log (19). -/
structure EvSt where
  /-- EVENT frames on their way to HD, oldest first. -/
  frames   : List EvFrame
  /-- The hardware FIFO of 512 entries (R582). -/
  fifo     : List EvFrame
  /-- Events counted while the FIFO was full (R582). -/
  lost     : Nat
  /-- The log in Greone SRAM, oldest first, at most 4,096 entries. -/
  log      : List EvEntry
  nextSeq  : BitVec 31
  /-- The next entry written is the first after a Greone restart. -/
  first    : Bool
  /-- The event queue and its severity floor (R584). -/
  queue    : Option (Nat × Nat)
deriving DecidableEq, Repr

/-- A test in the schedule (R577). -/
structure TestEntry where
  test   : Nat
  quiet  : Nat
  target : Nat
  time   : Nat
  args   : Nat
  port   : Port
deriving DecidableEq, Repr

/-- A self-test that is running: its ID, its target, and who waits for it: a schedule slot, or a command (held among
the open commands); whether firmware quiesced its block and resumes it, and whether it has begun or its channel still drains. -/
structure TestRun where
  test   : Nat
  target : Nat
  slot   : Option Nat
  resume : Bool
  begun  : Bool
deriving DecidableEq, Repr

/-- Greone firmware, Safelight, the settings in SRAM and self-tests (19). -/
structure GreoneSt where
  /-- The boot ROM or firmware serves the mailboxes. -/
  up        : Bool
  /-- A Greone restart is in progress (R552). -/
  restarting : Bool
  /-- A cause has been found and the restart has not begun: 1 LOCKSTEP, 2 WATCHDOG, 3 UPDATE, 4 COMMANDED. -/
  restartDue : Option Nat
  /-- Safelight segments that failed their retries: bit s forward, bit 5 + s reverse (R556). -/
  segFail   : BitVec 10
  /-- Register reads answered over Safelight: SEQ, destination and data (R554). -/
  slReplies : List (Nat × Nat × BitVec 64)
  /-- Settings staged and not committed: ID and value (R586). -/
  staged    : List (Nat × Nat)
  /-- The settings Greone firmware loaded or last wrote: ID and value of each record (R586). -/
  committed : List (Nat × Nat)
  /-- The settings in force where they differ from the defaults (R585). -/
  applied   : List (Nat × Nat)
  /-- The test schedule, slots 0 to 15 (R577). -/
  schedule  : Sp (Option TestEntry)
  tests     : List TestRun
  /-- Status of the last test of each slot, for TEST_STATUS. -/
  slotStatus : Sp Nat
  /-- Channels whose training or self-test a restart has ended, until the restarted firmware reports it (R417). -/
  aborted    : List Nat
deriving DecidableEq, Repr

/-- The fuses of one owner slot (R590, R593). -/
structure OwnerFuse where
  hash : BitVec 256
  prog : Bool
  rev  : Bool
deriving DecidableEq, Repr

/-- An unprogrammed slot. -/
def OwnerFuse.blank : OwnerFuse := { hash := 0, prog := false, rev := false }

/-- The fuse array (R590): the hardware secret and the identity bank, written at manufacture, and as readings the fuses that commands can
change (R592); EXPERT_CEIL counts 0 DIRECT, 1 EXPERT, 2 BASIC. -/
structure Fuses where
  secret     : BitVec 256
  primeP     : BitVec 1536
  primeQ     : BitVec 1536
  idCert     : List (BitVec 8)
  mfgCert    : List (BitVec 8)
  owners     : Sp OwnerFuse
  fwSvn      : Nat
  plateSvn   : Nat
  jtag       : Nat
  expert     : Nat
  svcDisable : Nat
  clearview  : Nat
  updateLock : Nat
deriving DecidableEq, Repr

/-- What a fuse programming request changes: an owner slot, a revocation, lock steps (a bit for each bit of
SEC_FUSE_STATUS[23:16]), a counter (0 firmware, 1 plate) up to a target. -/
inductive FuseWhat where
  | program (slot : Nat) (hash : BitVec 256) (key : BitVec 3072)
  | revoke (slot : Nat)
  | locks (mask : Nat)
  | advance (counter target : Nat)
deriving DecidableEq, Repr

/-- A request in the queue of R591: the opcode of the command that waits for it under the number id, 0 for the device's own;
whether it has started. -/
structure FuseJob where
  id      : Nat
  op2     : Nat
  what    : FuseWhat
  started : Bool
deriving DecidableEq, Repr

/-- A quote (R612, R613): its number, where it goes, its nonce, and once its snapshot is taken its signed bytes. -/
structure Quote where
  id    : Nat
  addr  : Nat
  len   : Nat
  nonce : BitVec 256
  bytes : Option (List Nat)
deriving DecidableEq, Repr

/-- Security beside its registers (20): the owner policy word; BOOT_SALT (R610); the
sealing key and the one before it (R609); the nonce of each port number with its DEV_TIME (R599); the fuse queue; quotes, the
first being signed. -/
structure SecSt where
  policy : BitVec 32
  salt   : BitVec 256
  keyNow : Option (BitVec 256)
  keyOld : Option (BitVec 256)
  nonces : Sp (Option (BitVec 128 × BitVec 64))
  fuseId : Nat
  jobs   : List FuseJob
  quotes : List Quote
deriving DecidableEq, Repr

/-- Fuses of a part whose owner has programmed nothing. -/
def Fuses.blank : Fuses :=
  { secret := Config.hwSecret, primeP := Config.primeP, primeQ := Config.primeQ, idCert := Config.idCert, mfgCert := Config.mfgCert,
    owners := [], fwSvn := 0, plateSvn := 0, jtag := 0, expert := 0, svcDisable := 0, clearview := 0, updateLock := 0 }

/-- An activation record (R622): `slotB` names the ACTIVE slot. -/
structure ActRec where
  seq     : BitVec 32
  slotB   : Bool
  trial   : Bool
  trials  : Nat
  crashes : Nat
deriving DecidableEq, Repr

/-- A settings bank that is valid (R585, R625): its schema, SEQ, records, owner policy word (R611) and sealing keys (R608). -/
structure SetBank where
  schema : Nat
  seq    : BitVec 32
  recs   : List (Nat × Nat)
  policy : Option (BitVec 32)
  keyNow : Option (BitVec 256)
  keyOld : Option (BitVec 256)
deriving DecidableEq, Repr

/-- What is known of a firmware image: VERSION, SVN, SCHEMA, MIN_SCHEMA, SHA-256 of its signed part and of its schema
descriptor (R612, R616). -/
structure ImgInfo where
  version : Nat
  svn     : Nat
  schema  : Nat
  minSch  : Nat
  digest  : BitVec 256
  descr   : BitVec 256
deriving DecidableEq, Repr

/-- A write of the activation record or of a settings bank in progress, with the opcode of the command that waits for it: 0 for
a confirmation, 1 for the clearing of CRASHES. -/
inductive FlashJob where
  | record (r : ActRec) (op2 : Nat)
  | settings (b : SetBank) (op2 : Nat)
deriving DecidableEq, Repr

/-- What a Device reset keeps: the part's markings (R2 to R4), the fuses (20), what the boot ROM holds (its SHA-256 (R612) and the hashes
of the firmware signing keys (R589)), and the configuration flash (R615). The settings
banks, the record copies and the owner key area are held by what they say, none where a copy is not valid; the other areas
by their bytes, 0xFF where erased. `pending` tells an update in progress: 1 receiving, 2 received (R636). -/
structure NvSt where
  speed     : Nat
  temp      : Nat
  fit       : BitVec 16
  fuses     : Fuses
  romHash   : BitVec 256
  romKeys   : List (BitVec 256)
  flashSize : Nat
  flash     : Sp (BitVec 8)
  rec0      : Option ActRec
  rec1      : Option ActRec
  bank0     : Option SetBank
  bank1     : Option SetBank
  ownerKeys : Sp (Option (BitVec 3072))
  pending   : Nat
deriving DecidableEq, Repr

/-- A Service Port READ whose data is awaited (R620): SEQ, ADDR and LEN of its frame, and the lines of data that have come, with their
number from the first. -/
structure SvcRd where
  seq   : Nat
  addr  : Nat
  len   : Nat
  lines : List (Nat × BitVec 512)
deriving DecidableEq, Repr

/-- Firmware update and run locks beside their registers (21): the DEV_TIME at which the run lock of each port number
expires; the image that runs and the DEV_TIME of its boot; the length and bytes of the image being received that are still in
the program buffer, SEQ and ADDR of the last frame taken; an erase and a read-back in progress; flash writes; defaults
accepted (R635); a firmware counter advance that waits for its record (R631). -/
structure FwSt where
  leases   : Sp Nat
  svcRead  : Option SvcRd
  running  : Option ImgInfo
  bootTime : BitVec 64
  length   : Nat
  buffer   : List Nat
  lastSeq  : Option (Nat × Nat)
  flashBad : Bool
  erasing  : Bool
  reading  : Bool
  jobs     : List FlashJob
  accepted : Bool
deriving DecidableEq, Repr

/-- Power and thermal beside their registers (22): dies that read 120 °C or more in the last sample, dies whose THERM_WARN has
been raised and is not re-armed, dies at 110 °C or more; rail readings in mV, and DEV_TIME since which each rail has been out of
tolerance with whether its event has been raised (R649 to R651). -/
structure PwrSt where
  trip    : BitVec 5
  warned  : BitVec 5
  crit    : BitVec 5
  rails   : Sp Nat
  railBad : Sp (Option (BitVec 64 × Bool))
deriving DecidableEq, Repr

/-- The whole block: every piece of state the manual gives it, and the model's own counters. -/
structure Block where
  /-- What the part has put on its outside wires and ports, oldest first. -/
  out     : List Out
  /-- The model's own counter of free values drawn (not the manual's state). -/
  free    : Nat
  /-- DEV_TIME (R80). -/
  devTime : BitVec 64
  /-- Every register of the control space (R36), by its offset there; unlisted ones hold their reset values. -/
  regs    : Sp (BitVec 64)
  start   : StartSt
  ring    : RingSt
  clk     : ClkSt
  seam    : SeamSt
  fab     : FabSt
  /-- Fabric RAMs, key 68 sector + RAM (0 to 59 Tray, 60 to 67 Tank). -/
  rams    : Sp Ram
  /-- Events that are raised once until their cause clears: key the address of the log or register they belong to. -/
  once    : Sp Bool
  /-- MAC engines, key 48 sector + engine. -/
  engines : Sp Engine
  cfg     : CfgSt
  shut    : ShutSt
  io      : IoSt
  /-- Test pattern processors, key n (10, 11). -/
  tpps    : Sp Tpp
  /-- Serial lanes, key n (12). -/
  lanes   : Sp LaneSt
  /-- DRAM channels, key n (13). -/
  dcs     : Sp DcSt
  dmap    : DMap
  lsu     : LsuSt
  net     : NetSt
  dl      : DlSt
  qe      : QeSt
  eic     : EicSt
  mbx     : MbxSt
  ev      : EvSt
  gr      : GreoneSt
  sec     : SecSt
  fwu     : FwSt
  nv      : NvSt
  pwr     : PwrSt
  /-- The JTAG TAP instruction in effect (R605). -/
  tap     : TapInstr
deriving DecidableEq, Repr


/-- The block right after power is applied with PORST_N low: RESET (R39), every register at its reset value.  Values the
manual gives no reset value for are named in the assumption log. DESIGN CHOICE: which part it is (R4): speed grade 2, temperature grade E
(0x45) and fit code HA (0x4148), the ordering code of the manual's own example. -/
def Block.reset : Block :=
  { out := [],
    free := 0,
    devTime := 0,
    regs := [],
    start := { inReset := true, porstLow := true, imageChosen := false, fabricCleared := false, trainingEnded := false,
                 trainingLeft := 0, bootReleased := false, dieHeld := 0, unaligned := 0, fromReset := 0, siteHeld := 7, siteWindow := 7, sitePresent := 0 },
    ring := { window := none, holdOff := false, timeoutRaised := false, vccaux := true },
    clk := { gated := false, backup := false, ringUsed := false, slewRing := false, fpllStopped := [], fpllFree := [] },
    seam := { steers := [], badSpares := [], reloaded := [] },
    fab := { ff := [], latch := [], seg := [], tap := [], slots := [], time := 0 },
    rams := [],
    once := [],
    engines := [],
    cfg := { frames := [], upsets := [], fields := [], transit := [], fixes := [], lastMbe := [], scrubPos := [], regions := [], loads := [], nextLoad := 0, freezes := [], releases := [], resets := [], cutovers := [], links := [], apOwner := [], pinOwner := [], fplls := [], nets := [], mbeWait := [] },
    shut := ShutSt.idle,
    io := { faulted := [], level := [], safeNow := [], safePend := [], keep := [], termOn := [], logic := [] },
    tpps := [],
    lanes := [],
    dcs := [],
    dmap := { mode := 0, gran := 2, caps := [0, 0, 0, 0, 0, 0, 0, 0] },
    lsu := { keys := [], slots := [], gens := [], sweeps := [] },
    net := { sitePorts := [], parts := [], reqs := [], nextReq := 0, posted := [], fences := [], reroutes := [], tables := [], gfRound := 0, domOff := [], domDrain := [], unreset := [], spent := [], bursts := [], flits := [] },
    dl := { ends := [], clkLost := [], clkMove := [], edgeDown := [] },
    qe := { cache := [], waiting := [], retry := [], owners := [], made := [], closing := [], writes := [], fetches := [], delivered := [], badSaid := [], lost := [], wbDue := [], due := [], firings := [], entering := [], awakeSeen := false },
    eic := { wokeHost := false, taps := [] },
    mbx := { rsp := [], opens := [], levelCap := [] },
    ev := { frames := [], fifo := [], lost := 0, log := [], nextSeq := 0, first := false, queue := none },
    gr := { up := false, restarting := false, restartDue := none, segFail := 0, slReplies := [], staged := [], committed := [],
              applied := [], schedule := [], tests := [], slotStatus := [], aborted := [] },
    sec := { policy := 1, salt := 0, keyNow := none, keyOld := none, nonces := [], fuseId := 0, jobs := [], quotes := [] },
    fwu := { leases := [], running := none, bootTime := 0, length := 0, buffer := [], lastSeq := none, flashBad := false,
               erasing := false, reading := false, jobs := [], accepted := false, svcRead := none },
    nv := { speed := 2, temp := 0x45, fit := 0x4148, fuses := Fuses.blank, romHash := Config.romHash, romKeys := (List.range 4).map Config.romKey, flashSize := 0x40000000, flash := [], rec0 := none,
              rec1 := none, bank0 := none, bank1 := none, ownerKeys := [], pending := 0 },
    pwr := { trip := 0, warned := 0, crit := 0, rails := [], railBad := [] },
    tap := .idcode }

/-- The machine: the block, and the queue of commands and events that are waiting for it, first in, first out.  A meaning acts
on the block alone; only the step takes from the queue. -/
structure State where
  pending : List Instr
  blk     : Block
deriving DecidableEq, Repr

/-- The machine right after power is applied, nothing waiting. -/
def State.reset : State := { pending := [], blk := Block.reset }

end Sys2Proof.Machine
end

