-- ==== Sys2Proof/Machine/Ops.lean ====
section
/-! DEFINITION. The named operations over the state that every family uses: registers and fields (R9 to R11), counters
(R578, R579), error logs, events (R582), interrupt sources (R536), free values and outputs. -/

namespace Sys2Proof.Machine

/-- The effect `f` on the block, whatever its state. -/
def always (f : Block → Block) (s : State) : Host.Outcome State Fault Refusal := .next { s with blk := f s.blk }

/-- The effect `f` while the device is out of RESET; in RESET nothing answers (R39). -/
def live (f : Block → Block) (s : State) : Host.Outcome State Fault Refusal :=
  always (fun b => if b.start.inReset then b else f b) s

/-- The effect `f` of a part that runs on the derived clocks: a root PLL loss of lock gates them all (R85). -/
def clocked (f : Block → Block) (s : State) : Host.Outcome State Fault Refusal :=
  always (fun b => if b.start.inReset || b.clk.gated then b else f b) s

/-- The derived clocks of fabric die d do not run: it is in reset, or gated until its dividers align (R47, R79, R482). -/
def dieOff (s : Block) (d : Nat) : Bool := s.start.dieHeld.getLsbD d || s.start.unaligned.getLsbD d

/-- The effect `f` of a part that runs on the derived clocks of fabric die d. -/
def clockedOn (d : Nat) (f : Block → Block) (s : State) : Host.Outcome State Fault Refusal :=
  clocked (fun b => if dieOff b d then b else f b) s

/-- DEV_TIME is at least t: an event that comes at an instant the state holds brings time up to it. DEV_TIME stands still once
its clock is gated (R80, R85). -/
def reachTime (t : BitVec 64) (s : Block) : Block :=
  if s.devTime.toNat < t.toNat && !s.clk.gated then { s with devTime := t } else s

/-! ### Registers -/

/-- The register at control-space offset a. -/
def Block.reg (s : Block) (a : Nat) : BitVec 64 := spGet regDefault s.regs a

/-- Write the register at control-space offset a. -/
def Block.setReg (s : Block) (a : Nat) (v : BitVec 64) : Block := { s with regs := spSet regDefault s.regs a v }

/-- The field of w bits from bit lo of x. -/
def fldGet (x lo w : Nat) : Nat := x / 2 ^ lo % 2 ^ w

/-- x with the field of w bits from bit lo replaced by v. -/
def fldSet (x lo w v : Nat) : Nat := x / 2 ^ (lo + w) * 2 ^ (lo + w) + v % 2 ^ w * 2 ^ lo + x % 2 ^ lo

/-- The value of field fl of the block whose registers start at b. -/
def Block.f (s : Block) (b : Nat) (fl : Fld) : Nat := fldGet (s.reg (b + fl.off)).toNat fl.lo fl.w

/-- Set field fl of the block whose registers start at b. -/
def Block.put (s : Block) (b : Nat) (fl : Fld) (v : Nat) : Block :=
  s.setReg (b + fl.off) (BitVec.ofNat 64 (fldSet (s.reg (b + fl.off)).toNat fl.lo fl.w v))

/-- A one-bit field read as a flag. -/
def Block.flag (s : Block) (b : Nat) (fl : Fld) : Bool := s.f b fl == 1

/-- Set a one-bit field. -/
def Block.putB (s : Block) (b : Nat) (fl : Fld) (v : Bool) : Block := s.put b fl v.toNat

/-- Every register of windows lo to hi returns to its reset value (R11). -/
def Block.resetWindows (s : Block) (lo hi : Nat) : Block :=
  { s with regs := spClear (fun a => decide (lo * 0x1000000 ≤ a) && decide (a < (hi + 1) * 0x1000000)) s.regs }

/-- Every register with an offset from lo up to, not including, hi returns to its reset value. -/
def Block.resetRange (s : Block) (lo hi : Nat) : Block :=
  { s with regs := spClear (fun a => decide (lo ≤ a) && decide (a < hi)) s.regs }

/-! ### Free values and outputs -/

/-- A free value (opaque: nothing constrains it), and the state that has drawn it. -/
def Block.draw (s : Block) : Nat × Block := (Config.free s.free, { s with free := s.free + 1 })

/-- Put o on the part's outputs. -/
def Block.emit (s : Block) (o : Out) : Block := { s with out := s.out ++ [o] }

/-! ### Ports, events and interrupt sources -/

/-- The port ID (R448) of the block of window w. -/
def originOf (w : Nat) : Nat :=
  if 0x20 ≤ w && w < 0xA0 then
    let d := (w - 0x20) / 0x20
    let o := (w - 0x20) % 0x20
    d * 0x100 +
      (if 0x08 ≤ o && o ≤ 0x0D then 0x60 + (o - 0x08)
       else if o == 0x10 || o == 0x12 then 0x68
       else if o == 0x11 || o == 0x13 then 0x69
       else if o == 0x00 then 0x6C
       else if 0x18 ≤ o then 0x70 + (o - 0x18)
       else 0x80 + o)
  else if w == 0x01 then 0x400
  else if w == 0x09 then 0x401
  else if w == 0x08 then 0x403
  else if w == 0x06 then 0x404
  else if w == 0x0B then 0x405
  else if 0xA0 ≤ w && w ≤ 0xA2 then 0x4C0 + (w - 0xA0)
  else if w < 0x20 then 0x480 + w
  else 0xFFF

/-- A block sends an event over Safelight, with the DEV_TIME given (R582, R583). -/
def Block.raiseAt (s : Block) (time : BitVec 64) (code origin : Nat) (detail : Nat := 0) (detail2 : Nat := 0) : Block :=
  { s with ev := { s.ev with frames := s.ev.frames ++
      [{ time := time, code := BitVec.ofNat 16 code, origin := BitVec.ofNat 12 origin,
         detail := BitVec.ofNat 64 detail, detail2 := BitVec.ofNat 31 detail2 }] } }

/-- A block sends an event over Safelight (R582). -/
def Block.raise (s : Block) (code origin : Nat) (detail : Nat := 0) (detail2 : Nat := 0) : Block :=
  s.raiseAt s.devTime code origin detail detail2

/-- The SEVERITY of an event code (R583, and the codes of 20, 21 and 22). -/
def severity (code : Nat) : Nat :=
  let i := code % 0x100
  let tab (l : List Nat) : Nat := l.getD i 0
  if code / 0x100 == 0x00 then tab [1, 1, 1, 1, 1, 3, 2, 1, 1, 2, 2, 1, 1, 1]
  else if code / 0x100 == 0x01 then tab [2, 2, 1, 2, 1, 1, 2, 1, 1, 2, 1]
  else if code / 0x100 == 0x02 then tab [1]
  else if code / 0x100 == 0x03 then tab [1, 1, 1, 1]
  else if code / 0x100 == 0x04 then tab [1, 1, 1, 0, 1, 2]
  else if code / 0x100 == 0x05 then tab [1, 2, 1, 1, 1, 2, 1]
  else if code / 0x100 == 0x06 then tab [2, 1]
  else if code / 0x100 == 0x07 then tab [2, 0, 1, 1, 1]
  else if code / 0x100 == 0x08 then tab [1, 2, 1, 1, 0, 0, 2, 2, 0, 1, 2, 2]
  else if code / 0x100 == 0x09 then tab [1, 2, 1]
  else if code / 0x100 == 0x0B then sevSec i
  else if code / 0x100 == 0x0C then sevFw i
  else if code / 0x100 == 0x0D then sevPwr i
  else 0
where
  sevSec (i : Nat) : Nat := [1, 0, 1, 2, 2, 1].getD i 0
  sevFw (i : Nat) : Nat := [0, 0, 2, 2, 1, 1, 1].getD i 0
  sevPwr (i : Nat) : Nat := [2, 1, 2, 1, 1, 1, 3].getD i 0

/-- Source numbers that R532 assigns; the other hard-block numbers never pend. -/
def eicAssigned (n : Nat) : Bool :=
  if n < 1024 then true
  else if n < 1280 then (n - 1024) % 64 < 24
  else decide (n ≤ 1291)

/-- A rising edge on hard-block or edge source n sets PENDING (R536). -/
def Block.eicEdge (s : Block) (n : Nat) : Block :=
  if eicAssigned n then s.put (Rg.eicS n) Rg.srcPending 1 else s

/-- The source number of hard-block condition c of fabric die d (R532). -/
def eicDie (d c : Nat) : Nat := 1024 + 64 * d + c

/-- The device address of the register at control-space offset a. -/
def ctlAddr (a : Nat) : Nat := 0x7F0000000000 + a

/-! ### Counters -/

/-- Event COUNTER_SATURATED (R578). -/
def evCounterSaturated : Nat := 0x0000

/-- Add n to counter c of the register at a: it saturates at its largest value, sets OVF and raises `code` once, with
the register's address in DETAIL (R578). -/
def Block.bumpBy (s : Block) (a : Nat) (c : CntL) (n : Nat) (code : Nat := evCounterSaturated) : Block :=
  let x := (s.reg a).toNat
  if fldGet x c.ovf 1 == 1 then s
  else
    let v := fldGet x c.lo c.w + n
    if v < 2 ^ c.w - 1 then s.setReg a (BitVec.ofNat 64 (fldSet x c.lo c.w v))
    else
      (s.setReg a (BitVec.ofNat 64 (fldSet (fldSet x c.lo c.w (2 ^ c.w - 1)) c.ovf 1 1))).raise code
        (originOf (a / 0x1000000)) (ctlAddr a)

/-- The common counter layout: COUNT in [30:0], OVF in bit 31. -/
def cnt31 : CntL := ⟨0, 31, 31⟩

/-- Add 1 to a counter of the common layout. -/
def Block.bump (s : Block) (a : Nat) : Block := s.bumpBy a cnt31 1

/-! ### Error logs of 16 entries -/

/-- The lowest entry of the log at a whose VALID is 0, looking from entry i with k entries left. -/
def Block.logFreeFrom (s : Block) (a : Nat) : Nat → Nat → Option Nat
  | _, 0 => none
  | i, k + 1 => if (s.reg (a + 8 * i)).toNat % 2 == 0 then some i else s.logFreeFrom a (i + 1) k

/-- The lowest free entry of the 16-entry log at a. -/
def Block.logFree (s : Block) (a : Nat) : Option Nat := s.logFreeFrom a 0 16

/-- Write an entry into the 16-entry log at a: the lowest entry with VALID 0 takes it; with none free the event
`fullCode` is raised, once until an entry is cleared (R153 and the rules like it). -/
def Block.logWrite (s : Block) (a word fullCode : Nat) : Block :=
  match s.logFree a with
  | some i => { s.setReg (a + 8 * i) (BitVec.ofNat 64 (Nat.lor word 1)) with
                once := spSet (fun _ => false) s.once a false }
  | none =>
    if spGet (fun _ => false) s.once a then s
    else ({ s with once := spSet (fun _ => false) s.once a true }).raise fullCode (originOf (a / 0x1000000))

/-- A whole-register write as its access types give (R9, R10, R579): `data` aligned to the register, `be` the mask of
the bits the access covers. -/
def writeBits (r : RegRow) (old data be : Nat) : Nat :=
  let set := Nat.land r.rw be
  let a := Nat.lor (Nat.land old (Nat.xor (2 ^ 64 - 1) set)) (Nat.land data set)
  let clr := Nat.land (Nat.land data r.w1c) be
  let b := Nat.land a (Nat.xor (2 ^ 64 - 1) clr)
  r.cnts.foldl (fun v c =>
    let m := fm c.lo c.w + fm c.ovf 1
    if Nat.land m be == m && fldGet data c.lo c.w == 0 && fldGet data c.ovf 1 == 1
    then fldSet (fldSet v c.lo c.w 0) c.ovf 1 0 else v) b

/-- The bits an access of 8 bytes, or of 4 bytes at address a, covers in its 8-byte register. -/
def accessMask (a : Nat) (size8 : Bool) : Nat :=
  if size8 then 2 ^ 64 - 1 else if a % 8 == 4 then fm 32 32 else fm 0 32

/-- Data as an access carries it, moved to its place in the 8-byte register. -/
def accessData (a : Nat) (size8 : Bool) (v : Nat) : Nat :=
  if size8 then v % 2 ^ 64 else if a % 8 == 4 then v % 2 ^ 32 * 2 ^ 32 else v % 2 ^ 32

/-- A write of a register without behaviour of its own (R9, R10); where the manual gives no register nothing changes. -/
def Block.plainWrite (s : Block) (a : Nat) (size8 : Bool) (v : Nat) : Block :=
  let a8 := a / 8 * 8
  match regAt a8 with
  | none => s
  | some (r, _, _) =>
    s.setReg a8 (BitVec.ofNat 64
      (writeBits r (s.reg a8).toNat (accessData a size8 v) (accessMask a size8)))

/-! ### Small helpers -/

/-- The list of numbers from 0 to n - 1. -/
def upto (n : Nat) : List Nat := List.range n

/-- Apply f for every number of a list, in order. -/
def forEach (l : List Nat) (f : Nat → Block → Block) (s : Block) : Block := l.foldl (fun s i => f i s) s

/-- f where the condition holds, the state unchanged elsewhere. -/
def when (c : Bool) (f : Block → Block) (s : Block) : Block := if c then f s else s

/-- A value of w bits read as a signed number. -/
def sgn (w v : Nat) : Int := if v % 2 ^ w < 2 ^ (w - 1) then Int.ofNat (v % 2 ^ w) else Int.ofNat (v % 2 ^ w) - 2 ^ w

/-- A signed number as w bits. -/
def unsgn (w : Nat) (i : Int) : Nat := (i % (2 ^ w : Int)).toNat

/-- The bits of a number that are set, below n. -/
def bitsOf (n x : Nat) : List Nat := (upto n).filter (fun i => x.testBit i)

end Sys2Proof.Machine
end

