-- ==== Sys2Proof/Machine/Command.lean ====
section
/-! DEFINITION. Mailbox commands (19): which ports answer, taking a command, its checks, responses, and barriers; and the
settings in force (R585).  The ring entries themselves are decoded in Sys2Proof/Machine/Mailbox.lean. -/

namespace Sys2Proof.Machine

/-! ### Settings in force (R585) -/

/-- The default of a setting; none for an ID that R585 does not name. -/
def settingDefault (id : Nat) : Option Nat :=
  if id == 0x0001 then some 0
  else if id == 0x0002 then some 2
  else if id == 0x0003 then some 0
  else if id == 0x0004 then some 0x04000000
  else if id == 0x0005 then some 0
  else if id == 0x0006 || id == 0x0007 then some 1
  else if id == 0x0008 then some 1000
  else if id == 0x0009 then some 0
  else if id == 0x000A then some 0x0763
  else if id == 0x000B then some 1000
  else if id == 0x000C || id == 0x000D || id == 0x000E then some 0
  else if id == 0x000F then some 320
  else if id == 0x0010 then some 10
  else if id == 0x0011 then some 0
  else if 0x0100 ≤ id && id < 0x0120 then some 0
  else if 0x0200 ≤ id && id < 0x0218 then some 0
  else if 0x1000 ≤ id && id < 0x1000 + 1344 then some 0
  else none

/-- The length in bytes of a setting. -/
def settingLen (id : Nat) : Nat :=
  if id == 0x0004 || id == 0x0011 || (0x0200 ≤ id && id < 0x0218) then 8
  else if id == 0x0008 || id == 0x0009 || id == 0x000B then 4
  else if id == 0x000A || id == 0x000D || id == 0x000F || id == 0x0010 then 2
  else 1

/-- A value by ID in a list of settings. -/
def settingIn (l : List (Nat × Nat)) (id : Nat) : Nat := (l.lookup id).getD ((settingDefault id).getD 0)

/-- A setting as it is in force. -/
def setting (s : Block) (id : Nat) : Nat := settingIn s.gr.applied id

/-- Replace the value of an ID in a list of settings. -/
def putSetting (id v : Nat) (l : List (Nat × Nat)) : List (Nat × Nat) := l.filter (fun x => x.1 != id) ++ [(id, v)]

/-! ### Regions and stages -/

/-- RST_STAGE.STAGE: 0 to 3, or 7 in RECOVERY. -/
def stageOf (s : Block) : Nat := s.f Rg.rst Rg.stage

/-- A sector is the target of a relocation that is not over: until its last marker the region is the one in the old sector (R226). -/
def relocTarget (s : Block) (k : Nat) : Bool :=
  s.cfg.loads.any (fun l => l.moveFrom.isSome && l.targets.contains k) || s.cfg.cutovers.any (fun x => x.new == k)

/-- The sectors of a region, in increasing number. -/
def regionSectors (s : Block) (r : Nat) : List Nat :=
  (upto 320).filter (fun k => s.f (Rg.sector k) Rg.secState != 0 && s.f (Rg.sector k) Rg.secRegion == r && !relocTarget s k)

def getRegion (s : Block) (r : Nat) : Region := spGet (fun _ => Region.none) s.cfg.regions r

def setRegion (r : Nat) (x : Region) (s : Block) : Block :=
  { s with cfg := { s.cfg with regions := spSet (fun _ => Region.none) s.cfg.regions r x } }

/-- A region has a LIVE sector. -/
def regionLive (s : Block) (r : Nat) : Bool := (regionSectors s r).any (fun k => s.f (Rg.sector k) Rg.secState == 3)

/-! ### Ports (R46, R558) -/

/-- The number p of a port. -/
def portNum : Port → Nat
  | .h0 => 0
  | .p1 => 1
  | .p2 => 2
  | .svc => 3
  | .jtag => 4
  | .fab => 5

/-- The effective JTAG level (R605): the higher of the fused level and JTAG_MIN of the owner policy. -/
def jtagLevel (s : Block) : Nat := Nat.max (s.f Rg.sec Rg.sJtag) (fldGet s.sec.policy.toNat 3 2)

/-- The FAB mailbox answers while a LIVE region has FAB_MBX in its POLICY word (R46). -/
def fabAnswers (s : Block) : Bool :=
  (spKeys s.cfg.regions).any (fun r => (getRegion s r).policy.getLsbD 3 && regionLive s r)

/-- A module of H0 is not DOWN: 24 and 25 on HD, 26 and 27 on FD1, 28 and 29 on FD3 (R480). -/
def h0Linked (s : Block) : Bool :=
  [(4, 24), (4, 25), (1, 26), (1, 27), (3, 28), (3, 29)].any (fun x => s.f (Rg.dl x.1 x.2) Rg.mState != 0)

/-- A port's mailbox answers in the present stage (R46): from Stage 2 H0 comes by its modules, and with all of them DOWN it is a dead
target like its window (R24, R40); after a root PLL loss of lock SVC alone does (R85);
with SVC_DISABLE blown there is no SVC mailbox (R604). -/
def portAnswers (s : Block) (p : Port) : Bool :=
  (p == .svc || !s.flag Rg.clk Rg.clkClockFault) &&
  match p with
  | .h0 => stageOf s < 2 || stageOf s == 7 || h0Linked s
  | .svc => !s.flag Rg.sec Rg.sSvcDisable
  | .p1 => decide (2 ≤ stageOf s) && stageOf s != 7 && s.start.sitePresent.getLsbD 1
  | .p2 => decide (2 ≤ stageOf s) && stageOf s != 7 && s.start.sitePresent.getLsbD 2
  | .jtag => decide (jtagLevel s ≤ 1)
  | .fab => fabAnswers s

/-- MBX_STATUS.READY of a port: commands are being taken. -/
def portReady (s : Block) (p : Port) : Bool := s.gr.up && !s.gr.restarting && portAnswers s p

/-- Commands of a port taken and not yet answered (IN_FLIGHT). -/
def inFlight (s : Block) (p : Port) : Nat :=
  (s.mbx.opens.filter (fun o => o.cmd.port == p)).length + (s.mbx.rsp.filter (fun r => r.cmd.port == p)).length

/-- Response slots in use at a port: written and not yet released (R562). -/
def rspUsed (s : Block) (p : Port) : Nat :=
  (s.f (Rg.mbx (portNum p)) Rg.rspTail + 128 - s.f (Rg.mbx (portNum p)) Rg.rspHead) % 128

/-- A response slot is free for one more command (R562). -/
def rspSlotFree (s : Block) (p : Port) : Bool := decide (rspUsed s p + inFlight s p < 64)

/-- The v2 opcode of MBX_BARRIER. -/
def opBarrier : Nat := 0x0002

/-- No barrier of the port is open (R569). -/
def noBarrier (s : Block) (p : Port) : Bool := !(s.mbx.opens.any (fun o => o.cmd.port == p && o.op2 == opBarrier))

/-- Firmware takes a command of the port now: the mailbox is READY in that protocol, a response slot is free and no
barrier is open (R562, R569, R573). -/
def canTake (s : Block) (p : Port) (v1 : Bool) : Bool :=
  portReady s p && rspSlotFree s p && noBarrier s p && s.flag (Rg.mbx (portNum p)) Rg.mbxProto == v1

/-- The run lock of a port is released (R630). -/
def releaseRun (p : Nat) (s : Block) : Block :=
  let s := s.putB Rg.fw (Rg.runHeld p) false
  { s with fwu := { s.fwu with leases := spSet (fun _ => 0) s.fwu.leases p 0 } }

/-! ### Responses -/

/-- A barrier of the port completes when no other command of it is open (R569). -/
def settleBarrier (p : Port) (s : Block) : Block :=
  match s.mbx.opens.filter (fun o => o.cmd.port == p) with
  | [o] =>
    if o.op2 == opBarrier then
      { s with mbx := { s.mbx with opens := s.mbx.opens.filter (fun x => x.cmd.port != p),
                                   rsp := s.mbx.rsp ++ [{ cmd := o.cmd, status := 0, res := [] }] } }
    else s
  | _ => s

/-- Decide the response of a command that is not among the open ones: it joins those to be written in order of completion
(R568), and a barrier behind it may complete. -/
def Block.respond (s : Block) (c : Cmd) (status : Nat) (res : List (Nat × Nat) := []) : Block :=
  settleBarrier c.port
    { s with mbx := { s.mbx with rsp := s.mbx.rsp ++ [{ cmd := c, status := BitVec.ofNat 16 status, res := res }] } }

/-- Decide the response of an open command. -/
def Block.answer (s : Block) (o : OpenCmd) (status : Nat) (res : List (Nat × Nat) := []) : Block :=
  ({ s with mbx := { s.mbx with opens := s.mbx.opens.erase o } }).respond o.cmd status res

/-- A command has been taken and its response comes later. -/
def Block.hold (s : Block) (c : Cmd) (op2 obj : Nat) : Block :=
  { s with mbx := { s.mbx with opens := s.mbx.opens ++ [{ cmd := c, op2 := op2, obj := obj }] } }

/-- The open commands of an opcode on an object. -/
def openOf (s : Block) (op2 obj : Nat) : List OpenCmd := s.mbx.opens.filter (fun o => o.op2 == op2 && o.obj == obj)

/-- Answer every open command of an opcode on an object. -/
def Block.close (s : Block) (op2 obj status : Nat) (res : List (Nat × Nat) := []) : Block :=
  (openOf s op2 obj).foldl (fun s o => s.answer o status res) s

/-- Answer the oldest open command of an opcode on an object. -/
def Block.closeFirst (s : Block) (op2 obj status : Nat) (res : List (Nat × Nat) := []) : Block :=
  match openOf s op2 obj with
  | [] => s
  | o :: _ => s.answer o status res

/-- Another command of one of the opcodes holds the object. -/
def held (s : Block) (ops : List Nat) (obj : Nat) : Bool := s.mbx.opens.any (fun o => ops.contains o.op2 && o.obj == obj)

/-! ### Checks of a command (R41, R566, R567) -/

/-- The ports of R567 that a command is accepted from. -/
def allPorts : List Port := [.h0, .p1, .p2, .svc, .jtag, .fab]
def workPorts : List Port := [.h0, .p1, .p2, .svc, .fab]
def hostPorts : List Port := [.h0, .svc]
def svcPort : List Port := [.svc]

/-- At JTAG level 1 the JTAG mailbox takes DEV_INFO, DEV_STATUS, EVENT_READ, SEC_STATUS and REG_READ alone (R605). -/
def jtagAllows (s : Block) (op2 : Nat) : Bool :=
  jtagLevel s == 0 || [0x0000, 0x0001, 0x0009, 0x0003, 0x0B00].contains op2

/-- A command may be executed in a stage of at least `min` (R41); in RECOVERY only those of Stage 0 (R39). -/
def stageOk (s : Block) (min : Nat) : Bool := if stageOf s == 7 then min == 0 else decide (min ≤ stageOf s)

/-- What a command of a v2 opcode needs: the ports it is accepted from, the first stage it is accepted in, and whether
it is an expert command. -/
structure Need where
  op     : Nat
  ports  : List Port
  stage  : Nat
  expert : Bool := false

/-- The level of a port (R566). -/
def portLevel (s : Block) (p : Port) : Nat := s.f (Rg.mbx (portNum p)) Rg.mbxLevel

/-- Check a command that has been taken and execute it, or answer the refusal: AUTH_FAIL for the port, EXPERT_DISABLED
for the level, REFUSED_STATE for the stage. -/
def Block.checked (s : Block) (c : Cmd) (n : Need) (f : Cmd → Block → Block) : Block :=
  if !n.ports.contains c.port || (c.port == .jtag && !jtagAllows s n.op) then s.respond c St.authFail
  else if n.expert && portLevel s c.port == 0 then s.respond c St.expertDisabled
  else if !stageOk s n.stage then s.respond c St.refusedState
  else f c s

/-- A command on a block of fabric die d: while the die is in reset, or its derived clocks are gated, its management ports cannot be
reached, and the command is answered REFUSED_STATE (R556). -/
def onDie (d : Nat) (f : Cmd → Block → Block) (c : Cmd) (s : Block) : Block :=
  if dieOff s d then s.respond c St.refusedState else f c s

/-- The v2 command of a header. -/
def cmdOf (h : Hdr) (op : Nat) : Cmd := { port := h.port, tag := h.tag, op := BitVec.ofNat 16 op, v1 := false }

/-- A v2 command taken from the header's port (R562, R563); where none can be taken now nothing happens. -/
def Block.command (s : Block) (h : Hdr) (n : Need) (f : Cmd → Block → Block) : Block :=
  if canTake s h.port false then s.checked (cmdOf h n.op) n f else s

/-- A v1 command (R573, R574): its own opcode in the response, the rights and effect of the command it stands for. -/
def Block.commandV1 (s : Block) (h : Hdr) (op1 : Nat) (n : Need) (f : Cmd → Block → Block) : Block :=
  if canTake s h.port true then
    s.checked { port := h.port, tag := BitVec.ofNat 16 (h.tag.toNat % 256), op := BitVec.ofNat 16 op1, v1 := true } n f
  else s

end Sys2Proof.Machine
end

