-- ==== Sys2Proof/Machine/ConfigMem.lean ====
section
/-! DEFINITION. Configuration memory (04, 07): the fields of a sector's frames, the one-hot fields among them, what a frame's bits set, the
cleared content (R113 to R117, R198, R199, R201).

The manual gives each field's width and meaning but neither the place of its bits in the frames nor how it is numbered. DESIGN CHOICE:
the numbers below; the place of a field's bits is the uninterpreted `Config.frameBit`. -/

namespace Sys2Proof.Machine

/-- Sectors by type (R100): the outer columns are Type B. -/
def sectorType (k : Nat) : Nat := if k % 80 / 8 == 0 || k % 80 / 8 == 9 then 1 else 0

/-- The kinds of field. A field is named by its kind, a place in its sector and an index there: the place is a cluster 24 row + column
for the fields of cells, control sets, multiplexers and wire registers; a RAM, a MAC engine or a Seam port for theirs; a row or column
of the sector's edge for a freeze gate; 0 for what a sector has once. -/
inductive CfgKind where
  /-- LUT truth table, index 4 cell + i; SPLIT; ARITH of a cell; OBSEL; CISEL of a cell (R89, R90). -/
  | lutInit | lutSplit | arith | obsel | cisel
  /-- Flip-flop f = 8 cell + i (FA_i) or 8 cell + 4 + i (FB_i): D from X_i; INIT; SRLEVEL (R93, R96). -/
  | dsel | ffInit | ffSr
  /-- Half 2 cell + (0 A, 1 B): CLK_1, falling edge, CE (0 none, n + 1 CE_n), SR (0 none, n + 1 SR_n); ASYNC of a SR line (R94). -/
  | halfClk | halfFall | halfCe | halfSr | srAsync
  /-- The multiplexers of R113: cluster clock; Level 1 sink; cluster input; Level 2 driver 28 direction + track; express line driver
  16 direction + line. -/
  | clkMux | l1Group | l1Member | inGroup | inMember | segDrv | expGroup | expMember
  /-- Cluster output 4 cell + n: which of its cell's 16 outputs (R101). -/
  | outSel
  /-- Wire registers: of a Level 2 driver; of an express line's tap, index 64 direction + 16 (tap - 1) + line (R109, R110): enable, CLK_1, INIT. -/
  | segReg | segClk | segInit | tapReg | tapClk | tapInit
  /-- Freeze gate of an express line that enters, index 256 direction + 128 (second edge) + 16 launch slot + line; of a Seam port's 64 slots
  (R192). -/
  | gate | seamFreeze
  /-- Seam port: 0 unassigned, 1 outbound, 2 inbound; its crossing clock, n + 1 for sector clock n (R122). -/
  | seamDir | seamClk
  /-- Sector clock 0 to 15: 0 none, n + 1 global clock network n (R82); the trigger tap of a line (R235). -/
  | net | trig
  /-- Fabric RAM (05): mode; per port width, read-during-write, output register's initial value, output register on, clock; ECC; SCRUB_EN;
  blocks of a cascade. -/
  | ramMode | ramWidth | ramRdw | ramOreg | ramOregOn | ramClk | ramEcc | ramScrub | ramCascade
  /-- MAC engine (06): ECLK; the clocks of IA, IB and OQ; per address generator BASE, STEP, MOD, MODE, RI, WI; instruction. -/
  | eclk | fifoClk | agBase | agStep | agMod | agMode | agRi | agWi | store
deriving DecidableEq, Repr

/-- Every kind, in the order of their numbers. -/
def CfgKind.all : List CfgKind :=
  [.lutInit, .lutSplit, .arith, .obsel, .cisel, .dsel, .ffInit, .ffSr, .halfClk, .halfFall, .halfCe, .halfSr, .srAsync, .clkMux,
   .l1Group, .l1Member, .inGroup, .inMember, .segDrv, .expGroup, .expMember, .outSel, .segReg, .segClk, .segInit, .tapReg, .tapClk,
   .tapInit, .gate, .seamFreeze, .seamDir, .seamClk, .net, .trig, .ramMode, .ramWidth, .ramRdw, .ramOreg, .ramOregOn, .ramClk, .ramEcc,
   .ramScrub, .ramCascade, .eclk, .fifoClk, .agBase, .agStep, .agMod, .agMode, .agRi, .agWi, .store]

/-- The number of a kind. -/
def CfgKind.no : CfgKind → Nat
  | .lutInit => 0 | .lutSplit => 1 | .arith => 2 | .obsel => 3 | .cisel => 4 | .dsel => 5 | .ffInit => 6 | .ffSr => 7
  | .halfClk => 8 | .halfFall => 9 | .halfCe => 10 | .halfSr => 11 | .srAsync => 12 | .clkMux => 13 | .l1Group => 14
  | .l1Member => 15 | .inGroup => 16 | .inMember => 17 | .segDrv => 18 | .expGroup => 19 | .expMember => 20 | .outSel => 21
  | .segReg => 22 | .segClk => 23 | .segInit => 24 | .tapReg => 25 | .tapClk => 26 | .tapInit => 27 | .gate => 28
  | .seamFreeze => 29 | .seamDir => 30 | .seamClk => 31 | .net => 32 | .trig => 33 | .ramMode => 34 | .ramWidth => 35
  | .ramRdw => 36 | .ramOreg => 37 | .ramOregOn => 38 | .ramClk => 39 | .ramEcc => 40 | .ramScrub => 41 | .ramCascade => 42
  | .eclk => 43 | .fifoClk => 44 | .agBase => 45 | .agStep => 46 | .agMod => 47 | .agMode => 48 | .agRi => 49 | .agWi => 50
  | .store => 51

/-- The bits of a field of a kind (R88, R113, R130, R154, R169, R172, R174; 25 for a trigger tap, DESIGN CHOICE). -/
def CfgKind.width : CfgKind → Nat
  | .lutInit => 64 | .cisel => 2 | .halfCe => 3 | .halfSr => 2 | .clkMux => 17 | .l1Group => 23 | .l1Member => 16 | .inGroup => 7
  | .inMember => 8 | .segDrv => 25 | .expGroup => 5 | .expMember => 8 | .outSel => 4 | .seamFreeze => 64 | .seamDir => 2 | .seamClk => 5
  | .net => 6 | .trig => 25 | .ramMode => 3 | .ramWidth => 7 | .ramRdw => 2 | .ramOreg => 72 | .ramClk => 17 | .ramCascade => 3
  | .eclk => 18 | .fifoClk => 17 | .agBase => 9 | .agStep => 10 | .agMod => 10 | .agRi => 9 | .agWi => 9 | .store => 64
  | _ => 1

/-- The fields that must have exactly one bit set: the multiplexers of R113 and the selects of R130, R154, R172 and R235. -/
def CfgKind.oneHot : CfgKind → Bool
  | .clkMux | .l1Group | .l1Member | .inGroup | .inMember | .segDrv | .expGroup | .expMember | .trig | .ramClk | .eclk | .fifoClk => true
  | _ => false

/-- The key of a field of sector k. -/
def cfgKey (k : Nat) (kind : CfgKind) (place idx : Nat) : Nat := ((64 * k + kind.no) * 512 + place) * 1024 + idx

/-- Sector, kind, place and index of a key. -/
def keySector (key : Nat) : Nat := key / 33554432
def keyKind (key : Nat) : Option CfgKind := CfgKind.all[key / 524288 % 64]?
def keyPlace (key : Nat) : Nat := key / 1024 % 512
def keyIdx (key : Nat) : Nat := key % 1024

/-- The cleared content of a field (R116): a multiplexer's tie-off, a member field's bit 0, zero elsewhere. -/
def cfgCleared (key : Nat) : Nat := if (keyKind key).any CfgKind.oneHot then 1 else 0

/-- A field as it stands in configuration memory. -/
def cfgGet (s : Block) (k : Nat) (kind : CfgKind) (place idx : Nat) : Nat := spGet cfgCleared s.cfg.fields (cfgKey k kind place idx)

/-- A one-bit field. -/
def cfgBit (s : Block) (k : Nat) (kind : CfgKind) (place idx : Nat) : Bool := cfgGet s k kind place idx % 2 == 1

def modCfg (f : CfgSt → CfgSt) (s : Block) : Block := { s with cfg := f s.cfg }

/-- Write a field. -/
def cfgPut (key v : Nat) (s : Block) : Block := modCfg (fun c => { c with fields := spSet cfgCleared c.fields key v }) s

/-- The fields of a kind that stand away from the cleared content in a sector: their keys. -/
def cfgKeys (s : Block) (k : Nat) (kind : CfgKind) : List Nat :=
  (spKeys s.cfg.fields).filter (fun i => i / 524288 == 64 * k + kind.no)

/-! ### One-hot fields (R113 to R117) -/

/-- A one-hot field of n bits has exactly one bit set (R113, R115). -/
def oneHot (n x : Nat) : Bool := (bitsOf n x).length == 1

/-- The source that a single field of n bits selects (R114, R117): source i at bit i + 1; none, the tie-off, when bit 0 is set or when other
than one bit is set. -/
def muxPick (n field : Nat) : Option Nat :=
  match bitsOf n field with
  | [i] => if i == 0 then none else some (i - 1)
  | _ => none

/-- The source that a group field of n bits and a member field of m bits select: member i of group g is source m g + i; the tie-off where
the group selects it, or where either field has other than one bit set (R114, R117). -/
def muxPick2 (n m group member : Nat) : Option Nat :=
  match muxPick n group, bitsOf m member with
  | some g, [i] => some (m * g + i)
  | _, _ => none

/-! ### Frames (R198 to R201) -/

/-- The key of a field of sector k from its key within a sector. -/
def inSector (k key : Nat) : Nat := 33554432 * k + key % 33554432

/-- Bit j of x becomes v. -/
def putBit (x j : Nat) (v : Bool) : Nat := fldSet x j 1 v.toNat

/-- The bit of configuration frame f of sector k that bit b stands for: the key of its field and the place in it. Bits 0 to 2,047 are
configuration bits. -/
def frameBit (k f b : Nat) : Option (Nat × Nat) :=
  if b < 2048 then (Config.frameBit (sectorType k) f b).map (fun x => (inSector k x.1, x.2)) else none

/-- Bit b of a frame takes the value `v` gives its field's bit, unless the field is a transit field of a link, which keeps its own
(R220). -/
def putFrameBit (own : Sp Nat) (k f : Nat) (v : Nat → Nat → Bool) (m : Sp Nat) (b : Nat) : Sp Nat :=
  match frameBit k f b with
  | none => m
  | some (key, j) =>
    if spGet (fun _ => 0) own key != 0 then m else spSet cfgCleared m key (putBit (spGet cfgCleared m key) j (v key j))

/-- The fields of a frame take the content it stores: its data, or the cleared content where it has none (R199). -/
def frameInto (own : Sp Nat) (k f : Nat) (data : Option (BitVec 2048)) (m : Sp Nat) : Sp Nat :=
  (upto 2048).foldl (fun m b => putFrameBit own k f (fun key j => match data with
    | some x => x.getLsbD b
    | none => (cfgCleared key).testBit j) m b) m

def frameFields (k f : Nat) (data : Option (BitVec 2048)) (s : Block) : Block :=
  modCfg (fun c => { c with fields := frameInto c.transit k f data c.fields }) s

/-- The keys of the fields of a frame. -/
def frameKeys (k f : Nat) : List Nat := ((upto 2048).filterMap (fun b => (frameBit k f b).map (·.1))).eraseDups

/-- Every multiplexer field of a frame's data has exactly one bit set (R115). -/
def frameOneHot (k f : Nat) (data : BitVec 2048) : Bool :=
  let m := frameInto [] k f (some data) []
  (frameKeys k f).all (fun key => match keyKind key with
    | some kd => !kd.oneHot || oneHot kd.width (spGet cfgCleared m key)
    | none => true)

/-- One bit of a stored frame is inverted where it belongs to a field. -/
def flipFrameBit (k f b : Nat) (s : Block) : Block :=
  match frameBit k f b with
  | none => s
  | some (key, j) =>
    let v := spGet cfgCleared s.cfg.fields key
    cfgPut key (putBit v j (!v.testBit j)) s

/-- The fields of a sector return to the cleared content (R116), but for the transit fields of links (R220). -/
def clearFields (k : Nat) (s : Block) : Block :=
  modCfg (fun c => { c with
    fields := spClear (fun i => keySector i == k && spGet (fun _ => 0) c.transit i == 0) c.fields }) s

end Sys2Proof.Machine
end

