-- ==== Sys2Proof/Machine/FabricClock.lean ====
section
/-! DEFINITION. The fabric's clocks (R81 to R85): what drives a global clock network, when its edges fall, which clocks are synchronous,
and the clocks that a sector and a cluster take. -/

namespace Sys2Proof.Machine

/-- The settings of fabric PLL p of die d. -/
def fpllSet (s : Block) (d p : Nat) : Option FpllSet := spGet (fun _ => none) s.cfg.fplls (16 * d + p)

/-- The PLL and its output that drive network n of die d (R82). -/
def netSource (s : Block) (d n : Nat) : Option (Nat × Nat) := spGet (fun _ => none) s.cfg.nets (32 * d + n)

/-- The outputs of fabric PLL p of die d run: locked, or free-running after a loss of lock (R85), on a die whose clocks run. -/
def fpllRuns (s : Block) (d p : Nat) : Bool :=
  !dieOff s d && !s.clk.gated && !s.start.inReset && !s.clk.fpllStopped.contains (16 * d + p) &&
    (s.flag (Rg.fpll d p) Rg.fpllLocked || s.clk.fpllFree.contains (16 * d + p))

/-- D, M, the output divider O and the phase offset of the output that drives network n of die d, while it runs. A PLL that free-runs
keeps its frequency here: DESIGN CHOICE, the manual gives a free-running output no frequency. -/
def netSetting (s : Block) (d n : Nat) : Option (Nat × Nat × Nat × Nat) :=
  match netSource s d n with
  | none => none
  | some (p, o) =>
    match fpllSet s d p with
    | none => none
    | some x => if fpllRuns s d p && decide (o < x.o.length) then some (x.d, x.m, x.o.getD o 1, x.phase.getD o 0) else none

/-- Network n of die d delivers edges; 32 is the fabric global clock, which runs with the die's clocks. -/
def netRuns (s : Block) (d n : Nat) : Bool := if n == 32 then !dieOff s d && !s.clk.gated else (netSetting s d n).isSome

/-- The edges, of a clock with the first edge `ph` eighths of a VCO period after DEV_TIME 0, that have come at or before DEV_TIME t:
edge j falls at (8 O j + ph) D / (8 M) ns, since the VCO runs at M / D GHz (R81). -/
def edgesBy (d m o ph t : Nat) : Nat := if 8 * m * t < ph * d then 0 else (8 * m * t - ph * d) / (8 * o * d) + 1

/-- The instant of an edge in 1/(8 M) ns. -/
def edgeAt (d o ph j : Nat) : Nat := (8 * o * j + ph) * d

/-- An edge of network `net` of die `die`: its instant is `num` / `den` ns. -/
structure NetEdge where
  die    : Nat
  net    : Nat
  rising : Bool
  num    : Nat
  den    : Nat
deriving DecidableEq, Repr

/-- The edges of one network in the nanosecond that ends at DEV_TIME t: a rising and a falling one at most, half a period apart. -/
def netEdges (s : Block) (d n t : Nat) : List NetEdge :=
  match netSetting s d n with
  | none => []
  | some (dv, m, o, ph) =>
    [true, false].flatMap (fun up =>
      let ph := if up then ph else ph + 4 * o
      let c := edgesBy dv m o ph t
      if edgesBy dv m o ph (t - 1) < c then [{ die := d, net := n, rising := up, num := edgeAt dv o ph (c - 1), den := 8 * m }] else [])

/-- One edge comes before another. -/
def NetEdge.before (a b : NetEdge) : Bool := decide (a.num * b.den < b.num * a.den)

/-- The networks of the device that something drives. -/
def drivenNets (s : Block) : List Nat := spKeys s.cfg.nets

/-- The edges of the device in the nanosecond that ends at DEV_TIME t. -/
def edgesIn (s : Block) (t : Nat) : List NetEdge := (drivenNets s).flatMap (fun i => netEdges s (i / 32) (i % 32) t)

/-- The edges of a list that come first, all at one instant, and the rest. -/
def firstEdges (l : List NetEdge) : List NetEdge × List NetEdge :=
  let first (e : NetEdge) : Bool := !l.any (fun x => x.before e)
  (l.filter first, l.filter (fun e => !first e))

/-- The edges of a nanosecond, those of one instant together, in order of time. -/
def edgeGroups : Nat → List NetEdge → List (List NetEdge)
  | 0, _ => []
  | n + 1, l =>
    if l.isEmpty then [] else
      let x := firstEdges l
      x.1 :: edgeGroups n x.2

/-- Two networks of a die are synchronous (R84): outputs of one PLL, or of PLLs with the same D and M, which the toolchain times as
synchronous. -/
def netsSync (s : Block) (d n m : Nat) : Bool :=
  n == m ||
  match netSource s d n, netSource s d m with
  | some (p, _), some (q, _) =>
    p == q || (match fpllSet s d p, fpllSet s d q with
      | some x, some y => x.d == y.d && x.m == y.m
      | _, _ => false)
  | _, _ => false

/-- Two fabric PLLs are twins (R83): on different dies, set alike, and of regions that one plate has loaded. -/
def fpllsTwin (s : Block) (d p e q : Nat) : Bool :=
  match fpllSet s d p, fpllSet s e q with
  | some x, some y =>
    d != e && x.d == y.d && x.m == y.m && x.o == y.o && x.phase == y.phase &&
      (getRegion s x.region.toNat).digest == (getRegion s y.region.toNat).digest
  | _, _ => false

/-- Networks n of die d and m of die e carry corresponding outputs of twins. -/
def netsTwin (s : Block) (d n e m : Nat) : Bool :=
  match netSource s d n, netSource s e m with
  | some (p, o), some (q, u) => o == u && fpllsTwin s d p e q
  | _, _ => false

/-! ### The clocks of sectors and clusters (R82, R94, R110) -/

/-- The global clock network that clock i of the 16 of a sector is (R82). -/
def sectorNet (s : Block) (k i : Nat) : Option Nat :=
  let v := cfgGet s k .net 0 i
  if v == 0 || 32 < v then none else some (v - 1)

/-- The network that a 17-bit one-hot clock field selects. -/
def clockNet (s : Block) (k field : Nat) : Option Nat := (muxPick 17 field).bind (sectorNet s k)

/-- The network of CLK_0 or CLK_1 of a cluster (R94). -/
def clusterNet (s : Block) (k c line : Nat) : Option Nat := clockNet s k (cfgGet s k .clkMux c line)

/-- A stop-shutter holds network n in sector k (R241): the sector is held and the network, in the mask, has delivered its capture edge
or is past the capture. -/
def netHeld (s : Block) (k n : Nat) : Bool :=
  s.shut.held.getLsbD k && decide (n < 32) && s.shut.domain.getLsbD (32 * (k / 80) + n) &&
    (s.shut.captured.getLsbD (32 * (k / 80) + n) || decide (3 ≤ s.shut.state))

/-- The sector k (0 to 319) is LIVE (R190). -/
def sectorLive (s : Block) (k : Nat) : Bool := s.f (Rg.sector k) Rg.secState == 3

/-- A REGION_RESET holds a sector's region (R215). -/
def resetHeld (s : Block) (k : Nat) : Bool := s.cfg.resets.any (fun x => x.2 && x.1 == s.f (Rg.sector k) Rg.secRegion)

/-- What a design in sector k clocks with a network receives its edges: a LIVE region, a network that runs and is not held. -/
def clockReaches (s : Block) (k : Nat) (net : Option Nat) : Bool :=
  match net with
  | none => false
  | some n => sectorLive s k && netRuns s (k / 80) n && !netHeld s k n

end Sys2Proof.Machine
end

