-- ==== Sys2Proof/Machine/FabricRam.lean ====
section
/-! DEFINITION. Tray RAM and Tank RAM (05): settings, port accesses with collisions and ECC, the output stages, QUEUE mode, the user RAM
scrub, and their error reports. -/

namespace Sys2Proof.Machine

/-- Port mode of a fabric RAM (R131, R135); `unused` where no plate sets one. -/
inductive RamMode where
  | unused | dual | oneWay | single | addressed | queue
deriving DecidableEq, Repr

/-- Read-during-write setting of a port (R134). -/
inductive Rdw where
  | newData | oldData | unchanged
deriving DecidableEq, Repr

/-- A port's settings (R130, R134, R144): width, read-during-write, whether its output register is on and that register's initial value,
and its clock: a global clock network, none where the field selects the tie-off. -/
structure RamPortSet where
  width  : Nat
  rdw    : Rdw
  oregOn : Bool
  init   : BitVec 72
  clk    : Option Nat
deriving DecidableEq, Repr

/-- The plate's settings of a fabric RAM: mode, ECC, SCRUB_EN, the blocks of the cascade that it heads (0 and 1 a single block), and
the ports'. -/
structure RamSet where
  mode    : RamMode
  ecc     : Bool
  scrubEn : Bool
  cascade : Nat
  a       : RamPortSet
  b       : RamPortSet
deriving DecidableEq, Repr

/-- The mode and the read-during-write setting that a field's code gives. DESIGN CHOICE: the codes, in the order of R131, R135 and R134. -/
def ramModeOf (f : Nat) : RamMode := [.unused, .dual, .oneWay, .single, .addressed, .queue].getD f .unused
def rdwOf (f : Nat) : Rdw := if f == 0 then .newData else if f == 1 then .oldData else .unchanged

/-- The settings of port p (0 A, 1 B) of RAM i of sector k. -/
def ramPortSet (s : Block) (k i p : Nat) : RamPortSet :=
  { width := cfgGet s k .ramWidth i p, rdw := rdwOf (cfgGet s k .ramRdw i p), oregOn := cfgBit s k .ramOregOn i p,
    init := BitVec.ofNat 72 (cfgGet s k .ramOreg i p), clk := clockNet s k (cfgGet s k .ramClk i p) }

/-- The settings of RAM i of sector k. -/
def ramSet (s : Block) (k i : Nat) : RamSet :=
  { mode := ramModeOf (cfgGet s k .ramMode i 0), ecc := cfgBit s k .ramEcc i 0, scrubEn := cfgBit s k .ramScrub i 0,
    cascade := cfgGet s k .ramCascade i 0, a := ramPortSet s k i 0, b := ramPortSet s k i 1 }

/-- The settings of a port. -/
def RamSet.port (x : RamSet) (portB : Bool) : RamPortSet := if portB then x.b else x.a

/-- The key of RAM i of sector k. -/
def ramKey (k i : Nat) : Nat := 68 * k + i

def getRam (s : Block) (k i : Nat) : Ram := spGet (fun _ => Ram.cleared) s.rams (ramKey k i)

def setRam (s : Block) (k i : Nat) (r : Ram) : Block :=
  { s with rams := spSet (fun _ => Ram.cleared) s.rams (ramKey k i) r }

/-- A port of RAM i of sector k is clocked: a LIVE region, its network running and not held by a stop-shutter (R130, R144, R241). -/
def portRuns (s : Block) (k i : Nat) (portB : Bool) : Bool := clockReaches s k ((ramSet s k i).port portB).clk

/-- The ports run on one clock; on clocks that are synchronous (R84). -/
def oneClock (s : Block) (k i : Nat) : Bool := (ramSet s k i).a.clk.isSome && (ramSet s k i).a.clk == (ramSet s k i).b.clk
def portsSync (s : Block) (k i : Nat) : Bool :=
  match (ramSet s k i).a.clk, (ramSet s k i).b.clk with
  | some n, some m => netsSync s (k / 80) n m
  | _, _ => false

/-- A RAM index names a Tray RAM. -/
def isTray (i : Nat) : Bool := i < 60

/-- The 72-bit words of one block. -/
def blockWords (i : Nat) : Nat := if isTray i then 512 else 4096

/-- ADDR bits a port of width w uses (R131, R135, R136); a cascade of more than one block uses ADDR[13:0]. -/
def addrBits (tray : Bool) (w cascade : Nat) : Nat :=
  if tray then
    (if w == 1 then 16 else if w == 2 then 15 else if w == 4 then 14 else if w == 9 then 12 else if w == 18 then 11
     else if w == 36 then 10 else 9)
  else if 1 < cascade then 14 else if w == 36 then 13 else 12

/-- The words of width w that a RAM holds (R131, R135, R136). -/
def ramDepth (tray : Bool) (w cascade : Nat) : Nat :=
  if tray then 36864 / w else 294912 * (if 1 < cascade then cascade else 1) / w

/-- A port's word address under R131: none at or above the depth. -/
def ramAddr (tray : Bool) (w cascade : Nat) (addr : BitVec 16) : Option Nat :=
  let a := addr.toNat % 2 ^ addrBits tray w cascade
  if a < ramDepth tray w cascade then some a else none

/-- The 72-bit word g of a RAM or of the cascade it heads: which block and which word of it. -/
def wordHome (i g : Nat) : Nat × Nat := (i + g / blockWords i, g % blockWords i)

/-- Read 72-bit word g from RAM i of sector k (over its cascade). -/
def readWord72 (s : Block) (k i g : Nat) : Nat :=
  let h := wordHome i g
  (spGet (fun _ => (0 : BitVec 72)) (getRam s k h.1).words h.2).toNat

/-- Write 72-bit word g. -/
def writeWord72 (k i g v : Nat) (s : Block) : Block :=
  let h := wordHome i g
  let r := getRam s k h.1
  setRam s k h.1 { r with words := spSet (fun _ => (0 : BitVec 72)) r.words h.2 (BitVec.ofNat 72 v) }

/-- Word a of width w: array bits a w to a w + w - 1 (R131, R132). Every width divides 72. -/
def readW (s : Block) (k i w a : Nat) : Nat := fldGet (readWord72 s k i (a * w / 72)) (a * w % 72) w

/-- Write word a of width w. -/
def writeW (k i w a v : Nat) (s : Block) : Block :=
  let g := a * w / 72
  writeWord72 k i g (fldSet (readWord72 s k i g) (a * w % 72) w v) s

/-- The byte write enables of a port (R133): at ×9 and wider one per byte, at the narrower widths one for the word. -/
def mergeWe (w : Nat) (we : BitVec 8) (old din : Nat) : Nat :=
  if w < 9 then (if we.getLsbD 0 then din % 2 ^ w else old)
  else (upto (w / 9)).foldl (fun v j => if we.getLsbD j then fldSet v (9 * j) 9 (fldGet din (9 * j) 9) else v) old

/-- A write cycle enables at least one byte of the port's word. -/
def weAny (w : Nat) (we : BitVec 8) : Bool :=
  if w < 9 then we.getLsbD 0 else (upto (w / 9)).any (fun j => we.getLsbD j)

/-- The error mark of 72-bit word g: 0 none, 1 single-bit, 2 double-bit. -/
def markOf (s : Block) (k i g : Nat) : Nat :=
  let h := wordHome i g
  spGet (fun _ => 0) (getRam s k h.1).marks h.2

def setMark (k i g m : Nat) (s : Block) : Block :=
  let h := wordHome i g
  let r := getRam s k h.1
  setRam s k h.1 { r with marks := spSet (fun _ => 0) r.marks h.2 m }

/-- An upset found at a read of an ECC-mode word: the mark grows to `err`; a new double-bit error leaves stored data
bits that the manual cannot give (a free value). -/
def applyUpset (k i g err : Nat) (s : Block) : Block :=
  if markOf s k i g < err then
    let s := setMark k i g err s
    if err == 2 then
      let d := s.draw
      writeWord72 k i g (d.1 % 2 ^ 72) d.2
    else s
  else s

/-- The word of FRAM_ERR_LOG (05). -/
def framLogWord (s : Block) (dbe scrub : Bool) (k i word : Nat) : Nat :=
  dbe.toNat * 2 + scrub.toNat * 4 + (if isTray i then 0 else 8) + (k % 80 / 8) * 2 ^ 8 + (k % 8) * 2 ^ 12 +
  (if isTray i then i else i - 60) * 2 ^ 16 + word * 2 ^ 24 + (s.devTime.toNat / 1024 % 2 ^ 28) * 2 ^ 36

/-- Report an ECC error of 72-bit word g (R152, R153): a double-bit error counts, logs, and raises the die's fabric RAM
source and a sector event; a single-bit error counts, and with SBE_EVENT_EN 1 logs and raises a sector event. -/
def framReport (k i g : Nat) (dbe scrub : Bool) (s : Block) : Block :=
  let d := k / 80
  let h := wordHome i g
  let s := s.bump (if dbe then Rg.framDbeCount d else Rg.framSbeCount d)
  if dbe || s.flag (Rg.fram d) Rg.framSbeEventEn then
    let s := (s.logWrite (Rg.framErrLog d) (framLogWord s dbe scrub k h.1 h.2) Ev.framLogFull).eicEdge (eicDie d 21)
    when dbe (fun s => (s.eicEdge (eicDie d 16)).raise Ev.framDbe (originOf (0x26 + 0x20 * d)) k) s
  else s

/-- The user scrub drops its write-back when the design writes the word (R149). -/
def dropScrub (k i g : Nat) (s : Block) : Block :=
  let h := wordHome i g
  let r := getRam s k h.1
  if r.scrubBack == some h.2 then setRam s k h.1 { r with scrubBack := none } else s

/-- The ports of a RAM that write and read in its mode (R131, R135): port A writes, port B reads, in ONE_WAY and in a
Tank RAM. -/
def canWrite (m : RamMode) (portB : Bool) : Bool :=
  match m with
  | .dual => true
  | .oneWay | .addressed | .queue => !portB
  | .single => !portB
  | .unused => false

def canRead (m : RamMode) (portB : Bool) : Bool :=
  match m with
  | .dual => true
  | .oneWay | .addressed | .queue => portB
  | .single => !portB
  | .unused => false

/-- The word of a port that ADDR names, if it lies below the depth. -/
def portAddr (x : RamSet) (i : Nat) (portB : Bool) (q : RamReq) : Option Nat :=
  ramAddr (isTray i) (x.port portB).width x.cascade q.addr

/-- A port's write as it takes effect. In ECC mode a word holds DIN[63:0]; DIN[71:64] is ignored (R140). -/
def portWrite (k i : Nat) (portB : Bool) (q : RamReq) (s : Block) : Block :=
  let x := ramSet s k i
  let w := (x.port portB).width
  if q.en && canWrite x.mode portB && weAny w q.we then
    match portAddr x i portB q with
    | none => s
    | some a =>
      let din := if x.ecc then q.din.toNat % 2 ^ 64 else q.din.toNat
      let s := writeW k i w a (mergeWe w q.we (readW s k i w a) din) s
      let g := a * w / 72
      dropScrub k i g (when x.ecc (setMark k i g 0) s)
  else s

/-- The array bits a port's access touches: the first bit and the width. -/
def portSpan (x : RamSet) (i : Nat) (portB : Bool) (q : RamReq) : Option (Nat × Nat) :=
  (portAddr x i portB q).map (fun a => (a * (x.port portB).width, (x.port portB).width))

/-- Two spans of array bits meet. -/
def spansMeet : Option (Nat × Nat) → Option (Nat × Nat) → Bool
  | some (a, w), some (b, v) => a < b + v && b < a + w
  | _, _ => false

/-- The output stages of a port. -/
def stagesOf (r : Ram) (portB : Bool) : RamStages := if portB then r.portB else r.portA
def setStages (k i : Nat) (portB : Bool) (f : RamStages → RamStages) (s : Block) : Block :=
  let r := getRam s k i
  setRam s k i (if portB then { r with portB := f r.portB } else { r with portA := f r.portA })

/-- What a port shows on DOUT, SBE, DBE and COLL: its output register where that is on, else its last stage before it (R136, R151). -/
def ramShows (s : Block) (k i : Nat) (portB : Bool) : RamOut :=
  let x := ramSet s k i
  let st := stagesOf (getRam s k i) portB
  if (x.port portB).oregOn then st.oreg else if 1 < x.cascade then st.mid else st.latch

/-- One active edge of a port's output stages, before the array's read of this cycle: the output register takes the stage before it under
OREG_CE, or its initial value under OREG_SR; a cascade has one stage more (R136, R151). -/
def stageEdge (k i : Nat) (portB orCe orSr : Bool) (s : Block) : Block :=
  let x := ramSet s k i
  let p := x.port portB
  setStages k i portB (fun st =>
    let last := if 1 < x.cascade then st.mid else st.latch
    { st with oreg := if orSr then RamOut.ofData p.init else if orCe then last else st.oreg, mid := st.latch }) s

/-- The array's read puts a value into the read latch. -/
def setLatch (k i : Nat) (portB : Bool) (o : RamOut) (s : Block) : Block := setStages k i portB (fun st => { st with latch := o }) s

/-- The data a read port finds: in ECC mode with its flags and reports (R141), else the stored bits; beyond the depth zero. -/
def portRead (k i : Nat) (portB : Bool) (q : RamReq) (err : Nat) (s : Block) : Block :=
  let x := ramSet s k i
  let w := (x.port portB).width
  match portAddr x i portB q with
  | none => setLatch k i portB (RamOut.ofData 0) s
  | some a =>
    if x.ecc then
      let s := applyUpset k i a err s
      let m := markOf s k i a
      let s := when (m == 1) (framReport k i a false false) s
      let s := when (m == 2) (framReport k i a true false) s
      setLatch k i portB { data := BitVec.ofNat 72 (readW s k i w a % 2 ^ 64), sbe := m == 1, dbe := m == 2, coll := false } s
    else setLatch k i portB (RamOut.ofData (BitVec.ofNat 72 (readW s k i w a))) s

/-- The read latch of a port that writes (R134): NEW_DATA the word as written, OLD_DATA the word before, UNCHANGED kept. -/
def writeDout (k i : Nat) (portB : Bool) (old new : Nat) (s : Block) : Block :=
  match ((ramSet s k i).port portB).rdw with
  | .newData => setLatch k i portB (RamOut.ofData (BitVec.ofNat 72 new)) s
  | .oldData => setLatch k i portB (RamOut.ofData (BitVec.ofNat 72 old)) s
  | .unchanged => s

/-- The word a port names, or zero beyond the depth. -/
def portWord (s : Block) (k i : Nat) (portB : Bool) (q : RamReq) : Nat :=
  let x := ramSet s k i
  match portAddr x i portB q with
  | some a => readW s k i (x.port portB).width a
  | none => 0

/-- A port writes, or reads, in this cycle. -/
def portWrites (x : RamSet) (portB : Bool) (q : RamReq) : Bool := q.en && canWrite x.mode portB && weAny (x.port portB).width q.we
def portReads (x : RamSet) (portB : Bool) (q : RamReq) : Bool := q.en && canRead x.mode portB && !portWrites x portB q

/-- One port's access on its own. -/
def portCycle (k i : Nat) (portB : Bool) (q : RamReq) (err : Nat) (s : Block) : Block :=
  let x := ramSet s k i
  if portWrites x portB q then
    let old := portWord s k i portB q
    let s := portWrite k i portB q s
    when (canRead x.mode portB) (writeDout k i portB old (portWord s k i portB q)) s
  else when (portReads x portB q) (portRead k i portB q err) s

/-- The read of a collision within 200 ps (R139): each bit is old or new as a free mask picks, COLL is asserted with that data, SBE and
DBE are low for it and the collision counter advances. In ECC mode the data are 64 bits (R140). -/
def collidedRead (k i : Nat) (portB : Bool) (old new : Nat) (s : Block) : Block :=
  let m := s.draw
  let v := Nat.lor (Nat.land old m.1) (Nat.land new (Nat.xor (2 ^ 72 - 1) (Nat.land m.1 (2 ^ 72 - 1))))
  let v := if (ramSet s k i).ecc then v % 2 ^ 64 else v
  (setLatch k i portB { data := BitVec.ofNat 72 v, sbe := false, dbe := false, coll := true } m.2).bump (Rg.framCollCount (k / 80))

/-- Both ports in one cycle on synchronous clocks (R138): reads return the old data; where both write, A's bytes win. -/
def bothSync (k i : Nat) (a b : RamReq) (err : Nat) (s : Block) : Block :=
  let x := ramSet s k i
  let oldA := portWord s k i false a
  let oldB := portWord s k i true b
  let s := when (portReads x false a) (portRead k i false a err) s
  let s := when (portReads x true b) (portRead k i true b err) s
  let s := portWrite k i false a (portWrite k i true b s)
  let s := when (portWrites x false a && canRead x.mode false) (writeDout k i false oldA (portWord s k i false a)) s
  when (portWrites x true b && canRead x.mode true) (writeDout k i true oldB (portWord s k i true b)) s

/-- Both ports on asynchronous clocks with their edges within 200 ps on one word (R139). Two writes leave each byte with
one port's data, as a free choice gives; a port that writes shows what its own setting gives (R134). -/
def bothNear (k i : Nat) (a b : RamReq) (s : Block) : Block :=
  let x := ramSet s k i
  let oldA := portWord s k i false a
  let oldB := portWord s k i true b
  if portWrites x false a && portWrites x true b then
    let m := s.draw
    let s := portWrite k i false a (portWrite k i true b m.2)
    let s := portWrite k i true { b with we := BitVec.ofNat 8 (Nat.land m.1 b.we.toNat) } s
    let s := when (canRead x.mode false) (writeDout k i false oldA (portWord s k i false a)) s
    when (canRead x.mode true) (writeDout k i true oldB (portWord s k i true b)) s
  else if portWrites x false a then
    let s := portWrite k i false a s
    let s := when (canRead x.mode false) (writeDout k i false oldA (portWord s k i false a)) s
    when (portReads x true b) (collidedRead k i true oldB (portWord s k i true b)) s
  else
    let s := portWrite k i true b s
    let s := when (canRead x.mode true) (writeDout k i true oldB (portWord s k i true b)) s
    when (portReads x false a) (collidedRead k i false oldA (portWord s k i false a)) s

/-- The array's part of a cycle. -/
def arrayCycle (k i : Nat) (a b : Option RamReq) (near bFirst : Bool) (err : Nat) (s : Block) : Block :=
  let x := ramSet s k i
  match a, b with
  | none, none => s
  | some a, none => portCycle k i false a err s
  | none, some b => portCycle k i true b err s
  | some a, some b =>
    if portsSync s k i then bothSync k i a b err s
    else if near && spansMeet (portSpan x i false a) (portSpan x i true b) && a.en && b.en &&
        (portWrites x false a || portWrites x true b) then bothNear k i a b s
    else if bFirst then portCycle k i false a err (portCycle k i true b err s)
    else portCycle k i true b err (portCycle k i false a err s)

/-- RAM_PORT_ACCESS: an active edge at one or both ports of a RAM of a LIVE region, EN high or, for the output stages, low (R130 to
R144, R151). `near`: the edges of asynchronous ports fall within 200 ps; otherwise `bFirst` orders them. `err` is the error of the
word that the read finds: 0 none, 1 single-bit, 2 double-bit. A port whose clock does not run does nothing; in QUEUE mode the
ports' stages move and TANK_QUEUE_WRITE and TANK_QUEUE_READ do the rest. -/
def ramPortAccessStep (k i : Nat) (a b : Option RamReq) (near bFirst : Bool) (err : Nat) (s : Block) : Block :=
  let a := if portRuns s k i false then a else none
  let b := if portRuns s k i true then b else none
  let edge (portB : Bool) (q : Option RamReq) (s : Block) : Block :=
    match q with
    | some q => stageEdge k i portB q.orCe q.orSr s
    | none => s
  let s := edge true b (edge false a s)
  if (ramSet s k i).mode == .queue then s else arrayCycle k i a b near bFirst err s

def execRamPortAccess (sector : Fin 320) (ram : Fin 68) (a : Option RamReq) (b : Option RamReq) (near : Bool)
    (bFirst : Bool) (err : Fin 3) (s : State) : Host.Outcome State Fault Refusal :=
  clockedOn (sector.val / 80) (ramPortAccessStep sector.val ram.val a b near bFirst err.val) s

/-! ### QUEUE mode (R137) -/

/-- The depth of a Tank RAM or cascade in QUEUE mode. -/
def queueDepth (x : RamSet) : Nat := ramDepth false x.a.width x.cascade

/-- The read port presents the word at the read position, in ECC mode with its check (R137, R140, R141). -/
def queuePresent (k i err : Nat) (s : Block) : Block :=
  let x := ramSet s k i
  let w := x.a.width
  let p := (getRam s k i).rpos
  if x.ecc then
    let s := applyUpset k i p err s
    let m := markOf s k i p
    let s := when (m == 1) (framReport k i p false false) s
    let s := when (m == 2) (framReport k i p true false) s
    setLatch k i true { data := BitVec.ofNat 72 (readW s k i w p % 2 ^ 64), sbe := m == 1, dbe := m == 2, coll := false } s
  else setLatch k i true (RamOut.ofData (BitVec.ofNat 72 (readW s k i w p))) s

/-- A word enters the queue at its write position under its WE; the first one is presented at the read port (R137). -/
def queuePush (k i : Nat) (din : BitVec 72) (we : BitVec 8) (s : Block) : Block :=
  let x := ramSet s k i
  let r := getRam s k i
  let w := x.a.width
  let v := if x.ecc then din.toNat % 2 ^ 64 else din.toNat
  let s := writeW k i w r.wpos (mergeWe w we (readW s k i w r.wpos) v) s
  let s := dropScrub k i (r.wpos * w / 72) (when x.ecc (setMark k i (r.wpos * w / 72) 0) s)
  let s := setRam s k i { getRam s k i with wpos := (r.wpos + 1) % queueDepth x, count := r.count + 1 }
  when (r.count == 0) (queuePresent k i 0) s

/-- TANK_QUEUE_WRITE: DIN goes to the write position and the position advances; while FULL nothing is stored and QERR is set (R137). -/
def tankQueueWriteStep (k t : Nat) (din : BitVec 72) (we : BitVec 8) (s : Block) : Block :=
  let i := 60 + t
  let r := getRam s k i
  if !portRuns s k i false || (ramSet s k i).mode != .queue then s
  else if queueDepth (ramSet s k i) ≤ r.count then setRam s k i { r with qerr := true }
  else queuePush k i din we s

def execTankQueueWrite (sector : Fin 320) (tank : Fin 8) (din : BitVec 72) (we : BitVec 8) (s : State) :
    Host.Outcome State Fault Refusal := clockedOn (sector.val / 80) (tankQueueWriteStep sector.val tank.val din we) s

/-- The read position advances; while EMPTY nothing moves and QERR is set. -/
def queuePop (k i err : Nat) (s : Block) : Block :=
  let r := getRam s k i
  if r.count == 0 then setRam s k i { r with qerr := true }
  else queuePresent k i err (setRam s k i { r with rpos := (r.rpos + 1) % queueDepth (ramSet s k i), count := r.count - 1 })

/-- TANK_QUEUE_READ: an edge of the read port with EN high: its output stages move and the read position advances. OREG_SR clears QERR
(R137). -/
def tankQueueReadStep (k t : Nat) (orCe orSr : Bool) (err : Nat) (s : Block) : Block :=
  let i := 60 + t
  if !portRuns s k i true || (ramSet s k i).mode != .queue then s
  else
    let s := queuePop k i err (stageEdge k i true orCe orSr s)
    when orSr (fun s => setRam s k i { getRam s k i with qerr := false }) s

def execTankQueueRead (sector : Fin 320) (tank : Fin 8) (orCe : Bool) (orSr : Bool) (err : Fin 3) (s : State) :
    Host.Outcome State Fault Refusal := clockedOn (sector.val / 80) (tankQueueReadStep sector.val tank.val orCe orSr err.val) s

/-! ### User RAM scrub (R148 to R150) -/

/-- The RAM scrubs itself (R148): ECC, one clock, SCRUB_EN, SCRUB_GLOBAL_EN of its die, and a LIVE region (R144). -/
def scrubs (s : Block) (k i : Nat) : Bool :=
  portRuns s k i true && oneClock s k i && (ramSet s k i).ecc && (ramSet s k i).scrubEn && s.flag (Rg.fram (k / 80)) Rg.scrubGlobalEn

/-- The block that heads the cascade in which block i stands: itself, or a Tank RAM north of it whose run reaches it (R136). -/
def cascadeHead (s : Block) (k i : Nat) : Nat :=
  if isTray i then i
  else ((upto 4).map (i - ·)).find? (fun h => 60 ≤ h && (h - 60) / 4 == (i - 60) / 4 && i < h + (ramSet s k h).cascade) |>.getD i

/-- A scrub starvation has been raised: the key among what is raised once. -/
def starvedKey (k i : Nat) : Nat := 0x100000000 + ramKey k i

/-- The scrub reads the next word of one block in address order. -/
def scrubBlock (k j err : Nat) (s : Block) : Block :=
  let r := getRam s k j
  let w := r.scrubPos
  let s := setRam s k j { r with scrubPos := (w + 1) % blockWords j }
  let g := w
  let s := applyUpset k j g err s
  let m := markOf s k j g
  if m == 1 then
    let s := framReport k j g false true s
    let r := getRam s k j
    setRam s k j { r with scrubBack := some w }
  else if m == 2 then framReport k j g true true s
  else s

/-- USER_RAM_SCRUB_READ: an idle read cycle after a scrub interval: every block of the RAM or cascade reads its next
word. `err` is the error that block `which` of them finds. -/
def userRamScrubReadStep (k i which err : Nat) (s : Block) : Block :=
  if scrubs s k i then
    let n := if isTray i then 1 else Nat.max 1 (ramSet s k i).cascade
    let s := { s with once := spSet (fun _ => false) s.once (starvedKey k i) false }
    forEach (upto n) (fun j s => scrubBlock k (i + j) (if j == which then err else 0) s) s
  else s

def execUserRamScrubRead (sector : Fin 320) (ram : Fin 68) (which : Fin 4) (err : Fin 3) (s : State) :
    Host.Outcome State Fault Refusal := clockedOn (sector.val / 80) (userRamScrubReadStep sector.val ram.val which.val err.val) s

/-- USER_RAM_SCRUB_WRITEBACK: an idle write cycle: the corrected word goes back unless the design has written it (R149). -/
def userRamScrubWritebackStep (k i : Nat) (s : Block) : Block :=
  let r := getRam s k i
  match r.scrubBack with
  | some w =>
    if scrubs s k (cascadeHead s k i) then
      setRam s k i { r with scrubBack := none, marks := spSet (fun _ => 0) r.marks w 0 }
    else s
  | none => s

def execUserRamScrubWriteback (sector : Fin 320) (ram : Fin 68) (s : State) : Host.Outcome State Fault Refusal :=
  clockedOn (sector.val / 80) (userRamScrubWritebackStep sector.val ram.val) s

/-- SCRUB_STARVED: no idle read cycle through 65,536 scrub intervals: a sector event, raised once (R150). -/
def scrubStarvedStep (k i : Nat) (s : Block) : Block :=
  let key := starvedKey k i
  if scrubs s k i && !spGet (fun _ => false) s.once key then
    let s := { s with once := spSet (fun _ => false) s.once key true }
    (s.raise Ev.scrubStarved (originOf (0x26 + 0x20 * (k / 80))) k i).eicEdge (eicDie (k / 80) 21)
  else s

def execScrubStarved (sector : Fin 320) (ram : Fin 68) (s : State) : Host.Outcome State Fault Refusal :=
  clockedOn (sector.val / 80) (scrubStarvedStep sector.val ram.val) s

/-! ### What loads and region states do to a RAM (R143 to R145) -/

/-- RAM i of sector k while its region is not LIVE: each output register holds the initial value its plate sets (R144). -/
def ramHold (k i : Nat) (s : Block) : Block :=
  let x := ramSet s k i
  setRam s k i { getRam s k i with portA := RamStages.all (RamOut.ofData x.a.init), portB := RamStages.all (RamOut.ofData x.b.init) }

/-- A RAM at a sector region reset: contents stay, queue positions go to 0 (R137, R145). -/
def ramRegionReset (k i : Nat) (s : Block) : Block := setRam s k i { getRam s k i with wpos := 0, rpos := 0, count := 0 }

/-- f on every RAM of a sector. -/
def eachRam (k : Nat) (f : Nat → Nat → Block → Block) (s : Block) : Block := forEach (upto 68) (f k) s

/-- Nothing has been raised for the RAMs of a sector: what they raise once may be raised again (R150). -/
def clearStarved (k : Nat) (s : Block) : Block :=
  { s with once := spClear (fun i => decide (starvedKey k 0 ≤ i) && decide (i < starvedKey (k + 1) 0)) s.once }

/-- The loader's check of a RAM's settings (R136, R137, R148): QUEUE mode with ports of one width on one clock or synchronous clocks; SCRUB_EN
with ECC on one clock; a cascade of two to four Tank RAMs of one column at ×72. -/
def ramSetOk (s : Block) (k i : Nat) : Bool :=
  let x := ramSet s k i
  (x.mode != .queue || (x.a.width == x.b.width && portsSync s k i)) && (!x.scrubEn || (x.ecc && oneClock s k i)) &&
    (x.cascade ≤ 1 || (60 ≤ i && x.cascade ≤ 4 && (i - 60) % 4 + x.cascade ≤ 4 && x.a.width == 72 && x.b.width == 72))

end Sys2Proof.Machine
end

