-- ==== Sys2Proof/Machine/Engine.lean ====
section
/-! DEFINITION. MAC engines (06): decoding and legality of the instruction at the program counter, the complex and nibble
datapaths, rounding, address generators, program control, FIFOs and engine reset. -/

namespace Sys2Proof.Machine

def getEng (s : Block) (e : Nat) : Engine := spGet (fun _ => Engine.cleared) s.engines e

def setEng (s : Block) (e : Nat) (g : Engine) : Block :=
  { s with engines := spSet (fun _ => Engine.cleared) s.engines e g }

/-- The sector and the die of engine e, and its number on the die. -/
def engSector (e : Nat) : Nat := e / 48
def engDie (e : Nat) : Nat := e / 3840

/-- MOD as AGSET and the plate encode it: 0 stands for 512 (R169). -/
def agMod (f : Nat) : Nat := if f == 0 then 512 else f

/-- The plate-set initial values of address generator n of engine e (R169). DESIGN CHOICE: a plate's MOD above 512 counts as 512 and an index
not below M is taken modulo M, since R169 gives only the ranges. -/
def agInit (s : Block) (e n : Nat) : AddrGen :=
  let f (kind : CfgKind) : Nat := cfgGet s (engSector e) kind (e % 48) n
  let m := Nat.min 512 (agMod (f .agMod))
  { base := BitVec.ofNat 9 (f .agBase), step := BitVec.ofNat 10 (f .agStep), mod := m, bitrev := f .agMode % 2 == 1,
    ri := f .agRi % m, wi := f .agWi % m }

/-- Engine reset (R179): operand memories stay, address generators take their plate-set initial values. -/
def engReset (a0 a1 : AddrGen) (g : Engine) : Engine :=
  { g with mode := .idle, pc := 0, startReq := false, inProgress := false, accR := 0, accI := 0, exp := 0, nw := 0, flags := 0,
           ag0 := a0, ag1 := a1, ia := [], ib := [], oq := [], rep := none, loop := none }

/-- Engine e enters engine reset. -/
def engResetAt (e : Nat) (s : Block) : Block := setEng s e (engReset (agInit s e 0) (agInit s e 1) (getEng s e))

/-- The network of an engine's core: 32, the fabric global clock, or a global clock of the sector; none where ECLK selects the tie-off
(R154). -/
def engNet (s : Block) (e : Nat) : Option Nat :=
  match muxPick 18 (cfgGet s (engSector e) .eclk (e % 48) 0) with
  | none => none
  | some i => if i == 0 then some 32 else sectorNet s (engSector e) (i - 1)

/-- The network of the fabric side of a FIFO: 0 IA, 1 IB, 2 OQ (R172). -/
def fifoNet (s : Block) (e n : Nat) : Option Nat := clockNet s (engSector e) (cfgGet s (engSector e) .fifoClk (e % 48) n)

/-- Engine reset is in force: RST high, a region that is not LIVE, or the hold of a region reset (R179, R185, R215). -/
def engInReset (s : Block) (e : Nat) : Bool :=
  !sectorLive s (engSector e) || resetHeld s (engSector e) || (getEng s e).rst

/-- The engine runs: its clock runs and no stop-shutter holds it, and it is out of reset (R154, R241). -/
def engUp (s : Block) (e : Nat) : Bool := !engInReset s e && clockReaches s (engSector e) (engNet s e)

/-- The fabric side of a FIFO takes clock edges, and the engine is out of reset (R172, R179). -/
def fifoUp (s : Block) (e n : Nat) : Bool := !engInReset s e && clockReaches s (engSector e) (fifoNet s e n)

/-- f on every engine of a sector. -/
def eachEngine (k : Nat) (f : Nat → Block → Block) (s : Block) : Block := forEach (upto 48) (fun i s => f (48 * k + i) s) s

/-! ### Flags, logs and stops -/

def flUnderrun : Nat := 0
def flOverrun : Nat := 1
def flPsat : Nat := 2
def flAovf : Nat := 3
def flOsat : Nat := 4
def flNsat : Nat := 5
def flOmdbe : Nat := 6
def flIllegal : Nat := 7

/-- Set a sticky flag when c holds. -/
def setFlag (i : Nat) (c : Bool) (g : Engine) : Engine :=
  if c then { g with flags := g.flags ||| BitVec.ofNat 8 (2 ^ i) } else g

/-- An entry of MACE_ERR_LOG (R188): type 0 single-bit, 1 double-bit, 2 illegal. -/
def maceLogWord (s : Block) (typ mem e addr : Nat) : Nat :=
  typ * 2 + mem * 8 + (e % 3840) * 16 + addr * 2 ^ 16 + (s.devTime.toNat / 1024 % 2 ^ 36) * 2 ^ 28

/-- Log an error of engine e and raise the die's MAC engine source and a sector event (R182, R188). -/
def maceRaise (typ mem e addr : Nat) (s : Block) : Block :=
  let d := engDie e
  let s := s.logWrite (Rg.maceErrLog d) (maceLogWord s typ mem e addr) Ev.maceLogFull
  let s := (s.eicEdge (eicDie d 17)).eicEdge (eicDie d 21)
  s.raise Ev.maceError (originOf (0x26 + 0x20 * d)) (e % 3840) typ

/-- An operand memory error (R171, R188): counted; logged and raised when double-bit, or with SBE_EVENT_EN 1. -/
def maceReport (dbe : Bool) (mem e addr : Nat) (s : Block) : Block :=
  let d := engDie e
  let s := s.bump (if dbe then Rg.maceDbeCount d else Rg.maceSbeCount d)
  when (dbe || s.flag (Rg.fram d) Rg.maceSbeEventEn) (maceRaise dbe.toNat mem e addr) s

/-- The engine stops before an illegal instruction (R182). -/
def illegalStop (e : Nat) (s : Block) : Block :=
  let g := getEng s e
  let s := setEng s e (setFlag flIllegal true { g with mode := .illegal, rep := none })
  maceRaise 2 0 e g.pc.toNat s

/-! ### Address generators (R169, R170) -/

/-- i with its low k bits reversed. -/
def bitrev (k i : Nat) : Nat :=
  (upto k).foldl (fun v j => if i.testBit j then v + 2 ^ (k - 1 - j) else v) (i / 2 ^ k * 2 ^ k)

/-- The address of an access at index i (R170). -/
def agAddr (a : AddrGen) (i : Nat) : Nat :=
  (a.base.toNat + (if a.bitrev then bitrev (Nat.log2 a.mod) i else i)) % 512

/-- An index after a step (R170). -/
def agStep (a : AddrGen) (i : Nat) : Nat := (((i : Int) + a.step.toInt) % (a.mod : Int)).toNat

/-! ### Instruction fields (R183) -/

/-- A field [hi:lo] of an instruction word. -/
def ifld (w hi lo : Nat) : Nat := fldGet w lo (hi + 1 - lo)

/-- Opcodes of R183. -/
def opNop : Nat := 0x0
def opMac : Nat := 0x1
def opNmac : Nat := 0x2
def opNorm : Nat := 0x3
def opAgset : Nat := 0x4
def opSet : Nat := 0x5
def opRep : Nat := 0x8
def opLoop : Nat := 0x9
def opJmp : Nat := 0xA
def opWait : Nat := 0xB
def opSig : Nat := 0xC
def opStop : Nat := 0xF

def opAssigned (op : Nat) : Bool := [0, 1, 2, 3, 4, 5, 8, 9, 10, 11, 12, 15].contains op

/-- x is a power of two. -/
def isPow2 (x : Nat) : Bool := x != 0 && 2 ^ Nat.log2 x == x

/-- The instruction word is legal by itself: its opcode and field values are assigned and its reserved bits are zero
(R170, R182, R183). -/
def legalWord (w : Nat) : Bool :=
  let op := ifld w 63 60
  if op == opMac then
    ifld w 59 57 ≤ 4 && ifld w 56 54 ≤ 4 && ifld w 53 51 ≤ 5 && ifld w 50 48 ≤ 4 && ifld w 45 43 ≤ 4 &&
    ifld w 29 24 ≤ 48 && !(2 ≤ ifld w 37 36 && ifld w 34 33 == 3) && ifld w 23 0 == 0
  else if op == opNmac then
    ifld w 59 57 ≤ 4 && ifld w 56 54 ≤ 4 && ifld w 53 51 ≤ 4 && ifld w 50 48 == 0 && ifld w 47 46 == 0 &&
    [0, 1, 3, 4].contains (ifld w 45 43) && ifld w 42 42 == 0 && ifld w 37 36 ≤ 1 && ifld w 34 33 == 0 &&
    ifld w 30 30 == 0 && ifld w 29 24 ≤ 10 && ifld w 23 0 == 0
  else if op == opNorm then ifld w 58 0 == 0
  else if op == opAgset then
    let m := agMod (ifld w 38 29)
    m ≤ 512 && ifld w 28 20 < m && ifld w 19 11 < m && (ifld w 58 58 == 0 || isPow2 m) && ifld w 10 0 == 0
  else if op == opSet then ifld w 56 54 ≤ 4 && ifld w 47 42 == 0 && ifld w 37 32 == 0
  else if op == opRep then ifld w 47 0 == 0
  else if op == opLoop then ifld w 42 0 == 0
  else if op == opJmp then ifld w 59 57 ≤ 6 && ifld w 56 48 == 0 && ifld w 42 0 == 0
  else if op == opWait then ifld w 59 57 ≤ 6 && ifld w 56 0 == 0
  else if op == opSig then ifld w 56 0 == 0
  else if op == opNop || op == opStop then ifld w 59 0 == 0
  else false

/-- The instruction word is legal where it stands: after a REP only MAC, NMAC, NORM or NOP (R178); no LOOP inside a loop
body, no END below the LOOP, no JMP out of a body (R180). -/
def legalHere (g : Engine) (w : Nat) : Bool :=
  let op := ifld w 63 60
  legalWord w &&
  (g.rep.isNone || [opNop, opMac, opNmac, opNorm].contains op) &&
  (if op == opLoop then g.loop.isNone && g.pc.toNat ≤ ifld w 47 43
   else if op == opJmp then
     match g.loop with
     | some (a, b, _) => a.toNat ≤ ifld w 47 43 && ifld w 47 43 ≤ b.toNat
     | none => true
   else true)

/-! ### Program order -/

/-- The program counter after an instruction at pc has completed, with LOOP's return to its first address (R180). -/
def nextPc (g : Engine) : Engine :=
  match g.loop with
  | some (a, b, n) =>
    if g.pc == b then
      if 1 < n then { g with pc := a, loop := some (a, b, n - 1) } else { g with pc := g.pc + 1, loop := none }
    else { g with pc := g.pc + 1 }
  | none => { g with pc := g.pc + 1 }

/-- A level of HALT takes effect at an instruction boundary outside a REP (R177). -/
def haltCheck (g : Engine) : Engine :=
  if g.halt && g.rep.isNone && !g.inProgress && g.mode == .running then { g with mode := .halted } else g

/-- A pending start request begins at address 0 when the engine is idle and HALT is low (R176). -/
def startIfIdle (g : Engine) : Engine :=
  if g.startReq && g.mode == .idle && !g.halt then { g with mode := .running, pc := 0, startReq := false } else g

/-- What the levels of HALT and START ask for, at a clocked boundary (R176, R177): a halt, a resumption, a start. -/
def engSettle (g : Engine) : Engine :=
  startIfIdle (if g.mode == .halted && !g.halt then { g with mode := .running } else haltCheck g)

/-- An instruction has completed: one issue of a REP, or a step of the program counter. -/
def advance (g : Engine) : Engine :=
  let g := { g with inProgress := false }
  match g.rep with
  | some n => if 1 < n then { g with rep := some (n - 1) } else haltCheck (nextPc { g with rep := none })
  | none => haltCheck (nextPc g)

/-- The instruction at the program counter: the store is configuration memory (R174). -/
def engWord (s : Block) (e : Nat) : Nat := cfgGet s (engSector e) .store (e % 48) (getEng s e).pc.toNat

/-- The instruction at the program counter waits: it is in progress (R175, R177, R183). -/
def engStall (e : Nat) (s : Block) : Block := setEng s e { getEng s e with inProgress := true }

/-- An engine that runs executes the instruction at its program counter when its opcode is `op`; an illegal instruction,
a reserved opcode among them, stops it instead (R175, R182). An engine that does not run, or stands at another
instruction, is unchanged. -/
def engExec (op e : Nat) (body : Nat → Block → Block) (s : Block) : Block :=
  let s := if engUp s e then setEng s e (engSettle (getEng s e)) else s
  let g := getEng s e
  if engUp s e && g.mode == .running then
    let w := engWord s e
    if ifld w 63 60 == op || !opAssigned (ifld w 63 60) then
      if legalHere g w then body w s else illegalStop e s
    else s
  else s

/-! ### Operands (R168, R171, R173, R175) -/

/-- What an unlisted word of an operand memory reads as: zero, or free values where a built-in self-test has overwritten the memory
(R187). -/
def omDef (g : Engine) (memB : Bool) (a : Nat) : BitVec 36 :=
  match g.omBlur with
  | none => 0
  | some k => BitVec.ofNat 36 (Config.freeAt k (512 * memB.toNat + a))

/-- A word of OM_A or OM_B. -/
def omWord (g : Engine) (memB : Bool) (a : Nat) : BitVec 36 := spGet (omDef g memB) (if memB then g.omB else g.omA) a

/-- An operand memory word of engine e as an instruction reads it, with its check. -/
def omRead (memB : Bool) (e err : Nat) (s : Block) : Nat × Block :=
  let g := getEng s e
  let a := agAddr (if memB then g.ag1 else g.ag0) (if memB then g.ag1.ri else g.ag0.ri)
  let mark := spGet (fun _ => 0) (if memB then g.markB else g.markA) a
  let m := max mark err
  let s := if mark < m then
      let g := if memB then { g with markB := spSet (fun _ => 0) g.markB a m }
               else { g with markA := spSet (fun _ => 0) g.markA a m }
      if m == 2 then
        let d := s.draw
        let v := BitVec.ofNat 36 d.1
        setEng d.2 e (if memB then { g with omB := spSet (omDef g true) g.omB a v }
                      else { g with omA := spSet (omDef g false) g.omA a v })
      else setEng s e g
    else s
  let s := when (m == 1) (maceReport false memB.toNat e a) s
  let s := when (m == 2) (fun s => maceReport true memB.toNat e a (setEng s e (setFlag flOmdbe true (getEng s e)))) s
  let g := getEng s e
  ((omWord g memB a).toNat, s)

/-- The operand words of an instruction: OM_A, OM_B, IA head and IB head. -/
structure Heads where
  omA : Nat
  omB : Nat
  ia  : Nat
  ib  : Nat

/-- The value of a source code (R183). -/
def srcVal (h : Heads) (code : Nat) : Nat :=
  if code == 1 then h.omA else if code == 2 then h.omB else if code == 3 then h.ia else if code == 4 then h.ib else 0

/-- An instruction with these source codes stalls: outside a REP an operand comes from an empty FIFO (R175). -/
def stallsIn (g : Engine) (codes : List Nat) : Bool :=
  g.rep.isNone && ((codes.contains 3 && g.ia.isEmpty) || (codes.contains 4 && g.ib.isEmpty))

/-- Fetch the operands that these source codes name; inside a REP an empty FIFO gives zero and sets UNDERRUN (R175). -/
def fetch (e errA errB : Nat) (codes : List Nat) (s : Block) : Heads × Block :=
  let a := if codes.contains 1 then omRead false e errA s else (0, s)
  let b := if codes.contains 2 then omRead true e errB a.2 else (0, a.2)
  let s := b.2
  let g := getEng s e
  let under := (codes.contains 3 && g.ia.isEmpty) || (codes.contains 4 && g.ib.isEmpty)
  ({ omA := a.1, omB := b.1, ia := (g.ia.head?.map (·.toNat)).getD 0, ib := (g.ib.head?.map (·.toNat)).getD 0 },
   setEng s e (setFlag flUnderrun under g))

/-- The pops and read-index steps that end an instruction (R170, R173). -/
def popsAndSteps (w : Nat) (g : Engine) : Engine :=
  let g := if ifld w 41 41 == 1 then { g with ia := g.ia.drop 1 } else g
  let g := if ifld w 40 40 == 1 then { g with ib := g.ib.drop 1 } else g
  let g := if ifld w 39 39 == 1 then { g with ag0 := { g.ag0 with ri := agStep g.ag0 g.ag0.ri } } else g
  if ifld w 38 38 == 1 then { g with ag1 := { g.ag1 with ri := agStep g.ag1 g.ag1.ri } } else g

/-! ### The complex datapath (R156 to R160) -/

/-- The clamp of a signed number to w bits, and whether it clamped. -/
def clampS (w : Nat) (v : Int) : Int × Bool :=
  let hi : Int := 2 ^ (w - 1) - 1
  let lo : Int := -(2 ^ (w - 1))
  if hi < v then (hi, true) else if v < lo then (lo, true) else (v, false)

/-- Real and imaginary parts of an operand word (R156). -/
def re18 (x : Nat) : Int := sgn 18 x
def im18 (x : Nat) : Int := sgn 18 (x / 2 ^ 18)

/-- The pre-adder on one part (R158): the part and whether it was clamped. -/
def preAdd (pre : Nat) (half : Bool) (x y : Int) : Int × Bool :=
  let p := if pre == 0 then x else if pre == 1 then y else if pre == 2 then x + y else if pre == 3 then x - y else y - x
  clampS 18 (if half then p / 2 else p)

/-- C' of R159: the conjugate when CONJ is 1, its negated imaginary part clamped. -/
def conjIm (conj : Bool) (ci : Int) : Int × Bool := if conj then clampS 18 (-ci) else (ci, false)

/-- The base B and the sign s of ACCOP (R160). -/
def accBase (op : Nat) (acc : Int) : Int := if op == 1 || op == 2 then 0 else acc
def accSign (op : Nat) : Int := if op == 0 then 0 else if op == 2 || op == 4 then -1 else 1

/-- One accumulator part (R160): the new 56-bit value and whether it overflowed. -/
def accPart (op : Nat) (xadd : Bool) (acc m x : Int) : BitVec 56 × Bool :=
  let a := accBase op acc + accSign op * m + (if xadd then x * 2 ^ 17 else 0)
  (BitVec.ofInt 56 a, decide (a < -(2 ^ 55)) || decide (2 ^ 55 - 1 < a))

/-! ### Output rounding (R166, R167) -/

/-- q of R166 before the reduction to w bits. -/
def roundShift (v : Int) (f : Nat) (rnd : Bool) : Int :=
  if f == 0 then v
  else
    let t := v / 2 ^ f
    let rem := v - t * 2 ^ f
    let half : Int := 2 ^ (f - 1)
    if rnd && (half < rem || (rem == half && t % 2 == 1)) then t + 1 else t

/-- A part rounded and reduced to w bits, and whether SAT clamped it. -/
def outPart (v : Int) (f w : Nat) (rnd sat : Bool) : Int × Bool :=
  let q := roundShift v f rnd
  if sat then clampS w q else (sgn w (unsgn w q), false)

/-- The output width of WIDTH. -/
def outWidth (f : Nat) : Nat := if f == 0 then 8 else if f == 1 then 16 else if f == 2 then 18 else 24

/-- The output shift F (R165): from the field, or 56 - w - EXP, zero where that is negative. -/
def outShift (w : Nat) (g : Engine) (width : Nat) : Nat :=
  if ifld w 30 30 == 1 then 56 - width - g.exp.toNat else ifld w 29 24

/-- The output word of a MAC (R157). -/
def outWord (r i : Int) (exp : BitVec 6) : BitVec 54 :=
  BitVec.ofNat 54 (unsgn 24 r + unsgn 24 i * 2 ^ 24 + exp.toNat * 2 ^ 48)

/-- Send a word to OQ; inside a REP a full OQ discards it and sets OVERRUN (R175). -/
def toOq (v : BitVec 54) (g : Engine) : Engine :=
  if 16 ≤ g.oq.length then setFlag flOverrun true g else { g with oq := g.oq ++ [v] }

/-- Write an operand word at the WI of a memory's generator; the write makes good check bits. -/
def toOm (memB : Bool) (v : BitVec 36) (step : Bool) (g : Engine) : Engine :=
  if memB then
    let a := agAddr g.ag1 g.ag1.wi
    { g with omB := spSet (omDef g true) g.omB a v, markB := spSet (fun _ => 0) g.markB a 0,
             ag1 := if step then { g.ag1 with wi := agStep g.ag1 g.ag1.wi } else g.ag1 }
  else
    let a := agAddr g.ag0 g.ag0.wi
    { g with omA := spSet (omDef g false) g.omA a v, markA := spSet (fun _ => 0) g.markA a 0,
             ag0 := if step then { g.ag0 with wi := agStep g.ag0 g.ag0.wi } else g.ag0 }

/-- The destination OQ is full and the instruction stands outside a REP: it stalls (R175). -/
def stallsOut (g : Engine) (dst : Nat) : Bool := g.rep.isNone && dst == 1 && 16 ≤ g.oq.length

/-- The datapath of a MAC on its operands (R158 to R160, R165, R166). -/
def macCompute (w : Nat) (h : Heads) (g : Engine) : Engine :=
  let x := srcVal h (ifld w 59 57)
  let y := srcVal h (ifld w 56 54)
  let one := ifld w 53 51 == 5
  let c := srcVal h (ifld w 53 51)
  let half := ifld w 47 47 == 1
  let pr := preAdd (ifld w 50 48) half (re18 x) (re18 y)
  let pi := preAdd (ifld w 50 48) half (im18 x) (im18 y)
  let ci := if one then (0, false) else conjIm (ifld w 46 46 == 1) (im18 c)
  let cr := re18 c
  let mr := if one then pr.1 * 2 ^ 17 else pr.1 * cr - pi.1 * ci.1
  let mi := if one then pi.1 * 2 ^ 17 else pr.1 * ci.1 + pi.1 * cr
  let xadd := ifld w 42 42 == 1
  let ar := accPart (ifld w 45 43) xadd g.accR.toInt mr (re18 x)
  let ai := accPart (ifld w 45 43) xadd g.accI.toInt mi (im18 x)
  let g := { g with accR := ar.1, accI := ai.1 }
  let g := setFlag flPsat (pr.2 || pi.2 || ci.2) (setFlag flAovf (ar.2 || ai.2) g)
  let dst := ifld w 37 36
  if dst == 0 then g
  else
    let width := outWidth (ifld w 34 33)
    let f := outShift w g width
    let rnd := ifld w 32 32 == 1
    let sat := ifld w 31 31 == 1
    let qr := outPart g.accR.toInt f width rnd sat
    let qi := outPart g.accI.toInt f width rnd sat
    let g := setFlag flOsat (qr.2 || qi.2) g
    if dst == 1 then toOq (outWord qr.1 qi.1 g.exp) g
    else toOm (dst == 3) (BitVec.ofNat 36 (unsgn 18 qr.1 + unsgn 18 qi.1 * 2 ^ 18)) (ifld w 35 35 == 1) g

/-- ENGINE_MAC (R158 to R173). -/
def engineMacStep (e errA errB : Nat) : Block → Block :=
  engExec opMac e (fun w s =>
    let g := getEng s e
    let codes := [ifld w 59 57, ifld w 56 54, ifld w 53 51]
    if stallsIn g codes || stallsOut g (ifld w 37 36) then engStall e s
    else
      let h := fetch e errA errB codes s
      setEng h.2 e (advance (popsAndSteps w (macCompute w h.1 (getEng h.2 e)))))

def execEngineMac (e : Fin 15360) (errA : Fin 3) (errB : Fin 3) (s : State) : Host.Outcome State Fault Refusal :=
  clockedOn (e.val / 3840) (engineMacStep e.val errA.val errB.val) s

/-! ### Nibble mode (R161 to R163) -/

/-- Signed nibble j of an operand. -/
def nib (x j : Nat) : Int := sgn 4 (x / 2 ^ (4 * j))

/-- Lane j of the accumulators (R162). -/
def laneGet (g : Engine) (j : Nat) : Int :=
  if j < 4 then sgn 14 (g.accR.toNat / 2 ^ (14 * j)) else sgn 14 (g.accI.toNat / 2 ^ (14 * (j - 4)))

def laneSet (j : Nat) (v : Int) (g : Engine) : Engine :=
  if j < 4 then { g with accR := BitVec.ofNat 56 (fldSet g.accR.toNat (14 * j) 14 (unsgn 14 v)) }
  else { g with accI := BitVec.ofNat 56 (fldSet g.accI.toNat (14 * (j - 4)) 14 (unsgn 14 v)) }

/-- One lane of an NMAC (R161, R162). -/
def nmacLane (op x y c j : Nat) (g : Engine) : Engine :=
  let p := nib x j * nib c j + nib y j * nib g.nw.toNat j
  let v := clampS 14 (accBase op (laneGet g j) + accSign op * p)
  setFlag flNsat v.2 (laneSet j v.1 g)

/-- The four lanes that an NMAC with a destination outputs (R163). -/
def nmacOut (w : Nat) (g : Engine) : Engine :=
  let base := if ifld w 35 35 == 1 then 4 else 0
  let part (j : Nat) := outPart (laneGet g (base + j)) (ifld w 29 24) 12 (ifld w 32 32 == 1) (ifld w 31 31 == 1)
  let word := (upto 4).foldl (fun v j => v + unsgn 12 (part j).1 * 2 ^ (12 * j)) 0
  toOq (BitVec.ofNat 54 word) (setFlag flOsat ((upto 4).any (fun j => (part j).2)) g)

/-- ENGINE_NMAC (R161 to R163, R166). -/
def engineNmacStep (e errA errB : Nat) : Block → Block :=
  engExec opNmac e (fun w s =>
    let g := getEng s e
    let codes := [ifld w 59 57, ifld w 56 54, ifld w 53 51]
    if stallsIn g codes || stallsOut g (ifld w 37 36) then engStall e s
    else
      let h := fetch e errA errB codes s
      let g := getEng h.2 e
      let x := srcVal h.1 (ifld w 59 57)
      let y := srcVal h.1 (ifld w 56 54)
      let c := srcVal h.1 (ifld w 53 51)
      let g := (upto 8).foldl (fun g j => nmacLane (ifld w 45 43) x y c j g) g
      let g := if ifld w 37 36 == 1 then nmacOut w g else g
      setEng h.2 e (advance (popsAndSteps w g)))

def execEngineNmac (e : Fin 15360) (errA : Fin 3) (errB : Fin 3) (s : State) : Host.Outcome State Fault Refusal :=
  clockedOn (e.val / 3840) (engineNmacStep e.val errA.val errB.val) s

/-! ### NORM, AGSET, SET (R164, R169, R183) -/

/-- rs(v): the bits directly below bit 55 that equal it (R164). -/
def redundant (v : BitVec 56) : Nat := go 54 55
where
  go (i : Nat) : Nat → Nat
    | 0 => 0
    | n + 1 => if v.getLsbD i == v.getLsbD 55 then 1 + go (i - 1) n else 0

/-- ENGINE_NORM (R164). -/
def engineNormStep (e : Nat) : Block → Block :=
  engExec opNorm e (fun w s =>
    let g := getEng s e
    let r := min (redundant g.accR) (redundant g.accI)
    let g := { g with exp := BitVec.ofNat 6 r }
    let g := if ifld w 59 59 == 1 then { g with accR := g.accR <<< r, accI := g.accI <<< r } else g
    setEng s e (advance g))

def execEngineNorm (e : Fin 15360) (s : State) : Host.Outcome State Fault Refusal := clockedOn (e.val / 3840) (engineNormStep e.val) s

/-- ENGINE_AGSET (R169, R183). -/
def engineAgsetStep (e : Nat) : Block → Block :=
  engExec opAgset e (fun w s =>
    let g := getEng s e
    let a : AddrGen := { base := BitVec.ofNat 9 (ifld w 57 49), step := BitVec.ofNat 10 (ifld w 48 39),
                         mod := agMod (ifld w 38 29), bitrev := ifld w 58 58 == 1, ri := ifld w 28 20, wi := ifld w 19 11 }
    setEng s e (advance (if ifld w 59 59 == 1 then { g with ag1 := a } else { g with ag0 := a })))

def execEngineAgset (e : Fin 15360) (s : State) : Host.Outcome State Fault Refusal := clockedOn (e.val / 3840) (engineAgsetStep e.val) s

/-- ENGINE_SET (R183): CLRF clears every sticky flag except ILLEGAL. -/
def engineSetStep (e errA errB : Nat) : Block → Block :=
  engExec opSet e (fun w s =>
    let g := getEng s e
    let ld := ifld w 59 59 == 1
    let codes := if ld then [ifld w 56 54] else []
    if stallsIn g codes then engStall e s
    else
      let h := fetch e errA errB codes s
      let g := getEng h.2 e
      let g := if ld then
          { g with nw := BitVec.ofNat 32 (if ifld w 56 54 == 0 then ifld w 31 0 else srcVal h.1 (ifld w 56 54)) }
        else g
      let g := if ifld w 58 58 == 1 then { g with exp := BitVec.ofNat 6 (ifld w 53 48) } else g
      let g := if ifld w 57 57 == 1 then { g with flags := g.flags &&& 0x80#8 } else g
      setEng h.2 e (advance (popsAndSteps w g)))

def execEngineSet (e : Fin 15360) (errA : Fin 3) (errB : Fin 3) (s : State) : Host.Outcome State Fault Refusal :=
  clockedOn (e.val / 3840) (engineSetStep e.val errA.val errB.val) s

/-! ### Program control (R176 to R183) -/

/-- ENGINE_NOP. -/
def engineNopStep (e : Nat) : Block → Block := engExec opNop e (fun _ s => setEng s e (advance (getEng s e)))

def execEngineNop (e : Fin 15360) (s : State) : Host.Outcome State Fault Refusal := clockedOn (e.val / 3840) (engineNopStep e.val) s

/-- COUNT of REP and LOOP: 0 stands for 4,096. -/
def repCount (f : Nat) : Nat := if f == 0 then 4096 else f

/-- ENGINE_REP: the next instruction is issued COUNT times (R178). -/
def engineRepStep (e : Nat) : Block → Block :=
  engExec opRep e (fun w s =>
    let g := nextPc (getEng s e)
    setEng s e { g with rep := some (repCount (ifld w 59 48)) })

def execEngineRep (e : Fin 15360) (s : State) : Host.Outcome State Fault Refusal := clockedOn (e.val / 3840) (engineRepStep e.val) s

/-- ENGINE_LOOP: the body from the next instruction to END runs COUNT times (R180). -/
def engineLoopStep (e : Nat) : Block → Block :=
  engExec opLoop e (fun w s =>
    let g := getEng s e
    let endA := BitVec.ofNat 5 (ifld w 47 43)
    let g' := { g with pc := g.pc + 1 }
    let g' := if endA == g.pc then g' else { g' with loop := some (g.pc + 1, endA, repCount (ifld w 59 48)) }
    setEng s e (haltCheck g'))

def execEngineLoop (e : Fin 15360) (s : State) : Host.Outcome State Fault Refusal := clockedOn (e.val / 3840) (engineLoopStep e.val) s

/-- COND of JMP and WAIT (R183). -/
def engCond (g : Engine) (c : Nat) : Bool :=
  if c == 0 then true else if c == 1 then g.gpi0 else if c == 2 then !g.gpi0 else if c == 3 then g.gpi1
  else if c == 4 then !g.gpi1 else if c == 5 then !g.ia.isEmpty else g.flags != 0

/-- ENGINE_JMP (R183). -/
def engineJmpStep (e : Nat) : Block → Block :=
  engExec opJmp e (fun w s =>
    let g := getEng s e
    setEng s e (if engCond g (ifld w 59 57) then haltCheck { g with pc := BitVec.ofNat 5 (ifld w 47 43) } else advance g))

def execEngineJmp (e : Fin 15360) (s : State) : Host.Outcome State Fault Refusal := clockedOn (e.val / 3840) (engineJmpStep e.val) s

/-- ENGINE_WAIT: held until COND is true (R183). -/
def engineWaitStep (e : Nat) : Block → Block :=
  engExec opWait e (fun w s =>
    let g := getEng s e
    if engCond g (ifld w 59 57) then setEng s e (advance g) else engStall e s)

def execEngineWait (e : Fin 15360) (s : State) : Host.Outcome State Fault Refusal := clockedOn (e.val / 3840) (engineWaitStep e.val) s

/-- ENGINE_SIG: GPO levels and the EVT pulse (R172, R183). -/
def engineSigStep (e : Nat) : Block → Block :=
  engExec opSig e (fun w s =>
    let g := getEng s e
    let s := setEng s e (advance { g with gpo0 := ifld w 59 59 == 1, gpo1 := ifld w 58 58 == 1 })
    when (ifld w 57 57 == 1) (fun s => s.emit (.engineEvt e)) s)

def execEngineSig (e : Fin 15360) (s : State) : Host.Outcome State Fault Refusal := clockedOn (e.val / 3840) (engineSigStep e.val) s

/-- ENGINE_STOP: the program ends and earlier results drain (R181). -/
def engineStopStep (e : Nat) : Block → Block :=
  engExec opStop e (fun _ s => setEng s e { getEng s e with mode := .draining, loop := none })

def execEngineStop (e : Fin 15360) (s : State) : Host.Outcome State Fault Refusal := clockedOn (e.val / 3840) (engineStopStep e.val) s

/-- ENGINE_STOP_DRAINED: DONE pulses, BUSY falls, and the engine waits for START (R181). -/
def engineStopDrainedStep (e : Nat) (s : Block) : Block :=
  let g := getEng s e
  if engUp s e && g.mode == .draining then (setEng s e { g with mode := .idle }).emit (.engineDone e) else s

def execEngineStopDrained (e : Fin 15360) (s : State) : Host.Outcome State Fault Refusal :=
  clockedOn (e.val / 3840) (engineStopDrainedStep e.val) s

/-- The engine's levels have changed: where its clock runs it acts on them at once, else when its clock runs again. -/
def engLevels (e : Nat) (g : Engine) (s : Block) : Block := setEng s e (if engUp s e then engSettle g else g)

/-- ENGINE_START: a rising edge on START; ignored in engine reset and while the engine is running or halted (R176, R179). -/
def engineStartStep (e : Nat) (s : Block) : Block :=
  let g := getEng s e
  if !engInReset s e && g.mode == .idle then engLevels e { g with startReq := true } s else s

def execEngineStart (e : Fin 15360) (s : State) : Host.Outcome State Fault Refusal := clockedOn (e.val / 3840) (engineStartStep e.val) s

/-- ENGINE_HALT: HALT rises; the engine stops at the next boundary, after the whole REP where one is in progress (R177). -/
def engineHaltStep (e : Nat) (s : Block) : Block := engLevels e { getEng s e with halt := true } s

def execEngineHalt (e : Fin 15360) (s : State) : Host.Outcome State Fault Refusal := clockedOn (e.val / 3840) (engineHaltStep e.val) s

/-- ENGINE_HALT_RELEASE: HALT falls; execution resumes at the next instruction, or a waiting start begins (R176, R177). -/
def engineHaltReleaseStep (e : Nat) (s : Block) : Block := engLevels e { getEng s e with halt := false } s

def execEngineHaltRelease (e : Fin 15360) (s : State) : Host.Outcome State Fault Refusal :=
  clockedOn (e.val / 3840) (engineHaltReleaseStep e.val) s

/-- ENGINE_RESET: RST high puts the engine into engine reset at once, RST low releases it (R179). -/
def engineResetStep (e : Nat) (high : Bool) (s : Block) : Block :=
  let s := when high (engResetAt e) s
  setEng s e { getEng s e with rst := high }

def execEngineReset (e : Fin 15360) (high : Bool) (s : State) : Host.Outcome State Fault Refusal :=
  clockedOn (e.val / 3840) (engineResetStep e.val high) s

/-- ENGINE_FIFO_WRITE: a word into IA or IB on an edge of that FIFO's clock; ignored while the FIFO is full, and in engine reset (R172,
R179). -/
def engineFifoWriteStep (e : Nat) (b : Bool) (word : BitVec 36) (s : Block) : Block :=
  let g := getEng s e
  if !fifoUp s e b.toNat then s
  else if b then (if g.ib.length < 16 then setEng s e { g with ib := g.ib ++ [word] } else s)
  else if g.ia.length < 16 then setEng s e { g with ia := g.ia ++ [word] } else s

def execEngineFifoWrite (e : Fin 15360) (b : Bool) (word : BitVec 36) (s : State) : Host.Outcome State Fault Refusal :=
  clockedOn (e.val / 3840) (engineFifoWriteStep e.val b word) s

/-- ENGINE_OQ_READ: the head word of OQ is removed on an edge of its clock (R172). -/
def engineOqReadStep (e : Nat) (s : Block) : Block :=
  if fifoUp s e 2 then setEng s e { getEng s e with oq := (getEng s e).oq.drop 1 } else s

def execEngineOqRead (e : Fin 15360) (s : State) : Host.Outcome State Fault Refusal := clockedOn (e.val / 3840) (engineOqReadStep e.val) s

/-- ENGINE_GPI_CHANGE: the levels of GPI_0 and GPI_1 (R172, R183). -/
def engineGpiChangeStep (e : Nat) (g0 g1 : Bool) (s : Block) : Block :=
  setEng s e { getEng s e with gpi0 := g0, gpi1 := g1 }

def execEngineGpiChange (e : Fin 15360) (gpi0 : Bool) (gpi1 : Bool) (s : State) : Host.Outcome State Fault Refusal :=
  clockedOn (e.val / 3840) (engineGpiChangeStep e.val gpi0 gpi1) s

/-- MACE_STATUS_n of engine e (06). -/
def maceStatusWord (s : Block) (e : Nat) : Nat :=
  let g := getEng s e
  g.pc.toNat + (g.mode == .running || g.mode == .draining).toNat * 2 ^ 5 +
  (g.mode == .halted || g.mode == .illegal).toNat * 2 ^ 6 + (engInReset s e).toNat * 2 ^ 7 +
  g.flags.toNat * 2 ^ 8 + g.exp.toNat * 2 ^ 16

end Sys2Proof.Machine
end

