-- ==== Sys2Proof/Machine/AddrMap.lean ====
section
/-! DEFINITION. The device address map (R26 to R36): the windows, and the DRAM interleave (R28 to R30) with its inverse. -/

namespace Sys2Proof.Machine

/-- Where an address leads (R26). -/
inductive Dest where
  /-- A hole, or a reserved part of a window (R27). -/
  | hole
  /-- A DRAM channel and the offset in it. -/
  | dram (ch off : Nat)
  /-- Access point k of die d, and the offset in its region (R32). -/
  | ap (d k off : Nat)
  /-- Site n (0 H0, 1 P1, 2 P2), and the offset in its window (R25). -/
  | site (n off : Nat)
  /-- The doorbell of a queue. -/
  | doorbell (q : Nat)
  /-- The control space, at an offset. -/
  | control (off : Nat)
deriving DecidableEq, Repr

/-- The granule in bytes of a granule setting (R28). -/
def granBytes (g : Nat) : Nat := if g == 0 then 256 else if g == 1 then 1024 else if g == 2 then 4096 else 65536

/-- The smallest capacity of the channels of a set. -/
def minCap (caps : List Nat) : Nat :=
  match caps with
  | [] => 0
  | c :: cs => cs.foldl Nat.min c

/-- The bytes of each channel that the DRAM window maps (R29, R30). -/
def mappedCap (m : DMap) (ch : Nat) : Nat :=
  if m.mode == 2 then Nat.min (m.caps.getD ch 0) 0x4000000000
  else if m.mode == 1 then minCap ((m.caps.drop (4 * (ch / 4))).take 4)
  else minCap m.caps

/-- The channel and the offset in it of a DRAM window address, whatever is mapped there (R28). -/
def dramSplit (m : DMap) (a : Nat) : Nat × Nat :=
  let g := granBytes m.gran
  if m.mode == 2 then (a / 0x4000000000, a % 0x4000000000)
  else if m.mode == 1 then
    let st := a / 0x10000000000
    let b := a % 0x10000000000
    (4 * st + b / g % 4, b / (4 * g) * g + b % g)
  else (a / g % 8, a / (8 * g) * g + a % g)

/-- The device address of an offset in a channel: the inverse of R28 (R423). -/
def dramJoin (m : DMap) (ch off : Nat) : Nat :=
  let g := granBytes m.gran
  if m.mode == 2 then ch * 0x4000000000 + off
  else if m.mode == 1 then ch / 4 * 0x10000000000 + off / g * (4 * g) + ch % 4 * g + off % g
  else off / g * (8 * g) + ch * g + off % g

/-- Where a device address leads (R26 to R36). -/
def destOf (s : Block) (a : Nat) : Dest :=
  if a < 0x20000000000 then
    let p := dramSplit s.dmap a
    if p.1 < 8 && p.2 < mappedCap s.dmap p.1 then .dram p.1 p.2 else .hole
  else if 0x400000000000 ≤ a && a < 0x440000000000 then
    let b := a - 0x400000000000
    let d := b / 0x10000000000
    let o := b % 0x10000000000
    if o / 0x80000000 < 96 then .ap d (o / 0x80000000) (o % 0x80000000) else .hole
  else if 0x600000000000 ≤ a && a < 0x630000000000 then
    let b := a - 0x600000000000
    .site (b / 0x10000000000) (b % 0x10000000000)
  else if 0x700000000000 ≤ a && a < 0x700004000000 then .doorbell ((a - 0x700000000000) / 64)
  else if 0x7F0000000000 ≤ a && a < 0x7F0100000000 then .control (a - 0x7F0000000000)
  else .hole

/-- The address that a request carries to its target: within a site's window or an access point's region the offset in it (R25, R32). -/
def reqAddr (s : Block) (a : Nat) : Nat :=
  match destOf s a with
  | .site _ o => o
  | .ap _ _ o => o
  | _ => a

/-- The sector column and row of access point k (R446), and its sector's number. -/
def apColumn (k : Nat) : Nat := if k < 64 then 1 + k / 8 else if k < 80 then 0 else 9
def apRow (k : Nat) : Nat := if k < 64 then k % 8 else (k - 64) % 16 / 2
def apSector (d k : Nat) : Nat := 80 * d + 8 * apColumn k + apRow k

/-- The fabric clock of an access point's sector is held by a stop-shutter (R242). -/
def apHeld (s : Block) (d k : Nat) : Bool := s.shut.held.getLsbD (apSector d k)

/-- An access point that a loaded plate uses (R33). -/
def apUsed (s : Block) (d k : Nat) : Bool := spGet (fun _ => 0) s.cfg.apOwner (96 * d + k) != 0

end Sys2Proof.Machine
end

