-- ==== Sys2Proof/Machine/LineForm.lean ====
section
/-! DEFINITION. The line scrambler's arithmetic (14): the mix and its inverse (R424 to R426), the tag (R427), and the
symbol code of a codeword (R428). -/

namespace Sys2Proof.Machine

/-- Rotate a 32-bit word left. -/
def rotl (x : BitVec 32) (n : Nat) : BitVec 32 := x.rotateLeft n

/-- Four 32-bit words of a lane. -/
structure Lane where
  w0 : BitVec 32
  w1 : BitVec 32
  w2 : BitVec 32
  w3 : BitVec 32
deriving DecidableEq, Repr

/-- Word i of a 128-bit value. -/
def word32 (k : BitVec 128) (i : Nat) : BitVec 32 := k.extractLsb' (32 * i) 32

/-- The tweak words (R424): device address bits [47:6], the epoch, the lane field and the tag flag. -/
def tweak0 (a : Nat) : BitVec 32 := BitVec.ofNat 32 a
def tweak1 (a : Nat) (epoch : Bool) (lane : Nat) (tag : Bool) : BitVec 32 :=
  BitVec.ofNat 32 (fldGet a 32 10 + epoch.toNat * 2 ^ 10 + lane % 4 * 2 ^ 12 + tag.toNat * 2 ^ 14)

/-- The round key RK_(r,i) (R425). -/
def roundKey (k : BitVec 128) (t0 t1 : BitVec 32) (r i : Nat) : BitVec 32 :=
  word32 k ((i + r) % 4) ^^^ rotl 0x5DA71E3B#32 (4 * r) ^^^ (if i % 2 == 0 then t0 else t1)

/-- One round of the mix (R426). -/
def mixRound (k : BitVec 128) (t0 t1 : BitVec 32) (x : Lane) (r : Nat) : Lane :=
  let a := x.w0 + roundKey k t0 t1 r 0
  let b := x.w1 + roundKey k t0 t1 r 1
  let c := x.w2 + roundKey k t0 t1 r 2
  let d := x.w3 + roundKey k t0 t1 r 3
  let a := a ^^^ rotl b 8
  let b := b ^^^ rotl c 12
  let c := c ^^^ rotl d 16
  let d := d ^^^ rotl a 20
  { w0 := b, w1 := d, w2 := a, w3 := c }

/-- The final whitening. -/
def mixEnd (k : BitVec 128) (t0 t1 : BitVec 32) (x : Lane) : Lane :=
  { w0 := x.w0 + roundKey k t0 t1 6 0, w1 := x.w1 + roundKey k t0 t1 6 1,
    w2 := x.w2 + roundKey k t0 t1 6 2, w3 := x.w3 + roundKey k t0 t1 6 3 }

/-- The mix of one lane (R426). -/
def mix (k : BitVec 128) (t0 t1 : BitVec 32) (x : Lane) : Lane :=
  mixEnd k t0 t1 ([0, 1, 2, 3, 4, 5].foldl (mixRound k t0 t1) x)

/-- One round of the inverse. -/
def unmixRound (k : BitVec 128) (t0 t1 : BitVec 32) (x : Lane) (r : Nat) : Lane :=
  let a := x.w2
  let b := x.w0
  let c := x.w3
  let d := x.w1
  let d := d ^^^ rotl a 20
  let c := c ^^^ rotl d 16
  let b := b ^^^ rotl c 12
  let a := a ^^^ rotl b 8
  { w0 := a - roundKey k t0 t1 r 0, w1 := b - roundKey k t0 t1 r 1,
    w2 := c - roundKey k t0 t1 r 2, w3 := d - roundKey k t0 t1 r 3 }

/-- The inverse of the whitening. -/
def unmixEnd (k : BitVec 128) (t0 t1 : BitVec 32) (x : Lane) : Lane :=
  { w0 := x.w0 - roundKey k t0 t1 6 0, w1 := x.w1 - roundKey k t0 t1 6 1,
    w2 := x.w2 - roundKey k t0 t1 6 2, w3 := x.w3 - roundKey k t0 t1 6 3 }

/-- The inverse of the mix (R426). -/
def unmix (k : BitVec 128) (t0 t1 : BitVec 32) (x : Lane) : Lane :=
  [5, 4, 3, 2, 1, 0].foldl (unmixRound k t0 t1) (unmixEnd k t0 t1 x)

/-- Lane j of a line (R424), byte 0 of the line in its lowest bits. -/
def laneOf (l : BitVec 512) (j : Nat) : Lane :=
  { w0 := l.extractLsb' (128 * j) 32, w1 := l.extractLsb' (128 * j + 32) 32,
    w2 := l.extractLsb' (128 * j + 64) 32, w3 := l.extractLsb' (128 * j + 96) 32 }

/-- A lane as 128 bits. -/
def laneBits (x : Lane) : BitVec 128 := x.w3 ++ x.w2 ++ x.w1 ++ x.w0

/-- Four lanes as a line. -/
def joinLanes (a b c d : Lane) : BitVec 512 := laneBits d ++ laneBits c ++ laneBits b ++ laneBits a

/-- The stored form of a line's data under its form (R421, R426). -/
def scramble (f : LineForm) (l : BitVec 512) : BitVec 512 :=
  match f.key with
  | none => l
  | some k =>
    let m (j : Nat) := mix k (tweak0 f.addr) (tweak1 f.addr f.epoch j false) (laneOf l j)
    joinLanes (m 0) (m 1) (m 2) (m 3)

/-- The data of a stored form. -/
def descramble (f : LineForm) (l : BitVec 512) : BitVec 512 :=
  match f.key with
  | none => l
  | some k =>
    let m (j : Nat) := unmix k (tweak0 f.addr) (tweak1 f.addr f.epoch j false) (laneOf l j)
    joinLanes (m 0) (m 1) (m 2) (m 3)

/-- Xor of two lanes. -/
def laneXor (x y : Lane) : Lane :=
  { w0 := x.w0 ^^^ y.w0, w1 := x.w1 ^^^ y.w1, w2 := x.w2 ^^^ y.w2, w3 := x.w3 ^^^ y.w3 }

/-- The tag of a line's plaintext (R427); 0 outside tagged mode. -/
def lineTag (f : LineForm) (l : BitVec 512) : BitVec 32 :=
  match f.key with
  | none => 0
  | some k =>
    if f.tagged then
      let x := laneXor (laneXor (laneOf l 0) (laneOf l 1)) (laneXor (laneOf l 2) (laneOf l 3))
      let y := mix k (tweak0 f.addr) (tweak1 f.addr f.epoch 0 true) x
      y.w0 ^^^ y.w1 ^^^ y.w2 ^^^ y.w3
    else 0

/-! ### The symbol code (R428) -/

/-- Multiply by α = 2 in GF(2^8) on x^8 + x^4 + x^3 + x^2 + 1. -/
def gfDouble (x : Nat) : Nat := if x < 128 then 2 * x else Nat.xor (2 * x % 256) 0x1D

/-- Multiplication in the field, over the low k bits of b. -/
def gfMulFrom : Nat → Nat → Nat → Nat
  | 0, _, _ => 0
  | k + 1, a, b => Nat.xor (if b % 2 == 1 then a else 0) (gfMulFrom k (gfDouble a) (b / 2))

def gfMul (a b : Nat) : Nat := gfMulFrom 8 a b

/-- α^i. -/
def gfPow : Nat → Nat
  | 0 => 1
  | i + 1 => gfDouble (gfPow i)

/-- Product of a polynomial (highest coefficient first) with x + c. -/
def polyMulLin (p : List Nat) (c : Nat) : List Nat :=
  List.zipWith Nat.xor (p ++ [0]) (0 :: p.map (gfMul c))

/-- The generator polynomial of k check symbols, highest coefficient first. -/
def rsGen (k : Nat) : List Nat := (List.range k).foldl (fun p i => polyMulLin p (gfPow i)) [1]

/-- One step of the remainder: shift in a message symbol. -/
def rsStep (g rem : List Nat) (m : Nat) : List Nat :=
  let q := Nat.xor m (rem.headD 0)
  List.zipWith Nat.xor (rem.drop 1 ++ [0]) ((g.drop 1).map (gfMul q))

/-- The k check symbols of a message (R428). -/
def rsCheck (k : Nat) (msg : List Nat) : List Nat := msg.foldl (rsStep (rsGen k)) (List.replicate k 0)

/-- The stored symbols of codeword c of a line: 16 data symbols, the tag byte in tagged mode, then the check symbols
(R381, R382, R428). -/
def codeword (ddr4 : Bool) (f : LineForm) (l : BitVec 512) (tag : BitVec 32) (c : Nat) : List Nat :=
  let d := (List.range 16).map (fun p => fldGet l.toNat (128 * c + 8 * p) 8)
  let m := if f.tagged && !ddr4 then d ++ [fldGet tag.toNat (8 * c) 8] else d
  m ++ rsCheck (if ddr4 then 2 else if f.tagged then 3 else 4) m

/-- What the decoder makes of a codeword with n wrong symbols (R383, R428): some true corrected, some false found
uncorrectable, none not guaranteed to be found. -/
def symbolVerdict (ddr4 tagged : Bool) (n : Nat) : Option Bool :=
  let t := if ddr4 || tagged then 1 else 2
  if n ≤ t then some true
  else if tagged && !ddr4 && n == 2 then some false
  else none

end Sys2Proof.Machine
end

