-- ==== Sys2Proof/Machine/Routing.lean ====
section
/-! DEFINITION. The places of the network (15, 16): modules and their edges (R480), routers and their modules (R445, R447), the dies
that HD reaches, and the sets of routing tables (R464, R465). -/

namespace Sys2Proof.Machine

/-! ### Modules and edges (R480) -/

/-- The dies in the part that terminate a module: 0 to 3 FD0 to FD3, 4 HD. -/
def linkEnds (m : Nat) : List Nat :=
  match m / 4 with
  | 0 => [0, 1]
  | 1 => [2, 3]
  | 2 => [0, 2]
  | 3 => [1, 3]
  | 4 => [4, 0]
  | 5 => [4, 2]
  | _ => if m < 26 then [4] else if m < 28 then [1] else if m < 30 then [3] else if m < 32 then [1] else if m < 34 then [3] else []

/-- The modules of a module's edge, in index order. -/
def siblings (m : Nat) : List Nat := if m < 24 then (upto 4).map (fun k => m / 4 * 4 + k) else [m / 2 * 2, m / 2 * 2 + 1]

/-- The number of a module's edge: 0 to 5 between the device's dies, 6 to 10 to the sites. -/
def edgeOf (m : Nat) : Nat := if m < 24 then m / 4 else 6 + (m - 24) / 2

/-- The index k of a module within its edge. -/
def linkIndex (m : Nat) : Nat := if m < 24 then m % 4 else m % 2

/-- The site of a module: 0 H0, 1 P1, 2 P2. -/
def linkSite (m : Nat) : Option Nat := if m < 24 then none else if m < 30 then some 0 else if m < 32 then some 1 else some 2

/-- The modules of a site. -/
def siteModules (n : Nat) : List Nat := (upto 34).filter (fun m => linkSite m == some n)

/-- The fabric die that lies beyond an edge from HD, for the edges HD crosses to reach it (R464). -/
def beyond (e : Nat) : Option Nat := if e == 0 then some 1 else if e == 1 then some 3 else if e == 4 then some 0 else if e == 5 then some 2 else none

/-- The die that receives an edge's forwarded clock in the device (R480). -/
def clockDie (e : Nat) : Option Nat := if e == 0 then some 1 else if e == 1 then some 3 else if e == 4 then some 0 else if e == 5 then some 2 else none

def hasEnd (d m : Nat) : Bool := (linkEnds m).contains d

/-! ### Routers (R445 to R447) -/

/-- The modules whose bridges attach to a router, and the first of the ports they take, two for each module (R445, R447). -/
def routerModules (r : Nat) : Nat × List Nat :=
  let d := r / 24
  let x := r % 24 % 6
  let y := r % 24 / 6
  if r == 96 then (12, [24, 25])
  else if r == 97 then (8, [16, 17, 18, 19])
  else if r == 99 then (8, [20, 21, 22, 23])
  else if 96 ≤ r then (12, [])
  else
    let one (m : Nat) : Nat × List Nat := (12, [m])
    if d == 0 then
      if x == 5 then one y else if x == 0 then one (16 + y) else if y == 3 then one (8 + (x - 1)) else (12, [])
    else if d == 1 then
      if x == 0 then one y else if x == 5 && 2 ≤ y then one (26 + (y - 2))
      else if y == 3 && 1 ≤ x && x ≤ 4 then one (12 + (x - 1)) else if y == 0 && (x == 2 || x == 3) then one (30 + (x - 2)) else (12, [])
    else if d == 2 then
      if x == 5 then one (4 + y) else if x == 0 then one (20 + y) else if y == 0 && 1 ≤ x && x ≤ 4 then one (8 + (x - 1)) else (12, [])
    else
      if x == 0 then one (4 + y) else if x == 5 && y ≤ 1 then one (28 + y)
      else if y == 0 && 1 ≤ x && x ≤ 4 then one (12 + (x - 1)) else if y == 3 && (x == 2 || x == 3) then one (32 + (x - 2)) else (12, [])

/-- The module on a router's port. -/
def portModule (r port : Nat) : Option Nat :=
  if port < (routerModules r).1 then none else (routerModules r).2[(port - (routerModules r).1) / 2]?

/-- The die of a router. -/
def routerDie (r : Nat) : Nat := r / 24

/-! ### Paths between dies (R53, R464, R504) -/

/-- Neighbours of a die, HD being 4, those across a west-east edge first. -/
def dieNear (d : Nat) : List Nat := [[4, 1, 2], [0, 3], [4, 3, 0], [2, 1], [0, 2]].getD d []

/-- The edge between two neighbouring dies. -/
def edgeBetween (a b : Nat) : Nat := ((upto 24).find? (fun m => hasEnd a m && hasEnd b m)).elim 6 edgeOf

/-- Dies reached from die `a` in at most k hops over edges that `edge` allows, through dies that are not gone. -/
def reachIn (edge : Nat → Nat → Bool) (gone : Nat → Bool) (a : Nat) : Nat → List Nat
  | 0 => [a]
  | k + 1 =>
    let l := reachIn edge gone a k
    l ++ (upto 5).filter (fun d => !l.contains d && !gone d && (dieNear d).any (fun x => l.contains x && edge d x))

/-- The same from HD. -/
def reachFrom (edge : Nat → Nat → Bool) (gone : Nat → Bool) (k : Nat) : List Nat := reachIn edge gone 4 k

/-- A lost edge has die d beyond it (R504). -/
def lostDie (s : Block) (d : Nat) : Bool := s.dl.edgeDown.any (fun e => beyond e == some d)

/-- Die d cannot be passed: its clocks do not run, or the edge that HD reaches it by is lost. -/
def dieGone (s : Block) (d : Nat) : Bool := dieOff s d || lostDie s d

/-- Fabric die d is in reset, gated or unreachable: its targets are answered as in a fabric die reset (R50, R504). -/
def dieAway (s : Block) (d : Nat) : Bool :=
  decide (d < 4) && !(reachFrom (fun a b => !s.dl.edgeDown.contains (edgeBetween a b)) (dieGone s) 4).contains d

/-! ### Sets of routing tables (R464, R465) -/

/-- The hops of the shortest way from die a to die b around the dies that are gone. -/
def dieHops (gone : Nat → Bool) (a b : Nat) : Option Nat := (upto 5).find? (fun k => (reachIn (fun _ _ => true) gone a k).contains b)

/-- The die that traffic from die a to die b enters next: a shortest way around the dies that are gone, across the west-east edges
first (R464).  DEDUCED: the spec gives the default ways and those of a set without FD1, which this rule yields. -/
def nextDie (gone : Nat → Bool) (a b : Nat) : Option Nat :=
  (dieNear a).find? (fun n => !gone n && ((dieHops gone n b).map (· + 1) == dieHops gone a b))

/-- Dies with modules to a site: FD1, FD3 and HD to H0, FD1 to P1, FD3 to P2. -/
def siteDies (n : Nat) : List Nat := if n == 0 then [1, 3, 4] else if n == 1 then [1] else [3]

/-- The die through which a site is reached from die a: the nearest with modules to it (R464). -/
def siteVia (gone : Nat → Bool) (a n : Nat) : Option Nat :=
  let near := (siteDies n).filter (fun d => !gone d && (dieHops gone a d).isSome)
  near.find? (fun d => near.all (fun x => decide (((dieHops gone a d).getD 9) ≤ (dieHops gone a x).getD 9)))

/-- The modules by which a packet may leave die d for a destination: those of the edge to the next die, or to the site. -/
def exitModules (t : TableSet) (d e : Nat) : List Nat :=
  let gone (x : Nat) : Bool := t.gone.getLsbD x
  let between (n : Nat) : List Nat := (upto 24).filter (fun m => hasEnd d m && hasEnd n m)
  if e < 100 then ((nextDie gone d (e / 24)).map between).getD []
  else
    match siteVia gone d (e - 100) with
    | none => []
    | some x => if x == d then (siteModules (e - 100)).filter (hasEnd d) else ((nextDie gone d x).map between).getD []

/-- Of these, the modules that an entry names: none that is spared; one in DEGRADED in half of the entries, the even ones (DESIGN CHOICE:
R500 does not say which half). -/
def entryModules (t : TableSet) (d e : Nat) : List Nat :=
  let l := (exitModules t d e).filter (fun m => !t.spared.contains m)
  let h := l.filter (fun m => e % 2 == 0 || !t.halved.contains m)
  if h.isEmpty then l else h

/-- The port along x and then along y from router i to router j of a die (R464), as a PORT_MASK. -/
def portXY (d i j : Nat) : Nat :=
  let w := if d < 4 then 6 else 2
  if i % w < j % w then 2 else if j % w < i % w then 8 else if i / w < j / w then 4 else if j / w < i / w then 1 else 0

/-- A module's router on a die. -/
def moduleRouter (d m : Nat) : Nat := ((upto 24).find? (fun i => (routerModules (24 * d + i)).2.contains m)).getD 0

/-- The two ports of a module at its router, as a PORT_MASK. -/
def modulePorts (d m : Nat) : Nat :=
  let r := routerModules (24 * d + moduleRouter d m)
  3 * 2 ^ (r.1 + 2 * ((r.2.findIdx? (· == m)).getD 0))

/-- ACTION codes of an entry. -/
def absorbOff : Nat := 1 * 2 ^ 16
def absorbDead : Nat := 2 * 2 ^ 16

/-- Entry e of router i of die d in a set (R462 to R465): within the die along x and then y; ABSORB_OFF for the routers of a die that is
gone and where no way is left; ABSORB_DEAD for a site that is not present; else toward the module that the set names. -/
def tableEntry (t : TableSet) (d i e : Nat) : Nat :=
  if 103 ≤ e then 0
  else if e < 100 && e / 24 == d then portXY d i (e % 24)
  else if e < 96 && t.gone.getLsbD (e / 24) then absorbOff
  else if 100 ≤ e && !t.sites.getLsbD (e - 100) then absorbDead
  else
    let l := entryModules t d e
    match l[Config.routeExit d e % l.length]? with
    | none => absorbOff
    | some m => if moduleRouter d m == i then modulePorts d m else portXY d i (moduleRouter d m)

/-- The device holds a set for some dies gone (R465): those that R53 permits to be in reset, at most two, no other die cut off from HD;
and on every edge between dies in service a module is left. -/
def setHeld (gone : BitVec 4) (spared : List Nat) : Bool :=
  let g (x : Nat) : Bool := gone.getLsbD x
  decide ((bitsOf 4 gone.toNat).length ≤ 2) &&
    (upto 4).all (fun d => g d || (reachFrom (fun _ _ => true) g 4).contains d) &&
    (upto 24).all (fun m => (linkEnds m).any (fun d => d < 4 && g d) || (siblings m).any (fun b => !spared.contains b))

/-- The set in table t of the routers. -/
def tableSet (s : Block) (t : Nat) : TableSet := spGet (fun _ => TableSet.default) s.net.tables t

end Sys2Proof.Machine
end

