-- ==== Sys2Proof/Machine/Memory.lean ====
section
/-! DEFINITION. DRAM contents as requests see them: channel state, uninitialised blocks (R406), a line's form (R421,
R437), and whole clear-view reads and writes of memory by the device's own engines.  What a channel does with single
requests is in Sys2Proof/Machine/Dram.lean. -/

namespace Sys2Proof.Machine

def getDc (s : Block) (n : Nat) : DcSt := spGet (fun _ => DcSt.reset) s.dcs n

def setDc (n : Nat) (c : DcSt) (s : Block) : Block := { s with dcs := spSet (fun _ => DcSt.reset) s.dcs n c }

/-- DC_STATUS.STATE (R409): 0 UNTRAINED, 1 TRAINING, 2 ONLINE, 3 DRAINING, 4 QUIESCED, 5 CHANNEL_ERROR, 6 FAILED,
7 OFFLINE. -/
def dcState (s : Block) (n : Nat) : Nat := s.f (Rg.dc n) Rg.dcState

/-- The target port of channel n (R448). -/
def dcPort (n : Nat) : Nat := Rg.tport (n / 2) (0x68 + n % 2)

/-- Enter a channel state; the channel's target port follows it (R409, R469), but for a port isolated while the channel
was not in CHANNEL_ERROR or FAILED, which stays ISOLATED until NOC_RELEASE (R471). -/
def setDcState (n new : Nat) (s : Block) : Block :=
  let old := dcState s n
  let s := s.put (Rg.dc n) Rg.dcState new
  if s.f (dcPort n) Rg.tpState == 3 && old != 5 && old != 6 then s
  else
    let st := if new == 2 then 0 else if new == 3 then 1 else if new == 5 || new == 6 then 3 else 2
    (s.put (dcPort n) Rg.tpState st).put (dcPort n) Rg.tpForced (if st == 3 then 1 else 0)

/-- Blocks of 1 MiB in a channel. -/
def dcBlocks (c : DcSt) : Nat := (c.cap + 0xFFFFF) / 0x100000

/-- The 1 MiB block of a line. -/
def blockOf (line : Nat) : Nat := line / 0x4000

/-- A block has been initialised (R406). -/
def blockDone (c : DcSt) (b : Nat) : Bool := decide (b < c.initBelow) || c.initExtra.contains b

/-- The region that holds a device address, in the table of channel n's line scrambler (R421). -/
def regionAt (s : Block) (n a : Nat) : Option Nat :=
  (upto 64).find? (fun r => s.flag (Rg.lsu n) (Rg.rgValid r) &&
    decide (s.f (Rg.lsu n) (Rg.rgBase r) ≤ a) && decide (a < s.f (Rg.lsu n) (Rg.rgLimit r)))

/-- The key in slot k of channel n's line scrambler. -/
def slotKey (s : Block) (n k : Nat) : Option (BitVec 128) := spGet (fun _ => none) s.lsu.slots (16 * n + k)

/-- The form of a region's line in the region's present setting, or in the target of its sweep (R436, R437). -/
def regionForm (s : Block) (n a r : Nat) (new : Bool) : LineForm :=
  let b := Rg.lsu n
  let clear := s.flag b (if new then Rg.rgNewClear r else Rg.rgKeyClear r)
  let slot := s.f b (if new then Rg.rgNewKey r else Rg.rgKey r)
  { key := if clear then none else slotKey s n slot,
    tagged := !clear && s.flag b (if new then Rg.rgNewTagEn r else Rg.rgTagEn r),
    epoch := s.flag b (Rg.rgEpoch r) != new, addr := a / 64, region := r }

/-- The form a request to a line of channel n takes now (R421, R437). -/
def lineForm (s : Block) (n line : Nat) : LineForm :=
  let a := dramJoin s.dmap n (64 * line)
  match regionAt s n a with
  | none => { key := none, tagged := false, epoch := false, addr := a / 64, region := 64 }
  | some r => regionForm s n a r (s.flag (Rg.lsu n) (Rg.rgSweep r) && decide (a < s.f (Rg.lsu n) (Rg.rgBound r)))

/-- The free values a line holds after a self-test march overwrote it (R416), if one has. -/
def blurOf (c : DcSt) (line : Nat) : Option Nat :=
  (c.blurs.find? (fun x => decide (x.1 ≤ line) && decide (line ≤ x.2.1))).map (fun x => x.2.2)

/-- What an unlisted line's stored form and tag are: zero, or free values after a self-test. -/
def lineDefault (c : DcSt) (line : Nat) : BitVec 512 :=
  match blurOf c line with
  | some k => BitVec.ofNat 512 (Config.freeAt (2 * k) line)
  | none => 0
def tagDefault (c : DcSt) (line : Nat) : BitVec 32 :=
  match blurOf c line with
  | some k => BitVec.ofNat 32 (Config.freeAt (2 * k + 1) line)
  | none => 0

/-- The stored form of a line in the DRAM array. -/
def storedLine (c : DcSt) (line : Nat) : BitVec 512 := spGet (lineDefault c) c.lines line
def storedTag (c : DcSt) (line : Nat) : BitVec 32 := spGet (tagDefault c) c.tags line

/-- The last write to a line that waits in the write queue (R385). -/
def queuedWrite (c : DcSt) (line : Nat) : Option DWrite := (c.wq.filter (fun w => w.line == line)).getLast?

/-- The stored form that the last write to a line left (R385), and its tag. -/
def visibleLine (c : DcSt) (line : Nat) : BitVec 512 × BitVec 32 :=
  match queuedWrite c line with
  | some w => (w.data, w.tag)
  | none => (storedLine c line, storedTag c line)

/-- Write a line's stored form into the DRAM array. -/
def storeLine (line : Nat) (d : BitVec 512) (t : BitVec 32) (c : DcSt) : DcSt :=
  { c with lines := spSet (lineDefault c) c.lines line d, tags := spSet (tagDefault c) c.tags line t }

/-- The lines of a block that lie in a keyed region. -/
def keyedLines (s : Block) (n b : Nat) : List Nat :=
  ((upto 0x4000).map (fun i => 0x4000 * b + i)).filter (fun l => (lineForm s n l).key.isSome)

/-- Ranges of lines without those from lo to hi. -/
def cutRange (lo hi : Nat) (l : List (Nat × Nat × Nat)) : List (Nat × Nat × Nat) :=
  l.flatMap (fun x =>
    if hi < x.1 || x.2.1 < lo then [x]
    else (if x.1 < lo then [(x.1, lo - 1, x.2.2)] else []) ++ (if hi < x.2.1 then [(hi + 1, x.2.1, x.2.2)] else []))

/-- A channel with a block's lines zero as software will read them: of a keyed region in their stored form. -/
def clearedBlock (n b : Nat) (s : Block) : DcSt :=
  let c := getDc s n
  let lo := 0x4000 * b
  let inB (k : Nat) : Bool := decide (lo ≤ k) && decide (k < lo + 0x4000)
  (keyedLines s n b).foldl (fun c l =>
    let f := lineForm s n l
    storeLine l (scramble f 0) (lineTag f 0) c)
    { c with lines := spClear inB c.lines, tags := spClear inB c.tags, blurs := cutRange lo (lo + 0x3FFF) c.blurs }

/-- Block b counts as initialised. -/
def countBlock (b : Nat) (c : DcSt) : DcSt :=
  let x := c.initExtra.foldl (fun (x : Nat × List Nat) _ =>
    if x.2.contains x.1 then (x.1 + 1, x.2.filter (· != x.1)) else x) (b + 1, c.initExtra)
  if b == c.initBelow then { c with initBelow := x.1, initExtra := x.2 }
  else { c with initExtra := c.initExtra ++ [b] }

/-- Initialise block b of channel n (R406, R407): zeros, scrambled and tagged as each line's region requires. INIT_DONE
follows the last block. -/
def initBlock (n b : Nat) (s : Block) : Block :=
  let c := countBlock b (clearedBlock n b s)
  (setDc n c s).putB (Rg.dc n) Rg.dcInitDone (decide (dcBlocks c ≤ c.initBelow))

/-- The contents of channel n are new (R406). -/
def markNew (n : Nat) (s : Block) : Block :=
  let c := getDc s n
  (setDc n { c with lines := [], tags := [], initBelow := 0, initExtra := [], wq := [], rq := [], issued := [],
                    rets := [], lock := [], blurs := [] } s).putB (Rg.dc n) Rg.dcInitDone false

/-! ### Clear-view reads and writes by the device's own engines (R433) -/

/-- The bytes of a line. -/
def lineBytes (l : BitVec 512) : List Nat := (upto 64).map (fun i => fldGet l.toNat (8 * i) 8)

/-- A number from bytes, the first in its lowest bits (R7). -/
def leNat : List Nat → Nat
  | [] => 0
  | b :: bs => b % 256 + 256 * leNat bs

/-- The n bytes of a number, lowest first (R7). -/
def leBytes : Nat → Nat → List Nat
  | 0, _ => []
  | n + 1, v => v % 256 :: leBytes n (v / 256)

/-- The data of a line in the clear view (R429): none where its tag fails. -/
def clearLine (s : Block) (n line : Nat) : Option (BitVec 512) :=
  let c := getDc s n
  if !blockDone c (blockOf line) then some 0
  else
    let f := lineForm s n line
    let v := visibleLine c line
    let d := descramble f v.1
    if f.tagged && lineTag f d != v.2 then none else some d

/-- Write a whole line in the clear view (R430). -/
def putLine (n line : Nat) (d : BitVec 512) (s : Block) : Block :=
  let s := if blockDone (getDc s n) (blockOf line) then s else initBlock n (blockOf line) s
  let f := lineForm s n line
  let c := getDc s n
  setDc n (storeLine line (scramble f d) (lineTag f d) { c with wq := c.wq.filter (fun w => w.line != line) }) s

/-- The response status that a target port in a state gives (R452, R469): 0 OK, 3 TARGET_DEAD, 4 DOMAIN_OFF. -/
def portStatus (st : Nat) : Nat := if st == 0 then 0 else if st == 3 then 3 else 4

/-- What a site's window answers (R23, R24, R671): DOMAIN_OFF during a site reset whatever is known of the site; a dead target for an
H0 without a valid record, DECODE_ERROR for an unpopulated P1 or P2; else its target port's state. -/
def siteStatus (s : Block) (n : Nat) : Nat :=
  if s.start.siteWindow.getLsbD n && (n == 0 || s.start.sitePresent.getLsbD n) then 4
  else if !s.start.sitePresent.getLsbD n then (if n == 0 then 3 else 1)
  else portStatus (spGet (fun _ => 2) s.net.sitePorts n)

/-- A site's window delivers requests to its die: its target port is OPEN. -/
def siteOpen (s : Block) (n : Nat) : Bool := siteStatus s n == 0

/-- The response status a request of the device's own engines to an address receives (R27, R33, R452): 0 OK, 1 DECODE_ERROR,
2 ACCESS_DENIED, 3 TARGET_DEAD, 4 DOMAIN_OFF. -/
def accessStatus (s : Block) (a : Nat) : Nat :=
  match destOf s a with
  | .hole => 1
  | .dram n _ => if dieAway s (n / 2) then 4 else portStatus (s.f (dcPort n) Rg.tpState)
  | .ap d k _ => if !apUsed s d k then 1 else if apHeld s d k || dieAway s d then 4 else portStatus (s.f (Rg.tport d k) Rg.tpState)
  | .site n _ => siteStatus s n
  | .doorbell _ => 2
  | .control _ => 2

/-- A request of one of the device's own engines is counted at its bridge where it receives DECODE_ERROR or ACCESS_DENIED (R27,
R449). -/
def countAccess (src st : Nat) (s : Block) : Block :=
  let b := Rg.iport (src / 256) (src % 256)
  if st == 1 then s.bump (b + Rg.ipDecode) else if st == 2 then s.bump (b + Rg.ipDenied) else s

/-- The line that a site die or a design answers with: its value is free. -/
def freeLine (s : Block) : Option (BitVec 512) × Block :=
  let x := s.draw
  (some (BitVec.ofNat 512 x.1), x.2)

/-- What 64-byte line of device memory reads as for the initiator port src, none for an error response: DRAM in the clear view, or a
free value from a site die or a design. -/
def readLine (src a : Nat) (s : Block) : Option (BitVec 512) × Block :=
  let st := accessStatus s a
  if st != 0 then (none, countAccess src st s)
  else
    match destOf s a with
    | .dram n off => (clearLine s n (off / 64), s)
    | _ => freeLine s

/-- The lines that hold n bytes from address a. -/
def spanLines (a n : Nat) : List Nat := (upto ((a % 64 + n + 63) / 64)).map (fun i => a / 64 * 64 + 64 * i)

/-- Read n bytes of memory from address a for the initiator port src; none where any line gives an error response. -/
def readMem (src a n : Nat) (s : Block) : Option (List Nat) × Block :=
  let r := (spanLines a n).foldl (fun (x : Option (List Nat) × Block) la =>
    match x.1 with
    | none => x
    | some bs =>
      let y := readLine src la x.2
      (y.1.map (fun l => bs ++ lineBytes l), y.2)) (some [], s)
  (r.1.map (fun bs => (bs.drop (a % 64)).take n), r.2)

/-- Replace bytes of a line from byte o on. -/
def patchLine (l : BitVec 512) (o : Nat) (bs : List Nat) : BitVec 512 :=
  BitVec.ofNat 512 (fldSet l.toNat (8 * o) (8 * bs.length) (leNat bs))

/-- Write bytes within one line; false where the write meets an error. -/
def writePart (src a : Nat) (bs : List Nat) (s : Block) : Bool × Block :=
  let st := accessStatus s a
  if st != 0 then (false, countAccess src st s)
  else
    match destOf s a with
    | .dram n off =>
      if bs.length == 64 then (true, putLine n (off / 64) (patchLine 0 0 bs) s)
      else
        match clearLine s n (off / 64) with
        | some l => (true, putLine n (off / 64) (patchLine l (off % 64) bs) s)
        | none => (false, s)
    | .site n off => (true, s.emit (.memWrite (0x500 + 256 * n) off bs))
    | .ap d k off => (true, s.emit (.apTarget d k 1 off (bs.length - 1) 0 bs))
    | _ => (false, s)

/-- Write bytes to memory from address a, line by line; false where a part meets an error. -/
def writeMem (src a : Nat) (bs : List Nat) (s : Block) : Bool × Block :=
  (spanLines a bs.length).foldl (fun (x : Bool × Block) la =>
    let lo := Nat.max la a
    let hi := Nat.min (la + 64) (a + bs.length)
    let y := writePart src lo ((bs.drop (lo - a)).take (hi - lo)) x.2
    (x.1 && y.1, y.2)) (true, s)

/-- Port IDs of the device's own engines as initiators (R448): Greone, the queue engine, a TPP, a die's configuration engine, a lane
quad. -/
def srcGreone : Nat := 0x400
def srcQe : Nat := 0x401
def srcTpp (n : Nat) : Nat := n / 6 * 256 + 0x60 + n % 6
def srcCfg (d : Nat) : Nat := 256 * d + 0x6C
def srcQuad (lane : Nat) : Nat := lane / 32 * 256 + 0x70 + lane % 32 / 4

/-- Write n copies of zero bytes and values: the bytes of a list of (size, value) pairs, lowest byte first. -/
def packBytes (l : List (Nat × Nat)) : List Nat := l.foldl (fun bs p => bs ++ leBytes p.1 p.2) []

end Sys2Proof.Machine
end

