-- ==== Sys2Proof/Machine/Ports.lean ====
section
/-! DEFINITION. Target ports of the network (15): their states (R469), isolation (R468), the end of a part, and the fences
that wait for parts and posted writes (R475, R476, R466). -/

namespace Sys2Proof.Machine

/-! ### Port states (R448, R469) -/

/-- A target port ID names a site's window. -/
def isSitePort (p : Nat) : Bool := decide (5 ≤ p / 256) && decide (p / 256 < 8) && p % 256 == 0

/-- NOC_TPORT_STATUS of a target port of a fabric die or HD. -/
def tportAt (p : Nat) : Nat := Rg.tport (p / 256) (p % 256)

/-- The state of a target port: 0 OPEN, 1 DRAINING, 2 CLOSED, 3 ISOLATED, 4 OPENING. -/
def portState (s : Block) (p : Nat) : Nat :=
  if p / 256 < 5 then s.f (tportAt p) Rg.tpState
  else if isSitePort p then spGet (fun _ => 2) s.net.sitePorts (p / 256 - 5)
  else 2

/-- The response status that a target port gives (R452, R469, R504): DOMAIN_OFF on a die that is in reset, gated or unreachable. -/
def targetPortStatus (s : Block) (p : Nat) : Nat := if dieAway s (p / 256) then 4 else portStatus (portState s p)

/-- Put a target port in a state. -/
def setPort (p st : Nat) (s : Block) : Block :=
  if p / 256 < 5 then s.put (tportAt p) Rg.tpState st
  else if isSitePort p then
    { s with net := { s.net with sitePorts := spSet (fun _ => 2) s.net.sitePorts (p / 256 - 5) st } }
  else s

/-- Count a posted write that a port discards, where it has a register for it (R469). -/
def bumpDiscard (p : Nat) (s : Block) : Block := if p / 256 < 5 then s.bump (tportAt p + Rg.tpDiscard) else s

/-- Count a response that is sunk or dropped. -/
def bumpRspDrop (p : Nat) (s : Block) : Block := if p / 256 < 5 then s.bump (tportAt p + Rg.tpRspDrop) else s

/-! ### What an initiator receives -/

/-- The label of the Service Port's reads: none of those that other requests of its initiator carry. -/
def svcLabel : Nat := 0x1000

/-- The payload of a READ's answer (R620). -/
def svcPayload (x : SvcRd) : List Nat :=
  (upto x.len).map (fun i =>
    let o := x.addr % 64 + i
    fldGet ((x.lines.lookup (o / 64)).getD 0).toNat (8 * (o % 64)) 8)

/-- Data of a request at its initiator: line `off` of it; a Service Port READ gathers them. -/
def netData (src label off status : Nat) (poison : Bool) (data : BitVec 512) (s : Block) : Block :=
  if label == svcLabel then
    { s with fwu := { s.fwu with svcRead := s.fwu.svcRead.map (fun x => { x with lines := x.lines ++ [(off, data)] }) } }
  else s.emit (.nocData src label off status poison data)

/-- The combined response of a request at its initiator; a Service Port READ is answered by DATA, or by NETWORK with the response status in
ADDR (R619, R620). -/
def netDone (src label status : Nat) (s : Block) : Block :=
  if label == svcLabel then
    match s.fwu.svcRead with
    | none => s
    | some x =>
      ({ s with fwu := { s.fwu with svcRead := none } } : Block).emit
        (if status == 0 then .svcAnswer 0x82 0 x.seq x.addr x.len (svcPayload x) else .svcAnswer 0x82 3 x.seq status 0 [])
  else s.emit (.nocDone src label status)

/-! ### Ends of parts and of fences -/

/-- What the completion of a fence does: an own fence answers its initiator; the last fence of a round of GLOBAL_FENCE answers
the commands of the round; after a re-route's hold the initiator stamps its posted traffic with the new epoch. -/
def fenceFinish (f : NetFence) (s : Block) : Block :=
  match f.what with
  | .own label => netDone f.src label 0 s
  | .global r => if s.net.fences.any (fun x => x.what == .global r) then s else s.close 0x0700 r St.ok
  | .flip => s

/-- Fences that wait for nothing more complete, in their order. -/
def settleFences (s : Block) : Block :=
  let ready := s.net.fences.filter (fun f => f.tags.isEmpty && f.dsts.isEmpty)
  ready.foldl (fun s f => fenceFinish f { s with net := { s.net with fences := s.net.fences.erase f } }) s

/-- Parts that wait for an entry of a target port's table of 1,024 take the entries that are free (R468). -/
def passWaiting (dst : Nat) (s : Block) : Block :=
  let used := (s.net.parts.filter (fun p => p.dst == dst && p.phase == 1)).length
  let x := s.net.parts.foldl (fun (x : Nat × List NetPart) p =>
    if p.dst == dst && p.phase == 0 && x.1 < 1024 then (x.1 + 1, x.2 ++ [{ p with phase := 1 }]) else (x.1, x.2 ++ [p])) (used, [])
  { s with net := { s.net with parts := x.2 } }

/-- A request has one part less to wait for (R460): the last one gives the combined response with the worst status, unless it was
dropped. -/
def reqPart (num status : Nat) (drop : Bool) (s : Block) : Block :=
  match s.net.reqs.find? (fun r => r.num == num) with
  | none => s
  | some r =>
    let w := Nat.max r.worst status
    let rest := s.net.reqs.erase r
    if r.left ≤ 1 then
      let s : Block := { s with net := { s.net with reqs := rest } }
      if drop then s else netDone r.src r.label w s
    else { s with net := { s.net with reqs := rest ++ [{ r with left := r.left - 1, worst := w }] } }

/-- A part that holds a tag has its response (R460, R461): the tag is free, an entry of the target port's table with it, and fences
stop waiting for the tag. -/
def partDone (src tag status : Nat) (drop : Bool) (s : Block) : Block :=
  match s.net.parts.find? (fun p => p.src == src && p.tag == tag) with
  | none => s
  | some p =>
    let s : Block := { s with net := { s.net with
      parts := s.net.parts.erase p,
      fences := s.net.fences.map (fun (f : NetFence) => if f.src == src then { f with tags := f.tags.filter (· != tag) } else f) } }
    settleFences (reqPart p.req status drop (passWaiting p.dst s))

/-- A part whose response carries an error: a read delivers zeros with POISON (R460). -/
def partFail (p : NetPart) (status : Nat) (s : Block) : Block :=
  let label := ((s.net.reqs.find? (fun r => r.num == p.req)).map (·.label)).getD 0
  partDone p.src p.tag status false (if p.kind == 0 then netData p.src label 0 status true 0 s else s)

/-- A fence marker is sent to a target behind an initiator's posted writes (R475). -/
def markSent (src dst : Nat) (s : Block) : Block :=
  { s with net := { s.net with posted := s.net.posted.map (fun p => if p.1 == src && p.2.1 == dst then (src, dst, p.2.2 + 1) else p) } }

/-- The oldest fence of an initiator that waits on a target stops waiting on it. -/
def dropFirst (src dst : Nat) : List NetFence → List NetFence
  | [] => []
  | f :: fs =>
    if f.src == src && f.dsts.contains dst then { f with dsts := f.dsts.filter (· != dst) } :: fs else f :: dropFirst src dst fs

/-- A target acknowledges the oldest marker of an initiator: the posted writes ahead of it have taken effect (R475). -/
def markAcked (src dst : Nat) (s : Block) : Block :=
  let k := (s.net.fences.filter (fun f => f.src == src && f.dsts.contains dst)).length
  if k == 0 then s
  else settleFences { s with net := { s.net with
    posted := s.net.posted.filter (fun p => !(p.1 == src && p.2.1 == dst && decide (k ≤ p.2.2))),
    fences := dropFirst src dst s.net.fences } }

/-- Answer every table entry of a target port with a status (R468, R469); posted writes on their way to it are discarded, and the
markers that wait on it acknowledged. -/
def flushPort (p status : Nat) (s : Block) : Block :=
  let s := (s.net.parts.filter (fun x => x.dst == p && x.phase != 2)).foldl (fun s x => partFail x status s) s
  settleFences { s with net := { s.net with
    posted := s.net.posted.filter (fun x => x.2.1 != p),
    fences := s.net.fences.map (fun (f : NetFence) => { f with dsts := f.dsts.filter (· != p) }) } }

/-! ### Isolation (R468) -/

/-- The domain-wide EIC source of a die whose port is isolated (R532). -/
def portEic (p : Nat) (s : Block) : Block := if p / 256 < 4 then s.eicEdge (eicDie (p / 256) 22) else s

/-- Isolate a target port as a dead target (R468): its entries are answered TARGET_DEAD; FORCED or TIMEOUT_SEEN; an event and
the EIC source of the die. -/
def isolatePort (p : Nat) (forced : Bool) (s : Block) : Block :=
  let s := setPort p 3 s
  let s := if p / 256 < 5 then (if forced then s.putB (tportAt p) Rg.tpForced true
                                 else s.putB (tportAt p) Rg.tpTimeoutSeen true) else s
  let s := flushPort p 3 s
  let s := { s with net := { s.net with unreset := s.net.unreset.filter (· != p) ++ [p] } }
  portEic p (s.raise Ev.nocTargetDead p)

/-- The block, region or site behind some ports has been reset: an isolated one may be released from now on (R479). -/
def portsReset (ports : List Nat) (s : Block) : Block :=
  { s with net := { s.net with unreset := s.net.unreset.filter (fun p => !ports.contains p) } }

/-- Close a port at the end of its drain (R469): entries left are answered DOMAIN_OFF. An isolated port stays so (R471). -/
def closePort (p : Nat) (s : Block) : Block := if portState s p == 3 then s else flushPort p 4 (setPort p 2 s)

/-- A port begins to drain; an isolated one completes at once and stays isolated (R471). -/
def drainPort (p : Nat) (s : Block) : Block := if portState s p == 0 || portState s p == 4 then setPort p 1 s else s

/-- A channel's target port ID (R448). -/
def dcPortId (n : Nat) : Nat := n / 2 * 256 + 0x68 + n % 2

end Sys2Proof.Machine
end

