-- ==== Sys2Proof/Machine/Apg.lean ====
section
/-! DEFINITION. The algorithmic pattern generator (11): address generators (R313 to R318), address scrambling (R319), the
data generator (R321) and the APG bus (R322, R323). -/

namespace Sys2Proof.Machine

/-- One generator's settings: width, INIT, MIN, MAX and STEP; a MAX below MIN acts as MIN, a STEP of 0 as 1
(R313, R317). -/
structure GenCfg where
  w    : Nat
  init : Nat
  min  : Nat
  max  : Nat
  step : Nat
deriving DecidableEq, Repr

/-- Generator g of the TPP whose registers start at b: 0 X, 1 Y, 2 B. -/
def genCfg (s : Block) (b g : Nat) : GenCfg :=
  let mn := s.f b (Rg.apgMin g)
  let mx := s.f b (Rg.apgMax g)
  let st := if g == 2 then 1 else s.f b (Rg.apgStep g)
  { w := if g == 2 then 5 else 16, init := s.f b (Rg.apgInit g), min := mn, max := if mx < mn then mn else mx,
    step := if st == 0 then 1 else st }

/-- A generator's new value and carry-out (R317). -/
def genOp (c : GenCfg) (op v save : Nat) (cin : Bool) : Nat × Bool :=
  let inc : Nat × Bool := if c.max < v + c.step then (c.min, true) else (v + c.step, false)
  let dec : Nat × Bool := if v < c.min + c.step then (c.max, true) else (v - c.step, false)
  let r : Nat × Bool :=
    if op == 0x1 then inc
    else if op == 0x2 then dec
    else if op == 0x3 then (if cin then inc else (v, false))
    else if op == 0x4 then (if cin then dec else (v, false))
    else if op == 0x5 then (c.min, false)
    else if op == 0x6 then (c.max, false)
    else if op == 0x8 then (save, false)
    else if op == 0x9 then (unsgn c.w ((c.min : Int) + c.max - v), false)
    else (v, false)
  (r.1 % 2 ^ c.w, r.2)

/-- The APG executes instruction i (R316 to R318). -/
def apgExec (s : Block) (b i : Nat) (a : ApgSt) : ApgSt :=
  let xo := s.f b (Rg.apgXOp i)
  let yo := s.f b (Rg.apgYOp i)
  let bo := s.f b (Rg.apgBOp i)
  let doX (cin : Bool) := genOp (genCfg s b 0) xo a.x.toNat a.sx.toNat cin
  let doY (cin : Bool) := genOp (genCfg s b 1) yo a.y.toNat a.sy.toNat cin
  let xy : (Nat × Bool) × (Nat × Bool) × Bool :=
    if s.f b Rg.apgOrder == 0 then
      let x := doX true
      let y := doY x.2
      (x, y, y.2)
    else
      let y := doY true
      let x := doX y.2
      (x, y, x.2)
  let cb := xy.2.2
  let nb := genOp (genCfg s b 2) bo a.b.toNat a.sb.toNat cb
  let dop := s.f b (Rg.apgDOp i)
  { x := BitVec.ofNat 16 xy.1.1, y := BitVec.ofNat 16 xy.2.1.1, b := BitVec.ofNat 5 nb.1,
    sx := if xo == 0x7 then a.x else a.sx, sy := if yo == 0x7 then a.y else a.sy, sb := if bo == 0x7 then a.b else a.sb,
    dinv := if dop == 1 then !a.dinv else if dop == 2 then false else if dop == 3 then true else a.dinv,
    bg := if s.f b (Rg.apgBgLoad i) == 1 then BitVec.ofNat 3 (s.f b (Rg.apgIBg i)) else a.bg,
    wrap := a.wrap || cb }

/-- The APG executes instruction i n times. -/
def apgExecN (s : Block) (b i : Nat) : Nat → ApgSt → ApgSt
  | 0, a => a
  | n + 1, a => apgExecN s b i n (apgExec s b i a)

/-- The APG at run start (R314). -/
def apgInitial (s : Block) (b : Nat) : ApgSt :=
  let x := BitVec.ofNat 16 (s.f b (Rg.apgInit 0))
  let y := BitVec.ofNat 16 (s.f b (Rg.apgInit 1))
  let k := BitVec.ofNat 5 (s.f b (Rg.apgInit 2))
  { x := x, y := y, b := k, sx := x, sy := y, sb := k, dinv := s.f b Rg.apgDinvInit == 1,
    bg := BitVec.ofNat 3 (s.f b Rg.apgBg), wrap := false }

/-- The logical address (R319). -/
def logicalAddr (a : ApgSt) : Nat := a.x.toNat + a.y.toNat * 2 ^ 16 + a.b.toNat * 2 ^ 32

/-- The physical address and t_dinv of a logical address (R319). -/
def physAddr (s : Block) (b l : Nat) : Nat × Bool :=
  let src (k : Nat) : Bool := decide (k ≤ 36) && l.testBit k
  let p := (upto 37).foldl (fun v i => if src (s.f b (Rg.apgPerm i)) then v + 2 ^ i else v) 0
  if s.f b Rg.apgXtEn == 1 then
    let idx := (upto 10).foldl (fun v j => if src (s.f b (Rg.apgXtSel j)) then v + 2 ^ j else v) 0
    (Nat.xor p (s.f b (Rg.apgXtAxor idx)), s.f b (Rg.apgXtDinv idx) == 1)
  else (p, false)

/-- Row, column and bank of a physical address. -/
def physX (p : Nat) : Nat := p % 2 ^ 16
def physY (p : Nat) : Nat := p / 2 ^ 16 % 2 ^ 16
def physB (p : Nat) : Nat := p / 2 ^ 32 % 2 ^ 5

/-- Parity of a number below 2^16. -/
def parity (x : Nat) : Bool := (bitsOf 16 x).length % 2 == 1

/-- The background bit (R321). -/
def background (s : Block) (b bg px py : Nat) : Bool :=
  if bg == 1 then px.testBit 0 != py.testBit 0
  else if bg == 2 then px.testBit 0
  else if bg == 3 then py.testBit 0
  else if bg == 4 then
    let k := s.f b Rg.apgDiagK + 1
    px % 2 ^ k == py % 2 ^ k
  else if bg == 5 then
    let i := 16 * (px % 16) + py % 16
    (s.f b (Rg.apgUserBg (i / 64))).testBit (i % 64)
  else false

/-- The data word D[31:0] of an APG state (R321). -/
def apgData (s : Block) (b : Nat) (a : ApgSt) : Nat :=
  let pt := physAddr s b (logicalAddr a)
  let p := pt.1
  let base := (((((background s b a.bg.toNat (physX p) (physY p)
    != parity (Nat.land (physX p) (s.f b Rg.apgXpMask)))
    != parity (Nat.land (physY p) (s.f b Rg.apgYpMask)))
    != parity (Nat.land (physB p) (s.f b Rg.apgBpMask)))
    != a.dinv) != pt.2)
  Nat.xor (s.f b Rg.apgDqInv) (if base then 2 ^ 32 - 1 else 0)

/-- The APG bit of PEC slot k (R322, R323). -/
def apgBit (s : Block) (b : Nat) (a : ApgSt) (k : Nat) : Bool :=
  let sel := s.f b (Rg.apgSel k)
  let p := (physAddr s b (logicalAddr a)).1
  if sel < 32 then (apgData s b a).testBit sel
  else if sel < 48 then (physX p).testBit (sel - 32)
  else if sel < 64 then (physY p).testBit (sel - 48)
  else if sel < 69 then (physB p).testBit (sel - 64)
  else sel == 70

end Sys2Proof.Machine
end

