-- ==== Sys2Proof/Machine/Pins.lean ====
section
/-! DEFINITION. Pins and their safe states (R259 to R263), as the I/O banks, the TPPs and the plates share them. -/

namespace Sys2Proof.Machine

/-- The key of pin n of die d in the I/O state. -/
def ioKey (d n : Nat) : Nat := 384 * d + n

/-- The safe state in force for a pin: a code of R259. -/
def safeInForce (s : Block) (d n : Nat) : Nat := spGet (fun _ => 0) s.io.safeNow (ioKey d n)

/-- A code of R259 as it acts: reserved codes as HIGHZ_PD. -/
def safeCode (c : Nat) : Nat := if 5 < c then 0 else c

/-- The bus keeper holds the level seen on entry, a level of the board (R259). -/
def keepLevel (d n : Nat) (s : Block) : Block :=
  if safeInForce s d n == 5 then
    let x := s.draw
    { x.2 with io := { x.2.io with keep := spSet (fun _ => false) x.2.io.keep (ioKey d n) (x.1 % 2 == 1) } }
  else s

/-- A pin enters its safe state. -/
def pinToSafe (d n : Nat) (s : Block) : Block :=
  if s.flag (Rg.ioPin d n) Rg.pinInSafe then s else keepLevel d n (s.putB (Rg.ioPin d n) Rg.pinInSafe true)

/-- A pin leaves its safe state. -/
def pinFromSafe (d n : Nat) (s : Block) : Block := s.putB (Rg.ioPin d n) Rg.pinInSafe false

/-- Pins with a register: 48 in each HP bank, 24 in each HV bank. -/
def pinExists (n : Nat) : Bool := n < 312 || (336 ≤ n && n < 360)

/-- The pins of a die. -/
def diePins : List Nat := (upto 384).filter pinExists

/-- The bank of pin n on its die. -/
def bankOf (n : Nat) : Nat := n / 48

/-- The device sector that reaches pin n of die d (R100, R250): a pair of Type B sectors at each bank, the even row's the lower half of its
pins. -/
def pinSector (d n : Nat) : Nat :=
  let b := bankOf n
  80 * d + (if b < 3 || b == 6 then 0 else 72) + 2 * (if b < 6 then b % 3 else 3) + (if n % 48 < (if b < 6 then 24 else 12) then 0 else 1)

/-- What a pin has that no plate has set: ratio 1 and no ports. -/
def PinIo.plain : PinIo := { ser := 1, des := 1, clk := 0, termEn := false, dlyEn := false }
def pinLogic (s : Block) (d n : Nat) : PinIo := spGet (fun _ => PinIo.plain) s.io.logic (ioKey d n)

/-- A standard is one that a bank's VCCO class permits for input or output (R252, R253). -/
def stdPermits (hp : Bool) (cls std : Nat) : Bool :=
  if std == 0 then true
  else if hp then
    (if std == 1 || std == 3 || std == 6 || std == 7 then cls == 3 else if std == 2 || std == 5 then cls == 5
     else if std == 4 then cls == 4 else (std == 8 || std == 9) && decide (1 ≤ cls))
  else if std == 0xA then cls == 1 else if std == 0xB then cls == 2 else (std == 0xC || std == 0xD) && cls == 3

/-- The highest bit rate of a fabric-assigned pin in Mbit/s, by standard (R253). -/
def stdRate (std : Nat) : Nat :=
  if std == 0 then 0 else if std ≤ 2 then 400 else if std ≤ 9 then 1600 else if std ≤ 0xC then 200 else 100

/-- The highest data rate of a TPP-assigned pin in Mbit/s, by standard (R272): 0 for none of the HP standards. -/
def tppRate (std : Nat) : Nat :=
  if std == 1 || std == 2 then 400 else if std == 4 || std == 5 || std == 6 then 1600 else if std == 3 || (7 ≤ std && std ≤ 9) then 3200 else 0

/-- The class voltage of a bank in mV (R252): 0 for NONE. -/
def classMv (s : Block) (d b : Nat) : Nat :=
  (if b < 6 then [0, 1000, 1100, 1200, 1350, 1500] else [0, 1800, 2500, 3300]).getD (s.f (Rg.ioBank d b) Rg.vccoClass) 0

/-- VCCO of bank b of die d in mV. -/
def bankLevel (s : Block) (d b : Nat) : Nat := spGet (fun _ => 0) s.io.level (8 * d + b)

/-- One voltage lies within some per cent of another. -/
def within (pct of' mv : Nat) : Bool := decide (100 * of' ≤ 100 * mv + pct * of') && decide (100 * mv ≤ 100 * of' + pct * of')

/-- VCCO_OK follows the voltage and the class (R255). -/
def vccoRefresh (d b : Nat) (s : Block) : Block :=
  s.putB (Rg.ioBank d b) Rg.vccoOk (classMv s d b != 0 && within 5 (classMv s d b) (bankLevel s d b) && !s.io.faulted.contains (8 * d + b))

/-- A pin is unpowered (R257): high impedance with no pull, whatever its safe state. -/
def pinUnpowered (s : Block) (d n : Nat) : Bool :=
  s.io.faulted.contains (8 * d + bankOf n) || decide (bankLevel s d (bankOf n) < 500)

/-- Pin n is the second of a pair on a differential standard (R249). -/
def pairSecond (s : Block) (d n : Nat) : Bool :=
  n % 2 == 1 && (s.f (Rg.ioPin d (n - 1)) Rg.pinStandard == 0x8 || s.f (Rg.ioPin d (n - 1)) Rg.pinStandard == 0x9)

/-- The level a pin in its safe state is driven to, if it is driven (R259, R260, R263). -/
def safeDrive (s : Block) (d n : Nat) : Option Bool :=
  if pinUnpowered s d n || s.start.inReset || s.f Rg.rst Rg.stage == 0 then none
  else
    let c := if pairSecond s d n then safeInForce s d (n - 1) else safeInForce s d n
    if c == 3 then some (pairSecond s d n)
    else if c == 4 then some (!pairSecond s d n)
    else none

/-- A safe state is written for a pin: it takes effect at the next alignment marker (R261). -/
def safeWritten (d n : Nat) (s : Block) : Block :=
  if s.io.safePend.contains (ioKey d n) then s
  else { s with io := { s.io with safePend := s.io.safePend ++ [ioKey d n] } }

/-- Set the SAFE field of a pin. -/
def setSafe (d n code : Nat) (s : Block) : Block := safeWritten d n (s.put (Rg.ioPin d n) Rg.pinSafe (safeCode code))

/-- Written safe states take effect at an alignment marker (R261). -/
def safeMarker (s : Block) : Block :=
  let l := s.io.safePend
  let s := { s with io := { s.io with safePend := [] } }
  forEach l (fun k s =>
    let d := k / 384
    let n := k % 384
    let s := { s with io := { s.io with
      safeNow := spSet (fun _ => 0) s.io.safeNow k (safeCode (s.f (Rg.ioPin d n) Rg.pinSafe)) } }
    when (s.flag (Rg.ioPin d n) Rg.pinInSafe) (keepLevel d n) s) s

end Sys2Proof.Machine
end

