-- ==== Sys2Proof/Machine/Bytes.lean ====
section
/-! DEFINITION. Byte strings: fields of a descriptor in memory, and the CRCs of the manual (R56, R194). -/

namespace Sys2Proof.Machine

/-- The field of n bytes at offset o of a byte string, little-endian (R7). -/
def fieldAt (bs : List Nat) (o n : Nat) : Nat := leNat ((bs.drop o).take n)

/-- Every byte from offset o up to, not including, e is zero. -/
def zeroFrom (bs : List Nat) (o e : Nat) : Bool := ((bs.take e).drop o).all (· == 0)

/-- One bit of a reflected CRC-32 (R194). -/
def crc32Bit (c : Nat) : Nat := if c % 2 == 1 then Nat.xor (c / 2) 0xEDB88320 else c / 2

/-- One byte of a reflected CRC-32. -/
def crc32Byte (c b : Nat) : Nat := (upto 8).foldl (fun c _ => crc32Bit c) (Nat.xor c (b % 256))

/-- CRC-32 (R194). -/
def crc32 (bs : List Nat) : Nat := Nat.xor (bs.foldl crc32Byte 0xFFFFFFFF) 0xFFFFFFFF

/-- One bit of the CRC-16 of R56, most significant bit first. -/
def crc16Bit (c : Nat) : Nat := if 0x8000 ≤ c then Nat.xor (2 * c % 0x10000) 0x1021 else 2 * c

/-- One byte of it. -/
def crc16Byte (c b : Nat) : Nat := (upto 8).foldl (fun c _ => crc16Bit c) (Nat.xor c (b % 256 * 256))

/-- CRC-16 with initial value 0xFFFF (R56). -/
def crc16 (bs : List Nat) : Nat := bs.foldl crc16Byte 0xFFFF

/-- The sizes in bytes of the arguments of its own that a self-test has: those of the command it stands for (R575). -/
def testSizes (test : Nat) : List Nat :=
  if test == 1 then [1, 1, 1, 1, 1, 1, 1, 8] else if test == 6 then [8, 8, 1] else if test == 7 then [1] else []

end Sys2Proof.Machine
end

