-- ==== Sys2Proof/Machine/QueueCtx.lean ====
section
/-! DEFINITION. Queue contexts (R509, R510): their form in the table, and where a queue's context stands. -/

namespace Sys2Proof.Machine

/-- A position as TAIL and HEAD hold it (R509, R510): index, and WRAP in bit 31. -/
def posWord (log2 p : Nat) : Nat := p % 2 ^ log2 + p / 2 ^ log2 % 2 * 2 ^ 31

/-- The position of such a word. -/
def posOfWord (log2 w : Nat) : Nat := (w % 2 ^ 20 + w / 2 ^ 31 % 2 * 2 ^ log2) % 2 ^ (log2 + 1)

/-- The 64 bytes of a context (R509). -/
def ctxBytes (c : QCtx) : List Nat :=
  leBytes 8 c.base ++
  [c.valid.toNat + 2 * c.sub.toNat + 4 * c.es64.toNat + 8 * c.irq.toNat + 16 * c.greone.toNat + 32 * c.wb.toNat +
    64 * c.pin.toNat, c.log2] ++ leBytes 2 c.vector ++ leBytes 4 (posWord c.log2 c.tail) ++
  leBytes 4 (posWord c.log2 c.head) ++ leBytes 2 c.pushSrc.toNat ++ [c.error.toNat + 2 * c.full.toNat, 0] ++
  leBytes 8 c.wbAddr ++ leBytes 8 c.deliv ++ leBytes 2 c.window ++ leBytes 2 c.credit ++
  leBytes 4 (c.dropped.toNat + c.ovf.toNat * 2 ^ 31) ++ List.replicate 16 0

/-- A context from its 64 bytes. -/
def ctxOfBytes (bs : List Nat) : QCtx :=
  let fl := fieldAt bs 8 1
  let k := fieldAt bs 9 1
  { base := fieldAt bs 0 8, valid := fl.testBit 0, sub := fl.testBit 1, es64 := fl.testBit 2, irq := fl.testBit 3,
    greone := fl.testBit 4, wb := fl.testBit 5, pin := fl.testBit 6, log2 := k, vector := fieldAt bs 10 2 % 4096,
    tail := posOfWord k (fieldAt bs 12 4), head := posOfWord k (fieldAt bs 16 4),
    pushSrc := BitVec.ofNat 12 (fieldAt bs 20 2), error := (fieldAt bs 22 1).testBit 0,
    full := (fieldAt bs 22 1).testBit 1, wbAddr := fieldAt bs 24 8, deliv := fieldAt bs 32 8, window := fieldAt bs 40 2,
    credit := fieldAt bs 42 2, dropped := BitVec.ofNat 31 (fieldAt bs 44 4), ovf := (fieldAt bs 44 4).testBit 31 }

/-- QE_CTX_BASE (R509). -/
def ctxBase (s : Block) : Nat := 2 ^ 26 * s.f Rg.qe Rg.qeCtxBase

/-- The QE is enabled. -/
def qeOn (s : Block) : Bool := s.flag Rg.qe Rg.qeEnable

/-- A cached context. -/
def cached? (s : Block) (q : Nat) : Option QCache := spGet (fun _ => none) s.qe.cache q

/-- The context of a queue wherever it stands: the cache, or the table in memory; none where the table cannot be read. -/
def ctxOf (s : Block) (q : Nat) : Option QCtx :=
  match cached? s q with
  | some e => some e.ctx
  | none => ((readMem srcQe (ctxBase s + 64 * q) 64 s).1).map ctxOfBytes

/-- Put a changed context into the cache. -/
def putCtx (q : Nat) (c : QCtx) (s : Block) : Block :=
  { s with qe := { s.qe with cache := spSet (fun _ => none) s.qe.cache q (some { ctx := c, dirty := true }) } }

end Sys2Proof.Machine
end

