-- ==== Sys2Proof/Machine/Cell.lean ====
section
/-! DEFINITION. The nibble cell (R88 to R97): the LUT in its modes, the carry chain, the flip-flop and its shadow latch, as functions. -/

namespace Sys2Proof.Machine

/-- The index n5 of R89: inputs A to E, A least significant. -/
def n5 (ins : BitVec 6) : Nat := ins.toNat % 32

/-- Outputs OA and OB of a LUT in SINGLE mode (R89). -/
def lutSingle (init : BitVec 64) (ins : BitVec 6) : Bool × Bool := (init.getLsbD ins.toNat, init.getLsbD (n5 ins))

/-- Outputs OA and OB of a LUT in SPLIT mode: F is held at 1 inside the cell (R89). -/
def lutSplit (init : BitVec 64) (ins : BitVec 6) : Bool × Bool := (init.getLsbD (32 + n5 ins), init.getLsbD (n5 ins))

/-- Propagate and generate of a LUT in ARITH mode (R89). -/
def lutPG (init : BitVec 64) (ins : BitVec 6) : Bool × Bool := (init.getLsbD (32 + n5 ins), init.getLsbD (n5 ins))

/-- One carry bit: C_(i+1) is C_i when P_i is 1 and G_i when P_i is 0 (R90). -/
def carryNext (p g c : Bool) : Bool := if p then c else g

/-- The nibble cell in ARITH mode: from C_0 and the four LUTs, the sums S_i, the internal carries C_1 to C_4 (R89, R90). -/
def arith : List (BitVec 64 × BitVec 6) → Bool → List Bool × List Bool
  | [], _ => ([], [])
  | (init, ins) :: r, c =>
    let pg := lutPG init ins
    let c' := carryNext pg.1 pg.2 c
    let rest := arith r c'
    ((pg.1 != c) :: rest.1, c' :: rest.2)

/-- Where C_0 comes from (CISEL, R90): CHAIN, ZERO, ONE or X_0. -/
inductive Cisel where
  | chain | zero | one | x0
deriving DecidableEq, Repr

/-- The CISEL that a cell's field gives. DESIGN CHOICE: the codes 0 to 3 in the order of R90, which gives none. -/
def ciselOf (f : Nat) : Cisel := if f == 0 then .chain else if f == 1 then .zero else if f == 2 then .one else .x0

def carryIn (sel : Cisel) (chain x0 : Bool) : Bool :=
  match sel with
  | .chain => chain
  | .zero => false
  | .one => true
  | .x0 => x0

/-- A flip-flop at its active clock edge (R95): `sync` is its SYNC SR line, `ce` none where it has no clock enable. -/
def ffEdge (q d srlevel sync : Bool) (ce : Option Bool) : Bool :=
  if sync then srlevel else if ce.getD true then d else q

/-- A flip-flop with its ASYNC SR line (R95). -/
def ffAsync (q srlevel async : Bool) : Bool := if async then srlevel else q

end Sys2Proof.Machine
end

