-- ==== Sys2Proof/Machine/Transit.lean ====
section
/-! DEFINITION. Places in the fabric, the Seam's edges, express lines, and the routes of links over transit lines (R99, R104 to R107, R120, R121, R218 to R222). -/

namespace Sys2Proof.Machine

/-! ### Places: directions are 0 north, 1 east, 2 south, 3 west -/

/-- The column and row, on its die, of cluster c (24 row + column) of sector k: 240 columns from west, 160 rows from north (R99). -/
def clusterX (k c : Nat) : Nat := 24 * (k % 80 / 8) + c % 24
def clusterY (k c : Nat) : Nat := 20 * (k % 8) + c / 24

/-- The sector and the cluster at a column and row of die d. -/
def sectorAt (d x y : Nat) : Nat := 80 * d + 8 * (x / 24) + y / 20
def clusterAt (x y : Nat) : Nat := 24 * (y % 20) + x % 24

/-- The place n clusters on in a direction; none beyond the die's edge. -/
def moveOn (dir n x y : Nat) : Option (Nat × Nat) :=
  if dir == 0 then (if n ≤ y then some (x, y - n) else none)
  else if dir == 1 then (if x + n < 240 then some (x + n, y) else none)
  else if dir == 2 then (if y + n < 160 then some (x, y + n) else none)
  else (if n ≤ x then some (x - n, y) else none)

/-- The clusters between a cluster and its sector's edge in a direction. -/
def toEdge (dir c : Nat) : Nat :=
  if dir == 0 then c / 24 else if dir == 1 then 23 - c % 24 else if dir == 2 then 19 - c / 24 else c % 24

/-! ### Seam edges (R120, R121) -/

/-- The two dies of a Seam edge, the west or north one first (R120). -/
def seamDies (e : Nat) : Nat × Nat :=
  if e == 0 then (0, 1) else if e == 1 then (2, 3) else if e == 2 then (0, 2) else (1, 3)

/-- A die of a side of an edge. -/
def seamDie (e side : Nat) : Nat := if side == 0 then (seamDies e).1 else (seamDies e).2

/-- The number n of a group's SEAM_GRP_STATUS_n: 0 to 767 on east and west edges, 768 to 1,535 on north and south. -/
def seamNo (e g : Nat) : Nat := if e < 2 then g else 768 + g

/-- The status register of a side's end of a group. -/
def seamEnd (e g side : Nat) : Nat := Rg.seamGrp (seamDie e side) (seamNo e g)

/-- The device sector index that a side of a group adjoins (R120). -/
def seamSector (e g side : Nat) : Nat :=
  let k := g / 96
  80 * seamDie e side +
    (if e < 2 then (if side == 0 then 72 + k else k) else 8 * (k + 1) + (if side == 0 then 7 else 0))

/-- The Seam edge that a sector adjoins, with the first of its 96 groups there and its side; none for an interior sector. -/
def sectorSeam (k : Nat) : Option (Nat × Nat × Nat) :=
  (upto 4).findSome? (fun e => (upto 8).findSome? (fun j =>
    if seamSector e (96 * j) 0 == k then some (e, 96 * j, 0)
    else if seamSector e (96 * j) 1 == k then some (e, 96 * j, 1) else none))

/-- The ports before edge row w of a Type B sector: 4 in a row that 5 divides, 5 in the others (R121). -/
def portsBefore (w : Nat) : Nat := 5 * w - (w + 4) / 5

/-- The edge cluster of a side's port of a group (R121). -/
def seamCluster (e g side : Nat) : Nat :=
  let j := g % 96
  if e < 2 then 24 * (((upto 20).filter (fun w => portsBefore w ≤ j)).length - 1) + (if side == 0 then 23 else 0)
  else (if side == 0 then 24 * 19 else 0) + j / 4

/-! ### Express lines (R104, R106, R218) -/

/-- The express lines that each launch cluster launches in a direction, and those of them that are no transit lines. -/
def linesOf (dir : Nat) : Nat := if dir % 2 == 1 then 16 else 6
def designLines (dir : Nat) : Nat := if dir % 2 == 1 then 12 else 4

/-- A cluster launches lines in a direction: columns 0 and 12 east and west; rows 0, 4, 8, 12 and 16 north and south (R104). -/
def launches (dir x y : Nat) : Bool := if dir % 2 == 1 then x % 12 == 0 else y % 20 % 4 == 0

/-- The launch slot of a launch cluster (R219). -/
def launchSlot (dir x y : Nat) : Nat := if dir % 2 == 1 then x % 24 / 12 else y % 20 / 4

/-- SEND_LINE and its like (R219): direction, row or column, launch slot and transit index. -/
def lineDir (w : Nat) : Nat := w % 4
def lineAlong (w : Nat) : Nat := w / 4 % 32
def lineSlot (w : Nat) : Nat := w / 128 % 8
def lineNumber (w : Nat) : Nat := designLines (lineDir w) + w / 1024 % 4

/-- A line's code names a transit line of a sector. -/
def lineOk (w : Nat) : Bool :=
  decide (w < 4096) &&
    (if lineDir w % 2 == 1 then decide (lineAlong w < 20) && decide (lineSlot w < 2)
     else decide (lineAlong w < 24) && decide (lineSlot w < 5) && decide (w / 1024 % 4 < 2))

/-- The column and row, on its die, of the launch cluster of a line of sector k. -/
def lineX (k w : Nat) : Nat := 24 * (k % 80 / 8) + (if lineDir w % 2 == 1 then 12 * lineSlot w else lineAlong w)
def lineY (k w : Nat) : Nat := 20 * (k % 8) + (if lineDir w % 2 == 1 then lineAlong w else 4 * lineSlot w)

/-- The place of tap t of a line: 6 t clusters on; none beyond the die's edge (R105, R106). -/
def tapAt (k w t : Nat) : Option (Nat × Nat) := moveOn (lineDir w) (6 * t) (lineX k w) (lineY k w)

/-! ### Hops of a route (R219 to R223) -/

/-- The Seam edge that a die meets in a direction. -/
def edgeToward (d dir : Nat) : Option Nat :=
  if dir == 1 && d == 0 || dir == 3 && d == 1 then some 0
  else if dir == 1 && d == 2 || dir == 3 && d == 3 then some 1
  else if dir == 2 && d == 0 || dir == 0 && d == 2 then some 2
  else if dir == 2 && d == 1 || dir == 0 && d == 3 then some 3
  else none

/-- A hop ends by crossing the Seam: the edge and the side it sends from. -/
def hopEdge (h : Hop) : Option (Nat × Nat) :=
  if 768 ≤ h.group then none
  else (edgeToward (h.sector / 80) (lineDir h.line)).map (fun e => (e, if (seamDies e).1 == h.sector / 80 then 0 else 1))

/-- The dies that a hop lies on. -/
def hopDies (h : Hop) : List Nat :=
  match hopEdge h with
  | some (e, _) => [(seamDies e).1, (seamDies e).2]
  | none => [h.sector / 80]

/-- A hop crosses a Seam group that is LOST. -/
def hopLost (s : Block) (h : Hop) : Bool :=
  match hopEdge h with
  | some (e, _) => s.flag (seamEnd e h.group 0) Rg.sgLost
  | none => false

/-- A link is UP (R222): its sending region LIVE, its route written, no LOST group and no die in reset on it. A link without a route is
DOWN. -/
def linkIsUp (s : Block) (x : Link) : Bool :=
  sectorLive s x.sendSec && !x.writing && !x.hops.isEmpty && !x.hops.any (hopLost s) &&
    !(x.hops.any (fun h => (hopDies h).any (fun d => s.start.dieHeld.getLsbD d)))

def getLink (s : Block) (i : Nat) : Option Link := spGet (fun _ => none) s.cfg.links i

/-- Every link with a route, by number. -/
def links (s : Block) : List (Nat × Link) := (spKeys s.cfg.links).filterMap (fun i => (getLink s i).map (fun x => (i, x)))

/-- The link whose route uses a line, the hop's place in it, and the link. -/
def lineLink (s : Block) (k w : Nat) : Option (Nat × Nat × Link) :=
  (links s).findSome? (fun x => (x.2.hops.findIdx? (fun h => h.sector == k && h.line == w)).map (fun i => (x.1, i, x.2)))

/-- The slot of the group that a link's signal takes across the Seam. DESIGN CHOICE: its number modulo 64, since R219 names the group
only. -/
def linkSlot (i : Nat) : Nat := i % 64

/-- The side that the routes of links send from over a group; none where no route crosses it. -/
def linkSide (s : Block) (e g : Nat) : Option Nat :=
  (links s).findSome? (fun x => x.2.hops.findSome? (fun h => if h.group == g then (hopEdge h).bind (fun y => if y.1 == e then some y.2 else none) else none))

end Sys2Proof.Machine
end

