-- ==== Sys2Proof/Machine/Fabric.lean ====
section
/-! DEFINITION. The Seam (04): directions, deskew, steering and lost groups. -/

namespace Sys2Proof.Machine

/-- The direction that the plate of a side's sector sets, once it is verified: true is outbound (R122, R124). A relocatable plate sets no
design slot (R224). -/
def plateSide (s : Block) (e g side : Nat) : Option Bool :=
  let k := seamSector e g side
  let st := s.f (Rg.sector k) Rg.secState
  let v := cfgGet s k .seamDir (g % 96) 0
  if st < 2 || (getRegion s (s.f (Rg.sector k) Rg.secRegion)).relocatable then none
  else if v == 1 then some true else if v == 2 then some false else none

/-- The direction a side has: its plate's; where neither plate sets the group, that of a link's route over it (R220). DESIGN CHOICE: a
route sets both ends, since the manual does not say what does. -/
def seamSide (s : Block) (e g side : Nat) : Option Bool :=
  match plateSide s e g 0, plateSide s e g 1 with
  | none, none => (linkSide s e g).map (fun x => x == side)
  | a, b => if side == 0 then a else b

/-- Both adjoining plates set the group outbound, or both inbound (R123). -/
def seamConflict (s : Block) (e g : Nat) : Bool :=
  match seamSide s e g 0, seamSide s e g 1 with
  | some a, some b => a == b
  | _, _ => false

/-- The sending side of a group that has one (R124). A die in reset sends and takes nothing (R52). -/
def seamSender (s : Block) (e g : Nat) : Option Nat :=
  if seamConflict s e g || s.start.dieHeld.getLsbD (seamDie e 0) || s.start.dieHeld.getLsbD (seamDie e 1) then none
  else if seamSide s e g 0 == some true then some 0
  else if seamSide s e g 1 == some true then some 1
  else none

/-- Set a field at both ends of a group. -/
def seamPutBoth (e g : Nat) (fl : Fld) (v : Nat) (s : Block) : Block :=
  (s.put (seamEnd e g 0) fl v).put (seamEnd e g 1) fl v

/-- The sector event source of a die's configuration engine (R532). -/
def sectorEvent (d : Nat) (s : Block) : Block := s.eicEdge (eicDie d 21)

/-- The object of a SEAM_STEER command. -/
def seamObj (e g k : Nat) : Nat := (768 * e + g) * 64 + k

/-- The steerings of a group end without effect: parity, sampling and steering run only while it has a sending end (R124), and not on a
group that is LOST. -/
def seamUnsteer (e g : Nat) (s : Block) : Block :=
  let s := seamPutBoth e g Rg.sgSteering 0 s
  let s := { s with seam := { s.seam with steers := s.seam.steers.filter (fun x => !(x.edge == e && x.group == g)) } }
  forEach (upto 32) (fun k s => s.close 0x0805 (seamObj e g k) St.refusedState) s

/-- DIR, DIR_CONFLICT and IN_USE of a group after a side has changed (R122 to R124); a new conflict raises
SEAM_DIR_CONFLICT and the sector event of both dies. -/
def seamRefresh (e g : Nat) (s : Block) : Block :=
  let conf := seamConflict s e g
  let was := s.flag (seamEnd e g 0) Rg.sgDirConflict
  let s := forEach [0, 1] (fun side s =>
    let a := seamEnd e g side
    let sec := seamSector e g side
    let recv := match seamSide s e g side with
      | some out => !out
      | none => seamSide s e g (1 - side) == some true
    let live := s.f (Rg.sector sec) Rg.secState == 3 && (plateSide s e g side).isSome
    ((s.putB a Rg.sgDir recv).putB a Rg.sgDirConflict conf).putB a Rg.sgInUse live) s
  let s := when ((seamSender s e g).isNone && s.seam.steers.any (fun x => x.edge == e && x.group == g)) (seamUnsteer e g) s
  if conf && !was then
    forEach [0, 1] (fun side s =>
      sectorEvent (seamDie e side) (s.raise Ev.seamDirConflict (originOf (0x22 + 0x20 * seamDie e side)) g)) s
  else s

/-- Spare n of a group is idle: it carries no data wire, no steering has taken it and it passed its deskew (R126). -/
def seamSpareIdle (s : Block) (e g n : Nat) : Bool :=
  s.f (seamEnd e g 0) (Rg.sgSpareFor n) == 0x3F && s.f (seamEnd e g 1) (Rg.sgSpareFor n) == 0x3F &&
  !(s.seam.steers.any (fun x => x.edge == e && x.group == g && x.spare == n)) &&
  !(s.seam.badSpares.any (fun x => x == (e, g, n)))

/-- The idle spare that a steering takes. DESIGN CHOICE: S0 where both are idle (R127 does not say which). -/
def seamIdle? (s : Block) (e g : Nat) : Option Nat := [0, 1].find? (seamSpareIdle s e g)

/-- A data wire is carried by a spare already. -/
def seamCarried (s : Block) (e g k : Nat) : Bool := [0, 1].any (fun n => s.f (seamEnd e g 0) (Rg.sgSpareFor n) == k)

/-- The steering of a data wire. -/
def seamSteerOf (s : Block) (e g k : Nat) : Option SeamSteer :=
  s.seam.steers.find? (fun x => x.edge == e && x.group == g && x.wire == k)

/-- A spare of the group still carries parity: an idle one, or one whose steering has not reached step 3 (R126, R127). -/
def seamParityOn (s : Block) (e g : Nat) : Bool :=
  (seamIdle? s e g).isSome || s.seam.steers.any (fun x => x.edge == e && x.group == g && decide (x.step < 3))

/-- The group becomes LOST: SEAM_GROUP_LOST and the EIC source of the receiving die (R129). -/
def seamLose (e g : Nat) (s : Block) : Block :=
  let s := seamUnsteer e g (seamPutBoth e g Rg.sgLost 1 s)
  let s := { s with seam := { s.seam with
    reloaded := s.seam.reloaded.filter (fun x => !(x.1 == e && x.2.1 == g)) } }
  let rd := match seamSender s e g with
    | some side => seamDie e (1 - side)
    | none => seamDie e 0
  (s.raise Ev.seamGroupLost (originOf (0x22 + 0x20 * rd)) (seamNo e g)).eicEdge (eicDie rd 20)

/-- Start steering data wire k: at step 1 after a margin loss, at step 2 by command or after a parity failure; with no
idle spare left the group is LOST (R127 to R129). -/
def seamSteer (e g k step : Nat) (abrupt : Option (BitVec 64)) (s : Block) : Block :=
  match seamIdle? s e g with
  | none => seamLose e g s
  | some n =>
    let s := seamPutBoth e g Rg.sgSteering 1 s
    { s with seam := { s.seam with
      steers := s.seam.steers ++ [{ edge := e, group := g, wire := k, spare := n, step := step, abrupt := abrupt }] } }

/-- The logical data wire that a wire of the group carries: itself, or for a spare (32 and 33) the wire it carries; none where it carries
none. -/
def seamLogical (s : Block) (e g w : Nat) : Option Nat :=
  if w < 32 then (if seamCarried s e g w then none else some w)
  else
    let v := s.f (seamEnd e g 0) (Rg.sgSpareFor (w - 32))
    if v < 32 then some v else none

/-- A spare that fails is used no more; the data wire it carried is to be steered again. -/
def seamSpareFails (e g w : Nat) (s : Block) : Block :=
  if w < 32 then s
  else
    let s : Block := { s with seam := { s.seam with badSpares := s.seam.badSpares ++ [(e, g, w - 32)] } }
    seamPutBoth e g (Rg.sgSpareFor (w - 32)) 0x3F s

/-- SEAM_MARGIN_LOSS (R127): the margin of a wire, `margin`, has stayed below the receiving end's MARGIN_MIN; the wire carries data, on a
group with a sending end that is not LOST. With AUTO_STEER 0 at the receiving end an event is raised and nothing is steered: DESIGN
CHOICE, it is SEAM_WIRE_STEERED with DETAIL2 1, since R127 does not name the event. -/
def seamMarginLossStep (e g w margin : Nat) (s : Block) : Block :=
  match seamSender s e g, seamLogical s e g w with
  | some side, some k =>
    let rd := seamDie e (1 - side)
    if s.flag (seamEnd e g 0) Rg.sgLost || (seamSteerOf s e g k).isSome || s.f (Rg.seam rd) Rg.seamMarginMin ≤ margin then s
    else if s.flag (Rg.seam rd) Rg.seamAutoSteer then seamSteer e g k 1 none (seamSpareFails e g w s)
    else s.raise Ev.seamWireSteered (originOf (0x22 + 0x20 * rd)) (seamNo e g * 0x100 + k) 1
  | _, _ => s

def execSeamMarginLoss (edge : Fin 4) (group : Fin 768) (wire : Fin 34) (margin : BitVec 6) (s : State) :
    Host.Outcome State Fault Refusal := clocked (seamMarginLossStep edge.val group.val wire.val margin.toNat) s

/-- A wire whose steering runs fails: its steering goes on as an abrupt one, from step 2 at least (R128). -/
def seamTurnAbrupt (e g k : Nat) (s : Block) : Block :=
  { s with seam := { s.seam with steers := s.seam.steers.map (fun x =>
      if x.edge == e && x.group == g && x.wire == k && x.abrupt.isNone && x.step < 4 then
        { x with step := Nat.max 2 x.step, abrupt := some s.devTime } else x) } }

/-- SEAM_PARITY_FAIL (R128): PARITY_ERRORS counts at the receiving end, and the wire that disagrees is steered from
step 2 whatever AUTO_STEER says. While no spare carries parity a wire's failure makes the group LOST (R129). -/
def seamParityFailStep (e g w : Nat) (s : Block) : Block :=
  match seamSender s e g, seamLogical s e g w with
  | some side, some k =>
    if s.flag (seamEnd e g 0) Rg.sgLost then s
    else if !seamParityOn s e g then seamLose e g s
    else
      let s := s.bumpBy (seamEnd e g (1 - side)) seamCnt 1
      if (seamSteerOf s e g k).isSome then seamTurnAbrupt e g k s
      else seamSteer e g k 2 (some s.devTime) (seamSpareFails e g w s)
  | _, _ => s

def execSeamParityFail (edge : Fin 4) (group : Fin 768) (wire : Fin 34) (s : State) :
    Host.Outcome State Fault Refusal := clocked (seamParityFailStep edge.val group.val wire.val) s

/-- The steering of a wire goes on to a step. -/
def seamKeep (x : SeamSteer) (step : Nat) (s : Block) : Block :=
  { s with seam := { s.seam with steers := s.seam.steers ++ [{ x with step := step }] } }

/-- The origin of a group's steering events: the Seam of the receiving die. -/
def seamOrigin (s : Block) (e g : Nat) : Nat :=
  originOf (0x22 + 0x20 * (match seamSender s e g with
    | some side => seamDie e (1 - side)
    | none => seamDie e 0))

/-- Step 4 of R127: the receiving end takes the spare where its margin, a free value, has been at or above MARGIN_MIN; an abrupt fault's
event carries both times (R128). DESIGN CHOICE: a spare below it is looked at again at the next marker, since R127 does not say. -/
def seamStep4 (x : SeamSteer) (s : Block) : Block :=
  let rd := match seamSender s x.edge x.group with
    | some side => seamDie x.edge (1 - side)
    | none => seamDie x.edge 0
  let y := s.draw
  if y.1 % 64 < y.2.f (Rg.seam rd) Rg.seamMarginMin then seamKeep x 3 y.2
  else seamKeep x 4 (match x.abrupt with
    | some t => y.2.raiseAt t Ev.seamAbrupt (seamOrigin s x.edge x.group) s.devTime.toNat (seamNo x.edge x.group * 0x100 + x.wire)
    | none => y.2)

/-- Step 5 of R127: the sending end stops driving the old wire. -/
def seamStep5 (x : SeamSteer) (s : Block) : Block :=
  let org := seamOrigin s x.edge x.group
  let s := seamPutBoth x.edge x.group (Rg.sgSpareFor x.spare) x.wire s
  let used := ([0, 1].filter (fun n => s.f (seamEnd x.edge x.group 0) (Rg.sgSpareFor n) != 0x3F)).length
  let s := seamPutBoth x.edge x.group Rg.sgSparesUsed used s
  let more := s.seam.steers.any (fun y => y.edge == x.edge && y.group == x.group)
  let s := seamPutBoth x.edge x.group Rg.sgSteering more.toNat s
  (s.raise Ev.seamWireSteered org (seamNo x.edge x.group * 0x100 + x.wire)).close 0x0805 (seamObj x.edge x.group x.wire) St.ok

/-- One wire under steering at an alignment marker (R127): step 3 drives the spare too. -/
def seamMarkerOne (x : SeamSteer) (s : Block) : Block :=
  if x.step < 3 then seamKeep x 3 s else if x.step == 3 then seamStep4 x s else seamStep5 x s

/-- Every Seam steering at an alignment marker, in the order they began. -/
def seamMarker (s : Block) : Block :=
  let l := s.seam.steers
  l.foldl (fun s x => seamMarkerOne x s) { s with seam := { s.seam with steers := [] } }

/-- The wires of a group that fail a deskew. -/
def deskewWires (faults : List SeamFault) (e g : Nat) : List Nat :=
  ((faults.filter (fun x => x.edge.val == e && x.group.val == g)).map (fun x => x.wire.val)).eraseDups

/-- One group after its deskew (R125): a failing data wire goes to a spare at once, a failing spare is not used, and with more
than two failing wires, or none left to steer to, the group is LOST (R129). -/
def deskewGroup (e g : Nat) (wires : List Nat) (s : Block) : Block :=
  if 2 < wires.length then seamLose e g s
  else
    let bad := (wires.filter (32 ≤ ·)).map (fun w => (e, g, w - 32))
    let s := { s with seam := { s.seam with badSpares := s.seam.badSpares ++ bad } }
    let s := forEach (wires.filter (· < 32)) (fun k s =>
      match seamIdle? s e g with
      | some n => seamPutBoth e g (Rg.sgSpareFor n) k s
      | none => seamLose e g s) s
    let used := ([0, 1].filter (fun n => s.f (seamEnd e g 0) (Rg.sgSpareFor n) != 0x3F)).length
    seamPutBoth e g Rg.sgSparesUsed used s

/-- The Seam edges of a die. -/
def seamEdges (d : Nat) : List Nat := (upto 4).filter (fun e => (seamDies e).1 == d || (seamDies e).2 == d)

/-- Steering of a group end starts afresh: no spare in use, not LOST; directions and counters stay. -/
def seamFreshEnd (a : Nat) (s : Block) : Block :=
  let s := ((s.put a Rg.sgLost 0).put a Rg.sgSparesUsed 0).put a Rg.sgSteering 0
  (s.put a (Rg.sgSpareFor 0) 0x3F).put a (Rg.sgSpareFor 1) 0x3F

/-- Every end of an edge's groups before its deskew. -/
def seamFresh (e : Nat) (s : Block) : Block :=
  let ends := (spKeys s.regs).filter (fun a => [0, 1].any (fun side =>
    decide (seamEnd e 0 side ≤ a) && decide (a < seamEnd e 768 side)))
  let s := forEach ends seamFreshEnd s
  { s with seam := { s.seam with
    steers := s.seam.steers.filter (fun x => x.edge != e), badSpares := s.seam.badSpares.filter (fun x => x.1 != e) } }

/-- The deskew of the Seam wires of some edges, when their dies are cleared (R125). -/
def seamDeskew (edges : List Nat) (faults : List SeamFault) (s : Block) : Block :=
  let s := forEach edges seamFresh s
  let pairs := ((faults.filter (fun x => edges.contains x.edge.val)).map (fun x => (x.edge.val, x.group.val))).eraseDups
  pairs.foldl (fun s p => deskewGroup p.1 p.2 (deskewWires faults p.1 p.2) s) s

/-- A group that a plate sets first, or that comes back, is checked again as at a deskew (R124, R129). -/
def seamFirstSet (e g : Nat) (faults : List SeamFault) (s : Block) : Block :=
  let s := seamFreshEnd (seamEnd e g 0) (seamFreshEnd (seamEnd e g 1) s)
  let s := { s with seam := { s.seam with
    steers := s.seam.steers.filter (fun x => !(x.edge == e && x.group == g)),
    badSpares := s.seam.badSpares.filter (fun x => !(x.1 == e && x.2.1 == g)) } }
  deskewGroup e g (deskewWires faults e g) s

end Sys2Proof.Machine
end

