-- ==== Sys2Proof/Machine/Wires.lean ====
section
/-! DEFINITION. The fabric's wires and their values: cells, Level 1, Level 2, express lines with their taps and freeze gates, and Seam slots
(R88 to R110, R120 to R124, R192).

The manual gives the number of each multiplexer's sources but not which wires they are: `Config.muxWire` chooses them among the wires
that can reach it. A value is computed backwards from a wire to what stores or drives it; a combinational loop takes a free value. -/

namespace Sys2Proof.Machine

/-- A wire of the fabric. Sectors are device sectors, clusters 24 row + column. -/
inductive Wire where
  /-- Output 16 cell + i of a cluster's cells: OA_i, then OB_i, QA_i, QB_i; CO of a cell (R88). -/
  | cell (k c j : Nat)
  | carry (k c cell : Nat)
  /-- Cluster output and input; Level 1 sink 29 cell + (0 to 23 LUT inputs, 24 to 27 X, 28 X_0 to CISEL), 464 + i CE_i, 468 + i SR_i (R101). -/
  | out (k c i : Nat)
  | input (k c i : Nat)
  | sink (k c n : Nat)
  /-- Level 2 segment of a direction and track (R102). -/
  | seg (k c dir t : Nat)
  /-- Express line n launched in a direction at a column and row of a die, at a tap; 0 at its launch (R104, R105). -/
  | line (d x y dir n tap : Nat)
  /-- Receiving slot of a side of a Seam group (R120). -/
  | slot (e g side i : Nat)
  /-- Output bit of a hard block: RAM 0 to 67, then MAC engines (R99). -/
  | block (k b j : Nat)
  /-- A signal that enters the sector's fabric from an edge port, an access point or a TPP port (R100). -/
  | port (k j : Nat)
deriving DecidableEq, Repr

/-! ### What can reach a multiplexer -/

/-- The length of Level 2 track t of 28: 16 of length 1, 8 of length 4, 4 of length 12 (R102). -/
def segLen (t : Nat) : Nat := if t < 16 then 1 else if t < 24 then 4 else 12

/-- A segment whose start is `room` clusters from the sector's edge is read at distance n: at its end, a long one every 4 clusters, and at the
edge cluster where it would cross (R102, R103). -/
def segReadAt (t room n : Nat) : Bool :=
  (if segLen t == 12 then [4, 8, 12] else [segLen t]).any (fun m => Nat.min m room == n)

/-- The Level 2 segments read at a cluster. -/
def segsRead (k c : Nat) : List Wire :=
  (upto 4).flatMap (fun dir => (upto 13).flatMap (fun n =>
    let back := (dir + 2) % 4
    if toEdge back c < n then []
    else
      let start := if dir == 0 then c + 24 * n else if dir == 1 then c - n else if dir == 2 then c - 24 * n else c + n
      ((upto 28).filter (fun t => segReadAt t (toEdge dir start) n)).map (fun t => .seg k start dir t)))

/-- The express-line taps at a cluster (R104, R105). -/
def tapsRead (k c : Nat) : List Wire :=
  (upto 4).flatMap (fun dir => [1, 2, 3, 4].flatMap (fun tap =>
    match moveOn ((dir + 2) % 4) (6 * tap) (clusterX k c) (clusterY k c) with
    | none => []
    | some (x, y) => if launches dir x y then (upto (linesOf dir)).map (fun n => .line (k / 80) x y dir n tap) else []))

/-- What is read at a cluster's switch box and by its inputs. -/
def readHere (k c : Nat) : List Wire := segsRead k c ++ tapsRead k c

/-- The Seam slots that come in at a cluster (R102, R121). -/
def slotsHere (k c : Nat) : List Wire :=
  match sectorSeam k with
  | none => []
  | some (e, g, side) =>
    ((upto 96).filter (fun j => seamCluster e (g + j) side == c)).flatMap (fun j => (upto 64).map (fun i => .slot e (g + j) side i))

/-- The output bits of a hard block: a RAM's DOUT, flags and queue outputs; an engine's OQ word, levels and flags (R130, R172). -/
def blockBits (b : Nat) : Nat := if b < 68 then 153 else 70

/-- The hard blocks east of a cluster, in the rows they span (R99): Tray RAM 20 column + row, Tank RAM 60 + 4 column + block, engine
68 + 16 column + position. -/
def blocksHere (c : Nat) : List Nat :=
  let x := c % 24
  let y := c / 24
  if x % 9 == 1 && x < 20 then [20 * (x / 9) + y]
  else if x % 9 == 7 && x < 17 then [60 + 4 * (x / 9) + y / 5]
  else if x % 9 == 4 then (upto 4).map (fun i => 68 + 16 * (x / 9) + 4 * (y / 5) + i)
  else []

/-- What a Level 2 or express driver of a cluster can select: the cluster's outputs, what is read there, inbound Seam slots, the hard blocks'
outputs, and what enters the sector from outside, whose places the manual does not give (R99, R100, R102, R105). -/
def drivesFrom (k c : Nat) : List Wire :=
  (upto 64).map (fun i => .out k c i) ++ readHere k c ++ slotsHere k c ++
    (blocksHere c).flatMap (fun b => (upto (blockBits b)).map (fun j => .block k b j)) ++ (upto 1024).map (fun j => .port k j)

/-- The wire that source n of a multiplexer is. -/
def muxSource (kind : CfgKind) (idx n : Nat) (l : List Wire) : Option Wire := l[Config.muxWire kind.no idx n l.length % l.length]?

/-- The wire that a cluster input, a Level 2 driver, an express driver selects (R113). -/
def inputWire (s : Block) (k c i : Nat) : Option Wire :=
  (muxPick2 7 8 (cfgGet s k .inGroup c i) (cfgGet s k .inMember c i)).bind (fun n => muxSource .inGroup i n (readHere k c))
def segWire (s : Block) (k c dir t : Nat) : Option Wire :=
  (muxPick 25 (cfgGet s k .segDrv c (28 * dir + t))).bind (fun n => muxSource .segDrv (28 * dir + t) n (drivesFrom k c))
def launchWire (s : Block) (k c dir n : Nat) : Option Wire :=
  (muxPick2 5 8 (cfgGet s k .expGroup c (16 * dir + n)) (cfgGet s k .expMember c (16 * dir + n))).bind (fun i =>
    muxSource .expGroup (16 * dir + n) i (drivesFrom k c))

/-! ### Storage elements: a design's hold INIT while its region is not LIVE or is held in a region reset (R96, R110, R191, R215) -/

/-- A design's storage elements in sector k run. -/
def designRuns (s : Block) (k : Nat) : Bool := sectorLive s k && !resetHeld s k

/-- The number of flip-flop f of a cluster, of Level 2 register, of a tap register. -/
def ffKey (k c f : Nat) : Nat := 128 * (480 * k + c) + f
def segKey (k c idx : Nat) : Nat := 112 * (480 * k + c) + idx
def tapKey (k c idx : Nat) : Nat := 256 * (480 * k + c) + idx

def ffHeld (s : Block) (k c f : Nat) : Bool :=
  if designRuns s k then spGet (fun _ => false) s.fab.ff (ffKey k c f) else cfgBit s k .ffInit c f
def segHeld (s : Block) (k c idx : Nat) : Bool :=
  if designRuns s k then spGet (fun _ => false) s.fab.seg (segKey k c idx) else cfgBit s k .segInit c idx

/-- The register at tap m + 1 of a line; a transit line's runs whatever the sector's state (R191). -/
def tapHeld (s : Block) (k c idx : Nat) : Bool :=
  if designRuns s k || designLines (idx / 64) ≤ idx % 16 then spGet (fun _ => false) s.fab.tap (tapKey k c idx)
  else cfgBit s k .tapInit c idx

/-! ### Cells (R88 to R97) -/

/-- The six inputs of LUT i of a cell. -/
def lutIns (v : Wire → Bool) (k c cell i : Nat) : BitVec 6 :=
  BitVec.ofNat 6 ((upto 6).foldl (fun x p => x + (v (.sink k c (29 * cell + 6 * i + p))).toNat * 2 ^ p) 0)

/-- The truth table of LUT i of a cell. -/
def lutTable (s : Block) (k c cell i : Nat) : BitVec 64 := BitVec.ofNat 64 (cfgGet s k .lutInit c (4 * cell + i))

/-- CHAIN of a cell: the CO of the cell before it, of the cluster north of it for cell 0 (R91). At the top of a sector nothing drives it: a free
value. -/
def chainIn (v : Wire → Bool) (k c cell : Nat) : Bool :=
  if cell == 0 then (if c < 24 then Config.chainTop else v (.carry k (c - 24) 15)) else v (.carry k c (cell - 1))

/-- The sums and carries of a cell (R89, R90). -/
def cellArith (s : Block) (v : Wire → Bool) (k c cell : Nat) : List Bool × List Bool :=
  let sel := ciselOf (cfgGet s k .cisel c cell)
  let c0 := carryIn sel (if sel == .chain then chainIn v k c cell else false) (if sel == .x0 then v (.sink k c (29 * cell + 28)) else false)
  arith ((upto 4).map (fun i => (lutTable s k c cell i, lutIns v k c cell i))) c0

/-- OA_i and OB_i of a cell (R89). -/
def lutOuts (s : Block) (v : Wire → Bool) (k c cell i : Nat) : Bool × Bool :=
  if cfgBit s k .arith c cell then
    let x := cellArith s v k c cell
    (x.1.getD i false,
     if cfgBit s k .obsel c (4 * cell + i) then x.2.getD i false else (lutPG (lutTable s k c cell i) (lutIns v k c cell i)).2)
  else if cfgBit s k .lutSplit c (4 * cell + i) then lutSplit (lutTable s k c cell i) (lutIns v k c cell i)
  else lutSingle (lutTable s k c cell i) (lutIns v k c cell i)

/-- The half of flip-flop f: 2 cell + (0 A, 1 B). -/
def ffHalf (f : Nat) : Nat := f / 4

/-- The SR line that half h uses, and whether it is ASYNC (R94). -/
def halfSrLine (s : Block) (k c h : Nat) : Option (Nat × Bool) :=
  let v := cfgGet s k .halfSr c h
  if v == 1 || v == 2 then some (v - 1, cfgBit s k .srAsync c (v - 1)) else none

/-- The half's SR line is asserted and is SYNC, or ASYNC. -/
def srOn (s : Block) (v : Wire → Bool) (k c h : Nat) (async : Bool) : Bool :=
  match halfSrLine s k c h with
  | some (n, a) => a == async && v (.sink k c (468 + n))
  | none => false

/-- CE of a half: none where it is always enabled (R94). -/
def halfCe (s : Block) (v : Wire → Bool) (k c h : Nat) : Option Bool :=
  let n := cfgGet s k .halfCe c h
  if 1 ≤ n && n ≤ 4 then some (v (.sink k c (464 + (n - 1)))) else none

/-- Q of flip-flop f of a cluster: what it holds, SRLEVEL under its ASYNC SR (R95). -/
def ffQ (s : Block) (v : Wire → Bool) (k c f : Nat) : Bool :=
  ffAsync (ffHeld s k c f) (cfgBit s k .ffSr c f) (designRuns s k && srOn s v k c (ffHalf f) true)

/-- D of flip-flop f: its LUT output or its bypass input (R93). -/
def ffD (s : Block) (v : Wire → Bool) (k c f : Nat) : Bool :=
  let cell := f / 8
  let i := f % 4
  if cfgBit s k .dsel c f then v (.sink k c (29 * cell + 24 + i)) else v (.cell k c (16 * cell + (if f % 8 < 4 then i else 4 + i)))

/-- Output j of a cluster's cells. -/
def cellOut (s : Block) (v : Wire → Bool) (k c j : Nat) : Bool :=
  let cell := j / 16
  let i := j % 4
  if j % 16 < 4 then (lutOuts s v k c cell i).1
  else if j % 16 < 8 then (lutOuts s v k c cell i).2
  else ffQ s v k c (8 * cell + (if j % 16 < 12 then i else 4 + i))

/-! ### Express lines and freeze gates (R105, R106, R192) -/

/-- The transit line that line n of a launch cluster is, as a route names it: its sector and code; none for a line of designs (R218, R219). -/
def transitCode (d x y dir n : Nat) : Option (Nat × Nat) :=
  if n < designLines dir then none
  else some (sectorAt d x y, dir + 4 * (if dir % 2 == 1 then y % 20 else x % 24) + 128 * launchSlot dir x y + 1024 * (n - designLines dir))

/-- Two sectors belong to one region. -/
def sameRegion (s : Block) (j k : Nat) : Bool :=
  j == k || (s.f (Rg.sector j) Rg.secState != 0 && s.f (Rg.sector k) Rg.secState != 0 &&
    s.f (Rg.sector j) Rg.secRegion == s.f (Rg.sector k) Rg.secRegion)

/-- The gate in sector `at'` of a line launched in sector `from'` would force by itself: its launch sector is not LIVE and is of another
region. -/
def gateWants (s : Block) (from' at' : Nat) : Bool := !sectorLive s from' && !sameRegion s from' at'

/-- A line's freeze gate where it enters sector `to'` after `tap` forces (R192): a design line's while its launch sector is not LIVE, in the
sector between launch and fourth tap only when the receiving gate forces too; a transit line's while its link is DOWN. -/
def gateForces (s : Block) (d x y dir n to' : Nat) : Bool :=
  let home := sectorAt d x y
  match transitCode d x y dir n with
  | some (k, w) =>
    match lineLink s k w with
    | some (_, _, l) => !linkIsUp s l
    | none => false
  | none =>
    let last := match moveOn dir 24 x y with
      | some (u, w) => sectorAt d u w
      | none => to'
    gateWants s home to' && (last == to' || gateWants s home last)

/-- The freeze gate's value in the sector a line enters. -/
def gateValue (s : Block) (x y dir n to' : Nat) (second : Bool) : Bool :=
  cfgBit s to' .gate (if dir % 2 == 1 then y % 20 else x % 24) (256 * dir + 128 * second.toNat + 16 * launchSlot dir x y + n)

/-- A link is read at a tap while it is DOWN: the receiving tap shows FREEZE (R222). RECV_SECTOR is the sector of the tap: DEDUCED from
R219, by which a relocatable plate names its own sector at its own end. -/
def tapFrozen (s : Block) (d x y dir n tap : Nat) : Option Bool :=
  match transitCode d x y dir n, moveOn dir (6 * tap) x y with
  | some (_, w), some (u, u') => (links s).findSome? (fun l =>
      if l.2.recvSec == sectorAt d u u' && l.2.recvLine == w && l.2.recvTap == tap && !linkIsUp s l.2 then some l.2.freeze else none)
  | _, _ => none

/-- A line between tap t and tap t + 1: past the freeze gate of a sector edge it crosses there. -/
def lineSpan (s : Block) (d x y dir n t : Nat) (raw : Bool) : Bool :=
  match moveOn dir (6 * t) x y, moveOn dir (6 * (t + 1)) x y with
  | some (u, w), some (u', w') =>
    let to' := sectorAt d u' w'
    if sectorAt d u w == to' || !gateForces s d x y dir n to' then raw
    else gateValue s x y dir n to' (sectorAt d u w != sectorAt d x y)
  | _, _ => false

/-- The wire that drives a transit line of a route after its first: the exit tap of the line before, or the receiving slot where that line
crosses the Seam (R220). -/
def relayWire (i : Nat) (l : Link) (hop : Nat) : Option Wire :=
  match l.hops[hop - 1]? with
  | none => none
  | some h =>
    match hopEdge h with
    | some (e, side) => some (.slot e h.group (1 - side) (linkSlot i))
    | none => some (.line (h.sector / 80) (lineX h.sector h.line) (lineY h.sector h.line) (lineDir h.line) (lineNumber h.line) h.exit)

/-- The wire that drives a line at its launch cluster: a route's relay, or what the driver selects. -/
def lineSource (s : Block) (d x y dir n : Nat) : Option Wire :=
  let own := launchWire s (sectorAt d x y) (clusterAt x y) dir n
  match transitCode d x y dir n with
  | none => own
  | some (k, w) =>
    match lineLink s k w with
    | some (i, hop, l) =>
      if hop == 0 then own
      else
        let at' (kind : CfgKind) : Nat := cfgGet s k kind (clusterAt x y) (16 * dir + n)
        if l.writing || (muxPick2 5 8 (at' .expGroup) (at' .expMember)).isNone then none else relayWire i l hop
    | none => own

/-! ### Seam slots (R120 to R124, R128, R129) -/

/-- The wire that a sending slot takes: the exit tap of a link's line that crosses the group, else a Level 2 segment read at the port's cluster,
of the manual's choosing. -/
def slotSource (s : Block) (e g side i : Nat) : Option Wire :=
  let viaLink := (links s).findSome? (fun l => if linkSlot l.1 != i then none else
    l.2.hops.findSome? (fun h => if h.group == g && hopEdge h == some (e, side) then
      some (Wire.line (h.sector / 80) (lineX h.sector h.line) (lineY h.sector h.line) (lineDir h.line) (lineNumber h.line) h.exit) else none))
  match viaLink with
  | some w => some w
  | none => muxSource .seamDir (64 * (g % 96) + i) 0 (segsRead (seamSector e g side) (seamCluster e g side))

/-- The network that clocks a group: the crossing clock its sending side's plate sets, or the clock of a link that crosses it (R122, R219). -/
def seamNet (s : Block) (e g side : Nat) : Option Nat :=
  let k := seamSector e g side
  let v := cfgGet s k .seamClk (g % 96) 0
  if (plateSide s e g side).isSome then (if v == 0 then none else sectorNet s k (v - 1))
  else (links s).findSome? (fun l => if l.2.hops.any (fun h => h.group == g && hopEdge h == some (e, side)) then some l.2.clock else none)

/-- The register in a slot's path that is its receiving output. -/
def seamSlotKey (e g i : Nat) : Nat := 64 * (768 * e + g) + i

/-- A receiving slot is held at the freeze value of its own plate (R123, R124, R129, R192): the group is LOST or in conflict, has no sender, a
die of it is in reset, or the sender's region is not LIVE and is another. -/
def slotFrozen (s : Block) (e g side : Nat) : Bool :=
  s.flag (seamEnd e g 0) Rg.sgLost ||
  match seamSender s e g with
  | none => true
  | some from' => from' == side || (linkSide s e g == none && gateWants s (seamSector e g from') (seamSector e g side))

/-- An abrupt steering of the wire that carries a slot runs: its values may be wrong (R128). -/
def slotAbrupt (s : Block) (e g i : Nat) : Bool :=
  match seamSteerOf s e g (i / 2) with
  | some x => x.abrupt.isSome && x.step < 4
  | none => false

/-- The output of a receiving slot. -/
def slotOut (s : Block) (e g side i : Nat) : Bool :=
  if slotFrozen s e g side then (cfgGet s (seamSector e g side) .seamFreeze (g % 96) 0).testBit i
  else if slotAbrupt s e g i then Config.seamWrong s.devTime.toNat (seamSlotKey e g i)
  else (spGet (fun _ => (0 : BitVec 4)) s.fab.slots (seamSlotKey e g i)).getLsbD 3

/-! ### Hard blocks (R130, R172) -/

/-- An output bit of a RAM: DOUT of A and B, then SBE, DBE and COLL of each, FULL, EMPTY and QERR. -/
def ramBit (s : Block) (k i j : Nat) : Bool :=
  let a := ramShows s k i false
  let b := ramShows s k i true
  let r := getRam s k i
  if j < 72 then a.data.getLsbD j
  else if j < 144 then b.data.getLsbD (j - 72)
  else [a.sbe, a.dbe, a.coll, b.sbe, b.dbe, b.coll, decide (queueDepth (ramSet s k i) ≤ r.count), r.count == 0, r.qerr].getD (j - 144) false

/-- An output bit of an engine: the head of OQ, its FIFO levels, GPO, BUSY, HALTED and the flags. -/
def engineBit (s : Block) (e j : Nat) : Bool :=
  let g := getEng s e
  if j < 54 then (g.oq.headD 0).getLsbD j
  else if j < 62 then
    [decide (16 ≤ g.ia.length), decide (16 ≤ g.ib.length), g.oq.isEmpty, g.gpo0, g.gpo1, g.mode == .running || g.mode == .draining,
     g.mode == .halted || g.mode == .illegal, false].getD (j - 54) false
  else g.flags.getLsbD (j - 62)

/-! ### The value of a wire -/

/-- One step back from a wire: its value, by `v` those of the wires it comes from. -/
def wireStep (s : Block) (v : Wire → Bool) (w : Wire) : Bool :=
  let at' (x : Option Wire) : Bool := match x with
    | some y => v y
    | none => false
  match w with
  | .cell k c j => cellOut s v k c j
  | .carry k c cell => (cellArith s v k c cell).2.getD 3 false
  | .out k c i => v (.cell k c (16 * (i / 4) + cfgGet s k .outSel c i))
  | .input k c i => at' (inputWire s k c i)
  | .sink k c n =>
    match muxPick2 23 16 (cfgGet s k .l1Group c n) (cfgGet s k .l1Member c n) with
    | none => false
    | some j => if j < 96 then v (.input k c j) else v (.cell k c (j - 96))
  | .seg k c dir t => if cfgBit s k .segReg c (28 * dir + t) then segHeld s k c (28 * dir + t) else at' (segWire s k c dir t)
  | .line d x y dir n 0 => at' (lineSource s d x y dir n)
  | .line d x y dir n (t + 1) =>
    match tapFrozen s d x y dir n (t + 1), moveOn dir (6 * (t + 1)) x y with
    | some z, _ => z
    | none, none => false
    | none, some (u, u') =>
      let k := sectorAt d u u'
      let idx := 64 * dir + 16 * t + n
      if cfgBit s k .tapReg (clusterAt u u') idx then tapHeld s k (clusterAt u u') idx
      else lineSpan s d x y dir n t (v (.line d x y dir n t))
  | .slot e g side i => slotOut s e g side i
  | .block k b j => if b < 68 then ramBit s k b j else engineBit s (48 * k + (b - 68)) j
  | .port k j => Config.portIn s.devTime.toNat (1024 * k + j)

/-- The value of a wire: as many steps back as the fabric can take without a loop; a loop settles to a free value. -/
def wireVal (s : Block) : Nat → Wire → Bool
  | 0, _ => Config.loopValue s.devTime.toNat
  | n + 1, w => wireStep s (wireVal s n) w

/-- More steps than any path without a loop has. -/
def fabricDepth : Nat := 1000000

/-- The value of a wire now. -/
def Block.wire (s : Block) (w : Wire) : Bool := wireVal s fabricDepth w

end Sys2Proof.Machine
end

