-- ==== Sys2Proof/Machine/FabricEdge.lean ====
section
/-! DEFINITION. Clock edges in the fabric (R94, R95, R109, R110, R122): what the flip-flops, wire registers and Seam slots take at the edges of
one instant, and the INIT values they start from (R96, R191, R213, R215). -/

namespace Sys2Proof.Machine

/-- A stop-shutter holds this edge in sector k (R241): of a masked network it lets the capture edge and the falling edge after it through. -/
def edgeHeld (s : Block) (k : Nat) (x : NetEdge) : Bool :=
  let i := 32 * x.die + x.net
  s.shut.held.getLsbD k && s.shut.domain.getLsbD i &&
    (decide (3 ≤ s.shut.state) || (if x.rising then s.shut.captured.getLsbD i else s.shut.fell.getLsbD i))

/-- Among the edges of one instant is a rising or falling one of network n of sector k's die; with `design`, one that the sector's design
receives. -/
def clockEdgeOf (s : Block) (k : Nat) (net : Option Nat) (rising design : Bool) (es : List NetEdge) : Bool :=
  match net with
  | none => false
  | some n => es.any (fun x => x.die == k / 80 && x.net == n && x.rising == rising && (!design || !edgeHeld s k x))

/-- What flip-flop f of a cluster holds after the edges of one instant (R94, R95). -/
def ffNext (s : Block) (v : Wire → Bool) (es : List NetEdge) (k c f : Nat) : Bool :=
  let h := ffHalf f
  let level := cfgBit s k .ffSr c f
  let net := clusterNet s k c (cfgGet s k .halfClk c h)
  if srOn s v k c h true then level
  else if clockEdgeOf s k net (!cfgBit s k .halfFall c h) true es then
    ffEdge (ffHeld s k c f) (ffD s v k c f) level (srOn s v k c h false) (halfCe s v k c h)
  else ffHeld s k c f

/-- The clusters whose flip-flops can change: those with a cluster clock or an ASYNC SR line. -/
def clockedClusters (s : Block) : List (Nat × Nat) :=
  (((spKeys s.cfg.fields).filter (fun i => keyKind i == some .clkMux || keyKind i == some .srAsync)).map
    (fun i => (keySector i, keyPlace i))).eraseDups

/-- The flip-flops after the edges of one instant. -/
def ffsNext (s : Block) (v : Wire → Bool) (es : List NetEdge) : Sp Bool :=
  ((clockedClusters s).filter (fun p => designRuns s p.1)).foldl (fun m p =>
    (upto 128).foldl (fun m f => spSet (fun _ => false) m (ffKey p.1 p.2 f) (ffNext s v es p.1 p.2 f)) m) s.fab.ff

/-- The value of a wire that may be missing. -/
def wireOr (v : Wire → Bool) : Option Wire → Bool
  | some w => v w
  | none => false

/-- The Level 2 wire registers after the edges of one instant: rising edges only, no enable and no reset (R110). -/
def segsNext (s : Block) (v : Wire → Bool) (es : List NetEdge) : Sp Bool :=
  ((spKeys s.cfg.fields).filter (fun i => keyKind i == some .segReg && designRuns s (keySector i))).foldl (fun m i =>
    let k := keySector i
    let c := keyPlace i
    let j := keyIdx i
    if clockEdgeOf s k (clusterNet s k c (cfgGet s k .segClk c j)) true true es then
      spSet (fun _ => false) m (segKey k c j) (wireOr v (segWire s k c (j / 28) (j % 28)))
    else m) s.fab.seg

/-- What the line at a tap's register brings it, before the register. -/
def tapInput (s : Block) (v : Wire → Bool) (k c j : Nat) : Bool :=
  let dir := j / 64
  let t := j % 64 / 16
  match moveOn ((dir + 2) % 4) (6 * (t + 1)) (clusterX k c) (clusterY k c) with
  | none => false
  | some (x, y) => lineSpan s (k / 80) x y dir (j % 16) t (v (.line (k / 80) x y dir (j % 16) t))

/-- The tap registers after the edges of one instant; those of transit lines run whatever the sector's state (R191, R241). -/
def tapsNext (s : Block) (v : Wire → Bool) (es : List NetEdge) : Sp Bool :=
  ((spKeys s.cfg.fields).filter (fun i => keyKind i == some .tapReg)).foldl (fun m i =>
    let k := keySector i
    let c := keyPlace i
    let j := keyIdx i
    let transit := decide (designLines (j / 64) ≤ j % 16)
    if (transit || designRuns s k) && clockEdgeOf s k (clusterNet s k c (cfgGet s k .tapClk c j)) true (!transit) es then
      spSet (fun _ => false) m (tapKey k c j) (tapInput s v k c j)
    else m) s.fab.tap

/-- The Seam groups that a plate sets or a route crosses. -/
def usedGroups (s : Block) : List (Nat × Nat) :=
  ((spKeys s.cfg.fields).filterMap (fun i =>
      if keyKind i == some .seamDir then (sectorSeam (keySector i)).map (fun x => (x.1, x.2.1 + keyPlace i)) else none) ++
    (links s).flatMap (fun l => l.2.hops.filterMap (fun h => (hopEdge h).map (fun x => (x.1, h.group))))).eraseDups

/-- One group's slots after a rising edge of its crossing clock: the value presented at edge k is at the output after edge k + 3 (R122). -/
def groupShift (s : Block) (v : Wire → Bool) (e g side : Nat) (m : Sp (BitVec 4)) : Sp (BitVec 4) :=
  (upto 64).foldl (fun m i =>
    let old := spGet (fun _ => (0 : BitVec 4)) m (seamSlotKey e g i)
    let now := wireOr v (slotSource s e g side i)
    spSet (fun _ => 0) m (seamSlotKey e g i) (old <<< 1 ||| BitVec.ofNat 4 now.toNat)) m

/-- The Seam slots after the edges of one instant. -/
def slotsNext (s : Block) (v : Wire → Bool) (es : List NetEdge) : Sp (BitVec 4) :=
  (usedGroups s).foldl (fun m p =>
    match seamSender s p.1 p.2 with
    | none => m
    | some side =>
      if clockEdgeOf s (seamSector p.1 p.2 side) (seamNet s p.1 p.2 side) true false es then groupShift s v p.1 p.2 side m else m) s.fab.slots

/-- The edges of one instant reach every storage element at once. -/
def fabricEdges (es : List NetEdge) (s : Block) : Block :=
  let v := s.wire
  { s with fab := { s.fab with ff := ffsNext s v es, seg := segsNext s v es, tap := tapsNext s v es, slots := slotsNext s v es } }

/-! ### INIT values (R96, R110, R191, R215) -/

/-- The storage elements of a sector's design as its plate's INIT bits give them. Transit registers are none of the design's. -/
def fabricInit (k : Nat) (s : Block) : Block :=
  let ones (kind : CfgKind) : List (Nat × Nat) :=
    ((cfgKeys s k kind).filter (fun i => spGet cfgCleared s.cfg.fields i % 2 == 1)).map (fun i => (keyPlace i, keyIdx i))
  let put (m : Sp Bool) (i : Nat) : Sp Bool := spSet (fun _ => false) m i true
  { s with fab := { s.fab with
    ff := (ones .ffInit).foldl (fun m p => put m (ffKey k p.1 p.2)) (spClear (fun i => i / 61440 == k) s.fab.ff),
    seg := (ones .segInit).foldl (fun m p => put m (segKey k p.1 p.2)) (spClear (fun i => i / 53760 == k) s.fab.seg),
    tap := (ones .tapInit).foldl (fun m p => if designLines (p.2 / 64) ≤ p.2 % 16 then m else put m (tapKey k p.1 p.2))
      (spClear (fun i => i / 122880 == k && i % 16 < designLines (i % 256 / 64)) s.fab.tap) } }

/-! ### Shadow latches (R97, R232, R233) -/

/-- Flip-flop f of a cluster takes part in a session: its sector is in the map and its half's clock is of a masked network, of which number
on the device. -/
def ffSession (s : Block) (k c f : Nat) : Option Nat :=
  match clusterNet s k c (cfgGet s k .halfClk c (ffHalf f)) with
  | none => none
  | some n =>
    let i := 32 * (k / 80) + n
    if s.shut.map.getLsbD k && s.shut.domain.getLsbD i then some i else none

/-- The shadow latches of the flip-flops that take part load what Q holds now, for the networks whose capture strobe this is: rising-edge
flip-flops on a capture edge, falling-edge ones on the falling edge after it (R97, R233). Sectors not LIVE at T take no part (R237). -/
def latchNets (nets : List Nat) (rising : Bool) (s : Block) : Block :=
  let v := s.wire
  let on := (clockedClusters s).filter (fun p => s.shut.map.getLsbD p.1 && !s.shut.notLive.getLsbD p.1)
  let take (m : Sp Bool) (p : Nat × Nat) (f : Nat) : Sp Bool :=
    match ffSession s p.1 p.2 f with
    | some i =>
      if nets.contains i && cfgBit s p.1 .halfFall p.2 (ffHalf f) != rising then
        spSet (fun _ => false) m (ffKey p.1 p.2 f) (ffQ s v p.1 p.2 f)
      else m
    | none => m
  let latch := on.foldl (fun m p => (upto 128).foldl (fun m f => take m p f) m) s.fab.latch
  { s with fab := { s.fab with latch := latch } }

end Sys2Proof.Machine
end

