-- ==== Sys2Proof/Machine/Shutter.lean ====
section
/-! DEFINITION. Shutter capture and contact sheets (08): sessions, the capture strobe, the records of a sheet. -/

namespace Sys2Proof.Machine

namespace St
def destTooSmall : Nat := 0x0200
def triggerPast : Nat := 0x0201
def noDomain : Nat := 0x0202
def domainNoEdge : Nat := 0x0203
def cancelled : Nat := 0x0204
def destError : Nat := 0x0205
def notHeld : Nat := 0x0206
end St

def setShut (x : ShutSt) (s : Block) : Block := { s with shut := x }

/-- The sectors of a session's map, in increasing number. -/
def shutSectors (x : ShutSt) : List Nat := bitsOf 320 x.map.toNat

/-- The length of a sheet of n sectors (R243). -/
def sheetLen (n : Nat) (ram : Bool) : Nat := 64 * (2 + 480 * n) + (if ram then 813568 * n else 0)

/-- Records of a sheet after its header: clusters, then memories (R243). -/
def shutClusters (x : ShutSt) : Nat := 480 * (shutSectors x).length
def shutTotal (x : ShutSt) : Nat := shutClusters x + (if x.ram then 164 * (shutSectors x).length else 0)

/-- A record of R244: the first 60 bytes and their CRC. -/
def sheetRecord (x : ShutSt) (typ flags : Nat) (rest : List (Nat × Nat × Nat)) : List Nat :=
  let v := rest.foldl (fun (v : Nat) (f : Nat × Nat × Nat) => fldSet v (8 * f.1) (8 * f.2.1) f.2.2)
    (fldSet (fldSet (typ + 256 * flags) 48 16 x.session.toNat) 64 64 ((x.time.getD 0).toNat))
  let bs := leBytes 60 v
  bs ++ leBytes 4 (crc32 bs)

/-- The session's response at the end of READING, CAPTURING or ARMED (R239): the status, T and the records written. -/
def shutAnswer (status : Nat) (s : Block) : Block :=
  match s.shut.cmd with
  | some c =>
    (s.mbx.opens.filter (fun o => o.cmd == c && o.op2 == 0x0200)).foldl (fun s o =>
      s.answer o status [(8, (s.shut.time.getD 0).toNat), (4, s.shut.clusters + s.shut.memories)]) s
  | none => s

/-- The session ends: HELD when a stop-shutter has reached T, else IDLE (R239, R241). -/
def shutEnd (s : Block) : Block :=
  if s.shut.stop && decide (2 ≤ s.shut.state) then setShut { s.shut with state := 4, cmd := none } s
  else setShut ShutSt.idle s

/-- The sectors of a region that is released: one released after T is never held (R241). -/
def shutterRelease (ks : List Nat) (s : Block) : Block :=
  setShut { s.shut with held := ks.foldl (fun (m : BitVec 320) k => m &&& ~~~BitVec.ofNat 320 (2 ^ k)) s.shut.held } s

/-- Check a descriptor (R238 to R240): a status, or the session it arms. -/
def shutParse (s : Block) (bs : List Nat) (c : Cmd) : Nat ⊕ ShutSt :=
  let flags := fieldAt bs 0 2
  let kind := fieldAt bs 2 1
  let line := fieldAt bs 3 1
  let time := fieldAt bs 8 8
  let domain := fieldAt bs 0x10 16
  let map := fieldAt bs 0x20 40
  let base := fieldAt bs 0x48 8
  let ram := fldGet flags 1 1 == 1
  let stop := fldGet flags 0 1 == 1
  let n := (bitsOf 320 map).length
  let inWin := match destOf s base with
    | .dram _ _ => true
    | .site 0 _ => true
    | _ => false
  if 4 ≤ flags || 2 < kind || 7 < line || !zeroFrom bs 6 8 || !zeroFrom bs 0x58 0x80 || base % 64 != 0 || !inWin then
    .inl St.badArg
  else if domain == 0 || map == 0 || (ram && !stop) then .inl St.noDomain
  else if fieldAt bs 0x50 8 < sheetLen n ram then .inl St.destTooSmall
  else if kind == 1 && time < s.devTime.toNat + 4096 then .inl St.triggerPast
  else .inr { ShutSt.idle with
      state := 1, cmd := some c, stop := stop, ram := ram, kind := kind, line := line,
      session := BitVec.ofNat 16 (fieldAt bs 4 2), domain := BitVec.ofNat 128 domain, map := BitVec.ofNat 320 map,
      base := base,
      time := if kind == 0 then some (s.devTime + 4096) else if kind == 1 then some (BitVec.ofNat 64 time) else none }

def needShutter (op : Nat) : Need := { op := op, ports := workPorts, stage := 3 }

/-- SHUTTER (R239): BUSY while a session is not IDLE; an unreadable descriptor is a bad argument. -/
def shutterCmd (addr : Nat) (c : Cmd) (s : Block) : Block :=
  if s.shut.state != 0 then s.respond c St.busy
  else
    let r := readMem srcGreone addr 128 s
    match r.1 with
    | none => r.2.respond c St.badArg
    | some bs =>
      match shutParse r.2 bs c with
      | .inl st => r.2.respond c st
      | .inr x => (setShut x r.2).hold c 0x0200 0

def execShutter (h : Hdr) (addr : Nat) (s : State) : Host.Outcome State Fault Refusal :=
  live (fun s => s.command h (needShutter 0x0200) (shutterCmd addr)) s

/-- SHUTTER_RESUME (R242): held networks restart at the next marker. -/
def shutterResumeCmd (c : Cmd) (s : Block) : Block :=
  if s.shut.state != 4 then s.respond c St.notHeld
  else if s.shut.resume.isSome then s.respond c St.busy
  else (setShut { s.shut with resume := some c } s).hold c 0x0201 0

def execShutterResume (h : Hdr) (s : State) : Host.Outcome State Fault Refusal :=
  live (fun s => s.command h (needShutter 0x0201) shutterResumeCmd) s

/-- SHUTTER_CANCEL (R239, R240): ends an ARMED or READING session; no trailer. -/
def shutterCancelCmd (c : Cmd) (s : Block) : Block :=
  if s.shut.state == 1 || s.shut.state == 3 then (shutEnd (shutAnswer St.cancelled s)).respond c St.ok
  else s.respond c St.refusedState

def execShutterCancel (h : Hdr) (s : State) : Host.Outcome State Fault Refusal :=
  live (fun s => s.command h (needShutter 0x0202) shutterCancelCmd) s

/-- SHUTTER_STATUS: state, SESSION and T. -/
def shutterStatusCmd (c : Cmd) (s : Block) : Block :=
  s.respond c St.ok [(1, s.shut.state), (2, s.shut.session.toNat), (8, (s.shut.time.getD 0).toNat)]

def execShutterStatus (h : Hdr) (s : State) : Host.Outcome State Fault Refusal :=
  live (fun s => s.command h (needShutter 0x0203) shutterStatusCmd) s

/-- SHUTTER_TRIGGER_LINE: line TRIG_l reads 1 at a fabric global clock edge; it sets T of a session armed on it to t + 16
(R234). -/
def shutterTriggerLineStep (l : Nat) (s : Block) : Block :=
  if s.shut.state == 1 && s.shut.kind == 2 && s.shut.line == l && s.shut.time.isNone then
    setShut { s.shut with time := some (s.devTime + 16) } s
  else s

def execShutterTriggerLine (line : Fin 8) (s : State) : Host.Outcome State Fault Refusal :=
  clocked (shutterTriggerLineStep line.val) s

/-- The sectors of a map that hold p, as a map. -/
def sectorMask (l : List Nat) (p : Nat → Bool) : BitVec 320 :=
  BitVec.ofNat 320 ((l.filter p).foldl (fun v k => v + 2 ^ k) 0)

/-- The capture has ended (R239): the header is written and READING begins. -/
def shutReading (s : Block) : Block :=
  let x := { s.shut with state := 3 }
  let flags := x.stop.toNat + 2 * x.ram.toNat
  let w := writeMem srcGreone x.base (sheetRecord x 0x01 flags [(2, 2, (shutSectors x).length), (16, 16, x.domain.toNat)]) s
  setShut { x with destError := !w.1 } w.2

/-- DEV_TIME reaches T (R239): the session is CAPTURING; the sectors that are not LIVE are marked and a stop-shutter holds the others
(R237, R241). -/
def shutStart (t : Nat) (s : Block) : Block :=
  let x := s.shut
  match x.time with
  | none => s
  | some t0 =>
    if x.state != 1 || t < t0.toNat then s
    else
      let dead := sectorMask (shutSectors x) (fun k => !sectorLive s k)
      setShut { x with state := 2, notLive := dead, held := if x.stop then x.map &&& ~~~dead else 0 } s

/-- The number on the device of the network of an edge. -/
def NetEdge.bit (x : NetEdge) : Nat := 32 * x.die + x.net

/-- A set of networks as a mask. -/
def netMask (l : List Nat) : BitVec 128 := BitVec.ofNat 128 (l.eraseDups.foldl (fun v i => v + 2 ^ i) 0)

/-- The capture strobes of the edges of one instant, which have acted already (R97, R232, R233): a masked network's first rising edge at or
after T, and the falling edge after it. -/
def shutStrobe (es : List NetEdge) (s : Block) : Block :=
  if s.shut.state != 2 then s
  else
    let x := s.shut
    let t := (x.time.getD 0).toNat
    let up := (es.filter (fun y => y.rising && x.domain.getLsbD y.bit && !x.captured.getLsbD y.bit && decide (t * y.den ≤ y.num))).map NetEdge.bit
    let down := (es.filter (fun y => !y.rising && x.captured.getLsbD y.bit && !x.fell.getLsbD y.bit)).map NetEdge.bit
    let s := latchNets down false (latchNets up true s)
    setShut { s.shut with captured := x.captured ||| netMask up, fell := x.fell ||| netMask down } s

/-- Every masked network has captured: READING begins (R239). -/
def shutDone (s : Block) : Block :=
  if s.shut.state == 2 && s.shut.captured == s.shut.domain && s.shut.fell == s.shut.domain then shutReading s else s

/-! ### Readout -/

/-- Records of a sealed region carry no state, unless the owner policy permits it (R247, R611). -/
def shutSealed (s : Block) (k : Nat) : Bool :=
  (getRegion s (s.f (Rg.sector k) Rg.secRegion)).sealed && !s.sec.policy.getLsbD 1

/-- The flip-flops of a cluster, FA_i of cell j at bit 8 j + i and FB_i at bit 8 j + 4 + i, for which p holds (R244). -/
def ffMap (p : Nat → Bool) : BitVec 128 := BitVec.ofNat 128 ((upto 128).foldl (fun v f => if p f then v + 2 ^ f else v) 0)

/-- What the shadow latches of a cluster hold; the flip-flops that take part; those of them whose strobe came (R232, R244). -/
def shadowOf (s : Block) (k c : Nat) : BitVec 128 := ffMap (fun f => spGet (fun _ => false) s.fab.latch (ffKey k c f))
def tookPart (s : Block) (k c : Nat) : BitVec 128 := ffMap (fun f => (ffSession s k c f).isSome)
def gotStrobe (s : Block) (k c : Nat) : BitVec 128 :=
  ffMap (fun f => match ffSession s k c f with
    | some i => if cfgBit s k .halfFall c (ffHalf f) then s.shut.fell.getLsbD i else s.shut.captured.getLsbD i
    | none => false)

/-- The next cluster record: index i of the clusters. -/
def clusterRecord (i : Nat) (s : Block) : Block :=
  let x := s.shut
  let k := (shutSectors x).getD (i / 480) 0
  let state := shadowOf s k (i % 480)
  let took := tookPart s k (i % 480)
  let dead := x.notLive.getLsbD k
  let hide := dead || shutSealed s k
  let cap := took &&& gotStrobe s k (i % 480)
  let unc := took &&& ~~~cap
  let flags := dead.toNat + 2 * (x.stale.getLsbD k).toNat + 4 * (shutSealed s k).toNat +
    8 * (!hide && unc != 0).toNat
  let line := sheetRecord x 0x02 flags
    [(2, 2, k), (4, 1, i % 480 % 24), (5, 1, i % 480 / 24), (16, 16, if hide then 0 else state.toNat),
     (32, 16, if hide then 0 else cap.toNat)]
  let w := writeMem (srcCfg (k / 80)) (x.base + 64 * (1 + i)) line s
  setShut { x with next := x.next + 1, clusters := x.clusters + 1, destError := x.destError || !w.1 } w.2

/-- The plate RAM record (R202) of memory slot j of sector k, and the clocks it needs: Tray RAM 0 to 59, Tank RAM 60 to
67, then OM_A and OM_B of engines 0 to 47. -/
def memSlot (s : Block) (k j : Nat) : List Nat × Nat × Nat × List Nat :=
  let pack (kind index form : Nat) (data : List Nat) : List Nat :=
    let b := [kind, index, form, 0] ++ leBytes 4 data.length ++ data
    b ++ leBytes 4 (crc32 b)
  if j < 68 then
    let r := getRam s k j
    let x := ramSet s k j
    let n := blockWords j
    let word (w : Nat) := (spGet (fun _ => (0 : BitVec 72)) r.words w).toNat
    let data := if x.ecc then (upto n).foldl (fun l w => l ++ leBytes 8 (word w % 2 ^ 64)) []
      else (upto n).foldl (fun l w => l ++ leBytes 9 (word w)) []
    let kind := if isTray j then 0 else 1
    let index := if isTray j then j else j - 60
    (pack kind index x.ecc.toNat data, kind, index, x.a.clk.toList ++ x.b.clk.toList)
  else
    let e := 48 * k + (j - 68) / 2
    let g := getEng s e
    let v := (upto 512).foldl (fun v w => v + (omWord g ((j - 68) % 2 == 1) w).toNat * 2 ^ (36 * w)) 0
    let kind := 2 + (j - 68) % 2
    (pack kind ((j - 68) / 2) 0 (leBytes 2304 v), kind, (j - 68) / 2, (engNet s e).toList ++ (upto 3).flatMap (fun n => (fifoNet s e n).toList))

/-- The place of slot j in a sector's memory area (R243). -/
def slotOffset (j : Nat) : Nat :=
  if j < 60 then 4736 * j else if j < 68 then 60 * 4736 + 36992 * (j - 60)
  else 60 * 4736 + 8 * 36992 + 2432 * (j - 68)

/-- The next memory record: index i of the memories. A memory with a clock that is not a masked network is skipped and
flagged; so is one of a sealed region that policy lets no Shutter record carry the state of (R242, R611; DEDUCED, the prefix has no SEALED
flag). -/
def memoryRecord (i : Nat) (s : Block) : Block :=
  let x := s.shut
  let n := (shutSectors x).length
  let k := (shutSectors x).getD (i / 164) 0
  let j := i % 164
  let m := memSlot s k j
  let masked (net : Nat) : Bool := decide (net < 32) && x.domain.getLsbD (32 * (k / 80) + net)
  let dead := x.notLive.getLsbD k
  let skip := dead || shutSealed s k || m.2.2.2.isEmpty || !m.2.2.2.all masked
  let pre := sheetRecord x 0x03 ((!dead && skip).toNat + 2 * dead.toNat)
    [(2, 2, k), (4, 1, m.2.1), (5, 1, m.2.2.1), (16, 4, if skip then 0 else m.1.length)]
  let body := if skip then [] else m.1
  let size := slotOffset (j + 1) - slotOffset j
  let bs := pre ++ body
  let w := writeMem (srcCfg (k / 80)) (x.base + 64 * (2 + 480 * n) + 813568 * (i / 164) + slotOffset j)
    (bs ++ List.replicate (size - bs.length) 0) s
  setShut { x with next := x.next + 1, memories := x.memories + 1, destError := x.destError || !w.1 } w.2

/-- CONTACT_RECORD_WRITE (R245): the next record, clusters first and then memories. -/
def contactRecordWriteStep (s : Block) : Block :=
  if s.shut.state != 3 || shutTotal s.shut ≤ s.shut.next then s
  else if s.shut.next < shutClusters s.shut then clusterRecord s.shut.next s
  else memoryRecord (s.shut.next - shutClusters s.shut) s

def execContactRecordWrite (s : State) : Host.Outcome State Fault Refusal := clocked contactRecordWriteStep s

/-- The trailer and its status (R246). -/
def shutTrailer (s : Block) : Block :=
  let x := s.shut
  let st := if x.destError then St.destError else if x.noEdge != 0 then St.domainNoEdge else St.ok
  let line := sheetRecord x 0x0F 0
    [(2, 2, st), (16, 16, x.noEdge.toNat), (32, 4, x.clusters), (36, 4, x.memories)]
  let w := writeMem srcGreone (x.base + 64 * (1 + shutClusters x)) line s
  shutEnd (shutAnswer (if w.1 then st else St.destError) w.2)

/-- SHUTTER_READOUT_DONE (R246): every record is written and fenced; firmware writes the trailer and answers. -/
def shutterReadoutDoneStep (s : Block) : Block :=
  if s.shut.state != 3 || s.shut.next < shutTotal s.shut then s else shutTrailer s

def execShutterReadoutDone (s : State) : Host.Outcome State Fault Refusal := clocked shutterReadoutDoneStep s

/-! ### Other events that meet a session (R242, R247) -/

/-- The engines of some sectors act on the levels that changed while their clocks were held (R176, R177). -/
def settleSectors (ks : List Nat) (s : Block) : Block :=
  forEach ks (fun k s => eachEngine k (fun e s => if engUp s e then setEng s e (engSettle (getEng s e)) else s) s) s

/-- The next alignment marker restarts held networks after SHUTTER_RESUME. -/
def shutterMarker (s : Block) : Block :=
  match s.shut.resume with
  | none => s
  | some _ => (settleSectors (bitsOf 320 s.shut.held.toNat) (setShut ShutSt.idle s)).close 0x0201 0 St.ok

/-- A sector is loaded, relocated or cleared: its records are STALE once T has passed and they are not yet read. -/
def shutterStale (k : Nat) (s : Block) : Block :=
  let s := if s.shut.state == 4 then setShut { s.shut with held := s.shut.held &&& ~~~BitVec.ofNat 320 (2 ^ k) } s else s
  if (s.shut.state == 2 || s.shut.state == 3) && s.shut.map.getLsbD k then
    setShut { s.shut with stale := s.shut.stale ||| BitVec.ofNat 320 (2 ^ k),
                          held := s.shut.held &&& ~~~BitVec.ofNat 320 (2 ^ k) } s
  else s

/-- The sectors of a die as a map. -/
def dieMap (d : Nat) : BitVec 320 := BitVec.ofNat 320 ((2 ^ 80 - 1) * 2 ^ (80 * d))

/-- A fabric die reset: a session with a sector of the die in its map ends with REFUSED_STATE; networks held on other dies
stay held. -/
def shutterDieReset (d : Nat) (s : Block) : Block :=
  let meets := s.shut.map &&& dieMap d != 0
  let s := setShut { s.shut with held := s.shut.held &&& ~~~dieMap d } s
  if meets && (s.shut.state == 1 || s.shut.state == 2 || s.shut.state == 3) then
    shutEnd (shutAnswer St.refusedState s)
  else s

/-- A Greone restart: a session that is ARMED, CAPTURING or READING ends with SHUTTER_ABORTED; a hold continues, and a
resume that waited is to be asked for again. -/
def shutterRestart (s : Block) : Block :=
  if s.shut.state == 1 || s.shut.state == 2 || s.shut.state == 3 then
    (shutEnd (setShut { s.shut with cmd := none } s)).raise Ev.shutterAborted (originOf 0x01) s.shut.session.toNat
  else setShut { s.shut with resume := none } s

end Sys2Proof.Machine
end

