-- ==== Sys2Proof/Machine/Tpp.lean ====
section
/-! DEFINITION. Test pattern processors (10): pins and sites, runs, their admission, start and end, and the TPP commands.
The opcodes are in Sys2Proof/Machine/Sequencer.lean, compare results and records in Sys2Proof/Machine/FailCapture.lean. -/

namespace Sys2Proof.Machine

namespace St
def streamBudget : Nat := 0x0300
def streamUnderrun : Nat := 0x0301
def streamPoison : Nat := 0x0302
def illegalVector : Nat := 0x0303
def stackFault : Nat := 0x0304
def tsetInvalid : Nat := 0x0305
def bankFault : Nat := 0x0306
def clockFault : Nat := 0x0307
def ringAbort : Nat := 0x0308
def hostAbort : Nat := 0x0309
def fabricAbort : Nat := 0x030A
def ringLate : Nat := 0x030B
def cacheError : Nat := 0x030C
def streamEmpty : Nat := 0x030D
def sourceFail : Nat := 0x030E
end St

def getTpp (s : Block) (n : Nat) : Tpp := spGet (fun _ => Tpp.reset) s.tpps n

def setTpp (n : Nat) (t : Tpp) (s : Block) : Block := { s with tpps := spSet (fun _ => Tpp.reset) s.tpps n t }

/-- Change what no register of TPP n holds. -/
def modTpp (n : Nat) (f : Tpp → Tpp) (s : Block) : Block := setTpp n (f (getTpp s n)) s

/-- TPP_STATUS.STATE (R296): 0 OFF, 1 CALIBRATING, 2 IDLE, 3 ARMED, 4 RUNNING. -/
def tppState (s : Block) (n : Nat) : Nat := s.f (Rg.tpp n) Rg.tState

/-- The port ID of TPP n (R448). -/
def tppPort (n : Nat) : Nat := n / 6 * 0x100 + 0x60 + n % 6

/-! ### Pins (R271, R288, R249) -/

/-- The IO_PIN register of pin k of TPP n. -/
def tppPin (n k : Nat) : Nat := Rg.ioPin (n / 6) (48 * (n % 6) + k)

/-- Pin k of TPP n is assigned to it (R193). -/
def pinAssigned (s : Block) (n k : Nat) : Bool := s.f (tppPin n k) Rg.pinOwner == 2

/-- The second pin of a pair on a differential standard follows the first (R249). -/
def pinFollows (s : Block) (n k : Nat) : Bool :=
  k % 2 == 1 && (s.f (tppPin n (k - 1)) Rg.pinStandard == 0x8 || s.f (tppPin n (k - 1)) Rg.pinStandard == 0x9)

/-- MUX of the group of pin k: 1, 2 or 4 sub-slots (R288). -/
def pinMuxOf (s : Block) (n k : Nat) : Nat :=
  let m := s.f (Rg.tpp n) (Rg.pinMux (k / 4 * 4))
  if m == 1 then 2 else if m == 2 then 4 else 1

/-- Pin k takes PECs: assigned, left active by the MUX mode, not the second pin of a differential pair. -/
def pinActive (s : Block) (n k : Nat) : Bool :=
  pinAssigned s n k && k % pinMuxOf s n k == 0 && !pinFollows s n k

/-- The PEC slots of an active pin, in sub-slot order. -/
def pinSlots (s : Block) (n k : Nat) : List Nat := (upto (pinMuxOf s n k)).map (fun i => k + i)

/-- The active pins of TPP n. -/
def tppPins (s : Block) (n : Nat) : List Nat := (upto 48).filter (pinActive s n)

/-- The site of pin k: 0 to 7, anything above is none (R294). -/
def siteOf (s : Block) (n k : Nat) : Nat := s.f (Rg.tpp n) (Rg.pinSite k)

/-- The start of sub-slot i in 2 ps units (R288). -/
def subStart (period mux i : Nat) : Nat := i * period / mux

/-- Where an edge of pin k, `off` after the start of sub-slot i, is placed from the start of the period, in 2 ps (R288, R291): nominal, deskewed, and
moved by the calibration's offset. DESIGN CHOICE: the uncalibrated offset of a pin with PIN_CAL_FAIL (R293) is none. -/
def edgePlaced (s : Block) (n k i period off deskew cal : Nat) : Int :=
  (subStart period (pinMuxOf s n k) i + off : Nat) + sgn 12 deskew + (if s.flag (Rg.tpp n) (Rg.calPinFail k) then 0 else sgn 12 cal)

/-- The edges D, R and S of every slot of the active pins, in a timing set. -/
def edgesOf (s : Block) (n tset : Nat) : List (Nat × Int × Int × Int) :=
  let b := Rg.tpp n
  let p := s.f b (Rg.tsPeriod tset)
  (tppPins s n).flatMap (fun k => (upto (pinMuxOf s n k)).map (fun i =>
    let at' (off deskew cal : Nat) := edgePlaced s n k i p off deskew cal
    (k + i, at' (s.f b (Rg.tsD tset k)) (s.f b (Rg.pinDeskewD k)) (s.f b (Rg.calDrive k)),
      at' (s.f b (Rg.tsR tset k)) (s.f b (Rg.pinDeskewD k)) (s.f b (Rg.calDrive k)),
      at' (s.f b (Rg.tsS tset k)) (s.f b (Rg.pinDeskewS k)) (s.f b (Rg.calStrobe k)))))

/-- The termination setting at pin k (R274), an index into the choices of R264: by the class its last PEC named, or the plate's before that. -/
def termNow (s : Block) (n k : Nat) : Nat :=
  let b := Rg.tpp n
  match spGet (fun _ => 0) (getTpp s n).term k with
  | 0 => s.f (tppPin n k) Rg.pinTerm
  | 1 => 0
  | 2 => s.f b (Rg.pinTermOff k)
  | 3 => s.f b (Rg.pinTermCmp k)
  | _ => s.f b (Rg.pinTermMask k)

/-! ### Ends of a run -/

/-- A LIVE plate assigns pins to the TPP (R296). -/
def tppHas (s : Block) (n : Nat) : Bool :=
  (upto 48).any (fun k => pinAssigned s n k && regionLive s (spGet (fun _ => 0) s.cfg.pinOwner (ioKey (n / 6) (48 * (n % 6) + k))))

/-- The END_CODE register and source of run end, then IDLE, or OFF where no LIVE plate assigns pins any longer (R296, R306, R345). -/
def runFinish (n code : Nat) (s : Block) : Block :=
  let b := Rg.tpp n
  let s := ((s.put b Rg.tEndCode code).put b Rg.tState (if tppHas s n then 2 else 0)).putB b Rg.tReady false
  let s := modTpp n (fun t => { t with
    startAt := none, startHeld := false, stop := none, ended := none, trigs := [], siteQ := [], loops := [], calls := [],
    waited := 0, streaming := none, charge := 0, charges := [], segs := [], sAsked := [], sLines := [], batches := [] }) s
  s.eicEdge (eicDie (n / 6) (n % 6))

/-- A driven pin goes to its safe state: KEEP holds the level it was driven to (R259, R297); the second pin of a differential pair has the
complement of the first. -/
def pinLetGo (n k : Nat) (t : Tpp) (s : Block) : Block :=
  let i := 48 * (n % 6) + k
  let second := pinFollows s n k
  let j := if second then k - 1 else k
  let s := pinToSafe (n / 6) i s
  when (t.drv.getLsbD j && safeInForce s (n / 6) i == 5)
    (fun s => { s with io := { s.io with keep := spSet (fun _ => false) s.io.keep (ioKey (n / 6) i) (t.lvl.getLsbD j != second) } }) s

/-- Pins go to their safe state at the end of the last period (R297). -/
def pinsSafe (n : Nat) (s : Block) : Block :=
  let t := getTpp s n
  let s := modTpp n (fun t => { t with drv := 0, owned := 0, term := [] }) s
  forEach (upto 48) (fun k s => when (pinAssigned s n k) (pinLetGo n k t) s) s

/-- The run ends now with a code (R305, R306): an ARMED run at once, its TPP_RUN response carrying the code; a RUNNING run
after its capture drain. -/
def runEnd (n code : Nat) (s : Block) : Block :=
  if tppState s n == 3 then
    let s := s.put (Rg.tpp n) Rg.tPc (getTpp s n).word
    runFinish n code (s.close 0x0301 n code)
  else if tppState s n == 4 && (getTpp s n).ended.isNone then
    pinsSafe n (modTpp n (fun t => { t with
      ended := some (code, t.time), streaming := none, waited := 0, stop := none }) s)
  else s

/-- The run ends at the first period boundary at or after an instant in ps; an ARMED run at once (R303, R305). -/
def runStopAt (n code at' : Nat) (s : Block) : Block :=
  if tppState s n == 3 then runEnd n code s
  else if tppState s n == 4 && (getTpp s n).ended.isNone then
    let t := getTpp s n
    let sooner := match t.stop with
      | some x => decide (at' < x.1)
      | none => true
    if sooner then setTpp n { t with stop := some (at', code) } s else s
  else s

/-- Now in ps. -/
def nowPs (s : Block) : Nat := s.devTime.toNat * 1000

/-! ### Site enables (R294, R295) -/

/-- The sites enabled by TPP_SITE, SITE_OFF and LIMIT_DISABLE at an instant in ps. -/
def sitesAt (t : Tpp) (at' : Nat) : BitVec 8 :=
  let lim := (upto 8).foldl (fun v x => match (spGet (fun _ => SiteRun.fresh) t.sites x).limitAt with
    | some a => if a ≤ at' then v + 2 ^ x else v
    | none => v) 0
  t.siteEn &&& ~~~t.siteOff &&& ~~~BitVec.ofNat 8 lim

/-- Site changes on their way that act at or before a period boundary, oldest first. -/
def applySites (t : Tpp) : Tpp :=
  let now := t.siteQ.filter (fun x => decide (x.1 ≤ t.time))
  let t := { t with siteQ := t.siteQ.filter (fun x => decide (t.time < x.1)) }
  now.foldl (fun t x => if x.2.1 then { t with siteOff := x.2.2 } else { t with siteEn := x.2.2 }) t

/-! ### Admission (R287, R288, R300, R309, R311, R393) -/

/-- A VALID timing set meets R287 for every pin it applies to. -/
def tsetOk (s : Block) (n t : Nat) : Bool :=
  let b := Rg.tpp n
  let p := s.f b (Rg.tsPeriod t)
  decide (625 ≤ p) && (tppPins s n).all (fun k =>
    let l := p / pinMuxOf s n k
    let d := s.f b (Rg.tsD t k)
    let r := s.f b (Rg.tsR t k)
    let e := s.f b (Rg.tsS t k)
    decide (d + 75 ≤ l) && decide (r + 75 ≤ l) && decide (e + 75 ≤ l) && decide (d + 75 ≤ r))

/-- The VALID timing sets. -/
def tsets (s : Block) (n : Nat) : List Nat := (upto 64).filter (fun t => s.flag (Rg.tpp n) (Rg.tsValid t))

/-- The reservation of a run in MB/s (R300): as given, or 24 bytes in the shortest VALID period. -/
def reservation (s : Block) (n given : Nat) : Rat :=
  if given != 0 then (given : Rat)
  else
    match (tsets s n).map (fun t => s.f (Rg.tpp n) (Rg.tsPeriod t)) with
    | [] => 0
    | p :: ps => 12000000 / ((ps.foldl Nat.min p : Nat) : Rat)

/-- The sustained stream rate G of a channel in MB/s (R392); 0 while it is not ONLINE (R393). -/
def streamG (s : Block) (ch : Nat) : Rat :=
  if dcState s ch == 2 then
    let div := [10, 12, 16, 20].getD (s.f (Rg.dc ch) Rg.dcRate) 20
    let l := if s.flag (Rg.dc ch) Rg.dcRefMode || s.flag (Rg.dc ch) Rg.dcDdr4 then 20 else 3
    ((64000 * 8 * (128 - l) * 7 : Nat) : Rat) / ((div * 8 * 128 : Nat) : Rat)
  else 0

def sumRat (l : List Rat) : Rat := l.foldl (· + ·) 0

/-- Bytes of a segment that lie in channel ch, counted by granules. -/
def bytesIn (s : Block) (seg : Nat × Nat) (ch : Nat) : Nat :=
  let g := if s.dmap.mode == 2 then 0x4000000000 else granBytes s.dmap.gran
  let lo := seg.1
  let hi := seg.1 + 24 * seg.2
  (upto ((hi - lo / g * g + g - 1) / g)).foldl (fun v i =>
    let a := lo / g * g + i * g
    if (dramSplit s.dmap a).1 == ch then v + (Nat.min hi (a + g) - Nat.max lo a) else v) 0

/-- A segment lies in the DRAM window (the other choice is the H0 window). -/
def inDram (seg : Nat × Nat) : Bool := decide (seg.1 < 0x20000000000)

/-- A run's charges of R309: in all, and by set (mode 1) or channel (mode 2). -/
def charges (s : Block) (res : Rat) (segs : List (Nat × Nat)) : Rat × List Rat :=
  let total := segs.foldl (fun v x => v + 24 * x.2) 0
  let dram := segs.filter inDram
  let part (b : Nat) : Rat := if total == 0 then 0 else res * ((b : Nat) : Rat) / ((total : Nat) : Rat)
  let all := part (dram.foldl (fun v x => v + 24 * x.2) 0)
  let ch (c : Nat) : Nat := dram.foldl (fun v x => v + bytesIn s x c) 0
  if s.dmap.mode == 1 then
    (all, [part (ch 0 + ch 1 + ch 2 + ch 3), part (ch 4 + ch 5 + ch 6 + ch 7)])
  else if s.dmap.mode == 2 then
    (all, (upto 8).map (fun c => ((part (ch c)).ceil : Rat)))
  else (all, [])

/-- The smaller of two rationals. -/
def minRat (a b : Rat) : Rat := if a < b then a else b

/-- Admission of a run's charges beside those of the runs ARMED and RUNNING (R309, R393). -/
def admitted (s : Block) (c : Rat × List Rat) : Bool :=
  let lim : Rat := ((setting s 0x000F * 1000 : Nat) : Rat)
  let runs := (upto 24).filter (fun n => tppState s n == 3 || tppState s n == 4)
  let used := sumRat (runs.map (fun n => (getTpp s n).charge))
  let usedAt (i : Nat) := sumRat (runs.map (fun n => ((getTpp s n).charges).getD i 0))
  let g := (upto 8).map (streamG s)
  c.1 == 0 ||
  (decide (used + c.1 ≤ minRat lim (sumRat g)) &&
    (if s.dmap.mode == 1 then
      [0, 1].all (fun i => c.2.getD i 0 == 0 ||
        decide (usedAt i + c.2.getD i 0 ≤ minRat (lim / 2) (sumRat ((g.drop (4 * i)).take 4))))
    else if s.dmap.mode == 2 then
      (upto 8).all (fun i => c.2.getD i 0 == 0 ||
        decide (usedAt i + c.2.getD i 0 ≤ minRat (lim / 8) (g.getD i 0)))
    else true))

/-- The sites that some pin of the TPP belongs to and whose records are enabled. -/
def recordSites (s : Block) (n : Nat) : List Nat :=
  (upto 8).filter (fun x => s.flag (Rg.tpp n) Rg.fRecEn && s.flag (Rg.tpp n) (Rg.fSiteRecEn x))

/-- A queue that takes fail records, or no queue (R332). -/
def recordQueueOk (s : Block) (q : Nat) : Bool :=
  !qeOn s ||
  match ctxOf s q with
  | some c => !c.valid || (!c.sub && !c.es64)
  | none => true

/-- Words of the vector cache that the stream buffer takes (R307). -/
def bufWords (buf : Nat) : Nat := if buf == 0 then 0 else 32 * (128 * 2 ^ (buf - 1))

/-! ### Run start -/

/-- The run becomes READY (R300, R677): its response is written, and its start instant is set where its source does not
wait. -/
def runReady (n : Nat) (s : Block) : Block :=
  let s := s.putB (Rg.tpp n) Rg.tReady true
  let s := s.close 0x0301 n St.ok
  let t := getTpp s n
  let off := if t.offset < 0 then 0 else 2 * t.offset
  if t.startSrc == 0 then
    setTpp n { t with startAt := some (((nowPs s / 625 + 1) * 625 : Nat) + off) } s
  else if t.startSrc == 2 && t.startHeld then
    setTpp n { t with startHeld := false, startAt := some (((nowPs s + 8000 + 624) / 625 * 625 : Nat) + off) } s
  else s

/-- Every row and column counter and its flag clear (R343). -/
def clearCounters (n : Nat) (s : Block) : Block := s.resetRange (Rg.tpp n + 0x40000) (Rg.tpp n + 0x80000)

/-- Sticky results of a run clear at its arming (R294, FAIL_STAT_s, SITE_FAIL). -/
def clearResults (n : Nat) (s : Block) : Block :=
  let b := Rg.tpp n
  let s := forEach (upto 8) (fun x s => s.setReg (b + Rg.fStat x) 0) s
  (s.put b Rg.tSiteFail 0).setReg (b + Rg.tVecnum.off) 0

def needTpp (op : Nat) : Need := { op := op, ports := workPorts, stage := 3 }

/-- TPP_LOAD (R298, R307, R676): on failure the words of the load are open values. -/
def tppLoadCmd (n addr first count : Nat) (c : Cmd) (s : Block) : Block :=
  if 24 ≤ n || 32768 < first + count || addr % 32 != 0 then s.respond c St.badArg
  else if tppState s n != 2 then s.respond c St.refusedState
  else
    let st := (spanLines addr (32 * count)).foldl (fun v a => Nat.max v (accessStatus s a)) 0
    let r := readMem (srcTpp n) addr (32 * count) s
    match r.1 with
    | some bs =>
      (modTpp n (fun t => (upto count).foldl (fun t i =>
        { t with cache := spSet (fun _ => 0) t.cache (first + i) (BitVec.ofNat 256 (fieldAt bs (32 * i) 32)) }) t)
        r.2).respond c St.ok
    | none =>
      let s := (upto count).foldl (fun s i =>
        let d := s.draw
        modTpp n (fun t => { t with cache := spSet (fun _ => 0) t.cache (first + i) (BitVec.ofNat 256 d.1) }) d.2) r.2
      s.respond c St.sourceFail [(1, st)]

def execTppLoad (h : Hdr) (tpp : Nat) (addr : Nat) (first : Nat) (count : Nat) (s : State) :
    Host.Outcome State Fault Refusal :=
  live (fun s => s.command h (needTpp 0x0300) (onDie (tpp / 6) (tppLoadCmd tpp addr first count))) s

/-- The checks of TPP_RUN on its descriptor: a status and its results, or nothing. -/
def tppRunCheck (s : Block) (n : Nat) (bs : List Nat) : Option (Nat × List (Nat × Nat)) :=
  let src := fieldAt bs 0 1
  let buf := fieldAt bs 1 1
  let word := fieldAt bs 4 2
  let segN := fieldAt bs 7 1
  let segs := (upto segN).map (fun i => (fieldAt bs (0x40 + 16 * i) 8, fieldAt bs (0x48 + 16 * i) 8))
  let segBad := segs.any (fun x => x.1 % 64 != 0 ||
    !(decide (x.1 + 24 * x.2 ≤ 0x20000000000) ||
      (decide (0x600000000000 ≤ x.1) && decide (x.1 + 24 * x.2 ≤ 0x610000000000))))
  if 2 < src || 3 < buf || 32767 < word || 16 < segN || (segN != 0 && buf == 0) || !zeroFrom bs 0x10 0x40 || segBad then
    some (St.badArg, [])
  else
    match (upto 12).find? (fun j => s.f (Rg.tpp n) (Rg.pinMux (4 * j)) == 3) with
    | some j => some (St.badArg, [(1, 4 * j)])
    | none =>
      if (recordSites s n).any (fun x => !recordQueueOk s (s.f (Rg.tpp n) (Rg.fSiteQueue x))) then some (St.badArg, [])
      else
        match (tsets s n).find? (fun t => !tsetOk s n t) with
        | some t => some (St.tsetInvalid, [(1, t)])
        | none =>
          if segN != 0 && !admitted s (charges s (reservation s n (fieldAt bs 8 4)) segs) then
            some (St.streamBudget, [])
          else none

/-- The stream buffer overwrites the top w words of the vector cache (R307): a later program that uses them unloaded reads
free values there. -/
def loseWords (n w : Nat) (s : Block) : Block :=
  let top := ((upto w).map (fun i => (32768 - w + i, BitVec.ofNat 256 (Config.free (s.free + i))))).filter (fun x => x.2 != 0)
  modTpp n (fun t => { t with cache := spClear (fun k => decide (32768 - w ≤ k)) t.cache ++ top })
    { s with free := s.free + w }

/-- Arm a run from a descriptor that has passed its checks (R300, R307, R314). -/
def tppArm (n : Nat) (bs : List Nat) (s : Block) : Block :=
  let b := Rg.tpp n
  let buf := fieldAt bs 1 1
  let segN := fieldAt bs 7 1
  let segs := (upto segN).map (fun i => (fieldAt bs (0x40 + 16 * i) 8, fieldAt bs (0x48 + 16 * i) 8))
  let ch := if segN == 0 then (0, []) else charges s (reservation s n (fieldAt bs 8 4)) segs
  let s := clearResults n s
  let s := when (s.flag b Rg.fCntAutoClear) (clearCounters n) s
  let t := getTpp s n
  let t := { t with
    startSrc := fieldAt bs 0 1, buf := buf, group := fieldAt bs 2 2, word := fieldAt bs 4 2, segs := segs,
    offset := sgn 32 (fieldAt bs 0x0C 4), charge := ch.1, charges := ch.2, startHeld := false, startAt := none,
    loops := [], calls := [], waited := 0, streaming := none, stop := none, ended := none, trigs := [],
    siteEn := BitVec.ofNat 8 (fieldAt bs 6 1), siteOff := t.siteLine, siteQ := [], sNext := 0, sAsked := [],
    sLines := [], sSeg := 0, sVec := 0, batches := [], sites := [], fifo := [], bmLines := [], bmOut := [],
    saidLost := false, saidBm := false, saidCnt := false }
  (loseWords n (bufWords buf) (setTpp n t s)).put b Rg.tState 3 |>.put b Rg.tPc t.word

/-- TPP_RUN (R300): the response is written when the run is READY. -/
def tppRunCmd (n addr : Nat) (c : Cmd) (s : Block) : Block :=
  if 24 ≤ n then s.respond c St.badArg
  else if tppState s n != 2 then s.respond c St.refusedState
  else
    let st := (spanLines addr 320).foldl (fun v a => Nat.max v (accessStatus s a)) 0
    let r := readMem (srcTpp n) addr 320 s
    match r.1 with
    | none => r.2.respond c St.sourceFail [(1, st)]
    | some bs =>
      match tppRunCheck r.2 n bs with
      | some x => r.2.respond c x.1 x.2
      | none =>
        let s := (tppArm n bs r.2).hold c 0x0301 n
        if fieldAt bs 1 1 == 0 then runReady n s else s

def execTppRun (h : Hdr) (tpp : Nat) (addr : Nat) (s : State) : Host.Outcome State Fault Refusal :=
  live (fun s => s.command h (needTpp 0x0301) (onDie (tpp / 6) (tppRunCmd tpp addr))) s

/-- TPP_ABORT (R676): acts on each ARMED or RUNNING TPP of the mask, at the first period boundary after it. -/
def tppAbortCmd (mask : Nat) (c : Cmd) (s : Block) : Block :=
  if 2 ^ 24 ≤ mask then s.respond c St.badArg
  else
    let l := (bitsOf 24 mask).filter (fun n => tppState s n == 3 || tppState s n == 4)
    let s := forEach l (fun n s => runStopAt n St.hostAbort (nowPs s + 1) s) s
    s.respond c St.ok [(4, l.foldl (fun v n => v + 2 ^ n) 0)]

def execTppAbort (h : Hdr) (mask : Nat) (s : State) : Host.Outcome State Fault Refusal :=
  live (fun s => s.command h (needTpp 0x0302) (tppAbortCmd mask)) s

/-- TPP_STATUS: TPP_STATUS and TPP_VECNUM. -/
def tppStatusCmd (n : Nat) (c : Cmd) (s : Block) : Block :=
  if 24 ≤ n then s.respond c St.badArg
  else s.respond c St.ok [(8, (s.reg (Rg.tpp n)).toNat), (8, (s.reg (Rg.tpp n + 8)).toNat)]

def execTppStatus (h : Hdr) (tpp : Nat) (s : State) : Host.Outcome State Fault Refusal :=
  live (fun s => s.command h (needTpp 0x0303) (onDie (tpp / 6) (tppStatusCmd tpp))) s

/-- A TPP starts its pin calibration (R292, R296). -/
def tppCalBegin (n : Nat) (s : Block) : Block := (s.put (Rg.tpp n) Rg.tState 1).putB (Rg.tpp n) Rg.tCalDone false

/-- TPP_CALIBRATE (R676): refused whole unless every named TPP is IDLE. -/
def tppCalibrateCmd (mask : Nat) (c : Cmd) (s : Block) : Block :=
  if mask == 0 || 2 ^ 24 ≤ mask then s.respond c St.badArg
  else if (bitsOf 24 mask).all (fun n => tppState s n == 2) then
    (forEach (bitsOf 24 mask) tppCalBegin s).hold c 0x0304 mask
  else s.respond c St.refusedState

def execTppCalibrate (h : Hdr) (mask : Nat) (s : State) : Host.Outcome State Fault Refusal :=
  live (fun s => s.command h (needTpp 0x0304) (tppCalibrateCmd mask)) s

/-- TPP_SITE (R294): the change acts at the first period boundary strictly after it. -/
def tppSiteCmd (n enables : Nat) (c : Cmd) (s : Block) : Block :=
  if 24 ≤ n || 256 ≤ enables then s.respond c St.badArg
  else if tppState s n == 3 || tppState s n == 4 then
    (modTpp n (fun t => { t with siteQ := t.siteQ ++ [(nowPs s + 1, false, BitVec.ofNat 8 enables)] }) s).respond c St.ok
  else s.respond c St.refusedState

def execTppSite (h : Hdr) (tpp : Nat) (enables : Nat) (s : State) : Host.Outcome State Fault Refusal :=
  live (fun s => s.command h (needTpp 0x0305) (onDie (tpp / 6) (tppSiteCmd tpp enables))) s

/-- STAGE_DONE (R39): the boot plate is released and no TPP calibrates. -/
def stageDoneCheck (s : Block) : Block :=
  when (stageOf s == 3 && s.start.bootReleased && !((upto 24).any (fun n => tppState s n == 1)))
    (fun s => s.putB Rg.rst Rg.stageDone true) s

/-- A TPP's calibration is complete (R292): the phase and the linearity that it measured, which are open values, the offsets measured per pin, CAL_DONE, IDLE; a TPP_CALIBRATE whose TPPs have all finished is
answered (R676). -/
def tppCalibrated (n : Nat) (cals : List (BitVec 12 × BitVec 12 × Bool)) (temp : BitVec 8) (s : Block) : Block :=
  let b := Rg.tpp n
  let s := forEach (upto 48) (fun k s =>
    if pinAssigned s n k then
      let x := cals.getD k (0, 0, false)
      (((s.put b (Rg.calDrive k) x.1.toNat).put b (Rg.calStrobe k) x.2.1.toNat).putB b (Rg.calPinFail k) x.2.2).put b
        (Rg.calTemp k) temp.toNat
    else s) s
  let x := s.draw
  let s := modTpp n (fun t => { t with basePhase := x.1, linearity := Config.free (x.1 + 1), calLevel := bankLevel s (n / 6) (n % 6) }) x.2
  let s := (s.put b Rg.tState 2).putB b Rg.tCalDone true
  let due := s.mbx.opens.filter (fun o => o.op2 == 0x0304 && o.obj.testBit n &&
    (bitsOf 24 o.obj).all (fun m => tppState s m != 1))
  stageDoneCheck (due.foldl (fun s o => s.answer o St.ok) s)

/-- TPP_CAL_DONE: of a TPP in CALIBRATING. -/
def tppCalDoneStep (n : Nat) (cals : List (BitVec 12 × BitVec 12 × Bool)) (temp : BitVec 8) (s : Block) : Block :=
  if tppState s n == 1 then tppCalibrated n cals temp s else s

def execTppCalDone (tpp : Fin 24) (cals : List (BitVec 12 × BitVec 12 × Bool)) (temp : BitVec 8) (s : State) :
    Host.Outcome State Fault Refusal := clockedOn (tpp.val / 6) (tppCalDoneStep tpp.val cals temp) s

/-- The die temperature or VCCO leaves the range of R290: CAL_STALE and its event once (R293). -/
def tppCalStale (n : Nat) (s : Block) : Block :=
  if s.flag (Rg.tpp n) Rg.tCalDone && !s.flag (Rg.tpp n) Rg.tCalStale then
    (s.putB (Rg.tpp n) Rg.tCalStale true).raise Ev.tppCalStale (tppPort n) n
  else s

/-! ### Start, triggers and the fabric port -/

/-- APG_STATE shows the APG's current values. -/
def apgPublish (n : Nat) (s : Block) : Block :=
  let a := (getTpp s n).apg
  let b := Rg.tpp n
  (((((s.put b Rg.apgX a.x.toNat).put b Rg.apgY a.y.toNat).put b Rg.apgB a.b.toNat).putB b Rg.apgDinv a.dinv).putB b
    Rg.apgWrap a.wrap).put b Rg.apgBgNow a.bg.toNat

/-- A run starts at an instant in ps: RUNNING, its APG in its initial state (R314), L at 0 (R273). -/
def tppBegin (n : Nat) (at' : Int) (s : Block) : Block :=
  let t := getTpp s n
  let ps := at'.toNat
  let t := { t with startAt := none, time := ps, t0 := ps, lvl := 0, drv := 0, owned := 0, term := [],
                    trigs := t.trigs.filter (fun x => decide (at' ≤ x.2.2)), apg := apgInitial s (Rg.tpp n) }
  (apgPublish n (setTpp n (applySites t) s)).put (Rg.tpp n) Rg.tState 4

/-- TPP_START_INSTANT (R677): a run not READY at its ring start ends with STREAM_UNDERRUN; else it enters RUNNING. -/
def tppStartInstantStep (n : Nat) (s : Block) : Block :=
  match (getTpp s n).startAt with
  | none => s
  | some at' =>
    if tppState s n != 3 then s
    else
      let s := reachTime (BitVec.ofNat 64 (at'.toNat / 1000)) s
      if s.flag (Rg.tpp n) Rg.tReady then tppBegin n at' s else runEnd n St.streamUnderrun s

def execTppStartInstant (tpp : Fin 24) (s : State) : Host.Outcome State Fault Refusal :=
  clockedOn (tpp.val / 6) (tppStartInstantStep tpp.val) s

/-- The two Type B sectors that a TPP's fabric port reaches (R100). -/
def tppSectors (n : Nat) : List Nat :=
  let b := n % 6
  let base := 80 * (n / 6) + (if b < 3 then 0 else 72) + 2 * (b % 3)
  [base, base + 1]

/-- The region that drives a TPP's fabric port is LIVE (R304). -/
def tppPortLive (s : Block) (n : Nat) : Bool := (tppSectors n).any (sectorLive s)

/-- START_F_EDGE (R677): sets the start instant of a READY run with START_SRC 2; one that comes before READY is held. -/
def startFEdgeStep (n : Nat) (s : Block) : Block :=
  let t := getTpp s n
  if !tppPortLive s n || tppState s n != 3 || t.startSrc != 2 || t.startAt.isSome then s
  else if s.flag (Rg.tpp n) Rg.tReady then
    let off := if t.offset < 0 then 0 else 2 * t.offset
    setTpp n { t with startAt := some (((nowPs s + 8000 + 624) / 625 * 625 : Nat) + off) } s
  else setTpp n { t with startHeld := true } s

def execStartFEdge (tpp : Fin 24) (s : State) : Host.Outcome State Fault Refusal := clockedOn (tpp.val / 6) (startFEdgeStep tpp.val) s

/-- ABORT_F_EDGE (R303): the run ends at the first period boundary at least 8 ns later. -/
def abortFEdgeStep (n : Nat) (s : Block) : Block :=
  if tppPortLive s n then runStopAt n St.fabricAbort (nowPs s + 8000) s else s

def execAbortFEdge (tpp : Fin 24) (s : State) : Host.Outcome State Fault Refusal := clockedOn (tpp.val / 6) (abortFEdgeStep tpp.val) s

/-- A trigger event at an instant in ps: latched for an ARMED or RUNNING run, ignored before its start (R284). -/
def tppTrigger (n : Nat) (fabric : Bool) (i : Nat) (at' : Int) (s : Block) : Block :=
  let t := getTpp s n
  if (tppState s n == 3 || (tppState s n == 4 && decide ((t.t0 : Int) ≤ at'))) && t.ended.isNone then
    setTpp n { t with trigs := t.trigs ++ [(fabric, i, at')] } s
  else s

/-- TRIG_F_EDGE (R303): it acts at the first period boundary at least 8 ns later. -/
def trigFEdgeStep (n i : Nat) (s : Block) : Block :=
  if tppPortLive s n then tppTrigger n true i (nowPs s + 8000 : Nat) s else s

def execTrigFEdge (tpp : Fin 24) (trig : Fin 16) (s : State) : Host.Outcome State Fault Refusal :=
  clockedOn (tpp.val / 6) (trigFEdgeStep tpp.val trig.val) s

/-- SITE_OFF_CHANGE (R303, R304): a change of the level at a port whose region is LIVE. -/
def siteOffChangeStep (n : Nat) (off : BitVec 8) (s : Block) : Block :=
  if !tppPortLive s n then s
  else
    let t := { getTpp s n with siteLine := off }
    if tppState s n == 3 || tppState s n == 4 then
      setTpp n { t with siteQ := t.siteQ ++ [(nowPs s + 8000, true, off)] } s
    else setTpp n t s

def execSiteOffChange (tpp : Fin 24) (off : BitVec 8) (s : State) : Host.Outcome State Fault Refusal :=
  clockedOn (tpp.val / 6) (siteOffChangeStep tpp.val off) s

/-! ### The stream buffer (R308) -/

/-- Lines of 64 bytes in a run's segments. -/
def segLines (seg : Nat × Nat) : Nat := (24 * seg.2 + 63) / 64
def streamTotal (t : Tpp) : Nat := t.segs.foldl (fun v x => v + segLines x) 0

/-- The first line of segment i among the run's lines. -/
def segFirst (t : Tpp) (i : Nat) : Nat := (t.segs.take i).foldl (fun v x => v + segLines x) 0

/-- The address of line l of a run's stream. -/
def lineAddr : List (Nat × Nat) → Nat → Nat
  | [], _ => 0
  | x :: xs, l => if l < segLines x then x.1 + 64 * l else lineAddr xs (l - segLines x)

/-- The first line that a vector still to come needs. -/
def streamBase (t : Tpp) : Nat :=
  if t.sSeg < t.segs.length then segFirst t t.sSeg + 24 * t.sVec / 64 else streamTotal t

/-- Lines that the stream buffer holds. -/
def bufLines (buf : Nat) : Nat := bufWords buf / 2

/-- STREAM_REFILL_READ (R308): the next line, while the buffer has room for it and fewer than 1,024 reads are out. -/
def streamRefillReadStep (n : Nat) (s : Block) : Block :=
  let t := getTpp s n
  if (tppState s n == 3 || tppState s n == 4) && t.ended.isNone && t.sNext < streamTotal t &&
      t.sAsked.length < 1024 && t.sNext < streamBase t + bufLines t.buf then
    (setTpp n { t with sNext := t.sNext + 1, sAsked := t.sAsked ++ [t.sNext] } s).emit
      (.streamRead n t.sNext (lineAddr t.segs t.sNext))
  else s

def execStreamRefillRead (tpp : Fin 24) (s : State) : Host.Outcome State Fault Refusal :=
  clockedOn (tpp.val / 6) (streamRefillReadStep tpp.val) s

/-- STREAM_READ_RESPONSE (R305): data, or a poisoned or error response, for a line that was asked for. A line of a channel
that takes no request answers with an error whatever comes. -/
def streamReadResponseStep (n line : Nat) (ok : Bool) (data : BitVec 512) (s : Block) : Block :=
  let t := getTpp s n
  if !t.sAsked.contains line then s
  else
    let good := ok && accessStatus s (lineAddr t.segs line) == 0
    setTpp n { t with sAsked := t.sAsked.erase line,
                      sLines := spSet (fun _ => none) t.sLines line (some (if good then some data else none)) } s

def execStreamReadResponse (tpp : Fin 24) (line : Nat) (ok : Bool) (data : BitVec 512) (s : State) :
    Host.Outcome State Fault Refusal := clockedOn (tpp.val / 6) (streamReadResponseStep tpp.val line ok data) s

/-- TPP_STREAM_READY (R300, R308): the buffer is full, or holds every line of the segments. -/
def tppStreamReadyStep (n : Nat) (s : Block) : Block :=
  let t := getTpp s n
  if tppState s n == 3 && !s.flag (Rg.tpp n) Rg.tReady && t.sAsked.isEmpty &&
      Nat.min (streamTotal t) (bufLines t.buf) ≤ t.sNext then runReady n s
  else s

def execTppStreamReady (tpp : Fin 24) (s : State) : Host.Outcome State Fault Refusal :=
  clockedOn (tpp.val / 6) (tppStreamReadyStep tpp.val) s

/-! ### Plates and resets -/

/-- A reset of the TPP with its die (R305, R346): its run ends, a response still to come is REFUSED_STATE. -/
def tppReset (n : Nat) (s : Block) : Block :=
  let s := s.close 0x0301 n St.refusedState
  let due := s.mbx.opens.filter (fun o => o.op2 == 0x0304 && o.obj.testBit n)
  let s := due.foldl (fun s o => s.answer o St.refusedState) s
  let s := s.resetWindows (0x20 + 0x20 * (n / 6) + 8 + n % 6) (0x20 + 0x20 * (n / 6) + 8 + n % 6)
  setTpp n Tpp.reset s

/-- A LIVE plate assigns pins to the TPP, or no longer does (R293, R296): calibration runs at the first such release. A TPP whose power
domain is switched off stays OFF until it is switched on (R470; DESIGN CHOICE). -/
def tppPlates (n : Nat) (s : Block) : Block :=
  let st := tppState s n
  let has := tppHas s n && !s.net.domOff.contains (48 + n)
  if has && st == 0 then (if s.flag (Rg.tpp n) Rg.tCalDone then s.put (Rg.tpp n) Rg.tState 2 else tppCalBegin n s)
  else if !has && (st == 1 || st == 2) then s.put (Rg.tpp n) Rg.tState 0
  else s

end Sys2Proof.Machine
end

