-- ==== Sys2Proof/Machine/FailCapture.lean ====
section
/-! DEFINITION. Compare results and fail capture (11): fail records, loss markers, the fail bitmap, the row and column
counters, and the capture drain. -/

namespace Sys2Proof.Machine

/-- The PEC of slot k of a vector's PEC field (R277). -/
def pecAt (pec k : Nat) : Nat := fldGet pec (4 * k) 4

/-- A PEC whose strobe can fail (R273). -/
def pecCompares (p : Nat) : Bool := p == 0x3 || p == 0x4 || p == 0x5 || p == 0xD

/-- The active PEC slots of TPP n that belong to site x (R294, R288). -/
def siteSlots (s : Block) (n x : Nat) : List Nat :=
  ((tppPins s n).filter (fun k => siteOf s n k == x)).flatMap (pinSlots s n)

/-- The active PEC slots of TPP n. -/
def allSlots (s : Block) (n : Nat) : List Nat := (tppPins s n).flatMap (pinSlots s n)

/-- A set of numbers as bits. -/
def maskOf (l : List Nat) : Nat := l.foldl (fun v k => Nat.lor v (2 ^ k)) 0

/-- The strobe of slot k from the start of its period, in ps: the nominal edge of its timing set (R286, R288). -/
def strobeOf (s : Block) (n tset k : Nat) : Nat :=
  let b := Rg.tpp n
  let pins := (tppPins s n).filter (fun p => (pinSlots s n p).contains k)
  match pins with
  | p :: _ => 2 * (subStart (s.f b (Rg.tsPeriod tset)) (pinMuxOf s n p) (k - p) + s.f b (Rg.tsS tset p))
  | [] => 0

def getSite (t : Tpp) (x : Nat) : SiteRun := spGet (fun _ => SiteRun.fresh) t.sites x

def modSite (n x : Nat) (f : SiteRun → SiteRun) (s : Block) : Block :=
  modTpp n (fun t => { t with sites := spSet (fun _ => SiteRun.fresh) t.sites x (f (getSite t x)) }) s

/-! ### Fail records (R329 to R335) -/

/-- A record of 32 bytes (R329): VECNUM, TYPE, FLAGS, the three 6-byte fields at 8, 16 and 22, TSET, TPP and SEQ. -/
def recWord (vecnum type flags f8 tset tpp f16 f22 seq : Nat) : BitVec 256 :=
  BitVec.ofNat 256 (vecnum % 2 ^ 48 + type * 2 ^ 48 + flags * 2 ^ 56 + f8 % 2 ^ 48 * 2 ^ 64 + tset * 2 ^ 112 + tpp * 2 ^ 120 +
    f16 % 2 ^ 48 * 2 ^ 128 + f22 % 2 ^ 48 * 2 ^ 176 + seq % 2 ^ 31 * 2 ^ 224)

/-- The address fields of a record: X, Y, B and PX, PY, PB of an APG state. -/
def recAddrs (s : Block) (n : Nat) (a : ApgSt) : Nat × Nat :=
  (a.x.toNat + a.y.toNat * 2 ^ 16 + a.b.toNat * 2 ^ 32,
    let p := (physAddr s (Rg.tpp n) (logicalAddr a)).1
    physX p + physY p * 2 ^ 16 + physB p * 2 ^ 32)

/-- A site produces records: the master enable and its own (FAIL_CTRL, FAIL_SITE_s). -/
def producesRecords (s : Block) (n x : Nat) : Bool := s.flag (Rg.tpp n) Rg.fRecEn && s.flag (Rg.tpp n) (Rg.fSiteRecEn x)

/-- A record of site x is lost (R335). -/
def loseRecord (n x vecnum seq : Nat) (s : Block) : Block :=
  let s := s.bumpBy (Rg.tpp n + Rg.fStat x) lostCnt 1
  let s := modSite n x (fun r => { r with
    lost := r.lost + 1, lostVec := if r.lost == 0 then vecnum else r.lostVec, lostSeq := if r.lost == 0 then seq else r.lostSeq }) s
  if (getTpp s n).saidLost then s
  else (modTpp n (fun t => { t with saidLost := true }) s).raise Ev.failRecordsLost (tppPort n) n

/-- Site x produces the record that `w` makes of its SEQ (R331, R335). -/
def produceRecord (n x vecnum : Nat) (w : Nat → BitVec 256) (s : Block) : Block :=
  let seq := s.f (Rg.tpp n) (Rg.fSeqNext x)
  let s := s.put (Rg.tpp n) (Rg.fSeqNext x) (seq + 1)
  if (getTpp s n).fifo.length < 8192 then
    modTpp n (fun t => { t with fifo := t.fifo ++ [{ queue := s.f (Rg.tpp n) (Rg.fSiteQueue x), word := w seq }] }) s
  else loseRecord n x vecnum seq s

/-- Loss markers that space in the FIFO lets in, in site order (R335). -/
def writeMarkers (n : Nat) (s : Block) : Block :=
  forEach (upto 8) (fun x s =>
    let t := getTpp s n
    let r := getSite t x
    if r.lost == 0 || 8192 ≤ t.fifo.length then s
    else
      modSite n x (fun r => { r with lost := 0 })
        (modTpp n (fun t => { t with fifo := t.fifo ++
          [{ queue := s.f (Rg.tpp n) (Rg.fSiteQueue x), word := recWord r.lostVec 4 x r.lost 0 n 0 0 r.lostSeq }] }) s)) s

/-- Records go to the queue engine in one posted write, which a port that is not open discards and counts (R346, R469). -/
def recordsOut (n queue : Nat) (l : List (BitVec 256)) (s : Block) : Block :=
  if targetPortStatus s 0x402 == 0 then s.emit (.failRecords n queue l) else bumpDiscard 0x402 s

/-- FAIL_RECORD_SEND (R333, R335): two consecutive records of one queue go as one flit; markers follow where space has
become free. -/
def failRecordSendStep (n : Nat) (s : Block) : Block :=
  match (getTpp s n).fifo with
  | [] => s
  | [a] => writeMarkers n (recordsOut n a.queue [a.word] (modTpp n (fun t => { t with fifo := [] }) s))
  | a :: b :: l =>
    if a.queue == b.queue then
      writeMarkers n (recordsOut n a.queue [a.word, b.word] (modTpp n (fun t => { t with fifo := l }) s))
    else writeMarkers n (recordsOut n a.queue [a.word] (modTpp n (fun t => { t with fifo := b :: l }) s))

def execFailRecordSend (tpp : Fin 24) (s : State) : Host.Outcome State Fault Refusal := clockedOn (tpp.val / 6) (failRecordSendStep tpp.val) s

/-! ### Fail bitmap (R337 to R340) -/

/-- Bits of the sites are lost: BM_INCOMPLETE, and the event once per run. -/
def bitmapIncomplete (n : Nat) (sites : BitVec 8) (err : Bool) (s : Block) : Block :=
  let b := Rg.tpp n
  let s := forEach (bitsOf 8 sites.toNat) (fun x s =>
    when err (fun s => s.putB b (Rg.fBmError x) true) (s.putB b (Rg.fBmIncomplete x) true)) s
  if (getTpp s n).saidBm then s
  else (modTpp n (fun t => { t with saidBm := true }) s).raise Ev.failBitmapIncomplete (tppPort n) n

/-- The bit index of R337 for a physical address and a data bit q. -/
def bitmapIndex (s : Block) (n p q : Nat) : Nat :=
  let b := Rg.tpp n
  let xb := Nat.min (s.f b Rg.fBmX) 16
  let yb := Nat.min (s.f b Rg.fBmY) 16
  let bb := Nat.min (s.f b Rg.fBmB) 5
  let qb := Nat.min (s.f b Rg.fBmQ) 5
  ((physB p % 2 ^ bb * 2 ^ yb + physY p % 2 ^ yb) * 2 ^ xb + physX p % 2 ^ xb) * 2 ^ qb + q % 2 ^ qb

/-- The line at the front of the cache leaves as an atomic OR (R338), if one more may be outstanding (R339). -/
def evictLine (n : Nat) (l : BmLine) (s : Block) : Block :=
  (modTpp n (fun t => { t with bmLines := t.bmLines.erase l, bmOut := t.bmOut ++ [l] }) s).emit (.atomicOr n l.addr l.mask)

/-- Site x sets the bit of its bitmap at an index: merged into its line, a line leaving where the cache is full. -/
def bitmapSet (n x index : Nat) (s : Block) : Block :=
  let byte := s.f (Rg.tpp n) (Rg.fBmBase x) + index / 8
  let addr := byte / 64 * 64
  let bit : BitVec 512 := BitVec.ofNat 512 (2 ^ (8 * (byte % 64) + index % 8))
  let t := getTpp s n
  if t.bmLines.any (fun l => l.addr == addr) then
    setTpp n { t with bmLines := t.bmLines.map (fun l =>
      if l.addr == addr then { l with mask := l.mask ||| bit, sites := l.sites ||| BitVec.ofNat 8 (2 ^ x) } else l) } s
  else
    let new : BmLine := { addr := addr, mask := bit, sites := BitVec.ofNat 8 (2 ^ x) }
    let add (s : Block) : Block := modTpp n (fun t => { t with bmLines := t.bmLines ++ [new] }) s
    if t.bmLines.length < 64 then add s
    else
      match t.bmLines with
      | l :: _ => if t.bmOut.length < 512 then add (evictLine n l s) else bitmapIncomplete n (BitVec.ofNat 8 (2 ^ x)) false s
      | [] => s

/-- BITMAP_LINE_EVICT (R338): a line of the cache leaves as an atomic OR, up to 512 outstanding. -/
def bitmapLineEvictStep (n i : Nat) (s : Block) : Block :=
  let t := getTpp s n
  match t.bmLines[i]? with
  | some l => if t.bmOut.length < 512 then evictLine n l s else s
  | none => s

def execBitmapLineEvict (tpp : Fin 24) (line : Nat) (s : State) : Host.Outcome State Fault Refusal :=
  clockedOn (tpp.val / 6) (bitmapLineEvictStep tpp.val line) s

/-- The answer to an outstanding atomic OR: one that its target performs (R454) has changed memory; any error loses its bits (R340). -/
def aorAnswered (n : Nat) (l : BmLine) (ok : Bool) (s : Block) : Block :=
  let fail := bitmapIncomplete n l.sites true
  if ok && accessStatus s l.addr == 0 then
    let r := readMem (srcTpp n) l.addr 64 s
    match r.1 with
    | some bs =>
      let w := writeMem (srcTpp n) l.addr (leBytes 64 (Nat.lor (leNat bs) l.mask.toNat)) r.2
      if w.1 then w.2 else fail w.2
    | none => fail r.2
  else fail s

/-- BITMAP_AOR_RESPONSE (R340): the i-th outstanding atomic OR is answered. -/
def bitmapAorResponseStep (n i : Nat) (ok : Bool) (s : Block) : Block :=
  match (getTpp s n).bmOut[i]? with
  | none => s
  | some l => aorAnswered n l ok (modTpp n (fun t => { t with bmOut := t.bmOut.eraseIdx i }) s)

def execBitmapAorResponse (tpp : Fin 24) (line : Nat) (ok : Bool) (s : State) : Host.Outcome State Fault Refusal :=
  clockedOn (tpp.val / 6) (bitmapAorResponseStep tpp.val line ok) s

/-! ### Row and column counters (R341, R342) -/

/-- Add to one counter; FAIL_CNT_SAT is raised only for the first that saturates in a run (R342). -/
def failCount (n a k : Nat) (s : Block) : Block :=
  let s' := s.bumpBy a apgCnt k Ev.failCntSat
  if s'.ev.frames.length == s.ev.frames.length then s'
  else if (getTpp s n).saidCnt then { s' with ev := s.ev }
  else modTpp n (fun t => { t with saidCnt := true }) s'

/-- k failing data slots of site x in one application (R341). -/
def failCounters (n x p k : Nat) (s : Block) : Block :=
  let b := Rg.tpp n
  let sb := s.f b Rg.fCntSiteBits
  let cb := Nat.min (s.f b Rg.fCntBankBits) 5
  let w := 14 - sb - cb
  if x < 2 ^ sb && 0 < k then
    let hi := x * 2 ^ (14 - sb) + physB p % 2 ^ cb * 2 ^ w
    let row := hi + physX p / 2 ^ s.f b Rg.fRowShift % 2 ^ w
    let col := hi + physY p / 2 ^ s.f b Rg.fColShift % 2 ^ w
    failCount n (b + Rg.apgColCnt col) k (failCount n (b + Rg.apgRowCnt row) k s)
  else s

/-! ### Compare results (R325) -/

/-- Captures that an application owes records for: it may not be passed over (R328). -/
def owesCapture (s : Block) (n : Nat) (b : AppBatch) : Bool :=
  (upto 8).any (fun x => b.sites.getLsbD x && producesRecords s n x &&
    (siteSlots s n x).any (fun k => pecAt b.pec.toNat k == 0xE))

/-- The APG state of application j of a batch. -/
def batchApg (s : Block) (n : Nat) (b : AppBatch) (j : Nat) : ApgSt :=
  match b.instr with
  | some i => apgExecN s (Rg.tpp n) i j b.apg
  | none => b.apg

/-- A batch without its first j applications. -/
def batchDrop (s : Block) (n : Nat) (b : AppBatch) (j : Nat) : List AppBatch :=
  if j < b.count then
    [{ b with first := b.first + j, count := b.count - j, start := b.start + j * b.period, apg := batchApg s n b j }]
  else []

/-- The pin that takes slot k (R288). -/
def slotPin (s : Block) (n k : Nat) : Nat := ((tppPins s n).find? (fun p => (pinSlots s n p).contains k)).getD k

/-- What the comparators of slot k find at its strobe: above VTH, below VTL (R275). A single-ended pin's level in mV is held against VCCO × code / 256, a
differential pin's voltage against 2 mV × VTH_CODE on either side. -/
def aboveBelow (s : Block) (n k : Nat) (mv : Int) : Bool × Bool :=
  let b := Rg.tpp n
  let p := slotPin s n k
  let std := s.f (tppPin n p) Rg.pinStandard
  if std == 0x8 || std == 0x9 then
    let d : Int := (2 * s.f b (Rg.pinVth p) : Nat)
    (decide (d < mv), decide (mv < -d))
  else
    let v := bankLevel s (n / 6) (n % 6)
    (decide (((v * s.f b (Rg.pinVth p) : Nat) : Int) < 256 * mv), decide (256 * mv < ((v * s.f b (Rg.pinVtl p) : Nat) : Int)))

/-- The same for a slot whose level is given, or that nothing gives a level: there both bits are open, and never both 1 (R328). -/
def slotSees (s : Block) (n : Nat) (volts : List (Nat × Int)) (open' k : Nat) : Bool × Bool :=
  match volts.lookup k with
  | some mv => aboveBelow s n k mv
  | none =>
    let x := Config.freeAt open' k % 3
    (x == 1, x == 2)

/-- A strobe does not pass (R273, R276): by the PEC, the APG bit of the slot and what the comparators find. -/
def strobeFails (p : Nat) (bit high low : Bool) : Bool :=
  if p == 0x3 then !low
  else if p == 0x4 then !high
  else if p == 0x5 then high || low
  else if p == 0xD then (if bit then !high else !low)
  else false

/-- The results of site x in one application: its fail flag, LIMIT, records, bitmap and counters (R325 to R341). -/
def siteResult (n x v start : Nat) (b : AppBatch) (a : ApgSt) (fails high low : Nat) (s : Block) : Block :=
  let r := Rg.tpp n
  let pec := b.pec.toNat
  let slots := siteSlots s n x
  let failed := slots.filter (fun k => fails.testBit k && pecCompares (pecAt pec k))
  let capt := slots.filter (fun k => pecAt pec k == 0xE)
  let apgUsed := (allSlots s n).any (fun k => pecAt pec k == 0xC || pecAt pec k == 0xD)
  let ad := recAddrs s n a
  let p := (physAddr s r (logicalAddr a)).1
  let s :=
    if failed.isEmpty then s
    else
      let s := s.put r Rg.tSiteFail (Nat.lor (s.f r Rg.tSiteFail) (2 ^ x))
      let limit := s.f r (Rg.fSiteLimit x)
      let n' := (getSite (getTpp s n) x).fails + 1
      let s := when (limit != 0) (modSite n x (fun q => { q with fails := n' })) s
      let s := when (producesRecords s n x && (limit == 0 || decide (n' ≤ limit)))
        (produceRecord n x v (recWord v 1 (x + 8 * apgUsed.toNat) (maskOf failed) b.tset n ad.1 ad.2)) s
      let s := when (limit != 0 && n' == limit) (fun s =>
        when (s.flag r (Rg.fSiteLimitDisable x)) (modSite n x (fun q => { q with
          limitAt := some (start + 40000 + failed.foldl (fun m k => Nat.max m (strobeOf s n b.tset k)) 0) }))
          (s.putB r (Rg.fLimitHit x) true)) s
      let data := failed.filter (fun k => pecAt pec k == 0xD && decide (s.f r (Rg.apgSel k) < 32))
      let s := when (s.flag r Rg.fBmEn) (forEach data (fun k s =>
        bitmapSet n x (bitmapIndex s n p (s.f r (Rg.apgSel k))) s)) s
      when (s.flag r Rg.fCntEn) (failCounters n x p data.length) s
  if capt.isEmpty || !producesRecords s n x then s
  else
    let hi := Nat.land high (maskOf capt)
    let lo := Nat.land (Nat.land low (maskOf capt)) (Nat.xor (2 ^ 48 - 1) hi)
    produceRecord n x v (recWord v 3 x hi b.tset n lo (maskOf capt)) s

/-- Batches that lie wholly before application v: without a result, they passed. -/
def batchesBefore (t : Tpp) (v : Nat) : List AppBatch := t.batches.takeWhile (fun x => decide (x.first + x.count ≤ v))

/-- The results of application v of a batch at every enabled site (R325): the levels of the slots at their strobes in
mV. -/
def applicationResult (n v : Nat) (b : AppBatch) (volts : List (Nat × Int)) (s : Block) : Block :=
  let d := s.draw
  let s := d.2
  let t := getTpp s n
  let after := (t.batches.drop (batchesBefore t v).length).drop 1
  let j := v - b.first
  let start := b.start + j * b.period
  let a := batchApg s n b j
  let sees := slotSees s n volts d.1
  let high := maskOf ((upto 48).filter (fun k => (sees k).1))
  let low := maskOf ((upto 48).filter (fun k => (sees k).2))
  let fails := maskOf ((upto 48).filter (fun k => strobeFails (pecAt b.pec.toNat k) (apgBit s (Rg.tpp n) a k) (sees k).1 (sees k).2))
  let s := setTpp n { t with batches := batchDrop s n b (j + 1) ++ after } s
  let on (x : Nat) : Bool := b.sites.getLsbD x &&
    (match (getSite t x).limitAt with
      | some l => decide (start < l)
      | none => true)
  forEach ((upto 8).filter on) (fun x s => siteResult n x v start b a fails high low s) s

/-- COMPARE_RESULT (R325): applications before it that have no result of their own passed, except where they owe a capture record (R328). -/
def compareResultStep (n v : Nat) (volts : List (Nat × Int)) (s : Block) : Block :=
  let t := getTpp s n
  if tppState s n != 4 then s
  else
    match t.batches.find? (fun b => decide (b.first ≤ v) && decide (v < b.first + b.count)) with
    | none => s
    | some b =>
      if (batchesBefore t v).any (owesCapture s n) || (owesCapture s n b && b.first != v) then s
      else applicationResult n v b volts s

def execCompareResult (tpp : Fin 24) (vecnum : BitVec 48) (volts : List (Fin 48 × Int)) (s : State) :
    Host.Outcome State Fault Refusal :=
  clockedOn (tpp.val / 6) (compareResultStep tpp.val vecnum.toNat (volts.map (fun x => (x.1.val, x.2)))) s

/-! ### The capture drain (R345) and CNT_CLEAR (R343) -/

/-- Nothing of the run's capture path is left. -/
def drained (t : Tpp) : Bool :=
  t.batches.isEmpty && t.fifo.isEmpty && t.bmLines.isEmpty && t.bmOut.isEmpty &&
    (upto 8).all (fun x => (getSite t x).lost == 0)

/-- TPP_DRAIN_END (R345): every record is sent, every bitmap line answered and fenced. -/
def tppDrainEndStep (n : Nat) (s : Block) : Block :=
  let t := getTpp s n
  match t.ended with
  | some (code, _) => if drained t then runFinish n code s else s
  | none => s

def execTppDrainEnd (tpp : Fin 24) (s : State) : Host.Outcome State Fault Refusal := clockedOn (tpp.val / 6) (tppDrainEndStep tpp.val) s

/-- What a run could not drain is lost: its records one by one, its bitmap bits together (R345). -/
def drainLost (n : Nat) (s : Block) : Block :=
  let t := getTpp s n
  let s := t.fifo.foldl (fun s r =>
    let w := r.word.toNat
    if fldGet w 48 8 == 4 then s else loseRecord n (fldGet w 56 3) (fldGet w 0 48) (fldGet w 224 31) s) s
  let lines := t.bmLines ++ t.bmOut
  let s := when (!lines.isEmpty) (bitmapIncomplete n (lines.foldl (fun m l => m ||| l.sites) 0) false) s
  modTpp n (fun t => { t with fifo := [], bmLines := [], bmOut := [], batches := [], sites := [] }) s

/-- TPP_DRAIN_TIMEOUT (R345): 10 ms after the last application the remaining records and bits are counted as lost. -/
def tppDrainTimeoutStep (n : Nat) (s : Block) : Block :=
  let t := getTpp s n
  match t.ended with
  | none => s
  | some (code, at') =>
    if drained t then s else runFinish n code (drainLost n (reachTime (BitVec.ofNat 64 (at' / 1000 + 10000000)) s))

def execTppDrainTimeout (tpp : Fin 24) (s : State) : Host.Outcome State Fault Refusal :=
  clockedOn (tpp.val / 6) (tppDrainTimeoutStep tpp.val) s

/-- CNT_CLEAR (R343): acted on only when the TPP is IDLE. -/
def cntClearStep (n : Nat) (s : Block) : Block := when (tppState s n == 2) (clearCounters n) s

def execCntClear (tpp : Fin 24) (s : State) : Host.Outcome State Fault Refusal := clockedOn (tpp.val / 6) (cntClearStep tpp.val) s

end Sys2Proof.Machine
end

