-- ==== Sys2Proof/Machine/Crypto.lean ====
section
/-! DEFINITION. The cryptographic algorithms that the manual names: SHA-256, HMAC and HKDF (R594, R610), RSASSA-PSS (R587), RSAES-OAEP
(R608), AES-256-GCM (R204).  Octet strings are lists of numbers below 256; RSA's are most significant byte first (R588), every other
number is little-endian (R7). -/

namespace Sys2Proof.Machine

/-- The bytes of a number, most significant first (R588). -/
def beBytes (n v : Nat) : List Nat := (leBytes n v).reverse

/-- The number of a byte string, most significant first (R588). -/
def beNat (bs : List Nat) : Nat := leNat bs.reverse

/-- Exclusive or of two byte strings of one length. -/
def xorBytes (a b : List Nat) : List Nat := List.zipWith Nat.xor a b

/-- f at n. The case analysis has the kernel reduce n to a numeral before it goes on. -/
def atNum {α : Type} (n : Nat) (f : Nat → α) : α :=
  match n with
  | 0 => f 0
  | n + 1 => f (n + 1)

/-! ### SHA-256 -/

def shaK : List Nat :=
  [0x428a2f98, 0x71374491, 0xb5c0fbcf, 0xe9b5dba5, 0x3956c25b, 0x59f111f1, 0x923f82a4, 0xab1c5ed5,
   0xd807aa98, 0x12835b01, 0x243185be, 0x550c7dc3, 0x72be5d74, 0x80deb1fe, 0x9bdc06a7, 0xc19bf174] ++
  [0xe49b69c1, 0xefbe4786, 0x0fc19dc6, 0x240ca1cc, 0x2de92c6f, 0x4a7484aa, 0x5cb0a9dc, 0x76f988da,
   0x983e5152, 0xa831c66d, 0xb00327c8, 0xbf597fc7, 0xc6e00bf3, 0xd5a79147, 0x06ca6351, 0x14292967] ++
  [0x27b70a85, 0x2e1b2138, 0x4d2c6dfc, 0x53380d13, 0x650a7354, 0x766a0abb, 0x81c2c92e, 0x92722c85,
   0xa2bfe8a1, 0xa81a664b, 0xc24b8b70, 0xc76c51a3, 0xd192e819, 0xd6990624, 0xf40e3585, 0x106aa070] ++
  [0x19a4c116, 0x1e376c08, 0x2748774c, 0x34b0bcb5, 0x391c0cb3, 0x4ed8aa4a, 0x5b9cca4f, 0x682e6ff3,
   0x748f82ee, 0x78a5636f, 0x84c87814, 0x8cc70208, 0x90befffa, 0xa4506ceb, 0xbef9a3f7, 0xc67178f2]

def shaInit : Nat := 0x5be0cd191f83d9ab9b05688c510e527fa54ff53a3c6ef372bb67ae856a09e667

def rotr (x n : Nat) : Nat := Nat.lor (Nat.shiftRight x n) (Nat.shiftLeft x (32 - n) % 0x100000000)

/-- Word i, of 32 bits, of a number. -/
def shaWord (v i : Nat) : Nat := Nat.shiftRight v (32 * i) % 0x100000000

/-- A window of 16 words of the message schedule moves on by one word. -/
def shaNext (w : Nat) : Nat :=
  let a := shaWord w 1
  let b := shaWord w 14
  let s0 := Nat.xor (Nat.xor (rotr a 7) (rotr a 18)) (Nat.shiftRight a 3)
  let s1 := Nat.xor (Nat.xor (rotr b 17) (rotr b 19)) (Nat.shiftRight b 10)
  Nat.shiftRight w 32 + Nat.shiftLeft ((s1 + shaWord w 9 + s0 + shaWord w 0) % 0x100000000) 480

/-- One round: h holds the words a to h, w the window whose first word this round takes. -/
def shaRound (h w k : Nat) : Nat :=
  let a := shaWord h 0
  let e := shaWord h 4
  let s1 := Nat.xor (Nat.xor (rotr e 6) (rotr e 11)) (rotr e 25)
  let ch := Nat.xor (Nat.land e (shaWord h 5)) (Nat.land (Nat.xor e 0xFFFFFFFF) (shaWord h 6))
  let t1 := shaWord h 7 + s1 + ch + k + shaWord w 0
  let s0 := Nat.xor (Nat.xor (rotr a 2) (rotr a 13)) (rotr a 22)
  let mj := Nat.xor (Nat.xor (Nat.land a (shaWord h 1)) (Nat.land a (shaWord h 2))) (Nat.land (shaWord h 1) (shaWord h 2))
  let h := Nat.shiftLeft h 32 % 2 ^ 256
  atNum ((shaWord h 4 + t1) % 0x100000000) fun e => (h - Nat.shiftLeft (shaWord h 4) 128) + Nat.shiftLeft e 128 + (t1 + s0 + mj) % 0x100000000

def shaRounds : List Nat → Nat → Nat → Nat
  | [], h, _ => h
  | k :: ks, h, w => atNum (shaRound h w k) fun h => atNum (shaNext w) fun w => shaRounds ks h w

/-- Words are added one by one. -/
def shaAdd (a b : Nat) : Nat := (upto 8).foldl (fun v i => v + Nat.shiftLeft ((shaWord a i + shaWord b i) % 0x100000000) (32 * i)) 0

/-- A block of 64 bytes as a number whose word 0 is the first. -/
def shaBlock (bs : List Nat) : Nat := (upto 16).foldl (fun v i => v + Nat.shiftLeft (beNat ((bs.drop (4 * i)).take 4)) (32 * i)) 0

/-- The blocks of a padded message are taken in order. -/
def shaBlocks : Nat → List Nat → Nat → Nat
  | 0, _, h => h
  | n + 1, bs, h =>
    atNum (shaBlock (bs.take 64)) fun w => atNum (shaAdd h (shaRounds shaK h w)) fun h => shaBlocks n (bs.drop 64) h

/-- SHA-256 of a byte string, as bytes. -/
def shaBytes (bs : List Nat) : List Nat :=
  let l := bs.length
  let fill := (119 - l % 64) % 64
  atNum (shaBlocks ((l + 9 + fill) / 64) (bs ++ [0x80] ++ List.replicate fill 0 ++ beBytes 8 (8 * l)) shaInit) fun h =>
    (upto 8).flatMap (fun i => beBytes 4 (shaWord h i))

/-- SHA-256 of a byte string, its first byte lowest as a digest is stored (R7). -/
def sha256 (bs : List Nat) : BitVec 256 := BitVec.ofNat 256 (leNat (shaBytes bs))

/-- HMAC-SHA-256 under a key of at most 64 bytes. -/
def hmac (key msg : List Nat) : List Nat :=
  let pad (v : Nat) : List Nat := (key ++ List.replicate (64 - key.length) 0).map (Nat.xor v)
  shaBytes (pad 0x5C ++ shaBytes (pad 0x36 ++ msg))

/-- The first 16 bytes of HKDF-SHA-256 (RFC 5869). -/
def hkdf16 (ikm salt info : List Nat) : List Nat := (hmac (hmac salt ikm) (info ++ [1])).take 16

/-! ### RSA (R587, R588) -/

/-- n bytes of MGF1 with SHA-256. -/
def mgf1 (seed : List Nat) (n : Nat) : List Nat := ((upto ((n + 31) / 32)).flatMap (fun c => shaBytes (seed ++ beBytes 4 c))).take n

/-- x to the power whose bits are the low n bits of e, times acc, modulo m. -/
def powMod (m : Nat) : Nat → Nat → Nat → Nat → Nat
  | 0, _, _, acc => acc
  | n + 1, e, x, acc =>
    atNum (if e % 2 == 1 then acc * x % m else acc) fun acc => atNum (x * x % m) fun x => atNum (e / 2) fun e => powMod m n e x acc

/-- The private exponent of the key of primes p and q, for the exponent 65537. -/
def rsaPrivate (p q : Nat) : Nat :=
  let phi := (p - 1) * (q - 1)
  (1 + (65537 - powMod 65537 16 65535 (phi % 65537) 1) * phi) / 65537

/-- The private operation of the key of primes p and q. -/
def rsaDecrypt (p q c : Nat) : Nat := atNum (p * q) fun n => atNum (rsaPrivate p q) fun d => powMod n 3072 d (c % n) 1

/-- The data block of EMSA-PSS and EME-OAEP unmasked: what follows a run of zero bytes and a byte 1. -/
def afterOne : List Nat → Option (List Nat)
  | [] => none
  | b :: bs => if b == 0 then afterOne bs else if b == 1 then some bs else none

/-- The hash H of EMSA-PSS over a message and its salt. -/
def pssHash (msg salt : List Nat) : List Nat := shaBytes (List.replicate 8 0 ++ shaBytes msg ++ salt)

/-- The encoded message of EMSA-PSS, of 384 bytes. -/
def pssEncode (msg salt : List Nat) : List Nat :=
  let h := pssHash msg salt
  let db := xorBytes (List.replicate 318 0 ++ [1] ++ salt) (mgf1 h 351)
  [db.headD 0 % 128] ++ db.drop 1 ++ h ++ [0xBC]

/-- An encoded message of 384 bytes fits a message. -/
def pssFits (msg em : List Nat) : Bool :=
  let h := (em.drop 351).take 32
  let db := xorBytes (em.take 351) (mgf1 h 351)
  let salt := db.drop 319
  decide (em.headD 0 < 128) && em.drop 383 == [0xBC] &&
    ([db.headD 0 % 128] ++ (db.drop 1).take 317).all (· == 0) && (db.drop 318).headD 0 == 1 && pssHash msg salt == h

/-- RSASSA-PSS verification (R587): a modulus of another size than 3,072 bits verifies nothing. -/
def rsaOk (m : BitVec 3072) (msg sig : List Nat) : Bool :=
  let s := beNat sig
  sig.length == 384 && decide (2 ^ 3071 ≤ m.toNat) && decide (s < m.toNat) &&
    pssFits msg (beBytes 384 (powMod m.toNat 17 65537 s 1))

/-- RSASSA-PSS signature (R587) of the key of primes p and q. -/
def rsaSign (p q : Nat) (msg salt : List Nat) : List Nat := beBytes 384 (rsaDecrypt p q (beNat (pssEncode msg salt)))

/-- RSAES-OAEP decryption (R608) with an empty label under the key of primes p and q. -/
def oaepOpen (p q : Nat) (c : List Nat) : Option (List Nat) :=
  if c.length == 384 && decide (beNat c < p * q) then
    let em := beBytes 384 (rsaDecrypt p q (beNat c))
    let db := em.drop 33
    let seed := xorBytes ((em.drop 1).take 32) (mgf1 db 32)
    let db := xorBytes db (mgf1 seed 351)
    if em.headD 0 == 0 && db.take 32 == shaBytes [] then afterOne (db.drop 32) else none
  else none

/-! ### AES-256-GCM (R204) -/

def aesTable : Nat :=
  0x16bb54b00f2d99416842e6bf0d89a18cdf2855cee9871e9b948ed9691198f8e19e1dc186b95735610ef6034866b53e708a8bbd4b1f74dde8c6b4a61c2e2578ba08ae7a65eaf4566ca94ed58d6d37c8e779e4959162acd3c25c2406490a3a32e0db0b5ede14b8ee4688902a22dc4f816073195d643d7ea7c41744975fec130ccdd2f3ff1021dab6bcf5389d928f40a351a89f3c507f02f94585334d43fbaaefd0cf584c4a39becb6a5bb1fc20ed00d153842fe329b3d63b52a05a6e1b1a2c830975b227ebe28012079a059618c323c7041531d871f1e5a534ccf73f362693fdb7c072a49cafa2d4adf04759fa7dc982ca76abd7fe2b670130c56f6bf27b777c63

def aesSub (b : Nat) : Nat := Nat.shiftRight aesTable (8 * b) % 256

/-- Multiply by x in the field of AES. -/
def aesTwice (b : Nat) : Nat := if b < 128 then 2 * b else Nat.xor (2 * b) 0x11B

/-- n words of the key schedule after the words given, newest first; i is the number of the next. -/
def aesSchedule : Nat → Nat → Nat → List (List Nat) → List (List Nat)
  | 0, _, _, ws => ws
  | n + 1, i, rc, ws =>
    let t := ws.headD []
    let t := if i % 8 == 0 then xorBytes ((t.drop 1 ++ t.take 1).map aesSub) [rc, 0, 0, 0]
      else if i % 8 == 4 then t.map aesSub else t
    atNum (leNat (xorBytes ((ws.drop 7).headD []) t)) fun w =>
      aesSchedule n (i + 1) (if i % 8 == 0 then aesTwice rc else rc) (leBytes 4 w :: ws)

/-- The 15 round keys of a key of 32 bytes, each as a number of 16 bytes. -/
def aesKeys (key : List Nat) : List Nat :=
  let ws := (aesSchedule 52 8 1 ((upto 8).map (fun i => (key.drop (4 * i)).take 4)).reverse).reverse
  (upto 15).map (fun r => leNat ((ws.drop (4 * r)).take 4).flatten)

/-- SubBytes and ShiftRows: byte r of column c is that of column c + r. -/
def aesShift (st : List Nat) : List Nat := (upto 16).map (fun i => aesSub ((st.drop ((i + 4 * (i % 4)) % 16)).headD 0))

/-- MixColumns of a column. -/
def aesMix (c : List Nat) : List Nat :=
  (upto 4).map (fun i =>
    let b (j : Nat) : Nat := (c.drop ((i + j) % 4)).headD 0
    Nat.xor (Nat.xor (aesTwice (b 0)) (Nat.xor (aesTwice (b 1)) (b 1))) (Nat.xor (b 2) (b 3)))

def aesRounds : List Nat → Nat → Nat
  | [], v => v
  | [k], v => Nat.xor (leNat (aesShift (leBytes 16 v))) k
  | k :: ks, v =>
    let st := aesShift (leBytes 16 v)
    atNum (Nat.xor (leNat ((upto 4).flatMap (fun c => aesMix ((st.drop (4 * c)).take 4)))) k) fun v => aesRounds ks v

/-- AES-256 of a block of 16 bytes under round keys. -/
def aesBlock (keys : List Nat) (bs : List Nat) : List Nat :=
  leBytes 16 (atNum (Nat.xor (leNat bs) (keys.headD 0)) fun v => aesRounds (keys.drop 1) v)

/-- Multiply by x in the field of GCM, whose lowest power is the highest bit. -/
def gcmShift (v : Nat) : Nat := if v % 2 == 1 then Nat.xor (v / 2) (Nat.shiftLeft 0xE1 120) else v / 2

/-- The product of x and v in the field of GCM, by the n highest bits of x that are left. -/
def gcmMul (x : Nat) : Nat → Nat → Nat → Nat
  | 0, _, z => z
  | n + 1, v, z => atNum (if x.testBit n then Nat.xor z v else z) fun z => atNum (gcmShift v) fun v => gcmMul x n v z

/-- GHASH of n blocks. -/
def gcmHash (h : Nat) : Nat → List Nat → Nat → Nat
  | 0, _, y => y
  | n + 1, bs, y => atNum (Nat.xor y (beNat (bs.take 16))) fun y => atNum (gcmMul y 128 h 0) fun y => gcmHash h n (bs.drop 16) y

/-- Zero bytes up to a whole block. -/
def gcmPad (bs : List Nat) : List Nat := bs ++ List.replicate ((16 - bs.length % 16) % 16) 0

/-- The tag of a ciphertext with its additional data, under an IV of 12 bytes. -/
def gcmTag (keys iv aad c : List Nat) : List Nat :=
  let bs := gcmPad aad ++ gcmPad c ++ beBytes 8 (8 * aad.length) ++ beBytes 8 (8 * c.length)
  atNum (beNat (aesBlock keys (List.replicate 16 0))) fun h =>
    xorBytes (beBytes 16 (gcmHash h (bs.length / 16) bs 0)) (aesBlock keys (iv ++ [0, 0, 0, 1]))

/-- The text that a ciphertext of AES-256-GCM holds, with no regard to its tag. -/
def gcmText (keys iv c : List Nat) : List Nat :=
  xorBytes c ((upto ((c.length + 15) / 16)).flatMap (fun i => aesBlock keys (iv ++ beBytes 4 (i + 2))))

/-- AES-256-GCM decryption (R204): none where the tag is wrong. -/
def gcmOpen (key iv aad c tag : List Nat) : Option (List Nat) :=
  let keys := aesKeys key
  if gcmTag keys iv aad c == tag then some (gcmText keys iv c) else none

end Sys2Proof.Machine
end

