-- ==== Sys2Proof/Machine/Security.lean ====
section
/-! DEFINITION. Keys, fuses, identity and attestation (20): fuse readings and programming, authorised requests, the sealing
key, the owner policy and quotes. -/

namespace Sys2Proof.Machine

/-- ORIGIN of the security engine (R448). -/
def secOrigin : Nat := originOf 0x03

def modSec (f : SecSt → SecSt) (s : Block) : Block := { s with sec := f s.sec }
def modNv (f : NvSt → NvSt) (s : Block) : Block := { s with nv := f s.nv }
def modFwu (f : FwSt → FwSt) (s : Block) : Block := { s with fwu := f s.fwu }
def modFuses (f : Fuses → Fuses) (s : Block) : Block := modNv (fun n => { n with fuses := f n.fuses }) s

/-! ### Keys (R588, R594) -/

/-- A public key as it is stored and hashed: the modulus, then the exponent. -/
def keyBytes (m : BitVec 3072) : List Nat := beBytes 384 m.toNat ++ [0, 1, 0, 1]

/-- The modulus of a key of 388 bytes; none where its exponent is another (R587). -/
def keyOfBytes (bs : List Nat) : Option (BitVec 3072) :=
  if bs.length == 388 && bs.drop 384 == [0, 1, 0, 1] then some (BitVec.ofNat 3072 (leNat (bs.take 384).reverse)) else none

/-- An owner key hash (R594). -/
def keyHash (m : BitVec 3072) : BitVec 256 := sha256 (keyBytes m)

/-- The identity public key (R606). -/
def identityKey (s : Block) : BitVec 3072 := BitVec.ofNat 3072 (s.nv.fuses.primeP.toNat * s.nv.fuses.primeQ.toNat)

/-- DEVICE_ID: the first 8 bytes of the hash of the identity public key (R606). -/
def deviceId (s : Block) : BitVec 64 := (keyHash (identityKey s)).setWidth 64

/-! ### Fuse readings (R590 to R593) -/

def ownerFuse (s : Block) (n : Nat) : OwnerFuse := spGet (fun _ => OwnerFuse.blank) s.nv.fuses.owners n

def setOwnerFuse (n : Nat) (f : OwnerFuse) (s : Block) : Block :=
  modFuses (fun x => { x with owners := spSet (fun _ => OwnerFuse.blank) x.owners n f }) s

/-- The reading of a slot: 0 EMPTY, 1 ACTIVE, 2 REVOKED, 3 DAMAGED (R593). -/
def slotReading (f : OwnerFuse) : Nat := if f.rev then 2 else if f.prog then 1 else if f.hash == 0 then 0 else 3

/-- The slots that read ACTIVE. -/
def activeSlots (s : Block) : List Nat := (upto 4).filter (fun n => slotReading (ownerFuse s n) == 1)

/-- The key of a slot in the owner key area matches its hash (R594). -/
def keyMatches (s : Block) (n : Nat) : Bool :=
  match spGet (fun _ => none) s.nv.ownerKeys n with
  | some m => keyHash m == (ownerFuse s n).hash
  | none => false

/-- The registers of window 0x03 show the fuse readings. -/
def fuseToRegs (s : Block) : Block :=
  let f := s.nv.fuses
  let s := ((((((s.put Rg.sec Rg.sFwSvn f.fwSvn).put Rg.sec Rg.sPlateSvn f.plateSvn).put Rg.sec Rg.sJtag f.jtag).put
    Rg.sec Rg.sExpert f.expert).put Rg.sec Rg.sSvcDisable f.svcDisable).put Rg.sec Rg.sClearviewLock f.clearview).put
    Rg.sec Rg.sUpdateLock f.updateLock
  let s := forEach (upto 8) (fun n s => s.putB (Rg.lsu n) Rg.lsuLocked (f.clearview == 1)) s
  forEach (upto 4) (fun n s =>
    let h := (ownerFuse s n).hash.toNat
    (s.put (Rg.owner n) Rg.oState (slotReading (ownerFuse s n))).put (Rg.owner n) Rg.oHashPrefix h) s

/-- KEY_OK of each slot, with OWNER_KEY_MISSING where an ACTIVE slot's key is missing or does not match (R594). -/
def checkOwnerKeys (s : Block) : Block :=
  forEach (upto 4) (fun n s =>
    let ok := keyMatches s n
    let s := s.putB (Rg.owner n) Rg.oKeyOk ok
    if slotReading (ownerFuse s n) == 1 && !ok then s.raise Ev.ownerKeyMissing secOrigin else s) s

/-- The largest reading of counter c: 0 firmware, 1 plate (R592). -/
def counterMax (c : Nat) : Nat := if c == 0 then 255 else 63
def counterReading (s : Block) (c : Nat) : Nat := if c == 0 then s.nv.fuses.fwSvn else s.nv.fuses.plateSvn

/-- ROLLBACK_LOW, with the counter and its remaining steps, where fewer than 8 are left (R603). -/
def rollbackCheck (c : Nat) (s : Block) : Block :=
  let left := counterMax c - counterReading s c
  if left < 8 then s.raise Ev.rollbackLow secOrigin (c + 256 * left) else s

/-! ### Power (R591, R629) and the hold-off of updates (R629) -/

/-- The power warning is not asserted and the hold-up supply reports good (R646). -/
def powerGood (s : Block) : Bool := !s.flag Rg.pwr Rg.pWarn && s.flag Rg.pwr Rg.pHoldup

/-- PROVISIONAL (R634). -/
def provisional (s : Block) : Bool := s.flag Rg.rst Rg.provisional

/-- A run lock is held (R630). -/
def runLockHeld (s : Block) : Bool := [0, 1, 2, 5].any (fun p => s.flag Rg.fw (Rg.runHeld p))

/-- UPDATE_LOCK, or UPDATE_HOLD, which is not read in RECOVERY. -/
def updateLocked (s : Block) : Bool :=
  s.flag Rg.sec Rg.sUpdateLock || (stageOf s != 7 && s.sec.policy.getLsbD 2)

/-- FW_UPDATE_STATUS.STATE: 0 IDLE, 1 RECEIVING, 2 RECEIVED, 3 VERIFIED, 4 ARMED, 5 TRIAL, 6 CONFIRMED. -/
def fwState (s : Block) : Nat := s.f Rg.fw Rg.fwState
def setFwState (v : Nat) (s : Block) : Block := s.put Rg.fw Rg.fwState v

/-- LAST_RESULT. -/
def fwResult (v : Nat) (s : Block) : Block := s.put Rg.fw Rg.fwLast v

/-- ORIGIN of the firmware update events: the flash interface (R448). -/
def fwOrigin : Nat := originOf 0x06

/-- The staging slot: the one that is not ACTIVE (R627). -/
def stagingSlot (s : Block) : Nat := 1 - s.f Rg.fw Rg.fwActive

/-- RECEIVING ends with a status (R629): the slot is invalid, the state IDLE, the status sent as FW_STAGING_INVALID. -/
def endReceiving (status : Nat) (s : Block) : Block :=
  let s := modFwu (fun x => { x with buffer := [], lastSeq := none, erasing := false, flashBad := false }) s
  let s := modNv (fun n => { n with pending := 0 }) (setFwState 0 s)
  let s := s.setReg (Rg.fw + 0x1010 + 8 * stagingSlot s) 0
  (s.raise Ev.fwStagingInvalid fwOrigin status).close 0x0C01 0 status

/-- The conditions of R629 are looked at: RECEIVING may end, and ARMED may return to VERIFIED. -/
def updateHoldCheck (s : Block) : Block :=
  if fwState s == 1 && !powerGood s then endReceiving St.powerNotGood s
  else if fwState s == 1 && updateLocked s then endReceiving St.updateLocked s
  else if fwState s == 4 && updateLocked s then (setFwState 3 s).close 0x0C04 0 St.updateLocked
  else s

/-! ### The settings store (R608, R611, R625, R634, R647) -/

/-- Writes of the settings store are refused (R586, R634, R647). -/
def storeBlocked (s : Block) : Bool := provisional s || !powerGood s

/-- The SEQ of a bank counts only where the bank is valid. -/
def newerBank (a b : Option SetBank) : Option SetBank :=
  match a, b with
  | some x, some y => if x.seq.toNat < y.seq.toNat then some y else some x
  | some x, none => some x
  | none, y => y

/-- What the settings store is to hold once the writes on their way end: the last of them, or what firmware loaded. -/
def latestBank (s : Block) : SetBank :=
  let last := s.fwu.jobs.foldl (fun (m : Option SetBank) j =>
    match j with
    | .settings b _ => some b
    | .record .. => m) none
  match last with
  | some b => b
  | none =>
    { schema := (s.fwu.running.map (fun r => r.schema)).getD 0,
      seq := ((newerBank s.nv.bank0 s.nv.bank1).map (fun b => b.seq)).getD 0,
      recs := s.gr.committed, policy := some s.sec.policy, keyNow := s.sec.keyNow, keyOld := s.sec.keyOld }

/-- Start a write of the idle bank (R625), with SEQ one above. -/
def writeBank (b : SetBank) (op2 : Nat) (s : Block) : Block :=
  modFwu (fun x => { x with jobs := x.jobs ++ [.settings { b with seq := b.seq + 1 } op2] }) s

/-! ### Fuse programming (R591 to R593, R601) -/

/-- Answer the command of a fuse request, where one waits. -/
def fuseAnswer (j : FuseJob) (status : Nat) (s : Block) : Block := if j.op2 == 0 then s else s.close j.op2 j.id status

/-- The check of a request against the fuse state as it starts (R591, R592, R596, R601): a status to refuse it with, or that it
changes nothing. -/
def fuseCheck (s : Block) : FuseWhat → Option Nat
  | .program n _ _ => if slotReading (ownerFuse s n) == 0 then none else some St.slotState
  | .revoke n =>
    if slotReading (ownerFuse s n) != 1 then some St.slotState
    else if (activeSlots s).length ≤ 1 then some St.lastOwner else none
  | .locks m =>
    let f := s.nv.fuses
    if 3 < f.jtag + fldGet m 0 1 + fldGet m 1 1 || 2 < f.expert + fldGet m 2 1 + fldGet m 3 1 ||
      1 < f.svcDisable + fldGet m 4 1 || 1 < f.clearview + fldGet m 5 1 || 1 < f.updateLock + fldGet m 6 1 then
      some St.badArg
    else none
  | .advance c t => if t ≤ counterReading s c then some St.ok else none

/-- Start the front request: a refused one is answered and leaves the queue; the device's own wait for good power. -/
def fuseStartOne (s : Block) : Block :=
  match s.sec.jobs with
  | [] => s.putB Rg.sec Rg.sProgBusy false
  | j :: js =>
    if j.started then s
    else
      match fuseCheck s j.what with
      | some st => fuseAnswer j st (modSec (fun x => { x with jobs := js }) s)
      | none =>
        if powerGood s then
          (modSec (fun x => { x with jobs := { j with started := true } :: js }) s).putB Rg.sec Rg.sProgBusy true
        else if j.op2 == 0 then s
        else fuseAnswer j St.refusedState (modSec (fun x => { x with jobs := js }) s)

def fuseStart (s : Block) : Block := (none :: s.sec.jobs.map some).foldl (fun s _ => fuseStartOne s) s

/-- Queue a request of the device's own. -/
def fuseQueue (w : FuseWhat) (s : Block) : Block :=
  fuseStart (modSec (fun x => { x with
    fuseId := x.fuseId + 1, jobs := x.jobs ++ [{ id := x.fuseId + 1, op2 := 0, what := w, started := false }] }) s)

/-- Queue the request of a command, which is answered when programming ends. -/
def fuseCommand (c : Cmd) (op2 : Nat) (w : FuseWhat) (s : Block) : Block :=
  let id := s.sec.fuseId + 1
  fuseStart ((modSec (fun x => { x with
    fuseId := id, jobs := x.jobs ++ [{ id := id, op2 := op2, what := w, started := false }] }) s).hold c op2 id)

/-- Step the locks of a mask (R592). -/
def stepLocks (m : Nat) (f : Fuses) : Fuses :=
  { f with jtag := f.jtag + fldGet m 0 1 + fldGet m 1 1, expert := f.expert + fldGet m 2 1 + fldGet m 3 1,
           svcDisable := f.svcDisable + fldGet m 4 1, clearview := f.clearview + fldGet m 5 1,
           updateLock := f.updateLock + fldGet m 6 1 }

def setCounter (c v : Nat) (f : Fuses) : Fuses := if c == 0 then { f with fwSvn := v } else { f with plateSvn := v }

/-- What programming of a request has changed when it ends well. -/
def fuseDone (w : FuseWhat) (s : Block) : Block :=
  match w with
  | .program n h k =>
    (setOwnerFuse n { hash := h, prog := true, rev := false }
      (modNv (fun x => { x with ownerKeys := spSet (fun _ => none) x.ownerKeys n (some k) }) s)).raise
      Ev.ownerSlotChanged secOrigin
  | .revoke n => (setOwnerFuse n { ownerFuse s n with rev := true } s).raise Ev.ownerSlotChanged secOrigin
  | .locks m => modFuses (stepLocks m) s
  | .advance c t => rollbackCheck c (modFuses (setCounter c t) s)

/-- What it has changed when a bit does not read 1: `got` is what was programmed of it (R591, R593, R601). -/
def fuseFailed (w : FuseWhat) (got : Nat) (s : Block) : Block :=
  match w with
  | .program n h _ => setOwnerFuse n { hash := BitVec.ofNat 256 got &&& h, prog := false, rev := false } s
  | .revoke _ => s
  | .locks m => modFuses (stepLocks (Nat.land m got)) s
  | .advance c t => modFuses (setCounter c (Nat.min (t - 1) (counterReading s c + got))) s

/-- The front request has been programmed, well or not; the registers show the new readings, and the next request starts. -/
def fuseProgrammed (j : FuseJob) (ok : Bool) (got : Nat) (s : Block) : Block :=
  let s := modSec (fun x => { x with jobs := x.jobs.drop 1 }) s
  let s := if ok then (fuseDone j.what s).raise Ev.fuseProgrammed secOrigin else fuseFailed j.what got s
  let s := fuseToRegs s
  let s := forEach (upto 4) (fun n s => s.putB (Rg.owner n) Rg.oKeyOk (keyMatches s n)) s
  fuseStart (updateHoldCheck (fuseAnswer j (if ok then St.ok else St.fuseFail) s))

/-- FUSE_PROGRAM_DONE (R591). -/
def fuseProgramDoneStep (ok : Bool) (got : Nat) (s : Block) : Block :=
  match s.sec.jobs with
  | [] => s
  | j :: _ => if j.started then fuseProgrammed j ok got s else s

def execFuseProgramDone (ok : Bool) (got : BitVec 256) (s : State) : Host.Outcome State Fault Refusal :=
  live (fuseProgramDoneStep ok got.toNat) s

/-- A release makes regions LIVE (R601): with AUTO_ADVANCE the plate counter advances to the highest PLATE_SVN. -/
def plateAdvance (svn : Nat) (s : Block) : Block :=
  if s.sec.policy.getLsbD 0 && decide (s.nv.fuses.plateSvn < svn) then fuseQueue (.advance 1 (Nat.min 63 svn)) s else s

/-! ### Authorised requests (R598, R599) -/

/-- The valid nonce of a port. -/
def nonceOf (s : Block) (p : Port) : Option (BitVec 128 × BitVec 64) := spGet (fun _ => none) s.sec.nonces (portNum p)

def setNonce (p : Port) (v : Option (BitVec 128 × BitVec 64)) (s : Block) : Block :=
  modSec (fun x => { x with nonces := spSet (fun _ => none) x.nonces (portNum p) v }) s

/-- MAGIC, OPCODE, the zero byte and DEVICE_ID of a request, and its lengths. -/
def requestForm (id : BitVec 64) (op len : Nat) (bs : List Nat) : Bool :=
  fieldAt bs 0 4 == 0x51554152 && fieldAt bs 4 2 == op && fieldAt bs 7 1 == 0 && fieldAt bs 8 8 == id.toNat &&
    zeroFrom bs 0x24 0x40 && decide (fieldAt bs 0x20 4 ≤ 4096) && len == 0x40 + fieldAt bs 0x20 4 + 384

/-- A request whose SIGNER is ACTIVE and whose signature verifies under its stored key (R594, R599). -/
def requestSigned (s : Block) (bs : List Nat) : Bool :=
  let n := fieldAt bs 6 1
  let l := fieldAt bs 0x20 4
  decide (n < 4) && slotReading (ownerFuse s n) == 1 && keyMatches s n &&
    (match spGet (fun _ => none) s.nv.ownerKeys n with
      | some m => rsaOk m (bs.take (0x40 + l)) ((bs.drop (0x40 + l)).take 384)
      | none => false)

/-- The outcome of a request: a refusal, or its signer and payload. -/
inductive AuthResult where
  | refused (status : Nat)
  | accepted (signer : Nat) (payload : List Nat)
deriving DecidableEq, Repr

/-- Check an authorised request of at most 0x40 + 4,096 + 384 bytes and consume the nonce. -/
def authRequest (c : Cmd) (op addr len : Nat) (s : Block) : AuthResult × Block :=
  let r := readMem srcGreone addr (Nat.min len 4544) s
  let nonce := nonceOf s c.port
  let s := setNonce c.port none r.2
  let bad := (AuthResult.refused St.authFail, s.raise Ev.authRejected secOrigin)
  match r.1 with
  | none => bad
  | some bs =>
    let given := BitVec.ofNat 128 (fieldAt bs 0x10 16)
    if (nonce.map (fun x => x.1)) != some given then (.refused St.nonceStale, s)
    else if requestForm (deviceId s) op len bs && requestSigned s bs then
      (.accepted (fieldAt bs 6 1) ((bs.drop 0x40).take (fieldAt bs 0x20 4)), s)
    else bad

/-- A command that takes an authorised request. -/
def Block.authorised (s : Block) (c : Cmd) (op addr len : Nat) (f : List Nat → Block → Block) : Block :=
  match authRequest c op addr len s with
  | (.refused st, s) => s.respond c st
  | (.accepted _ p, s) => f p s

def secNeed (op : Nat) : Need := { op := op, ports := hostPorts, stage := 1 }

/-- SEC_NONCE (R599): 16 random bytes. -/
def secNonceCmd (c : Cmd) (s : Block) : Block :=
  let r := s.draw
  let n := BitVec.ofNat 128 r.1
  (setNonce c.port (some (n, s.devTime)) r.2).respond c St.ok [(16, n.toNat)]

def execSecNonce (h : Hdr) (s : State) : Host.Outcome State Fault Refusal :=
  live (fun s => s.command h (secNeed 0x0B01) secNonceCmd) s

/-- NONCE_EXPIRY (R599): 600 s after issue. -/
def nonceExpiryStep (p : Port) (s : Block) : Block :=
  match nonceOf s p with
  | none => s
  | some (_, t) =>
    reachTime (t + 600000000000) (setNonce p none s)

def execNonceExpiry (p : Port) (s : State) : Host.Outcome State Fault Refusal := live (nonceExpiryStep p) s

/-! ### Status, certificates and owner keys (R594, R607, R614) -/

/-- SEC_STATUS (R614): SEC_FUSE_STATUS, the four slot states and the policy word. -/
def secStatusCmd (c : Cmd) (s : Block) : Block :=
  s.respond c St.ok ([(4, (s.reg Rg.sec).toNat % 2 ^ 32)] ++
    (upto 4).map (fun n => (1, s.f (Rg.owner n) Rg.oState)) ++ [(4, s.sec.policy.toNat)])

def execSecStatus (h : Hdr) (s : State) : Host.Outcome State Fault Refusal :=
  live (fun s => s.command h { op := 0x0B00, ports := allPorts, stage := 1 } secStatusCmd) s

/-- SEC_ID_CERT (R607). -/
def secIdCertCmd (which addr len : Nat) (c : Cmd) (s : Block) : Block :=
  let cert := if which == 0 then s.nv.fuses.idCert else s.nv.fuses.mfgCert
  if 1 < which || len < cert.length then s.respond c St.badArg
  else
    let r := writeMem srcGreone addr (cert.map BitVec.toNat) s
    r.2.respond c (if r.1 then St.ok else St.badArg)

def execSecIdCert (h : Hdr) (which addr len : Nat) (s : State) : Host.Outcome State Fault Refusal :=
  live (fun s => s.command h { op := 0x0B02, ports := allPorts, stage := 1 } (secIdCertCmd which addr len)) s

/-- SEC_OWNER_KEY_PUT (R594): only a key that matches the slot's hash is taken. -/
def secOwnerKeyPutCmd (slot addr : Nat) (c : Cmd) (s : Block) : Block :=
  if 4 ≤ slot then s.respond c St.badArg
  else
    let r := readMem srcGreone addr 388 s
    match r.1.bind keyOfBytes with
    | none => r.2.respond c St.keyMismatch
    | some m =>
      if (ownerFuse r.2 slot).hash == keyHash m then
        ((modNv (fun x => { x with ownerKeys := spSet (fun _ => none) x.ownerKeys slot (some m) }) r.2).putB
          (Rg.owner slot) Rg.oKeyOk true).respond c St.ok
      else r.2.respond c St.keyMismatch

def execSecOwnerKeyPut (h : Hdr) (slot addr : Nat) (s : State) : Host.Outcome State Fault Refusal :=
  live (fun s => s.command h (secNeed 0x0B04) (secOwnerKeyPutCmd slot addr)) s

/-! ### Commands that program fuses (R591 to R596, R601) -/

/-- The payload of SEC_OWNER_PROGRAM: slot, three zero bytes, key. -/
def programPayload (c : Cmd) (p : List Nat) (s : Block) : Block :=
  if p.length != 392 || 4 ≤ fieldAt p 0 1 || fieldAt p 1 3 != 0 then s.respond c St.badArg
  else
    match keyOfBytes (p.drop 4) with
    | none => (s.raise Ev.authRejected secOrigin).respond c St.authFail
    | some m => fuseCommand c 0x0B05 (.program (fieldAt p 0 1) (keyHash m) m) s

/-- No slot is ACTIVE or REVOKED (R595). -/
def noOwner (s : Block) : Bool := (upto 4).all (fun n => slotReading (ownerFuse s n) != 1 && slotReading (ownerFuse s n) != 2)

/-- SEC_OWNER_PROGRAM (R595): without a signature from SVC alone while no slot is ACTIVE or REVOKED. -/
def secOwnerProgramCmd (addr len : Nat) (c : Cmd) (s : Block) : Block :=
  if noOwner s then
    if c.port != .svc then s.respond c St.authFail
    else
      let r := readMem srcGreone addr (Nat.min len 4544) s
      match r.1 with
      | none => r.2.respond c St.badArg
      | some bs =>
        if fieldAt bs 0 4 == 0x51554152 && fieldAt bs 4 2 == 0x0B05 && fieldAt bs 8 8 == (deviceId s).toNat then
          programPayload c ((bs.drop 0x40).take (fieldAt bs 0x20 4)) r.2
        else r.2.respond c St.authFail
  else s.authorised c 0x0B05 addr len (programPayload c)

def execSecOwnerProgram (h : Hdr) (addr len : Nat) (s : State) : Host.Outcome State Fault Refusal :=
  live (fun s => s.command h (secNeed 0x0B05) (secOwnerProgramCmd addr len)) s

/-- SEC_OWNER_REVOKE (R596). -/
def secOwnerRevokeCmd (addr len : Nat) (c : Cmd) (s : Block) : Block :=
  s.authorised c 0x0B06 addr len (fun p s =>
    if p.length != 1 || 4 ≤ fieldAt p 0 1 then s.respond c St.badArg
    else fuseCommand c 0x0B06 (.revoke (fieldAt p 0 1)) s)

def execSecOwnerRevoke (h : Hdr) (addr len : Nat) (s : State) : Host.Outcome State Fault Refusal :=
  live (fun s => s.command h (secNeed 0x0B06) (secOwnerRevokeCmd addr len)) s

/-- SEC_FUSE_LOCK (R592): bit 7 names no fuse. -/
def secFuseLockCmd (addr len : Nat) (c : Cmd) (s : Block) : Block :=
  s.authorised c 0x0B07 addr len (fun p s =>
    if p.length != 1 || 128 ≤ fieldAt p 0 1 then s.respond c St.badArg
    else fuseCommand c 0x0B07 (.locks (fieldAt p 0 1)) s)

def execSecFuseLock (h : Hdr) (addr len : Nat) (s : State) : Host.Outcome State Fault Refusal :=
  live (fun s => s.command h (secNeed 0x0B07) (secFuseLockCmd addr len)) s

/-- SEC_SVN_ADVANCE (R601). -/
def secSvnAdvanceCmd (addr len : Nat) (c : Cmd) (s : Block) : Block :=
  s.authorised c 0x0B08 addr len (fun p s =>
    let ctr := fieldAt p 0 1
    let t := fieldAt p 1 1
    if p.length != 2 || 1 < ctr || counterMax ctr < t ||
        (ctr == 0 && decide ((s.fwu.running.map (fun r => r.svn)).getD 0 < t)) then s.respond c St.badArg
    else fuseCommand c 0x0B08 (.advance ctr t) s)

def execSecSvnAdvance (h : Hdr) (addr len : Nat) (s : State) : Host.Outcome State Fault Refusal :=
  live (fun s => s.command h (secNeed 0x0B08) (secSvnAdvanceCmd addr len)) s

/-! ### The sealing key and the owner policy (R608, R609, R611) -/

/-- The sealing key in a ciphertext under the identity key (R608): a message of another length or for another device holds none. -/
def sealKeyOf (s : Block) (c : List Nat) : Option (BitVec 256) :=
  match oaepOpen s.nv.fuses.primeP.toNat s.nv.fuses.primeQ.toNat c with
  | none => none
  | some m => if m.length == 40 && fieldAt m 32 8 == (deviceId s).toNat then some (BitVec.ofNat 256 (fieldAt m 0 32)) else none

/-- SEC_SEAL_KEY_SET (R608). -/
def secSealKeySetCmd (addr len : Nat) (c : Cmd) (s : Block) : Block :=
  if storeBlocked s then s.respond c St.refusedState
  else s.authorised c 0x0B09 addr len (fun p s =>
    if p.length != 384 then s.respond c St.badArg
    else
      match sealKeyOf s p with
      | none => s.respond c St.authFail
      | some k =>
        let b := latestBank s
        (writeBank { b with keyNow := some k, keyOld := b.keyNow } 0x0B09 s).hold c 0x0B09 0)

def execSecSealKeySet (h : Hdr) (addr len : Nat) (s : State) : Host.Outcome State Fault Refusal :=
  live (fun s => s.command h (secNeed 0x0B09) (secSealKeySetCmd addr len)) s

/-- SEC_POLICY_SET (R611). -/
def secPolicySetCmd (addr len : Nat) (c : Cmd) (s : Block) : Block :=
  if storeBlocked s then s.respond c St.refusedState
  else s.authorised c 0x0B0A addr len (fun p s =>
    if p.length != 4 || 32 ≤ fieldAt p 0 4 then s.respond c St.badArg
    else (writeBank { latestBank s with policy := some (BitVec.ofNat 32 (fieldAt p 0 4)) } 0x0B0A s).hold c 0x0B0A 0)

def execSecPolicySet (h : Hdr) (addr len : Nat) (s : State) : Host.Outcome State Fault Refusal :=
  live (fun s => s.command h (secNeed 0x0B0A) (secPolicySetCmd addr len)) s

/-! ### Attestation (R612, R613) -/

/-- The state of a region as CFG_SECTOR codes it: the highest among its sectors. -/
def regionState (s : Block) (r : Nat) : Nat :=
  (regionSectors s r).foldl (fun m k => Nat.max m (s.f (Rg.sector k) Rg.secState)) 0

/-- The regions that have an entry: LOADED, LIVE or FROZEN. -/
def quoteRegions (s : Block) : List Nat := (upto 256).filter (fun r => r != 0 && decide (2 ≤ regionState s r) && decide (regionState s r ≤ 4))

/-- An entry of the quote. -/
def quoteEntry (s : Block) (r : Nat) : List Nat :=
  let x := getRegion s r
  let rel := (regionSectors s r).any (fun k => s.flag (Rg.sector k) Rg.secRelocated)
  let rev := decide (x.owner < 4) && slotReading (ownerFuse s x.owner) == 2
  [r, regionState s r, x.owner, x.svn,
    x.sealed.toNat + 2 * x.retained.isSome.toNat + 4 * rel.toNat + 8 * rev.toNat, 0, 0, 0] ++
    leBytes 16 x.designId.toNat ++ leBytes 32 x.digest.toNat ++ List.replicate 8 0

/-- The bytes of the quote before its signature, at this instant (R612). -/
def quoteBytes (s : Block) (nonce : BitVec 256) : List Nat :=
  let rs := quoteRegions s
  let slots := (upto 4).foldl (fun v n => v + slotReading (ownerFuse s n) * 4 ^ n) 0
  leBytes 4 0x51545441 ++ leBytes 2 1 ++ leBytes 2 rs.length ++ leBytes 8 (deviceId s).toNat ++ leBytes 32 nonce.toNat ++
    leBytes 8 s.devTime.toNat ++ leBytes 4 ((s.reg Rg.sec).toNat % 2 ^ 32) ++ [slots] ++ leBytes 3 s.sec.policy.toNat ++
    leBytes 32 s.nv.romHash.toNat ++ leBytes 32 ((s.fwu.running.map ImgInfo.digest).getD 0).toNat ++
    leBytes 32 ((s.fwu.running.map ImgInfo.descr).getD 0).toNat ++ List.replicate 32 0 ++
    rs.flatMap (quoteEntry s)

/-- The snapshot of the front quote is taken; one whose length is too short for it is refused. -/
def quoteStartOne (s : Block) : Block :=
  match s.sec.quotes with
  | [] => s
  | q :: qs =>
    if q.bytes.isSome then s
    else if q.len < 576 + 64 * (quoteRegions s).length then
      (modSec (fun x => { x with quotes := qs }) s).close 0x0B03 q.id St.badArg
    else modSec (fun x => { x with quotes := { q with bytes := some (quoteBytes s q.nonce) } :: qs }) s

def quoteStart (s : Block) : Block := s.sec.quotes.foldl (fun s _ => quoteStartOne s) s

/-- A quote joins those that wait. -/
def quoteAsked (c : Cmd) (addr len : Nat) (nonce : BitVec 256) (s : Block) : Block :=
  let id := s.sec.fuseId + 1
  (modSec (fun x => { x with
    fuseId := id, quotes := x.quotes ++ [{ id := id, addr := addr, len := len, nonce := nonce, bytes := none }] }) s).hold c 0x0B03 id

/-- SEC_QUOTE (R612, R613): one is signed, up to 8 wait. -/
def secQuoteCmd (addr len : Nat) (nonce : BitVec 256) (c : Cmd) (s : Block) : Block :=
  if 9 ≤ s.sec.quotes.length then s.respond c St.busy
  else quoteStart (quoteAsked c addr len nonce s)

def execSecQuote (h : Hdr) (addr len : Nat) (nonce : BitVec 256) (s : State) : Host.Outcome State Fault Refusal :=
  live (fun s => s.command h { op := 0x0B03, ports := workPorts, stage := 1 } (secQuoteCmd addr len nonce)) s

/-- The signature of the identity key over a byte string (R587, R606), with a salt that is drawn. -/
def identitySign (bs : List Nat) (s : Block) : List Nat × Block :=
  let r := s.draw
  (rsaSign s.nv.fuses.primeP.toNat s.nv.fuses.primeQ.toNat bs (leBytes 32 r.1), r.2)

/-- QUOTE_SIGNED (R613): written, fenced and answered. -/
def quoteSignedStep (s : Block) : Block :=
  match s.sec.quotes with
  | [] => s
  | q :: qs =>
    match q.bytes with
    | none => s
    | some bs =>
      let sig := identitySign bs s
      let r := writeMem srcGreone q.addr (bs ++ sig.1) sig.2
      quoteStart ((modSec (fun x => { x with quotes := qs }) r.2).close 0x0B03 q.id (if r.1 then St.ok else St.badArg))

def execQuoteSigned (s : State) : Host.Outcome State Fault Refusal := live quoteSignedStep s

/-! ### JTAG (R605) -/

/-- The TAP instruction in effect at the effective JTAG level and stage: EXTEST and INTEST act only in Stage 0 and RECOVERY, and
at level 3 only IDCODE and BYPASS are there. -/
def tapEffect (s : Block) (i : TapInstr) : TapInstr :=
  match i with
  | .idcode => .idcode
  | .bypass => .bypass
  | .boundary => if jtagLevel s == 3 then .bypass else .boundary
  | .extest => if jtagLevel s == 3 || (stageOf s != 0 && stageOf s != 7) then .bypass else .extest
  | .intest => if jtagLevel s == 3 || (stageOf s != 0 && stageOf s != 7) then .bypass else .intest

def jtagTapInstructionStep (instr : TapInstr) (s : Block) : Block := { s with tap := tapEffect s instr }

def execJtagTapInstruction (instr : TapInstr) (s : State) : Host.Outcome State Fault Refusal := live (jtagTapInstructionStep instr) s

end Sys2Proof.Machine
end

