-- ==== Sys2Proof/Machine/Firmware.lean ====
section
/-! DEFINITION. Firmware update and fallback (21): images, the choice of an image at boot, update states, trial and
confirmation, run locks, and the Service Port's IMAGE and PING frames. -/

namespace Sys2Proof.Machine

/-! ### The configuration flash and its images (R615 to R617) -/

/-- What an erased byte of the flash reads as. -/
def flashErased : Nat → BitVec 8 := fun _ => 0xFF

def flashBytes (s : Block) (off n : Nat) : List Nat := (upto n).map (fun i => (spGet flashErased s.nv.flash (off + i)).toNat)

/-- Program bytes of the flash. -/
def flashProgram (off : Nat) (bs : List Nat) (s : Block) : Block :=
  modNv (fun n => { n with flash := (upto bs.length).foldl (fun m i =>
    spSet flashErased m (off + i) (BitVec.ofNat 8 (bs.getD i 0))) n.flash }) s

/-- Erase n bytes of the flash. -/
def flashErase (off n : Nat) (s : Block) : Block :=
  modNv (fun x => { x with flash := spClear (fun a => decide (off ≤ a) && decide (a < off + n)) x.flash }) s

def slotSize : Nat := 0x1000000
def slotBase (k : Nat) : Nat := 0x01000000 + k * slotSize

/-- MAGIC, FORMAT and length of the image in slot k, its signing key and signature (R589, R617). -/
def imageSigned (s : Block) (k : Nat) : Bool :=
  let h := flashBytes s (slotBase k) 0x200
  let body := fieldAt h 0x14 4
  let all := 0x200 + body
  fieldAt h 0 4 == 0x4D574647 && fieldAt h 4 2 == 1 && decide (all + 384 ≤ slotSize) &&
    (match keyOfBytes ((h.drop 0x40).take 388) with
      | none => false
      | some m => s.nv.romKeys.contains (keyHash m) &&
          rsaOk m (flashBytes s (slotBase k) all) (flashBytes s (slotBase k + all) 384))

/-- What the header of the image in slot k says. -/
def imageInfo (s : Block) (k : Nat) : ImgInfo :=
  let h := flashBytes s (slotBase k) 0x20
  let f := fieldAt h
  { version := f 8 4, svn := f 0x0C 2, schema := f 0x0E 2, minSch := f 0x10 2,
    digest := sha256 (flashBytes s (slotBase k) (0x200 + f 0x14 4)),
    descr := sha256 (flashBytes s (slotBase k + 0x200 + f 0x18 4) (f 0x1C 4)) }

/-- The status of verifying slot k (R600, R617, R638). -/
def imageStatus (s : Block) (k : Nat) : Nat :=
  if !imageSigned s k then St.imageBad
  else
    let svn := (imageInfo s k).svn
    if 255 < svn then St.rollbackExhausted else if svn < s.nv.fuses.fwSvn then St.fwSvnLow else St.ok

/-- A slot is usable when its image verifies. -/
def slotUsable (s : Block) (k : Nat) : Bool := imageStatus s k == St.ok

/-- FW_SLOT_k shows its image. -/
def showSlot (k : Nat) (s : Block) : Block :=
  let i := imageInfo s k
  if imageSigned s k then
    ((((s.putB Rg.fw (Rg.fwSlotValid k) true).putB Rg.fw (Rg.fwSlotUsable k) (slotUsable s k)).put Rg.fw (Rg.fwSlotSvn k)
      (Nat.min 255 i.svn)).put Rg.fw (Rg.fwSlotSchema k) i.schema).put Rg.fw (Rg.fwSlotVersion k) i.version
  else s.setReg (Rg.fw + 0x1010 + 8 * k) 0

/-! ### The activation record (R622) -/

/-- The record where no copy is valid. -/
def ActRec.none : ActRec := { seq := 0, slotB := false, trial := false, trials := 0, crashes := 0 }

/-- The newest valid copy is copy 0. -/
def recNewest0 (s : Block) : Bool :=
  match s.nv.rec0, s.nv.rec1 with
  | some a, some b => decide ((b.seq - a.seq).toNat ≥ 2 ^ 31 ∨ a.seq = b.seq)
  | some _, Option.none => true
  | _, _ => false

/-- The newest valid record. -/
def actRec (s : Block) : ActRec := ((if recNewest0 s then s.nv.rec0 else s.nv.rec1)).getD ActRec.none

/-- Put a record into the older copy: none while it is erased. -/
def putRec (r : Option ActRec) (s : Block) : Block :=
  modNv (fun n => if recNewest0 s then { n with rec1 := r } else { n with rec0 := r }) s

/-- Write a record at once, as the boot ROM does. -/
def writeRec (r : ActRec) (s : Block) : Block := putRec (some { r with seq := (actRec s).seq + 1 }) s

/-- Start the write of a record: the older copy is erased first. -/
def startRec (r : ActRec) (op2 : Nat) (s : Block) : Block :=
  let seq := (actRec s).seq + 1
  modFwu (fun x => { x with jobs := x.jobs ++ [.record { r with seq := seq } op2] }) (putRec none s)

/-- The registers show the record. -/
def showRec (s : Block) : Block :=
  let r := actRec s
  ((s.putB Rg.fw Rg.fwActive r.slotB).put Rg.fw Rg.fwTrials r.trials).put Rg.fw Rg.fwCrashes r.crashes

/-! ### The choice of an image (R623) -/

/-- The other slot becomes ACTIVE, CONFIRMED, with no crashes; FW_FALLBACK. -/
def fallBack (result : Nat) (s : Block) : Block :=
  let r := actRec s
  let s := writeRec { r with slotB := !r.slotB, trial := false, trials := 0, crashes := 0 } s
  (when (result != 0) (fwResult result) s).raise Ev.fwFallback fwOrigin result

/-- The record's part of R623, before the slot is looked at: trials, crashes and the fall backs they cause. -/
def bootRecord (crash : Bool) (s : Block) : Block :=
  let r := actRec s
  if r.trial then
    if 0 < r.trials then writeRec { r with trials := r.trials - 1 } s else fallBack 2 s
  else
    let s := if crash then writeRec { r with crashes := Nat.min (r.crashes + 1) 3 } s else s
    let r := actRec s
    if r.crashes == 3 && slotUsable s (1 - r.slotB.toNat) then fallBack 3 s else s

/-- The slot it names is usable, or the other one is taken; none enters RECOVERY. -/
def bootSlot (s : Block) : Option Nat × Block :=
  let k := (actRec s).slotB.toNat
  if slotUsable s k then (some k, s)
  else if slotUsable s (1 - k) then (some (1 - k), fallBack 0 s)
  else (none, s)

/-- The choice of R623 is made: the image of a slot runs, or the part is in RECOVERY. -/
def imageChoice (crash : Bool) (s : Block) : Block :=
  let b := bootSlot (bootRecord crash s)
  let s := showSlot 1 (showSlot 0 (showRec b.2))
  match b.1 with
  | some k =>
    { s with start := { s.start with imageChosen := true },
             fwu := { s.fwu with running := some (imageInfo s k), bootTime := s.devTime } }
  | none =>
    let s := s.mbx.opens.foldl (fun s o => s.answer o St.interrupted) s
    let s := { s with gr := { s.gr with up := true, restarting := false, restartDue := none },
                      fwu := { s.fwu with running := none } }
    setFwState 0 (s.put Rg.rst Rg.stage 7)

/-- BOOT_IMAGE_CHOICE (R623): at a Device reset in Stage 0, or in a Greone restart once the cores are held. -/
def bootImageChoiceStep (s : Block) : Block :=
  if s.start.imageChosen || !((stageOf s == 0 && s.gr.up) || s.gr.restarting) then s
  else imageChoice (s.gr.restartDue == some 1 || s.gr.restartDue == some 2) s

def execBootImageChoice (s : State) : Host.Outcome State Fault Refusal := live bootImageChoiceStep s

/-- What firmware does about updates as it starts (R631, R636): TRIAL, an interrupted update, an advance and a settings write
that a confirmation left undone. -/
def fwRebuild (s : Block) : Block :=
  if (actRec s).trial then setFwState 5 s
  else
    let bad (s : Block) : Block :=
      (fwResult 4 (modNv (fun n => { n with pending := 0 }) (setFwState 0 s))).raise Ev.fwStagingInvalid fwOrigin
        St.interrupted
    let s :=
      if s.nv.pending == 1 then bad s
      else if s.nv.pending == 2 then (if slotUsable s (stagingSlot s) then setFwState 3 s else bad s)
      else setFwState 0 s
    match s.fwu.running with
    | none => s
    | some r =>
      let s := if s.nv.fuses.fwSvn < r.svn then fuseQueue (.advance 0 (Nat.min 255 r.svn)) s else s
      match newerBank s.nv.bank0 s.nv.bank1 with
      | some b => if b.schema < r.schema && !provisional s then writeBank { latestBank s with schema := r.schema } 0 s else s
      | none => s

/-! ### Update commands (R627 to R629) -/

/-- The status with which R629 refuses, FW_REVERT without the lock condition. -/
def updateRefused (s : Block) (revert : Bool) : Option Nat :=
  if runLockHeld s then some St.runLocked
  else if !powerGood s then some St.powerNotGood
  else if !revert && updateLocked s then some St.updateLocked
  else none

/-- Update commands are answered in RECOVERY by the boot ROM (R628), and otherwise from Stage 1 on. -/
def Block.updateCommand (s : Block) (h : Hdr) (op : Nat) (ports : List Port) (f : Cmd → Block → Block) : Block :=
  s.command h { op := op, ports := ports, stage := 0 } (fun c s =>
    if stageOf s == 0 then s.respond c St.refusedState else f c s)

/-- FW_STATUS: FW_UPDATE_STATUS, FW_SLOT_0, FW_SLOT_1. -/
def fwStatusCmd (c : Cmd) (s : Block) : Block :=
  s.respond c St.ok [(8, (s.reg (Rg.fw + 0x1000)).toNat), (8, (s.reg (Rg.fw + 0x1010)).toNat),
    (8, (s.reg (Rg.fw + 0x1018)).toNat)]

def execFwStatus (h : Hdr) (s : State) : Host.Outcome State Fault Refusal :=
  live (fun s => s.command h { op := 0x0C00, ports := allPorts, stage := 0 } fwStatusCmd) s

/-- RECEIVING begins: the staging slot is invalid, and being erased. DESIGN CHOICE: what it held is lost at once, so that one whose erase is
interrupted does not verify (R636). -/
def receivingBegins (len : Nat) (s : Block) : Block :=
  let s := setFwState 1 (s.put Rg.fw Rg.fwReceived 0)
  let s := s.setReg (Rg.fw + 0x1010 + 8 * stagingSlot s) 0
  let s := modFwu (fun x => { x with length := len, buffer := [], lastSeq := none, flashBad := false, erasing := true }) s
  flashErase (slotBase (stagingSlot s)) slotSize (modNv (fun n => { n with pending := 1 }) s)

/-- FW_BEGIN (R627): RECEIVING; the staging slot is erased. -/
def fwBeginCmd (len : Nat) (c : Cmd) (s : Block) : Block :=
  if fwState s != 0 && fwState s != 6 then s.respond c St.refusedState
  else if len ≤ 0x200 + 384 || slotSize < len then s.respond c St.badArg
  else
    match updateRefused s false with
    | some st => s.respond c st
    | none => (receivingBegins len s).hold c 0x0C01 0

def execFwBegin (h : Hdr) (len : Nat) (s : State) : Host.Outcome State Fault Refusal :=
  live (fun s => s.updateCommand h 0x0C01 svcPort (fwBeginCmd len)) s

/-- The staging slot has been erased. -/
def slotErased (s : Block) : Block := modFwu (fun x => { x with erasing := false }) s

/-- FW_ERASE_DONE (R627). -/
def fwEraseDoneStep (ok : Bool) (s : Block) : Block :=
  if !s.fwu.erasing then s
  else if ok then (slotErased s).close 0x0C01 0 St.ok
  else endReceiving St.flashFail (slotErased s)

def execFwEraseDone (ok : Bool) (s : State) : Host.Outcome State Fault Refusal := live (fwEraseDoneStep ok) s

/-- Image bytes taken so far. -/
def fwTaken (s : Block) : Nat := s.f Rg.fw Rg.fwReceived

/-- The update is dropped: IDLE, nothing pending. -/
def fwIdle (s : Block) : Block :=
  modFwu (fun x => { x with buffer := [], lastSeq := none, reading := false })
    (modNv (fun n => { n with pending := 0 }) (setFwState 0 s))

/-- The bytes received: those programmed, and those still in the buffer. -/
def receivedBytes (s : Block) : List Nat :=
  flashBytes s (slotBase (stagingSlot s)) (fwTaken s - s.fwu.buffer.length) ++ s.fwu.buffer

/-- FW_END (R627): the length and SHA-256 of what was received. -/
def fwEndCmd (digest : BitVec 256) (c : Cmd) (s : Block) : Block :=
  if fwState s != 1 || s.fwu.erasing then s.respond c St.refusedState
  else if s.fwu.flashBad then (fwIdle s).respond c St.flashFail
  else if fwTaken s != s.fwu.length || sha256 (receivedBytes s) != digest then (fwIdle s).respond c St.digestMismatch
  else (modNv (fun x => { x with pending := 2 }) (setFwState 2 s)).respond c St.ok

def execFwEnd (h : Hdr) (digest : BitVec 256) (s : State) : Host.Outcome State Fault Refusal :=
  live (fun s => s.updateCommand h 0x0C02 svcPort (fwEndCmd digest)) s

/-- FW_VERIFY (R627): the staging slot is read back. -/
def fwVerifyCmd (c : Cmd) (s : Block) : Block :=
  if fwState s != 2 || s.fwu.reading then s.respond c St.refusedState
  else (modFwu (fun x => { x with reading := true }) s).hold c 0x0C03 0

def execFwVerify (h : Hdr) (s : State) : Host.Outcome State Fault Refusal :=
  live (fun s => s.updateCommand h 0x0C03 svcPort fwVerifyCmd) s

/-- The staging slot has been read back with a status: VERIFIED, or IDLE. -/
def readBack (status : Nat) (s : Block) : Block :=
  let s := showSlot (stagingSlot s) (modFwu (fun x => { x with reading := false }) s)
  (if status == St.ok then setFwState 3 s else fwIdle s).close 0x0C03 0 status

/-- FW_READBACK_DONE (R617, R627). -/
def fwReadbackDoneStep (ok : Bool) (s : Block) : Block :=
  if !s.fwu.reading || !s.fwu.buffer.isEmpty then s
  else readBack (if !ok || s.fwu.flashBad then St.flashFail else imageStatus s (stagingSlot s)) s

def execFwReadbackDone (ok : Bool) (s : State) : Host.Outcome State Fault Refusal := live (fwReadbackDoneStep ok) s

/-- Activation (R627): a TRIAL record for the staging slot with three trials. -/
def fwActivateNow (s : Block) : Block :=
  startRec { ActRec.none with slotB := stagingSlot s == 1, trial := true, trials := 3 } 0x0C04 s

/-- FW_ACTIVATE (R627, R629). -/
def fwActivateCmd (whenPermitted : Nat) (c : Cmd) (s : Block) : Block :=
  if fwState s != 3 || !(openOf s 0x0C04 0).isEmpty then s.respond c St.refusedState
  else if 1 < whenPermitted then s.respond c St.badArg
  else
    match updateRefused s false with
    | none => (fwActivateNow s).hold c 0x0C04 0
    | some st =>
      if whenPermitted == 1 && !updateLocked s then (setFwState 4 s).hold c 0x0C04 0
      else s.respond c (if whenPermitted == 1 then St.updateLocked else st)

def execFwActivate (h : Hdr) (whenPermitted : Nat) (s : State) : Host.Outcome State Fault Refusal :=
  live (fun s => s.updateCommand h 0x0C04 hostPorts (fwActivateCmd whenPermitted)) s

/-- FW_ARMED_ACTIVATION (R629): R629 no longer refuses. -/
def fwArmedActivationStep (s : Block) : Block :=
  if fwState s == 4 && !s.gr.restarting && (updateRefused s false).isNone then fwActivateNow (setFwState 3 s) else s

def execFwArmedActivation (s : State) : Host.Outcome State Fault Refusal := live fwArmedActivationStep s

/-- The update is dropped, its open commands answered. -/
def updateAborted (s : Block) : Block :=
  let s := (s.close 0x0C01 0 St.refusedState).close 0x0C03 0 St.refusedState
  fwResult 5 (fwIdle (modFwu (fun x => { x with erasing := false }) s))

/-- FW_ABORT (R627): ARMED returns to VERIFIED, and its FW_ACTIVATE is answered REFUSED_STATE. -/
def fwAbortCmd (c : Cmd) (s : Block) : Block :=
  if fwState s == 4 then ((setFwState 3 s).close 0x0C04 0 St.refusedState).respond c St.ok
  else if fwState s == 1 || fwState s == 2 || (fwState s == 3 && (openOf s 0x0C04 0).isEmpty) then
    (updateAborted s).respond c St.ok
  else s.respond c St.refusedState

def execFwAbort (h : Hdr) (s : State) : Host.Outcome State Fault Refusal :=
  live (fun s => s.updateCommand h 0x0C05 svcPort fwAbortCmd) s

/-! ### Trial and confirmation (R631 to R635), crashes (R624) -/

/-- A Greone restart is to begin, with its cause: 1 LOCKSTEP, 2 WATCHDOG, 3 UPDATE, 4 COMMANDED (R47). -/
def restartFor (cause : Nat) (s : Block) : Block :=
  if s.gr.restartDue.isSome || s.gr.restarting then s else { s with gr := { s.gr with restartDue := some cause } }

/-- Every mailbox that answers is READY. -/
def allReady (s : Block) : Bool := allPorts.all (fun p => !portAnswers s p || portReady s p)

/-- The write of the confirmation record begins. -/
def trialPassed (s : Block) : Block := startRec { actRec s with trial := false, trials := 0, crashes := 0 } 0 s

/-- FW_TRIAL_CHECK (R631, R632): `pass` is what the self-test and the management ports show. -/
def fwTrialCheckStep (pass : Bool) (s : Block) : Block :=
  if fwState s != 5 || s.gr.restarting || s.gr.restartDue.isSome || !s.fwu.jobs.isEmpty then s
  else if !pass then restartFor 4 (s.raise Ev.fwTrialFailed fwOrigin)
  else if !allReady s || (provisional s && !s.fwu.accepted) then s
  else trialPassed (reachTime (s.fwu.bootTime + 60000000000) s)

def execFwTrialCheck (pass : Bool) (s : State) : Host.Outcome State Fault Refusal := live (fwTrialCheckStep pass) s

/-- The confirmation record is written (R631, R635): the counter advances and the settings go into the idle bank. -/
def fwConfirm (s : Block) : Block :=
  let s := (fwResult 1 (setFwState 6 s)).raise Ev.fwConfirmed fwOrigin
  let svn := (s.fwu.running.map ImgInfo.svn).getD 0
  let s := if s.nv.fuses.fwSvn < svn then fuseQueue (.advance 0 (Nat.min 255 svn)) s else s
  let s := s.putB Rg.rst Rg.provisional false
  writeBank { latestBank s with schema := (s.fwu.running.map ImgInfo.schema).getD 0 } 0 s

/-- The owner accepts the defaults. -/
def defaultsAccepted (c : Cmd) (s : Block) : Block := (modFwu (fun x => { x with accepted := true }) s).respond c St.ok

/-- FW_ACCEPT_DEFAULTS (R635). -/
def fwAcceptDefaultsCmd (addr len : Nat) (c : Cmd) (s : Block) : Block :=
  if !provisional s then s.respond c St.notProvisional
  else
    if (activeSlots s).isEmpty then (if c.port == .svc then defaultsAccepted c s else s.respond c St.authFail)
    else s.authorised c 0x0C06 addr len (fun _ => defaultsAccepted c)

def execFwAcceptDefaults (h : Hdr) (addr len : Nat) (s : State) : Host.Outcome State Fault Refusal :=
  live (fun s => s.command h { op := 0x0C06, ports := hostPorts, stage := 1 } (fwAcceptDefaultsCmd addr len)) s

/-- FW_REVERT (R633). -/
def fwRevertCmd (c : Cmd) (s : Block) : Block :=
  if fwState s != 5 || !s.fwu.jobs.isEmpty || s.gr.restartDue.isSome then s.respond c St.refusedState
  else
    match updateRefused s true with
    | some st => s.respond c st
    | none =>
      let k := stagingSlot s
      if slotUsable s k then
        (startRec { ActRec.none with slotB := k == 1 } 0x0C07 s).hold c 0x0C07 0
      else s.respond c St.noFallback

def execFwRevert (h : Hdr) (s : State) : Host.Outcome State Fault Refusal :=
  live (fun s => s.command h { op := 0x0C07, ports := hostPorts, stage := 1 } fwRevertCmd) s

/-- CRASH_CLEAR (R624): confirmed firmware has run for 10 minutes. -/
def crashClearStep (s : Block) : Block :=
  let r := actRec s
  if r.trial || r.crashes == 0 || s.fwu.running.isNone || s.gr.restarting || !s.fwu.jobs.isEmpty then s
  else startRec { r with crashes := 0 } 1 (reachTime (s.fwu.bootTime + 600000000000) s)

def execCrashClear (s : State) : Host.Outcome State Fault Refusal := live crashClearStep s

/-- The write of a record ends (R622, R627, R628, R631, R633). DESIGN CHOICE: after an activation the state is the TRIAL that the boot will
find, and in RECOVERY, where no boot follows, IDLE. -/
def recordWritten (r : ActRec) (op2 : Nat) (s : Block) : Block :=
  let s := showRec (putRec (some r) s)
  if op2 == 0x0C04 then
    let s := modNv (fun n => { n with pending := 0 }) s
    if stageOf s == 7 then (setFwState 0 s).close 0x0C04 0 St.ok
    else
      let s := ((setFwState 5 s).putB Rg.rst Rg.causeUpdate true).raise Ev.fwActivated fwOrigin
      restartFor 3 (s.close 0x0C04 0 St.ok)
  else if op2 == 0x0C07 then restartFor 4 ((fwResult 6 s).close 0x0C07 0 St.ok)
  else if op2 == 0 then fwConfirm s
  else s

/-! ### Run locks (R630) -/

/-- A port holds its run lock for a number of seconds. -/
def takeRun (p lease : Nat) (s : Block) : Block :=
  modFwu (fun x => { x with leases := spSet (fun _ => 0) x.leases p (s.devTime.toNat + lease * 1000000000) })
    (s.putB Rg.fw (Rg.runHeld p) true)

/-- RUN_LOCK: a lease of 1 to 86,400 s. -/
def runLockCmd (lease : Nat) (c : Cmd) (s : Block) : Block :=
  if lease == 0 || 86400 < lease then s.respond c St.badArg
  else (takeRun (portNum c.port) lease s).respond c St.ok

def execRunLock (h : Hdr) (lease : Nat) (s : State) : Host.Outcome State Fault Refusal :=
  live (fun s => s.command h { op := 0x0C08, ports := [.h0, .p1, .p2, .fab], stage := 1 } (runLockCmd lease)) s

/-- RUN_UNLOCK: FORCE, from SVC alone, releases every lock. -/
def runUnlockCmd (force : Nat) (c : Cmd) (s : Block) : Block :=
  if 1 < force then s.respond c St.badArg
  else if force == 1 && c.port != .svc then s.respond c St.authFail
  else (if force == 1 then forEach [0, 1, 2, 5] releaseRun s else releaseRun (portNum c.port) s).respond c St.ok

def execRunUnlock (h : Hdr) (force : Nat) (s : State) : Host.Outcome State Fault Refusal :=
  live (fun s => s.command h { op := 0x0C09, ports := workPorts, stage := 1 } (runUnlockCmd force)) s

/-- RUN_LOCK_EXPIRY. -/
def runLockExpiryStep (p : Nat) (s : Block) : Block :=
  if s.flag Rg.fw (Rg.runHeld p) then
    let s := reachTime (BitVec.ofNat 64 (spGet (fun _ => 0) s.fwu.leases p)) s
    (releaseRun p s).raise Ev.runLockExpired fwOrigin
  else s

def execRunLockExpiry (p : Port) (s : State) : Host.Outcome State Fault Refusal :=
  live (fun s => if [0, 1, 2, 5].contains (portNum p) then runLockExpiryStep (portNum p) s else s) s

/-- RUN_LOCK_STATUS, whose LEASE_LEFT is a view of the shortest lease. -/
def runLockStatus (s : Block) : Nat :=
  let held := [0, 1, 2, 5].filter (fun p => s.flag Rg.fw (Rg.runHeld p))
  let left (p : Nat) : Nat := (spGet (fun _ => 0) s.fwu.leases p - s.devTime.toNat + 999999999) / 1000000000
  let short := match held with
    | [] => 0
    | p :: ps => ps.foldl (fun m q => Nat.min m (left q)) (left p)
  fldGet (s.reg (Rg.fw + 0x1020)).toNat 0 6 + short * 2 ^ 8

/-! ### The Service Port (R618, R619, R621) -/

/-- A frame's bytes. -/
def frameBytes (f : List (BitVec 8)) : List Nat := f.map BitVec.toNat

/-- Payload bytes of a frame: none for READ. -/
def framePayload (bs : List Nat) : List Nat := if bs.getD 1 0 == 2 then [] else (bs.drop 17).take (fieldAt bs 13 4)

/-- The frame has its whole length and its CRC holds. -/
def frameOk (bs : List Nat) : Bool :=
  let n := 17 + (framePayload bs).length
  bs.length == n + 4 && (bs.getD 1 0 == 2 || (framePayload bs).length == fieldAt bs 13 4) &&
    crc32 ((bs.take n).drop 1) == fieldAt bs n 4

/-- An ACK with a status. -/
def svcAck (bs : List Nat) (status : Nat) (s : Block) : Block :=
  s.emit (.svcAnswer 0x81 status (fieldAt bs 3 2) (fieldAt bs 5 8) 0 [])

/-- A frame of a type reaches a Service Port that exists (R604): a bad CRC is answered and counted. -/
def svcFrame (typ : Nat) (f : List (BitVec 8)) (act : List Nat → Block → Block) (s : Block) : Block :=
  let bs := frameBytes f
  if s.flag Rg.sec Rg.sSvcDisable || bs.getD 0 0 != 0xA5 || bs.getD 1 0 != typ then s
  else if !frameOk bs then svcAck bs 2 (s.bump Rg.svcCrcErr)
  else act bs s

def execSvcPing (frame : List (BitVec 8)) (s : State) : Host.Outcome State Fault Refusal :=
  live (fun s => svcFrame 4 frame (fun bs s => svcAck bs 0 s) s) s

/-- The program buffer (R621). -/
def programBuffer : Nat := 65536

/-- The payload of an IMAGE frame is taken. -/
def imageTaken (p : List Nat) (here : Nat × Nat) (s : Block) : Block :=
  modFwu (fun x => { x with buffer := x.buffer ++ p, lastSeq := some here }) (s.put Rg.fw Rg.fwReceived (fwTaken s + p.length))

/-- An IMAGE frame (R621). -/
def svcImageAct (bs : List Nat) (s : Block) : Block :=
  let p := framePayload bs
  let here := (fieldAt bs 3 2, fieldAt bs 5 8)
  if fwState s != 1 then svcAck bs 4 s
  else if s.fwu.lastSeq == some here then svcAck bs 0 s
  else if here.2 != fwTaken s || s.fwu.length < fwTaken s + p.length || p.isEmpty || 4096 < p.length then svcAck bs 5 s
  else if programBuffer < s.fwu.buffer.length + p.length then svcAck bs 1 s
  else svcAck bs 0 (imageTaken p here s)

def execSvcImage (frame : List (BitVec 8)) (s : State) : Host.Outcome State Fault Refusal :=
  live (fun s => svcFrame 3 frame svcImageAct s) s

end Sys2Proof.Machine
end

