-- ==== Sys2Proof/Machine/IoBanks.lean ====
section
/-! DEFINITION. I/O banks (09): VCCO faults and levels, impedance calibration, IO_PIN, delay lines and termination. -/

namespace Sys2Proof.Machine

def modIo (f : IoSt → IoSt) (s : Block) : Block := { s with io := f s.io }

/-- A bank's VCCO fault: its flags, count, event and EIC source; its TPP's run ends at the next period boundary (R255, R305). -/
def bankFault (d b : Nat) (s : Block) : Block :=
  let a := Rg.ioBank d b
  let s := modIo (fun x => { x with faulted := x.faulted ++ [8 * d + b] }) s
  let s := ((s.putB a Rg.vccoFault true).putB a Rg.vccoOk false).bumpBy a ioFaultCnt 1
  let s := (s.raise Ev.vccoFault (originOf (0x25 + 0x20 * d))).eicEdge (eicDie d 18)
  when (decide (b < 6)) (fun s => runStopAt (6 * d + b) St.bankFault (nowPs s) s) s

/-- A bank leaves VCCO_FAULT. -/
def bankClears (d b : Nat) (s : Block) : Block := vccoRefresh d b (modIo (fun x => { x with faulted := x.faulted.filter (· != 8 * d + b) }) s)

/-- A bank's class has been set by a plate (R256): a voltage outside ±8% of it puts the bank in VCCO_FAULT at once, and the class NONE
knows no fault (R258). -/
def bankClass (d b : Nat) (s : Block) : Block :=
  let faulted := s.io.faulted.contains (8 * d + b)
  if classMv s d b == 0 then bankClears d b s
  else if !faulted && !within 8 (classMv s d b) (bankLevel s d b) then bankFault d b s
  else vccoRefresh d b s

/-- VCCO of a bank is now so many mV: VCCO_OK follows, and a calibration at a voltage 2% away is stale (R255, R290, R293). -/
def vccoNow (d b mv : Nat) (s : Block) : Block :=
  let s := vccoRefresh d b (modIo (fun x => { x with level := spSet (fun _ => 0) x.level (8 * d + b) mv }) s)
  when (decide (b < 6) && !within 2 (getTpp s (6 * d + b)).calLevel mv) (tppCalStale (6 * d + b)) s

/-- VCCO_FAULT_ENTER (R255): VCCO has been so many mV, outside ±8% of the class, for 10 µs; a bank whose class is NONE has no fault. -/
def vccoFaultEnterStep (d b mv : Nat) (s : Block) : Block :=
  if classMv s d b == 0 || s.io.faulted.contains (8 * d + b) || within 8 (classMv s d b) mv then s else bankFault d b (vccoNow d b mv s)

def execVccoFaultEnter (die : Fin 4) (bank : Fin 8) (mv : BitVec 12) (s : State) : Host.Outcome State Fault Refusal :=
  live (vccoFaultEnterStep die.val bank.val mv.toNat) s

/-- VCCO_FAULT_EXIT (R255): VCCO has been within ±5% for 1 ms; the pins return to the state that ownership gives them. -/
def vccoFaultExitStep (d b mv : Nat) (s : Block) : Block :=
  if s.io.faulted.contains (8 * d + b) && classMv s d b != 0 && within 5 (classMv s d b) mv then bankClears d b (vccoNow d b mv s) else s

def execVccoFaultExit (die : Fin 4) (bank : Fin 8) (mv : BitVec 12) (s : State) : Host.Outcome State Fault Refusal :=
  live (vccoFaultExitStep die.val bank.val mv.toNat) s

/-- VCCO_LEVEL_CHANGE (R257, R290): VCCO of a bank is now so many mV. -/
def execVccoLevelChange (die : Fin 4) (bank : Fin 8) (mv : BitVec 12) (s : State) :
    Host.Outcome State Fault Refusal := live (vccoNow die.val bank.val mv.toNat) s

/-- The level that the part gives pin n of die d, if it gives one: 0 to what a bank in VCCO_FAULT delivers (R255), a safe state that is driven or
kept (R259), the level that vectors drive (R273). -/
def pinGiven (s : Block) (d n : Nat) : Option Bool :=
  let t := getTpp s (6 * d + bankOf n)
  let k := n % 48
  let j := if pairSecond s d n then k - 1 else k
  if s.io.faulted.contains (8 * d + bankOf n) then some false
  else if pinUnpowered s d n then none
  else if s.flag (Rg.ioPin d n) Rg.pinInSafe then
    (if safeInForce s d n == 5 then some (spGet (fun _ => false) s.io.keep (ioKey d n)) else safeDrive s d n)
  else if decide (n < 288) && s.f (Rg.ioPin d n) Rg.pinOwner == 2 && t.drv.getLsbD j then some (t.lvl.getLsbD j != pairSecond s d n)
  else none

/-- The result of a calibration of a die's six HP banks (R266); a failure raises its event once until a calibration succeeds. -/
def ioCalibrated (d : Nat) (ok : Bool) (s : Block) : Block :=
  let said := spGet (fun _ => false) s.once (Rg.ioBank d 0)
  let s := forEach (upto 6) (fun b s => s.putB (Rg.ioBank d b) (if ok then Rg.ioCalDone else Rg.ioCalFail) true) s
  let s := { s with once := spSet (fun _ => false) s.once (Rg.ioBank d 0) (!ok) }
  when (!ok && !said) (fun s => s.raise Ev.ioCalFail (originOf (0x25 + 0x20 * d))) s

/-- IO_CALIBRATION: from Stage 1 on. -/
def ioCalibrationStep (d : Nat) (ok : Bool) (s : Block) : Block :=
  if stageOf s == 0 || stageOf s == 7 then s else ioCalibrated d ok s

def execIoCalibration (die : Fin 4) (ok : Bool) (s : State) : Host.Outcome State Fault Refusal :=
  live (ioCalibrationStep die.val ok) s

/-- A write to IO_PIN_n (R261, R269), of 8 bytes or of its low or high 4: SAFE takes effect at the next marker, and the delay
targets are replaced. -/
def ioPinWriteStep (d n : Nat) (size8 high : Bool) (v : Nat) (s : Block) : Block :=
  let a := Rg.ioPin d n + (if !size8 && high then 4 else 0)
  if !pinExists n then s
  else when (size8 || !high) (safeWritten d n) (s.plainWrite a size8 v)

def execIoPinWrite (die : Fin 4) (pin : Fin 384) (size8 high : Bool) (value : BitVec 64) (s : State) :
    Host.Outcome State Fault Refusal := live (ioPinWriteStep die.val pin.val size8 high value.toNat) s

/-- A pin belongs to a design that runs in the sector that reaches it (R193, R250). -/
def pinFabric (s : Block) (d n : Nat) : Bool :=
  s.f (Rg.ioPin d n) Rg.pinOwner == 1 && s.f (Rg.sector (pinSector d n)) Rg.secState == 3 &&
    s.f (Rg.sector (pinSector d n)) Rg.secRegion == spGet (fun _ => 0) s.cfg.pinOwner (ioKey d n)

/-- DELAY_FABRIC_STEP (R269): where the plate enables the ports, a step of DLY_CE and DLY_INC adjusts the target as it stands; HP pins alone have delay
lines. -/
def delayFabricStepStep (d n : Nat) (output inc : Bool) (s : Block) : Block :=
  let fl := if output then Rg.pinOdelay else Rg.pinIdelay
  let a := Rg.ioPin d n
  if n < 288 && pinFabric s d n && (pinLogic s d n).dlyEn then
    if inc then (if s.f a fl < 255 then s.put a fl (s.f a fl + 1) else s) else s.put a fl (s.f a fl - 1)
  else s

def execDelayFabricStep (die : Fin 4) (pin : Fin 384) (output inc : Bool) (s : State) :
    Host.Outcome State Fault Refusal := clockedOn (die.val) (delayFabricStepStep die.val pin.val output inc) s

/-- One tap toward the target (R269). -/
def towards (now target : Nat) : Nat := if now < target then now + 1 else if target < now then now - 1 else now

/-- DELAY_LINE_TAP_MOVE (R268, R269): the delay lines of a fabric-assigned HP pin move one tap. -/
def delayLineTapMoveStep (d n : Nat) (s : Block) : Block :=
  let a := Rg.ioPin d n
  if n < 288 && s.f a Rg.pinOwner == 1 then
    (s.put a Rg.pinIdelayNow (towards (s.f a Rg.pinIdelayNow) (s.f a Rg.pinIdelay))).put a Rg.pinOdelayNow
      (towards (s.f a Rg.pinOdelayNow) (s.f a Rg.pinOdelay))
  else s

def execDelayLineTapMove (die : Fin 4) (pin : Fin 384) (s : State) : Host.Outcome State Fault Refusal :=
  clockedOn (die.val) (delayLineTapMoveStep die.val pin.val) s

/-- TERM_EN_CHANGE (R265), where the plate enables TERM_EN. -/
def termEnChangeStep (d n : Nat) (on : Bool) (s : Block) : Block :=
  if pinFabric s d n && (pinLogic s d n).termEn then modIo (fun x => { x with termOn := spSet (fun _ => false) x.termOn (ioKey d n) on }) s else s

def execTermEnChange (die : Fin 4) (pin : Fin 384) (on : Bool) (s : State) : Host.Outcome State Fault Refusal :=
  clockedOn (die.val) (termEnChangeStep die.val pin.val on) s

end Sys2Proof.Machine
end

