-- ==== Sys2Proof/Machine/Lanes.lean ====
section
/-! DEFINITION. Serial lanes (12): blocks and their coding, negotiated bring-up, equalisation, groups and steering, loopbacks,
PRBS and eye scans.  What arrives on the line and when adaptation ends come with the rows. -/

namespace Sys2Proof.Machine

namespace St
def noPartner : Nat := 0x0400
def noCommonRate : Nat := 0x0401
def groupInvalid : Nat := 0x0402
def modeConflict : Nat := 0x0403
def groupPartner : Nat := 0x0404
def scanBusy : Nat := 0x0405
end St

def getLane (s : Block) (n : Nat) : LaneSt := spGet (fun _ => LaneSt.reset) s.lanes n
def setLane (n : Nat) (x : LaneSt) (s : Block) : Block := { s with lanes := spSet (fun _ => LaneSt.reset) s.lanes n x }
def modLane (n : Nat) (f : LaneSt → LaneSt) (s : Block) : Block := setLane n (f (getLane s n)) s

/-- LANE_STATUS.STATE: 0 DISABLED, 1 BASE, 2 STEP, 3 EQ, 4 CHECK, 5 ACTIVE. -/
def laneState (s : Block) (n : Nat) : Nat := s.f (Rg.lane n) Rg.lState

/-- A field of LANE_CFG as it acts: a change takes effect at the next LANE_UP. -/
def laneCfg (s : Block) (n : Nat) (f : Fld) : Nat :=
  if laneState s n == 0 then s.f (Rg.lane n) f else fldGet (getLane s n).cfg.toNat f.lo f.w

/-- MODE: 0 NEGOTIATED, 1 FIXED, 2 RAW. -/
def laneMode (s : Block) (n : Nat) : Nat := laneCfg s n Rg.lMode

/-- The line rate of a code in kBd (R351). -/
def lineRate (code : Nat) : Nat := [1250000, 2578125, 5156250, 10312500, 16500000, 25781250, 28125000, 32000000].getD code 0

/-- LANE_UP at a lane's fabric port (R348): ACTIVE and not QUIESCED. -/
def laneUpPort (s : Block) (n : Nat) : Bool := laneState s n == 5 && !s.flag (Rg.lane n) Rg.lQuiesced

/-- The sector that reaches a lane (R100). -/
def laneSector (n : Nat) : Nat :=
  let q := n % 32 / 4
  80 * (n / 32) + (if q < 4 then 0 else 72) + 2 * (q % 4) + (if n % 4 < 2 then 0 else 1)

/-- The port ID of lane n's quad, and its EIC source. -/
def laneOrigin (n : Nat) : Nat := originOf (0x20 + 0x20 * (n / 32) + 0x18 + n % 32 / 4)

/-- A lane event: the event, and the quad's EIC source (R532). -/
def laneEvent (n code : Nat) (s : Block) : Block := (s.raise code (laneOrigin n)).eicEdge (eicDie (n / 32) (8 + n % 32 / 4))

/-- The fabric port of a lane takes and gives blocks (R348, R350, R374). -/
def laneOpen (s : Block) (n : Nat) : Bool :=
  laneUpPort s n && sectorLive s (laneSector n)

/-! ### Coding (R353 to R357) -/

/-- One bit of the scrambler: s(n) = d(n) xor s(n - 39) xor s(n - 58). -/
def scramBit (st : Nat) (d : Bool) : Bool := (d != st.testBit 38) != st.testBit 57

/-- Scramble the payload's bits from bit i, k of them: the scrambled payload so far and the scrambler's state. -/
def laneScramble (payload : Nat) : Nat → Nat → Nat × Nat → Nat × Nat
  | _, 0, r => r
  | i, k + 1, (out, st) =>
    let b := scramBit st (payload.testBit i)
    laneScramble payload (i + 1) k (if b then out + 2 ^ i else out, (2 * st + b.toNat) % 2 ^ 58)

/-- Descramble: d(n) = s(n) xor s(n - 39) xor s(n - 58). -/
def laneDescramble (bits : Nat) : Nat → Nat → Nat × Nat → Nat × Nat
  | _, 0, r => r
  | i, k + 1, (out, st) =>
    let x := bits.testBit i
    let b := scramBit st x
    laneDescramble bits (i + 1) k (if b then out + 2 ^ i else out, (2 * st + x.toNat) % 2 ^ 58)

/-- CRC-8 of R357, most significant bit first. -/
def crc8Bit (c : Nat) : Nat := if 0x80 ≤ c then Nat.xor (2 * c % 0x100) 0x07 else 2 * c
def crc8Byte (c b : Nat) : Nat := (upto 8).foldl (fun c _ => crc8Bit c) (Nat.xor c (b % 256))
def crc8 (bs : List Nat) : Nat := bs.foldl crc8Byte 0

/-- A control block's payload of seven bytes and their CRC-8 (R357, R366). -/
def withCrc8 (low : Nat) : BitVec 64 := BitVec.ofNat 64 (low % 2 ^ 56 + crc8 (leBytes 7 (low % 2 ^ 56)) * 2 ^ 56)

/-- The CRC-8 of a payload holds. -/
def crc8Ok (p : Nat) : Bool := crc8 (leBytes 7 (p % 2 ^ 56)) == p / 2 ^ 56 % 256

/-- A lane negotiation block (R357). -/
def lnb (msg seq rate coeff lane nonce : Nat) : BitVec 64 :=
  withCrc8 (0xA6 + msg * 2 ^ 8 + seq * 2 ^ 16 + rate * 2 ^ 24 + coeff * 2 ^ 32 + lane * 2 ^ 40 + nonce * 2 ^ 48)

/-- The IDLE block's payload (R355). -/
def idlePayload : BitVec 64 := Config.idleFill ++ (0xA0 : BitVec 8)

/-- A group marker's payload (R366). -/
def bmkPayload (group logical : Nat) (dup : Bool) (count : Nat) : BitVec 64 :=
  withCrc8 (0xAB + group * 2 ^ 8 + logical * 2 ^ 16 + dup.toNat * 2 ^ 23 + count % 2 ^ 24 * 2 ^ 24)

/-- Bits go out on a lane's line, inverted with TX_INVERT. -/
def laneLine (n : Nat) (hdr : Option (BitVec 2)) (bits : BitVec 64) (s : Block) : Block :=
  if laneCfg s n Rg.lTxInvert == 1 then s.emit (.laneBlock n (hdr.map (~~~·)) (~~~bits)) else s.emit (.laneBlock n hdr bits)

/-- A lane transmits a coded block: the payload is scrambled, the header is not; bit 0 of the header is sent first. -/
def laneSend (n : Nat) (ctrl : Bool) (payload : BitVec 64) (s : Block) : Block :=
  let x := getLane s n
  let r := laneScramble payload.toNat 0 64 (0, x.tx.toNat)
  laneLine n (some (if ctrl then 1#2 else 2#2)) (BitVec.ofNat 64 r.1) (setLane n { x with tx := BitVec.ofNat 58 r.2 } s)

/-- Start a lane-layer message: its SEQ advances, and it is repeated until acknowledged or superseded (R357). -/
def laneMsg (n msg rate coeff lane nonce : Nat) (s : Block) : Block :=
  let x := getLane s n
  let p := lnb msg x.seq.toNat rate coeff lane nonce
  laneSend n true p (setLane n { x with seq := x.seq + 1, msg := some p } s)

/-- Stop repeating. -/
def laneQuiet (n : Nat) (s : Block) : Block := modLane n (fun x => { x with msg := none, asked := none }) s

/-! ### Groups (R365 to R369) -/

/-- GROUP of a lane; 0 outside any. -/
def laneGroup (s : Block) (n : Nat) : Nat := if s.f (Rg.lane n) Rg.lLogical == 31 then 0 else s.f (Rg.lane n) Rg.lGroup

/-- The lanes of the group of lane n, itself among them. -/
def groupLanes (s : Block) (n : Nat) : List Nat :=
  (upto 32).map (fun i => n / 32 * 32 + i) |>.filter (fun m => laneGroup s n != 0 && laneGroup s m == laneGroup s n)

/-- LOGICAL of a lane. -/
def logicalOf (s : Block) (n : Nat) : Nat := s.f (Rg.lane n) Rg.lLogical

/-- Steered out of its group. -/
def laneFailed (s : Block) (n : Nat) : Bool := s.flag (Rg.lane n) Rg.lFailed

/-- An idle spare: it carries no logical lane, and no steering uses it. -/
def idleSpare (s : Block) (n : Nat) : Bool :=
  16 ≤ logicalOf s n && logicalOf s n != 31 && !laneFailed s n &&
  !(groupLanes s n).any (fun m => match (getLane s m).sendOn with
    | some (k, _) => k == n
    | none => false)

/-- The idle spares of the group of lane n. -/
def idleSpares (s : Block) (n : Nat) : List Nat := (groupLanes s n).filter (idleSpare s)

/-- The lane that carries logical lane k of the group of lane n. -/
def carrier (s : Block) (n k : Nat) : Option Nat := (groupLanes s n).find? (fun m => logicalOf s m == k && !laneFailed s m)

/-- The lane whose port is that of logical lane k. -/
def portOf (s : Block) (n k : Nat) : Nat := ((groupLanes s n).find? (fun m => (getLane s m).port == k)).getD n

/-! ### Entering states (R358 to R360) -/

/-- The local map (R358): codes 0 to MAX_RATE. -/
def localMap (s : Block) (n : Nat) : Nat := 2 ^ (laneCfg s n Rg.lMaxRate + 1) - 1

/-- Codes present in both maps and not failed since LANE_UP. -/
def commonCodes (s : Block) (n : Nat) : List Nat :=
  (upto 8).filter (fun r => (localMap s n).testBit r && (s.f (Rg.lane n) Rg.lFarMap).testBit r && !(getLane s n).failed.getLsbD r)

/-- The target code, and the next code above the present one. -/
def targetCode (s : Block) (n : Nat) : Nat := (commonCodes s n).foldl Nat.max 0
def nextCode (s : Block) (n : Nat) : Option Nat := (commonCodes s n).find? (fun r => decide (s.f (Rg.lane n) Rg.lRate < r))

/-- Coefficients of a preset (R362). -/
def presetPre (p : Nat) : Nat := [0, 0, 0, 0, 2, 4, 4, 6].getD p 0
def presetPost (p : Nat) : Nat := [0, 4, 8, 12, 8, 8, 12, 16].getD p 0

def lanePreset (n p : Nat) (s : Block) : Block :=
  (s.put (Rg.lane n) Rg.lCPre (presetPre p)).put (Rg.lane n) Rg.lCPost (presetPost p)

/-- CAPS (R357, R358). -/
def laneCaps (n : Nat) (s : Block) : Block :=
  laneMsg n 1 (localMap s n) 0xF (if laneGroup s n != 0 then 0x20 else 0) (getLane s n).nonce.toNat s

/-- A lane enters BASE: code 0, a new NONCE, CAPS sent, the transmit scrambler from all ones. -/
def laneBase (n : Nat) (s : Block) : Block :=
  let b := Rg.lane n
  let d := s.draw
  let s := (((d.2.put b Rg.lState 1).put b Rg.lRate 0).putB b Rg.lBlockLock false).put b Rg.lFarMap 0
  let s := lanePreset n (laneCfg s n Rg.lStartPreset) s
  laneCaps n (modLane n (fun x => { x with
    phase := 0, nonce := BitVec.ofNat 8 d.1, farNonce := none, asked := none, stepTo := none, back := false,
    result := none, since := s.devTime, retries := 0, said := false, tx := BitVec.allOnes 58, sendOn := none,
    steer := none, tested := false, good := 0, bad := 0, lost := false }) s)

/-- A lane leaves DISABLED: BASE when NEGOTIATED; else its receiver adapts at MAX_RATE (R352, R364). -/
def laneStart (n : Nat) (s : Block) : Block :=
  let b := Rg.lane n
  let s := modLane n (fun x => { x with failed := 0 }) s
  if laneMode s n == 0 then laneBase n s
  else
    let s := lanePreset n (laneCfg s n Rg.lStartPreset) ((s.put b Rg.lState 3).put b Rg.lRate (laneCfg s n Rg.lMaxRate))
    modLane n (fun x => { x with tx := BitVec.allOnes 58, since := s.devTime, phase := 0, tested := false, good := 0, bad := 0 }) s

/-- A lane is brought up from DISABLED (R358): what LANE_CFG says now is what acts. -/
def laneFirst (n : Nat) (s : Block) : Block := laneStart n (modLane n (fun x => { x with cfg := s.reg (Rg.lane n) }) s)

/-- Lanes of a mask on a die. -/
def maskLanes (die mask : Nat) : List Nat := (bitsOf 32 mask).map (fun i => 32 * die + i)

/-- Answer LANE_UP commands whose lanes are all ACTIVE. -/
def laneUpDone (s : Block) : Block :=
  let due := s.mbx.opens.filter (fun o => o.op2 == 0x0400 &&
    (maskLanes (o.obj / 2 ^ 32) (o.obj % 2 ^ 32)).all (fun m => laneState s m == 5 || laneFailed s m))
  due.foldl (fun s o => s.answer o St.ok) s

/-- A lane becomes ACTIVE. -/
def laneActive (n : Nat) (s : Block) : Block :=
  laneUpDone (laneQuiet n (s.put (Rg.lane n) Rg.lState 5))

/-- A lane stays at a code below its target: RATE_LIMITED and its event (R360). -/
def laneLimited (n : Nat) (s : Block) : Block := laneEvent n Ev.laneRateLimited (s.putB (Rg.lane n) Rg.lRateLimited true)

/-- A NEGOTIATED lane goes to DISABLED, electrical idle. -/
def laneOff (n : Nat) (s : Block) : Block :=
  let b := Rg.lane n
  let s := s.mbx.opens.foldl (fun s o => if o.op2 == 0x0406 && o.obj == n then s.answer o St.refusedState else s) s
  let s := (((s.put b Rg.lState 0).put b Rg.lRate 0).putB b Rg.lBlockLock false).putB b Rg.lQuiesced false
  let s := ((s.put b Rg.lLogical 31).put b Rg.lGroup 0).putB b Rg.lFailed false
  let s := ((s.putB b Rg.lSteering false).put b Rg.lFarMap 0).putB b Rg.lTest ((getLane s n).loop != 0 || (getLane s n).gen || (getLane s n).chk)
  modLane n (fun x => { LaneSt.reset with
    loop := x.loop, squelch := x.squelch, poly := x.poly, gen := x.gen, chk := x.chk, inv := x.inv, snaps := x.snaps,
    rx := x.rx, seq := x.seq }) s

/-! ### Steps of a lane or of its group -/

/-- The lanes that step with lane n: its group without the FAILED ones, or itself (R365). -/
def stepSet (s : Block) (n : Nat) : List Nat :=
  if laneGroup s n == 0 then [n] else (groupLanes s n).filter (fun m => !laneFailed s m)

/-- Passed at its code: ask for the next step, or be ACTIVE. The end with the larger NONCE leads (R358). -/
def lanePassed (n : Nat) (s : Block) : Block :=
  let x := getLane s n
  let s := modLane n (fun x => { x with phase := 3, result := none }) s
  if x.back then laneActive n (laneLimited n (modLane n (fun x => { x with back := false }) s))
  else
    match nextCode s n with
    | none => laneActive n s
    | some r =>
      if (x.farNonce.getD 0).toNat < x.nonce.toNat then
        modLane n (fun x => { x with asked := some r }) (laneMsg n 2 r 0xF 0 0 s)
      else s

/-- Failed at its code: back to the previous one (R360), or BASE again at code 0. -/
def laneFellBack (n : Nat) (s : Block) : Block :=
  let b := Rg.lane n
  let c := s.f b Rg.lRate
  if c == 0 then
    if laneState s n == 1 then modLane n (fun x => { x with phase := 0, result := none }) s else laneBase n s
  else
    let p := ((commonCodes s n).filter (fun r => decide (r < c))).foldl Nat.max 0
    let s := modLane n (fun x => { x with
      failed := x.failed ||| BitVec.ofNat 8 (2 ^ c), back := true, result := none, stepTo := none, asked := none,
      msg := none }) s
    ((s.put b Rg.lRate p).put b Rg.lState 3).putB b Rg.lBlockLock false

/-- Every lane of a group has its result at the code (R365): data lanes that fail are FAILED while idle spares that passed
replace them; else the group falls back. -/
def groupSettle (n : Nat) (s : Block) : Block :=
  let l := stepSet s n
  if l.any (fun m => (getLane s m).result.isNone) then s
  else
    let bad := l.filter (fun m => (getLane s m).result == some false && logicalOf s m < 16)
    let badSpares := l.filter (fun m => (getLane s m).result == some false && 16 ≤ logicalOf s m)
    let good := l.filter (fun m => (getLane s m).result == some true && 16 ≤ logicalOf s m)
    if bad.length ≤ good.length then
      let s := (bad.zip good).foldl (fun s p =>
        (s.put (Rg.lane p.2) Rg.lLogical (logicalOf s p.1)).putB (Rg.lane p.1) Rg.lFailed true) s
      let s := forEach badSpares (fun m s => s.putB (Rg.lane m) Rg.lFailed true) s
      forEach (l.filter (fun m => !laneFailed s m)) lanePassed s
    else forEach l laneFellBack s

/-- A lane's result at its code. -/
def laneResult (n : Nat) (pass : Bool) (s : Block) : Block :=
  if laneGroup s n == 0 then (if pass then lanePassed n s else laneFellBack n s)
  else groupSettle n (modLane n (fun x => { x with result := some pass }) s)

/-- In BASE, EQ begins with block lock and CAPS (R358). -/
def baseReady (n : Nat) (s : Block) : Block :=
  let x := getLane s n
  when (laneState s n == 1 && x.phase == 0 && s.flag (Rg.lane n) Rg.lBlockLock && x.farNonce.isSome)
    (modLane n (fun x => { x with phase := 1 })) s

/-! ### Commands (R375) -/

def needLane (op : Nat) : Need := { op := op, ports := workPorts, stage := 3 }

/-- A group's lanes as R365 and R375 require them. -/
def groupOk (s : Block) (lanes : List Nat) (spares : Nat) : Bool :=
  decide (spares ≤ 2) && decide (spares < lanes.length) && decide (lanes.length ≤ 16 + spares) &&
    lanes.all (fun n => laneMode s n == 0)

/-- The lanes of a new group are numbered: logical lanes from 0, the last `spares` of them spares from 16 (R365). -/
def groupNumber (group spares : Nat) (l : List Nat) (s : Block) : Block :=
  (l.zip (upto l.length)).foldl (fun s p =>
    let lg := if p.2 < l.length - spares then p.2 else 16 + (p.2 - (l.length - spares))
    modLane p.1 (fun x => { x with port := lg }) ((s.put (Rg.lane p.1) Rg.lLogical lg).put (Rg.lane p.1) Rg.lGroup group)) s

/-- LANE_UP (R358, R365): the last spare-count lanes of the mask are the spares. -/
def laneUpCmd (die mask group spares : Nat) (c : Cmd) (s : Block) : Block :=
  if 4 ≤ die || mask == 0 || 2 ^ 32 ≤ mask || 256 ≤ group || 256 ≤ spares then s.respond c St.badArg
  else
    let l := maskLanes die mask
    if l.any (fun n => laneMode s n == 3) then s.respond c St.badArg
    else if !(l.all (fun n => laneState s n == 0)) then s.respond c St.refusedState
    else if group != 0 && !groupOk s l spares then s.respond c St.groupInvalid
    else
      let s := if group == 0 then s else groupNumber group spares l s
      forEach l laneFirst (s.hold c 0x0400 (die * 2 ^ 32 + mask))

def execLaneUp (h : Hdr) (die mask group spares : Nat) (s : State) : Host.Outcome State Fault Refusal :=
  live (fun s => s.command h (needLane 0x0400) (onDie die (laneUpCmd die mask group spares))) s

/-- LANE_DOWN: the lanes return to DISABLED. -/
def laneDownCmd (die mask : Nat) (c : Cmd) (s : Block) : Block :=
  if 4 ≤ die || mask == 0 || 2 ^ 32 ≤ mask then s.respond c St.badArg
  else (forEach (maskLanes die mask) laneOff s).respond c St.ok

def execLaneDown (h : Hdr) (die mask : Nat) (s : State) : Host.Outcome State Fault Refusal :=
  live (fun s => s.command h (needLane 0x0401) (onDie die (laneDownCmd die mask))) s

/-- LANE_QUIESCE (R374). -/
def laneQuiesceCmd (die mask : Nat) (c : Cmd) (s : Block) : Block :=
  if 4 ≤ die || mask == 0 || 2 ^ 32 ≤ mask then s.respond c St.badArg
  else if (maskLanes die mask).all (fun n => laneState s n == 5) then
    (forEach (maskLanes die mask) (fun n s => s.putB (Rg.lane n) Rg.lQuiesced true) s).respond c St.ok
  else s.respond c St.refusedState

def execLaneQuiesce (h : Hdr) (die mask : Nat) (s : State) : Host.Outcome State Fault Refusal :=
  live (fun s => s.command h (needLane 0x0402) (onDie die (laneQuiesceCmd die mask))) s

/-- LANE_RESUME (R374). -/
def laneResumeCmd (die mask : Nat) (c : Cmd) (s : Block) : Block :=
  if 4 ≤ die || mask == 0 || 2 ^ 32 ≤ mask then s.respond c St.badArg
  else if (maskLanes die mask).all (fun n => s.flag (Rg.lane n) Rg.lQuiesced) then
    (forEach (maskLanes die mask) (fun n s => s.putB (Rg.lane n) Rg.lQuiesced false) s).respond c St.ok
  else s.respond c St.refusedState

def execLaneResume (h : Hdr) (die mask : Nat) (s : State) : Host.Outcome State Fault Refusal :=
  live (fun s => s.command h (needLane 0x0403) (onDie die (laneResumeCmd die mask))) s

/-- TEST shows that an intrusive operation runs; its end is remembered (R374). -/
def laneTest (n : Nat) (s : Block) : Block :=
  let x := getLane s n
  let on := x.loop != 0 || x.gen || x.chk
  let was := s.flag (Rg.lane n) Rg.lTest
  modLane n (fun x => { x with tested := x.tested || (was && !on) }) (s.putB (Rg.lane n) Rg.lTest on)

/-- An intrusive operation needs a lane that is QUIESCED or DISABLED (R373). -/
def laneIdleForTest (s : Block) (n : Nat) : Bool := laneState s n == 0 || s.flag (Rg.lane n) Rg.lQuiesced

/-- LANE_LOOPBACK (R370, R373). -/
def laneLoopbackCmd (n kind squelch : Nat) (c : Cmd) (s : Block) : Block :=
  if 128 ≤ n || 4 < kind || 1 < squelch then s.respond c St.badArg
  else if !laneIdleForTest s n then s.respond c St.quiesceNeeded
  else if (kind == 2 || kind == 4) && laneMode s n == 2 then s.respond c St.modeConflict
  else (laneTest n (modLane n (fun x => { x with loop := kind, squelch := squelch == 1 }) s)).respond c St.ok

def execLaneLoopback (h : Hdr) (lane kind squelch : Nat) (s : State) : Host.Outcome State Fault Refusal :=
  live (fun s => s.command h (needLane 0x0404) (onDie (lane / 32) (laneLoopbackCmd lane kind squelch))) s

/-- A lane's generator and checker as a command sets them, the checker to lock anew (R371). -/
def prbsSet (poly : Nat) (gen chk inv : Bool) (x : LaneSt) : LaneSt :=
  { x with poly := poly, gen := gen, chk := chk, inv := inv, genReg := BitVec.allOnes 31, chkReg := 0,
           chkGood := 0, chkLock := false, chkErrs := 0 }

/-- LANE_PRBS (R371, R373): polynomials 0 to 3 in the order of R371. -/
def lanePrbsCmd (n poly gen chk inv : Nat) (c : Cmd) (s : Block) : Block :=
  if 128 ≤ n || 3 < poly || 1 < gen || 1 < chk || 1 < inv then s.respond c St.badArg
  else if !laneIdleForTest s n then s.respond c St.quiesceNeeded
  else (laneTest n (modLane n (prbsSet poly (gen == 1) (chk == 1) (inv == 1)) s)).respond c St.ok

def execLanePrbs (h : Hdr) (lane poly gen chk inv : Nat) (s : State) : Host.Outcome State Fault Refusal :=
  live (fun s => s.command h (needLane 0x0405) (onDie (lane / 32) (lanePrbsCmd lane poly gen chk inv))) s

/-- The eye scan that arguments describe (R372): a range is a start and a length (R564); none where one is out of its range. -/
def eyeScanOf (h0 hl hs v0 vl vs dwell addr : Nat) : Option EyeScan :=
  let h := sgn 8 h0
  let v := sgn 8 v0
  if 256 ≤ h0 || 256 ≤ v0 || hl == 0 || vl == 0 || hs == 0 || vs == 0 || dwell < 20 || 40 < dwell ||
      decide (h < -32) || decide (31 < h + hl - 1) || decide (v < -127) || decide (127 < v + vl - 1) then none
  else some { h0 := h, hs := (hl + hs - 1) / hs, hStep := hs, v0 := v, vs := (vl + vs - 1) / vs, vStep := vs,
              dwell := dwell, addr := addr }

/-- LANE_EYESCAN (R372): one scan runs on a lane at a time. -/
def laneEyescanCmd (n : Nat) (h0 hl hs v0 vl vs dwell addr : Nat) (c : Cmd) (s : Block) : Block :=
  match eyeScanOf h0 hl hs v0 vl vs dwell addr with
  | none => s.respond c St.badArg
  | some scan =>
    if 128 ≤ n then s.respond c St.badArg
    else if laneState s n != 5 then s.respond c St.refusedState
    else if (getLane s n).scan.isSome then s.respond c St.scanBusy
    else (modLane n (fun x => { x with scan := some scan }) s).hold c 0x0406 n

def execLaneEyescan (h : Hdr) (lane hStart hLen hStep vStart vLen vStep dwell addr : Nat) (s : State) :
    Host.Outcome State Fault Refusal :=
  live (fun s => s.command h (needLane 0x0406) (onDie (lane / 32) (laneEyescanCmd lane hStart hLen hStep vStart vLen vStep dwell addr))) s

/-- LANE_STATUS: LANE_STATUS and LANE_EQ. -/
def laneStatusCmd (n : Nat) (c : Cmd) (s : Block) : Block :=
  if 128 ≤ n then s.respond c St.badArg
  else s.respond c St.ok [(8, (s.reg (Rg.lane n + 0x08)).toNat), (4, (s.reg (Rg.lane n + 0x10)).toNat % 2 ^ 32)]

def execLaneStatus (h : Hdr) (lane : Nat) (s : State) : Host.Outcome State Fault Refusal :=
  live (fun s => s.command h (needLane 0x0407) (onDie (lane / 32) (laneStatusCmd lane))) s

/-- When the last of the lanes of a mask entered its present state. -/
def upSince (s : Block) (die mask : Nat) : Nat := (maskLanes die mask).foldl (fun m n => Nat.max m (getLane s n).since.toNat) 0

/-- LANE_UP_TIMEOUT (R375): 1 s after the command its response is NO_PARTNER; bring-up continues. -/
def laneUpTimeoutStep (die mask : Nat) (s : Block) : Block :=
  match openOf s 0x0400 (die * 2 ^ 32 + mask) with
  | [] => s
  | _ =>
    (reachTime (BitVec.ofNat 64 (upSince s die mask + 1000000000)) s).close 0x0400 (die * 2 ^ 32 + mask) St.noPartner

def execLaneUpTimeout (die : Fin 4) (mask : BitVec 32) (s : State) : Host.Outcome State Fault Refusal :=
  clocked (laneUpTimeoutStep die.val mask.toNat) s

/-! ### Blocks (R348 to R356, R371) -/

/-- The length of a PRBS and its other tap (R371). -/
def prbsTaps (poly : Nat) : Nat × Nat :=
  if poly == 0 then (7, 6) else if poly == 1 then (15, 14) else if poly == 2 then (23, 18) else (31, 28)

/-- The next bit of a PRBS from the last bits, the latest in bit 0. -/
def prbsNext (poly reg : Nat) : Bool := reg.testBit ((prbsTaps poly).1 - 1) != reg.testBit ((prbsTaps poly).2 - 1)

/-- k bits of a PRBS from bit i: the word so far and the last bits. -/
def prbsWord (poly : Nat) : Nat → Nat → Nat × Nat → Nat × Nat
  | _, 0, r => r
  | i, k + 1, (out, reg) =>
    let b := prbsNext poly reg
    prbsWord poly (i + 1) k (if b then out + 2 ^ i else out, (2 * reg + b.toNat) % 2 ^ 31)

/-- One received bit at the checker (R371): it locks after 64 error-free bits, counts errors, and relocks on 32 in 64. -/
def prbsBit (x : LaneSt) (b : Bool) : LaneSt × Bool :=
  let bit := b != x.inv
  let want := prbsNext x.poly x.chkReg.toNat
  let err := bit != want
  let push (v : Bool) : BitVec 31 := BitVec.ofNat 31 (2 * x.chkReg.toNat + v.toNat)
  if x.chkLock then
    let errs : BitVec 64 := BitVec.ofNat 64 (2 * x.chkErrs.toNat + err.toNat)
    if 32 ≤ (bitsOf 64 errs.toNat).length then
      ({ x with chkReg := push bit, chkLock := false, chkGood := 0, chkErrs := 0 }, err)
    else ({ x with chkReg := push want, chkErrs := errs }, err)
  else
    let good := if err then 0 else x.chkGood + 1
    ({ x with chkReg := push bit, chkGood := good, chkLock := decide (64 ≤ good), chkErrs := 0 }, false)

/-- Received bits at the checker, in the order of the line: the errors counted. -/
def prbsBits (l : List Bool) (x : LaneSt) : LaneSt × Nat :=
  l.foldl (fun r b => let y := prbsBit r.1 b; (y.1, r.2 + y.2.toNat)) (x, 0)

/-- Blocks that a port takes in one cycle (WIDTH). -/
def laneWidth (s : Block) (n : Nat) : Nat := laneCfg s n Rg.lWidth + 1

/-- The port of a lane takes k cycles from its receive FIFO. -/
def laneDrain (port k : Nat) (s : Block) : Block :=
  let x := getLane s port
  let m := k * laneWidth s port
  let s := setLane port { x with fifo := x.fifo.drop m } s
  (x.fifo.take m).foldl (fun s b => s.emit (.laneRx port b.ctrl b.err b.payload)) s

/-- A block reaches a port's receive FIFO; one that finds it full is dropped and counted (R349, R350). -/
def laneDeliver (port : Nat) (ctrl err : Bool) (payload : BitVec 64) (s : Block) : Block :=
  if !laneOpen s port then s
  else
    let x := getLane s port
    if x.fifo.length < 64 * laneWidth s port then
      setLane port { x with fifo := x.fifo ++ [{ ctrl := ctrl, err := err || x.dropped, payload := payload }],
                            dropped := false } s
    else (setLane port { x with dropped := true } s).bumpBy (Rg.lane port + Rg.lCnt 4) laneCnt 1

/-- A raw word arrives (R356): the bits left of a slip are filled up from the next word. -/
def rawWord (n : Nat) (bits : Nat) (s : Block) : Block :=
  let x := getLane s n
  let all := x.rawBits.toNat + bits % 2 ^ 64 * 2 ^ x.rawCount
  let have' := x.rawCount + 64
  laneDeliver n false false (BitVec.ofNat 64 all)
    (setLane n { x with rawBits := BitVec.ofNat 64 (all / 2 ^ 64), rawCount := have' - 64 } s)

/-- The port that a lane's received blocks go to: its own, or that of the logical lane it carries. -/
def rxPort (s : Block) (n : Nat) : Option Nat :=
  if laneGroup s n == 0 then some n
  else if logicalOf s n < 16 && !laneFailed s n then some (portOf s n (logicalOf s n)) else none

/-! Block lock (R354) -/

/-- BLOCK_LOCK is set, and what a test left behind is over. -/
def lockGained (n : Nat) (s : Block) : Block :=
  modLane n (fun x => { x with tested := false, good := 64, bad := 0 }) (s.putB (Rg.lane n) Rg.lBlockLock true)

/-- BLOCK_LOCK is cleared, and the loss counted (R354). -/
def lockDropped (n : Nat) (s : Block) : Block :=
  (modLane n (fun x => { x with good := 0, bad := 0 }) (s.putB (Rg.lane n) Rg.lBlockLock false)).bumpBy (Rg.lane n + Rg.lCnt 1) laneCnt 1

/-- Block lock is gained: in STEP the receiver starts to adapt; in BASE with CAPS received too (R358). -/
def blockLockGainedStep (n : Nat) (s : Block) : Block :=
  if laneMode s n == 2 || laneState s n == 0 || s.flag (Rg.lane n) Rg.lBlockLock then s
  else
    let s := lockGained n s
    if laneState s n == 2 && (getLane s n).stepTo.isNone then s.put (Rg.lane n) Rg.lState 3 else baseReady n s

/-- STEER_REQ for the logical lane of lane n, on every idle spare and every data lane (R367). -/
def steerReq (n : Nat) (abrupt : Bool) (s : Block) : Block :=
  let k := logicalOf s n
  let g := laneGroup s n
  let l := (groupLanes s n).filter (fun m => !laneFailed s m && m != n && (idleSpare s m || logicalOf s m < 16))
  forEach l (laneMsg · 6 0 0xF (k + (if abrupt then 0x40 else 0)) g) s

/-- An abrupt steering begins, timed from now (R368). -/
def steerAbrupt (n : Nat) (s : Block) : Block :=
  modLane n (fun x => { x with steer := some (some s.devTime, 0, none) }) (s.putB (Rg.lane n) Rg.lSteering true)

/-- A data lane of an ACTIVE group fails with no idle spare left (R369). -/
def laneLost (n : Nat) (s : Block) : Block := laneEvent n Ev.laneGroupDegraded (modLane n (fun x => { x with lost := true }) s)

/-- Block lock is lost: counted; a data lane of an ACTIVE group is steered abruptly while an idle spare remains (R368), and
else the group is degraded (R369). -/
def blockLockLostStep (n : Nat) (s : Block) : Block :=
  if !s.flag (Rg.lane n) Rg.lBlockLock then s
  else
    let s := lockDropped n s
    if laneState s n == 5 && laneGroup s n != 0 && logicalOf s n < 16 && !laneFailed s n then
      if (idleSpares s n).isEmpty then laneLost n s else steerReq n true (steerAbrupt n s)
    else s

/-- A header's place in the runs of R354: 64 consecutive valid ones gain block lock, 16 invalid of any 64 lose it. -/
def headerSeen (n : Nat) (bad : Bool) (s : Block) : Block :=
  let x := getLane s n
  let good := if bad then 0 else Nat.min 64 (x.good + 1)
  let seen : BitVec 64 := BitVec.ofNat 64 (2 * x.bad.toNat + bad.toNat)
  let s := setLane n { x with good := good, bad := seen, spoiled := x.spoiled || bad } s
  if s.flag (Rg.lane n) Rg.lBlockLock then (if 16 ≤ (bitsOf 64 seen.toNat).length then blockLockLostStep n s else s)
  else if good == 64 then blockLockGainedStep n s
  else s

/-- A lane negotiation block whose CRC fails is counted and discarded (R357). -/
def lnbBad (n : Nat) (s : Block) : Block :=
  (modLane n (fun x => { x with spoiled := true }) s).bumpBy (Rg.lane n + Rg.lCnt 3) laneCnt 1

/-- A payload and its sync header reach the port that lane n feeds: of a lane without block lock only a group's does, as a zero block with RX_ERR
(R361, R368), and so does that of one that has failed for good (R369). -/
def blockToPort (n : Nat) (ctrl bad : Bool) (p : Nat) (s : Block) : Block :=
  match rxPort s n with
  | none => s
  | some port =>
    if s.flag (Rg.lane n) Rg.lBlockLock && !(getLane s n).lost then laneDeliver port ctrl bad (BitVec.ofNat 64 p) s
    else if laneGroup s n == 0 then s
    else
      laneDeliver port false true 0 (modLane n (fun x => { x with steer := x.steer.map (fun y => (y.1, y.2.1 + 1, y.2.2)) }) s)

/-- A coded block arrives (R353 to R357): header checked, payload descrambled, lane-layer blocks consumed. -/
def codedBlock (n hdr bits : Nat) (s : Block) : Block :=
  let x := getLane s n
  let r := laneDescramble bits 0 64 (0, x.rx.toNat)
  let s := setLane n { x with rx := BitVec.ofNat 58 r.2 } s
  let bad := hdr == 0 || hdr == 3
  let s := headerSeen n bad (when bad (fun s => s.bumpBy (Rg.lane n + Rg.lCnt 0) laneCnt 1) s)
  let ctrl := hdr == 1
  let p := r.1
  let s := when (x.loop == 4) (laneSend n ctrl (BitVec.ofNat 64 p)) s
  if !bad && ctrl && p / 16 % 16 == 0xA then when (p % 256 == 0xA6 && !crc8Ok p) (lnbBad n) s
  else blockToPort n ctrl bad p s

/-- Bits at a lane's receiver: to the checker in the order of the line (R371), or a raw word, or a coded block. -/
def laneTakes (n hdr bits : Nat) (s : Block) : Block :=
  let x := getLane s n
  if x.chk then
    let payloadBits := (upto 64).map (fun i => bits.testBit i)
    let r := prbsBits (if laneMode s n == 2 || x.gen then payloadBits else [hdr.testBit 0, hdr.testBit 1] ++ payloadBits) x
    let s := setLane n r.1 s
    if r.2 == 0 then s else s.bumpBy (Rg.lane n + Rg.lCnt 2) laneCnt r.2
  else if laneMode s n == 2 then rawWord n bits s
  else codedBlock n hdr bits s

/-- LANE_RX_BLOCK (R349, R353 to R355, R371): 66 received bits, or 64 in RAW mode, and the cycles the port has taken since the
last; RX_INVERT inverts them. In a near-end loopback the receiver takes what the lane sends instead (R370). -/
def laneRxBlockStep (n hdr bits drained : Nat) (s : Block) : Block :=
  let x := getLane s n
  if (laneState s n == 0 && x.loop == 0 && !x.chk) || x.loop == 1 || x.loop == 2 then s
  else
    let inv := laneCfg s n Rg.lRxInvert == 1
    let hdr := if inv then 3 - hdr else hdr
    let bits := if inv then 2 ^ 64 - 1 - bits else bits
    let s := match rxPort s n with
      | some port => laneDrain port drained s
      | none => s
    let s := when (x.loop == 3) (laneLine n (if laneMode s n == 2 then none else some (BitVec.ofNat 2 hdr)) (BitVec.ofNat 64 bits)) s
    laneTakes n hdr bits s

def execLaneRxBlock (lane : Fin 128) (hdr : BitVec 2) (payload : BitVec 64) (drained : Nat) (s : State) :
    Host.Outcome State Fault Refusal := clockedOn (lane.val / 32) (laneRxBlockStep lane.val hdr.toNat payload.toNat drained) s

/-- Bits of a lane in a near-end loopback (R370): they reach its own receiver; the line carries them in kind 1 without SQUELCH. -/
def laneLooped (n : Nat) (hdr : Option (BitVec 2)) (bits : BitVec 64) (s : Block) : Block :=
  let x := getLane s n
  laneTakes n (hdr.getD 0).toNat bits.toNat (when (x.loop == 1 && !x.squelch) (laneLine n hdr bits) s)

/-- What a lane sends of its own port, without a group (R353, R356, R371): a PRBS word, a raw word or a coded block, to the line or around a near-end
loopback. -/
def laneOut (n : Nat) (hdr : Option (BitVec 2)) (bits : BitVec 64) (s : Block) : Block :=
  if (getLane s n).loop == 1 || (getLane s n).loop == 2 then laneLooped n hdr bits s else laneLine n hdr bits s

/-- A coded block of a lane around a near-end loopback. -/
def laneAround (n : Nat) (ctrl : Bool) (payload : BitVec 64) (s : Block) : Block :=
  let x := getLane s n
  let r := laneScramble payload.toNat 0 64 (0, x.tx.toNat)
  laneLooped n (some (if ctrl then 1#2 else 2#2)) (BitVec.ofNat 64 r.1) (setLane n { x with tx := BitVec.ofNat 58 r.2 } s)

/-- LANE_TX_BLOCK (R348, R355): the port of a lane presents a block or raw word; the lane that carries it sends it, and a
spare that duplicates it. A PRBS generator takes the place of the fabric data (R371). -/
def laneTxBlockStep (n : Nat) (ctrl : Bool) (payload : BitVec 64) (s : Block) : Block :=
  let x := getLane s n
  if x.gen then
    let r := prbsWord x.poly 0 64 (0, x.genReg.toNat)
    laneOut n none (BitVec.ofNat 64 (if x.inv then 2 ^ 64 - 1 - r.1 else r.1)) (setLane n { x with genReg := BitVec.ofNat 31 r.2 } s)
  else if !laneOpen s n || x.loop == 3 || x.loop == 4 then s
  else if laneMode s n == 2 then laneOut n none payload s
  else
    let bad := ctrl && payload.toNat / 16 % 16 == 0xA
    let s := when bad (fun s => s.putB (Rg.lane n) Rg.lTxReject true) s
    let c := bad || ctrl
    let p := if bad then idlePayload else payload
    if x.loop == 1 || x.loop == 2 then laneAround n c p s
    else if laneGroup s n == 0 then laneSend n c p s
    else if 16 ≤ x.port then s
    else
      let main := (carrier s n x.port).toList
      let dup := (groupLanes s n).filterMap (fun m => match (getLane s m).sendOn with
        | some (k, true) => if logicalOf s m == x.port then some k else none
        | _ => none)
      forEach (main ++ dup) (fun m s => laneSend m c p s) s

def execLaneTxBlock (lane : Fin 128) (ctrl : Bool) (payload : BitVec 64) (s : State) :
    Host.Outcome State Fault Refusal := clockedOn (lane.val / 32) (laneTxBlockStep lane.val ctrl payload) s

/-- One received bit of a RAW lane is passed over. -/
def slipOne (x : LaneSt) : LaneSt :=
  if x.rawCount == 0 then { x with rawCount := 63, rawBits := 0 }
  else { x with rawCount := x.rawCount - 1, rawBits := BitVec.ofNat 64 (x.rawBits.toNat / 2) }

/-- RX_SLIP (R356): the receive word boundary of a RAW lane shifts by one bit: one received bit is passed over. -/
def rxSlipStep (n : Nat) (s : Block) : Block :=
  when (laneMode s n == 2 && laneOpen s n) (modLane n slipOne) s

def execRxSlip (lane : Fin 128) (s : State) : Host.Outcome State Fault Refusal := clockedOn (lane.val / 32) (rxSlipStep lane.val) s

end Sys2Proof.Machine
end

