-- ==== Sys2Proof/Machine/LaneUp.lean ====
section
/-! DEFINITION. Serial lanes (12): the events of bring-up, equalisation, steering, eye scans and counter snapshots. -/

namespace Sys2Proof.Machine

/-! ### Block lock (R354) -/

/-- BLOCK_LOCK_GAINED: 64 consecutive valid headers have come. -/
def execBlockLockGained (lane : Fin 128) (s : State) : Host.Outcome State Fault Refusal :=
  clockedOn (lane.val / 32) (blockLockGainedStep lane.val) s

/-- A steering without loss begins (R367). -/
def steerAsked (n : Nat) (s : Block) : Block :=
  modLane n (fun x => { x with steer := some (none, 0, none) }) (s.putB (Rg.lane n) Rg.lSteering true)

/-- BLOCK_LOCK_LOST: 16 of 64 headers were invalid. -/
def execBlockLockLost (lane : Fin 128) (s : State) : Host.Outcome State Fault Refusal :=
  clockedOn (lane.val / 32) (blockLockLostStep lane.val) s

/-! ### Negotiation (R358, R360) -/

/-- The group of a lane is refused: LANE_UP ends with a status and its lanes return to DISABLED (R365). -/
def laneRefuse (n status : Nat) (s : Block) : Block :=
  let due := s.mbx.opens.filter (fun o => o.op2 == 0x0400 && (maskLanes (o.obj / 2 ^ 32) (o.obj % 2 ^ 32)).contains n)
  let s := due.foldl (fun s o => s.answer o status) s
  when (laneGroup s n != 0) (fun s => forEach (groupLanes s n) laneOff s) s

/-- LNB_CAPS: the far end's map, NONCE and GROUP_CAP, in BASE. Equal NONCE values make both ends draw new ones. -/
def lnbCapsStep (n : Nat) (map nonce : BitVec 8) (groupCap : Bool) (s : Block) : Block :=
  let x := getLane s n
  if laneState s n != 1 then s
  else if laneGroup s n != 0 && !groupCap then laneRefuse n St.groupPartner s
  else
    let s := s.put (Rg.lane n) Rg.lFarMap map.toNat
    if Nat.land map.toNat (localMap s n) == 0 then
      let due := s.mbx.opens.filter (fun o => o.op2 == 0x0400 && (maskLanes (o.obj / 2 ^ 32) (o.obj % 2 ^ 32)).contains n)
      due.foldl (fun s o => s.answer o St.noCommonRate) s
    else if nonce == x.nonce then
      let d := s.draw
      laneCaps n (modLane n (fun x => { x with nonce := BitVec.ofNat 8 d.1, farNonce := none }) d.2)
    else baseReady n (modLane n (fun x => { x with farNonce := some nonce }) s)

def execLnbCaps (lane : Fin 128) (map nonce : BitVec 8) (groupCap : Bool) (s : State) :
    Host.Outcome State Fault Refusal := clockedOn (lane.val / 32) (lnbCapsStep lane.val map nonce groupCap) s

/-- A step begins: STEP, the transmitter to switch 1 µs later. -/
def laneStepBegin (n code : Nat) (s : Block) : Block :=
  modLane n (fun x => { x with stepTo := some code, asked := none, msg := none }) (s.put (Rg.lane n) Rg.lState 2)

/-- LNB_STEP_REQ: the end that does not lead acknowledges the step to the next common code. -/
def lnbStepReqStep (n code : Nat) (s : Block) : Block :=
  let x := getLane s n
  if laneMode s n == 0 && x.phase == 3 && laneState s n != 5 && nextCode s n == some code &&
      x.nonce.toNat < (x.farNonce.getD 0).toNat then
    laneStepBegin n code (laneMsg n 3 code 0xF 0 0 s)
  else s

def execLnbStepReq (lane : Fin 128) (code : Fin 8) (s : State) : Host.Outcome State Fault Refusal :=
  clockedOn (lane.val / 32) (lnbStepReqStep lane.val code.val) s

/-- LNB_STEP_ACK: of the step that was asked for. -/
def lnbStepAckStep (n code : Nat) (s : Block) : Block :=
  when ((getLane s n).asked == some code) (laneStepBegin n code) s

def execLnbStepAck (lane : Fin 128) (code : Fin 8) (s : State) : Host.Outcome State Fault Refusal :=
  clockedOn (lane.val / 32) (lnbStepAckStep lane.val code.val) s

/-- The lane is at its new code, without block lock. -/
def rateSwitched (n code : Nat) (s : Block) : Block :=
  modLane n (fun x => { x with stepTo := none, phase := 0, good := 0, bad := 0 }) ((s.put (Rg.lane n) Rg.lRate code).putB (Rg.lane n) Rg.lBlockLock false)

/-- LANE_RATE_SWITCH: the new code, START_PRESET (R362), block lock to be gained anew. -/
def laneRateSwitchStep (n : Nat) (s : Block) : Block :=
  match (getLane s n).stepTo with
  | some code =>
    if laneState s n != 2 then s
    else lanePreset n (laneCfg s n Rg.lStartPreset) (rateSwitched n code s)
  | none => s

def execLaneRateSwitch (lane : Fin 128) (s : State) : Host.Outcome State Fault Refusal := clockedOn (lane.val / 32) (laneRateSwitchStep lane.val) s

/-! ### Equalisation (R362 to R364) -/

/-- A coefficient's one-step update: 0 hold, 1 increment, 2 decrement; none where it would leave its range. -/
def coeffStep (v up top : Nat) : Option Nat :=
  if up == 1 then (if v < top then some (v + 1) else none)
  else if up == 2 then (if 0 < v then some (v - 1) else none)
  else some v

/-- EQ is running: the state EQ, or the EQ of code 0 in BASE. -/
def laneInEq (s : Block) (n : Nat) : Bool := laneState s n == 3 || (laneState s n == 1 && (getLane s n).phase == 1)

/-- LNB_COEFF: a preset, or one-step updates, answered by COEFF_ACK; a request that would leave a range changes nothing. -/
def lnbCoeffStep (n preset pre post : Nat) (s : Block) : Block :=
  if laneMode s n != 0 || !laneInEq s n then s
  else
    let b := Rg.lane n
    let s :=
      if preset < 8 then lanePreset n preset s
      else
        match coeffStep (s.f b Rg.lCPre) pre 12, coeffStep (s.f b Rg.lCPost) post 24 with
        | some x, some y => (s.put b Rg.lCPre x).put b Rg.lCPost y
        | _, _ => s
    laneMsg n 5 0 0xF 0 0 s

def execLnbCoeff (lane : Fin 128) (preset : BitVec 4) (pre post : BitVec 2) (s : State) :
    Host.Outcome State Fault Refusal := clockedOn (lane.val / 32) (lnbCoeffStep lane.val preset.toNat pre.toNat post.toNat) s

/-- LNB_COEFF_ACK: a coefficient request is repeated no longer. -/
def lnbCoeffAckStep (n : Nat) (s : Block) : Block :=
  modLane n (fun x => { x with msg := x.msg.filter (fun p => p.toNat / 256 % 256 != 4) }) s

def execLnbCoeffAck (lane : Fin 128) (s : State) : Host.Outcome State Fault Refusal := clockedOn (lane.val / 32) (lnbCoeffAckStep lane.val) s

/-- What the receiver has found stands in LANE_EQ. -/
def eqFound (n : Nat) (ctle : BitVec 4) (tap1 margin : BitVec 8) (s : Block) : Block :=
  ((s.put (Rg.lane n) Rg.lCtle ctle.toNat).put (Rg.lane n) Rg.lDfe tap1.toNat).put (Rg.lane n) Rg.lMargin margin.toNat

/-- CHECK begins: nothing bad has been seen (R359). -/
def checkBegin (n : Nat) (s : Block) : Block := modLane n (fun x => { x with phase := 2, spoiled := false }) s

/-- LANE_EQ_END (R359): what the receiver has adapted to; then CHECK, or ACTIVE in FIXED and RAW modes (R364). -/
def laneEqEndStep (n : Nat) (ctle : BitVec 4) (tap1 margin : BitVec 8) (s : Block) : Block :=
  if !laneInEq s n then s
  else
    let s := eqFound n ctle tap1 margin s
    if laneMode s n != 0 then laneActive n s
    else checkBegin n (if laneState s n == 1 then s else s.put (Rg.lane n) Rg.lState 4)

def execLaneEqEnd (lane : Fin 128) (ctle : BitVec 4) (tap1 margin : BitVec 8) (s : State) :
    Host.Outcome State Fault Refusal := clockedOn (lane.val / 32) (laneEqEndStep lane.val ctle tap1 margin) s

/-- LANE_CHECK_END (R359, R360, R365): it passes where neither the blocks that came by LANE_RX_BLOCK nor the others had an invalid header or a bad
LNB. -/
def laneCheckEndStep (n : Nat) (pass : Bool) (s : Block) : Block :=
  when (laneMode s n == 0 && (getLane s n).phase == 2 && (laneState s n == 4 || laneState s n == 1)) (laneResult n (pass && !(getLane s n).spoiled)) s

def execLaneCheckEnd (lane : Fin 128) (pass : Bool) (s : State) : Host.Outcome State Fault Refusal :=
  clockedOn (lane.val / 32) (laneCheckEndStep lane.val pass) s

/-- LANE_LOCK_TIMEOUT (R360): no block lock within 1 ms of switching to a code above 0. -/
def laneLockTimeoutStep (n : Nat) (s : Block) : Block :=
  when (laneState s n == 2 && (getLane s n).stepTo.isNone && !s.flag (Rg.lane n) Rg.lBlockLock) (laneResult n false) s

def execLaneLockTimeout (lane : Fin 128) (s : State) : Host.Outcome State Fault Refusal := clockedOn (lane.val / 32) (laneLockTimeoutStep lane.val) s

/-- The next try of a lane in BASE, 10 ms after the last: CAPS again. -/
def laneAgain (n : Nat) (s : Block) : Block :=
  let x := getLane s n
  let k := x.retries + 1
  laneCaps n (setLane n { x with retries := k, said := x.said || decide (100 ≤ k), phase := 0 }
    (reachTime (BitVec.ofNat 64 (x.since.toNat + 10000000 * k)) s))

/-- LANE_BASE_RETRY (R360): every 10 ms; LANE_NO_PARTNER once, 1 s after BASE was entered. -/
def laneBaseRetryStep (n : Nat) (s : Block) : Block :=
  if laneState s n != 1 then s
  else
    let x := getLane s n
    when (decide (99 ≤ x.retries) && !x.said) (laneEvent n Ev.laneNoPartner) (baseReady n (laneAgain n s))

def execLaneBaseRetry (lane : Fin 128) (s : State) : Host.Outcome State Fault Refusal := clockedOn (lane.val / 32) (laneBaseRetryStep lane.val) s

/-- LANE_RETRAIN (R361, R374): an ACTIVE lane without block lock for 1 ms; a group only after an intrusive operation has
ended, and then whole. -/
def laneRetrainStep (n : Nat) (s : Block) : Block :=
  if laneState s n != 5 || laneMode s n == 2 || s.flag (Rg.lane n) Rg.lBlockLock || s.flag (Rg.lane n) Rg.lTest then s
  else if laneGroup s n == 0 then
    let s := laneEvent n Ev.laneRetrain s
    if laneMode s n == 0 then laneBase n s else laneStart n s
  else if (getLane s n).tested then forEach (groupLanes s n) laneBase s
  else s

def execLaneRetrain (lane : Fin 128) (s : State) : Host.Outcome State Fault Refusal := clockedOn (lane.val / 32) (laneRetrainStep lane.val) s

/-! ### Steering (R366 to R369) -/

/-- LANE_DEGRADING (R367): so many invalid headers in a marker interval, or such a margin, of a data lane of an ACTIVE group, while an idle spare
remains. -/
def laneDegradingStep (n errs : Nat) (margin : BitVec 8) (s : Block) : Block :=
  let s := s.put (Rg.lane n) Rg.lMargin margin.toNat
  if (laneCfg s n Rg.lDegradeThresh ≤ errs || margin.toNat < laneCfg s n Rg.lMarginMin) && laneState s n == 5 && laneGroup s n != 0 && logicalOf s n < 16 && !laneFailed s n && !s.flag (Rg.lane n) Rg.lSteering &&
      !(idleSpares s n).isEmpty then
    steerReq n false (steerAsked n s)
  else s

def execLaneDegrading (lane : Fin 128) (errs : BitVec 16) (margin : BitVec 8) (s : State) : Host.Outcome State Fault Refusal :=
  clockedOn (lane.val / 32) (laneDegradingStep lane.val errs.toNat margin) s

/-- LNB_STEER_REQ: the sender will duplicate the logical lane on an idle spare from its next BMK. -/
def lnbSteerReqStep (n k : Nat) (s : Block) : Block :=
  match carrier s n k, idleSpares s n with
  | some m, sp :: _ =>
    when ((getLane s m).sendOn.isNone && k < 16) (modLane m (fun x => { x with sendOn := some (sp, false) })) s
  | _, _ => s

def execLnbSteerReq (lane : Fin 128) (logical : Fin 32) (_abrupt : Bool) (s : State) : Host.Outcome State Fault Refusal :=
  clockedOn (lane.val / 32) (lnbSteerReqStep lane.val logical.val) s

/-- A STEER_REQ for logical lane k is repeated no longer. -/
def ackSteer (k : Nat) (x : LaneSt) : LaneSt :=
  { x with msg := x.msg.filter (fun p => !(p.toNat / 256 % 256 == 6 && p.toNat / 2 ^ 40 % 32 == k)) }

/-- LNB_STEER_ACK: the request is repeated no longer. -/
def lnbSteerAckStep (n k : Nat) (s : Block) : Block :=
  forEach (groupLanes s n) (fun m s => modLane m (ackSteer k) s) s

def execLnbSteerAck (lane : Fin 128) (logical : Fin 32) (s : State) : Host.Outcome State Fault Refusal :=
  clockedOn (lane.val / 32) (lnbSteerAckStep lane.val logical.val) s

/-- A spare carries the logical lane of an old lane from now on, and the old lane is FAILED. -/
def steerMove (old spare : Nat) (s : Block) : Block :=
  let k := logicalOf s old
  let s := (s.put (Rg.lane spare) Rg.lLogical k).putB (Rg.lane old) Rg.lFailed true
  modLane old (fun x => { x with sendOn := none, steer := none }) (s.putB (Rg.lane old) Rg.lSteering false)

/-- LNB_STEER_DONE: the sender stops using the old lane, which carries IDLE. -/
def lnbSteerDoneStep (n k : Nat) (s : Block) : Block :=
  match carrier s n k with
  | some m =>
    match (getLane s m).sendOn with
    | some (sp, true) => steerMove m sp s
    | _ => s
  | none => s

def execLnbSteerDone (lane : Fin 128) (logical : Fin 32) (s : State) : Host.Outcome State Fault Refusal :=
  clockedOn (lane.val / 32) (lnbSteerDoneStep lane.val logical.val) s

/-- The receiver takes a logical lane from the spare (R367 steps 4 and 5; R368). -/
def steerTake (old spare : Nat) (abrupt : Option (BitVec 64)) (flagged : Nat) (s : Block) : Block :=
  let k := logicalOf s old
  let g := laneGroup s old
  let s := laneMsg spare 8 0 0xF k g (steerMove old spare s)
  let s := match abrupt with
    | some t => (s.raiseAt t Ev.laneAbrupt (laneOrigin old) s.devTime.toNat flagged).eicEdge (eicDie (old / 32) (8 + old % 32 / 4))
    | none => s
  laneEvent old Ev.laneSteered s

/-- GROUP_MARKER: a BMK on a lane of a group. With DUP it carries a logical lane that is being steered: at once after an
abrupt fault, else at the BMK that ends a clean marker interval on the spare. -/
def groupMarkerStep (n k : Nat) (dup clean : Bool) (s : Block) : Block :=
  if !dup || !idleSpare s n then s
  else
    match carrier s n k with
    | none => s
    | some old =>
      match (getLane s old).steer with
      | none => s
      | some (some t, flagged, _) => steerTake old n (some t) flagged s
      | some (none, flagged, seen) =>
        if seen == some n && clean then steerTake old n none flagged s
        else modLane old (fun x => { x with steer := some (none, flagged, some n) }) s

def execGroupMarker (lane : Fin 128) (logical : Fin 32) (dup clean : Bool) (s : State) :
    Host.Outcome State Fault Refusal := clockedOn (lane.val / 32) (groupMarkerStep lane.val logical.val dup clean) s

/-- One lane's BMK and the slot after it, which carries its pending message or IDLE (R366). -/
def sendBmk (m g : Nat) (logical : Nat) (dup : Bool) (s : Block) : Block :=
  let x := getLane s m
  let s := laneSend m true (bmkPayload g logical dup x.bmk.toNat) (setLane m { x with bmk := x.bmk + 1 } s)
  laneSend m true (x.msg.getD idlePayload) s

/-- The ACTIVE lanes of a group of a die. -/
def groupActive (s : Block) (d g : Nat) : List Nat :=
  (upto 32).map (fun i => 32 * d + i) |>.filter (fun m => g != 0 && laneGroup s m == g && laneState s m == 5)

/-- A steering that was asked for starts: the spare duplicates the lane from now, with STEER_ACK (R367 step 3). -/
def steerStart (g m : Nat) (s : Block) : Block :=
  match (getLane s m).sendOn with
  | some (sp, false) =>
    laneMsg sp 7 0 0xF (logicalOf s m) g (modLane m (fun x => { x with sendOn := some (sp, true) }) s)
  | _ => s

/-- A lane's marker: of the logical lane it duplicates, or of its own. -/
def bmkOne (l : List Nat) (g m : Nat) (s : Block) : Block :=
  match l.find? (fun o => (getLane s o).sendOn == some (m, true)) with
  | some o => sendBmk m g (logicalOf s o) true s
  | none => sendBmk m g (logicalOf s m) false s

/-- BMK_SEND (R366, R367 step 3): every lane of an ACTIVE group sends its marker. -/
def bmkSendStep (d g : Nat) (s : Block) : Block :=
  forEach (groupActive s d g) (bmkOne (groupActive s d g) g) (forEach (groupActive s d g) (steerStart g) s)

def execBmkSend (die : Fin 4) (group : BitVec 8) (s : State) : Host.Outcome State Fault Refusal :=
  clockedOn (die.val) (bmkSendStep die.val group.toNat) s

/-- LNB_REPEAT (R357): a message that is not acknowledged is sent again. -/
def lnbRepeatStep (n : Nat) (s : Block) : Block :=
  match (getLane s n).msg with
  | some p => laneSend n true p s
  | none => s

def execLnbRepeat (lane : Fin 128) (s : State) : Host.Outcome State Fault Refusal := clockedOn (lane.val / 32) (lnbRepeatStep lane.val) s

/-! ### Eye scans and snapshots (R372, R581) -/

/-- The points of a scan, V outer and H inner. -/
def scanPoints (x : EyeScan) : List (Int × Int) :=
  (upto x.vs).flatMap (fun i => (upto x.hs).map (fun j => (x.h0 + Int.ofNat (x.hStep * j), x.v0 + Int.ofNat (x.vStep * i))))

/-- One record of a scan: the count saturates at 40 bits. -/
def scanRecord (p : Int × Int) (count : Nat) : List Nat :=
  leBytes 8 (Nat.min count (2 ^ 40 - 1) + unsgn 8 p.1 * 2 ^ 48 + unsgn 8 p.2 * 2 ^ 56)

/-- The records of a scan in the order of its points. -/
def scanBytes (x : EyeScan) (counts : List Nat) : List Nat :=
  ((scanPoints x).zip (upto (scanPoints x).length)).flatMap (fun p => scanRecord p.1 (counts.getD p.2 0))

/-- EYESCAN_DONE (R372): the records are written and fenced, then the response. -/
def eyescanDoneStep (n : Nat) (counts : List Nat) (s : Block) : Block :=
  match (getLane s n).scan with
  | none => s
  | some x =>
    let s := (writeMem (srcQuad n) x.addr (scanBytes x counts) (modLane n (fun x => { x with scan := none }) s)).2
    s.close 0x0406 n St.ok

def execEyescanDone (lane : Fin 128) (counts : List Nat) (s : State) : Host.Outcome State Fault Refusal :=
  clockedOn (lane.val / 32) (eyescanDoneStep lane.val counts) s

/-- LANE_SNAP (R581): every counter of the lane is latched into the copies that reads return. -/
def snapLane (n : Nat) (s : Block) : Block :=
  let v (i : Nat) : BitVec 48 := BitVec.ofNat 48 (s.reg (Rg.lane n + Rg.lCnt i)).toNat
  modLane n (fun x => { x with snaps := (upto 5).foldl (fun m i => spSet (fun _ => 0) m i (v i)) x.snaps }) s

def execLaneSnap (lane : Fin 128) (s : State) : Host.Outcome State Fault Refusal := clockedOn (lane.val / 32) (snapLane lane.val) s

/-- The lanes of a die return to DISABLED with their registers and counters reset (R55). -/
def lanesReset (d : Nat) (s : Block) : Block :=
  let s := s.mbx.opens.foldl (fun s o =>
    if (o.op2 == 0x0400 && o.obj / 2 ^ 32 == d) || (o.op2 == 0x0406 && o.obj / 32 == d) then s.answer o St.refusedState else s) s
  let s := s.resetWindows (0x20 + 0x20 * d + 0x18) (0x20 + 0x20 * d + 0x1F)
  { s with lanes := spClear (fun n => n / 32 == d) s.lanes }

end Sys2Proof.Machine
end

