-- ==== Sys2Proof/Machine/Clocks.lean ====
section
/-! DEFINITION. Root clock and derived clocks (03): reference loss, fallback, holdover and restoration, and the fabric
PLLs.  Root PLL loss of lock is in Sys2Proof/Machine/Power.lean, since it makes every block safe. -/

namespace Sys2Proof.Machine

/-- The EIC source of the root clock (R532). -/
def srcRootClock : Nat := 1287

/-- The root PLL slews to the other reference: the ring when `toRing`, else REFCLK (R75). -/
def startSlew (toRing : Bool) (s : Block) : Block :=
  let s := s.putB Rg.clk Rg.clkOnRing toRing
  let s := s.putB Rg.clk Rg.clkHoldover false
  let s := s.putB Rg.clk Rg.clkSlewing true
  { s with clk := { s.clk with slewRing := toRing, ringUsed := s.clk.ringUsed || toRing } }

/-- The root PLL holds its last control value (R85). -/
def enterHoldover (s : Block) : Block :=
  let s := s.putB Rg.clk Rg.clkSlewing false
  let s := s.putB Rg.clk Rg.clkHoldover true
  (s.raise Ev.holdover (originOf 0x04)).eicEdge srcRootClock

/-- The primary reference is the ring (PRIMARY, R73).  DESIGN CHOICE: the spec does not say when a write of CLK_ROOT_CTRL.PRIMARY acts
(R75); it changes no reference by itself, and the next loss, return or lock of a reference reads it. -/
def primaryRing (s : Block) : Bool := s.flag Rg.clk Rg.clkPrimary

/-- The reference in use is lost (R85): the other one is taken where FALLBACK_EN permits it and it is in range,
else the PLL enters holdover. REF_FALLBACK records the loss of the primary reference. -/
def loseReference (ringLost : Bool) (s : Block) : Block :=
  let prim := primaryRing s == ringLost
  let s := when prim (fun s => s.putB Rg.clk Rg.clkRefFallback true) s
  if s.flag Rg.clk Rg.clkOnRing == ringLost && !s.flag Rg.clk Rg.clkHoldover then
    let otherOk := if ringLost then s.flag Rg.clk Rg.clkRefclkOk else s.flag Rg.clk Rg.clkRingOk
    if s.flag Rg.clk Rg.clkFallbackEn && otherOk then
      (((startSlew (!ringLost) s).raise Ev.refFallback (originOf 0x04))).eicEdge srcRootClock
    else enterHoldover s
  else s

/-- The ring reference is lost or out of range: RING_OK falls (R85). -/
def ringRefLost (s : Block) : Block := loseReference true (s.putB Rg.clk Rg.clkRingOk false)

/-- PRIMARY_RING_LOST. -/
def primaryRingLostStep (s : Block) : Block := if s.flag Rg.clk Rg.clkClockFault then s else ringRefLost s

def execPrimaryRingLost (s : State) : Host.Outcome State Fault Refusal := clocked primaryRingLostStep s

/-- REFCLK is lost (R85). -/
def refclkLostStep (s : Block) : Block :=
  if s.flag Rg.clk Rg.clkClockFault then s
  else loseReference false (s.putB Rg.clk Rg.clkRefclkOk false)

def execRefclkLost (s : State) : Host.Outcome State Fault Refusal := clocked refclkLostStep s

/-- The ring has been locked for 10 ms: it counts as good, and the root PLL slews back to it where it is the primary reference and
not in use (R85, R75). -/
def ringRestored (s : Block) : Block :=
  let s := s.putB Rg.clk Rg.clkRingOk true
  when (primaryRing s && (!s.flag Rg.clk Rg.clkOnRing || s.flag Rg.clk Rg.clkHoldover)) (startSlew true) s

/-- The PLL takes REFCLK on its return: from the ring or from holdover where REFCLK is the primary reference; where the ring is, from
a holdover that began on REFCLK, or one that FALLBACK_EN permits to leave (R85). -/
def takesRefclk (s : Block) : Bool :=
  if primaryRing s then
    s.flag Rg.clk Rg.clkHoldover && (!s.flag Rg.clk Rg.clkOnRing || s.flag Rg.clk Rg.clkFallbackEn)
  else s.flag Rg.clk Rg.clkOnRing || s.flag Rg.clk Rg.clkHoldover

/-- REFCLK has been in range for 10 ms: it counts as good, and the root PLL slews back to it (R85, R75). -/
def refclkRestored (s : Block) : Block :=
  let s := s.putB Rg.clk Rg.clkRefclkOk true
  when (takesRefclk s) (startSlew false) s

/-- REFERENCE_RESTORED, of the ring or of REFCLK. The ring reference needs a locked receiver. -/
def referenceRestoredStep (ring : Bool) (s : Block) : Block :=
  if s.flag Rg.clk Rg.clkClockFault || (ring && !s.flag Rg.ring Rg.ringLocked) then s
  else if ring then ringRestored s
  else refclkRestored s

def execReferenceRestored (ring : Bool) (s : State) : Host.Outcome State Fault Refusal := clocked (referenceRestoredStep ring) s

/-- A reference slew completes (R75). -/
def referenceSlewDoneStep (s : Block) : Block := s.putB Rg.clk Rg.clkSlewing false

def execReferenceSlewDone (s : State) : Host.Outcome State Fault Refusal := clocked referenceSlewDoneStep s

/-- DEV_TIME wraps and sets TIME_WRAP (R580). -/
def devTimeWrapStep (s : Block) : Block := ({ s with devTime := 0 }).putB Rg.clk Rg.clkTimeWrap true

def execDevTimeWrap (s : State) : Host.Outcome State Fault Refusal := clocked devTimeWrapStep s

/-- Advance DEV_TIME by n cycles of the fabric global clock (R80); a wrap sets TIME_WRAP (R580). -/
def advanceTime (n : Nat) (s : Block) : Block :=
  let t := s.devTime.toNat + n
  let s' := { s with devTime := BitVec.ofNat 64 t }
  when (decide (2 ^ 64 ≤ t)) (fun s => s.putB Rg.clk Rg.clkTimeWrap true) s'

/-- The outputs of fabric PLL n of die d stop low, or free-run where the plate sets that (R85). -/
def fpllStops (d n : Nat) (s : Block) : Block :=
  let k := 16 * d + n
  let free := match spGet (fun _ => none) s.cfg.fplls k with
    | some p => p.freeRun
    | none => false
  if free then { s with clk := { s.clk with fpllFree := s.clk.fpllFree ++ [k] } }
  else { s with clk := { s.clk with fpllStopped := s.clk.fpllStopped ++ [k] } }

/-- A fabric PLL loses lock (R85): UNLOCK_SEEN, UNLOCK_COUNT, its outputs, an event and the die's EIC source. -/
def fpllLosesLock (d n : Nat) (s : Block) : Block :=
  let a := Rg.fpll d n
  let s := fpllStops d n (((s.putB a Rg.fpllLocked false).putB a Rg.fpllUnlockSeen true).bumpBy a fpllCnt 1)
  (s.raise Ev.fpllUnlock (originOf (0x23 + 0x20 * d)) n).eicEdge (eicDie d 19)

/-- FPLL_UNLOCK. A PLL that no plate configures is not locked and loses nothing. -/
def fpllUnlockStep (d n : Nat) (s : Block) : Block :=
  if s.flag (Rg.fpll d n) Rg.fpllLocked then fpllLosesLock d n s else s

def execFpllUnlock (die : Fin 4) (pll : Fin 16) (s : State) : Host.Outcome State Fault Refusal :=
  clockedOn (die.val) (fpllUnlockStep die.val pll.val) s

/-- A fabric PLL that a plate configures locks; its outputs resume at the first rising edge (R85). -/
def fpllRelockStep (d n : Nat) (s : Block) : Block :=
  let k := 16 * d + n
  if s.flag (Rg.fpll d n) Rg.fpllInUse then
    { s.putB (Rg.fpll d n) Rg.fpllLocked true with
      clk := { s.clk with fpllStopped := s.clk.fpllStopped.filter (· != k), fpllFree := s.clk.fpllFree.filter (· != k) } }
  else s

def execFpllRelock (die : Fin 4) (pll : Fin 16) (s : State) : Host.Outcome State Fault Refusal :=
  clockedOn (die.val) (fpllRelockStep die.val pll.val) s

end Sys2Proof.Machine
end

