-- ==== Sys2Proof/Machine/Dram.lean ====
section
/-! DEFINITION. DRAM controllers (13): training, states, requests, scheduling, refresh, activate tracking, command replay,
symbol errors, patrol scrub and initialisation.  What the line scrambler does with a returned line is in
Sys2Proof/Machine/Lsu.lean. -/

namespace Sys2Proof.Machine

def modDc (n : Nat) (f : DcSt → DcSt) (s : Block) : Block := setDc n (f (getDc s n)) s

/-- The EIC source of channel n (R532). -/
def dcEic (n : Nat) (s : Block) : Block := s.eicEdge (eicDie (n / 2) (6 + n % 2))

/-- The port ID that a channel's events carry. -/
def dcOrigin (n : Nat) : Nat := dcPortId n

/-- Statuses of R418. -/
def stTrainFail : Nat := 0x0500
def stDimmUnsupported : Nat := 0x0501
def stDimmMismatch : Nat := 0x0502
def stCapacityMismatch : Nat := 0x0503
def stChannelError : Nat := 0x0504
def stSelftestFail : Nat := 0x0505
def stContentsLost : Nat := 0x0506
def stPairType : Nat := 0x0507

/-! ### Channel states (R409) -/

/-- Reads of a channel that leaves service are answered by its port (R468): the controller forgets them; the sweep's line
is free again. -/
def dropReads (n : Nat) (s : Block) : Block :=
  modDc n (fun c => { c with rq := [], issued := [], rets := [], lock := [], alerts := [], retry := [] }) s

/-- Enter a channel state, with the port of R469: CHANNEL_ERROR and FAILED isolate it, every other state but ONLINE and
DRAINING closes it. -/
def enterDc (n new : Nat) (s : Block) : Block :=
  let s := setDcState n new s
  if new == 5 || new == 6 then isolatePort (dcPortId n) true (dropReads n s)
  else
    let s := when (new == 1 || new == 7) (portsReset [dcPortId n]) s
    if portState s (dcPortId n) == 2 then flushPort (dcPortId n) 4 s else s

/-- Enter CHANNEL_ERROR (R401, R643), which also raises the channel's EIC source. -/
def channelError (n : Nat) (s : Block) : Block := dcEic n (enterDc n 5 s)

/-! ### Geometry and address mapping (R376, R379, R380) -/

/-- Address bits that number a channel's ranks: 0 to 2. -/
def rankBits (d : Dimm) : Nat := if d.ranks ≤ 1 then 0 else if d.ranks == 2 then 1 else 2

/-- Capacity of a channel in bytes (R380). -/
def dimmCapacity (d : Dimm) : Nat :=
  2 ^ (6 + (if d.ddr4 then 0 else 1) + d.bgBits + (d.colBits - (if d.ddr4 then 3 else 4)) + d.bankBits + rankBits d + d.rowBits)

/-- The rates that R376 accepts for a fitted memory, by their codes of DC_STATUS.RATE. -/
def dimmRates (d : Dimm) : List Nat := if d.ddr4 then [3] else if d.rdimms == 2 then [1, 2, 3] else [0, 1, 2, 3]

/-- The configuration is one of R376, and its alert latency suits R399. -/
def dimmSupported (d : Dimm) : Bool :=
  let comp := d.rdimms == 0
  let width := if comp then d.devWidth == 8 || (d.devWidth == 16 && d.redundX8) else d.devWidth == 4 || d.devWidth == 8
  let ranks := if comp then d.ranks == 1
    else if d.ddr4 then decide (1 ≤ d.ranks) && decide (d.ranks ≤ 4)
    else if d.rdimms == 1 then d.ranks == 1 || d.ranks == 2
    else decide (2 ≤ d.ranks) && decide (d.ranks ≤ 4)
  let gib := if comp then (if d.ddr4 then 32 else 64) else if d.ddr4 then 128 else 256
  decide (d.rdimms ≤ 2) && width && ranks && decide (dimmCapacity d ≤ gib * 2 ^ 30) && decide (d.alertNs + 8 ≤ 100)

/-- The DRAM coordinates of a line (R379). -/
structure Coord where
  sub  : Nat
  rank : Nat
  bg   : Nat
  bank : Nat
  row  : Nat
deriving DecidableEq, Repr

/-- The coordinates of line number `line` (channel offset [37:6]) on a channel (R379). -/
def coordOf (c : DcSt) (line : Nat) : Coord :=
  match c.dimm with
  | none => { sub := 0, rank := 0, bg := 0, bank := 0, row := line }
  | some d =>
    let s := if d.ddr4 then 0 else 1
    let o1 := line / 2 ^ s
    let o2 := o1 / 2 ^ d.bgBits
    let o3 := o2 / 2 ^ (d.colBits - (if d.ddr4 then 3 else 4))
    let o4 := o3 / 2 ^ d.bankBits
    let row := o4 / 2 ^ rankBits d % 2 ^ d.rowBits
    let bg := o1 % 2 ^ d.bgBits
    { sub := line % 2 ^ s, rank := o4 % 2 ^ rankBits d, bank := o3 % 2 ^ d.bankBits, row := row,
      bg := if c.mapHash then Nat.xor bg (row % 2 ^ d.bgBits) else bg }

/-- The key of a bank: subchannel, rank, bank group, bank. -/
def bankKey (x : Coord) : Nat := 4096 * x.sub + 1024 * x.rank + 64 * x.bg + x.bank

/-! ### Commands on a channel (R409 to R416) -/

/-- What a DRAM command needs (R567). -/
def dramNeed (op : Nat) (expert : Bool := false) : Need := { op := op, ports := workPorts, stage := 3, expert := expert }

/-- A self-test or bracket runs on the channel. -/
def dcTesting (s : Block) (n : Nat) : Bool :=
  s.flag (Rg.dc n) Rg.bkBusy || s.gr.tests.any (fun t => (t.test == 6 || t.test == 7) && t.target == n)

/-- The answer of a command that the channel's state does not permit. -/
def dcRefuse (n : Nat) (c : Cmd) (s : Block) : Block :=
  s.respond c (if dcState s n == 5 then stChannelError else St.refusedState)

/-- A channel starts to train (R409). -/
def trainStart (n : Nat) (why : TrainWhy) (rate : Option Nat) (s : Block) : Block :=
  modDc n (fun c => { c with training := some why, rateAsked := rate }) (enterDc n 1 s)

/-- DRAM_TRAIN (R413): UNTRAINED, QUIESCED and FAILED channels. -/
def dramTrainCmd (n rate : Nat) (c : Cmd) (s : Block) : Block :=
  if 8 ≤ n || (4 ≤ rate && rate != 255) then s.respond c St.badArg
  else
    let st := dcState s n
    if st == 0 || st == 4 || st == 6 then
      if dcTesting s n then s.respond c St.busy
      else (trainStart n .command (if rate == 255 then none else some rate) s).hold c 0x0500 n
    else if st == 2 || st == 3 then s.respond c St.quiesceNeeded
    else dcRefuse n c s

def execDramTrain (h : Hdr) (ch rate : Nat) (s : State) : Host.Outcome State Fault Refusal :=
  live (fun s => s.command h (dramNeed 0x0500) (onDie (ch / 2) (dramTrainCmd ch rate))) s

/-- DRAM_STATUS (R418): DC_STATUS. -/
def dramStatusCmd (n : Nat) (c : Cmd) (s : Block) : Block :=
  if 8 ≤ n then s.respond c St.badArg else s.respond c St.ok [(4, (s.reg (Rg.dc n)).toNat)]

def execDramStatus (h : Hdr) (ch : Nat) (s : State) : Host.Outcome State Fault Refusal :=
  live (fun s => s.command h (dramNeed 0x0501) (onDie (ch / 2) (dramStatusCmd ch))) s

/-- DRAM_QUIESCE (R409): an ONLINE channel drains. -/
def dramQuiesceCmd (n : Nat) (c : Cmd) (s : Block) : Block :=
  if 8 ≤ n then s.respond c St.badArg
  else if dcState s n == 2 then (enterDc n 3 s).hold c 0x0502 n
  else dcRefuse n c s

def execDramQuiesce (h : Hdr) (ch : Nat) (s : State) : Host.Outcome State Fault Refusal :=
  live (fun s => s.command h (dramNeed 0x0502) (onDie (ch / 2) (dramQuiesceCmd ch))) s

/-- DRAM_RESUME (R409): a QUIESCED channel leaves self-refresh and is ONLINE. -/
def dramResumeCmd (n : Nat) (c : Cmd) (s : Block) : Block :=
  if 8 ≤ n then s.respond c St.badArg
  else if dcState s n == 4 then
    if dcTesting s n then s.respond c St.busy
    else (modDc n (fun c => { c with selfRefresh := false }) (enterDc n 2 s)).respond c St.ok
  else dcRefuse n c s

def execDramResume (h : Hdr) (ch : Nat) (s : State) : Host.Outcome State Fault Refusal :=
  live (fun s => s.command h (dramNeed 0x0503) (onDie (ch / 2) (dramResumeCmd ch))) s

/-- Sweeping regions need nothing more of a channel whose contents are gone: BOUND is LIMIT there (R442). -/
def boundsToLimit (n : Nat) (s : Block) : Block :=
  forEach (upto 64) (fun r s =>
    if s.flag (Rg.lsu n) (Rg.rgSweep r) then s.put (Rg.lsu n) (Rg.rgBound r) (s.f (Rg.lsu n) (Rg.rgLimit r)) else s) s

/-- A channel's contents are lost and new (R406). -/
def contentsNew (n : Nat) (s : Block) : Block := boundsToLimit n (markNew n s)

/-- DRAM_OFFLINE (R411): QUIESCED, CHANNEL_ERROR and FAILED channels; contents are lost. -/
def dramOfflineCmd (n : Nat) (c : Cmd) (s : Block) : Block :=
  if 8 ≤ n then s.respond c St.badArg
  else
    let st := dcState s n
    if st == 4 || st == 5 || st == 6 then
      if dcTesting s n then s.respond c St.busy
      else (modDc n (fun c => { c with dimm := none, selfRefresh := false, lost := false })
              (contentsNew n (enterDc n 7 s))).respond c St.ok
    else dcRefuse n c s

def execDramOffline (h : Hdr) (ch : Nat) (s : State) : Host.Outcome State Fault Refusal :=
  live (fun s => s.command h (dramNeed 0x0504) (onDie (ch / 2) (dramOfflineCmd ch))) s

/-- DRAM_ONLINE; REFUSED_STATE while the channel's power domain is switched off (R470): DESIGN CHOICE. The command (R411): an OFFLINE channel trains its new memory. -/
def dramOnlineCmd (n : Nat) (c : Cmd) (s : Block) : Block :=
  if 8 ≤ n then s.respond c St.badArg
  else if s.net.domOff.contains (40 + n) then s.respond c St.refusedState
  else if dcState s n == 7 then (trainStart n .online none s).hold c 0x0505 n
  else dcRefuse n c s

def execDramOnline (h : Hdr) (ch : Nat) (s : State) : Host.Outcome State Fault Refusal :=
  live (fun s => s.command h (dramNeed 0x0505) (onDie (ch / 2) (dramOnlineCmd ch))) s

/-- A march overwrites a range of a channel: free values. -/
def marchRange (n off len : Nat) (s : Block) : Block :=
  let lo := off / 64
  let hi := (off + len - 1) / 64
  let inR (k : Nat) : Bool := decide (lo ≤ k) && decide (k ≤ hi)
  let k := s.free
  modDc n (fun (x : DcSt) => { x with
    lines := spClear inR x.lines, tags := spClear inR x.tags,
    blurs := cutRange lo hi x.blurs ++ [(lo, hi, k)] }) ({ s with free := s.free + 1 } : Block)

/-- A test joins those that run. -/
def testBegins (run : TestRun) (s : Block) : Block := { s with gr := { s.gr with tests := s.gr.tests ++ [run] } }

/-- DRAM_SELFTEST (R416): a march over a range of a QUIESCED channel, which overwrites it; the march's end is
SELF_TEST_COMPLETE. What the march leaves is not given: free values. -/
def dramSelftestCmd (n off len : Nat) (c : Cmd) (s : Block) : Block :=
  if 8 ≤ n || (getDc s n).cap < off + len || len == 0 then s.respond c St.badArg
  else if dcState s n == 5 then s.respond c stChannelError
  else if dcState s n != 4 then s.respond c St.quiesceNeeded
  else if dcTesting s n then s.respond c St.busy
  else
    let run : TestRun := { test := 6, target := n, slot := none, resume := false, begun := true }
    (testBegins run (marchRange n off len s)).hold c 0x0506 n

def execDramSelftest (h : Hdr) (ch off len _kind : Nat) (s : State) : Host.Outcome State Fault Refusal :=
  live (fun s => s.command h (dramNeed 0x0506) (onDie (ch / 2) (dramSelftestCmd ch off len))) s

/-- DRAM_RECOVER (R412): a channel in CHANNEL_ERROR trains. -/
def dramRecoverCmd (n : Nat) (c : Cmd) (s : Block) : Block :=
  if 8 ≤ n then s.respond c St.badArg
  else if dcState s n == 5 then (trainStart n .recover none s).hold c 0x0508 n
  else s.respond c St.refusedState

def execDramRecover (h : Hdr) (ch : Nat) (s : State) : Host.Outcome State Fault Refusal :=
  live (fun s => s.command h (dramNeed 0x0508) (onDie (ch / 2) (dramRecoverCmd ch))) s

/-! ### Brackets (R415) -/

/-- A field of 0 acts as 1. -/
def oneIf0 (x : Nat) : Nat := if x == 0 then 1 else x

/-- The last point of a sweep lies in its target's range (R415). -/
def bracketInRange (ctrl : Nat) : Bool :=
  let t := fldGet ctrl 0 3
  let last := fldGet ctrl 8 9 + oneIf0 (fldGet ctrl 17 5) * (oneIf0 (fldGet ctrl 22 7) - 1)
  decide (last ≤ if t == 2 || t == 3 then 127 else 511)

/-- DRAM_BRACKET (R415), an expert command: the sweep that a DC_BRKT_CTRL value describes. -/
def dramBracketCmd (n : Nat) (ctrl : BitVec 64) (c : Cmd) (s : Block) : Block :=
  if 8 ≤ n then s.respond c St.badArg
  else
    let st := dcState s n
    if st == 5 then s.respond c stChannelError
    else if st != 1 && st != 4 then s.respond c St.quiesceNeeded
    else if dcTesting s n then s.respond c St.busy
    else if !bracketInRange ctrl.toNat then s.respond c St.badArg
    else ((s.plainWrite (Rg.dc n + 0x1000) true ctrl.toNat).putB (Rg.dc n) Rg.bkBusy true).hold c 0x0507 n

def execDramBracket (h : Hdr) (ch : Nat) (ctrl : BitVec 64) (s : State) : Host.Outcome State Fault Refusal :=
  live (fun s => s.command h (dramNeed 0x0507 true) (onDie (ch / 2) (dramBracketCmd ch ctrl))) s

/-- BRACKET_GO (R415): a write of GO starts the sweep of DC_BRKT_CTRL, or sets RANGE_ERR. -/
def bracketGoStep (n : Nat) (s : Block) : Block :=
  let st := dcState s n
  if s.flag (Rg.dc n) Rg.bkBusy then s
  else if (st == 1 || st == 4) && bracketInRange (s.reg (Rg.dc n + 0x1000)).toNat then s.putB (Rg.dc n) Rg.bkBusy true
  else s.putB (Rg.dc n) Rg.bkRangeErr true

def execBracketGo (ch : Fin 8) (s : State) : Host.Outcome State Fault Refusal := clockedOn (ch.val / 2) (bracketGoStep ch.val) s

/-- The results of a sweep go to the bits of the subchannel it swept. -/
def bracketResults (n : Nat) (results : List (BitVec 27)) (s : Block) : Block :=
  let ddr4 := s.flag (Rg.dc n) Rg.dcDdr4
  let base := if ddr4 then 0 else 40 * fldGet (s.reg (Rg.dc n + 0x1000)).toNat 3 1
  forEach (upto (Nat.min results.length (if ddr4 then 72 else 40)))
    (fun i s => s.setReg (Rg.bkResult n (base + i)) (BitVec.ofNat 64 (results.getD i 0).toNat)) s

/-- BRACKET_DONE: the results of every bit, in increasing DQ, and BUSY clears. -/
def bracketDoneStep (n : Nat) (results : List (BitVec 27)) (s : Block) : Block :=
  if !s.flag (Rg.dc n) Rg.bkBusy then s
  else
    ((bracketResults n results s).putB (Rg.dc n) Rg.bkBusy false).close 0x0507 n St.ok

def execBracketDone (ch : Fin 8) (results : List (BitVec 27)) (s : State) : Host.Outcome State Fault Refusal :=
  clockedOn (ch.val / 2) (bracketDoneStep ch.val results) s

/-! ### The end of training (R414) -/

/-- The command that waits for a channel's training. -/
def trainOp (w : TrainWhy) : Nat :=
  match w with
  | .online => 0x0505
  | .recover => 0x0508
  | .command | .stage3 | .dieReset => 0x0500

/-- With the boot plate source NONE, STAGE_DONE is set when DRAM training has ended (R43). -/
def trainingDone (s : Block) : Block :=
  when (s.start.trainingEnded && setting s 0x0003 == 0) (fun s => s.putB Rg.rst Rg.stageDone true) s

/-- Stage 3 training has ended on channel n (R42): its capacity enters the mapping (R29, R43). -/
def stage3Trained (n cap : Nat) (s : Block) : Block :=
  let s := { s with dmap := { s.dmap with caps := s.dmap.caps.set n cap } }
  let left := s.start.trainingLeft &&& ~~~(BitVec.ofNat 8 (2 ^ n))
  trainingDone { s with start := { s.start with trainingLeft := left, trainingEnded := left == 0 } }

/-- Training ends in a state, and its command is answered. -/
def trainEnd (n new : Nat) (w : TrainWhy) (status : Nat) (s : Block) : Block :=
  let s := modDc n (fun c => { c with training := none }) (enterDc n new s)
  let s := if w == .stage3 then stage3Trained n (if new == 2 then (getDc s n).cap else 0) s else s
  s.close (trainOp w) n status

/-- Training fails (R414): FAILED. -/
def trainFail (n : Nat) (w : TrainWhy) (status : Nat) (s : Block) : Block := trainEnd n 6 w status s

/-- Training passes at a rate (R399, R412, R414): the channel goes ONLINE with what was read and set. -/
def trainPass (n : Nat) (w : TrainWhy) (d : Dimm) (rate : Nat) (limited kept : Bool) (s : Block) : Block :=
  let b := Rg.dc n
  let s := (((s.putB b Rg.dcDdr4 d.ddr4).put b Rg.dcRate rate).put b Rg.dcAlertWindow (d.alertNs + 8)).put b Rg.dcCapacity
    (dimmCapacity d / 2 ^ 31)
  let s := when d.ddr4 (fun s => s.putB b Rg.dcRefMode true) s
  let s := modDc n (fun c => { c with
    dimm := some d, cap := dimmCapacity d, openRows := [], owed := [], hotRanks := [], selfRefresh := false,
    lost := false, streamUsed := [], otherUsed := [], slotNo := [] }) (s.putB b Rg.dcHot false)
  let s := when (!kept) (contentsNew n) s
  let lost := !kept && w == .recover
  let s := when lost (fun s => (s.putB b Rg.dcContentsLost true).raise Ev.dramContentsLost (dcOrigin n)) s
  let s := when limited (fun s => (s.putB b Rg.dcRateLimited true).raise Ev.dramRateLimited (dcOrigin n)) s
  trainEnd n 2 w (if lost then stContentsLost else St.ok) s

/-- Training keeps a channel's contents: after a recovery where every rank was in self-refresh, and for a command or a die reset. -/
def trainKeeps (n : Nat) (w : TrainWhy) (selfRef : Bool) (s : Block) : Bool :=
  match w with
  | .stage3 | .online => false
  | .recover => selfRef && !(getDc s n).lost
  | .command | .dieReset => true

/-- DRAM_TRAIN_DONE (R376 to R380, R399, R411, R412, R414): what the SPD read found, the type the pair's other channel
reports, the rate at which every step passed (none: it failed at every rate), and whether every rank could be put in
self-refresh before a recovery. -/
def dramTrainDoneStep (n : Nat) (dimm : Option Dimm) (pairDdr4 : Option Bool) (pass : Option Nat) (selfRef : Bool) (s : Block) :
    Block :=
  match (getDc s n).training with
  | none => s
  | some w =>
    match dimm with
    | none => trainFail n w stDimmUnsupported s
    | some d =>
      let top := ((getDc s n).rateAsked).getD ((dimmRates d).headD 0)
      if !dimmSupported d || !(dimmRates d).contains top then trainFail n w stDimmUnsupported s
      else if !d.sameRanks then trainFail n w stDimmMismatch s
      else if pairDdr4 == some (!d.ddr4) then trainFail n w stPairType s
      else if w == .online && dimmCapacity d < mappedCap s.dmap n then trainEnd n 7 w stCapacityMismatch s
      else
        match pass with
        | none => trainFail n w stTrainFail s
        | some r =>
          if !(dimmRates d).contains r || r < top then s
          else trainPass n w d r (decide (top < r)) (trainKeeps n w selfRef s) s

def execDramTrainDone (ch : Fin 8) (dimm : Option Dimm) (pairDdr4 : Option Bool) (pass : Option (Fin 4)) (selfRef : Bool)
    (s : State) : Host.Outcome State Fault Refusal :=
  clockedOn (ch.val / 2) (dramTrainDoneStep ch.val dimm pairDdr4 (pass.map (·.val)) selfRef) s

/-- DRAM_DRAIN_DONE (R409): every accepted request is answered and every queued write written; the DRAM enters
self-refresh. -/
def dramDrainDoneStep (n : Nat) (s : Block) : Block :=
  let c := getDc s n
  if dcState s n == 3 && c.rq.isEmpty && c.issued.isEmpty && c.rets.isEmpty && c.wq.isEmpty && c.lock.isEmpty then
    (modDc n (fun c => { c with selfRefresh := true, drain := false, forced := false }) (enterDc n 4 s)).close 0x0502 n St.ok
  else s

def execDramDrainDone (ch : Fin 8) (s : State) : Host.Outcome State Fault Refusal := clockedOn (ch.val / 2) (dramDrainDoneStep ch.val) s

/-- VDDQ_DC_REMOVED (R643): a channel of the pair that is neither OFFLINE nor UNTRAINED enters CHANNEL_ERROR and its
contents are lost. -/
def vddqRemovedOne (n : Nat) (s : Block) : Block :=
  let st := dcState s n
  if st == 0 || st == 7 then s
  else
    let s := modDc n (fun c => { c with lost := true, training := none }) (if st == 5 then s else channelError n s)
    contentsNew n s

def vddqDcRemovedStep (p : Nat) (s : Block) : Block := vddqRemovedOne (2 * p + 1) (vddqRemovedOne (2 * p) s)

def execVddqDcRemoved (pair : Fin 4) (s : State) : Host.Outcome State Fault Refusal := live (vddqDcRemovedStep pair.val) s

/-! ### Requests (R384 to R387, R406, R407, R437) -/

/-- The response status of a channel that is not ONLINE (R409). -/
def dcStatusOf (s : Block) (n : Nat) : Nat := targetPortStatus s (dcPortId n)

/-- The channel takes requests. -/
def dcTakes (s : Block) (n : Nat) : Bool := dcState s n == 2 && portState s (dcPortId n) == 0

/-- A line of the channel's memory. -/
def dcHasLine (s : Block) (n line : Nat) : Bool := decide (64 * line < (getDc s n).cap)

/-- A read joins the read queue, or is answered from the write queue (R385); it waits while the line is held by a locked
pair or a conversion, or the read queue is full (R384, R387, R437). -/
def acceptRead (n : Nat) (r : DReq) (s : Block) : Block :=
  let c := getDc s n
  match queuedWrite c r.line with
  | some w => setDc n { c with rets := c.rets ++ [{ req := r, data := w.data, tag := w.tag, bad := false }] } s
  | none => setDc n { c with rq := c.rq ++ [r] } s

/-- Reads in the controller that have not been answered: the read queue's 256 entries. -/
def rqFull (c : DcSt) : Bool := decide (256 ≤ c.rq.length)

/-- Channel n serves an initiator's requests in the scrambled view (R433): a design, a site where its view bit is 0; JTAG and the
Service Port. -/
def viewScr (s : Block) (n src : Nat) : Bool :=
  let v := s.f (Rg.lsu n) Rg.lsuViews
  let d := src / 256
  if d < 4 && src % 256 < 0x60 then !v.testBit d
  else if 5 ≤ d then !v.testBit (d - 1)
  else src == 0x404 || src == 0x405

/-- DRAM_LINE_READ of an initiator (R385, R406, R433): a line of an uninitialised block reads as zeros without a DRAM access. -/
def dramLineReadStep (n id line src : Nat) (stream : Bool) (s : Block) : Block :=
  let c := getDc s n
  if !dcTakes s n then s.emit (.lineResponse n id (dcStatusOf s n) false 0)
  else if !dcHasLine s n line || c.lock.contains line || rqFull c then s
  else if !blockDone c (blockOf line) then s.emit (.lineResponse n id 0 false 0)
  else acceptRead n { id := id, kind := .read, line := line, scr := viewScr s n src, form := lineForm s n line, stream := stream,
                      time := s.devTime, merge := none, issued := none } s

def execDramLineRead (ch : Fin 8) (id line : Nat) (src : BitVec 12) (stream : Bool) (s : State) : Host.Outcome State Fault Refusal :=
  clockedOn (ch.val / 2) (dramLineReadStep ch.val id line src.toNat stream) s

/-- WR_HIGH and WR_LOW in force (R389). -/
def wrHigh (c : DcSt) : Nat := fldGet c.schedNow 0 7
def wrLow (c : DcSt) : Nat := fldGet c.schedNow 7 7

/-- A write enters the write queue and is visible from then on (R386); a drain starts at WR_HIGH entries (R389). -/
def enterWrite (n line : Nat) (d : BitVec 512) (t : BitVec 32) (s : Block) : Block :=
  modDc n (fun c =>
    let wq := c.wq ++ [{ line := line, data := d, tag := t, time := s.devTime }]
    { c with wq := wq, drain := c.drain || decide (wrHigh c ≤ wq.length) }) s

/-- What a full-line write stores in each view (R430, R434): the stored form and its tag. -/
def storedForm (f : LineForm) (scr : Bool) (d : BitVec 512) : BitVec 512 × BitVec 32 :=
  if scr then (d, lineTag f (descramble f d)) else (scramble f d, lineTag f d)

/-- DRAM_LINE_WRITE: an uninitialised block is initialised first (R407). -/
def dramLineWriteStep (n : Nat) (id : Option Nat) (line src : Nat) (data : BitVec 512) (s : Block) : Block :=
  let c := getDc s n
  let reply (st : Nat) (s : Block) : Block := match id with
    | some i => s.emit (.lineResponse n i st false 0)
    | none => s
  if !dcTakes s n then
    (match id with
     | some _ => reply (dcStatusOf s n) s
     | none => bumpDiscard (dcPortId n) s)
  else if !dcHasLine s n line || c.lock.contains line || 128 ≤ c.wq.length then s
  else
    let s := if blockDone c (blockOf line) then s else initBlock n (blockOf line) s
    let v := storedForm (lineForm s n line) (viewScr s n src) data
    reply 0 (enterWrite n line v.1 v.2 s)

def execDramLineWrite (ch : Fin 8) (id : Option Nat) (line : Nat) (src : BitVec 12) (data : BitVec 512) (s : State) :
    Host.Outcome State Fault Refusal := clockedOn (ch.val / 2) (dramLineWriteStep ch.val id line src.toNat data) s

/-- A locked pair's line is locked and its read accepted. -/
def pairAccepted (n id line : Nat) (scr : Bool) (merge : Merge) (s : Block) : Block :=
  let s := modDc n (fun c => { c with lock := c.lock ++ [line] }) s
  acceptRead n { id := id, kind := .pair, line := line, scr := scr, form := lineForm s n line, stream := false,
                 time := s.devTime, merge := some merge, issued := none } s

/-- DRAM_LOCKED_PAIR (R384, R407, R431): the line is locked until the pair's write enters the write queue. In the scrambled
view a keyed line denies it (R434). -/
def dramLockedPairStep (n id line src : Nat) (merge : Merge) (s : Block) : Block :=
  let c := getDc s n
  let scr := viewScr s n src
  if !dcTakes s n then s.emit (.lineResponse n id (dcStatusOf s n) false 0)
  else if scr && (lineForm s n line).key.isSome then s.emit (.lineResponse n id 2 false 0)
  else if !dcHasLine s n line || c.lock.contains line || rqFull c then s
  else
    pairAccepted n id line scr merge (if blockDone c (blockOf line) then s else initBlock n (blockOf line) s)

def execDramLockedPair (ch : Fin 8) (id line : Nat) (src : BitVec 12) (merge : Merge) (s : State) :
    Host.Outcome State Fault Refusal := clockedOn (ch.val / 2) (dramLockedPairStep ch.val id line src.toNat merge) s

/-! ### Activate tracking (R396, R397) -/

/-- ACT_THRESH in force; 0 acts as 1. -/
def actThresh (c : DcSt) : Nat := oneIf0 (c.actNow % 2 ^ 16)

/-- Entry e of a bank's tracking table. -/
def actEntry (c : DcSt) (bank e : Nat) : Option (Nat × Nat) := spGet (fun _ => none) c.acts (16 * bank + e)

/-- The entry that an activate of a row takes (R396): the row's, else the lowest invalid, else the smallest count, the lowest
numbered among equals. -/
def actVictim (c : DcSt) (bank row : Nat) : Nat :=
  let cnt (e : Nat) : Nat := match actEntry c bank e with
    | some x => x.2
    | none => 0
  match (upto 16).find? (fun e => match actEntry c bank e with
    | some x => x.1 == row
    | none => false) with
  | some e => e
  | none =>
    match (upto 16).find? (fun e => (actEntry c bank e).isNone) with
    | some e => e
    | none => (upto 16).foldl (fun b e => if cnt e < cnt b then e else b) 0

/-- Commands go out on a subchannel: its retry buffer keeps the last 64 (R399). -/
def sendCmds (n sub : Nat) (l : List DCmd) (s : Block) : Block :=
  modDc n (fun c =>
    let all := spGet (fun _ => []) c.retry sub ++ l.map (fun x => (s.devTime, x))
    { c with retry := spSet (fun _ => []) c.retry sub (all.drop (all.length - 64)) }) s

/-- The commands issued on a subchannel within a window of time before an instant. -/
def cmdsWithin (s : Block) (n sub : Nat) (time : BitVec 64) : List DCmd :=
  ((spGet (fun _ => []) (getDc s n).retry sub).filter (fun x => decide (time.toNat ≤ x.1.toNat + s.f (Rg.dc n) Rg.dcAlertWindow))).map (·.2)

/-- What a mitigation of a row issues (R397): refresh management where the DRAM supports it, and the rows two and one beside it that exist. -/
def mitigation (c : DcSt) (b row : Nat) : List DCmd :=
  let near := (if 2 ≤ row then [row - 2] else []) ++ (if 1 ≤ row then [row - 1] else []) ++ [row + 1, row + 2]
  match c.dimm with
  | none => []
  | some d => (if d.rfm then [.rfm b] else []) ++ (near.filter (fun r => decide (r < 2 ^ d.rowBits))).map (DCmd.activate b)

/-- An activate of a row (R396, R397): its count; at ACT_THRESH a mitigation is issued, and the bank is left closed. -/
def activate (n : Nat) (x : Coord) (s : Block) : Block :=
  let c := getDc s n
  let b := bankKey x
  let e := actVictim c b x.row
  let cnt := (match actEntry c b e with
    | some p => p.2
    | none => 0) + 1
  let put (v : Option (Nat × Nat)) (c : DcSt) : DcSt := { c with acts := spSet (fun _ => none) c.acts (16 * b + e) v }
  let row (v : Option Nat) (c : DcSt) : DcSt := { c with openRows := spSet (fun _ => none) c.openRows b v }
  if actThresh c ≤ cnt then
    sendCmds n x.sub (.activate b x.row :: mitigation c b x.row) ((setDc n (row none (put none c)) s).bump (Rg.dcMitigateCount n))
  else sendCmds n x.sub [.activate b x.row] (setDc n (row (some x.row) (put (some (x.row, cnt)) c)) s)

/-- Open the row of a burst where it is not open. -/
def openFor (n : Nat) (x : Coord) (s : Block) : Block :=
  if spGet (fun _ => none) (getDc s n).openRows (bankKey x) == some x.row then s else activate n x s

/-- ACT_TABLE_CLEAR (R396): every 32 ms the entries of a bank are invalid. -/
def actTableClearStep (n : Nat) (x : Coord) (s : Block) : Block :=
  modDc n (fun c => { c with acts := spClear (fun k => k / 16 == bankKey x) c.acts }) s

def execActTableClear (ch : Fin 8) (sub : Fin 2) (rank : Fin 4) (bg : Fin 8) (bank : Fin 4) (s : State) :
    Host.Outcome State Fault Refusal :=
  clockedOn (ch.val / 2) (actTableClearStep ch.val { sub := sub.val, rank := rank.val, bg := bg.val, bank := bank.val, row := 0 }) s

/-! ### Refresh (R394, R395) -/

/-- Refresh intervals owed by a rank of a subchannel. -/
def owedOf (c : DcSt) (sub rank : Nat) : Nat := spGet (fun _ => 0) c.owed (4 * sub + rank)

/-- The channel's DRAM is clocked and refreshed by the controller: ONLINE or DRAINING. -/
def dcRuns (s : Block) (n : Nat) : Bool := dcState s n == 2 || dcState s n == 3

/-- DRAM_REFRESH_DUE: an interval of a rank expires; changes of DC_SCHED, DC_REFRESH and DC_ACT_THRESH take effect. -/
def dramRefreshDueStep (n sub rank : Nat) (s : Block) : Block :=
  let c := getDc s n
  let ranks := match c.dimm with
    | some d => d.ranks
    | none => 0
  if !dcRuns s n || ranks ≤ rank || (sub == 1 && s.flag (Rg.dc n) Rg.dcDdr4) then s
  else modDc n (fun c => { c with
    owed := spSet (fun _ => 0) c.owed (4 * sub + rank) (owedOf c sub rank + 1),
    schedNow := (s.reg (Rg.dc n + 0x08)).toNat, refNow := (s.reg (Rg.dc n + 0x10)).toNat,
    actNow := (s.reg (Rg.dc n + 0x18)).toNat }) s

def execDramRefreshDue (ch : Fin 8) (sub : Fin 2) (rank : Fin 4) (s : State) : Host.Outcome State Fault Refusal :=
  clockedOn (ch.val / 2) (dramRefreshDueStep ch.val sub.val rank.val) s

/-- One refresh of a rank: all its banks close in all-bank mode, the next bank of every bank group in same-bank mode
(R394). -/
def refreshRank (n sub rank : Nat) (s : Block) : Block :=
  sendCmds n sub [.refresh rank] <| modDc n (fun c =>
    let key := 4 * sub + rank
    let bankBits := match c.dimm with
      | some d => d.bankBits
      | none => 0
    let ddr4 := match c.dimm with
      | some d => d.ddr4
      | none => false
    let all := ddr4 || fldGet c.refNow 0 1 == 1
    let b := spGet (fun _ => 0) c.refBank key
    let hit (k : Nat) : Bool := k / 4096 == sub && k / 1024 % 4 == rank && (all || k % 64 == b)
    { c with owed := spSet (fun _ => 0) c.owed key (owedOf c sub rank - 1), openRows := spClear hit c.openRows,
             refBank := if all then c.refBank else spSet (fun _ => 0) c.refBank key ((b + 1) % 2 ^ bankBits) }) s

/-- The ranks that report a doubled rate, with an event for each that did not before. -/
def rateRead (n : Nat) (hot : BitVec 4) (s : Block) : Block :=
  let ranks := match (getDc s n).dimm with
    | some d => d.ranks
    | none => 0
  let now := (bitsOf 4 hot.toNat).filter (fun r => decide (r < ranks))
  let fresh := now.filter (fun r => !(getDc s n).hotRanks.contains r)
  forEach fresh (fun _ s => s.raise Ev.dramHot (dcOrigin n))
    ((modDc n (fun c => { c with hotRanks := now }) s).putB (Rg.dc n) Rg.dcHot (!now.isEmpty))

/-- DRAM_REFRESH_RATE_READ (R394): the ranks that report a doubled rate; an event for each change to it. -/
def dramRefreshRateReadStep (n : Nat) (hot : BitVec 4) (s : Block) : Block := when (dcRuns s n) (rateRead n hot) s

def execDramRefreshRateRead (ch : Fin 8) (hot : BitVec 4) (s : State) : Host.Outcome State Fault Refusal :=
  clockedOn (ch.val / 2) (dramRefreshRateReadStep ch.val hot) s

/-! ### Scheduling (R388 to R391) -/

/-- An alert holds the subchannel's issue (R400). -/
def alertOn (c : DcSt) (sub : Nat) : Option DAlert := spGet (fun _ => none) c.alerts sub

/-- The line's row is open. -/
def rowHit (c : DcSt) (line : Nat) : Bool :=
  let x := coordOf c line
  spGet (fun _ => none) c.openRows (bankKey x) == some x.row

/-- Among reads, oldest first: one that has waited 500 ns, else a row hit, else the oldest (R388). -/
def pickRead (now : Nat) (c : DcSt) (l : List DReq) : Option DReq :=
  match l.head? with
  | none => none
  | some r => if r.time.toNat + 500 ≤ now then some r else some ((l.find? (fun x => rowHit c x.line)).getD r)

/-- The next write of a subchannel: a row hit, else the oldest, among the first of each line, and none that an older read of
its line precedes (R385). -/
def pickWrite (c : DcSt) (sub : Nat) : Option DWrite :=
  let free := c.wq.filter (fun w => (coordOf c w.line).sub == sub &&
    !(c.rq ++ c.issued).any (fun r => r.line == w.line) &&
    (c.wq.find? (fun v => v.line == w.line)) == some w)
  match free.head? with
  | none => none
  | some w => some ((free.find? (fun x => rowHit c x.line)).getD w)

/-- Issue a read's burst. -/
def issueRead (n : Nat) (r : DReq) (s : Block) : Block :=
  let x := coordOf (getDc s n) r.line
  let s := sendCmds n x.sub [.read r.line] (openFor n x s)
  modDc n (fun c => { c with rq := c.rq.erase r, issued := c.issued ++ [{ r with issued := some s.devTime }] }) s

/-- A drain goes on: above WR_LOW, or forced while a write has waited 1 µs (R389, R390). -/
def drainGoes (now : Nat) (c : DcSt) : Bool :=
  if c.forced then c.wq.any (fun w => decide (w.time.toNat + 1000 ≤ now)) else decide (wrLow c < c.wq.length)

/-- Issue a write's burst: the line is in the DRAM array. -/
def issueWrite (n : Nat) (w : DWrite) (s : Block) : Block :=
  let x := coordOf (getDc s n) w.line
  let s := sendCmds n x.sub [.write w.line] (openFor n x s)
  modDc n (fun c =>
    let c := storeLine w.line w.data w.tag { c with wq := c.wq.erase w }
    let go := c.drain && drainGoes s.devTime.toNat c
    { c with drain := go, forced := c.forced && go }) s

/-- Count a slot of the window of 128 (R391): kind 0 stream, 1 other, 2 neither. -/
def countSlot (n sub kind : Nat) (s : Block) : Block :=
  modDc n (fun c =>
    let i := spGet (fun _ => 0) c.slotNo sub
    let add (m : Sp Nat) (k : Nat) : Sp Nat := spSet (fun _ => 0) m sub (spGet (fun _ => 0) m sub + (if kind == k then 1 else 0))
    if i == 127 then { c with slotNo := spSet (fun _ => 0) c.slotNo sub 0, streamUsed := spSet (fun _ => 0) c.streamUsed sub 0,
                              otherUsed := spSet (fun _ => 0) c.otherUsed sub 0 }
    else { c with slotNo := spSet (fun _ => 0) c.slotNo sub (i + 1), streamUsed := add c.streamUsed 0,
                  otherUsed := add c.otherUsed 1 }) s

/-- One free slot of a subchannel (R388 to R391, R395): an owed refresh, else a stream read within its share, else a write of a
drain, else another read. -/
def schedulerSlot (n sub : Nat) (s : Block) : Block :=
  let c := getDc s n
  let now := s.devTime.toNat
  let reads := c.rq.filter (fun r => (coordOf c r.line).sub == sub)
  let streams := reads.filter (·.stream)
  let others := reads.filter (fun r => !r.stream)
  let due := (upto 4).find? (fun r =>
    decide (4 < owedOf c sub r) || (streams.isEmpty && decide (0 < owedOf c sub r)))
  match due with
  | some r => countSlot n sub 2 (refreshRank n sub r s)
  | none =>
    let st := pickRead now c streams
    let sweep := others.filter (fun r => r.kind == .sweep)
    let ot := pickRead now c (if sweep.isEmpty then others else sweep)
    let wr := pickWrite c sub
    let useWrite := wr.isSome && (c.drain || reads.isEmpty)
    let other := useWrite || ot.isSome
    let mine := spGet (fun _ => 0) c.otherUsed sub
    let yours := spGet (fun _ => 0) c.streamUsed sub
    let goStream := st.isSome && (!other || decide (yours < 7 * (mine + 1)))
    match goStream, st with
    | true, some r => countSlot n sub 0 (issueRead n r s)
    | _, _ =>
      if useWrite then
        match wr with
        | some w => countSlot n sub 1 (issueWrite n w s)
        | none => s
      else
        match ot with
        | some r => countSlot n sub 1 (issueRead n r s)
        | none => countSlot n sub 2 s

/-- DRAM_SCHEDULER_SLOT: while the channel runs and no alert holds the subchannel. A slot sends seven commands at most, and 64 is the most that
ALERT_WINDOW may see (R399). -/
def dramSchedulerSlotStep (n sub : Nat) (s : Block) : Block :=
  when (dcRuns s n && (alertOn (getDc s n) sub).isNone && decide ((cmdsWithin s n sub s.devTime).length + 7 ≤ 64)) (schedulerSlot n sub) s

def execDramSchedulerSlot (ch : Fin 8) (sub : Fin 2) (s : State) : Host.Outcome State Fault Refusal :=
  clockedOn (ch.val / 2) (dramSchedulerSlotStep ch.val sub.val) s

/-- The instant 2 µs after a write entered the queue. -/
def writeWaited (w : DWrite) (s : Block) : Block :=
  let t := BitVec.ofNat 64 (w.time.toNat + 2000)
  if s.devTime.toNat < t.toNat then { s with devTime := t } else s

/-- DRAM_WRITE_STARVE (R390): a write has waited 2 µs; a forced drain starts. -/
def dramWriteStarveStep (n : Nat) (s : Block) : Block :=
  let c := getDc s n
  match c.wq.head? with
  | none => s
  | some w =>
    if c.drain || !dcRuns s n then s
    else (modDc n (fun c => { c with drain := true, forced := true }) (writeWaited w s)).bump (Rg.dcWstarveCount n)

def execDramWriteStarve (ch : Fin 8) (s : State) : Host.Outcome State Fault Refusal := clockedOn (ch.val / 2) (dramWriteStarveStep ch.val) s

/-! ### Symbol errors (R383, R402, R403) -/

/-- What the decoder makes of a line with wrong symbols: clean, corrected, found uncorrectable, or not found. -/
inductive Verdict where
  | clean | corrected | bad | missed (corrected : Bool) (data : BitVec 512)
deriving DecidableEq, Repr

/-- The channel's DRAM is DDR4. -/
def isDdr4 (c : DcSt) : Bool := match c.dimm with
  | some d => d.ddr4
  | none => false

/-- The wrong symbols that a codeword has: 18 on DDR4, 20 on DDR5 (R381, R382). -/
def realErrs (c : DcSt) (errs : List (Nat × Nat)) : List (Nat × Nat) := errs.filter (fun e => decide (e.2 < if isDdr4 c then 18 else 20))

/-- The verdict of a line read (R383): an error the code is not guaranteed to find is found, missed or miscorrected by a
free value. -/
def lineVerdict (c : DcSt) (tagged : Bool) (errs : List (Nat × Nat)) (s : Block) : Verdict × Block :=
  let ddr4 := isDdr4 c
  let cnt (k : Nat) : Nat := ((upto 20).filter (fun p => errs.contains (k, p))).length
  let vs := (upto 4).map (fun k => symbolVerdict ddr4 tagged (cnt k))
  if errs.isEmpty then (.clean, s)
  else if vs.contains (some false) then (.bad, s)
  else if vs.contains none then
    let a := s.draw
    let b := a.2.draw
    if a.1 % 3 == 0 then (.bad, a.2) else (.missed (a.1 % 3 == 1) (BitVec.ofNat 512 b.1), b.2)
  else (.corrected, s)

/-- The first failing symbol: lowest codeword, lowest symbol. -/
def firstErr (errs : List (Nat × Nat)) : Nat × Nat :=
  match errs with
  | [] => (0, 0)
  | e :: es => es.foldl (fun b x => if x.1 < b.1 || (x.1 == b.1 && x.2 < b.2) then x else b) e

/-- An entry of the channel's error log (R403). -/
def dcLog (n line : Nat) (ue patrol tagged : Bool) (errs : List (Nat × Nat)) (s : Block) : Block :=
  let e := firstErr errs
  s.logWrite (Rg.dcErrLog n) (2 * ue.toNat + 4 * patrol.toNat + 8 * tagged.toNat + 16 * (e.2 % 32) + 512 * (e.1 % 4) +
    4096 * (line % 2 ^ 32) + 2 ^ 44 * (s.devTime.toNat / 2 ^ 20 % 2 ^ 20)) Ev.dramLogFull

/-- Correctable errors of a DQ pair group at 16 distinct lines within 1 s (R403). -/
def suspectOne (n line g : Nat) (s : Block) : Block :=
  let c := getDc s n
  let x := coordOf c line
  let now := s.devTime.toNat
  let seen := c.ceSeen.filter (fun e => decide (now ≤ e.2.2.2.2 + 1000000000)) ++ [(x.sub, x.rank, g, line, now)]
  let lines := ((seen.filter (fun e => e.1 == x.sub && e.2.1 == x.rank && e.2.2.1 == g)).map (fun e => e.2.2.2.1)).eraseDups
  let key := (x.sub, x.rank, g)
  if 16 ≤ lines.length && !c.suspects.contains key then
    (setDc n { c with ceSeen := seen, suspects := c.suspects ++ [key] } s).raise Ev.dramDeviceSuspect (dcOrigin n)
      (x.rank + x.sub * 0x100 + g * 0x10000)
  else setDc n { c with ceSeen := seen } s

/-- A correctable error is counted, logged where CE_LOG_EN is 1, and watched. -/
def countCe (n line : Nat) (patrol tagged : Bool) (errs : List (Nat × Nat)) (s : Block) : Block :=
  let s := s.bump (Rg.dcCeCount n)
  let s := when (fldGet (getDc s n).schedNow 15 1 == 1) (dcLog n line false patrol tagged errs) s
  forEach ((upto 20).filter (fun p => errs.any (fun e => e.2 == p))) (suspectOne n line) s

/-- An uncorrectable error is counted and logged, with its event and EIC source. -/
def countUe (n line : Nat) (patrol tagged : Bool) (errs : List (Nat × Nat)) (s : Block) : Block :=
  dcEic n ((dcLog n line true patrol tagged errs (s.bump (Rg.dcUeCount n))).raise Ev.dramUe (dcOrigin n))

/-- The i-th issued read r returns with wrong symbols at the codewords and places given (R383, R402, R403). -/
def burstReturns (n i : Nat) (r : DReq) (errs : List (Nat × Nat)) (s : Block) : Block :=
  let v := lineVerdict (getDc s n) r.form.tagged errs s
  let ret (d : BitVec 512) (bad : Bool) (s : Block) : Block :=
    modDc n (fun c => { c with issued := c.issued.eraseIdx i,
                               rets := c.rets ++ [{ req := r, data := d, tag := storedTag c r.line, bad := bad }] }) s
  let d := storedLine (getDc s n) r.line
  match v.1 with
  | .clean => ret d false v.2
  | .corrected => countCe n r.line false r.form.tagged errs (ret d false v.2)
  | .bad => countUe n r.line false r.form.tagged errs (ret d true v.2)
  | .missed ce x => when ce (countCe n r.line false r.form.tagged errs) (ret x false v.2)

/-- A read's subchannel asserts an alert: its data is void (R400). -/
def readVoid (c : DcSt) (r : DReq) : Bool :=
  match alertOn c (coordOf c r.line).sub with
  | some a => a.asserted
  | none => false

/-- DRAM_BURST_COMPLETE (R402). -/
def dramBurstCompleteStep (n i : Nat) (errs : List (Nat × Nat)) (s : Block) : Block :=
  match (getDc s n).issued[i]? with
  | none => s
  | some r => if readVoid (getDc s n) r then s else burstReturns n i r (realErrs (getDc s n) errs) s

def execDramBurstComplete (ch : Fin 8) (i : Nat) (errs : List (Fin 4 × Fin 20)) (s : State) :
    Host.Outcome State Fault Refusal :=
  clockedOn (ch.val / 2) (dramBurstCompleteStep ch.val i (errs.map (fun e => (e.1.val, e.2.val)))) s

/-- The next line of the patrol scrub, round the channel. -/
def patrolNext (c : DcSt) : Nat := if (c.patrolPos + 1) * 64 < c.cap then c.patrolPos + 1 else 0

/-- The patrol reads its next line (R404, R405): a correctable line is written back in its corrected stored form unless a newer write
overtook it; an uncorrectable one is logged. -/
def patrolRead (n : Nat) (errs : List (Nat × Nat)) (overtaken : Bool) (s : Block) : Block :=
  let line := (getDc s n).patrolPos
  let s := modDc n (fun c => { c with patrolPos := patrolNext c }) s
  let c := getDc s n
  if !blockDone c (blockOf line) then s
  else
    let tg := (lineForm s n line).tagged
    let v := lineVerdict c tg errs s
    match v.1 with
    | .clean => s
    | .corrected => countCe n line true tg errs v.2
    | .bad => countUe n line true tg errs v.2
    | .missed false _ => v.2
    | .missed true x =>
      let s := countCe n line true tg errs v.2
      if overtaken then s else modDc n (fun c => storeLine line x (storedTag c line) c) s

/-- DRAM_PATROL_READ: of an ONLINE channel, where no alert and no locked pair hold the line. -/
def dramPatrolReadStep (n : Nat) (errs : List (Nat × Nat)) (overtaken : Bool) (s : Block) : Block :=
  let c := getDc s n
  if dcState s n != 2 || (alertOn c (coordOf c c.patrolPos).sub).isSome || c.lock.contains c.patrolPos then s
  else patrolRead n (realErrs c errs) overtaken s

def execDramPatrolRead (ch : Fin 8) (errs : List (Fin 4 × Fin 20)) (overtaken : Bool) (s : State) :
    Host.Outcome State Fault Refusal :=
  clockedOn (ch.val / 2) (dramPatrolReadStep ch.val (errs.map (fun e => (e.1.val, e.2.val))) overtaken) s

/-! ### Command parity and replay (R400, R401) -/

/-- The read data received since ALERT_WINDOW before an alert is void, and its reads are to be issued again (R400). -/
def alertVoid (n sub : Nat) (a : DAlert) (s : Block) : Block :=
  let from' := s.devTime.toNat - s.f (Rg.dc n) Rg.dcAlertWindow
  modDc n (fun c =>
    let void (r : DRet) : Bool := (coordOf c r.req.line).sub == sub && (match r.req.issued with
      | some t => decide (from' ≤ t.toNat)
      | none => false)
    { c with alerts := spSet (fun _ => none) c.alerts sub (some a), rets := c.rets.filter (fun r => !void r),
             issued := c.issued ++ (c.rets.filter void).map (·.req) }) s

/-- DRAM_ALERT: issue stops, read data received since ALERT_WINDOW before is void, and a fourth failed replay is
CHANNEL_ERROR. -/
def dramAlertStep (n sub : Nat) (s : Block) : Block :=
  if !dcRuns s n then s
  else
    match alertOn (getDc s n) sub with
    | none => alertVoid n sub { replays := 0, asserted := true, time := s.devTime } (s.bump (Rg.dcAlertCount n))
    | some a =>
      if a.asserted then s
      else if 4 ≤ a.replays then channelError n (s.bump (Rg.dcAlertCount n))
      else alertVoid n sub { a with asserted := true, time := s.devTime } (s.bump (Rg.dcAlertCount n))

def execDramAlert (ch : Fin 8) (sub : Fin 2) (s : State) : Host.Outcome State Fault Refusal :=
  clockedOn (ch.val / 2) (dramAlertStep ch.val sub.val) s

/-- A replay (R400): every command issued within ALERT_WINDOW before the alert is issued again, in the original order; what it leaves is what
the commands left, open rows included. -/
def dcReplay (n sub : Nat) (a : DAlert) (s : Block) : Block :=
  let l := cmdsWithin s n sub a.time
  (sendCmds n sub l s).emit (.dramReplay n sub l)

/-- DRAM_ALERT_RELEASE: the replay begins. -/
def dramAlertReleaseStep (n sub : Nat) (s : Block) : Block :=
  match alertOn (getDc s n) sub with
  | some a =>
    if a.asserted then
      dcReplay n sub a (modDc n (fun c => { c with
        alerts := spSet (fun _ => none) c.alerts sub (some { a with replays := a.replays + 1, asserted := false }) }) s)
    else s
  | none => s

def execDramAlertRelease (ch : Fin 8) (sub : Fin 2) (s : State) : Host.Outcome State Fault Refusal :=
  clockedOn (ch.val / 2) (dramAlertReleaseStep ch.val sub.val) s

/-- DRAM_REPLAY_WINDOW_END: no alert came, the replay has succeeded and issue resumes. -/
def dramReplayWindowEndStep (n sub : Nat) (s : Block) : Block :=
  match alertOn (getDc s n) sub with
  | some a =>
    if a.asserted then s
    else (modDc n (fun c => { c with alerts := spSet (fun _ => none) c.alerts sub none }) s).bump (Rg.dcReplayCount n)
  | none => s

def execDramReplayWindowEnd (ch : Fin 8) (sub : Fin 2) (s : State) : Host.Outcome State Fault Refusal :=
  clockedOn (ch.val / 2) (dramReplayWindowEndStep ch.val sub.val) s

/-! ### Background work (R406, R416) -/

/-- DRAM_INIT_BLOCK (R406): the next uninitialised block is written. -/
def dramInitBlockStep (n : Nat) (s : Block) : Block :=
  let c := getDc s n
  if dcState s n == 2 && c.initBelow < dcBlocks c then initBlock n c.initBelow s else s

def execDramInitBlock (ch : Fin 8) (s : State) : Host.Outcome State Fault Refusal := clockedOn (ch.val / 2) (dramInitBlockStep ch.val) s

/-- DRAM_ZQ_CAL (R416): ZQ calibration of a rank; nothing that software can read changes. -/
def dramZqCalStep (_n _rank : Nat) (s : Block) : Block := s

def execDramZqCal (ch : Fin 8) (rank : Fin 4) (s : State) : Host.Outcome State Fault Refusal :=
  clockedOn (ch.val / 2) (dramZqCalStep ch.val rank.val) s

/-- The write delay of each bit given moves by one tap, up or down, within its range. -/
def driftMoves (n : Nat) (moves : List (Nat × Bool)) (s : Block) : Block :=
  forEach ((upto 80).filter (fun k => moves.any (fun m => m.1 == k))) (fun k s =>
    let up := match moves.find? (fun m => m.1 == k) with
      | some m => m.2
      | none => false
    let v := s.f (Rg.dly n k) Rg.dlyWr
    s.put (Rg.dly n k) Rg.dlyWr (if up then Nat.min 511 (v + 1) else v - 1)) s

/-- DRAM_DRIFT_TRACK (R416). -/
def dramDriftTrackStep (n : Nat) (moves : List (Nat × Bool)) (s : Block) : Block := when (dcRuns s n) (driftMoves n moves) s

def execDramDriftTrack (ch : Fin 8) (_rank : Fin 4) (moves : List (Fin 80 × Bool)) (s : State) :
    Host.Outcome State Fault Refusal := clockedOn (ch.val / 2) (dramDriftTrackStep ch.val (moves.map (fun m => (m.1.val, m.2)))) s

end Sys2Proof.Machine
end

