-- ==== Sys2Proof/Machine/Lsu.lean ====
section
/-! DEFINITION. Line scramblers (14): key slots, regions, the check of a returned line (R429, R431, R434), and the re-keying
sweep (R436 to R443). -/

namespace Sys2Proof.Machine

/-- Statuses of R444. -/
def stKeyInUse : Nat := 0x0600
def stRegionOverlap : Nat := 0x0601
def stRegionNotClear : Nat := 0x0602
def stSweepBusy : Nat := 0x0603
def stKeyEmpty : Nat := 0x0604
def stTagUnsupported : Nat := 0x0605

/-! ### Key slots (R422, R610) -/

/-- Greone firmware reaches channel n's line scrambler: its die is not in reset and its clocks run. -/
def lsuUp (s : Block) (n : Nat) : Bool := !dieOff s (n / 2)

/-- The line scramblers that firmware reaches; and the one whose tables it reads, which hold the same as every other's (R421). -/
def lsusUp (s : Block) : List Nat := (upto 8).filter (lsuUp s)
def lsuRef (s : Block) : Nat := ((upto 8).find? (lsuUp s)).getD 0

/-- A region of channel n's table names a slot as its key or as its sweep target. -/
def slotNamed (s : Block) (n k : Nat) : Bool :=
  (upto 64).any (fun r =>
    let b := Rg.lsu n
    (!s.flag b (Rg.rgKeyClear r) && s.f b (Rg.rgKey r) == k) ||
    (s.flag b (Rg.rgSweep r) && !s.flag b (Rg.rgNewClear r) && s.f b (Rg.rgNewKey r) == k))

/-- A region names a slot. -/
def slotInUse (s : Block) (k : Nat) : Bool := slotNamed s (lsuRef s) k

/-- LSU_KEY_STATUS of channel n follows its slots and regions. -/
def keyStatusAt (n : Nat) (s : Block) : Block :=
  forEach (upto 16) (fun k s =>
    (s.putB (Rg.lsu n) (Rg.lsuLoaded k) (slotKey s n k).isSome).putB (Rg.lsu n) (Rg.lsuInUse k) (slotNamed s n k)) s

/-- LSU_KEY_STATUS of every line scrambler follows the slots and regions. -/
def keyStatus (s : Block) : Block := forEach (lsusUp s) keyStatusAt s

/-- Put a key in a slot of channel n. -/
def setSlotAt (k : Nat) (v : Option (BitVec 128)) (n : Nat) (s : Block) : Block :=
  { s with lsu := { s.lsu with slots := spSet (fun _ => none) s.lsu.slots (16 * n + k) v } }

/-- The key that firmware holds for a slot. -/
def heldKey (s : Block) (k : Nat) : Option (BitVec 128) := spGet (fun _ => none) s.lsu.keys k

/-- Firmware puts a key into a slot of every line scrambler that it reaches, or empties the slot, and keeps it for the others (R422, R51). -/
def setSlot (k : Nat) (v : Option (BitVec 128)) (s : Block) : Block :=
  keyStatus (forEach (lsusUp s) (setSlotAt k v) { s with lsu := { s.lsu with keys := spSet (fun _ => none) s.lsu.keys k v } })

/-- A write of a word of LSU_KEY_s: half of the slot's key; a slot that held none takes zeros for the other half. -/
def lsuKeyWrite (n i data mask : Nat) (s : Block) : Block :=
  let old := ((slotKey s n (i / 2)).getD 0).toNat
  let lo := 64 * (i % 2)
  let v := Nat.lor (Nat.land (fldGet old lo 64) (Nat.xor (2 ^ 64 - 1) mask)) (Nat.land data mask)
  keyStatusAt n (setSlotAt (i / 2) (some (BitVec.ofNat 128 (fldSet old lo 64 v))) n s)

/-- The generation of a slot's key. -/
def setGen (k g : Nat) (s : Block) : Block := { s with lsu := { s.lsu with gens := spSet (fun _ => 0) s.lsu.gens k g } }

/-- The key of slot k at generation g (R610): "MQX-LSU", the slot and the generation are HKDF's info. -/
def lsuKey (s : Block) (k g : Nat) : BitVec 128 :=
  BitVec.ofNat 128 (leNat (hkdf16 (leBytes 32 s.nv.fuses.secret.toNat) (leBytes 32 s.sec.salt.toNat)
    ([0x4D, 0x51, 0x58, 0x2D, 0x4C, 0x53, 0x55, k] ++ leBytes 4 g)))

/-- LSU_KEY_LOAD (R610): reference 0 loads the next generation's key, reference 1 the present one's. -/
def lsuKeyLoadCmd (k ref : Nat) (c : Cmd) (s : Block) : Block :=
  if 16 ≤ k || 2 ≤ ref then s.respond c St.badArg
  else if slotInUse s k then s.respond c stKeyInUse
  else
    let g := spGet (fun _ => 0) s.lsu.gens k
    if ref == 1 && g == 0 then s.respond c stKeyEmpty
    else
      let g := if ref == 0 then (g + 1) % 2 ^ 32 else g
      (setSlot k (some (lsuKey s k g)) (setGen k g s)).respond c St.ok

def execLsuKeyLoad (h : Hdr) (slot ref : Nat) (s : State) : Host.Outcome State Fault Refusal :=
  live (fun s => s.command h { op := 0x0600, ports := hostPorts, stage := 3 } (lsuKeyLoadCmd slot ref)) s

/-- LSU_KEY_CLEAR (R422). -/
def lsuKeyClearCmd (k : Nat) (c : Cmd) (s : Block) : Block :=
  if 16 ≤ k then s.respond c St.badArg
  else if slotInUse s k then s.respond c stKeyInUse
  else (setSlot k none s).respond c St.ok

def execLsuKeyClear (h : Hdr) (slot : Nat) (s : State) : Host.Outcome State Fault Refusal :=
  live (fun s => s.command h { op := 0x0601, ports := hostPorts, stage := 3 } (lsuKeyClearCmd slot)) s

/-! ### Regions (R421, R443) -/

/-- A region has a range other than its present one, or another VALID. -/
def regionChanges (s : Block) (r base limit valid : Nat) : Bool :=
  let b := Rg.lsu (lsuRef s)
  s.f b (Rg.rgBase r) != base || s.f b (Rg.rgLimit r) != limit || s.f b (Rg.rgValid r) != valid

/-- A range meets that of another VALID region, or leaves the DRAM window (R444). -/
def regionOverlaps (s : Block) (r base limit : Nat) : Bool :=
  let b := Rg.lsu (lsuRef s)
  decide (0x20000000000 < limit) || (upto 64).any (fun q => q != r && s.flag b (Rg.rgValid q) &&
    decide (base < s.f b (Rg.rgLimit q)) && decide (s.f b (Rg.rgBase q) < limit))

/-- Write a region register field in every table that firmware reaches (R421). -/
def lsuPutAll (fl : Fld) (v : Nat) (s : Block) : Block := forEach (lsusUp s) (fun n s => s.put (Rg.lsu n) fl v) s

/-- LSU_REGION_SET (R443). -/
def lsuRegionSetCmd (r base limit valid : Nat) (c : Cmd) (s : Block) : Block :=
  if 64 ≤ r || base % 0x10000 != 0 || limit % 0x10000 != 0 || limit < base || 2 ≤ valid then s.respond c St.badArg
  else if (!s.flag (Rg.lsu (lsuRef s)) (Rg.rgKeyClear r) || s.flag (Rg.lsu (lsuRef s)) (Rg.rgSweep r)) && regionChanges s r base limit valid then
    s.respond c stRegionNotClear
  else if valid == 1 && regionOverlaps s r base limit then s.respond c stRegionOverlap
  else
    (lsuPutAll (Rg.rgValid r) valid (lsuPutAll (Rg.rgLimit r) limit (lsuPutAll (Rg.rgBase r) base s))).respond c St.ok

def execLsuRegionSet (h : Hdr) (region base limit valid : Nat) (s : State) : Host.Outcome State Fault Refusal :=
  live (fun s => s.command h { op := 0x0602, ports := workPorts, stage := 3 } (lsuRegionSetCmd region base limit valid)) s

/-- LSU_STATUS: the region's LSU_REGION_CTRL. -/
def lsuStatusCmd (r : Nat) (c : Cmd) (s : Block) : Block :=
  if 64 ≤ r then s.respond c St.badArg else s.respond c St.ok [(8, (s.reg (Rg.lsu (lsuRef s) + 0x1010 + 0x20 * r)).toNat)]

def execLsuStatus (h : Hdr) (region : Nat) (s : State) : Host.Outcome State Fault Refusal :=
  live (fun s => s.command h { op := 0x0604, ports := workPorts, stage := 3 } (lsuStatusCmd region)) s

/-! ### The check of a returned line (R429 to R434) -/

/-- A log entry of the line scrambler, with its event and EIC source (R432). -/
def lsuLog (n line kind region : Nat) (scr : Bool) (s : Block) : Block :=
  let room := (s.logFree (Rg.lsuErrLog n)).isSome
  let s := s.logWrite (Rg.lsuErrLog n) (2 * kind + 16 * (region % 64) + 1024 * scr.toNat + 4096 * (line % 2 ^ 32) +
    2 ^ 44 * (s.devTime.toNat / 2 ^ 20 % 2 ^ 20)) Ev.lsuLogFull
  if room then dcEic n (s.raise Ev.lsuTagFail (dcOrigin n)) else s

/-- The merged data of a locked pair (R384, R431, R453): an atomic OR, or the bytes that are enabled. -/
def mergeLine (m : Merge) (d : BitVec 512) : BitVec 512 :=
  if m.aor then d ||| m.data
  else BitVec.ofNat 512 (leNat ((upto 64).map (fun i => fldGet (if m.mask.getLsbD i then m.data else d).toNat (8 * i) 8)))

/-- A returned line in the clear view: none where its tag fails (R429). -/
def checkClear (r : DRet) : Option (BitVec 512) :=
  let d := descramble r.req.form r.data
  if r.req.form.tagged && lineTag r.req.form d != r.tag then none else some d

/-- Remove a line from the channel's locks. -/
def unlock (n line : Nat) (s : Block) : Block := modDc n (fun c => { c with lock := c.lock.filter (· != line) }) s

/-- A read's answer (R429, R434). -/
def readAnswer (n : Nat) (r : DRet) (s : Block) : Block :=
  if r.bad then s.emit (.lineResponse n r.req.id 0 true 0)
  else if r.req.scr && r.req.form.key.isSome then s.emit (.lineResponse n r.req.id 0 false r.data)
  else
    match checkClear r with
    | some d => s.emit (.lineResponse n r.req.id 0 false d)
    | none => (lsuLog n r.req.line 0 r.req.form.region false (s.bump (Rg.lsuTagFail n))).emit (.lineResponse n r.req.id 0 true 0)

/-- A locked pair's end (R431): its write enters the write queue, or the line keeps its stored form. -/
def pairAnswer (n : Nat) (r : DRet) (m : Merge) (s : Block) : Block :=
  let s := unlock n r.req.line s
  if r.bad then (lsuLog n r.req.line 2 r.req.form.region r.req.scr s).emit (.lineResponse n r.req.id 0 true 0)
  else
    match checkClear r with
    | none =>
      (lsuLog n r.req.line 1 r.req.form.region r.req.scr (s.bump (Rg.lsuTagFail n))).emit (.lineResponse n r.req.id 5 false 0)
    | some d =>
      let v := storedForm r.req.form false (mergeLine m d)
      (enterWrite n r.req.line v.1 v.2 s).emit (.lineResponse n r.req.id 0 false 0)

/-- LSU_READ_CHECK: the i-th returned line of a read or locked pair. A pair's write waits for the write queue (R387). -/
def lsuReadCheckStep (n i : Nat) (s : Block) : Block :=
  let c := getDc s n
  match c.rets[i]? with
  | none => s
  | some r =>
    let take (s : Block) : Block := modDc n (fun c => { c with rets := c.rets.eraseIdx i }) s
    match r.req.kind, r.req.merge with
    | .read, _ => readAnswer n r (take s)
    | .pair, some m => if 128 ≤ c.wq.length then s else pairAnswer n r m (take s)
    | .pair, none => s
    | .sweep, _ => s

def execLsuReadCheck (ch : Fin 8) (i : Nat) (s : State) : Host.Outcome State Fault Refusal :=
  clockedOn (ch.val / 2) (lsuReadCheckStep ch.val i) s

/-! ### The sweep (R436 to R442) -/

/-- The first device address at or above a whose line lies in channel n (R28). -/
def nextOfChannel (m : DMap) (n a : Nat) : Option Nat :=
  let g := granBytes m.gran
  if m.mode == 2 then
    let lo := n * 0x4000000000
    if a < lo then some lo else if a < lo + 0x4000000000 then some a else none
  else if m.mode == 1 then
    let lo := n / 4 * 0x10000000000
    let a' := Nat.max a lo
    let b := a' / g
    let d := (n % 4 + 4 - b % 4) % 4
    if lo + 0x10000000000 ≤ a' then none else some (if d == 0 then a' else (b + d) * g)
  else
    let b := a / g
    let d := (n + 8 - b % 8) % 8
    some (if d == 0 then a else (b + d) * g)

/-- The next line of a region that the sweep of channel n converts, from device address a on, passing uninitialised blocks
(R439): its address and line. -/
def nextSweepLine (s : Block) (n limit : Nat) : Nat → Nat → Option (Nat × Nat)
  | 0, _ => none
  | fuel + 1, a =>
    match nextOfChannel s.dmap n a with
    | none => none
    | some a =>
      let off := (dramSplit s.dmap a).2
      let c := getDc s n
      if limit ≤ a || mappedCap s.dmap n ≤ off || c.cap ≤ off then none
      else if blockDone c (off / 0x100000) then some (a, off / 64)
      else nextSweepLine s n limit fuel (dramJoin s.dmap n ((off / 0x100000 + 1) * 0x100000))

/-- BASE, LIMIT and BOUND of region r on channel n. -/
def regionBase (s : Block) (n r : Nat) : Nat := s.f (Rg.lsu n) (Rg.rgBase r)
def regionLimit (s : Block) (n r : Nat) : Nat := s.f (Rg.lsu n) (Rg.rgLimit r)
def regionBound (s : Block) (n r : Nat) : Nat := s.f (Rg.lsu n) (Rg.rgBound r)

/-- The next line of region r for channel n. -/
def sweepNext (s : Block) (n r a : Nat) : Option (Nat × Nat) :=
  if s.flag (Rg.lsu n) (Rg.rgValid r) then nextSweepLine s n (regionLimit s n r) (dcBlocks (getDc s n) + 1) a else none

/-- Move BOUND up to address a, or to LIMIT where the channel has no line of the region left. -/
def boundTo (n r a : Nat) (s : Block) : Block :=
  s.put (Rg.lsu n) (Rg.rgBound r) (if (sweepNext s n r a).isSome then a else regionLimit s n r)

/-- A sweep begins: its target is set, and BOUND is BASE on every channel but one that is OFFLINE (R436, R442). -/
def rekeyBegins (r slot tagEn : Nat) (c : Cmd) (s : Block) : Block :=
  let s := lsuPutAll (Rg.rgNewTagEn r) tagEn (lsuPutAll (Rg.rgNewClear r) (if slot == 16 then 1 else 0)
    (lsuPutAll (Rg.rgNewKey r) (slot % 16) (lsuPutAll (Rg.rgSweep r) 1 s)))
  let s := forEach (upto 8) (fun n s =>
    if !lsuUp s n then s.put (Rg.lsu n) (Rg.rgBound r) (regionBase s (lsuRef s) r)
    else if dcState s n == 7 then s.put (Rg.lsu n) (Rg.rgBound r) (regionLimit s n r)
    else boundTo n r (regionBase s n r) s) s
  keyStatus { s with lsu := { s.lsu with sweeps := s.lsu.sweeps ++ [{ region := r, cmd := c }] } }

/-- LSU_REKEY (R436, R443): the target of the sweep is set and BOUND is BASE on every channel; a channel that is OFFLINE has
nothing to convert (R442). -/
def lsuRekeyCmd (r slot tagEn : Nat) (c : Cmd) (s : Block) : Block :=
  if 64 ≤ r || 17 ≤ slot || 2 ≤ tagEn then s.respond c St.badArg
  else if s.flag (Rg.lsu (lsuRef s)) (Rg.rgSweep r) then s.respond c stSweepBusy
  else if slot != 16 && (heldKey s slot).isNone then s.respond c stKeyEmpty
  else if tagEn == 1 && (slot == 16 || (upto 8).any (fun n => s.flag (Rg.dc n) Rg.dcDdr4)) then s.respond c stTagUnsupported
  else (rekeyBegins r slot tagEn c s).hold c 0x0603 r

def execLsuRekey (h : Hdr) (region slot tagEn : Nat) (s : State) : Host.Outcome State Fault Refusal :=
  live (fun s => s.command h { op := 0x0603, ports := workPorts, stage := 3 } (lsuRekeyCmd region slot tagEn)) s

/-- The sweep holds a line of the channel. -/
def sweeping (c : DcSt) : Bool :=
  c.rq.any (·.kind == .sweep) || c.issued.any (·.kind == .sweep) || c.rets.any (·.req.kind == .sweep)

/-- The line at address a is locked for the sweep, and its maintenance read issued. -/
def sweepRead (n r a line : Nat) (s : Block) : Block :=
  let s := modDc n (fun c => { c with lock := c.lock ++ [line] }) (s.put (Rg.lsu n) (Rg.rgBound r) a)
  acceptRead n { id := 0, kind := .sweep, line := line, scr := false, form := regionForm s n a r false,
                 stream := false, time := s.devTime, merge := none, issued := none } s

/-- SWEEP_LINE_CONVERT (R438): the next line of the running sweep is locked and its maintenance read issued. -/
def sweepLineConvertStep (n : Nat) (s : Block) : Block :=
  match s.lsu.sweeps.head? with
  | none => s
  | some w =>
    let r := w.region
    let c := getDc s n
    if !dcTakes s n || sweeping c || rqFull c then s
    else
      match sweepNext s n r (regionBound s n r) with
      | none => s.put (Rg.lsu n) (Rg.rgBound r) (regionLimit s n r)
      | some (a, line) =>
        if c.lock.contains line then s
        else sweepRead n r a line s

def execSweepLineConvert (ch : Fin 8) (s : State) : Host.Outcome State Fault Refusal := clockedOn (ch.val / 2) (sweepLineConvertStep ch.val) s

/-- What the sweep writes (R438, R439): the line in the target form; an uncorrectable line's stored bits; zeros with the
complement of the correct tag where the tag failed. And whether the line was failed. -/
def sweepForm (r : DRet) (f : LineForm) : BitVec 512 × BitVec 32 × Bool :=
  if r.bad then (r.data, r.tag, true)
  else
    match checkClear r with
    | some d => (scramble f d, lineTag f d, false)
    | none => (scramble f 0, if f.tagged then ~~~lineTag f 0 else 0, true)

/-- The line that the sweep read is written in the target form, BOUND advances past it and its lock is released. -/
def sweepWritten (n region : Nat) (r : DRet) (s : Block) : Block :=
  let a := 64 * r.req.form.addr
  let v := sweepForm r (regionForm s n a region true)
  let s := modDc n (fun c => { c with rets := c.rets.erase r }) s
  let s := boundTo n region (a + 64) (unlock n r.req.line (enterWrite n r.req.line v.1 v.2.1 s))
  let s := s.bump (Rg.lsuSweepLines n)
  if v.2.2 then lsuLog n r.req.line 3 region false (s.bump (Rg.lsuSweepFail n)) else s

/-- SWEEP_READ_RETURN (R438, R439): the line is written in the target form, BOUND advances past it and the lock is
released. -/
def sweepReadReturnStep (n : Nat) (s : Block) : Block :=
  let c := getDc s n
  match s.lsu.sweeps.head?, c.rets.find? (·.req.kind == .sweep) with
  | some w, some r => if 128 ≤ c.wq.length then s else sweepWritten n w.region r s
  | _, _ => s

def execSweepReadReturn (ch : Fin 8) (s : State) : Host.Outcome State Fault Refusal := clockedOn (ch.val / 2) (sweepReadReturnStep ch.val) s

/-- The target of a sweep becomes the region's setting, and EPOCH changes (R441). -/
def sweepEnds (r : Nat) (rest : List Sweep) (s : Block) : Block :=
  let s := forEach (lsusUp s) (fun n s =>
    let b := Rg.lsu n
    ((((s.put b (Rg.rgKey r) (s.f b (Rg.rgNewKey r))).put b (Rg.rgKeyClear r) (s.f b (Rg.rgNewClear r))).put b
      (Rg.rgTagEn r) (s.f b (Rg.rgNewTagEn r))).put b (Rg.rgEpoch r) (1 - s.f b (Rg.rgEpoch r))).put b (Rg.rgSweep r) 0) s
  keyStatus { s with lsu := { s.lsu with sweeps := rest } }

/-- SWEEP_COMPLETE (R441): BOUND is LIMIT on every channel; the target becomes the region's setting. -/
def sweepCompleteStep (r : Nat) (s : Block) : Block :=
  if s.gr.restarting then s else
  match s.lsu.sweeps with
  | [] => s
  | w :: rest =>
    if w.region != r || (upto 8).any (fun n => regionBound s n r != regionLimit s (lsuRef s) r || sweeping (getDc s n)) then s
    else (sweepEnds r rest s).close 0x0603 r St.ok

def execSweepComplete (region : Fin 64) (s : State) : Host.Outcome State Fault Refusal :=
  clocked (sweepCompleteStep region.val) s

/-! ### A fabric die reset (R51, R442) -/

/-- The registers of a line scrambler that a fabric die reset keeps: BOUND of each region, which firmware saves and restores (R442). -/
def boundReg (o : Nat) : Bool := decide (0x1000 ≤ o) && decide (o < 0x1800) && o % 0x20 == 0x18

/-- Channel n's line scrambler in a fabric die reset: every field but BOUND is reset, and its key slots are empty. -/
def lsuDieReset (n : Nat) (s : Block) : Block :=
  let s := { s with regs := spClear (fun a => decide (Rg.lsu n ≤ a) && decide (a < Rg.lsu n + 0x1000000) && !boundReg (a - Rg.lsu n)) s.regs }
  { s with lsu := { s.lsu with slots := spClear (fun k => k / 16 == n) s.lsu.slots } }

/-- The line scramblers that firmware may copy its tables from: of dies in service other than channel n's. -/
def lsuOther (s : Block) (n : Nat) : Option Nat :=
  (upto 8).find? (fun k => k / 2 != n / 2 && lsuUp s k && !s.start.fromReset.getLsbD (k / 2))

/-- Firmware reloads channel n's line scrambler after a fabric die reset, before the channel accepts traffic (R51): views and region table
as the other line scramblers have them, the key slots from the keys it holds, BOUND kept, or LIMIT where the contents were lost.
DESIGN CHOICE: the slots are lost when the die is reset and reloaded when its channel returns, and where no other line scrambler is in service the table stays at its reset values. -/
def lsuReload (n : Nat) (s : Block) : Block :=
  let s := match lsuOther s n with
    | none => s
    | some k =>
      let from' := (spKeys s.regs).filter (fun a => decide (Rg.lsu k ≤ a) && decide (a < Rg.lsu k + 0x1800) &&
        (a == Rg.lsu k || decide (Rg.lsu k + 0x1000 ≤ a)) && !boundReg (a - Rg.lsu k))
      from'.foldl (fun s a => s.setReg (a - Rg.lsu k + Rg.lsu n) (s.reg a)) s
  let s := forEach (upto 16) (fun k s => setSlotAt k (heldKey s k) n s) s
  keyStatusAt n (when (getDc s n).lost (boundsToLimit n) s)

end Sys2Proof.Machine
end

