-- ==== Sys2Proof/Machine/Eic.lean ====
section
/-! DEFINITION. The event interrupt controller (18): sources, eligibility, notification, claim and complete. -/

namespace Sys2Proof.Machine

/-! ### Sources and eligibility (R536, R537) -/

/-- A field of a source. -/
def srcF (s : Block) (n : Nat) (f : Fld) : Nat := s.f (Rg.eicS n) f

/-- The sources with anything set, in increasing number. -/
def eicListed (s : Block) : List Nat :=
  ((spKeys s.regs).filter (fun a => decide (Rg.eicS 0 ≤ a) && decide (a < Rg.eicS 2048))).map (fun a => (a - Rg.eicS 0) / 8)

/-- Target t exists (R535): P1's and P2's only while their site is populated. -/
def eicTarget (s : Block) (t : Nat) : Bool :=
  if t < 6 then true else decide (t < 8) && s.start.sitePresent.getLsbD (t - 5)

/-- The site of a target: 0 H0, 1 P1, 2 P2. -/
def targetSite (t : Nat) : Nat := if t < 6 then 0 else t - 5

/-- Source n is eligible for target t (R537). -/
def eicEligible (s : Block) (t n : Nat) : Bool :=
  eicTarget s t && srcF s n Rg.srcPending == 1 && srcF s n Rg.srcActive == 0 && (srcF s n Rg.srcEnable).testBit t &&
    decide (s.f (Rg.eicT t) Rg.eicThresh < srcF s n Rg.srcPrio) &&
    decide (s.f (Rg.eicT t) Rg.eicRunPrio < srcF s n Rg.srcPrio)

/-- The better of two sources: the higher PRIO, the first among equals. -/
def eicBetter (s : Block) (b : Option Nat) (n : Nat) : Option Nat :=
  match b with
  | none => some n
  | some m => if srcF s m Rg.srcPrio < srcF s n Rg.srcPrio then some n else some m

/-- The best eligible source of target t (R537). -/
def eicBest (s : Block) (t : Nat) : Option Nat :=
  ((eicListed s).filter (eicEligible s t)).foldl (eicBetter s) none

/-- NOTIFIED clears on every target without an eligible source (R545). -/
def settleNotified (s : Block) : Block :=
  forEach (upto 8) (fun t s => if (eicBest s t).isSome then s else s.putB (Rg.eicT t) Rg.eicNotified false) s

/-- A level source that is not ACTIVE has PENDING equal to its input (R536). -/
def resample (n : Nat) (s : Block) : Block :=
  if srcF s n Rg.srcMode == 1 && srcF s n Rg.srcActive == 0 then
    s.put (Rg.eicS n) Rg.srcPending (srcF s n Rg.srcInput)
  else s

/-- A rising edge on source n (R536). -/
def eicSourceEdgeStep (n : Nat) (s : Block) : Block := if srcF s n Rg.srcMode == 0 then s.eicEdge n else s

def execEicSourceEdge (n : Fin 2048) (s : State) : Host.Outcome State Fault Refusal := clocked (eicSourceEdgeStep n.val) s

/-- The input of fabric source n takes a level (R534, R536). -/
def sourceInput (n : Nat) (high : Bool) (s : Block) : Block :=
  let was := srcF s n Rg.srcInput == 1
  let s := s.putB (Rg.eicS n) Rg.srcInput high
  let s := if srcF s n Rg.srcMode == 0 && high && !was then s.eicEdge n else resample n s
  settleNotified s

/-- A fabric interrupt line of die d is high: the OR of its drivers (R534). -/
def lineHigh (s : Block) (d i : Nat) : Bool := s.eic.taps.any (fun x => x.1 / 80 == d && x.2 == i)

/-- Source 256d + i follows line i of die d. -/
def lineFollow (d i : Nat) (s : Block) : Block := sourceInput (256 * d + i) (lineHigh s d i) s

/-- EIC_SOURCE_LEVEL: the tap of sector k on a line takes a level; a tap of a region that is not LIVE reads 0 (R534). -/
def eicSourceLevelStep (k i : Nat) (high : Bool) (s : Block) : Block :=
  let rest := s.eic.taps.filter (· != (k, i))
  lineFollow (k / 80) i { s with eic := { s.eic with
    taps := if high && s.f (Rg.sector k) Rg.secState == 3 then rest ++ [(k, i)] else rest } }

def execEicSourceLevel (sector : Fin 320) (line : Fin 256) (high : Bool) (s : State) : Host.Outcome State Fault Refusal :=
  clocked (eicSourceLevelStep sector.val line.val high) s

/-- The taps of some sectors read 0: their region is no longer LIVE (R534, R541). -/
def tapsFall (ks : List Nat) (s : Block) : Block :=
  (s.eic.taps.filter (fun x => ks.contains x.1)).foldl (fun s x => lineFollow (x.1 / 80) x.2 s)
    { s with eic := { s.eic with taps := s.eic.taps.filter (fun x => !ks.contains x.1) } }

/-! ### Notification (R545, R546, R548, R673) -/

/-- QE_HOST_STATUS.SLEEP_STATE: 0 AWAKE, 1 ENTERING, 2 ASLEEP, 3 WAKING. -/
def sleepState (s : Block) : Nat := s.f Rg.qe Rg.qeSleep

/-- A message to the site of target t is sent and reaches it: MSG_ADDR lies in the site's window (R673), and the site's
port does not discard it (R24, R528). -/
def msgReaches (s : Block) (t : Nat) : Bool :=
  let a := s.f (Rg.eicT t) Rg.eicMsgAddr
  match destOf s a with
  | .site n _ => n == targetSite t && siteOpen s n
  | _ => false

/-- Send an interrupt message to target t (R546). -/
def sendMessage (kind number t level : Nat) (s : Block) : Block :=
  if msgReaches s t then s.emit (.irqMessage (reqAddr s (s.f (Rg.eicT t) Rg.eicMsgAddr)) kind number t level s.devTime) else s

/-- Notify target t of its best eligible source n. -/
def notifyTarget (t n : Nat) (s : Block) : Block :=
  let s := s.putB (Rg.eicT t) Rg.eicNotified true
  if t < 2 then s.emit (.greoneIrq t) else sendMessage 1 n t (srcF s n Rg.srcPrio) s

/-- EIC_NOTIFY (R545): while the host sleeps, a notification of H0 is held and asserts the wake line once (R548). -/
def eicNotifyStep (t : Nat) (s : Block) : Block :=
  match eicBest s t with
  | none => s
  | some n =>
    if s.flag (Rg.eicT t) Rg.eicNotified then s
    else if 2 ≤ t && t < 6 && 2 ≤ sleepState s then
      if s.eic.wokeHost then s else ({ s with eic := { s.eic with wokeHost := true } }).emit (.wakeH0 true)
    else notifyTarget t n s

def execEicNotify (t : Fin 8) (s : State) : Host.Outcome State Fault Refusal := clocked (eicNotifyStep t.val) s

/-- AWAKE received (R548): each H0 target with an eligible source is notified. -/
def eicHostAwake (s : Block) : Block :=
  forEach [2, 3, 4, 5] (fun t s =>
    match eicBest s t with
    | some n => notifyTarget t n s
    | none => s) { s with eic := { s.eic with wokeHost := false } }

/-! ### Claim and complete (R538 to R543) -/

/-- A read of EIC_CLAIM_t: the value read and the state after it. -/
def eicClaimRead (t : Nat) (s : Block) : Nat × Block :=
  match eicBest s t with
  | none => (0, settleNotified (s.putB (Rg.eicT t) Rg.eicNotified false))
  | some n =>
    let p := srcF s n Rg.srcPrio
    let b := Rg.eicS n
    let s := (((s.put b Rg.srcActive 1).put b Rg.srcActiveTarget t).put b Rg.srcPending 0).put b Rg.srcClaimedLevel p
    let s := (s.put (Rg.eicT t) Rg.eicRunPrio p).putB (Rg.eicT t) Rg.eicNotified false
    (n + 2 ^ 15 + p * 2 ^ 16, settleNotified s)

def eicClaimStep (t : Nat) (s : Block) : Block :=
  let r := eicClaimRead t s
  r.2.emit (.regData (ctlAddr (Rg.eicT t + 0x08)) r.1)

def execEicClaim (t : Fin 8) (s : State) : Host.Outcome State Fault Refusal := clocked (eicClaimStep t.val) s

/-- Source n is ACTIVE for target t. -/
def activeFor (s : Block) (t n : Nat) : Bool := srcF s n Rg.srcActive == 1 && srcF s n Rg.srcActiveTarget == t

/-- The highest claimed level among the sources ACTIVE for t. -/
def highestClaim (s : Block) (t : Nat) : Nat :=
  ((eicListed s).filter (activeFor s t)).foldl (fun m n => Nat.max m (srcF s n Rg.srcClaimedLevel)) 0

/-- Complete source n for target t (R540). -/
def completeSource (t n : Nat) (s : Block) : Block :=
  let s := s.put (Rg.eicS n) Rg.srcActive 0
  let s := (s.put (Rg.eicT t) Rg.eicRunPrio (highestClaim s t)).putB (Rg.eicT t) Rg.eicNotified false
  settleNotified (resample n s)

/-- The layout of EIC_BAD_COMPLETE_t. -/
def badCompleteCnt : CntL := ⟨0, 16, 16⟩

/-- A write to EIC_COMPLETE_t (R540, R543). -/
def eicCompleteStep (t n : Nat) (s : Block) : Block :=
  if activeFor s t n then completeSource t n s else s.bumpBy (Rg.eicT t + Rg.eicBadComplete) badCompleteCnt 1

def execEicComplete (t : Fin 8) (src : Fin 2048) (s : State) : Host.Outcome State Fault Refusal :=
  clocked (eicCompleteStep t.val src.val) s

/-- Every source ACTIVE for a target is completed (R549). -/
def completeAll (t : Nat) (s : Block) : Block :=
  ((eicListed s).filter (activeFor s t)).foldl (fun s n => completeSource t n s) s

/-- A site is reset or every module of it is DOWN (R549). -/
def eicSiteGone (n : Nat) (s : Block) : Block :=
  forEach (if n == 0 then [2, 3, 4, 5] else [5 + n]) completeAll s

/-- The fabric lines of a die in reset read 0 (R549). -/
def eicDieLines (d : Nat) (s : Block) : Block :=
  tapsFall ((upto 80).map (80 * d + ·)) s

/-! ### Commands (R674, R673, R549) -/

/-- The targets of a port as a mask (R674). -/
def portTargets : Port → Nat
  | .h0 => 0x3C
  | .p1 => 0x40
  | .p2 => 0x80
  | _ => 0

/-- The targets that exist, as a mask. -/
def liveTargets (s : Block) : Nat := ((upto 8).filter (eicTarget s)).foldl (fun m t => m + 2 ^ t) 0

/-- A source's settings have changed: the input decides a level source's PENDING, and hard-block sources stay edge sources
(R533, R544). -/
def sourceChanged (n : Nat) (s : Block) : Block :=
  let s := if 1024 ≤ n then s.put (Rg.eicS n) Rg.srcMode 0 else s
  settleNotified (resample n (s.put (Rg.eicS n) Rg.srcEnable (Nat.land (srcF s n Rg.srcEnable) (liveTargets s))))

/-- A source's PRIO, MODE and the port's own ENABLE bits are set. -/
def sourcePut (src prio enable mode own : Nat) (s : Block) : Block :=
  let b := Rg.eicS src
  let keep := Nat.land (srcF s src Rg.srcEnable) (Nat.xor 255 own)
  ((s.put b Rg.srcPrio prio).put b Rg.srcMode mode).put b Rg.srcEnable (Nat.lor keep enable)

/-- EIC_SOURCE_SET (R674). -/
def eicSourceSetCmd (src prio enable mode : Nat) (c : Cmd) (s : Block) : Block :=
  let own := portTargets c.port
  if 2048 ≤ src || !eicAssigned src || 31 < prio || 255 < enable || 1 < mode then s.respond c St.badArg
  else if Nat.land enable own != enable then s.respond c St.authFail
  else (sourceChanged src (sourcePut src prio enable mode own s)).respond c St.ok

def execEicSourceSet (h : Hdr) (src prio enable mode : Nat) (s : State) : Host.Outcome State Fault Refusal :=
  live (fun s => s.command h { op := 0x0A00, ports := workPorts, stage := 1 } (eicSourceSetCmd src prio enable mode)) s

/-- An address lies in the window of a target's site (R673). -/
def inSiteWindow (s : Block) (t a : Nat) : Bool :=
  match destOf s a with
  | .site n _ => n == targetSite t
  | _ => false

/-- EIC_TARGET_SET (R673, R674). -/
def eicTargetSetCmd (target thresh msgAddr : Nat) (c : Cmd) (s : Block) : Block :=
  if 8 ≤ target || 31 < thresh then s.respond c St.badArg
  else if !(portTargets c.port).testBit target then s.respond c St.authFail
  else
    if !inSiteWindow s target msgAddr || msgAddr % 64 != 0 then s.respond c St.badArg
    else
      let b := Rg.eicT target
      (settleNotified ((s.put b Rg.eicThresh thresh).put b Rg.eicMsgAddr msgAddr)).respond c St.ok

def execEicTargetSet (h : Hdr) (target thresh msgAddr : Nat) (s : State) : Host.Outcome State Fault Refusal :=
  live (fun s => s.command h { op := 0x0A01, ports := workPorts, stage := 1 } (eicTargetSetCmd target thresh msgAddr)) s

/-- EIC_STATUS: EIC_RUNPRIO_t and EIC_THRESH_t of every target, a byte each. -/
def eicStatusCmd (c : Cmd) (s : Block) : Block :=
  s.respond c St.ok ((upto 8).map (fun t => (1, (s.reg (Rg.eicT t + 0x18)).toNat)) ++
    (upto 8).map (fun t => (1, s.f (Rg.eicT t) Rg.eicThresh)))

def execEicStatus (h : Hdr) (s : State) : Host.Outcome State Fault Refusal :=
  live (fun s => s.command h { op := 0x0A02, ports := workPorts, stage := 1 } eicStatusCmd) s

end Sys2Proof.Machine
end

