-- ==== Sys2Proof/Machine/QueueEngine.lean ====
section
/-! DEFINITION. The queue engine (17): groups and owners, contexts and their cache, doorbell slots, completion and submission
queues, vectors, and the host interface while the host sleeps. -/

namespace Sys2Proof.Machine

namespace St
def queueExists : Nat := 0x0900
def noQueue : Nat := 0x0901
def groupNotOwned : Nat := 0x0902
def badRing : Nat := 0x0903
def pinFull : Nat := 0x0904
def groupNotEmpty : Nat := 0x0905
end St

/-- ORIGIN of the queue engine. -/
def qeOrigin : Nat := 0x401

/-- Change the engine's hidden state. -/
def modQe (f : QeSt → QeSt) (s : Block) : Block := { s with qe := f s.qe }

/-- An event of the queue engine and its EIC source 1,290 (R532). -/
def qeEvent (code : Nat) (s : Block) : Block := (s.raise code qeOrigin).eicEdge 1290

/-! ### Owners (R508) -/

/-- The owner of a group: none is Greone firmware. -/
def groupOwner (s : Block) (g : Nat) : Option Port := spGet (fun _ => none) s.qe.owners g

/-- An initiator may write doorbells and credit returns of a group with this owner. -/
def ownerWrites (o : Option Port) (src : Nat) : Bool :=
  match o with
  | some .h0 => src / 256 == 5
  | some .p1 => src / 256 == 6
  | some .p2 => src / 256 == 7
  | some .fab => decide (src / 256 < 4) && decide (src % 256 < 96)
  | some .svc => src == 0x404
  | some .jtag => false
  | none => src == 0x400

/-- The port owns queue q's group. -/
def ownsQueue (s : Block) (p : Port) (q : Nat) : Bool := groupOwner s (q / 16) == some p

/-! ### Ring positions (R510) -/

def depth (c : QCtx) : Nat := 2 ^ c.log2
def entrySize (c : QCtx) : Nat := if c.es64 then 64 else 32

/-- The distance from position a on to position b. -/
def posDist (c : QCtx) (a b : Nat) : Nat := (b + 2 * depth c - a) % (2 * depth c)

/-- Entries in the ring. -/
def ringCount (c : QCtx) : Nat := posDist c c.head c.tail

/-- The position n after p. -/
def posAdd (c : QCtx) (p n : Nat) : Nat := (p + n) % (2 * depth c)

/-- The vector a queue names, Greone vectors from 4,096. -/
def vecOf (c : QCtx) : Nat := if c.greone then 4096 + c.vector else c.vector

/-! ### Vectors (R522 to R524, R526) -/

def hostVec (v : Nat) : Bool := decide (v < 4096)

/-- A vector does not fire again while one firing of it is in progress. -/
def vecBusy (s : Block) (v : Nat) : Bool := s.qe.firings.any (fun f => f.vec == v)

/-- The ring writes in flight of the queues that name a vector. -/
def vecWrites (s : Block) (v : Nat) : List (Nat × Nat) :=
  (s.qe.writes.filter (fun w =>
    match cached? s w.q with
    | some e => e.ctx.irq && vecOf e.ctx == v
    | none => false)).map (fun w => (w.q, w.pos))

/-- A vector begins to fire (R523). -/
def beginFire (v : Nat) (woken : Bool) (s : Block) : Block :=
  modQe (fun x => { x with due := x.due.filter (· != v),
                           firings := x.firings ++ [{ vec := v, wait := vecWrites s v, later := 0, woken := woken }] }) s

/-- A vector fires when it is not masked and its condition holds (R523, R524, R526, R527). -/
def tryFire (v : Nat) (s : Block) : Block :=
  let b := Rg.vec v
  if s.flag b Rg.vMask || vecBusy s v then s
  else if hostVec v && s.flag b Rg.vWakePending then (if sleepState s == 0 then beginFire v true s else s)
  else if s.qe.due.contains v || Nat.max 1 (s.f b Rg.vThresh) ≤ s.f b Rg.vCount then beginFire v false s
  else s

/-- n entries count for a vector (R522, R523). -/
def countVec (v n : Nat) (s : Block) : Block :=
  let b := Rg.vec v
  match s.qe.firings.find? (fun f => f.vec == v && f.wait.isEmpty) with
  | some f =>
    modQe (fun x => { x with firings := x.firings.map (fun g => if g == f then { g with later := g.later + n } else g) }) s
  | none =>
    let c := s.f b Rg.vCount
    let s := s.put b Rg.vCount (Nat.min 255 (c + n))
    let s := if c == 0 && !s.qe.due.contains v && !s.flag b Rg.vWakePending && !vecBusy s v then
        s.putB b Rg.vTimerRun true
      else s
    tryFire v s

/-- The interrupt message of a vector (R522, R546). -/
def sendVec (v : Nat) (s : Block) : Block :=
  let t := s.f (Rg.vec v) Rg.vTarget
  if hostVec v then sendMessage 2 v (2 + t) 0 s else s.emit (.greoneIrq (t % 2))

/-- A firing has been sent: COUNT holds what was counted after its fence began (R523). -/
def firingSent (f : VecFire) (s : Block) : Block :=
  let b := Rg.vec f.vec
  let s := sendVec f.vec s
  let s := ((s.put b Rg.vCount (Nat.min 255 f.later)).putB b Rg.vTimerRun (decide (0 < f.later))).putB b Rg.vWakePending false
  tryFire f.vec (modQe (fun x => { x with firings := x.firings.erase f, entering := x.entering.filter (· != f.vec) }) s)

/-- Firings that AWAKE began go out in increasing vector number (R527): the first of them that waits for nothing more. -/
def settleWokenOne (s : Block) : Block :=
  match s.qe.firings.find? (fun f => f.woken) with
  | some f => if f.wait.isEmpty then firingSent f s else s
  | none => s

def settleWoken (s : Block) : Block := s.qe.firings.foldl (fun s _ => settleWokenOne s) s

/-- A host vector fires without a message: WAKE_PENDING (R526, R675); the first such firing in ASLEEP asserts the wake line. -/
def wakePend (f : VecFire) (s : Block) : Block :=
  let b := Rg.vec f.vec
  let s := ((s.putB b Rg.vWakePending true).putB b Rg.vTimerRun false).put b Rg.vCount
    (Nat.min 255 (s.f b Rg.vCount + f.later))
  let s := modQe (fun x => { x with firings := x.firings.erase f }) s
  if sleepState s == 2 then (s.put Rg.qe Rg.qeSleep 3).emit (.wakeH0 true) else s

/-- QE_VECTOR_FIRE (R523): the fence of a firing completes. -/
def qeVectorFireStep (v : Nat) (s : Block) : Block :=
  match s.qe.firings.find? (fun f => f.vec == v && f.wait.isEmpty && !f.woken) with
  | none => s
  | some f =>
    if hostVec v && sleepState s != 0 && !s.qe.entering.contains v then wakePend f s else firingSent f s

def execQeVectorFire (vec : Fin 4352) (s : State) : Host.Outcome State Fault Refusal := clocked (qeVectorFireStep vec.val) s

/-- QE_VECTOR_TIMER (R523): a masked vector keeps the condition until it is unmasked (R524). -/
def qeVectorTimerStep (v : Nat) (s : Block) : Block :=
  let b := Rg.vec v
  if s.flag b Rg.vTimerRun then
    tryFire v (modQe (fun x => { x with due := x.due.filter (· != v) ++ [v] }) (s.putB b Rg.vTimerRun false))
  else s

def execQeVectorTimer (vec : Fin 4352) (s : State) : Host.Outcome State Fault Refusal :=
  clocked (qeVectorTimerStep vec.val) s

/-! ### Counters of a queue -/

/-- n entries of a queue are discarded (R517, R518): DROPPED saturates under R578. -/
def dropEntries (q n : Nat) (s : Block) : Block :=
  match cached? s q with
  | none => s
  | some e =>
    let c := e.ctx
    if c.ovf then s
    else
      let v := c.dropped.toNat + n
      if v < 2 ^ 31 - 1 then putCtx q { c with dropped := BitVec.ofNat 31 v } s
      else (putCtx q { c with dropped := BitVec.ofNat 31 (2 ^ 31 - 1), ovf := true } s).raise evCounterSaturated qeOrigin q

/-- A queue enters ERROR (R518). -/
def enterError (q : Nat) (s : Block) : Block :=
  match cached? s q with
  | none => s
  | some e =>
    if e.ctx.error then s
    else
      let s := qeEvent Ev.qeQueueError (putCtx q { e.ctx with error := true } s)
      if e.ctx.irq then
        let v := vecOf e.ctx
        tryFire v (modQe (fun x => { x with due := x.due.filter (· != v) ++ [v] }) s)
      else s

/-! ### Work at port 0x402 (R514 to R517, R519) -/

/-- A doorbell or credit return that is not acted on. -/
def badDoorbell (s : Block) : Block := s.bump Rg.qeDbBad
def rejectPush (s : Block) : Block := s.bump Rg.qePushReject

/-- An invalid doorbell (R515): counted, with an event once for each queue. -/
def invalidDoorbell (q : Nat) (s : Block) : Block :=
  let s := badDoorbell s
  if s.qe.badSaid.contains q then s
  else qeEvent Ev.qeDoorbellBad (modQe (fun x => { x with badSaid := x.badSaid ++ [q] }) s)

/-- Entries of a completion queue that are published and not yet released (R515). -/
def publishedCount (s : Block) (q : Nat) (c : QCtx) : Nat :=
  ringCount c - ((s.qe.writes.filter (fun w => w.q == q && w.live)).foldl (fun n w => n + w.n) 0) -
    spGet (fun _ => 0) s.qe.lost q

/-- A completion doorbell (R515, R517). -/
def completionDoorbell (q v : Nat) (c : QCtx) (s : Block) : Block :=
  let new := posOfWord c.log2 v
  let a := posDist c c.head new
  if fldGet v 20 11 != 0 || depth c ≤ v % 2 ^ 20 || publishedCount s q c < a then invalidDoorbell q s
  else putCtx q { c with head := new, full := if a == 0 then c.full else false } s

/-- A submission doorbell (R515). -/
def submissionDoorbell (q v : Nat) (c : QCtx) (s : Block) : Block :=
  let new := posOfWord c.log2 v
  let a := posDist c c.tail new
  if fldGet v 20 11 != 0 || depth c ≤ v % 2 ^ 20 || depth c - ringCount c < a then invalidDoorbell q s
  else putCtx q { c with tail := new } s

/-- A credit return (R514, R515, R519). -/
def creditReturn (q n : Nat) (c : QCtx) (s : Block) : Block :=
  if c.credit < n then badDoorbell (putCtx q { c with credit := 0 } s) else putCtx q { c with credit := c.credit - n } s

/-- The bytes of an entry with the phase bit of its position (R513). -/
def withPhase (c : QCtx) (p : Nat) (bs : List Nat) : List Nat :=
  bs.set (bs.length - 1) (bs.getD (bs.length - 1) 0 % 128 + 128 * (1 - p / depth c % 2))

/-- The ring address of a position. -/
def entryAddr (c : QCtx) (p : Nat) : Nat := c.base + entrySize c * (p % depth c)

/-- A ring write that the entry at position p joins (R516): the entry before it in the same line, accepted at most 100 ns
ago and alone. -/
def joins (s : Block) (q p : Nat) (c : QCtx) (w : RingWrite) : Bool :=
  !c.es64 && w.q == q && w.live && w.n == 1 && p % 2 == 1 && w.pos + 1 == p &&
    decide (s.devTime.toNat ≤ w.time.toNat + 100)

/-- One entry is pushed to a completion queue (R516 to R518). -/
def pushEntry (q : Nat) (bs : List Nat) (s : Block) : Block :=
  match cached? s q with
  | none => s
  | some e =>
    let c := e.ctx
    if c.error then dropEntries q 1 s
    else if ringCount c == depth c then
      let s := if c.full then s else qeEvent Ev.qeRingFull (putCtx q { c with full := true } s)
      dropEntries q 1 s
    else
      let p := c.tail
      let bs := withPhase c p bs
      let s := putCtx q { c with tail := posAdd c p 1 } s
      match s.qe.writes.find? (joins s q p c) with
      | some w =>
        modQe (fun x => { x with writes := x.writes.map (fun (y : RingWrite) =>
          if y == w then { y with n := 2, bytes := y.bytes ++ bs } else y) }) s
      | none =>
        modQe (fun x => { x with writes := x.writes ++
          [{ q := q, pos := p, n := 1, addr := entryAddr c p, bytes := bs, time := s.devTime, live := true }] }) s

/-- A push whose queue's context is at hand (R514). -/
def pushWork (src q : Nat) (wide : Bool) (data : BitVec 512) (c : QCtx) (s : Block) : Block :=
  let bs := lineBytes data
  let may := c.pushSrc.toNat == src || (c.pushSrc.toNat == 0xFFF && src / 256 < 5)
  if !c.valid || c.sub || !may || (c.es64 && !wide) then rejectPush s
  else if c.es64 then pushEntry q bs s
  else if wide then pushEntry q (bs.drop 32) (pushEntry q (bs.take 32) s)
  else pushEntry q (bs.take 32) s

/-- Work whose queue's context is cached. -/
def doWork (w : QWork) (s : Block) : Block :=
  match w with
  | .push src q wide data =>
    match cached? s q with
    | some e => pushWork src q wide data e.ctx s
    | none => s
  | .doorbell _ q v =>
    match cached? s q with
    | some e => if !e.ctx.valid then badDoorbell s else if e.ctx.sub then submissionDoorbell q v e.ctx s
                else completionDoorbell q v e.ctx s
    | none => s
  | .credit _ q n =>
    match cached? s q with
    | some e => if !e.ctx.valid || !e.ctx.sub then badDoorbell s else creditReturn q n e.ctx s
    | none => s

def workQueue : QWork → Nat
  | .push _ q _ _ => q
  | .doorbell _ q _ => q
  | .credit _ q _ => q

def isPush : QWork → Bool
  | .push .. => true
  | _ => false

/-- Entries of the intake buffer (R529). -/
def intakeSize : Nat := 4096

/-- Pushes in the intake buffer. -/
def intakeUsed (s : Block) : Nat := (s.qe.waiting.filter isPush).length

/-- Work arrives (R511, R512, R529): it is done at once where the context is cached, and otherwise waits for it. A push that finds the buffer
full leaves the state: its sender has no credit for it. -/
def workArrive (w : QWork) (s : Block) : Block :=
  let q := workQueue w
  if (cached? s q).isSome then doWork w s
  else if isPush w && s.qe.retry.contains q then s.bump Rg.qeCtxFail
  else if isPush w && decide (intakeSize ≤ intakeUsed s) then s
  else
    let first := !s.qe.waiting.any (fun x => workQueue x == q)
    let s := modQe (fun x => { x with waiting := x.waiting ++ [w] }) s
    let s := if first then s.bump Rg.qeCtxMiss else s
    if isPush w && intakeUsed s == intakeSize then s.bump Rg.qeIntakeFull else s

/-- A push reaches port 0x402. -/
def qePushArrive (src q : Nat) (wide : Bool) (data : BitVec 512) (s : Block) : Block :=
  if qeOn s then workArrive (.push src q wide data) s else rejectPush s

/-- A doorbell or a credit return reaches port 0x402. -/
def qeDoorbellArrive (src q v : Nat) (s : Block) : Block :=
  if qeOn s && ownerWrites (groupOwner s (q / 16)) src then workArrive (.doorbell src q v) s else badDoorbell s
def qeCreditArrive (src q n : Nat) (s : Block) : Block :=
  if qeOn s && ownerWrites (groupOwner s (q / 16)) src then workArrive (.credit src q (n % 8192)) s else badDoorbell s

/-- The queue's DIR is known to be the other one. -/
def otherDir (s : Block) (q : Nat) (sub : Bool) : Bool :=
  match ctxOf s q with
  | some c => c.valid && c.sub != sub
  | none => false

def execQeCompletionDoorbell (src : BitVec 12) (q : Fin 1048576) (value : BitVec 64) (s : State) :
    Host.Outcome State Fault Refusal :=
  clocked (fun s => if otherDir s q.val false then s else qeDoorbellArrive src.toNat q.val value.toNat s) s

def execQeSubmissionDoorbell (src : BitVec 12) (q : Fin 1048576) (value : BitVec 64) (s : State) :
    Host.Outcome State Fault Refusal :=
  clocked (fun s => if otherDir s q.val true then s else qeDoorbellArrive src.toNat q.val value.toNat s) s

def execQePush (src : BitVec 12) (q : Fin 1048576) (wide : Bool) (data : BitVec 512) (s : State) :
    Host.Outcome State Fault Refusal := clocked (qePushArrive src.toNat q.val wide data) s

def execQeCreditReturn (src : BitVec 12) (q : Fin 1048576) (n : BitVec 64) (s : State) :
    Host.Outcome State Fault Refusal := clocked (qeCreditArrive src.toNat q.val n.toNat) s

/-- What a read of 8 bytes at a doorbell slot returns (R514). -/
def slotWord (s : Block) (q : Nat) : Nat :=
  match ctxOf s q with
  | none => 0
  | some c =>
    if !qeOn s || !c.valid then 0
    else
      c.tail % depth c + c.tail / depth c % 2 * 2 ^ 20 + c.error.toNat * 2 ^ 21 + 2 ^ 22 + c.full.toNat * 2 ^ 23 +
        c.head % depth c * 2 ^ 24 + c.head / depth c % 2 * 2 ^ 44

/-! ### The context cache (R511, R512) -/

def cacheSize : Nat := 16384
def pinnedMax : Nat := 8192

/-- Pinned contexts. -/
def pinnedCount (s : Block) : Nat :=
  (s.qe.cache.filter (fun x => match x.2 with
    | some e => e.ctx.pin
    | none => false)).length

/-- Nothing of a queue is on its way. -/
def qeQuiet (s : Block) (q : Nat) : Bool :=
  !s.qe.writes.any (fun w => w.q == q) && !s.qe.fetches.any (fun f => f.1 == q) && !s.qe.wbDue.contains q

/-- Write a cached context back to the table; false where the access fails. -/
def writeBack (q : Nat) (e : QCache) (s : Block) : Bool × Block :=
  let r := writeMem srcQe (ctxBase s + 64 * q) (ctxBytes e.ctx) s
  if r.1 then
    (true, modQe (fun x => { x with retry := x.retry.filter (· != q),
                                    cache := spSet (fun _ => none) x.cache q (some { e with dirty := false }) }) r.2)
  else
    (false, modQe (fun x => { x with retry := x.retry.filter (· != q) ++ [q] }) (r.2.bump Rg.qeCtxFail))

/-- Take a context out of the cache. -/
def uncache (q : Nat) (s : Block) : Block :=
  modQe (fun x => { x with cache := spSet (fun _ => none) x.cache q none }) s

/-- A context may be evicted: it is not pinned and nothing of its queue is on its way. -/
def evictable (s : Block) (x : Nat × Option QCache) : Bool :=
  match x.2 with
  | some e => !e.ctx.pin && qeQuiet s x.1
  | none => false

/-- Evict one context; false where its write-back fails or none can be evicted. -/
def evictOne (s : Block) : Bool × Block :=
  match s.qe.cache.find? (evictable s) with
  | some (q, some e) =>
    if e.dirty then
      let r := writeBack q e s
      if r.1 then (true, uncache q r.2) else r
    else (true, uncache q s)
  | _ => (false, s)

/-- Room for one more context. -/
def makeRoom (q : Nat) (s : Block) : Bool × Block :=
  if (cached? s q).isSome || s.qe.cache.length < cacheSize then (true, s) else evictOne s

/-- A context's read returns: none where its response was other than OK. Work that waits for it proceeds in order; where it
cannot be read the pushes are discarded and counted (R512). -/
def contextRead (q : Nat) (s : Block) : Block :=
  let r := readMem srcQe (ctxBase s + 64 * q) 64 s
  let mine := s.qe.waiting.filter (fun w => workQueue w == q)
  match r.1 with
  | some bs =>
    let room := makeRoom q r.2
    if room.1 then
      let s := modQe (fun x => { x with
        retry := x.retry.filter (· != q), waiting := x.waiting.filter (fun w => workQueue w != q),
        cache := spSet (fun _ => none) x.cache q (some { ctx := ctxOfBytes bs, dirty := false }) }) room.2
      mine.foldl (fun s w => doWork w s) s
    else room.2
  | none =>
    let s := modQe (fun x => { x with
      retry := x.retry.filter (· != q) ++ [q],
      waiting := x.waiting.filter (fun w => workQueue w != q || !isPush w) }) (r.2.bump Rg.qeCtxFail)
    (mine.filter isPush).foldl (fun s _ => s.bump Rg.qeCtxFail) s

/-- QE_CONTEXT_FILL (R511). -/
def qeContextFillStep (q : Nat) (s : Block) : Block :=
  if s.qe.waiting.any (fun w => workQueue w == q) && (cached? s q).isNone && !s.qe.retry.contains q then contextRead q s
  else s

def execQeContextFill (q : Fin 1048576) (s : State) : Host.Outcome State Fault Refusal := clocked (qeContextFillStep q.val) s

/-- A context leaves the cache, written back first where it has changed. -/
def evictNow (q : Nat) (e : QCache) (s : Block) : Block :=
  if !e.dirty then uncache q s
  else
    let r := writeBack q e s
    if r.1 then uncache q r.2 else r.2

/-- QE_CONTEXT_WRITEBACK (R511): 1 ms after the last change, or on eviction. -/
def qeContextWritebackStep (q : Nat) (evict : Bool) (s : Block) : Block :=
  match cached? s q with
  | none => s
  | some e =>
    if evict then (if evictable s (q, some e) then evictNow q e s else s)
    else if e.dirty && !s.qe.retry.contains q then (writeBack q e s).2 else s

def execQeContextWriteback (q : Fin 1048576) (evict : Bool) (s : State) : Host.Outcome State Fault Refusal :=
  clocked (qeContextWritebackStep q.val evict) s

/-- QE_CONTEXT_RETRY (R512). -/
def qeContextRetryStep (q : Nat) (s : Block) : Block :=
  if !s.qe.retry.contains q then s
  else
    match cached? s q with
    | some e => (writeBack q e s).2
    | none => contextRead q s

def execQeContextRetry (q : Fin 1048576) (s : State) : Host.Outcome State Fault Refusal :=
  clocked (qeContextRetryStep q.val) s

/-! ### Ring writes and deliveries (R516, R518, R519, R520) -/

/-- QE_QUEUE_DESTROY ends when no delivery or ring write of the queue is outstanding (R530). -/
def settleDestroy (q : Nat) (s : Block) : Block :=
  if s.qe.closing.contains q && !s.qe.writes.any (fun w => w.q == q) && !s.qe.fetches.any (fun f => f.1 == q) then
    let s := modQe (fun x => { x with
      closing := x.closing.filter (· != q), made := x.made.filter (· != q), wbDue := x.wbDue.filter (· != q),
      badSaid := x.badSaid.filter (· != q), delivered := spSet (fun _ => 0) x.delivered q 0,
      lost := spSet (fun _ => 0) x.lost q 0 }) s
    (putCtx q QCtx.none s).close 0x0902 q St.ok
  else s

/-- A ring write in flight is answered (R516, R518). -/
def writeAnswered (w : RingWrite) (ok : Bool) (s : Block) : Block :=
  let r := if ok then writeMem srcQe w.addr w.bytes s else (false, s)
  let s := modQe (fun x => { x with
    writes := x.writes.erase w,
    firings := x.firings.map (fun (f : VecFire) => { f with wait := f.wait.filter (· != (w.q, w.pos)) }) }) r.2
  let s :=
    if !w.live then s
    else if r.1 then
      match cached? s w.q with
      | some e => if e.ctx.irq then countVec (vecOf e.ctx) w.n s else s
      | none => s
    else
      let s := modQe (fun x => { x with lost := spSet (fun _ => 0) x.lost w.q (spGet (fun _ => 0) x.lost w.q + w.n) }) s
      enterError w.q (dropEntries w.q w.n s)
  settleWoken (settleDestroy w.q s)

/-- QE_RING_WRITE_RESPONSE: of the i-th ring write in flight. -/
def qeRingWriteResponseStep (i : Nat) (ok : Bool) (s : Block) : Block :=
  match s.qe.writes[i]? with
  | none => s
  | some w => writeAnswered w ok s

def execQeRingWriteResponse (i : Nat) (ok : Bool) (s : State) : Host.Outcome State Fault Refusal :=
  clocked (qeRingWriteResponseStep i ok) s

/-- Entries that may be fetched now: at most 32, those submitted, and free delivery slots (R519). -/
def fetchCount (c : QCtx) : Nat := Nat.min 32 (Nat.min (ringCount c) (c.window - c.credit))

/-- QE_SUBMISSION_FETCH (R519). -/
def qeSubmissionFetchStep (q : Nat) (s : Block) : Block :=
  match ctxOf s q with
  | none => s
  | some c =>
    if qeOn s && c.valid && c.sub && !c.error && !s.qe.fetches.any (fun f => f.1 == q) && decide (0 < fetchCount c) then
      let room := makeRoom q s
      if room.1 then
        modQe (fun x => { x with fetches := x.fetches ++ [(q, c.head, fetchCount c)] }) (putCtx q c room.2)
      else room.2
    else s

def execQeSubmissionFetch (q : Fin 1048576) (s : State) : Host.Outcome State Fault Refusal :=
  clocked (qeSubmissionFetchStep q.val) s

/-- A posted write of the queue engine on VC_1: memory, an access point's fabric port, or another queue's doorbell slot, where an entry is a
push (R514); a port that is not OPEN discards it (R469). -/
def postWrite (a : Nat) (bs : List Nat) (s : Block) : Block :=
  match destOf s a with
  | .ap d k off =>
    if s.f (Rg.tport d k) Rg.tpState == 0 then s.emit (.apTarget d k 2 off (bs.length - 1) 0 bs)
    else bumpDiscard (256 * d + k) s
  | .dram n _ => if s.f (dcPort n) Rg.tpState == 0 then (writeMem srcQe a bs s).2 else bumpDiscard (dcPortId n) s
  | .doorbell off =>
    if off % 64 == 0 && 32 ≤ bs.length then qePushArrive srcQe (off / 64) (bs.length == 64) (BitVec.ofNat 512 (leNat bs)) s
    else badDoorbell s
  | _ => (writeMem srcQe a bs s).2

/-- Deliver one entry (R519): false where its read was not OK. -/
def deliverOne (q p : Nat) (x : Bool × Block) : Bool × Block :=
  if !x.1 then x
  else
    match cached? x.2 q with
    | none => (false, x.2)
    | some e =>
      let c := e.ctx
      let r := readMem srcQe (entryAddr c p) (entrySize c) x.2
      match r.1 with
      | none => (false, r.2)
      | some bs =>
        let n := spGet (fun _ => 0) r.2.qe.delivered q
        let s := postWrite (c.deliv + entrySize c * (n % c.window)) bs r.2
        let s := putCtx q { c with credit := c.credit + 1, head := posAdd c c.head 1 } s
        let s := modQe (fun y => { y with delivered := spSet (fun _ => 0) y.delivered q (n + 1) }) s
        let s := if c.wb then modQe (fun y => { y with wbDue := y.wbDue.filter (· != q) ++ [q] }) s else s
        (true, if c.irq then countVec (vecOf c) 1 s else s)

/-- A read of n submitted entries of queue q from position p on is answered (R519). -/
def fetchAnswered (q p n : Nat) (ok : Bool) (s : Block) : Block :=
  let s := modQe (fun x => { x with fetches := x.fetches.erase (q, p, n) }) s
  match cached? s q with
  | none => settleDestroy q s
  | some e =>
    let r := (upto n).foldl (fun x k => deliverOne q (posAdd e.ctx p k) x) (ok, s)
    settleDestroy q (if r.1 then r.2 else enterError q r.2)

/-- QE_FETCH_RESPONSE: of the i-th read of submitted entries. -/
def qeFetchResponseStep (i : Nat) (ok : Bool) (s : Block) : Block :=
  match s.qe.fetches[i]? with
  | none => s
  | some (q, p, n) => fetchAnswered q p n ok s

def execQeFetchResponse (i : Nat) (ok : Bool) (s : State) : Host.Outcome State Fault Refusal :=
  clocked (qeFetchResponseStep i ok) s

/-- QE_HEAD_WRITEBACK (R520). -/
def qeHeadWritebackStep (q : Nat) (s : Block) : Block :=
  if !s.qe.wbDue.contains q then s
  else
    let s := modQe (fun x => { x with wbDue := x.wbDue.filter (· != q) }) s
    match ctxOf s q with
    | some c => if c.wb then postWrite c.wbAddr (leBytes 8 (posWord c.log2 c.head)) s else s
    | none => s

def execQeHeadWriteback (q : Fin 1048576) (s : State) : Host.Outcome State Fault Refusal :=
  clocked (qeHeadWritebackStep q.val) s

/-! ### When the host sleeps (R525 to R528, R675) -/

/-- The listed host vectors with a field set. -/
def hostVecs (s : Block) (p : Nat → Bool) : List Nat :=
  (((spKeys s.regs).filter (fun a => decide (Rg.vec 0 ≤ a) && decide (a < Rg.vec 0 + 8 * 4096))).map
    (fun a => (a - Rg.vec 0) / 8)).filter p

/-- Host vectors that are WAKE_PENDING. -/
def wakeVecs (s : Block) : List Nat := hostVecs s (fun v => s.flag (Rg.vec v) Rg.vWakePending)

/-- The vectors of the host that fire once more before it sleeps (R525). -/
def sleepBegin (s : Block) : Block :=
  let ready := hostVecs s (fun v => !s.flag (Rg.vec v) Rg.vMask && !s.flag (Rg.vec v) Rg.vWakePending &&
    decide (0 < s.f (Rg.vec v) Rg.vCount) && !vecBusy s v)
  let going := (s.qe.firings.filter (fun f => hostVec f.vec)).map (fun f => f.vec)
  let s := forEach ready (fun v s => beginFire v false s) (s.put Rg.qe Rg.qeSleep 1)
  modQe (fun x => { x with entering := going ++ ready, awakeSeen := false }) s

/-- QE_SLEEP_REQ (R525, R675). -/
def qeSleepReqStep (s : Block) : Block :=
  if sleepState s == 0 then sleepBegin s
  else if sleepState s == 2 then s.emit .sleepAck
  else if sleepState s == 3 then s.emit (.wakeH0 true)
  else s

def execQeSleepReq (s : State) : Host.Outcome State Fault Refusal := clocked qeSleepReqStep s

/-- The interface returns to AWAKE (R527, R548): a firing for every WAKE_PENDING vector that is not masked, in increasing
number. -/
def hostAwake (s : Block) : Block :=
  let s := modQe (fun x => { x with entering := [], awakeSeen := false }) (s.put Rg.qe Rg.qeSleep 0)
  let s := forEach (wakeVecs s) tryFire s
  eicHostAwake (settleWoken s)

/-- The host may sleep: ASLEEP, or WAKING where a vector is WAKE_PENDING. -/
def asleep (s : Block) : Block :=
  let s := ({ s with eic := { s.eic with wokeHost := false } }).emit .sleepAck
  if (wakeVecs s).isEmpty then s.put Rg.qe Rg.qeSleep 2 else (s.put Rg.qe Rg.qeSleep 3).emit (.wakeH0 true)

/-- QE_SLEEP_ENTERED (R525, R675): the qualifying firings and the fence behind them have completed. -/
def qeSleepEnteredStep (s : Block) : Block :=
  if sleepState s != 1 || !s.qe.entering.isEmpty then s
  else if s.qe.awakeSeen then hostAwake s
  else asleep s

def execQeSleepEntered (s : State) : Host.Outcome State Fault Refusal := clocked qeSleepEnteredStep s

/-- QE_AWAKE (R525, R527). -/
def qeAwakeStep (s : Block) : Block :=
  if sleepState s == 1 then modQe (fun x => { x with awakeSeen := true }) s
  else if sleepState s == 0 then s
  else hostAwake s

def execQeAwake (s : State) : Host.Outcome State Fault Refusal := clocked qeAwakeStep s

/-- A site reset of H0 (R525, R528). -/
def qeHostReset (s : Block) : Block :=
  let s := forEach (wakeVecs s) (fun v s => s.putB (Rg.vec v) Rg.vWakePending false) s
  modQe (fun x => { x with entering := [], awakeSeen := false }) (s.put Rg.qe Rg.qeSleep 0)

/-- QE_HOST_STATUS with the fields that are views of the engine's state. -/
def qeHostStatus (s : Block) : Nat :=
  sleepState s + (wakeVecs s).length * 2 ^ 2 + pinnedCount s * 2 ^ 16 +
    intakeUsed s * 2 ^ 32

/-- A vector's settings have changed (R524). -/
def vecChanged (v : Nat) (s : Block) : Block := settleWoken (tryFire v s)

/-! ### Commands (R530, R531) -/

def qeNeed (op : Nat) : Need := { op := op, ports := workPorts, stage := 1 }

/-- The owner that a code of QE_GROUP_ASSIGN names: a port number of R558 or 6, Greone firmware. -/
def ownerOf (n : Nat) : Option (Option Port) :=
  match n with
  | 0 => some (some .h0)
  | 1 => some (some .p1)
  | 2 => some (some .p2)
  | 3 => some (some .svc)
  | 5 => some (some .fab)
  | 6 => some none
  | _ => none

/-- QE_GROUP_ASSIGN (R508): from SVC; the group holds no queue. -/
def qeGroupAssignCmd (group owner : Nat) (c : Cmd) (s : Block) : Block :=
  match ownerOf owner with
  | none => s.respond c St.badArg
  | some o =>
    if 65536 ≤ group then s.respond c St.badArg
    else if s.qe.made.any (fun q => q / 16 == group) then s.respond c St.groupNotEmpty
    else (modQe (fun x => { x with owners := spSet (fun _ => none) x.owners group o }) s).respond c St.ok

def execQeGroupAssign (h : Hdr) (group owner : Nat) (s : State) : Host.Outcome State Fault Refusal :=
  live (fun s => s.command h { op := 0x0900, ports := svcPort, stage := 1 } (qeGroupAssignCmd group owner)) s

/-- A ring lies wholly inside the DRAM window or one site window (R531). -/
def ringPlaced (base size : Nat) : Bool :=
  base % 4096 == 0 &&
    (decide (base + size ≤ 0x20000000000) ||
      [0, 1, 2].any (fun n => decide (0x600000000000 + n * 0x10000000000 ≤ base) &&
        decide (base + size ≤ 0x600000000000 + (n + 1) * 0x10000000000)))

/-- Arguments of QE_QUEUE_CREATE out of their ranges (R531). -/
def createBad (queue log2 dir esize vector cls irqEn pin pushSrc wbAddr deliv window : Nat) : Bool :=
  let sub := dir == 1
  let wb := sub && wbAddr != 2 ^ 64 - 1
  1048576 ≤ queue || log2 < 6 || 20 < log2 || 1 < dir || 1 < esize || 1 < cls || 1 < irqEn || 1 < pin ||
    (if cls == 0 then 4096 else 256) ≤ vector || (!sub && 0xFFF < pushSrc) ||
    (sub && (window == 0 || 4096 < window || deliv % 64 != 0 || (wb && wbAddr % 8 != 0)))

/-- The context of a new queue (R509, R520). -/
def newQueue (base log2 dir esize vector cls irqEn pin pushSrc wbAddr deliv window : Nat) : QCtx :=
  let sub := dir == 1
  let wb := sub && wbAddr != 2 ^ 64 - 1
  { QCtx.none with
    base := base, valid := true, sub := sub, es64 := esize == 1, irq := irqEn == 1, greone := cls == 1, wb := wb,
    pin := pin == 1, log2 := log2, vector := vector, pushSrc := if sub then 0 else BitVec.ofNat 12 pushSrc,
    wbAddr := if wb then wbAddr else 0, deliv := if sub then deliv else 0, window := if sub then window else 0 }

/-- QE_QUEUE_CREATE (R509, R520, R531). -/
def qeQueueCreateCmd (queue base log2 dir esize vector cls irqEn pin pushSrc wbAddr deliv window : Nat) (c : Cmd)
    (s : Block) : Block :=
  if createBad queue log2 dir esize vector cls irqEn pin pushSrc wbAddr deliv window then s.respond c St.badArg
  else if !ownsQueue s c.port queue then s.respond c St.groupNotOwned
  else if s.qe.made.contains queue then s.respond c St.queueExists
  else if !ringPlaced base ((if esize == 1 then 64 else 32) * 2 ^ log2) then s.respond c St.badRing
  else if pin == 1 && pinnedMax ≤ pinnedCount s then s.respond c St.pinFull
  else
    let room := makeRoom queue s
    if !room.1 then room.2.respond c St.timeout
    else
      (putCtx queue (newQueue base log2 dir esize vector cls irqEn pin pushSrc wbAddr deliv window)
        (modQe (fun y => { y with made := y.made ++ [queue] }) room.2)).respond c St.ok

def execQeQueueCreate (h : Hdr) (queue base log2 dir esize vector cls irqEn pin pushSrc wbAddr delivAddr window : Nat)
    (s : State) : Host.Outcome State Fault Refusal :=
  live (fun s => s.command h (qeNeed 0x0901)
    (qeQueueCreateCmd queue base log2 dir esize vector cls irqEn pin pushSrc wbAddr delivAddr window)) s

/-- A command on a queue that exists, by its group's owner (R531): its context brought into the cache. -/
def onQueue (queue : Nat) (c : Cmd) (f : QCtx → Block → Block) (s : Block) : Block :=
  if 1048576 ≤ queue then s.respond c St.badArg
  else if !ownsQueue s c.port queue then s.respond c St.groupNotOwned
  else if !s.qe.made.contains queue then s.respond c St.noQueue
  else if s.qe.closing.contains queue then s.respond c St.busy
  else
    match ctxOf s queue with
    | none => (s.bump Rg.qeCtxFail).respond c St.timeout
    | some x =>
      let room := makeRoom queue s
      if !room.1 then room.2.respond c St.timeout else f x room.2

/-- A queue is going: its context is not VALID from now on. -/
def queueClosing (queue : Nat) (x : QCtx) (s : Block) : Block :=
  modQe (fun y => { y with closing := y.closing ++ [queue] }) (putCtx queue { x with valid := false } s)

/-- QE_QUEUE_DESTROY (R530): later pushes find the queue not VALID. -/
def qeQueueDestroyCmd (queue : Nat) (c : Cmd) (s : Block) : Block :=
  onQueue queue c (fun x s => settleDestroy queue ((queueClosing queue x s).hold c 0x0902 queue)) s

def execQeQueueDestroy (h : Hdr) (queue : Nat) (s : State) : Host.Outcome State Fault Refusal :=
  live (fun s => s.command h (qeNeed 0x0902) (qeQueueDestroyCmd queue)) s

/-- A queue starts afresh: ERROR, FULL_SEEN and CREDIT clear, HEAD and TAIL at position 0, and what is on its way without effect. -/
def queueAfresh (queue : Nat) (x : QCtx) (s : Block) : Block :=
  let s := modQe (fun y => { y with
    writes := y.writes.map (fun (w : RingWrite) => if w.q == queue then { w with live := false } else w),
    fetches := y.fetches.filter (fun f => f.1 != queue), wbDue := y.wbDue.filter (· != queue),
    badSaid := y.badSaid.filter (· != queue), lost := spSet (fun _ => 0) y.lost queue 0 }) s
  putCtx queue { x with error := false, full := false, credit := 0, head := 0, tail := 0 } s

/-- QE_QUEUE_RESET (R518). -/
def qeQueueResetCmd (queue : Nat) (c : Cmd) (s : Block) : Block :=
  onQueue queue c (fun x s => (queueAfresh queue x s).respond c St.ok) s

def execQeQueueReset (h : Hdr) (queue : Nat) (s : State) : Host.Outcome State Fault Refusal :=
  live (fun s => s.command h (qeNeed 0x0903) (qeQueueResetCmd queue)) s

/-- QE_QUEUE_STATUS: the word a read of the doorbell slot returns, CREDIT and DROPPED with its OVF. -/
def qeQueueStatusCmd (queue : Nat) (c : Cmd) (s : Block) : Block :=
  onQueue queue c (fun x s =>
    s.respond c St.ok [(8, slotWord s queue), (2, x.credit), (4, x.dropped.toNat + x.ovf.toNat * 2 ^ 31)]) s

def execQeQueueStatus (h : Hdr) (queue : Nat) (s : State) : Host.Outcome State Fault Refusal :=
  live (fun s => s.command h (qeNeed 0x0904) (qeQueueStatusCmd queue)) s

/-- The VALID queues that name a vector. -/
def queuesNaming (s : Block) (v : Nat) : List Nat :=
  s.qe.made.filter (fun q =>
    match ctxOf s q with
    | some x => x.valid && vecOf x == v
    | none => false)

/-- A port may set a vector: it owns the group of a VALID queue that names it, or, while none names it, any group. -/
def maySetVector (s : Block) (p : Port) (v : Nat) : Bool :=
  let l := queuesNaming s v
  if l.isEmpty then s.qe.owners.any (fun x => x.2 == some p) else l.any (fun q => ownsQueue s p q)

/-- A vector's registers take the settings given. -/
def vectorPut (v thresh timer target mask : Nat) (s : Block) : Block :=
  let b := Rg.vec v
  (((s.put b Rg.vThresh thresh).put b Rg.vTimer timer).put b Rg.vTarget target).put b Rg.vMask mask

/-- QE_VECTOR_SET (R522, R524). -/
def qeVectorSetCmd (vector cls thresh timer target mask : Nat) (c : Cmd) (s : Block) : Block :=
  if 1 < cls || (if cls == 0 then 4096 else 256) ≤ vector || thresh == 0 || 255 < thresh || timer == 0 || 1000 < timer ||
      (if cls == 0 then 3 else 1) < target || 1 < mask then s.respond c St.badArg
  else
    let v := if cls == 0 then vector else 4096 + vector
    if !maySetVector s c.port v then s.respond c St.groupNotOwned
    else (vecChanged v (vectorPut v thresh timer target mask s)).respond c St.ok

def execQeVectorSet (h : Hdr) (vector cls thresh timer target mask : Nat) (s : State) :
    Host.Outcome State Fault Refusal :=
  live (fun s => s.command h (qeNeed 0x0905) (qeVectorSetCmd vector cls thresh timer target mask)) s

/-- QE_STATUS: QE_HOST_STATUS. -/
def qeStatusCmd (c : Cmd) (s : Block) : Block := s.respond c St.ok [(8, qeHostStatus s)]

def execQeStatus (h : Hdr) (s : State) : Host.Outcome State Fault Refusal :=
  live (fun s => s.command h (qeNeed 0x0906) qeStatusCmd) s

end Sys2Proof.Machine
end

