-- ==== Sys2Proof/Machine/Access.lean ====
section
/-! DEFINITION. Accesses to the control space (01, 19): what a register reads as, what a write of it does, which accesses are
permitted (R34, R35, R566, R567, R605), and the commands that read and write registers. -/

namespace Sys2Proof.Machine

/-! ### Mailbox doorbells (R560, R562) -/

/-- MBX_DOORBELL: a tail that moves forward by more than the free slots is ignored and counted. -/
def mbxDoorbellStep (p tail : Nat) (s : Block) : Block :=
  let b := Rg.mbx p
  let old := s.f b Rg.cmdTail
  let free := 64 - (old + 128 - s.f b Rg.cmdHead) % 128
  if (tail + 128 - old) % 128 ≤ free then s.put b Rg.cmdTail tail else s.bump (Rg.mbxDbBad p)

def execMbxDoorbell (p : Port) (tail : BitVec 7) (s : State) : Host.Outcome State Fault Refusal :=
  live (mbxDoorbellStep (portNum p) tail.toNat) s

/-- MBX_RSP_RELEASE: responses up to the new head are released; a head beyond the written ones is ignored. -/
def mbxRspReleaseStep (p head : Nat) (s : Block) : Block :=
  let b := Rg.mbx p
  let old := s.f b Rg.rspHead
  if (head + 128 - old) % 128 ≤ (s.f b Rg.rspTail + 128 - old) % 128 then s.put b Rg.rspHead head else s

def execMbxRspRelease (p : Port) (head : BitVec 7) (s : State) : Host.Outcome State Fault Refusal :=
  live (mbxRspReleaseStep (portNum p) head.toNat) s

/-! ### What registers read as -/

/-- The block window and the offset in it of a control-space offset. -/
def winOf (a : Nat) : Nat := a / 0x1000000
def winOff (a : Nat) : Nat := a % 0x1000000

/-- The port of a mailbox page. -/
def pagePort (p : Nat) : Option Port := [Port.h0, .p1, .p2, .svc, .jtag, .fab][p]?

/-- MBX_STATUS of page p. -/
def mbxStatus (s : Block) (p : Nat) : Nat :=
  match pagePort p with
  | none => 0
  | some q =>
    (portReady s q).toNat + (s.f (Rg.mbx p) Rg.mbxProto) * 2 + s.f (Rg.mbx p) Rg.mbxLevel * 4 +
      s.gr.restarting.toNat * 16 + (decide (64 ≤ rspUsed s q)).toNat * 32 + inFlight s q * 256

/-- The EIC target page that a mailbox page offset is a copy of, and the offset in it (R550). -/
def eicCopy (a : Nat) : Option (Nat × Nat) :=
  let p := a / 0x100000
  let o := a % 0x100000
  if winOf a != 0 || o < 0x8000 then none
  else if p == 0 && o < 0xC000 then some (2 + (o - 0x8000) / 0x1000, o % 0x1000)
  else if (p == 1 || p == 2) && o < 0x9000 then some (5 + p, o % 0x1000)
  else none

/-- EIC_PEND_w: PENDING of sources 64w to 64w + 63. -/
def eicPendWord (s : Block) (w : Nat) : Nat :=
  (upto 64).foldl (fun m i => m + s.f (Rg.eicS (64 * w + i)) Rg.srcPending * 2 ^ i) 0

/-- A lane counter: COUNT as latched by the last LANE_SNAP, OVF as it stands. -/
def laneCntWord (s : Block) (n i : Nat) : Nat :=
  (spGet (fun _ => 0) (getLane s n).snaps i).toNat + (s.reg (Rg.lane n + Rg.lCnt i)).toNat / 2 ^ 48 * 2 ^ 48

/-- The target port of local port q of die d: OUTSTANDING counts its table. -/
def tportWord (s : Block) (d q : Nat) : Nat :=
  let n := (s.net.parts.filter (fun x => x.dst == 256 * d + q && x.phase == 1)).length
  fldSet (s.reg (Rg.tport d q)).toNat 16 11 n

/-- The epoch of an initiator's non-posted traffic: that of the table installed last; posted traffic keeps the other one while the
hold of R466 lasts. -/
def newEpoch (s : Block) : Nat := s.f (Rg.router 4 0) Rg.rtNewEpoch
def flipHeld (s : Block) (src : Nat) : Bool := s.net.fences.any (fun f => f.src == src && f.what == .flip)
def postedEpoch (s : Block) (src : Nat) : Nat := if flipHeld s src then 1 - newEpoch s else newEpoch s

/-- A fence of an initiator's own is in progress. -/
def fenceBusy (s : Block) (src : Nat) : Bool :=
  s.net.fences.any (fun f => f.src == src && (match f.what with | .own _ => true | _ => false))

/-- The initiator bridge of local port q of die d: TAGS_IN_USE, FENCE_BUSY, EPOCH, FLIP_HOLD. -/
def iportWord (s : Block) (d q : Nat) : Nat :=
  let me := 256 * d + q
  (s.net.parts.filter (fun x => x.src == me)).length % 2 ^ 13 + (fenceBusy s me).toNat * 2 ^ 13 +
    postedEpoch s me * 2 ^ 14 + (flipHeld s me).toNat * 2 ^ 15

/-- Old-epoch flits in a router's buffers. -/
def oldCount (s : Block) (r : Nat) : Nat :=
  let e := s.f (Rg.router (r / 24) (r % 24)) Rg.rtNewEpoch
  (s.net.flits.filter (fun x => x.router == r && fldGet x.header.toNat 6 1 != e)).length

/-- NOC_RT_EPOCH of router i of die d. -/
def routerWord (s : Block) (d i : Nat) : Nat := fldSet (s.reg (Rg.router d i)).toNat 16 16 (oldCount s (24 * d + i))

/-- The bit of a stored table entry that says it was written through its register; it reads as zero. -/
def routeSetBit : Nat := 63

/-- The router table entry e, table t, of router i of die d: as its register was written, or else that of the table's set (R464, R465);
nothing before the tables are loaded in Stage 2. -/
def routeEntry (s : Block) (d i t e : Nat) : Nat :=
  let raw := (s.reg (Rg.router d i + 0x1000 + 0x400 * t + 8 * e)).toNat
  if raw.testBit routeSetBit then raw % 2 ^ 18
  else if stageOf s < 2 || stageOf s == 7 then 0
  else tableEntry (tableSet s t) d i e

/-- The routing table registers of a die's network block, of n routers. -/
def inTables (n o : Nat) : Bool := decide (o < 0x80000 * n) && 0x1000 ≤ o % 0x80000 && o % 0x80000 < 0x1800

/-- A network register of die d at offset o of its block. -/
def nocView (s : Block) (d o raw : Nat) : Nat :=
  if o < 0x80000 * 24 && o % 0x80000 == 0 && o / 0x80000 < (if d < 4 then 24 else 4) then routerWord s d (o / 0x80000)
  else if o < 0x80000 * (if d < 4 then 24 else 4) && 0x1000 ≤ o % 0x80000 && o % 0x80000 < 0x1800 then
    routeEntry s d (o / 0x80000) ((o % 0x80000 - 0x1000) / 0x400) ((o % 0x80000 - 0x1000) % 0x400 / 8)
  else if 0xD00000 ≤ o && o < 0xD02000 && o % 0x20 == 0 then tportWord s d ((o - 0xD00000) / 0x20)
  else if 0xE00000 ≤ o && o < 0xE02000 && o % 0x20 == 0 then iportWord s d ((o - 0xE00000) / 0x20)
  else raw

/-- A write in the network block of die d: a table entry stands as written, the half that is not written as it was. -/
def writeNoc (d o a : Nat) (size8 : Bool) (v : Nat) (s : Block) : Block :=
  if inTables (if d < 4 then 24 else 4) o then
    let a8 := a / 8 * 8
    let s := (s.setReg a8 (BitVec.ofNat 64 (nocView s d o 0))).plainWrite a size8 v
    s.setReg a8 (s.reg a8 ||| BitVec.ofNat 64 (2 ^ routeSetBit))
  else s.plainWrite a size8 v

/-- A register of fabric die d's window at die offset k, at offset o. -/
def dieView (s : Block) (d k o raw : Nat) : Nat :=
  if k == 0x01 then nocView s d o raw
  else if k == 0x06 && 0x10000 ≤ o && o < 0x10000 + 8 * 3840 then maceStatusWord s (3840 * d + (o - 0x10000) / 8)
  else if 0x18 ≤ k && 0x20 ≤ o % 0x1000 && o % 0x1000 < 0x48 && o < 0x4000 then
    laneCntWord s (32 * d + 4 * (k - 0x18) + o / 0x1000) ((o % 0x1000 - 0x20) / 8)
  else raw

/-- What the 8-byte register at offset a reads as, without any effect of the read. -/
def regView (s : Block) (a : Nat) : Nat :=
  let w := winOf a
  let o := winOff a
  let raw := (s.reg a).toNat
  if w == 0x00 then
    match eicCopy a with
    | some (t, x) => (s.reg (Rg.eicT t + x)).toNat
    | none => if o % 0x100000 == 0x2020 then mbxStatus s (o / 0x100000) else raw
  else if w == 0x04 && o == 0x10 then s.devTime.toNat
  else if w == 0x06 && o == 0x1020 then runLockStatus s
  else if w == 0x08 && 0x8000 ≤ o && o < 0x8100 then eicPendWord s ((o - 0x8000) / 8)
  else if w == 0x08 && 0x10000 ≤ o && o < 0x14000 then fldSet raw 8 8 (Nat.land (fldGet raw 8 8) (liveTargets s))
  else if w == 0x09 && o == 0x08 then qeHostStatus s
  else if w == 0x0A then nocView s 4 o raw
  else if 0x20 ≤ w && w < 0xA0 then dieView s ((w - 0x20) / 0x20) ((w - 0x20) % 0x20) o raw
  else raw

/-- The EIC target whose CLAIM register stands at an offset, in window 0x08 or in a copy. -/
def claimAt (a : Nat) : Option Nat :=
  match eicCopy a with
  | some (t, o) => if o == 0x08 then some t else none
  | none => if winOf a == 0x08 && winOff a < 0x8000 && winOff a % 0x1000 == 0x08 then some (winOff a / 0x1000) else none

/-- The die and pin whose IO_PIN register stands at an offset. -/
def ioPinAt (a : Nat) : Option (Nat × Nat) :=
  let w := winOf a
  let o := winOff a
  if 0x20 ≤ w && w < 0xA0 && (w - 0x20) % 0x20 == 0x05 && 0x1000 ≤ o && pinExists ((o - 0x1000) / 8) && o < 0x1000 + 8 * 384
  then some ((w - 0x20) / 0x20, (o - 0x1000) / 8) else none

/-- Read 8 bytes at an aligned offset: EIC_CLAIM claims (R538), and a pin's LEVEL is the one that the part gives it or the board's. -/
def readReg8 (a : Nat) (s : Block) : Nat × Block :=
  match claimAt a with
  | some t => eicClaimRead t s
  | none =>
    match ioPinAt a with
    | some (d, n) =>
      match pinGiven s d n with
      | some v => (fldSet (regView s a) 6 1 v.toNat, s)
      | none =>
        let x := s.draw
        (fldSet (regView s a) 6 1 (x.1 % 2), x.2)
    | none => (regView s a, s)

/-- Read 4 or 8 bytes; the high half of a CLAIM register claims nothing. -/
def readReg (a : Nat) (size8 : Bool) (s : Block) : Nat × Block :=
  let a8 := a / 8 * 8
  if size8 then readReg8 a8 s
  else if a % 8 == 4 then (if (claimAt a8).isSome then (0, s) else ((readReg8 a8 s).1 / 2 ^ 32, (readReg8 a8 s).2))
  else ((readReg8 a8 s).1 % 2 ^ 32, (readReg8 a8 s).2)

/-! ### What a write of a register does -/

/-- The bits an access writes of the low 32 bits of a register: none where it covers the high half alone. -/
def lowWritten (a : Nat) (size8 : Bool) : Bool := size8 || a % 8 == 0

/-- A write in an EIC target page; a copy's MSG_ADDR is read-only (R550). -/
def writeTargetPage (t o : Nat) (copy : Bool) (a : Nat) (size8 : Bool) (v : Nat) (s : Block) : Block :=
  if o == 0x10 then (if lowWritten a size8 then eicCompleteStep t (v % 2048) s else s)
  else if o == 0x20 && copy then s
  else if 0x30 ≤ o then s
  else settleNotified (s.plainWrite (Rg.eicT t + o + a % 8) size8 v)

/-- A register of a TPP that R289 and R346 hold while it is ARMED or RUNNING. -/
def tppHeld (o : Nat) : Bool :=
  (0x0800 ≤ o && o < 0x0980) || (0x1000 ≤ o && o < 0x1200) || (0x20000 ≤ o && o < 0x26000) ||
    (0x30000 ≤ o && o < 0x32300) || (0x34000 ≤ o && o < 0x40000)

/-- A write in TPP n's window. -/
def writeTpp (n o : Nat) (a : Nat) (size8 : Bool) (v : Nat) (s : Block) : Block :=
  if tppHeld o && (tppState s n == 3 || tppState s n == 4) then s.putB (Rg.tpp n) Rg.tTsIgnored true
  else
    let s := s.plainWrite a size8 v
    if o == 0x32000 && lowWritten a size8 && v.testBit 4 then cntClearStep n s else s

/-- A write in a fabric die's windows. -/
def writeDie (d k o : Nat) (a : Nat) (size8 : Bool) (v : Nat) (s : Block) : Block :=
  if k == 0x01 then writeNoc d o a size8 v s
  else if (k == 0x12 || k == 0x13) && 0x0800 ≤ o && o < 0x0900 then
    lsuKeyWrite (2 * d + (k - 0x12)) ((o - 0x0800) / 8) (accessData a size8 v) (accessMask a size8) s
  else if k == 0x05 && 0x1000 ≤ o then
    (if o < 0x1000 + 8 * 384 then ioPinWriteStep d ((o - 0x1000) / 8) size8 (a % 8 == 4) v s else s)
  else if 0x08 ≤ k && k ≤ 0x0D then writeTpp (6 * d + (k - 8)) o a size8 v s
  else if (k == 0x10 || k == 0x11) && o == 0x1000 then
    let s := s.plainWrite a size8 v
    if lowWritten a size8 && v.testBit 31 then bracketGoStep (2 * d + (k - 0x10)) s else s
  else if 0x18 ≤ k && o % 0x1000 == 0x18 && o < 0x4000 then
    (if lowWritten a size8 && v % 2 == 1 then snapLane (32 * d + 4 * (k - 0x18) + o / 0x1000) s else s)
  else s.plainWrite a size8 v

/-- A write in a mailbox page. -/
def writeMbx (a8 : Nat) (a : Nat) (size8 : Bool) (v : Nat) (s : Block) : Block :=
  let p := a8 / 0x100000
  let o := a8 % 0x100000
  match eicCopy a8 with
  | some (t, x) => writeTargetPage t x true a size8 v s
  | none =>
    if o == 0x2000 then (if lowWritten a size8 then mbxDoorbellStep p (v % 128) s else s)
    else if o == 0x2018 then (if lowWritten a size8 then mbxRspReleaseStep p (v % 128) s else s)
    else s.plainWrite a size8 v

/-- A write of 4 or 8 bytes at a control-space offset takes effect at its block (R9, R10, R579). -/
def writeReg (a : Nat) (size8 : Bool) (v : Nat) (s : Block) : Block :=
  let a8 := a / 8 * 8
  let w := winOf a
  let o := winOff a8
  if w == 0x00 then writeMbx a8 a size8 v s
  else if w == 0x08 then
    if o < 0x8000 then writeTargetPage (o / 0x1000) (o % 0x1000) false a size8 v s
    else
      let s := s.plainWrite a size8 v
      if 0x10000 ≤ o && o < 0x14000 then sourceChanged ((o - 0x10000) / 8) s else s
  else if w == 0x09 then
    let s := s.plainWrite a size8 v
    if 0x10000 ≤ o && o < 0x18000 then vecChanged ((o - 0x10000) / 8) s
    else if 0x20000 ≤ o && o < 0x20800 then vecChanged (4096 + (o - 0x20000) / 8) s
    else s
  else if w == 0x0A then writeNoc 4 o a size8 v s
  else if 0x20 ≤ w && w < 0xA0 then writeDie ((w - 0x20) / 0x20) ((w - 0x20) % 0x20) o a size8 v s
  else s.plainWrite a size8 v

/-- The register at an offset holds a counter. -/
def hasCounter (a : Nat) : Bool :=
  match regAt (a / 8 * 8) with
  | some (r, _, _) => !r.cnts.isEmpty
  | none => false

/-- COUNTER_CLEAR_WRITE: a write of a register that holds a counter (R579). -/
def counterClearWriteStep (a : Nat) (size8 : Bool) (v : Nat) (s : Block) : Block :=
  if hasCounter a then writeReg a size8 v s else s

def execCounterClearWrite (addr : BitVec 32) (size8 : Bool) (value : BitVec 64) (s : State) :
    Host.Outcome State Fault Refusal := live (counterClearWriteStep addr.toNat size8 value.toNat) s

def execRegisterWrite (addr : BitVec 32) (size8 : Bool) (value : BitVec 64) (s : State) :
    Host.Outcome State Fault Refusal := live (writeReg addr.toNat size8 value.toNat) s

/-! ### Who may access what (R34, R35, R36, R605, R672) -/

/-- Block windows that the manual assigns (R36). -/
def winAssigned (w : Nat) : Bool :=
  decide (w ≤ 0x0B) || (0xA0 ≤ w && w ≤ 0xA2) ||
    (0x20 ≤ w && w < 0xA0 &&
      (let k := (w - 0x20) % 0x20
       decide (k ≤ 0x06) || (0x08 ≤ k && k ≤ 0x0D) || (0x10 ≤ k && k ≤ 0x13) || decide (0x18 ≤ k)))

/-- The manual gives a register at a control-space offset, or names no register of its window: anything else is a reserved part of the
window (R27). -/
def ctlExists (a : Nat) : Bool :=
  let a8 := a / 8 * 8
  winAssigned (winOf a) && ((winRows (winOf a)).isEmpty || (eicCopy a8).isSome || (regAt a8).isSome)

/-- The mailbox port that an initiator port ID belongs to (R558). -/
def portOfSrc (src : Nat) : Option Port :=
  let d := src / 256
  let q := src % 256
  if d < 4 && q < 0x60 then some .fab
  else if d == 5 then some .h0
  else if d == 6 then some .p1
  else if d == 7 then some .p2
  else if src == 0x404 then some .svc
  else if src == 0x405 then some .jtag
  else none

/-- The owner has enabled direct access to window w for port p (R34, R566). -/
def directEnabled (s : Block) (p : Port) (w : Nat) : Bool :=
  portLevel s p == 2 && (s.reg (Rg.mbxDirectWin (portNum p) (w / 64))).toNat.testBit (w % 64)

/-- An access of a port to a control-space offset is permitted (R34, R35): its own mailbox page, or direct access to a window
that is not Greone's own. -/
def portMay (s : Block) (p : Port) (a : Nat) : Bool :=
  let w := winOf a
  if w == 0x00 then a / 0x100000 == portNum p
  else w != 0x01 && directEnabled s p w

/-- Registers that Greone firmware alone writes: those of the line scramblers, and the routing tables. -/
def greoneWrites (a : Nat) : Bool :=
  let w := winOf a
  let o := winOff a
  (0x20 ≤ w && w < 0xA0 &&
    (let k := (w - 0x20) % 0x20
     k == 0x12 || k == 0x13 || (k == 0x01 && inTables 24 o))) || (w == 0x0A && inTables 4 o)

/-- The response status that a request to control space receives (R27, R34 to R37, R672), 0 where it is delivered.  DESIGN CHOICE: a
request that is both of a wrong form and not permitted receives DECODE_ERROR; the manual gives no precedence. -/
def ctlStatus (s : Block) (src a len : Nat) (write : Bool) : Nat :=
  match portOfSrc src with
  | some .jtag =>
    if jtagLevel s == 1 && !(winOf a == 0 && a / 0x100000 == 4) then 2 else common .jtag
  | some p => common p
  | none => if src == 0x400 then form 0 else form 2
where
  form (st : Nat) : Nat :=
    if !(len == 4 || len == 8) || a % len != 0 || !ctlExists a then 1 else st
  common (p : Port) : Nat :=
    if !portMay s p a || (write && greoneWrites a) then form 2 else form 0

/-! ### REG_READ and REG_WRITE (R572, R566) -/

/-- A counter or status register: one that no write sets, and whose read has no effect. -/
def statusReg (a : Nat) : Bool :=
  let a8 := a / 8 * 8
  (claimAt a8).isNone && winOf a != 0x01 &&
  ((eicCopy a8).isSome ||
    match regAt a8 with
    | some (r, _, _) => r.rw == 0 || !r.cnts.isEmpty
    | none => false)

/-- A port may read a register by REG_READ: as with DIRECT level, and every counter and status register. -/
def regReadable (s : Block) (p : Port) (a : Nat) : Bool :=
  let w := winOf a
  (if w == 0x00 then a / 0x100000 == portNum p
   else w != 0x01 && (s.reg (Rg.mbxDirectWin (portNum p) (w / 64))).toNat.testBit (w % 64)) || statusReg a

/-- The registers at an offset lie on a fabric die whose management port cannot be reached (R556). -/
def dieUnreachable (s : Block) (a : Nat) : Bool :=
  let w := winOf a
  0x20 ≤ w && w < 0xA0 && dieOff s ((w - 0x20) / 0x20)

/-- The control-space offset of a register address of a command, of 4 or 8 bytes; none where it is not one. -/
def cmdReg (addr size : Nat) : Option Nat :=
  if (size == 4 || size == 8) && addr % size == 0 && 0x7F0000000000 ≤ addr && addr < 0x7F0100000000 &&
    ctlExists (addr - 0x7F0000000000) then some (addr - 0x7F0000000000) else none

/-- REG_READ: the value. -/
def regReadCmd (addr size : Nat) (c : Cmd) (s : Block) : Block :=
  match cmdReg addr size with
  | none => s.respond c St.badArg
  | some a =>
    if !regReadable s c.port a then s.respond c St.authFail
    else if dieUnreachable s a then s.respond c St.refusedState
    else
      let r := readReg a (size == 8) s
      r.2.respond c St.ok [(8, r.1)]

def needRegRead : Need := { op := 0x0003, ports := allPorts, stage := 1 }

def execRegRead (h : Hdr) (addr size : Nat) (s : State) : Host.Outcome State Fault Refusal :=
  live (fun s => s.command h needRegRead (regReadCmd addr size)) s

/-- REG_WRITE: performed on the Safelight network; another port's mailbox, Greone's own window and what Greone alone writes
are refused. -/
def regWriteCmd (addr size value : Nat) (c : Cmd) (s : Block) : Block :=
  match cmdReg addr size with
  | none => s.respond c St.badArg
  | some a =>
    if winOf a == 0x01 || (winOf a == 0x00 && a / 0x100000 != portNum c.port) || greoneWrites a then s.respond c St.authFail
    else if dieUnreachable s a then s.respond c St.refusedState
    else (writeReg a (size == 8) value s).respond c St.ok

def needRegWrite : Need := { op := 0x0004, ports := workPorts, stage := 1, expert := true }

def execRegWrite (h : Hdr) (addr size value : Nat) (s : State) : Host.Outcome State Fault Refusal :=
  live (fun s => s.command h needRegWrite (regWriteCmd addr size value)) s

/-- REG_RD of protocol v1: an 8-byte REG_READ (R574). -/
def execRegRd (h : Hdr) (arg2 : Nat) (s : State) : Host.Outcome State Fault Refusal :=
  live (fun s => s.commandV1 h 0x40 needRegRead (regReadCmd arg2 8)) s

/-- REG_WR of protocol v1: a 4-byte REG_WRITE (R574). -/
def execRegWr (h : Hdr) (arg1 arg2 : Nat) (s : State) : Host.Outcome State Fault Refusal :=
  live (fun s => s.commandV1 h 0x41 needRegWrite (regWriteCmd arg2 4 arg1)) s

end Sys2Proof.Machine
end

