-- ==== Sys2Proof/Machine/LinkRoutes.lean ====
section
/-! DEFINITION. The routes of links and their transit fields (R218 to R223): when a chain of transit lines is a link's route, the registers that
give its latency, and writing it into configuration memory. -/

namespace Sys2Proof.Machine

/-! ### Latency (R221) -/

/-- Seam crossings of a route. -/
def crossings (hops : List Hop) : Nat := (hops.filter (fun h => (hopEdge h).isSome)).length

/-- The register mask of a line with `extra` registers beside the exit tap's, from the exit tap back toward the launch (R221). -/
def backMask (exit extra : Nat) : Nat := ((upto (extra + 1)).foldl (fun v j => v + 2 ^ (exit - 1 - j)) 0)

/-- The masks that give a route `extra` cycles more than its exit taps, starting from its first line. -/
def maskedHops : Nat → List Hop → List Hop
  | _, [] => []
  | extra, h :: r =>
    let n := Nat.min extra (h.exit - 1)
    { h with mask := backMask h.exit n } :: maskedHops (extra - n) r

/-- The route with the registers that R221 enables for a latency. -/
def timedHops (latency : Nat) (hops : List Hop) : List Hop := maskedHops (latency - (hops.length + 3 * crossings hops)) hops

/-- Registers of a hop between its launch and its exit tap. -/
def hopRegs (h : Hop) : Nat := ((bitsOf 4 h.mask).filter (· < h.exit)).length

/-- The route's registers and crossings give the latency, each exit tap being registered (R221). -/
def routeTimed (latency : Nat) (hops : List Hop) : Bool :=
  hops.all (fun h => h.mask.testBit (h.exit - 1) && decide (h.mask < 2 ^ h.exit)) &&
    hops.foldl (fun n h => n + hopRegs h) 0 + 3 * crossings hops == latency

/-! ### Places (R219, R220) -/

/-- The sector and the cluster of a hop's launch and of its tap t. -/
def hopLaunch (h : Hop) : Nat × Nat :=
  let x := lineX h.sector h.line
  let y := lineY h.sector h.line
  (sectorAt (h.sector / 80) x y, clusterAt x y)
def hopTap (h : Hop) (t : Nat) : Option (Nat × Nat) :=
  (tapAt h.sector h.line t).map (fun p => (sectorAt (h.sector / 80) p.1 p.2, clusterAt p.1 p.2))

/-- A hop leads to the next: its exit tap lies at the next line's launch cluster, or the Seam group it crosses joins their sectors. -/
def hopJoins (a b : Hop) : Bool :=
  match hopEdge a with
  | some (e, side) =>
    ((hopTap a a.exit).map (·.1) == some (seamSector e a.group side)) && b.sector == seamSector e a.group (1 - side)
  | none => a.group == 0xFFFF && hopTap a a.exit == some (hopLaunch b)

/-- Every two neighbours of a list are related. -/
def chained (p : Hop → Hop → Bool) : List Hop → Bool
  | a :: b :: r => p a b && chained p (b :: r)
  | _ => true

/-- A route leads from a link's send line to the tap at which it is received. -/
def routeLeads (x : Link) (hops : List Hop) : Bool :=
  match hops.head?, hops.getLast? with
  | some a, some z =>
    a.sector == x.sendSec && a.line == x.sendLine && z.line == x.recvLine && z.exit == x.recvTap && z.group == 0xFFFF &&
      ((hopTap z z.exit).map (·.1) == some x.recvSec) && chained hopJoins hops &&
      hops.all (fun h => decide (h.sector < 320) && lineOk h.line && decide (1 ≤ h.exit) && decide (h.exit ≤ 4))
  | _, _ => false

/-! ### What is free (R220, R221, R223) -/

/-- A field is at its tie-off or belongs to link i. -/
def fieldFree (s : Block) (i key : Nat) : Bool :=
  spGet (fun _ => 0) s.cfg.transit key == i || (spGet (fun _ => 0) s.cfg.transit key == 0 && spGet cfgCleared s.cfg.fields key == cfgCleared key)

/-- The clock of a sector that is network n, or one that is not assigned. -/
def sectorClockFor (s : Block) (k n : Nat) : Option Nat :=
  match (upto 16).find? (fun j => sectorNet s k j == some n) with
  | some j => some j
  | none => (upto 16).find? (fun j => cfgGet s k .net 0 j == 0)

/-- CLK_0 or CLK_1 of a cluster: the one that carries network n, or a free one (R221). -/
def clusterClockFor (s : Block) (k c n : Nat) : Option Nat :=
  match [0, 1].find? (fun i => clusterNet s k c i == some n) with
  | some i => some i
  | none => [0, 1].find? (fun i => cfgGet s k .clkMux c i == 1)

/-- The taps of a route with an enabled register: sector, cluster and index of the tap's fields. -/
def routeTaps (hops : List Hop) : List (Nat × Nat × Nat) :=
  hops.flatMap (fun h => ((bitsOf 4 h.mask).filter (· < h.exit)).filterMap (fun t =>
    (hopTap h (t + 1)).map (fun p => (p.1, p.2, 64 * lineDir h.line + 16 * t + lineNumber h.line))))

/-- The lines of a route whose drivers relay: all but the first, each with its launch cluster and index there. -/
def routeDrivers (hops : List Hop) : List (Nat × Nat × Nat) :=
  (hops.drop 1).map (fun h => ((hopLaunch h).1, (hopLaunch h).2, 16 * lineDir h.line + lineNumber h.line))

/-- No other link's route uses a line or a slot of this one's, and its groups are not LOST and take its direction. -/
def routeClear (s : Block) (i : Nat) (hops : List Hop) : Bool :=
  let others := (links s).filter (fun l => l.1 != i)
  hops.all (fun h =>
    !others.any (fun l => l.2.hops.any (fun o => o.sector == h.sector && o.line == h.line)) &&
    match hopEdge h with
    | none => true
    | some (e, side) =>
      !hopLost s h && plateSide s e h.group side != some false && plateSide s e h.group (1 - side) != some true &&
        !others.any (fun l => l.2.hops.any (fun o => o.group == h.group &&
          (match hopEdge o with
           | some (e', side') => e' == e && (side' != side || linkSlot l.1 == linkSlot i)
           | none => false))))

/-- A chain of hops is a route for link i: it leads from end to end, in the link's latency, over free lines, drivers and groups, and every
register's cluster has a select for CLOCK. -/
def routeOk (s : Block) (i : Nat) (x : Link) (hops : List Hop) : Bool :=
  routeLeads x hops && routeTimed x.latency hops && routeClear s i hops &&
    (routeDrivers hops).all (fun d => fieldFree s i (cfgKey d.1 .expGroup d.2.1 d.2.2) && fieldFree s i (cfgKey d.1 .expMember d.2.1 d.2.2)) &&
    (routeTaps hops).all (fun t => fieldFree s i (cfgKey t.1 .tapReg t.2.1 t.2.2) && (clusterClockFor s t.1 t.2.1 x.clock).isSome &&
      (sectorClockFor s t.1 x.clock).isSome)

/-! ### Writing transit fields (R201, R220) -/

/-- Write a transit field of link i. -/
def transitPut (i key v : Nat) (s : Block) : Block :=
  cfgPut key v (modCfg (fun c => { c with transit := spSet (fun _ => 0) c.transit key i }) s)

/-- The register of one tap is enabled and clocked by CLOCK, through a free cluster select and sector clock where needed. -/
def writeTap (i clock : Nat) (t : Nat × Nat × Nat) (s : Block) : Block :=
  let k := t.1
  let c := t.2.1
  let j := (sectorClockFor s k clock).getD 0
  let l := (clusterClockFor s k c clock).getD 0
  let s := if sectorNet s k j == some clock then s else transitPut i (cfgKey k .net 0 j) (clock + 1) s
  let s := if clusterNet s k c l == some clock then s else transitPut i (cfgKey k .clkMux c l) (2 ^ (j + 1)) s
  transitPut i (cfgKey k .tapClk c t.2.2) l (transitPut i (cfgKey k .tapReg c t.2.2) 1 s)

/-- The driver of line `hop` of a route selects the tap or slot that it relays. -/
def writeDriver (i : Nat) (x : Link) (hop : Nat) (d : Nat × Nat × Nat) (s : Block) : Block :=
  let from' := relayWire i x hop
  let n := ((upto 32).find? (fun n => muxSource .expGroup d.2.2 n (drivesFrom d.1 d.2.1) == from')).getD 0
  transitPut i (cfgKey d.1 .expMember d.2.1 d.2.2) (2 ^ (n % 8)) (transitPut i (cfgKey d.1 .expGroup d.2.1 d.2.2) (2 ^ (n / 8 + 1)) s)

/-- The registers of a route; its drivers. -/
def writeTaps (i : Nat) (x : Link) (s : Block) : Block := (routeTaps x.hops).foldl (fun s t => writeTap i x.clock t s) s
def writeDrivers (i : Nat) (x : Link) (s : Block) : Block :=
  ((upto x.hops.length).drop 1 |>.zip (routeDrivers x.hops)).foldl (fun s d => writeDriver i x d.1 d.2 s) s
def writeRoute (i : Nat) (x : Link) (s : Block) : Block := writeDrivers i x (writeTaps i x s)

/-- A link's transit fields return to the cleared content; routes that share a clock select with it are written again. -/
def eraseRoute (i : Nat) (s : Block) : Block :=
  let mine (key : Nat) : Bool := spGet (fun _ => 0) s.cfg.transit key == i
  let s := modCfg (fun c => { c with fields := spClear mine c.fields, transit := spClear mine c.transit }) s
  (links s).foldl (fun s l => if l.1 == i then s else writeTaps l.1 l.2 s) s

/-- The links whose route crosses a group of a Seam edge make its direction known at both ends. -/
def routeTouch (x : Link) (s : Block) : Block :=
  x.hops.foldl (fun s h => match hopEdge h with
    | some (e, _) => seamRefresh e h.group s
    | none => s) s

/-- A link becomes x: its old route leaves configuration memory, its new one is written. -/
def setLink (i : Nat) (x : Link) (s : Block) : Block :=
  let old := getLink s i
  let s := eraseRoute i s
  let s := writeRoute i x (modCfg (fun c => { c with links := spSet (fun _ => none) c.links i (some x) }) s)
  let s := match old with
    | some o => routeTouch o s
    | none => s
  routeTouch x s

/-- The routes of some links are written again from the loader's records (R223, R229). -/
def rewriteRoutes (p : Link → Bool) (s : Block) : Block :=
  ((links s).filter (fun l => p l.2)).foldl (fun s l => writeRoute l.1 l.2 s) s

/-- A link's route lies on die d. -/
def linkOnDie (d : Nat) (x : Link) : Bool := x.hops.any (fun h => (hopDies h).contains d)

/-- A link's route has a transit field in sector k. -/
def linkInSector (k : Nat) (x : Link) : Bool :=
  (routeTaps x.hops).any (fun t => t.1 == k) || (routeDrivers x.hops).any (fun t => t.1 == k)

/-! ### LINK_REROUTE (R223) -/

/-- LINK_REROUTE (R223): the route of a link that crosses a LOST group moves to `route`, at the same latency; without one the link stays DOWN. -/
def linkRerouteStep (i : Nat) (route : Option (List Hop)) (s : Block) : Block :=
  match getLink s i with
  | none => s
  | some x =>
    if !x.hops.any (hopLost s) then s
    else
      let wait := modCfg (fun c => { c with links := spSet (fun _ => none) c.links i (some { x with writing := true }) }) s
      match route with
      | none => wait
      | some r =>
        let hops := timedHops x.latency r
        if routeOk s i x hops then (setLink i { x with hops := hops, writing := false } s).raise Ev.linkRerouted (originOf 0x01) i else wait

end Sys2Proof.Machine
end

