-- ==== Sys2Proof/Machine/DieLinks.lean ====
section
/-! DEFINITION. Die links (16): module ends, discovery and negotiation, training results, the Fregal Link's flits, replay and
units, carry-over between siblings, lane faults and forwarded clocks. -/

namespace Sys2Proof.Machine

/-! ### Module ends -/

def getEnd (s : Block) (d m : Nat) : LinkEnd := spGet (fun _ => LinkEnd.reset) s.dl.ends (34 * d + m)

def setEnd (d m : Nat) (e : LinkEnd) (s : Block) : Block :=
  { s with dl := { s.dl with ends := spSet (fun _ => LinkEnd.reset) s.dl.ends (34 * d + m) e } }

def modEnd (d m : Nat) (f : LinkEnd → LinkEnd) (s : Block) : Block := setEnd d m (f (getEnd s d m)) s

/-- The state of a module end: 0 DOWN, 1 DISCOVER, 2 NEGOTIATE, 3 TRAIN, 4 ACTIVE, 5 DEGRADED, 6 RETRAIN. -/
def linkState (s : Block) (d m : Nat) : Nat := s.f (Rg.dl d m) Rg.mState

/-- The module's state as a whole: that of its first end in the device. -/
def moduleState (s : Block) (m : Nat) : Nat := linkState s ((linkEnds m).headD 4) m

/-- The end carries traffic. -/
def linkUp (s : Block) (d m : Nat) : Bool := linkState s d m == 4 || linkState s d m == 5

/-- The end runs v2. -/
def linkV2 (s : Block) (d m : Nat) : Bool := s.flag (Rg.dl d m) Rg.mVersion

/-- The origin of a die's link events. -/
def dlOrigin (d : Nat) : Nat := originOf (if d < 4 then 0x24 + 0x20 * d else 0x0A)

/-- An event of a module end, with the die's EIC source (R532). -/
def dlEvent (d code detail : Nat) (s : Block) : Block :=
  let s := s.raise code (dlOrigin d) detail
  if d < 4 then s.eicEdge (eicDie d 23) else s

/-! ### Sending (R490 to R494) -/

/-- Payload bytes of a flit: 240 in v2, 112 in v1. -/
def payLen (v2 : Bool) : Nat := if v2 then 240 else 112

/-- The bytes of a flit (R490, R496). -/
def flitBytes (v2 : Bool) (seq ack flags : Nat) (credit : List Nat) (pay : List Nat) : List Nat :=
  let cr := (upto 4).foldl (fun v i => v + credit.getD i 0 % 4096 * 2 ^ (12 * i)) 0
  let body := leBytes 2 seq ++ leBytes 2 ack ++ [flags, 0] ++ leBytes 6 cr ++ (pay ++ List.replicate (payLen v2 - pay.length) 0)
  body ++ leBytes 4 (crc32 body)

/-- Send one flit from an end: with its ACK_SEQ (with NAK, the SEQ expected) and CREDIT counts. -/
def sendFlit (d m seq flags : Nat) (pay : List Nat) (s : Block) : Block :=
  let e := getEnd s d m
  let ack := if flags % 2 == 1 then e.rxSeq else (e.rxSeq + 0xFFFF) % 0x10000
  s.emit (.fregalFlit d m (flitBytes (linkV2 s d m) seq ack flags ((upto 4).map (spGet (fun _ => 0) e.passed)) pay))

/-- An IDLE flit, with NAK or an acknowledgement. -/
def sendIdle (d m : Nat) (nak : Bool) (s : Block) : Block := sendFlit d m (getEnd s d m).txSeq (2 + nak.toNat) [] s

/-- Cut bytes into pieces of n. -/
def chunks (n : Nat) : Nat → List Nat → List (List Nat)
  | 0, _ => []
  | k + 1, l => if l.isEmpty then [] else l.take n :: chunks n k (l.drop n)

/-- The flits of a packet's units. -/
def pktPays (v2 : Bool) (p : LinkPkt) : List (List Nat) :=
  let b := p.units.flatten
  chunks (payLen v2) (b.length + 1) b

/-- Flits in the replay buffer that are not acknowledged. -/
def unacked (e : LinkEnd) : List (Nat × List Nat) := if e.headAck then e.held.drop 1 else e.held

/-- The first waiting packet whose VC holds credit for all its flits, no earlier one of its VC waiting (R494). -/
def nextPkt (e : LinkEnd) : Option LinkPkt :=
  e.queue.find? (fun p => decide (p.flits ≤ spGet (fun _ => 0) e.credit p.vc) && (e.queue.find? (fun q => q.vc == p.vc)) == some p)

/-- Mark a unit as carried for index k, unless it is carried already (R497, R498). -/
def carriedUnit (k : Nat) (u : List Nat) : List Nat :=
  match u with
  | [] => []
  | c :: r => (if c / 64 % 2 == 1 then c else c + 64 + 16 * k) :: r

/-- How many of some units are a module's own: COUNT counts these (R497). -/
def ownUnits (l : List (List Nat)) : Nat := (l.filter (fun u => u.headD 0 / 64 % 2 == 0)).length

/-- Units of a module in the traffic of its carrier: in order among themselves, and without credit of the carrier's, since the module's own
was taken for them and its receiving bridge enters them (R494, R497). -/
def carryPkt (k : Nat) (us : List (List Nat)) : LinkPkt := { vc := 4, flits := 0, units := us.map (carriedUnit k), sib := some k }

/-- A packet that has credit goes to the carrier's traffic. -/
def handOver (d m b : Nat) (p : LinkPkt) (s : Block) : Block :=
  modEnd d b (fun e => { e with queue := e.queue ++ [carryPkt (linkIndex m) p.units] })
    (modEnd d m (fun e => { e with
      queue := e.queue.erase p,
      credit := spSet (fun _ => 0) e.credit p.vc (spGet (fun _ => 0) e.credit p.vc - p.flits),
      outCount := (e.outCount + ownUnits p.units) % 2 ^ 32 }) s)

/-- Send waiting packets while credits and the replay buffer of 512 flits allow; to the carrier, where one has acknowledged. -/
def pump (d m : Nat) : Nat → Block → Block
  | 0, s => s
  | n + 1, s =>
    let e := getEnd s d m
    match nextPkt e with
    | none => s
    | some p =>
      let pays := pktPays (linkV2 s d m) p
      match e.carrier with
      | some (b, true) => pump d m n (handOver d m b p s)
      | _ =>
      if !linkUp s d m || 512 < (unacked e).length + pays.length then s
      else
        let s := setEnd d m { e with
          queue := e.queue.erase p,
          credit := spSet (fun _ => 0) e.credit p.vc (spGet (fun _ => 0) e.credit p.vc - p.flits) } s
        let s := pays.foldl (fun s pay =>
          let e := getEnd s d m
          let s := sendFlit d m e.txSeq 0 pay s
          modEnd d m (fun e => { e with held := e.held ++ [(e.txSeq, pay)], txSeq := (e.txSeq + 1) % 0x10000 }) s) s
        pump d m n s

/-- Send the waiting packets of one end as far as they can be sent. -/
def pumpAll (d m : Nat) (s : Block) : Block := pump d m ((getEnd s d m).queue.length) s

/-- Send what can be sent, through the carrier where one has acknowledged (R497). -/
def sendWaiting (d m : Nat) (s : Block) : Block :=
  let s := pumpAll d m s
  match (getEnd s d m).carrier with
  | some (b, true) => pumpAll d b s
  | _ => s

/-- A packet joins an end's traffic. -/
def enqueue (d m : Nat) (p : LinkPkt) (s : Block) : Block :=
  sendWaiting d m (modEnd d m (fun e => { e with queue := e.queue ++ [p] }) s)

/-- A CTL unit (R491). -/
def ctlUnit (msg k seq off count : Nat) : List Nat :=
  [4, msg, k, 0] ++ leBytes 2 seq ++ leBytes 2 off ++ leBytes 4 count ++ [0, 0, 0, 0]

/-- Send a CTL unit on an end, ahead of waiting packets. -/
def sendCtl (d m : Nat) (u : List Nat) (s : Block) : Block :=
  sendWaiting d m (modEnd d m (fun e => { e with queue := { vc := 2, flits := 0, units := [u], sib := none } :: e.queue }) s)

/-! ### Packets from the router (R491) -/

/-- A packet type carries data flits (R451). -/
def typHasData (t : Nat) : Bool := t == 1 || t == 2 || t == 3 || t == 4 || t == 9

/-- A response type uses RHDR. -/
def typIsRsp (t : Nat) : Bool := t == 8 || t == 9

/-- The header unit of a packet. -/
def headerUnit (h : Nat) : List Nat :=
  if typIsRsp (h % 16) then
    2 :: leBytes 7 (fldGet h 0 7 + fldGet h 8 4 * 2 ^ 8 + fldGet h 24 12 * 2 ^ 12 + fldGet h 36 12 * 2 ^ 24 +
      fldGet h 96 12 * 2 ^ 36)
  else 1 :: leBytes 15 (h % 2 ^ 120)

/-- The DATA unit of a flit. -/
def dataUnit (h : Nat) (d : BitVec 512) : List Nat :=
  [3, fldGet h 108 5 + 32 * fldGet h 7 1 + 64 * fldGet h 113 1] ++ leBytes 64 d.toNat

/-- A bridge takes a flit of a packet from its router port; at the last flit the packet's units are ready. -/
def bridgeTake (d m : Nat) (h : BitVec 128) (p : BitVec 512) (s : Block) : Block :=
  let t := h.toNat % 16
  let e := getEnd s d m
  let l := e.taking ++ [(h, p)]
  if typHasData t && fldGet h.toNat 113 1 == 0 then setEnd d m { e with taking := l } s
  else
    let first := ((l.headD (h, p)).1).toNat
    let units := headerUnit first :: (if typHasData t then l.map (fun x => dataUnit x.1.toNat x.2) else [])
    enqueue d m { vc := fldGet first 4 2, flits := if typHasData t then l.length else 1, units := units, sib := none }
      (setEnd d m { e with taking := [] } s)

/-! ### Retraining and carry-over (R497 to R499) -/

/-- The carrier of a module at an end: the next sibling in index order that is ACTIVE, or else DEGRADED. -/
def carrierOf (s : Block) (d m : Nat) : Option Nat :=
  let l := siblings m
  let k := linkIndex m
  let order := l.drop (k + 1) ++ l.take k
  match order.find? (fun b => linkState s d b == 4) with
  | some b => some b
  | none => order.find? (fun b => linkState s d b == 5)

/-- CARRIER of every end on a die's edge follows who carries for whom. -/
def carrierFlags (d m : Nat) (s : Block) : Block :=
  forEach (siblings m) (fun b s => s.putB (Rg.dl d b) Rg.mCarrier
    ((siblings m).any (fun a => match (getEnd s d a).carrier with
      | some (x, _) => x == b
      | none => false))) s

/-- A sending bridge asks a carrier to take its module's traffic (R497 steps 1 and 2). -/
def askCarrier (d a : Nat) (s : Block) : Block :=
  match carrierOf s d a with
  | none => modEnd d a (fun e => { e with carrier := none }) s
  | some b =>
    let s := (modEnd d a (fun e => { e with carrier := some (b, false) }) s).putB (Rg.dl d a) Rg.mCarrying true
    sendCtl d b (ctlUnit 1 (linkIndex a) 0 0 0) (s.bump (Rg.dl d a + Rg.mCarryCount))

/-- An end takes part in carry-over (R485, R496, R497). -/
def carries (s : Block) (d m : Nat) : Bool := linkV2 s d m && (getEnd s d m).caps.getLsbD 3 && s.flag (Rg.dl d m) Rg.mCarryEn

/-- Siblings out of service whose traffic waits for a carrier ask the one that is in service again (R498). -/
def waitersAsk (d m : Nat) (s : Block) : Block :=
  forEach (siblings m) (fun a s =>
    let e := getEnd s d a
    when (a != m && !linkUp s d a && e.carrier.isNone && carries s d a && (linkState s d a == 6 || !(unacked e).isEmpty || !e.queue.isEmpty))
      (fun s => carrierFlags d a (askCarrier d a s)) s) s

/-- Carry-over begins for an end that leaves service (R497), and those it carried for move on (R498). -/
def startCarry (d m : Nat) (s : Block) : Block :=
  let moved := (siblings m).filter (fun a => match (getEnd s d a).carrier with
    | some (x, _) => x == m
    | none => false)
  let s := if carries s d m then askCarrier d m s else s
  carrierFlags d m (forEach moved (askCarrier d) s)

/-- One end enters RETRAIN. -/
def endRetrain (d m : Nat) (s : Block) : Block :=
  if linkUp s d m then
    let s := (s.put (Rg.dl d m) Rg.mState 6).bump (Rg.dl d m + Rg.mRetrainCount)
    startCarry d m (modEnd d m (fun e => { e with nak := false, replays := (0, 0) }) s)
  else s

/-- A module enters RETRAIN at both ends, signalled on its sideband (R493). -/
def enterRetrain (m : Nat) (s : Block) : Block := forEach (linkEnds m) (fun d s => endRetrain d m s) s

/-! ### Receiving units (R491) -/

/-- The length of a unit by its code byte; none for a reserved kind or a malformed code. -/
def unitLen (c : Nat) : Option Nat :=
  if c / 8 % 2 == 1 || 128 ≤ c then none
  else match c % 8 with
    | 0 => some 1
    | 1 => some 16
    | 2 => some 8
    | 3 => some 66
    | 4 => some 16
    | _ => none

/-- Cut a stream into whole units, what is left of an unfinished one, and whether it is well formed. PAD ends the flit. -/
def splitUnits : Nat → List Nat → List (List Nat) × List Nat × Bool
  | 0, l => ([], l, true)
  | n + 1, l =>
    match l with
    | [] => ([], [], true)
    | c :: _ =>
      match unitLen c with
      | none => ([], [], false)
      | some k =>
        if c % 8 == 0 then ([], [], true)
        else if l.length < k then ([], l, true)
        else
          let r := splitUnits n (l.drop k)
          (l.take k :: r.1, r.2.1, r.2.2)

/-- A NoC flit with its HECC enters the die at a module's router ports; the VC's CREDIT count follows. -/
def deliver (d m h : Nat) (p : BitVec 512) (s : Block) : Block :=
  let x := BitVec.ofNat 120 h
  let v := fldGet h 4 2
  let s := modEnd d m (fun e => { e with passed := spSet (fun _ => 0) e.passed v ((spGet (fun _ => 0) e.passed v + 1) % 4096) }) s
  s.emit (.bridgeFlit d m (Config.hecc x ++ x) p)

/-- One unit of a module's traffic: false where it is malformed there. -/
def takeUnit (d m : Nat) (u : List Nat) (s : Block) : Block × Bool :=
  let e := getEnd s d m
  let c := u.headD 0
  if c % 8 == 1 || c % 8 == 2 then
    let h := if c % 8 == 1 then leNat (u.drop 1)
      else
        let x := leNat (u.drop 1)
        fldGet x 0 7 + fldGet x 8 4 * 2 ^ 8 + fldGet x 12 12 * 2 ^ 24 + fldGet x 24 12 * 2 ^ 36 + fldGet x 36 12 * 2 ^ 96
    if e.rx.isSome then (s, false)
    else if typHasData (h % 16) then (setEnd d m { e with rx := some { header := h, addr := fldGet h 48 48, count := 0 } } s, true)
    else (deliver d m h 0 s, true)
  else if c % 8 == 3 then
    match e.rx with
    | none => (s, false)
    | some r =>
      let b := u.getD 1 0
      let addr := if r.count == 0 || typIsRsp (r.header % 16) then r.addr else r.addr / 64 * 64 + 64 * (b % 32)
      let h := fldSet (fldSet (fldSet (fldSet r.header 48 48 addr) 108 5 (b % 32)) 7 1 (b / 32 % 2)) 113 1 (b / 64 % 2)
      let s := setEnd d m { e with rx := if b / 64 % 2 == 1 then none else some { r with count := r.count + 1 } } s
      (deliver d m h (BitVec.ofNat 512 (leNat (u.drop 2))) s, true)
  else (s, true)

/-- The carry-over of this direction has ended: every unit that was carried has entered, and the module's own that waited enter
(R497 step 6). -/
def carryEnd (d m : Nat) (s : Block) : Block :=
  let late := (getEnd s d m).late
  let s := dlEvent d Ev.dlCarryEnd 0 (modEnd d m (fun e => { e with inCount := 0, resumeAt := none, late := [] }) s)
  let r := late.foldl (fun (x : Block × Bool) u => if x.2 then takeUnit d m u x.1 else x) (s, true)
  if r.2 then r.1 else enterRetrain m r.1

/-- The module of index k on the edge of m. -/
def sibling (m k : Nat) : Nat := (siblings m).getD k m

/-- A unit that arrives on an end: a carried one belongs to its sibling; the module's own wait for COUNT carried ones (R497). -/
def arriveUnit (d m : Nat) (u : List Nat) (s : Block) : Block × Bool :=
  let c := u.headD 0
  if c / 64 % 2 == 1 then
    let a := sibling m (c / 16 % 4)
    let r := takeUnit d a u s
    let e := getEnd r.1 d a
    let n := (e.inCount + 1) % 2 ^ 32
    let s := setEnd d a { e with inCount := n } r.1
    (if e.resumeAt == some n then carryEnd d a s else s, r.2)
  else if (getEnd s d m).resumeAt.isSome then (modEnd d m (fun e => { e with late := e.late ++ [u] }) s, true)
  else takeUnit d m u s

/-! ### Going DOWN (R489, R499, R503, R504, R24) -/

/-- Every module of a site is DOWN: its port is isolated as a dead target unless R671 says otherwise, the site's run lock is
released (R630), its interrupt targets' sources are completed (R549), and with H0 gone WAKE_PENDING clears on every host vector (R528). -/
def siteDown (n : Nat) (s : Block) : Block :=
  let s := eicSiteGone n (releaseRun n s)
  let s := if n == 0 then
      forEach ((spKeys s.regs).filter (fun a => decide (Rg.vec 0 ≤ a) && decide (a < Rg.vec 0 + 8 * 4096)))
        (fun a s => s.putB a Rg.vWakePending false) s
    else s
  let p := 0x500 + 0x100 * n
  if s.start.sitePresent.getLsbD n && !s.start.siteWindow.getLsbD n && portState s p != 3 then isolatePort p true s else s

/-- The receiving die of an edge must change its clock source at the next marker (R482). -/
def clockMove (m : Nat) (s : Block) : Block :=
  match clockDie (edgeOf m) with
  | some d =>
    if s.flag (Rg.dl d m) Rg.mClockSrc then
      { s with dl := { s.dl with clkMove := s.dl.clkMove.filter (· != edgeOf m) ++ [edgeOf m] } }
    else s
  | none => s

/-- DIE_READY is 0 of every die that HD does not reach (R504). -/
def readyReached (s : Block) : Block := forEach (upto 4) (fun d s => when (dieAway s d) (fun s => s.putB Rg.rst (Rg.dieReady d) false) s) s

/-- Every module of an edge is DOWN (R504): DL_EDGE_LOST; a die that cannot be reached is reported in DIE_READY, and its targets answer as in
a fabric die reset.  DEDUCED: the sets of R465 avoid an edge by giving up the die that HD reaches across it (R464). -/
def edgeLost (m : Nat) (s : Block) : Block :=
  let e := edgeOf m
  if (siblings m).all (fun b => moduleState s b == 0) && !s.dl.edgeDown.contains e then
    let s := { s with dl := { s.dl with edgeDown := s.dl.edgeDown ++ [e] } }
    let s := dlEvent ((linkEnds m).headD 4) Ev.dlEdgeLost 0 s
    match linkSite m with
    | some n => if (siteModules n).all (fun b => moduleState s b == 0) then siteDown n s else s
    | none => readyReached s
  else s

/-- A module goes DOWN at every end; traffic still held moves to a carrier. -/
def moduleDown (m : Nat) (event : Bool) (s : Block) : Block :=
  let s := forEach (linkEnds m) (fun d s =>
    let was := linkUp s d m
    let s := (s.put (Rg.dl d m) Rg.mState 0).put (Rg.dl d m) Rg.mWidth 0
    let s := s.putB (Rg.dl d m) Rg.mSteering false
    let s := when was (startCarry d m) s
    when event (dlEvent d Ev.dlModuleDown 0) s) s
  edgeLost m (clockMove m s)

/-! ### Commands (R489, R506) -/

def stLastPath : Nat := 0x0800
def stNoCommon : Nat := 0x0801
def stNoSpareWire : Nat := 0x0802

def dlNeed (op : Nat) (expert : Bool := false) : Need := { op := op, ports := workPorts, stage := 2, expert := expert }

/-- A command on a module with an end on a die in reset is refused (R556). -/
def onLink (m : Nat) (f : Cmd → Block → Block) (c : Cmd) (s : Block) : Block :=
  if (linkEnds m).any (fun d => s.start.dieHeld.getLsbD d) then s.respond c St.refusedState else f c s

/-- DL_STATUS: DL_MOD_STATUS of each end in the device. -/
def dlStatusCmd (m : Nat) (c : Cmd) (s : Block) : Block :=
  if 34 ≤ m then s.respond c St.badArg
  else s.respond c St.ok ((linkEnds m).map (fun d => (8, (s.reg (Rg.dl d m)).toNat)))

def execDlStatus (h : Hdr) (module : Nat) (s : State) : Host.Outcome State Fault Refusal :=
  live (fun s => s.command h (dlNeed 0x0800) (onLink module (dlStatusCmd module))) s

/-- DL_RETRAIN: an ACTIVE or DEGRADED module retrains; the response follows its end. One that retrains already answers BUSY (R54). -/
def dlRetrainCmd (m : Nat) (c : Cmd) (s : Block) : Block :=
  if 34 ≤ m then s.respond c St.badArg
  else if moduleState s m == 6 then s.respond c St.busy
  else if moduleState s m == 4 || moduleState s m == 5 then (enterRetrain m s).hold c 0x0801 m
  else s.respond c St.refusedState

def execDlRetrain (h : Hdr) (module : Nat) (s : State) : Host.Outcome State Fault Refusal :=
  live (fun s => s.command h (dlNeed 0x0801) (onLink module (dlRetrainCmd module))) s

/-- No table set avoids an edge between the device's dies while both are in service (R464, R465). -/
def lastPath (s : Block) (m : Nat) : Bool :=
  decide (m < 24) && (siblings m).all (fun b => b == m || !(moduleState s b == 4 || moduleState s b == 5))

/-- A module is to go DOWN after a re-route. -/
def downAsked (m : Nat) (s : Block) : Block := forEach (linkEnds m) (fun d s => modEnd d m (fun e => { e with downDue := true }) s) s

/-- DL_DOWN: the module goes DOWN when the re-route that spares it is complete (R499). -/
def dlDownCmd (m : Nat) (c : Cmd) (s : Block) : Block :=
  if 34 ≤ m then s.respond c St.badArg
  else
    let st := moduleState s m
    if st != 4 && st != 5 && st != 6 then s.respond c St.refusedState
    else if held s [0x0802] m then s.respond c St.busy
    else if lastPath s m then s.respond c stLastPath
    else (downAsked m s).hold c 0x0802 m

def execDlDown (h : Hdr) (module : Nat) (s : State) : Host.Outcome State Fault Refusal :=
  live (fun s => s.command h (dlNeed 0x0802) (onLink module (dlDownCmd module))) s

/-- The re-route that a DL_DOWN waits for has completed. -/
def dlDownDone (m : Nat) (s : Block) : Block :=
  let s := forEach (linkEnds m) (fun d s => modEnd d m (fun e => { e with downDue := false }) s) s
  (moduleDown m false s).close 0x0802 m St.ok

/-- An end starts discovery: its link starts afresh but for the failed-lane maps and the hold of R488. -/
def endDiscover (d m : Nat) (s : Block) : Block :=
  let e := getEnd s d m
  (setEnd d m { LinkEnd.reset with rxFail := e.rxFail, txFail := e.txFail, heldAt := e.heldAt } s).put (Rg.dl d m) Rg.mState 1

/-- A module starts discovery from DOWN (R489). -/
def discover (m : Nat) (s : Block) : Block :=
  forEach (linkEnds m) (fun d s => if linkState s d m == 0 then endDiscover d m s else s)
    { s with dl := { s.dl with clkLost := s.dl.clkLost.filter (· != m) } }

/-- DL_UP: a DOWN module starts discovery; the response follows its training. -/
def dlUpCmd (m : Nat) (c : Cmd) (s : Block) : Block :=
  if 34 ≤ m then s.respond c St.badArg
  else if moduleState s m == 0 then (discover m s).hold c 0x0803 m
  else s.respond c St.refusedState

def execDlUp (h : Hdr) (module : Nat) (s : State) : Host.Outcome State Fault Refusal :=
  live (fun s => s.command h (dlNeed 0x0803) (onLink module (dlUpCmd module))) s

/-- The width hold of a module ends (R488). -/
def holdEnds (m : Nat) (s : Block) : Block :=
  forEach (linkEnds m) (fun d s =>
    modEnd d m (fun e => { e with heldAt := 0 }) ((s.putB (Rg.dl d m) Rg.mWidthHeld false).put (Rg.dl d m) Rg.mDisagree 0)) s

/-- DL_CLEAR_DEGRADE (R488), an expert command: the width hold ends. -/
def dlClearDegradeCmd (m : Nat) (c : Cmd) (s : Block) : Block :=
  if 34 ≤ m then s.respond c St.badArg
  else if (linkEnds m).any (fun d => s.flag (Rg.dl d m) Rg.mWidthHeld) then
    (holdEnds m s).respond c St.ok
  else s.respond c St.refusedState

def execDlClearDegrade (h : Hdr) (module : Nat) (s : State) : Host.Outcome State Fault Refusal :=
  live (fun s => s.command h (dlNeed 0x0804 true) (onLink module (dlClearDegradeCmd module))) s

/-- The edge and local group of Seam group g of a die (R506; SEAM_GRP_STATUS). -/
def seamOfDie (d g : Nat) : Nat × Nat := if g < 768 then (d / 2, g) else (2 + d % 2, g - 768)

/-- SEAM_STEER: a data wire of a group that is not LOST is steered from step 2 of R127. -/
def seamSteerCmd (d g k : Nat) (c : Cmd) (s : Block) : Block :=
  if 4 ≤ d || 1536 ≤ g || 32 ≤ k then s.respond c St.badArg
  else
    let x := seamOfDie d g
    if s.flag (seamEnd x.1 x.2 0) Rg.sgLost || seamCarried s x.1 x.2 k then s.respond c St.refusedState
    else if (seamIdle? s x.1 x.2).isNone then s.respond c stNoSpareWire
    else (Sys2Proof.Machine.seamSteer x.1 x.2 k 2 none s).hold c 0x0805 (seamObj x.1 x.2 k)

def execSeamSteer (h : Hdr) (die group wire : Nat) (s : State) : Host.Outcome State Fault Refusal :=
  live (fun s => s.command h (dlNeed 0x0805) (onDie die (seamSteerCmd die group wire))) s

/-! ### Discovery and negotiation (R484 to R486) -/

/-- The die class of a fabric die or HD (R21); the low bits are the programme's. -/
def dieClass (d : Nat) : Nat := if d < 4 then 0x00010000 else 0x00020000

/-- CAPS of an end (R485). -/
def endCaps (d m : Nat) : Nat := 0x1B + (if d == 4 && linkSite m == some 0 then 4 else 0)

/-- A discovery record of an end (R484), with failed-lane maps and a trained width. -/
def recordWith (s : Block) (d m : Nat) (rx tx : BitVec 68) (width : Nat) : List Nat :=
  let body := leBytes 4 (dieClass d) ++ leBytes 8 (endCaps d m) ++ [3, 64, 1, linkIndex m] ++ leBytes 9 rx.toNat ++
    leBytes 9 tx.toNat ++ [width, s.f (Rg.dl d m) Rg.mDisagree] ++ List.replicate 8 0
  body ++ leBytes 4 (crc32 body)

/-- The record that an end sends in DISCOVER. -/
def recordOf (s : Block) (d m : Nat) : List Nat :=
  recordWith s d m (getEnd s d m).rxFail (getEnd s d m).txFail (s.f (Rg.dl d m) Rg.mWidth)

/-- DISCOVERY_SEND: an end in DISCOVER sends its record. -/
def discoverySendStep (d m : Nat) (s : Block) : Block :=
  if hasEnd d m && linkState s d m == 1 then s.emit (.discoveryRecord d m (recordOf s d m)) else s

def execDiscoverySend (d : Fin 5) (m : Fin 34) (s : State) : Host.Outcome State Fault Refusal :=
  clocked (discoverySendStep d.val m.val) s

/-- The 48 bytes of a record. -/
def recBytes (r : BitVec 384) : List Nat := leBytes 48 r.toNat

/-- A record's CRC is good (R484). -/
def recGood (r : List Nat) : Bool := fieldAt r 44 4 == crc32 (r.take 44)

/-- A die class is allowed at the far end of a module (R21, R22). -/
def classAllowed (d m cls : Nat) : Bool :=
  match linkSite m with
  | some 0 => cls / 0x10000 == 0x0010
  | some _ => cls / 0x10000 == 0x0020 || cls / 0x10000 == 0x0021
  | none =>
    let far := ((linkEnds m).filter (· != d)).headD 4
    cls / 0x10000 == (if far < 4 then 1 else 2)

/-- Keep the peer's record in DL_PEER_REC and PEER_CLASS. -/
def keepRecord (d m : Nat) (r : List Nat) (s : Block) : Block :=
  let s := forEach (upto 6) (fun i s => s.put (Rg.dl d m) (Rg.mPeerRec i) (fieldAt r (8 * i) 8)) s
  modEnd d m (fun e => { e with caps := BitVec.ofNat 64 (fieldAt r 4 8) }) (s.put (Rg.dl d m) Rg.mPeerClass (fieldAt r 0 4))

/-- A site presents a class that is not allowed: it counts as unpopulated, and its modules stay DOWN (R22). -/
def siteBad (n : Nat) (s : Block) : Block :=
  let s := { s with start := { s.start with sitePresent := s.start.sitePresent &&& ~~~(BitVec.ofNat 3 (2 ^ n)) } }
  let s := forEach (siteModules n) (fun m s => forEach (linkEnds m) (fun d s => s.put (Rg.dl d m) Rg.mState 0) s) s
  s.raise Ev.siteClassBad (originOf (0xA0 + n))

/-- A site's allowed record has been seen (R22): it is populated. -/
def siteSeen (n : Nat) (s : Block) : Block :=
  let s := { s with start := { s.start with sitePresent := s.start.sitePresent ||| BitVec.ofNat 3 (2 ^ n) } }
  when (n == 0) (fun s => s.putB Rg.rst Rg.h0Present true) s

/-- A good record is taken (R486): version and rate are fixed and the module trains; without a common version or with a class that
is not allowed it goes DOWN. -/
def recordTaken (d m : Nat) (r : List Nat) (s : Block) : Block :=
  let s := keepRecord d m r s
  let ok := classAllowed d m (fieldAt r 0 4)
  let v := Nat.land (fieldAt r 12 1) 3
  let s := match linkSite m with
    | some n => if ok then siteSeen n s else siteBad n s
    | none => s
  if !ok || v == 0 then
    let s := moduleDown m false (dlEvent d Ev.dlNoCommon 0 s)
    s.close 0x0803 m stNoCommon
  else
    let v2 := decide (2 ≤ v)
    let fast := v2 && fieldAt r 14 1 == 1
    ((s.putB (Rg.dl d m) Rg.mVersion v2).putB (Rg.dl d m) Rg.mRate fast).put (Rg.dl d m) Rg.mState 3

/-- DISCOVERY_RECORD: a record whose CRC fails is discarded. -/
def discoveryRecordStep (d m : Nat) (r : List Nat) (s : Block) : Block :=
  if !hasEnd d m || linkState s d m != 1 || !recGood r then s else recordTaken d m r s

def execDiscoveryRecord (d : Fin 5) (m : Fin 34) (record : BitVec 384) (s : State) : Host.Outcome State Fault Refusal :=
  clocked (discoveryRecordStep d.val m.val (recBytes record)) s

/-- The interval of R671 after a site reset has ended. -/
def siteWindowEnd (n : Nat) (s : Block) : Block :=
  { s with start := { s.start with siteWindow := s.start.siteWindow &&& ~~~(BitVec.ofNat 3 (2 ^ n)) } }

/-- No record came: the module goes DOWN, and the site with its last module. -/
def discoverEnds (m : Nat) (s : Block) : Block :=
  let s := (moduleDown m false s).close 0x0803 m St.timeout
  match linkSite m with
  | some n =>
    if (siteModules n).all (fun b => moduleState s b == 0) then siteDown n (siteWindowEnd n s) else s
  | none => s

/-- DISCOVER_TIMEOUT (R489): 100 ms without a record. After a site reset it ends the interval of R671. -/
def discoverTimeoutStep (d m : Nat) (s : Block) : Block :=
  if !hasEnd d m || linkState s d m != 1 then s else discoverEnds m s

def execDiscoverTimeout (d : Fin 5) (m : Fin 34) (s : State) : Host.Outcome State Fault Refusal :=
  clocked (discoverTimeoutStep d.val m.val) s

/-! ### The parameter exchange (R487, R488, R494, R501 to R503) -/

/-- The failed data lanes of a map among those given, and its good spares. -/
def failedIn (f : BitVec 68) (lo n : Nat) : List Nat := ((upto n).map (· + lo)).filter (fun l => f.getLsbD l)
def goodSpares (f : BitVec 68) : List Nat := (upto 4).filter (fun k => !f.getLsbD (64 + k))

/-- Lanes lo to lo + n - 1 can be kept whole with the spares of the direction. -/
def keepsWhole (f : BitVec 68) (lo n : Nat) : Bool := decide ((failedIn f lo n).length ≤ (goodSpares f).length)

/-- The width of two union maps (R503): 3 x64, 1 x32 on lanes 0 to 31, 2 x32 on lanes 32 to 63, 0 none. -/
def widthOf (rx tx : BitVec 68) : Nat :=
  if keepsWhole rx 0 64 && keepsWhole tx 0 64 then 3
  else if keepsWhole rx 0 32 && keepsWhole tx 0 32 then 1
  else if keepsWhole rx 32 32 && keepsWhole tx 32 32 then 2
  else 0

/-- The narrower of two trained widths (R487), none being the narrowest: a common half, the lower one when both qualify. -/
def narrower (rx tx : BitVec 68) (a b : Nat) : Nat :=
  if a == b then a
  else if a == 0 || b == 0 then 0
  else if a == 3 then b
  else if b == 3 then a
  else if keepsWhole rx 0 32 && keepsWhole tx 0 32 then 1
  else if keepsWhole rx 32 32 && keepsWhole tx 32 32 then 2
  else 0

/-- The lanes a width uses: first and number. -/
def widthLanes (w : Nat) : Nat × Nat := if w == 3 then (0, 64) else if w == 2 then (32, 32) else (0, 32)

/-- Spares of the receive direction replace the failed lanes of the width in use. -/
def setSpares (d m w : Nat) (rx : BitVec 68) (s : Block) : Block :=
  let l := failedIn rx (widthLanes w).1 (widthLanes w).2
  let g := goodSpares rx
  let s := forEach (upto 4) (fun k s => s.put (Rg.dl d m) (Rg.mSpareFor k)
    (match (g.zip l).find? (fun p => p.1 == k) with
     | some p => p.2
     | none => 0x7F)) s
  (s.put (Rg.dl d m) Rg.mSparesUsed l.length).put (Rg.dl d m) Rg.mRxFail (rx.toNat % 2 ^ 64)

/-- Traffic starts or resumes on an end: credits at the first ACTIVE after DISCOVER (R494), RESUME after a carry-over, and
otherwise a replay of what is held. -/
def linkResume (d m : Nat) (s : Block) : Block :=
  let e := getEnd s d m
  let s := if e.started then s
    else setEnd d m { e with started := true, credit := [(0, 128), (1, 256), (2, 256), (3, 32)] } s
  match (getEnd s d m).carrier with
  | some (_, true) =>
    let n := (getEnd s d m).outCount
    let s := modEnd d m (fun e => { e with carrier := none, outCount := 0 }) s
    carrierFlags d m (sendCtl d m (ctlUnit 3 (linkIndex m) 0 0 n) (s.putB (Rg.dl d m) Rg.mCarrying false))
  | c =>
    let s := modEnd d m (fun e => { e with carrier := none }) (s.putB (Rg.dl d m) Rg.mCarrying false)
    let s := if c.isSome then carrierFlags d m s else s
    let s := (unacked (getEnd s d m)).foldl (fun s x => sendFlit d m x.1 0 x.2 s) s
    sendWaiting d m s

/-- A module to a site is up again: its window answers, and the site's port opens unless its domain is off (R671). -/
def siteUp (n : Nat) (s : Block) : Block :=
  let s := siteWindowEnd n s
  let p := 0x500 + 0x100 * n
  if s.net.domOff.contains (72 + n) || s.net.domDrain.contains (72 + n) || portState s p == 3 then s else setPort p 0 s

/-- DIE_READY of a die (R39, R504): it is out of reset, and a module is up on each of its edges to a die that is not in reset. -/
def dieReadyCheck (d : Nat) (s : Block) : Block :=
  let edges := (((upto 24).filter (hasEnd d)).map edgeOf).eraseDups
  let ok := !dieAway s d && edges.all (fun e =>
    let ms := (upto 24).filter (fun m => edgeOf m == e)
    ms.any (fun m => (linkEnds m).all (fun x => linkUp s x m)) ||
      ms.any (fun m => (linkEnds m).any (fun x => x != d && dieOff s x)))
  when ok (fun s => s.putB Rg.rst (Rg.dieReady d) true) s

/-- The width that an end's training reaches with some maps, no wider than the one it is held at (R487, R488). -/
def trainedWidth (e : LinkEnd) (rx tx : BitVec 68) : Nat :=
  if e.heldAt != 0 then narrower rx tx (widthOf rx tx) e.heldAt else widthOf rx tx

/-- The failed lanes of an end's receiver after training: those it knew, those found, and one below its margin (R487, R501). -/
def trainedMap (e : LinkEnd) (found : BitVec 68) : BitVec 68 :=
  e.rxFail ||| found ||| (match e.low with
    | some l => BitVec.ofNat 68 (2 ^ l)
    | none => 0)

/-- An end sends its parameters and takes the peer's (R484, R487, R488, R501 to R503): the width, the spares, and ACTIVE, DEGRADED or
DOWN. -/
def paramsTaken (d m : Nat) (r : List Nat) (found : BitVec 68) (s : Block) : Block :=
  let st := linkState s d m
  let b := Rg.dl d m
  let e := getEnd s d m
  let mine := trainedWidth e (trainedMap e found) e.txFail
  let s := s.emit (.discoveryRecord d m (recordWith s d m (trainedMap e found) e.txFail mine))
  let rx := trainedMap e found ||| BitVec.ofNat 68 (fieldAt r 25 9)
  let tx := e.txFail ||| BitVec.ofNat 68 (fieldAt r 16 9)
  let fresh := (failedIn rx 0 64).any (fun l => !e.rxFail.getLsbD l)
  let peer := fieldAt r 34 1
  let dis := if peer != mine then Nat.min 3 (s.f b Rg.mDisagree + 1) else 0
  let w := narrower rx tx (trainedWidth e rx tx) peer
  let s := setEnd d m { e with rxFail := rx, txFail := tx, low := none } (keepRecord d m r s)
  let s := s.put b Rg.mDisagree dis
  let s := if dis == 3 && e.heldAt == 0 then
      dlEvent d Ev.dlWidthDisagree 0 ((modEnd d m (fun e => { e with heldAt := w }) s).putB b Rg.mWidthHeld true)
    else s
  let steering := s.flag b Rg.mSteering
  let s := s.putB b Rg.mSteering false
  if w == 0 then ((moduleDown m true s).close 0x0803 m St.refusedState).close 0x0801 m St.refusedState
  else
    let new := if w == 3 then 4 else 5
    let s := setSpares d m w rx ((s.put b Rg.mState new).put b Rg.mWidth w)
    let s := when (new == 5) (dlEvent d Ev.dlModuleHalved 0) s
    let s := when (st == 6 && fresh) (dlEvent d Ev.dlLaneSteered (if steering then 0 else 1)) s
    let s := waitersAsk d m (linkResume d m s)
    let s := { s with dl := { s.dl with edgeDown := s.dl.edgeDown.filter (· != edgeOf m) } }
    let s := match linkSite m with
      | some n => siteUp n s
      | none => forEach (upto 4) dieReadyCheck s
    if (linkEnds m).all (fun x => linkUp s x m) then (s.close 0x0803 m St.ok).close 0x0801 m St.ok else s

/-- PARAMETER_EXCHANGE_DONE: of an end that trains or retrains. -/
def parameterExchangeDoneStep (d m : Nat) (r : List Nat) (found : BitVec 68) (s : Block) : Block :=
  if !hasEnd d m || (linkState s d m != 3 && linkState s d m != 6) || !recGood r then s else paramsTaken d m r found s

def execParameterExchangeDone (d : Fin 5) (m : Fin 34) (record : BitVec 384) (found : BitVec 68) (s : State) :
    Host.Outcome State Fault Refusal := clockedOn (d.val) (parameterExchangeDoneStep d.val m.val (recBytes record) found) s

/-- RETRAIN_TIMEOUT (R489): the module goes DOWN. -/
def retrainTimeoutStep (d m : Nat) (s : Block) : Block :=
  if hasEnd d m && linkState s d m == 6 then (moduleDown m true s).close 0x0801 m St.timeout else s

def execRetrainTimeout (d : Fin 5) (m : Fin 34) (s : State) : Host.Outcome State Fault Refusal :=
  clocked (retrainTimeoutStep d.val m.val) s

/-- DL_TRAIN_TIMEOUT (R489): 5 ms in TRAIN; the module goes DOWN. -/
def dlTrainTimeoutStep (d m : Nat) (s : Block) : Block :=
  if hasEnd d m && linkState s d m == 3 then (moduleDown m true s).close 0x0803 m St.timeout else s

def execDlTrainTimeout (d : Fin 5) (m : Fin 34) (s : State) : Host.Outcome State Fault Refusal :=
  clocked (dlTrainTimeoutStep d.val m.val) s

/-- DL_RX_LOCK_LOSS (R493): both ends enter RETRAIN. -/
def dlRxLockLossStep (d m : Nat) (s : Block) : Block := if hasEnd d m && linkUp s d m then enterRetrain m s else s

def execDlRxLockLoss (d : Fin 5) (m : Fin 34) (s : State) : Host.Outcome State Fault Refusal :=
  clockedOn (d.val) (dlRxLockLossStep d.val m.val) s

/-! ### Flits and replay (R493, R494) -/

/-- Sequences up to and with a are acknowledged: the last of them stays for CARRY_ACK. -/
def ackHeld (a : Nat) (e : LinkEnd) : LinkEnd :=
  if (unacked e).any (fun x => x.1 == a) then { e with held := e.held.dropWhile (fun x => x.1 != a), headAck := true } else e

/-- Credits returned by the CREDIT counts of a flit. -/
def addCredits (x : Nat) (e : LinkEnd) : LinkEnd :=
  (upto 4).foldl (fun e v =>
    let c := fldGet x (12 * v) 12
    let diff := (c + 4096 - spGet (fun _ => 0) e.seen v) % 4096
    { e with seen := spSet (fun _ => 0) e.seen v c,
             credit := spSet (fun _ => 0) e.credit v (spGet (fun _ => 0) e.credit v + diff) }) e

/-- Take the payload of an accepted flit: whole units enter, a malformed one puts the module into RETRAIN (R491). -/
def takePayload (d m seq : Nat) (pay : List Nat) (s : Block) : Block :=
  let e := getEnd s d m
  let l := e.part ++ pay
  let u := splitUnits (l.length + 1) l
  let done := u.1.foldl (fun n x => n + x.length) 0
  let start := if u.2.1.isEmpty then ((seq + 1) % 0x10000, 0)
    else if done < e.part.length then e.unitAt else (seq, done - e.part.length)
  let s := setEnd d m { e with part := u.2.1, unitAt := start } s
  let r := u.1.foldl (fun (x : Block × Bool) y => if x.2 then arriveUnit d m y x.1 else x) (s, u.2.2)
  if r.2 then r.1 else enterRetrain m r.1

/-- One NAK until the SEQ that is expected arrives (R493). -/
def sendNak (d m : Nat) (s : Block) : Block :=
  if (getEnd s d m).nak then s else sendIdle d m true (modEnd d m (fun e => { e with nak := true }) s)

/-- The bytes of a flit at an end, and whether their CRC is good. -/
def flitOf (v2 : Bool) (flit : Nat) : List Nat := leBytes (if v2 then 256 else 128) flit
def flitGood (bs : List Nat) : Bool := fieldAt bs (bs.length - 4) 4 == crc32 (bs.take (bs.length - 4))

/-- A good flit with the SEQ expected is accepted and acknowledged; its ACK_SEQ and CREDIT counts are taken in any case (R493, R494). -/
def flitAccepted (d m : Nat) (bs : List Nat) (s : Block) : Block :=
  let flags := fieldAt bs 4 1
  let ack := fieldAt bs 2 2
  let a := if flags % 2 == 1 then (ack + 0xFFFF) % 0x10000 else ack
  let s := modEnd d m (fun e => addCredits (fieldAt bs 6 6) (ackHeld a e)) s
  let e := getEnd s d m
  let seq := fieldAt bs 0 2
  let s := if seq != e.rxSeq then sendNak d m s
    else if flags / 2 % 2 == 1 then s
    else
      let s := setEnd d m { e with rxSeq := (seq + 1) % 0x10000, nak := false } s
      sendIdle d m false (takePayload d m seq ((bs.drop 12).take (payLen (linkV2 s d m))) s)
  sendWaiting d m s

/-- FREGAL_FLIT_RECEIVE (R493): a bad CRC is counted, and answered with a NAK. -/
def fregalFlitReceiveStep (d m : Nat) (flit : Nat) (s : Block) : Block :=
  if !hasEnd d m || !linkUp s d m then s
  else if flitGood (flitOf (linkV2 s d m) flit) then flitAccepted d m (flitOf (linkV2 s d m) flit) s
  else sendNak d m (s.bump (Rg.dl d m + Rg.mCrcErr))

def execFregalFlitReceive (d : Fin 5) (m : Fin 34) (flit : BitVec 2048) (s : State) : Host.Outcome State Fault Refusal :=
  clockedOn (d.val) (fregalFlitReceiveStep d.val m.val flit.toNat) s

/-- A replay from a held flit on; after four in a row from one SEQ the module retrains (R493). -/
def replay (d m seq : Nat) (s : Block) : Block :=
  let e := getEnd s d m
  let n := if e.replays.1 == seq then e.replays.2 else 0
  if 4 ≤ n then enterRetrain m s
  else
    let s := (setEnd d m { e with replays := (seq, n + 1) } s).bump (Rg.dl d m + Rg.mReplay)
    ((unacked e).dropWhile (fun x => x.1 != seq)).foldl (fun s x => sendFlit d m x.1 0 x.2 s) s

/-- FREGAL_NAK: the sender resends from the SEQ expected; what comes before it is acknowledged. -/
def fregalNakStep (d m seq : Nat) (s : Block) : Block :=
  if !hasEnd d m || !linkUp s d m then s
  else if (unacked (ackHeld ((seq + 0xFFFF) % 0x10000) (getEnd s d m))).any (fun x => x.1 == seq) then
    replay d m seq (modEnd d m (ackHeld ((seq + 0xFFFF) % 0x10000)) s)
  else modEnd d m (ackHeld ((seq + 0xFFFF) % 0x10000)) s

def execFregalNak (d : Fin 5) (m : Fin 34) (seq : BitVec 16) (s : State) : Host.Outcome State Fault Refusal :=
  clockedOn (d.val) (fregalNakStep d.val m.val seq.toNat) s

/-- REPLAY_TIMEOUT: nothing acknowledged for 1 µs while flits are held. -/
def replayTimeoutStep (d m : Nat) (s : Block) : Block :=
  if !hasEnd d m || !linkUp s d m then s
  else
    match (unacked (getEnd s d m)).head? with
    | some x => replay d m x.1 s
    | none => s

def execReplayTimeout (d : Fin 5) (m : Fin 34) (s : State) : Host.Outcome State Fault Refusal :=
  clockedOn (d.val) (replayTimeoutStep d.val m.val) s

/-! ### Carry-over units (R497) -/

/-- What a module had begun to receive is dropped, and the carrier told the first unit that was not accepted. -/
def carryGranted (d m k : Nat) (s : Block) : Block :=
  let a := sibling m k
  let e := getEnd s d a
  sendCtl d m (ctlUnit 2 k e.unitAt.1 e.unitAt.2 0) (setEnd d a { e with part := [], inCount := 0, resumeAt := none } s)

/-- CARRY_REQ on carrier m for its sibling of index k: the answer names the first unit not accepted on that module. -/
def carryReqStep (d m k : Nat) (s : Block) : Block :=
  if !hasEnd d m || !linkUp s d m || sibling m k == m || (siblings m).length ≤ k then s else carryGranted d m k s

def execCarryReq (d : Fin 5) (m : Fin 34) (k : Fin 4) (s : State) : Host.Outcome State Fault Refusal :=
  clockedOn (d.val) (carryReqStep d.val m.val k.val) s

/-- The units of held flits from an offset in the first on. -/
def heldUnits : List (List Nat) → List Nat → List (List Nat)
  | [], _ => []
  | p :: ps, part =>
    let l := part ++ p
    let u := splitUnits (l.length + 1) l
    u.1 ++ heldUnits ps u.2.1

/-- From the unit named on, held and waiting units of a module go on its carrier m. -/
def carriedOver (d m k seq off : Nat) (s : Block) : Block :=
  let a := sibling m k
  let e := getEnd s d a
  let from' := e.held.dropWhile (fun x => x.1 != seq)
  let pays := match from' with
    | [] => (unacked e).map (·.2)
    | x :: xs => x.2.drop off :: xs.map (·.2)
  let held := (heldUnits pays []).filter (fun u => u.headD 0 % 8 != 4)
  let tx := match (unacked e).head? with
    | some x => x.1
    | none => e.txSeq
  let s := setEnd d a { e with carrier := some (m, true), held := [], headAck := false, txSeq := tx,
                               outCount := ownUnits held % 2 ^ 32 } s
  sendWaiting d a (modEnd d m (fun x => { x with queue := x.queue ++ held.map (fun u => carryPkt k [u]) }) s)

/-- CARRY_ACK: of a carrier that was asked. -/
def carryAckStep (d m k seq off : Nat) (s : Block) : Block :=
  if !hasEnd d m || (getEnd s d (sibling m k)).carrier != some (m, false) then s else carriedOver d m k seq off s

def execCarryAck (d : Fin 5) (m : Fin 34) (k : Fin 4) (seq offset : BitVec 16) (s : State) :
    Host.Outcome State Fault Refusal := clockedOn (d.val) (carryAckStep d.val m.val k.val seq.toNat offset.toNat) s

/-- CARRY_RESUME on module m: its own units enter after COUNT carried ones. -/
def carryResumeStep (d m count : Nat) (s : Block) : Block :=
  if !hasEnd d m || !linkUp s d m then s
  else if (getEnd s d m).inCount == count then carryEnd d m s
  else modEnd d m (fun e => { e with resumeAt := some count }) s

def execCarryResume (d : Fin 5) (m : Fin 34) (count : BitVec 32) (s : State) : Host.Outcome State Fault Refusal :=
  clockedOn (d.val) (carryResumeStep d.val m.val count.toNat) s

/-! ### Lane margin and forwarded clocks (R482, R501) -/

/-- DL_LANE_MARGIN: with AUTO_STEER the module retrains with the lane replaced; without, an event only. -/
def dlLaneMarginStep (d m l : Nat) (s : Block) : Block :=
  if !hasEnd d m || !linkUp s d m || (getEnd s d m).rxFail.getLsbD l then s
  else if s.flag (Rg.dl d m) Rg.mAutoSteer then
    enterRetrain m (modEnd d m (fun e => { e with low := some l }) (s.putB (Rg.dl d m) Rg.mSteering true))
  else dlEvent d Ev.dlLaneSteered 0 s

def execDlLaneMargin (d : Fin 5) (m : Fin 34) (lane : Fin 64) (s : State) : Host.Outcome State Fault Refusal :=
  clockedOn (d.val) (dlLaneMarginStep d.val m.val lane.val) s

/-- A module's forwarded clock is lost. -/
def clockLost (m : Nat) (s : Block) : Block := { s with dl := { s.dl with clkLost := s.dl.clkLost.filter (· != m) ++ [m] } }

/-- A die has lost its forwarded clock: its derived clocks are gated until an alignment marker after the clock is back, and every module of
it that is not DOWN goes DOWN (R79, R482). -/
def dieDown (d : Nat) (s : Block) : Block :=
  let s : Block := { s with start := { s.start with unaligned := s.start.unaligned ||| BitVec.ofNat 4 (2 ^ d) } }
  readyReached (forEach ((upto 34).filter (fun b => hasEnd d b && moduleState s b != 0)) (fun b s => moduleDown b true s) s)

/-- The die that forwards the clock of an edge (R77): HD is 4. -/
def clockFrom (e : Nat) : Nat := if e == 0 then 0 else if e == 1 then 2 else 4

/-- Die d receives its forwarded clock: the die it comes from has its own, and a module of the edge trains or has trained and has not lost
the clock (R77, R79, R482). -/
def clockPresent (s : Block) (d : Nat) : Bool :=
  (upto 24).any (fun m => clockDie (edgeOf m) == some d && !dieOff s (clockFrom (edgeOf m)) && decide (3 ≤ linkState s d m) &&
    !s.dl.clkLost.contains m)

/-- DL_CLOCK_LOSS: the clock of module m is lost at the die that takes its edge's clock. When no module of the edge has a
clock left, the die's derived clocks are gated and its modules go DOWN; otherwise a selected module is left at the next
marker. -/
def dlClockLossStep (d m : Nat) (s : Block) : Block :=
  if clockDie (edgeOf m) != some d then s
  else if (siblings m).all (fun b => (clockLost m s).dl.clkLost.contains b) then dieDown d (clockLost m s)
  else clockMove m (clockLost m s)

def execDlClockLoss (d : Fin 5) (m : Fin 34) (s : State) : Host.Outcome State Fault Refusal :=
  clocked (dlClockLossStep d.val m.val) s

/-- At an alignment marker, dies whose clock source was lost take the next sibling's (R482). -/
def clockMarker (s : Block) : Block :=
  s.dl.clkMove.foldl (fun s e =>
    match clockDie e, (upto 24).find? (fun m => edgeOf m == e) with
    | some d, some m0 =>
      let l := siblings m0
      match l.find? (fun m => s.flag (Rg.dl d m) Rg.mClockSrc) with
      | some m =>
        let k := linkIndex m
        let order := l.drop (k + 1) ++ l.take k
        match order.find? (fun b => !s.dl.clkLost.contains b && linkState s d b != 0) with
        | some b => dlEvent d Ev.dlClockSwitch 0 ((s.putB (Rg.dl d m) Rg.mClockSrc false).putB (Rg.dl d b) Rg.mClockSrc true)
        | none => s
      | none => s
    | _, _ => s) { s with dl := { s.dl with clkMove := [] } }

end Sys2Proof.Machine
end

