-- ==== Sys2Proof/Machine/Noc.lean ====
section
/-! DEFINITION. The network on chip (15): initiator bridges, routers, access points, fences, re-routing, target ports and power
domains, and the commands of the subsystem. -/

namespace Sys2Proof.Machine

/-! ### Places (R445 to R448) -/

/-- A port ID's access point, as die and number. -/
def apOf (p : Nat) : Option (Nat × Nat) := if p / 256 < 4 && p % 256 < 0x60 then some (p / 256, p % 256) else none

/-- The sector of an access point is LIVE. -/
def apLive (s : Block) (d k : Nat) : Bool := s.f (Rg.sector (apSector d k)) Rg.secState == 3

/-- The router that a port ID's endpoint attaches to (R446, R447), as an index of R462. -/
def routerOf (p : Nat) : Nat :=
  let d := p / 256
  let q := p % 256
  let at6 (x y : Nat) : Nat := 24 * d + 6 * y + x
  if 5 ≤ d then 95 + d
  else if d == 4 then (if q == 0x00 || q == 0x04 || q == 0x05 then 96 else 98)
  else if q < 0x60 then at6 (if apColumn q == 0 then 0 else if apColumn q == 9 then 5 else (apColumn q + 1) / 2) (apRow q / 2)
  else if q < 0x63 then at6 0 (q - 0x60)
  else if q < 0x68 then at6 5 (q - 0x63)
  else if q == 0x68 || q == 0x73 then at6 0 3
  else if q == 0x69 || q == 0x77 then at6 5 3
  else if q == 0x6C then at6 2 1
  else if 0x70 ≤ q && q < 0x73 then at6 0 (q - 0x70)
  else if 0x74 ≤ q && q < 0x77 then at6 5 (q - 0x74)
  else at6 3 1

/-- Port IDs that are targets (R448). -/
def isTarget (s : Block) (p : Nat) : Bool :=
  let d := p / 256
  let q := p % 256
  if d < 4 then
    q < 0x60 || q == 0x68 || q == 0x69 || (0x80 ≤ q && q < 0xA0 && winAssigned (0x20 + 0x20 * d + (q - 0x80)))
  else if d == 4 then
    q == 0x02 || (0x80 ≤ q && q < 0xA0 && winAssigned (q - 0x80)) || (0xC0 ≤ q && q < 0xC3)
  else isSitePort p && s.start.sitePresent.getLsbD (d - 5)

/-- Port IDs that are initiators. -/
def isInitiator (p : Nat) : Bool :=
  let d := p / 256
  let q := p % 256
  if d < 4 then q < 0x66 || q == 0x6C || (0x70 ≤ q && q < 0x78)
  else if d == 4 then q == 0 || q == 1 || q == 3 || q == 4 || q == 5
  else d < 8 && q != 0

/-- The target port of a block window (R448). -/
def winPort (w : Nat) : Nat :=
  if w < 0x20 then 0x480 + w else if w < 0xA0 then 256 * ((w - 0x20) / 0x20) + 0x80 + (w - 0x20) % 0x20 else 0x4C0 + (w - 0xA0)

/-- The network runs and a port answers: the status that a target port in its state gives (R452, R469), 0 where it passes. -/
def targetStatus (s : Block) (p : Nat) : Nat :=
  match apOf p with
  | some (d, k) => if apHeld s d k then 4 else targetPortStatus s p
  | none =>
    if isSitePort p then
      siteStatus s (p / 256 - 5)
    else targetPortStatus s p

/-! ### Initiator bridges (R449, R451, R453, R459 to R461) -/

/-- What a bridge makes of part of a request: the status it answers itself, or the target port, and whether the target is memory or
a design (0), a block window (1) or a doorbell slot (2). -/
structure SegTo where
  status : Nat
  dst    : Nat
  what   : Nat
deriving DecidableEq, Repr

/-- Kinds of a request: 0 RD, 1 WR_NP, 2 WR_P, 3 AOR, 4 MSG. -/
def kindPosted (kind : Nat) : Bool := kind == 2 || kind == 4
def kindWrites (kind : Nat) : Bool := kind != 0

/-- Where the bridge of an initiator sends the part of a request at address a; total is the length of the request. -/
def segTo (s : Block) (src kind a total : Nat) : SegTo :=
  let bad : SegTo := { status := 1, dst := 0, what := 0 }
  match destOf s a with
  | .hole => bad
  | .dram n _ => { status := 0, dst := dcPortId n, what := 0 }
  | .ap d k _ =>
    if kind == 3 || !apUsed s d k then bad else { status := 0, dst := 256 * d + k, what := 0 }
  | .site n _ =>
    if kind == 3 || (n != 0 && !s.start.sitePresent.getLsbD n) then bad else { status := 0, dst := 0x500 + 256 * n, what := 0 }
  | .doorbell _ => if kind == 3 then bad else { status := 0, dst := 0x402, what := 2 }
  | .control off =>
    if kind == 3 then bad else { status := ctlStatus s src off total (kindWrites kind), dst := winPort (winOf off), what := 1 }

/-- The depth in flits of a VC (R456). -/
def vcDepth (s : Block) (vc : Nat) : Nat := 2 ^ fldGet (s.reg (Rg.noc 4 + 0xF00000)).toNat (3 * vc) 3

/-- The virtual channel of a kind (R451). -/
def vcOf (kind : Nat) : Nat := if kindPosted kind then 1 else 0

/-- The most flits of one part (R459): the depth of the request's VC, or of VC_2 for a read; the advertised burst of a write's target. -/
def burstLimit (s : Block) (kind dst : Nat) : Nat :=
  if kind == 0 then vcDepth s 2
  else Nat.min (vcDepth s (vcOf kind)) (if dst / 256 < 5 then 2 ^ s.f (tportAt dst) Rg.tpBurst else 32)

/-- A part of a request: where it goes, its address, bytes and lines. -/
structure NetSeg where
  hit    : SegTo
  lo    : Nat
  bytes : Nat
  lines : Nat
deriving DecidableEq, Repr

/-- Two pieces of a request travel in one part (R459). -/
def segJoins (s : Block) (kind : Nat) (x y : NetSeg) : Bool :=
  x.hit == y.hit && x.hit.what == 0 && decide (x.lines < burstLimit s kind x.hit.dst) &&
    (kind == 0 || x.hit.status != 0 || (x.bytes == 64 * x.lines && y.bytes == 64))

/-- The parts of a request (R459). -/
def netSegs (s : Block) (src kind addr total : Nat) : List NetSeg :=
  (spanLines addr total).foldl (fun l la =>
    let lo := Nat.max la addr
    let hi := Nat.min (la + 64) (addr + total)
    let y : NetSeg := { hit := segTo s src kind lo total, lo := lo, bytes := hi - lo, lines := 1 }
    match l.getLast? with
    | some x => if segJoins s kind x y then l.dropLast ++ [{ x with bytes := x.bytes + y.bytes, lines := x.lines + 1 }] else l ++ [y]
    | none => [y]) []

/-- The lowest tags that an initiator has free, as many as n (R461). -/
def freeTags (s : Block) (src n : Nat) : List Nat :=
  ((upto 4096).filter (fun t => !s.net.parts.any (fun p => p.src == src && p.tag == t))).take n

/-- An error or a result for a part without the network: a read delivers its data, or zeros with POISON (R460). -/
def partAnswer (src num label kind off status : Nat) (data : Nat) (s : Block) : Block :=
  let s := when (kind == 0) (netData src label off status (status != 0) (if status == 0 then BitVec.ofNat 512 data else 0)) s
  when (!kindPosted kind) (reqPart num status false) s

/-- A doorbell write of a form that R514 lists. -/
def slotWriteForm (off n : Nat) : Bool :=
  (off == 0 && (n == 4 || n == 8 || n == 32 || n == 64)) || (off == 8 && (n == 4 || n == 8))

/-- A posted write of an initiator stands before a target. -/
def addPosted (src dst : Nat) (s : Block) : Block :=
  if s.net.posted.contains (src, dst, 0) then s else { s with net := { s.net with posted := s.net.posted ++ [(src, dst, 0)] } }

/-- A part sent into the network: a non-posted one with its tag. -/
def partSend (src num kind : Nat) (tag : Option Nat) (stream : Bool) (x : NetSeg) (bs : List Nat) (s : Block) : Block :=
  let epoch := if kindPosted kind then postedEpoch s src else newEpoch s
  let s := s.emit (.nocRequest src x.hit.dst kind (vcOf kind) epoch (tag.getD 0) (reqAddr s x.lo) x.bytes stream bs)
  match tag with
  | none => addPosted src x.hit.dst s
  | some t =>
    passWaiting x.hit.dst { s with net := { s.net with
      parts := s.net.parts ++ [{ src := src, tag := t, req := num, dst := x.hit.dst, phase := 0, kind := kind }] } }

/-- One part of a request takes its way (R449): answered by the bridge or by a closed or isolated target port, performed at a block
window, or sent.  An access to a block window, a posted write too, takes effect at its issue: DESIGN CHOICE, since posted writes to
different windows are not ordered (R38). -/
def partIssue (src num label kind addr : Nat) (tag : Option Nat) (stream : Bool) (x : NetSeg) (data : List Nat) (s : Block) : Block :=
  let bs := (data.drop (x.lo - addr)).take x.bytes
  let off := x.lo / 64 - addr / 64
  let ans (status : Nat) (v : Nat) : Block → Block := partAnswer src num label kind off status v
  let st := targetStatus s x.hit.dst
  if x.hit.status != 0 then ans x.hit.status 0 s
  else if st != 0 then (if kindPosted kind then bumpDiscard x.hit.dst s else ans st 0 s)
  else if x.hit.what == 1 then
    let a := x.lo - 0x7F0000000000
    if kind == 0 then
      let r := readReg a (x.bytes == 8) s
      ans 0 (r.1 * 2 ^ (8 * (x.lo % 64))) r.2
    else ans 0 0 (writeReg a (x.bytes == 8) (leNat bs) s)
  else if x.hit.what == 2 then
    let o := x.lo % 64
    if kind == 0 then
      if o == 0 && x.bytes == 8 then ans 0 (slotWord s ((x.lo - 0x700000000000) / 64)) s else ans 1 0 s
    else if slotWriteForm o x.bytes then
      ans 0 0 (addPosted src 0x402 (s.emit (.nocRequest src 0x402 kind 1 (postedEpoch s src) 0 x.lo x.bytes false bs)))
    else ans 0 0 (if 32 ≤ x.bytes then rejectPush s else badDoorbell s)
  else partSend src num kind tag stream x bs s

/-- The part will go into the network with a tag. -/
def segTagged (s : Block) (kind : Nat) (x : NetSeg) : Bool :=
  !kindPosted kind && x.hit.status == 0 && x.hit.what == 0 && targetStatus s x.hit.dst == 0

/-- A site's die reaches die `via` by a module of its own that is up (R449). -/
def siteEnters (s : Block) (src via : Nat) : Bool := (siteModules (src / 256 - 5)).any (fun m => hasEnd via m && linkUp s via m)

/-- An initiator may issue a request now: its die's clocks run, and a site's die has a module up to the die it enters by; the network is up from Stage 2; before it H0, SVC and JTAG reach their own mailbox page
(R39, R46, R558), and SVC every address from Stage 1 (R619); a design runs in a LIVE region; JTAG at levels 0 and 1 alone (R672). -/
def mayIssue (s : Block) (src via addr : Nat) : Bool :=
  let up := 2 ≤ stageOf s && stageOf s != 7 && !s.clk.gated
  let own := match portOfSrc src, destOf s addr with
    | some p, .control off => winOf off == 0 && off / 0x100000 == portNum p && (p == .h0 || p == .svc || p == .jtag) && portAnswers s p
    | _, _ => false
  isInitiator src && !dieOff s (src / 256) && ((up && (src / 256 < 5 || siteEnters s src via)) || own || (src == 0x404 && 1 ≤ stageOf s && stageOf s != 7 && !s.clk.gated)) &&
    (src != 0x405 || decide (jtagLevel s ≤ 1)) && (src != 0x404 || !s.flag Rg.sec Rg.sSvcDisable) &&
    (match apOf src with
     | some (d, k) => apLive s d k && !apHeld s d k
     | none => true)

/-- A request's data and address are such as its kind carries: AOR a line with its mask (R453). -/
def nocRequestForm (kind addr total : Nat) (data : List Nat) : Bool :=
  (kind == 0 || data.length == total) && (kind != 3 || (addr % 64 == 0 && total == 64)) && decide (addr + total ≤ 2 ^ 48)

/-- Count a request's errors at its bridge, whose registers stand on the die given for a site's initiator (R449). -/
def countErrors (src via : Nat) (l : List NetSeg) (s : Block) : Block :=
  let b := Rg.iport (if src / 256 < 5 then src / 256 else via) (src % 256)
  when (l.any (fun x => x.hit.status == 2)) (fun s => s.bump (b + Rg.ipDenied))
    (when (l.any (fun x => x.hit.status == 1)) (fun s => s.bump (b + Rg.ipDecode)) s)

/-- The parts of a request take their ways in order, the non-posted ones with the tags given (R449, R459, R461). -/
def issueParts (src via kind addr total label : Nat) (stream : Bool) (data tags : List Nat) (s : Block) : Block :=
  let l := netSegs s src kind addr total
  let num := s.net.nextReq
  let s := countErrors src via l s
  let s : Block := if kindPosted kind then s else
    { s with net := { s.net with nextReq := num + 1,
                                 reqs := s.net.reqs ++ [{ num := num, src := src, label := label, left := l.length, worst := 0 }] } }
  (l.foldl (fun (x : List Nat × Block) seg =>
    if segTagged s kind seg then (x.1.drop 1, partIssue src num label kind addr x.1.head? stream seg data x.2)
    else (x.1, partIssue src num label kind addr none stream seg data x.2)) (tags, s)).2

/-- How many tags a request needs. -/
def tagsNeeded (s : Block) (src kind addr total : Nat) : Nat := ((netSegs s src kind addr total).filter (segTagged s kind)).length

/-- NOC_REQUEST_ISSUE: a bridge takes a request. It waits, and nothing happens, while a fence of the initiator is in progress, while
its posted traffic is held by a re-route, or while its tags are all held. -/
def nocIssue (src via kind addr total label : Nat) (stream : Bool) (data : List Nat) (s : Block) : Block :=
  let tags := freeTags s src (tagsNeeded s src kind addr total)
  if !mayIssue s src via addr || !nocRequestForm kind addr total data || fenceBusy s src || (kindPosted kind && flipHeld s src) ||
      decide (tags.length < tagsNeeded s src kind addr total) then s
  else issueParts src via kind addr total label stream data tags s

def bytesOf (l : List (BitVec 8)) : List Nat := l.map (·.toNat)

def execNocRequestIssue (src : BitVec 12) (via : Fin 5) (kind : Fin 5) (addr : BitVec 48) (len : Fin 4096) (label : BitVec 12)
    (stream : Bool) (data : List (BitVec 8)) (s : State) : Host.Outcome State Fault Refusal :=
  live (nocIssue src.toNat via.val kind.val addr.toNat (len.val + 1) label.toNat stream (bytesOf data)) s

/-- The response of a part is given to its initiator, or discarded and counted (R242, R455, R460, R469). -/
def responseTaken (p : NetPart) (status : Nat) (flits : List (Nat × Bool × BitVec 512)) (fifoFull : Bool) (s : Block) : Block :=
  let dst := p.src
  let label := ((s.net.reqs.find? (fun r => r.num == p.req)).map (·.label)).getD 0
  let ap := apOf dst
  let sunk := match ap with
    | some (d, k) => !apLive s d k
    | none => false
  let lost := ap.isSome && fifoFull
  let s := when (sunk || lost) (bumpRspDrop dst) s
  let s := when (lost && !sunk) (fun s => s.raise Ev.apRspDropped dst) s
  let s := when (p.kind == 0 && !(sunk || lost)) (fun s =>
    (if status == 0 then flits else flits.map (fun (x : Nat × Bool × BitVec 512) => (x.1, true, (0 : BitVec 512)))).foldl
      (fun s x => netData dst label x.1 status x.2.1 (if x.2.1 then 0 else x.2.2) s) s) s
  partDone dst p.tag status (sunk || lost) s

/-- NOC_RESPONSE_ARRIVE: the response of a part reaches its bridge (R460): its data are given to the initiator, zeros with POISON for
a status that is not OK. At an access point whose FIFO is full it is discarded and counted (R455); what a design that is closed or
held would receive is sunk and counted (R242, R469). -/
def nocResponseArriveStep (dst tag status : Nat) (flits : List (Nat × Bool × BitVec 512)) (fifoFull : Bool) (s : Block) : Block :=
  match s.net.parts.find? (fun p => p.src == dst && p.tag == tag && p.phase != 0) with
  | none => s
  | some p => responseTaken p status flits fifoFull s

def execNocResponseArrive (dst : BitVec 12) (tag : BitVec 12) (status : Fin 7) (flits : List (BitVec 6 × Bool × BitVec 512))
    (fifoFull : Bool) (s : State) : Host.Outcome State Fault Refusal :=
  clocked (nocResponseArriveStep dst.toNat tag.toNat status.val (flits.map (fun x => (x.1.toNat, x.2.1, x.2.2))) fifoFull) s

/-! ### Access points as targets (R33, R191, R455) -/

/-- AP_TARGET_REQUEST: a request reaches an access point: handed to the design, or answered DOMAIN_OFF or TARGET_DEAD as the port's
state requires. TGT_REQ_ID is the requester's port and tag. -/
def apTargetRequestStep (d k src tag kind off total : Nat) (data : List Nat) (s : Block) : Block :=
  let p := 256 * d + k
  let st := targetStatus s p
  let known := s.net.parts.find? (fun x => x.src == src && x.tag == tag && x.dst == p && x.phase == 1)
  if kind == 2 then
    if st != 0 then bumpDiscard p s else s.emit (.apTarget d k 2 off (total - 1) 0 data)
  else
    match known with
    | none => s
    | some x => if st != 0 then partFail x st s else s.emit (.apTarget d k kind off (total - 1) (4096 * src + tag) data)

def execApTargetRequest (d : Fin 4) (k : Fin 96) (src : BitVec 12) (tag : BitVec 12) (kind : Fin 3) (off : BitVec 31) (len : Fin 4096)
    (data : List (BitVec 8)) (s : State) : Host.Outcome State Fault Refusal :=
  clockedOn (d.val) (apTargetRequestStep d.val k.val src.toNat tag.toNat kind.val off.toNat (len.val + 1) (bytesOf data)) s

/-- The design's answer to a part goes on its way. -/
def apAnswered (d k id : Nat) (x : NetPart) (err : Bool) (data : List Nat) (s : Block) : Block :=
  let s : Block := { s with net := { s.net with parts := s.net.parts.map (fun y => if y == x then { y with phase := 2 } else y) } }
  passWaiting (256 * d + k) (s.emit (.apResponse d k id (if err then 6 else 0) (if err then [] else data)))

/-- AP_TARGET_RESPONSE: the design answers a request in the port's table; a port that is CLOSED or ISOLATED discards it (R469). -/
def apTargetResponseStep (d k id : Nat) (err : Bool) (data : List Nat) (s : Block) : Block :=
  let p := 256 * d + k
  let open_ := portState s p == 0 || portState s p == 1
  match s.net.parts.find? (fun x => x.src == id / 4096 && x.tag == id % 4096 && x.dst == p && x.phase == 1) with
  | none => if open_ then s else bumpRspDrop p s
  | some x =>
    if open_ && apLive s d k then apAnswered d k id x err data s
    else bumpRspDrop p s

def execApTargetResponse (d : Fin 4) (k : Fin 96) (id : BitVec 24) (targetError : Bool) (data : List (BitVec 8)) (s : State) :
    Host.Outcome State Fault Refusal := clockedOn (d.val) (apTargetResponseStep d.val k.val id.toNat targetError (bytesOf data)) s

/-! ### Fences (R475, R476) -/

/-- The targets that hold posted writes of an initiator. -/
def postedTargets (s : Block) (src : Nat) : List Nat := ((s.net.posted.filter (fun p => p.1 == src)).map (·.2.1)).eraseDups

/-- A fence point of an initiator for a purpose: it waits for the tags and targets of its earlier requests, and markers are sent behind
its posted writes on an epoch. -/
def fencePoint (src : Nat) (what : FenceFor) (epoch : Nat) (tags : List Nat) (s : Block) : Block :=
  let dsts := postedTargets s src
  let s : Block := { s with net := { s.net with fences := s.net.fences ++ [{ src := src, what := what, tags := tags, dsts := dsts }] } }
  dsts.foldl (fun s d => (markSent src d s).emit (.fenceMark src d epoch)) s

/-- The tags that an initiator holds. -/
def tagsOf (s : Block) (src : Nat) : List Nat := (s.net.parts.filter (fun p => p.src == src)).map (·.tag)

/-- NOC_FENCE: an initiator issues a fence; one waits while another of it is in progress. -/
def nocFenceStep (src label : Nat) (s : Block) : Block :=
  let runs := match apOf src with
    | some (d, k) => apLive s d k && !apHeld s d k
    | none => true
  if !isInitiator src || dieOff s (src / 256) || !runs || fenceBusy s src || stageOf s < 2 || stageOf s == 7 then s
  else settleFences (fencePoint src (.own label) (postedEpoch s src) (tagsOf s src) s)

def execNocFence (src : BitVec 12) (label : BitVec 12) (s : State) : Host.Outcome State Fault Refusal :=
  clocked (nocFenceStep src.toNat label.toNat) s

/-- FENCE_MARK: a marker whose fence waits on a target is acknowledged there, the posted writes ahead of it having taken effect or
been discarded; a site's die acknowledges under its own rules. -/
def fenceMarkStep (src dst : Nat) (s : Block) : Block :=
  if !s.net.fences.any (fun f => f.src == src && f.dsts.contains dst) then s
  else if isSitePort dst && targetStatus s dst == 0 then s
  else s.emit (.fenceAck src dst)

def execFenceMark (src : BitVec 12) (dst : BitVec 12) (s : State) : Host.Outcome State Fault Refusal :=
  clocked (fenceMarkStep src.toNat dst.toNat) s

def execFenceAck (src : BitVec 12) (dst : BitVec 12) (s : State) : Host.Outcome State Fault Refusal :=
  clocked (markAcked src.toNat dst.toNat) s

/-- Every initiator with a request that is not complete. -/
def busySources (s : Block) : List Nat := (s.net.parts.map (·.src) ++ s.net.posted.map (·.1)).eraseDups

/-- At the alignment marker (R476): the round of GLOBAL_FENCE that waits takes its fence points. -/
def globalFenceMarker (s : Block) : Block :=
  let r := s.net.gfRound
  if (openOf s 0x0700 r).isEmpty then s
  else
    let s := (busySources s).foldl (fun s src => fencePoint src (.global r) (postedEpoch s src) (tagsOf s src) s) s
    let s : Block := { s with net := { s.net with gfRound := r + 1 } }
    let s := settleFences s
    if s.net.fences.any (fun f => f.what == .global r) then s else s.close 0x0700 r St.ok

/-- NOC_GLOBAL_FENCE: a fence point at every bridge at the next marker. -/
def nocNeed (op : Nat) (expert : Bool := false) : Need := { op := op, ports := workPorts, stage := 2, expert := expert }

def execNocGlobalFence (h : Hdr) (s : State) : Host.Outcome State Fault Refusal :=
  live (fun s => s.command h (nocNeed 0x0700) (fun c s => s.hold c 0x0700 s.net.gfRound)) s

/-- A restart of Greone runs an unanswered GLOBAL_FENCE again from the start (R476). -/
def globalFenceRestart (s : Block) : Block :=
  { s with net := { s.net with fences := s.net.fences.filter (fun f => match f.what with | .global _ => false | _ => true) },
           mbx := { s.mbx with opens := s.mbx.opens.map (fun o => if o.op2 == 0x0700 then { o with obj := s.net.gfRound } else o) } }

/-! ### Routers (R450, R457, R458, R462, R463) -/

/-- The fields of a header. -/
def hdrSrc (h : Nat) : Nat := fldGet h 12 12
def hdrDst (h : Nat) : Nat := fldGet h 24 12
def hdrVc (h : Nat) : Nat := fldGet h 4 2
def hdrLast (h : Nat) : Bool := !typHasData (h % 16) || fldGet h 113 1 == 1

/-- Flits of the burst that a first flit begins (R450, R451). -/
def burstFlits (h : Nat) : Nat :=
  if typHasData (h % 16) then (fldGet h 48 48 % 64 + fldGet h 96 12) / 64 + 1 else 1

/-- The key of an output VC. -/
def outKey (r port vc : Nat) : Nat := 64 * r + 4 * port + vc

/-- The credits of an output VC: the depth of the receiver's VC, 32 at a die-link bridge (R495). -/
def creditDepth (s : Block) (r port vc : Nat) : Nat := if (portModule r port).isSome then 32 else vcDepth s vc
def creditsLeft (s : Block) (r port vc : Nat) : Nat :=
  creditDepth s r port vc - spGet (fun _ => 0) s.net.spent (outKey r port vc)

/-- A flit may go out on a port now (R458): the first flit of a burst with credits for all of it and no other burst open on the VC; a
later flit of the burst that is open. -/
def flitGoes (s : Block) (r port : Nat) (h : Nat) : Bool :=
  let b := spGet (fun _ => none) s.net.bursts (outKey r port (hdrVc h))
  if fldGet h 108 5 == 0 then b.isNone && decide (burstFlits h ≤ creditsLeft s r port (hdrVc h))
  else b == some (hdrSrc h, hdrDst h)

/-- A flit leaves a router on a port: to a neighbour, an endpoint, or the bridge of a module. -/
def flitOut (r port : Nat) (header : BitVec 128) (payload : BitVec 512) (s : Block) : Block :=
  let h := header.toNat
  let key := outKey r port (hdrVc h)
  let first := fldGet h 108 5 == 0
  let s : Block := { s with net := { s.net with
    spent := if first then spSet (fun _ => 0) s.net.spent key (spGet (fun _ => 0) s.net.spent key + burstFlits h) else s.net.spent,
    bursts := spSet (fun _ => none) s.net.bursts key (if hdrLast h then none else some (hdrSrc h, hdrDst h)) } }
  match portModule r port with
  | some m => bridgeTake (routerDie r) m header payload s
  | none => s.emit (.routerOut r port (hdrVc h) header)

/-- Send every waiting flit that may go, in order on each output VC. -/
def pumpFlits (s : Block) : Block :=
  let x := s.net.flits.foldl (fun (x : List RtFlit × Block) f =>
    let h := f.header.toNat
    if x.1.any (fun g => g.router == f.router && g.port == f.port && hdrVc g.header.toNat == hdrVc h) || !flitGoes x.2 f.router f.port h
    then (x.1 ++ [f], x.2)
    else (x.1, flitOut f.router f.port f.header f.payload x.2)) ([], { s with net := { s.net with flits := [] } })
  { x.2 with net := { x.2.net with flits := x.1 } }

/-- The output port that a router selects among those of a mask (R463). -/
def pickPort (mask src dst : Nat) : Option Nat :=
  let l := bitsOf 16 mask
  l[Config.routerHash src dst % l.length]?

/-- ROUTER_FLIT: a router takes a flit whose header is good (0), had a single-bit error that is corrected (1), or is uncorrectable (2),
and routes it by the table of its epoch. -/
def routerFlitStep (r : Nat) (header : BitVec 128) (payload : BitVec 512) (err : Nat) (s : Block) : Block :=
  let d := routerDie r
  let h := header.toNat
  if err == 2 then (s.raise Ev.nocHeaderError (originOf (if d < 4 then 0x21 + 0x20 * d else 0x0A))).eicEdge 1291
  else
    let dr := routerOf (hdrDst h)
    if dr == r then s.emit (.routerLocal r header)
    else
      let e := routeEntry s d (r % 24) (fldGet h 6 1) dr
      let action := fldGet e 16 2
      let src := hdrSrc h
      let dst := hdrDst h
      if action == 1 || action == 2 then
        let t := h % 16
        if t == 5 then s.emit (.fenceAck src dst)
        else if t == 0 || t == 1 || t == 3 then s.emit (.routerAnswer r (if action == 1 then 4 else 3) header)
        else s
      else
        match pickPort (e % 2 ^ 16) src dst with
        | none => s
        | some port => pumpFlits { s with net := { s.net with
            flits := s.net.flits ++ [{ router := r, port := port, header := header, payload := payload }] } }

def execRouterFlit (router : Fin 100) (header : BitVec 128) (payload : BitVec 512) (headerError : Fin 3) (s : State) :
    Host.Outcome State Fault Refusal := clockedOn (router.val / 24) (routerFlitStep router.val header payload headerError.val) s

/-- NOC_CREDIT_RETURN: a receiver returns a credit. -/
def nocCreditReturnStep (r port vc : Nat) (s : Block) : Block :=
  let key := outKey r port vc
  pumpFlits { s with net := { s.net with spent := spSet (fun _ => 0) s.net.spent key (spGet (fun _ => 0) s.net.spent key - 1) } }

def execNocCreditReturn (router : Fin 100) (port : Fin 16) (vc : Fin 4) (s : State) : Host.Outcome State Fault Refusal :=
  clockedOn (router.val / 24) (nocCreditReturnStep router.val port.val vc.val) s

/-! ### Re-routing (R466, R467, R478, R499) -/

/-- A router's table registers. -/
def tableAt (r t : Nat) : Nat := Rg.router (routerDie r) (r % 24) + 0x1000 + 0x400 * t

/-- The routers of the dies whose clocks run. -/
def routersUp (s : Block) : List Nat := (upto 100).filter (fun r => !dieOff s (routerDie r))

/-- Step 1 (R466): the idle table of every router holds the set, and is valid. -/
def writeTables (t : TableSet) (s : Block) : Block :=
  let new := 1 - newEpoch s
  (routersUp s).foldl (fun s r =>
    (s.resetRange (tableAt r new) (tableAt r new + 0x400)).putB (Rg.router (routerDie r) (r % 24)) (Rg.rtTableValid new) true)
    { s with net := { s.net with tables := spSet (fun _ => TableSet.default) s.net.tables new t } }

/-- The re-route at the head of those that wait begins (R467); sites are asked to move their ports (R478). -/
def rerouteBegin (s : Block) : Block :=
  if s.gr.restarting then s else
  match s.net.reroutes with
  | x :: rest =>
    if x.step == 0 then
      let s : Block := { s with net := { s.net with reroutes := { x with step := 1 } :: rest } }
      x.sites.foldl (fun s n => s.emit (.sitePortMove n)) (writeTables x.set s)
    else s
  | [] => s

/-- A re-route to a set joins those that wait. -/
def rerouteAsked (t : TableSet) (sites : List Nat) (s : Block) : Block :=
  { s with net := { s.net with reroutes := s.net.reroutes ++ [{ set := t, sites := sites, step := 0, flipped := 0, slow := false }] } }

/-- The set that firmware installs for some dies gone, modules spared and modules halved, with the sites that are present. -/
def setFor (s : Block) (gone : BitVec 4) (spared halved : List Nat) : TableSet :=
  { gone := gone, sites := s.start.sitePresent, spared := spared, halved := halved }

/-- Firmware installs a set: the device holds it (R465), it passes no die that is in reset, gated or unreachable, and it gives up no die
but those and the ones that drain for a reset. -/
def setFits (s : Block) (gone : BitVec 4) (spared : List Nat) : Bool :=
  setHeld gone spared && (upto 4).all (fun d =>
    (!dieAway s d || gone.getLsbD d) && (!gone.getLsbD d || dieAway s d || s.flag Rg.rst (Rg.dieInReset d)))

/-- REROUTE_START: Greone firmware re-routes to a set that it holds; the re-route waits while another runs. -/
def rerouteStartStep (gone : BitVec 4) (spared halved sites : List Nat) (s : Block) : Block :=
  if stageOf s < 2 || stageOf s == 7 || !s.gr.up || s.gr.restarting || !setFits s gone spared then s
  else rerouteBegin (rerouteAsked (setFor s gone spared halved) sites s)

def execRerouteStart (gone : BitVec 4) (spared halved : List (Fin 34)) (sites : List (Fin 3)) (s : State) :
    Host.Outcome State Fault Refusal :=
  clocked (rerouteStartStep gone (spared.map (·.val)) (halved.map (·.val)) (sites.map (·.val))) s

/-- The running re-route, changed. -/
def modReroute (f : Reroute → Reroute) (s : Block) : Block :=
  match s.net.reroutes with
  | x :: rest => { s with net := { s.net with reroutes := f x :: rest } }
  | [] => s

def execRerouteTablesConfirmed (s : State) : Host.Outcome State Fault Refusal :=
  clocked (modReroute (fun x => if x.step == 1 then { x with step := 2 } else x)) s

def execSitePortMoveConfirm (site : Fin 3) (s : State) : Host.Outcome State Fault Refusal :=
  clocked (modReroute (fun x => { x with sites := x.sites.filter (· != site.val) })) s

/-- The flip at the alignment marker (R466 steps 3 and 4). -/
def rerouteMarker (s : Block) : Block :=
  match s.net.reroutes with
  | [] => s
  | x :: _ =>
    if x.step == 2 && x.sites.isEmpty then
      let old := newEpoch s
      let s := modReroute (fun x => { x with step := 3, flipped := s.devTime }) s
      let s := (routersUp s).foldl (fun s r =>
        let b := Rg.router (routerDie r) (r % 24)
        (s.put b Rg.rtNewEpoch (1 - old)).putB b Rg.rtFlipSeen true) s
      ((s.net.posted.map (·.1)).eraseDups).foldl (fun s src => fencePoint src .flip old [] s) s
    else s

/-- The die-link modules whose DL_DOWN waits for a re-route that spares them (R499), which the set in use does. -/
def downDue (s : Block) : List Nat :=
  (upto 34).filter (fun m => (linkEnds m).any (fun d => (getEnd s d m).downDue) && (tableSet s (newEpoch s)).spared.contains m)

/-- A router retires its old table. -/
def tableRetired (r : Nat) (s : Block) : Block :=
  let b := Rg.router (routerDie r) (r % 24)
  (s.putB b Rg.rtFlipSeen false).putB b (Rg.rtTableValid (1 - s.f b Rg.rtNewEpoch)) false

/-- Every router has retired its old table: the re-route is complete, and what waits for it goes on (R467, R499). -/
def rerouteComplete (s : Block) : Block :=
  let s : Block := { s with net := { s.net with reroutes := s.net.reroutes.drop 1 } }
  let s := (s.raise Ev.nocRerouteDone (originOf 0x01)).eicEdge 1291
  rerouteBegin ((downDue s).foldl (fun s m => dlDownDone m s) s)

/-- A router still has to retire its old table. -/
def flipsLeft (s : Block) : Bool := (routersUp s).any (fun q => s.flag (Rg.router (routerDie q) (q % 24)) Rg.rtFlipSeen)

/-- ROUTER_TABLE_RETIRE: a router without old-epoch flits, nor posted traffic held on the old epoch, retires its old table; the last one
completes the re-route. -/
def routerTableRetireStep (r : Nat) (s : Block) : Block :=
  match s.net.reroutes with
  | [] => s
  | x :: _ =>
    if x.step != 3 || !s.flag (Rg.router (routerDie r) (r % 24)) Rg.rtFlipSeen || oldCount s r != 0 ||
        s.net.fences.any (fun f => f.what == .flip) then s
    else if flipsLeft (tableRetired r s) then tableRetired r s
    else rerouteComplete (tableRetired r s)

def execRouterTableRetire (router : Fin 100) (s : State) : Host.Outcome State Fault Refusal :=
  clockedOn (router.val / 24) (routerTableRetireStep router.val) s

/-- REROUTE_SLOW: 10 ms after its flip a re-route has not completed (R467). -/
def rerouteSlowStep (s : Block) : Block :=
  match s.net.reroutes with
  | [] => s
  | x :: _ =>
    if x.step == 3 && !x.slow then
      let s := reachTime (x.flipped + 10000000#64) s
      (modReroute (fun x => { x with slow := true }) (s.raise Ev.nocRerouteSlow (originOf 0x01))).eicEdge 1291
    else s

def execRerouteSlow (s : State) : Host.Outcome State Fault Refusal := clocked rerouteSlowStep s

/-- A Greone restart before the flip starts the re-route again from step 1 (R467). -/
def rerouteRestart (s : Block) : Block :=
  rerouteBegin (modReroute (fun x => if x.step < 3 then { x with step := 0 } else x) s)

/-! ### Target ports (R468 to R471) -/

/-- TARGET_TIMEOUT: a request or a credit has waited NOC_TIMEOUT; a DRAM channel goes to CHANNEL_ERROR. -/
def targetTimeoutStep (p : Nat) (s : Block) : Block :=
  if !isTarget s p || portState s p == 3 then s
  else if p / 256 < 4 && (p % 256 == 0x68 || p % 256 == 0x69) then
    (channelError (2 * (p / 256) + (p % 256 - 0x68)) s).putB (tportAt p) Rg.tpTimeoutSeen true
  else isolatePort p false s

def execTargetTimeout (port : BitVec 12) (s : State) : Host.Outcome State Fault Refusal :=
  clocked (targetTimeoutStep port.toNat) s

/-- The state in which a target port stands that is neither draining nor isolated: OPEN where what is behind it is in service. -/
def portHome (s : Block) (p : Nat) : Nat :=
  match apOf p with
  | some (d, k) => if apLive s d k then 0 else 2
  | none =>
    if p / 256 < 4 && (p % 256 == 0x68 || p % 256 == 0x69) then
      (if dcState s (2 * (p / 256) + (p % 256 - 0x68)) == 2 then 0 else 2)
    else if isSitePort p then
      (if s.net.domOff.contains (72 + (p / 256 - 5)) then 2 else 0)
    else 0

/-- NOC_ISOLATE. -/
def nocIsolateCmd (p : Nat) (c : Cmd) (s : Block) : Block :=
  if !isTarget s p then s.respond c St.badArg
  else if portState s p == 3 then s.respond c St.ok
  else (isolatePort p true s).respond c St.ok

def execNocIsolate (h : Hdr) (port : Nat) (s : State) : Host.Outcome State Fault Refusal :=
  live (fun s => s.command h (nocNeed 0x0702 true) (onDie (port / 256) (nocIsolateCmd port))) s

def stNoRoute : Nat := 0x0700
def stDomainInUse : Nat := 0x0701
def stNotIsolated : Nat := 0x0702
def stNotReset : Nat := 0x0703

/-- A port leaves ISOLATED for the state that what is behind it requires. -/
def portReleased (p : Nat) (s : Block) : Block :=
  when (decide (p / 256 < 5)) (fun s => s.putB (tportAt p) Rg.tpForced false) (setPort p (portHome s p) s)

/-- NOC_RELEASE. -/
def nocReleaseCmd (p : Nat) (c : Cmd) (s : Block) : Block :=
  if !isTarget s p then s.respond c St.badArg
  else if portState s p != 3 then s.respond c stNotIsolated
  else if s.net.unreset.contains p then s.respond c stNotReset
  else (portReleased p s).respond c St.ok

def execNocRelease (h : Hdr) (port : Nat) (s : State) : Host.Outcome State Fault Refusal :=
  live (fun s => s.command h (nocNeed 0x0703) (onDie (port / 256) (nocReleaseCmd port))) s

/-- NOC_STATUS: the state of a router (NOC_RT_EPOCH), or of a local port (its target port and initiator bridge). -/
def nocStatusCmd (die isPort number : Nat) (c : Cmd) (s : Block) : Block :=
  if 5 ≤ die || 2 ≤ isPort || (isPort == 0 && (if die < 4 then 24 else 4) ≤ number) || 256 ≤ number then s.respond c St.badArg
  else if isPort == 0 then s.respond c St.ok [(8, routerWord s die number)]
  else s.respond c St.ok [(8, tportWord s die number), (8, iportWord s die number)]

def execNocStatus (h : Hdr) (die isPort number : Nat) (s : State) : Host.Outcome State Fault Refusal :=
  live (fun s => s.command h (nocNeed 0x0701) (onDie die (nocStatusCmd die isPort number))) s

/-! ### Power domains (R470, R471) -/

/-- The target ports of a domain: column 10 d + c, 40 + channel, 48 + TPP, 72 + site. -/
def domPorts (m : Nat) : List Nat :=
  if m < 40 then ((upto 96).filter (fun k => apColumn k == m % 10)).map (fun k => 256 * (m / 10) + k)
  else if m < 48 then
    let n := m - 40
    [dcPortId n, n / 2 * 256 + 0x90 + n % 2, n / 2 * 256 + 0x92 + n % 2]
  else if m < 72 then [(m - 48) / 6 * 256 + 0x88 + (m - 48) % 6]
  else [0x500 + 256 * (m - 72)]

/-- The fabric die of a domain; a site has none. -/
def domainDie (m : Nat) : Nat := if m < 40 then m / 10 else if m < 48 then (m - 40) / 2 else if m < 72 then (m - 48) / 6 else 4

/-- The sectors of a column domain. -/
def columnSectors (m : Nat) : List Nat := (upto 8).map (fun w => 80 * (m / 10) + 8 * (m % 10) + w)

/-- A sector carries a transit field of a link (R220). -/
def hasTransit (s : Block) (k : Nat) : Bool :=
  (spKeys s.cfg.links).any (fun i => match spGet (fun _ => none) s.cfg.links i with
    | some l => l.hops.any (fun x => x.1 == k)
    | none => false)

/-- A domain may be switched off (R470). -/
def domFree (s : Block) (m : Nat) : Bool :=
  if m < 40 then (columnSectors m).all (fun k =>
    s.f (Rg.sector k) Rg.secState == 0 && !s.flag (Rg.sector k) Rg.secSpare && !hasTransit s k)
  else if m < 48 then dcState s (m - 40) == 7
  else if m < 72 then tppState s (m - 48) == 0
  else true

/-- A domain begins to drain. -/
def domDrainStart (m : Nat) (s : Block) : Block :=
  let s := forEach (domPorts m) drainPort s
  { s with net := { s.net with domDrain := s.net.domDrain.filter (· != m) ++ [m] } }

/-- A site's power is removed: its modules are down, its run lock released, its targets' sources completed. -/
def sitePowerOff (n : Nat) (s : Block) : Block :=
  let s := (siteModules n).foldl (fun s m =>
    let s := forEach (linkEnds m) (fun d s => (s.put (Rg.dl d m) Rg.mState 0).put (Rg.dl d m) Rg.mWidth 0) s
    { s with dl := { s.dl with edgeDown := s.dl.edgeDown.filter (· != edgeOf m) ++ [edgeOf m] } }) s
  eicSiteGone n (releaseRun n s)

/-- The drain of a domain has ended. -/
def drainEnded (m : Nat) (s : Block) : Block :=
  let s := forEach (domPorts m) closePort s
  { s with net := { s.net with domDrain := s.net.domDrain.filter (· != m) } }

/-- A domain is off. -/
def domainOff (m : Nat) (s : Block) : Block :=
  when (72 ≤ m) (sitePowerOff (m - 72)) { s with net := { s.net with domOff := s.net.domOff ++ [m] } }

/-- DOMAIN_DRAIN_END: the drain of a domain ends or its limit expires: its ports are CLOSED, but for isolated ones (R471); a domain that
was switched off is off. -/
def domainDrainEndStep (m : Nat) (s : Block) : Block :=
  if !s.net.domDrain.contains m then s
  else if (openOf (drainEnded m s) 0x0704 m).isEmpty then drainEnded m s
  else (domainOff m (drainEnded m s)).close 0x0704 m St.ok

/-- A drain whose ports are all isolated completes at once (R471). -/
def drainAtOnce (m : Nat) (s : Block) : Block :=
  when ((domPorts m).all (fun p => portState s p == 3)) (domainDrainEndStep m) s

/-- NOC_DOMAIN_OFF: refused with DOMAIN_IN_USE where R470's condition is not met, and for a domain that is off or draining. -/
def nocDomainOffCmd (m : Nat) (c : Cmd) (s : Block) : Block :=
  if 75 ≤ m || (72 ≤ m && !s.start.sitePresent.getLsbD (m - 72)) then s.respond c St.badArg
  else if s.net.domOff.contains m || s.net.domDrain.contains m then s.respond c St.refusedState
  else if !domFree s m then s.respond c stDomainInUse
  else drainAtOnce m ((domDrainStart m s).hold c 0x0704 m)

def execNocDomainOff (h : Hdr) (domain : Nat) (s : State) : Host.Outcome State Fault Refusal :=
  live (fun s => s.command h (nocNeed 0x0704) (onDie (domainDie domain) (nocDomainOffCmd domain))) s

def execDomainDrainEnd (domain : Fin 75) (s : State) : Host.Outcome State Fault Refusal :=
  clocked (domainDrainEndStep domain.val) s

/-- A domain's ports are OPENING, and the links of a site are looked for. -/
def domainOn (m : Nat) (s : Block) : Block :=
  let s := forEach (domPorts m) (fun p s => if portState s p == 3 then s else setPort p 4 s) s
  let s : Block := { s with net := { s.net with domOff := s.net.domOff.filter (· != m) } }
  when (72 ≤ m) (fun s => (siteModules (m - 72)).foldl (fun s l => discover l s) s) s

/-- No die with modules to a site is in service: no set of tables reaches it (R465). -/
def siteCut (s : Block) (n : Nat) : Bool := (siteDies n).all (dieAway s)

/-- NOC_DOMAIN_ON: refused with NO_ROUTE for a site that no set of tables reaches; the ports of a domain that is off are OPENING until its block reports ready; isolated ones stay so (R471). -/
def nocDomainOnCmd (m : Nat) (c : Cmd) (s : Block) : Block :=
  if 75 ≤ m then s.respond c St.badArg
  else if !s.net.domOff.contains m then s.respond c St.refusedState
  else if 72 ≤ m && siteCut s (m - 72) then s.respond c stNoRoute
  else (domainOn m s).respond c St.ok

def execNocDomainOn (h : Hdr) (domain : Nat) (s : State) : Host.Outcome State Fault Refusal :=
  live (fun s => s.command h (nocNeed 0x0705) (onDie (domainDie domain) (nocDomainOnCmd domain))) s

/-- DOMAIN_OPENED: a block that was switched on reports ready, and its ports stand as what is behind them requires. -/
def domainOpenedStep (m : Nat) (s : Block) : Block :=
  let s := forEach (domPorts m) (fun p s => if portState s p == 4 then setPort p (portHome s p) s else s) s
  when (48 ≤ m && m < 72) (tppPlates (m - 48)) s

def execDomainOpened (domain : Fin 75) (s : State) : Host.Outcome State Fault Refusal :=
  clocked (domainOpenedStep domain.val) s

/-! ### Resets and start-up -/

/-- The network of a die starts afresh: its initiators have nothing outstanding, its targets answer DOMAIN_OFF, its routers are empty. -/
def netDieReset (d : Nat) (s : Block) : Block :=
  let s := (s.net.parts.filter (fun x => x.dst / 256 == d && x.src / 256 != d)).foldl (fun s x => partFail x 4 s) s
  let dies : List Nat := (upto 256).map (fun q => 256 * d + q)
  settleFences { s with net := { s.net with
    parts := s.net.parts.filter (fun x => x.src / 256 != d),
    reqs := s.net.reqs.filter (fun x => x.src / 256 != d),
    posted := s.net.posted.filter (fun x => x.1 / 256 != d && x.2.1 / 256 != d),
    fences := (s.net.fences.filter (fun f => f.src / 256 != d)).map (fun (f : NetFence) =>
      { f with dsts := f.dsts.filter (fun p => p / 256 != d) }),
    unreset := s.net.unreset.filter (fun p => !dies.contains p),
    domDrain := s.net.domDrain.filter (fun m => !((domPorts m).any (fun p => p / 256 == d))),
    domOff := s.net.domOff.filter (fun m => !((domPorts m).any (fun p => p / 256 == d))),
    spent := spClear (fun k => routerDie (k / 64) == d) s.net.spent,
    bursts := spClear (fun k => routerDie (k / 64) == d) s.net.bursts,
    flits := s.net.flits.filter (fun f => routerDie f.router != d) } }

/-- The window ports of a fabric die are OPEN (power-up complete), and its routers stand at the epoch in use (R469). -/
def openDie (d : Nat) (s : Block) : Block :=
  let s := forEach ((upto 32).filter (fun k => winAssigned (0x20 + 0x20 * d + k))) (fun k s => setPort (256 * d + 0x80 + k) 0 s) s
  let e := newEpoch s
  forEach (upto 24) (fun i s =>
    let b := Rg.router d i
    ((s.put b Rg.rtNewEpoch e).putB b (Rg.rtTableValid e) true).putB b (Rg.rtTableValid (1 - e)) false) s

/-- The window ports of HD and its doorbell port are OPEN. -/
def openHub (s : Block) : Block :=
  forEach (0x402 :: (((upto 32).filter winAssigned).map (0x480 + ·) ++ [0x4C0, 0x4C1, 0x4C2])) (fun p s => setPort p 0 s) s

/-- The advertised bursts that Greone firmware loads at Stage 2 (R459): 32 flits for DRAM ports, 1 for the others. -/
def loadBursts (s : Block) : Block := forEach (upto 8) (fun n s => s.put (tportAt (dcPortId n)) Rg.tpBurst 5) s

end Sys2Proof.Machine
end

