-- ==== Sys2Proof/Machine/Settings.lean ====
section
/-! DEFINITION. The settings store (19, 21): ranges (R585), loading and applying (R625, R626, R634), staging and commit
(R586), and the end of a write of the configuration flash. -/

namespace Sys2Proof.Machine

/-! ### The settings (R585) -/

/-- The owner settings of R585. -/
def settingOwner (id : Nat) : Bool := id == 0x000C || id == 0x000D || (0x0200 ≤ id && id < 0x0218)

/-- The settings of the stage points that R626 and R262 name, which a Greone restart does not apply: interleave, boot plate,
reference choice, ring enable, buffer depths, view bits, context table, VCCO classes and safe states. -/
def settingFixed (id : Nat) : Bool :=
  [0x0001, 0x0002, 0x0003, 0x0004, 0x0005, 0x0007, 0x000A, 0x000C, 0x0011].contains id || (0x0100 ≤ id && id < 0x0120) ||
    decide (0x1000 ≤ id)

/-- The depth of VC v in a value of NOC_BUF_CFG (R456). -/
def bufDepth (x v : Nat) : Nat := 2 ^ fldGet x (3 * v) 3

/-- A value of NOC_BUF_CFG that R456 allows. -/
def bufCfgOk (x : Nat) : Bool :=
  decide (x < 2 ^ 12) && (upto 4).all (fun v => decide (1 ≤ fldGet x (3 * v) 3) && decide (fldGet x (3 * v) 3 ≤ 5)) &&
    decide (bufDepth x 0 + bufDepth x 1 + bufDepth x 2 + bufDepth x 3 ≤ 64)

/-- A value of 8 bytes is in the range of its setting (R585). -/
def settingInRange (s : Block) (id v : Nat) : Bool :=
  if id == 0x0001 || id == 0x0003 then decide (v ≤ 2)
  else if id == 0x0002 then decide (v ≤ 3)
  else if id == 0x0004 then v % 0x1000 == 0 && decide (0x04000000 ≤ v) && decide (v < s.nv.flashSize)
  else if id == 0x0005 || id == 0x0006 || id == 0x0007 then decide (v ≤ 1)
  else if id == 0x0008 then decide (1 ≤ v) && decide (v ≤ 60000)
  else if id == 0x0009 then decide (-8388608 ≤ sgn 64 v) && decide (sgn 64 v ≤ 8388607)
  else if id == 0x000A then bufCfgOk v
  else if id == 0x000B then decide (10 ≤ v) && decide (v ≤ 100000)
  else if id == 0x000C then decide (v ≤ 0x7F)
  else if id == 0x000D then decide (v < 2 ^ 12) && (upto 6).all (fun p => decide (fldGet v (2 * p) 2 ≤ 2))
  else if id == 0x000E then decide (v ≤ 0x3F)
  else if id == 0x000F then decide (v ≤ 350)
  else if id == 0x0010 then decide (1 ≤ v) && decide (v ≤ 1000)
  else if id == 0x0011 then v % 2 ^ 26 == 0 && decide (v < 0x20000000000)
  else if 0x0100 ≤ id && id < 0x0120 then decide (v ≤ (if id < 0x0118 then 5 else 3))
  else if 0x0200 ≤ id && id < 0x0218 then decide (v < 2 ^ 64)
  else (settingDefault id).isSome && decide (v ≤ 5)

/-! ### Applying -/

/-- The level ceiling that EXPERT_CEIL gives (R566, R592). -/
def levelCeiling (s : Block) : Nat := 2 - s.f Rg.sec Rg.sExpert

/-- The level of each port: that of its setting, within the fused ceiling and an EXPERT_DROP (R566). -/
def applyLevels (s : Block) : Block :=
  forEach (upto 6) (fun p s =>
    let l := Nat.min (fldGet (setting s 0x000D) (2 * p) 2) (levelCeiling s)
    s.put (Rg.mbx p) Rg.mbxLevel (Nat.min l (spGet (fun _ => 2) s.mbx.levelCap p))) s

/-- Protocols and direct windows of the mailboxes (R566, R573). -/
def applyMailboxes (s : Block) : Block :=
  forEach (upto 6) (fun p s =>
    let s := s.putB (Rg.mbx p) Rg.mbxProto ((setting s 0x000E).testBit p)
    forEach (upto 4) (fun i s => s.setReg (Rg.mbxDirectWin p i) (BitVec.ofNat 64 (setting s (0x0200 + 4 * p + i)))) s) s

/-- RING_COMP takes its setting (R70). -/
def applyRingComp (s : Block) : Block := s.put Rg.ring Rg.ringComp (setting s 0x0009 % 2 ^ 24)

/-- Settings that take effect when they are committed, and that registers show. -/
def applyCommit (s : Block) : Block :=
  ((applyRingComp s).putB Rg.clk Rg.clkFallbackEn (setting s 0x0006 == 1)).put (Rg.noc 4) Rg.nocTimeout (setting s 0x000B)

/-- The view bits of every line scrambler (R433). -/
def applyViews (s : Block) : Block := forEach (upto 8) (fun n s => s.put (Rg.lsu n) Rg.lsuViews (setting s 0x000C)) s

/-- The die and number of pin n of setting 0x1000 + n. -/
def settingPin (n : Nat) : Nat × Nat :=
  if n < 1152 then (n / 48 / 6, 48 * (n / 48 % 6) + n % 48)
  else
    let j := (n - 1152) / 24
    (j / 2, 48 * (6 + j % 2) + (n - 1152) % 24)

/-- One bank's class or one pin's safe state (R252, R261). -/
def applyBankOrPin (id v : Nat) (s : Block) : Block :=
  if 0x0100 ≤ id && id < 0x0120 then
    let b := id - 0x0100
    let p := if b < 24 then (b / 6, b % 6) else ((b - 24) / 2, 6 + (b - 24) % 2)
    vccoRefresh p.1 p.2 (s.put (Rg.ioBank p.1 p.2) Rg.vccoClass v)
  else if 0x1000 ≤ id then
    let x := settingPin (id - 0x1000)
    setSafe x.1 x.2 v s
  else s

/-- What Stage 1 takes from the settings: reference, buffer depths, views, context table, banks and pins, levels and mailboxes. -/
def applyStage1 (s : Block) : Block :=
  let s := s.putB Rg.clk Rg.clkPrimary (setting s 0x0005 == 1)
  let s := (s.putB Rg.clk Rg.clkFallbackEn (setting s 0x0006 == 1)).put (Rg.noc 4) Rg.nocTimeout (setting s 0x000B)
  let s := applyViews (s.put (Rg.noc 4) Rg.nocBufCfg (setting s 0x000A))
  let s := (s.put Rg.qe Rg.qeCtxBase (setting s 0x0011 / 2 ^ 26)).putB Rg.qe Rg.qeEnable true
  let s := s.gr.applied.foldl (fun s x => applyBankOrPin x.1 x.2 s) s
  applyMailboxes (applyLevels s)

/-! ### Loading (R611, R625, R626, R634) -/

/-- The bank the running image loads: the valid bank with the highest SEQ whose schema it knows. -/
def bankToLoad (s : Block) : Option SetBank :=
  match s.fwu.running with
  | none => none
  | some r =>
    let ok (b : Option SetBank) : Option SetBank :=
      b.filter (fun b => decide (r.minSch ≤ b.schema) && decide (b.schema ≤ r.schema))
    newerBank (ok s.nv.bank0) (ok s.nv.bank1)

/-- The records of a bank that name a setting out of its range. -/
def badRecs (s : Block) (l : List (Nat × Nat)) : List (Nat × Nat) :=
  l.filter (fun x => (settingDefault x.1).isSome && !settingInRange s x.1 x.2)

/-- The records that are applied: known settings in their range; those of fixed stage points stay as they are after a
Greone restart (R626). -/
def recsApplied (s : Block) (restart : Bool) (l : List (Nat × Nat)) : List (Nat × Nat) :=
  let good := l.filter (fun x => (settingDefault x.1).isSome && settingInRange s x.1 x.2)
  if restart then s.gr.applied.filter (fun x => settingFixed x.1) ++ good.filter (fun x => !settingFixed x.1) else good

/-- Firmware takes a bank's contents, or the provisional defaults. -/
def takeBank (restart : Bool) (b : Option SetBank) (s : Block) : Block :=
  match b with
  | some b =>
    let s := modSec (fun x => { x with policy := b.policy.getD 1, keyNow := b.keyNow, keyOld := b.keyOld }) s
    let s := (s.putB Rg.rst Rg.provisional false).putB Rg.sec Rg.sSealKey b.keyNow.isSome
    let s := { s with gr := { s.gr with committed := b.recs, applied := recsApplied s restart b.recs } }
    let s := if b.policy.isNone then s.raise Ev.policyInvalid secOrigin else s
    if !restart && !(badRecs s b.recs).isEmpty then s.raise Ev.settingsError (originOf 0x01) else s
  | none =>
    let s := modSec (fun x => { x with policy := 1, keyNow := none, keyOld := none }) s
    let s := (s.putB Rg.rst Rg.provisional true).putB Rg.sec Rg.sSealKey false
    let s := { s with gr := { s.gr with committed := [], applied := recsApplied s restart [] } }
    s.raise Ev.fwProvisional fwOrigin

/-- The settings are loaded: provisional where no bank qualifies or a converted setting is out of range (R634). -/
def loadSettings (restart : Bool) (s : Block) : Block :=
  let s := { s with gr := { s.gr with staged := [] } }
  match bankToLoad s with
  | none => takeBank restart none s
  | some b =>
    let converted := decide (b.schema < (s.fwu.running.map ImgInfo.schema).getD 0)
    if converted && !(badRecs s b.recs).isEmpty then takeBank restart none s else takeBank restart (some b) s

/-! ### Settings commands (R586) -/

/-- The committed value of a setting, and SETTINGS_READ's source. -/
def settingSource (s : Block) (id : Nat) : Nat :=
  let v := settingIn s.gr.committed id
  if (s.gr.staged.lookup id).any (fun x => x != v) then 2
  else if (s.gr.committed.lookup id).isSome then 1 else 0

/-- SETTINGS_READ: committed value, length, source. -/
def settingsReadCmd (id : Nat) (c : Cmd) (s : Block) : Block :=
  if (settingDefault id).isNone then s.respond c St.badArg
  else s.respond c St.ok [(8, settingIn s.gr.committed id), (1, settingLen id), (1, settingSource s id)]

def execSettingsRead (h : Hdr) (id : Nat) (s : State) : Host.Outcome State Fault Refusal :=
  live (fun s => s.command h { op := 0x000B, ports := allPorts, stage := 1 } (settingsReadCmd id)) s

/-- A port level above the fused ceiling is refused (R585). -/
def overCeiling (s : Block) (id v : Nat) : Bool :=
  id == 0x000D && (upto 6).any (fun p => decide (levelCeiling s < fldGet v (2 * p) 2))

/-- A value is staged in place of the ID's last one. -/
def stageValue (id v : Nat) (s : Block) : Block := { s with gr := { s.gr with staged := putSetting id v s.gr.staged } }

/-- SETTINGS_WRITE: a value is staged. -/
def settingsWriteCmd (id v : Nat) (c : Cmd) (s : Block) : Block :=
  if (settingDefault id).isNone || !settingInRange s id v || overCeiling s id v then s.respond c St.badArg
  else (stageValue id v s).respond c St.ok

def execSettingsWrite (h : Hdr) (id value : Nat) (s : State) : Host.Outcome State Fault Refusal :=
  live (fun s => s.command h { op := 0x000C, ports := hostPorts, stage := 1 } (settingsWriteCmd id value)) s

/-- The 16-byte record of a setting (R585). -/
def settingRecord (x : Nat × Nat) : List Nat := leBytes 2 x.1 ++ [settingLen x.1, 0, 0, 0, 0, 0] ++ leBytes 8 x.2

/-- The payload of an authorised SETTINGS_COMMIT is the records being committed, in any order. -/
def commitPayload (s : Block) (p : List Nat) : Bool :=
  let recs := (upto (p.length / 16)).map (fun i => (p.drop (16 * i)).take 16)
  p.length == 16 * s.gr.staged.length && s.gr.staged.all (fun x => recs.contains (settingRecord x))

/-- The records with every staged value in place of its ID's. -/
def stagedOver (s : Block) (l : List (Nat × Nat)) : List (Nat × Nat) :=
  s.gr.staged.foldl (fun l x => putSetting x.1 x.2 l) l

/-- Write the staged settings into the idle bank. -/
def commitStart (c : Cmd) (s : Block) : Block :=
  let b := latestBank s
  (writeBank { b with recs := stagedOver s b.recs } 0x000D s).hold c 0x000D 0

/-- SETTINGS_COMMIT (R586). -/
def settingsCommitCmd (addr len : Nat) (c : Cmd) (s : Block) : Block :=
  if storeBlocked s then s.respond c St.refusedState
  else if s.gr.staged.any (fun x => settingOwner x.1) && !(activeSlots s).isEmpty then
    if addr == 2 ^ 64 - 1 && len == 2 ^ 64 - 1 then s.respond c St.authFail
    else s.authorised c 0x000D addr len (fun p s => if commitPayload s p then commitStart c s else s.respond c St.badArg)
  else commitStart c s

def execSettingsCommit (h : Hdr) (reqAddr reqLen : Nat) (s : State) : Host.Outcome State Fault Refusal :=
  live (fun s => s.command h { op := 0x000D, ports := hostPorts, stage := 1 } (settingsCommitCmd reqAddr reqLen)) s

/-! ### The end of a flash write (R621, R622, R625) -/

/-- Bank 0 is the newer valid bank, so that bank 1 is idle. -/
def bank0Newer (s : Block) : Bool :=
  match s.nv.bank0, s.nv.bank1 with
  | some a, some b => decide (b.seq.toNat ≤ a.seq.toNat)
  | some _, none => true
  | none, _ => false

/-- Put contents into the idle bank: none while it is erased. -/
def putBank (b : Option SetBank) (s : Block) : Block :=
  modNv (fun n => if bank0Newer s then { n with bank1 := b } else { n with bank0 := b }) s

/-- A settings write in progress is cut off: the idle bank is not valid (R636). -/
def cutBankWrite (s : Block) : Block :=
  match s.fwu.jobs with
  | .settings _ _ :: _ => putBank none s
  | _ => s

/-- A settings bank has been written: what it changes (R586, R608, R611). -/
def bankWritten (b : SetBank) (op2 : Nat) (s : Block) : Block :=
  let s := { putBank (some b) s with gr := { s.gr with committed := b.recs } }
  if op2 == 0x000D then
    let now := b.recs.filter (fun x => [0x0006, 0x0008, 0x0009, 0x000B, 0x000F, 0x0010].contains x.1)
    let s := { s with gr := { s.gr with
      staged := s.gr.staged.filter (fun x => !b.recs.contains x),
      applied := now.foldl (fun l x => putSetting x.1 x.2 l) s.gr.applied } }
    (applyCommit s).closeFirst 0x000D 0 St.ok
  else if op2 == 0x0B09 then
    ((modSec (fun x => { x with keyNow := b.keyNow, keyOld := b.keyOld }) s).putB Rg.sec Rg.sSealKey true).closeFirst
      0x0B09 0 St.ok
  else if op2 == 0x0B0A then
    updateHoldCheck ((modSec (fun x => { x with policy := b.policy.getD 1 }) s).closeFirst 0x0B0A 0 St.ok)
  else s

/-- The program buffer's bytes are programmed behind those before them (R621). -/
def programImage (ok : Bool) (s : Block) : Block :=
  let off := slotBase (stagingSlot s) + (fwTaken s - s.fwu.buffer.length)
  modFwu (fun x => { x with buffer := [], flashBad := x.flashBad || !ok }) (flashProgram off s.fwu.buffer s)

/-- FLASH_PROGRAM_DONE: the record or bank being written, or else image data. No settings or image write goes on while R647
holds it off. -/
def flashProgramDoneStep (ok : Bool) (s : Block) : Block :=
  match s.fwu.jobs with
  | .record r op2 :: js =>
    let s := modFwu (fun x => { x with jobs := js }) s
    if ok then recordWritten r op2 s else s.close op2 0 St.flashFail
  | .settings b op2 :: js =>
    if !powerGood s then s
    else
      let s := modFwu (fun x => { x with jobs := js }) s
      if ok then bankWritten b op2 s else (putBank none s).closeFirst op2 0 St.flashFail
  | [] => if s.fwu.buffer.isEmpty || s.fwu.erasing || !powerGood s then s else programImage ok s

def execFlashProgramDone (ok : Bool) (s : State) : Host.Outcome State Fault Refusal := live (flashProgramDoneStep ok) s

end Sys2Proof.Machine
end

