-- ==== Sys2Proof/Machine/Power.lean ====
section
/-! DEFINITION. Power and thermal (22), and the root PLL's loss of lock (R85), which a thermal trip acts as. -/

namespace Sys2Proof.Machine

/-! ### Making the part safe (R85, R651) -/

/-- The Ring Port closes its bypass and stands in BYPASSED, its receiver off, so that no ring reference is left (R58).  A RING_LEAVE that
waits has what it asked for and is answered OK; a RING_JOIN that waits is answered REFUSED_STATE (DESIGN CHOICE: the spec names no
answer). -/
def ringClose (s : Block) : Block :=
  let s := ((s.put Rg.ring Rg.ringState 0).putB Rg.ring Rg.ringBypassOpen false).putB Rg.ring Rg.ringLocked false
  let s := { (s.putB Rg.clk Rg.clkRingOk false).putB Rg.rst Rg.ringJoined false with
    ring := { s.ring with window := none, holdOff := false, timeoutRaised := false } }
  (s.close 0x000F 0 St.ok).close 0x000E 0 St.refusedState

/-- Every HP and HV pin goes to its safe state. -/
def allPinsSafe (s : Block) : Block :=
  let s := forEach (upto 24) (fun n s => modTpp n (fun t => { t with drv := 0, owned := 0, term := [] }) s) s
  forEach (upto 4) (fun d s => forEach diePins (pinToSafe d) s) s

/-- The response to a root PLL loss of lock (R85): derived clocks gated, pins safe, bypass closed, lanes idle, Greone on the
backup oscillator, CLOCK_FAULT. -/
def clockFault (s : Block) : Block :=
  if s.flag Rg.clk Rg.clkClockFault then s
  else
    let s := forEach (upto 128) laneOff (ringClose (allPinsSafe s))
    let s := { s.putB Rg.clk Rg.clkClockFault true with clk := { s.clk with gated := true, backup := true } }
    (s.raise Ev.clockFault (originOf 0x04)).eicEdge srcRootClock

/-- ROOT_PLL_UNLOCK. -/
def rootPllUnlockStep (s : Block) : Block :=
  if s.flag Rg.clk Rg.clkLocked then clockFault (s.putB Rg.clk Rg.clkLocked false) else s

def execRootPllUnlock (s : State) : Host.Outcome State Fault Refusal := live rootPllUnlockStep s

/-! ### Power warning and hold-up (R646 to R648) -/

/-- ORIGIN of the power block. -/
def pwrOrigin : Nat := originOf 0x05

/-- The EIC source of the power warning and the hold-up supply (R532). -/
def srcPower : Nat := 1289

/-- Work in progress ends as R647 gives. -/
def powerLost (s : Block) : Block := updateHoldCheck (cutBankWrite s)

/-- POWER_WARN. -/
def powerWarnStep (s : Block) : Block :=
  if s.flag Rg.pwr Rg.pWarn then s
  else
    let s := (s.putB Rg.pwr Rg.pWarn true).bumpBy Rg.pStatus warnCnt 1
    powerLost ((s.raise Ev.powerWarn pwrOrigin).eicEdge srcPower)

def execPowerWarn (s : State) : Host.Outcome State Fault Refusal := live powerWarnStep s

/-- HOLDUP_LOST. -/
def holdupLostStep (s : Block) : Block :=
  if s.flag Rg.pwr Rg.pHoldup then
    powerLost (((s.putB Rg.pwr Rg.pHoldup false).raise Ev.holdupLost pwrOrigin).eicEdge srcPower)
  else s

def execHoldupLost (s : State) : Host.Outcome State Fault Refusal := live holdupLostStep s

/-- POWER_WARN_CLEAR: requests that wait for good power start. -/
def powerWarnClearStep (s : Block) : Block :=
  if s.flag Rg.pwr Rg.pWarn then
    fuseStart (((s.putB Rg.pwr Rg.pWarn false).raise Ev.powerWarnClear pwrOrigin).eicEdge srcPower)
  else s

def execPowerWarnClear (s : State) : Host.Outcome State Fault Refusal := live powerWarnClearStep s

/-- HOLDUP_GOOD. -/
def holdupGoodStep (s : Block) : Block :=
  if s.flag Rg.pwr Rg.pHoldup then s
  else fuseStart (((s.putB Rg.pwr Rg.pHoldup true).raise Ev.holdupGood pwrOrigin).eicEdge srcPower)

def execHoldupGood (s : State) : Host.Outcome State Fault Refusal := live holdupGoodStep s

/-! ### Temperature (R649 to R651) -/

def modPwr (f : PwrSt → PwrSt) (s : Block) : Block := { s with pwr := f s.pwr }

/-- A thermal trip: as a root PLL loss of lock, with THERMTRIP_N driven low. -/
def thermTrip (s : Block) : Block :=
  if s.flag Rg.pwr Rg.pThermTrip then s
  else ((clockFault s).putB Rg.pwr Rg.pThermTrip true).emit (.thermTrip true)

/-- Calibrations of the TPPs of a die are stale where its temperature, in quarters of a degree, has left 10 °C around that of
the calibration (R290, R293). -/
def calTempCheck (d : Nat) (t : Int) (s : Block) : Block :=
  forEach (upto 6) (fun i s =>
    let n := 6 * d + i
    match (upto 48).find? (pinAssigned s n) with
    | none => s
    | some k =>
      let c : Int := 4 * ((s.f (Rg.tpp n) (Rg.calTemp k) : Int) - 64)
      when (decide (40 < (t - c).natAbs)) (tppCalStale n) s) s

/-- One die's reading. -/
def thermalOne (d : Nat) (x : BitVec 12) (s : Block) : Block :=
  let t := sgn 12 x.toNat
  let th : Int := 4 * (s.f Rg.pwr (Rg.thThresh d) : Int)
  let s := s.put Rg.pwr (Rg.thTemp d) x.toNat
  let s := when (decide (sgn 12 (s.f Rg.pwr (Rg.thMax d)) < t)) (fun s => s.put Rg.pwr (Rg.thMax d) x.toNat) s
  let hot := decide (th ≤ t)
  let s := s.putB Rg.pwr (Rg.pThermWarn d) hot
  let bit : BitVec 5 := BitVec.ofNat 5 (2 ^ d)
  let s :=
    if hot && !s.pwr.warned.getLsbD d then
      (modPwr (fun p => { p with warned := p.warned ||| bit }) s).raise Ev.thermWarn pwrOrigin d
    else if decide (t ≤ th - 20) then modPwr (fun p => { p with warned := p.warned &&& ~~~bit }) s
    else s
  let crit := decide (440 ≤ t)
  let s := if crit && !s.pwr.crit.getLsbD d then s.raise Ev.thermCrit pwrOrigin d else s
  let s := modPwr (fun p => { p with crit := if crit then p.crit ||| bit else p.crit &&& ~~~bit }) s
  when (decide (d < 4)) (calTempCheck d t) s

/-- The dies that read 120 °C or more. -/
def tripDies (temps : List (BitVec 12)) : BitVec 5 :=
  BitVec.ofNat 5 (((upto 5).filter (fun d => decide (480 ≤ sgn 12 (temps.getD d 0).toNat))).foldl (fun m d => m + 2 ^ d) 0)

/-- THERMAL_SAMPLE: the highest reading of each die, HD as die 4. -/
def thermalSampleStep (temps : List (BitVec 12)) (s : Block) : Block :=
  let s := forEach (upto 5) (fun d s => thermalOne d (temps.getD d 0) s) s
  let again := s.pwr.trip &&& tripDies temps
  let s := modPwr (fun p => { p with trip := tripDies temps }) s
  when (again != 0) thermTrip s

def execThermalSample (temps : List (BitVec 12)) (s : State) : Host.Outcome State Fault Refusal :=
  live (thermalSampleStep temps) s

/-! ### Rails (R639, R649) -/

/-- Nominal voltage in mV and tolerance in percent of rail i of RAIL_FAULT; a channel pair on DDR4 takes 1.2 V (R377). -/
def railNominal (s : Block) (i : Nat) : Nat × Nat :=
  if i < 5 || i == 12 then (750, 3)
  else if i == 5 then (1800, 5)
  else if i < 10 then
    let p := i - 6
    (if s.flag (Rg.dc (2 * p)) Rg.dcDdr4 || s.flag (Rg.dc (2 * p + 1)) Rg.dcDdr4 then 1200 else 1100, 3)
  else if i == 10 then (900, 3)
  else (1200, 3)

/-- A reading lies in the rail's tolerance. -/
def railOk (s : Block) (i mv : Nat) : Bool :=
  let x := railNominal s i
  decide ((100 - x.2) * x.1 ≤ 100 * mv) && decide (100 * mv ≤ (100 + x.2) * x.1)

/-- One rail's reading: RAIL_OUT_OF_RANGE once when it has been out of tolerance for 10 ms. -/
def railOne (i mv : Nat) (s : Block) : Block :=
  let ok := railOk s i mv
  let s := s.putB Rg.pwr (Rg.pRailFault i) (!ok)
  let s := modPwr (fun p => { p with rails := spSet (fun _ => 0) p.rails i mv }) s
  let keep (v : Option (BitVec 64 × Bool)) (s : Block) : Block :=
    modPwr (fun p => { p with railBad := spSet (fun _ => none) p.railBad i v }) s
  if ok then keep none s
  else
    match spGet (fun _ => none) s.pwr.railBad i with
    | none => keep (some (s.devTime, false)) s
    | some (t, said) =>
      if !said && decide (t.toNat + 10000000 ≤ s.devTime.toNat) then
        (keep (some (t, true)) s).raise Ev.railOutOfRange pwrOrigin i
      else s

/-- RAIL_SAMPLE: the 13 rails in the order of RAIL_FAULT, in mV. -/
def railSampleStep (mv : List Nat) (s : Block) : Block :=
  forEach (upto 13) (fun i s => match mv[i]? with
    | some v => railOne i (v % 0x10000) s
    | none => s) s

def execRailSample (mv : List Nat) (s : State) : Host.Outcome State Fault Refusal := live (railSampleStep mv) s

/-! ### Commands -/

def needPwr (op : Nat) : Need := { op := op, ports := hostPorts, stage := 1 }

/-- PWR_STATUS: the register, the temperatures of the five dies, the readings of the 13 rails. -/
def pwrStatusCmd (c : Cmd) (s : Block) : Block :=
  s.respond c St.ok ([(8, (s.reg Rg.pStatus).toNat)] ++
    (upto 5).map (fun d => (2, unsgn 16 (sgn 12 (s.f Rg.pwr (Rg.thTemp d))))) ++
    (upto 13).map (fun i => (2, spGet (fun _ => 0) s.pwr.rails i)))

def execPwrStatus (h : Hdr) (s : State) : Host.Outcome State Fault Refusal :=
  live (fun s => s.command h (needPwr 0x0D00) pwrStatusCmd) s

/-- THERM_SET: a threshold from 60 °C to 105 °C. -/
def thermSetCmd (die thresh : Nat) (c : Cmd) (s : Block) : Block :=
  if 4 < die then s.respond c St.badArg
  else if thresh < 60 || 105 < thresh then s.respond c St.thermRange
  else (s.put Rg.pwr (Rg.thThresh die) thresh).respond c St.ok

def execThermSet (h : Hdr) (die thresh : Nat) (s : State) : Host.Outcome State Fault Refusal :=
  live (fun s => s.command h (needPwr 0x0D01) (thermSetCmd die thresh)) s

end Sys2Proof.Machine
end

