-- ==== Sys2Proof/Machine/PlateFormat.lean ====
section
/-! DEFINITION. The plate format (07): the header, the section table and the sections, and what the loader checks before it writes
anything (R194 to R205, R208 to R211, R216, R225). -/

namespace Sys2Proof.Machine

/-! ### Statuses of a load (R211) -/

def ldBadHeader : Nat := 0x0100
def ldWrongDevice : Nat := 0x0101
def ldSectionCrc : Nat := 0x0102
def ldFrameReject : Nat := 0x0103
def ldSigFail : Nat := 0x0104
def ldSealFail : Nat := 0x0105
def ldSvnLow : Nat := 0x0106
def ldRegionBusy : Nat := 0x0107
def ldTypeMismatch : Nat := 0x0108
def ldClockConflict : Nat := 0x0109
def ldPinBusy : Nat := 0x010A
def ldLinkUnroutable : Nat := 0x010B
def ldSourceError : Nat := 0x010C
def ldAborted : Nat := 0x010D
def ldReloadBad : Nat := 0x010E
def ldFrameWriteFail : Nat := 0x010F

/-! ### The part (R1, R4) -/

/-- Silicon revision of the part (R3, in the coding of R195). -/
def partRev : Nat := 0xB0

/-! ### Reading a plate (R205) -/

/-- n bytes of a source: the configuration flash, or device memory in the clear view. -/
def plateRead (flash : Bool) (addr n : Nat) (s : Block) : Option (List Nat) × Block :=
  if flash then (some (flashBytes s addr n), s) else readMem srcGreone addr n s

/-- What R194 to R196 say of a header apart from its fields: MAGIC, FORMAT, HEADER_CRC, KIND, the place of the table, FLAGS. -/
def headerOk (bs : List Nat) : Bool :=
  fieldAt bs 0 4 == 0x544C5056 && fieldAt bs 4 2 == 2 && fieldAt bs 0xFC 4 == crc32 (bs.take 0xFC) &&
    decide (fieldAt bs 6 2 ≤ 2) && fieldAt bs 0x1C 4 == 0x100 && decide (fieldAt bs 0xE 1 < 4) && decide (fieldAt bs 0xD 1 < 4)

/-- The device fields of a header fit the part (R196). -/
def headerFits (speed : Nat) (bs : List Nat) : Bool :=
  fieldAt bs 8 2 == 0x9480 && decide (fieldAt bs 0xA 1 ≤ speed) && decide (fieldAt bs 0xB 1 ≤ partRev)

/-- The fields of a header (R195). -/
def headerOf (bs : List Nat) : PlateHdr :=
  { kind := fieldAt bs 6 2, secType := fieldAt bs 0xC 1, owner := fieldAt bs 0xD 1, autoRel := fieldAt bs 0xE 1 % 2 == 1,
    sealed := fieldAt bs 0xE 1 / 2 % 2 == 1, svn := fieldAt bs 0xF 1, totalLen := fieldAt bs 0x10 8, sections := fieldAt bs 0x18 4,
    designId := BitVec.ofNat 128 (fieldAt bs 0x20 16), map := BitVec.ofNat 320 (fieldAt bs 0x40 40),
    ivBase := BitVec.ofNat 64 (fieldAt bs 0x68 8) }

/-- Descriptor i of a section table (R197). -/
def sectionAt (bs : List Nat) (i : Nat) : PlateSec :=
  let d := (bs.drop (96 * i)).take 96
  { index := i, typ := fieldAt d 0 1, die := fieldAt d 1 1, sector := fieldAt d 2 1, sealed := fieldAt d 3 1 % 2 == 1, count := fieldAt d 4 4,
    off := fieldAt d 8 8, len := fieldAt d 0x10 8, tag := fieldAt d 0x18 16, digest := BitVec.ofNat 256 (fieldAt d 0x28 32),
    aad := d.take 0x18 }

/-- A descriptor is well formed (R197): its type, scope, place and length. A relocatable plate has no REGIONS, FPLL, IO or NOC. -/
def sectionOk (h : PlateHdr) (d : PlateSec) : Bool :=
  let device := d.typ == 1 || d.typ == 7
  let perSector := d.typ == 2 || d.typ == 3
  decide (1 ≤ d.typ) && decide (d.typ ≤ 7) && (if device then d.die == 0xFF else decide (d.die < 4)) &&
    (if perSector then decide (d.sector < 80) else d.sector == 0xFF) && d.off % 64 == 0 &&
    decide (0x100 + 96 * h.sections ≤ d.off) && decide (d.off + d.len + 512 ≤ h.totalLen) &&
    (d.typ != 2 || d.len == 264 * d.count) && (d.typ != 1 || d.len == 1344) &&
    !(h.kind == 2 && (d.typ == 1 || d.typ == 4 || d.typ == 5 || d.typ == 6)) && (h.sealed || !d.sealed)

/-- The device sector of a per-sector section, moved to the target of a relocatable plate (R225). -/
def sectionSector (h : PlateHdr) (targets : List Nat) (d : PlateSec) : Nat :=
  if h.kind == 2 then targets.headD 0 else 80 * d.die + d.sector

/-- A plate may stand at an address (R205): the configuration flash, DRAM, or host memory through the H0 window. -/
def plateSource (s : Block) (flash : Bool) (addr : Nat) : Bool :=
  flash ||
  match destOf s addr with
  | .dram _ _ => true
  | .site 0 _ => true
  | _ => false

/-- Stored bytes of a section in the clear, or the status that ends the load: a tag that no sealing key opens (R204, R609). -/
def unsealed (l : Load) (d : PlateSec) (bs : List Nat) : Nat ⊕ List Nat :=
  if !d.sealed then .inr bs
  else
    let iv := leBytes 8 l.hdr.ivBase.toNat ++ leBytes 4 d.index
    match l.keys.findSome? (fun k => gcmOpen (leBytes 32 k.toNat) iv d.aad bs (leBytes 16 d.tag)) with
    | some p => .inr p
    | none => .inl ldSealFail

/-- A section of a load as STREAM has read it (R205): a section that could not be read ends the load. -/
def sectionBytes (l : Load) (d : PlateSec) : Nat ⊕ List Nat :=
  match l.bytes.lookup d.index with
  | none => .inl ldSourceError
  | some bs => unsealed l d bs

/-- The sections of a load are read, device-wide ones first (R205). DESIGN CHOICE: each is read once, as STREAM begins, and what the loader
writes, hashes and opens is what it read then. -/
def readSections (l : Load) (s : Block) : List (Nat × List Nat) × Block :=
  let device (d : PlateSec) : Bool := d.die == 0xFF
  (l.secs.filter device ++ l.secs.filter (fun d => !device d)).foldl (fun (x : List (Nat × List Nat) × Block) d =>
    match x.1.lookup d.index with
    | some _ => x
    | none =>
      let r := plateRead l.flash (l.addr + d.off) d.len x.2
      match r.1 with
      | some bs => (x.1 ++ [(d.index, bs)], r.2)
      | none => (x.1, r.2)) (l.bytes, s)

/-! ### Sectors -/

def secState (s : Block) (k : Nat) : Nat := s.f (Rg.sector k) Rg.secState
def secRegion (s : Block) (k : Nat) : Nat := s.f (Rg.sector k) Rg.secRegion
def secSpare (s : Block) (k : Nat) : Bool := s.flag (Rg.sector k) Rg.secSpare

/-- A load holds a sector, or has it as a target while its freeze runs. -/
def sectorLoading (s : Block) (k : Nat) : Bool := secState s k == 1 || s.cfg.loads.any (fun l => l.targets.contains k)

/-- A sector lies in a column whose power is off (R470), or on a die that does not run. -/
def sectorOff (s : Block) (k : Nat) : Bool :=
  let m := 10 * (k / 80) + k % 80 / 8
  s.net.domOff.contains m || s.net.domDrain.contains m || dieOff s (k / 80)

/-! ### The checks of CHECK (R208 to R211, R216, R225) -/

/-- What a load is asked to do. -/
structure LoadAsk where
  op2      : Nat
  flash    : Bool
  addr     : Nat
  len      : Option Nat
  freeze   : Bool
  retain   : Bool
  target   : Nat
  region   : Nat
  policy   : BitVec 32
  moveFrom : Option Nat
  auto     : Bool
  boot     : Bool
deriving DecidableEq, Repr

/-- Regions and policies of the plate's sectors, from its REGIONS section: REGION_OF and the POLICY words. -/
def regionsOf (bs : List Nat) (targets : List Nat) : List Nat × List (Nat × BitVec 32) :=
  let rs := targets.map (fun k => bs.getD k 0)
  (rs, (rs.eraseDups).map (fun r => (r, BitVec.ofNat 32 (fieldAt bs (320 + 4 * r) 4))))

/-- The targets fit the plate's kind (R211 TYPE_MISMATCH): a relocatable plate goes to an EMPTY sector of its type; another names by
REGION_OF and by its sections the sectors of its map alone. -/
def targetsFit (s : Block) (l : Load) (regionOf : List Nat) : Bool :=
  if l.hdr.kind == 2 then
    l.targets.all (fun k => decide (k < 320) && secState s k == 0 && !sectorOff s k && sectorType k == l.hdr.secType) &&
      (bitsOf 320 l.hdr.map.toNat).length == 1
  else
    !l.targets.isEmpty && l.regions.all (fun r => r != 0) &&
      (upto 320).all (fun k => l.hdr.map.getLsbD k || regionOf.getD k 0 == 0) &&
      l.secs.all (fun d => !(d.typ == 2 || d.typ == 3) || l.hdr.map.getLsbD (80 * d.die + d.sector)) &&
      l.targets.all (fun k => !sectorOff s k)

/-- REGION_BUSY (R210): a target is LOADING, LIVE without freeze-first, or a spare where the load is no relocation. DESIGN CHOICE: also
where a region that the plate names holds other sectors, which would not be in one state with the targets (R190); R210 gives no effect
for it. -/
def targetsBusy (s : Block) (l : Load) (freeze : Bool) : Bool :=
  l.targets.any (fun k => sectorLoading s k || (secState s k == 3 && !freeze) || (secSpare s k && l.hdr.kind != 2)) ||
    (l.moveFrom.isNone && (upto 320).any (fun k => secState s k != 0 && l.regions.contains (secRegion s k) && !l.targets.contains k))

/-- CHECK (R208, R209): a load, or the status that refuses it. A reload or relocation of a retained plate is not checked against the
plate counter (R602). A placement takes its region, 1 to 255, from the command (R189, R197). -/
def checkPlate (q : LoadAsk) (s : Block) : (Nat ⊕ Load) × Block :=
  let retained := q.moveFrom.isSome
  if !plateSource s q.flash q.addr then (.inl ldSourceError, s) else
  let r := plateRead q.flash q.addr 256 s
  match r.1 with
  | none => (.inl ldSourceError, r.2)
  | some bs =>
    let h := headerOf bs
    if !headerOk bs || decide ((q.len.getD h.totalLen) < h.totalLen) || h.totalLen < 0x300 + 96 * h.sections then (.inl ldBadHeader, r.2)
    else if h.kind == 2 && !(decide (1 ≤ q.region) && decide (q.region < 256)) then (.inl St.badArg, r.2)
    else if !headerFits s.nv.speed bs then (.inl ldWrongDevice, r.2)
    else if !retained && 63 < h.svn then (.inl St.rollbackExhausted, r.2)
    else if !retained && h.svn < counterReading s 1 then (.inl ldSvnLow, r.2)
    else
      let t := plateRead q.flash (q.addr + 0x100) (96 * h.sections) r.2
      match t.1 with
      | none => (.inl ldSourceError, t.2)
      | some tb =>
        let secs := (upto h.sections).map (sectionAt tb)
        let targets := if h.kind == 2 then [q.target] else bitsOf 320 h.map.toNat
        let l : Load :=
          { id := s.cfg.nextLoad, op2 := q.op2, state := 0, flash := q.flash, addr := q.addr, hdr := h, secs := secs, targets := targets,
            regions := targets.map (fun _ => q.region), policies := [(q.region, q.policy)],
            retain := q.retain && (q.flash || decide (q.addr < 0x20000000000)), moveFrom := q.moveFrom, auto := q.auto, boot := q.boot,
            records := [], keys := s.sec.keyNow.toList ++ s.sec.keyOld.toList,
            signed := bs ++ tb, bytes := [], links := [], plls := [] }
        if !secs.all (sectionOk h) || (secs.filter (fun d => d.typ == 1)).length != (if h.kind == 2 then 0 else 1) then
          (.inl ldBadHeader, t.2)
        else
          let g := match secs.find? (fun d => d.typ == 1) with
            | some d =>
              let y := plateRead l.flash (l.addr + d.off) d.len t.2
              (y.1.map (fun bs => (d, bs)), y.2)
            | none => (none, t.2)
          let l := { l with bytes := g.1.toList.map (fun x => (x.1.index, x.2)) }
          match (if h.kind == 2 then .inr [] else match g.1 with
              | some x => unsealed l x.1 x.2
              | none => .inl ldSourceError) with
          | .inl st => (.inl st, g.2)
          | .inr rb =>
            let l := if h.kind == 2 then l else { l with regions := (regionsOf rb targets).1, policies := (regionsOf rb targets).2 }
            if targetsBusy s l q.freeze then (.inl ldRegionBusy, g.2)
            else if !targetsFit s l rb then (.inl ldTypeMismatch, g.2)
            else
              let recs := (secs.filter (fun d => d.typ == 2)).flatMap (fun d => (upto d.count).map (fun i => (d.index, i)))
              (.inr { l with records := recs }, g.2)

/-! ### Frames (R198 to R200) -/

/-- The content of a frame record. -/
def frameData (rb : List Nat) : BitVec 2048 := BitVec.ofNat 2048 (leNat ((rb.drop 4).take 256))

/-- FRAME_ADDR of a frame of a sector. -/
def frameAddr (k n : Nat) : Nat := k / 80 * 2 ^ 30 + k % 80 * 2 ^ 23 + n * 2 ^ 10

/-- A frame record names a frame of its section's sector. -/
def frameNames (d : PlateSec) (fa : Nat) : Bool :=
  fa % 1024 == 0 && fldGet fa 30 2 == d.die && fldGet fa 23 7 == d.sector && decide (fldGet fa 10 13 < 6656)

/-! ### RAM sections (R202) -/

/-- A RAM initialisation record: kind, index, form and data. -/
structure RamRec where
  kind  : Nat
  index : Nat
  form  : Nat
  data  : List Nat
deriving DecidableEq, Repr

/-- The data length that a record's kind and form give, 0 where there is none. -/
def ramRecLen (kind form : Nat) : Nat :=
  if kind == 0 then (if form == 0 then 4608 else 4096)
  else if kind == 1 then (if form == 0 then 36864 else 32768)
  else if kind ≤ 3 then 2304 else 0

/-- The records of a RAM section: none where a CRC fails or a record is malformed. -/
def ramRecords : Nat → List Nat → Option (List RamRec)
  | 0, l => if l.isEmpty then some [] else none
  | n + 1, l =>
    if l.isEmpty then some []
    else
      let len := fieldAt l 4 4
      let kind := fieldAt l 0 1
      let form := fieldAt l 2 1
      let idx := fieldAt l 1 1
      let ok := decide (form ≤ 1) && len == ramRecLen kind form
      if !ok || len == 0 || l.length < len + 12 || !(if kind == 0 then idx < 60 else if kind == 1 then idx < 8 else idx < 48) ||
          fieldAt l (8 + len) 4 != crc32 (l.take (8 + len)) then none
      else (ramRecords n (l.drop (len + 12))).map (fun rs =>
        { kind := kind, index := idx, form := form, data := (l.drop 8).take len } :: rs)

/-- The words of w bits that a record's data hold, as a memory's contents. -/
def packWords (w n : Nat) (data : List Nat) : Sp (BitVec w) :=
  let v := leNat data
  (upto n).foldl (fun m i => spSet (fun _ => (0 : BitVec w)) m i (BitVec.ofNat w (v / 2 ^ (w * i)))) []

/-- The contents a record gives a RAM of 72-bit words: all bits, or in ECC mode the 64 data bits of each word (R143). -/
def ramWords (r : RamRec) : Sp (BitVec 72) :=
  let n := if r.kind == 0 then 512 else 4096
  if r.form == 0 then packWords 72 n r.data
  else (packWords 64 n r.data).foldl (fun m x => spSet (fun _ => (0 : BitVec 72)) m x.1 (x.2.setWidth 72)) []

/-! ### Link records (R219) -/

/-- A record of a LINKS section (R219): LINK_ID and the link; none where a field lies outside its range or a zero field is not zero. -/
def linkRecords : Nat → List Nat → Option (List (Nat × Link))
  | 0, l => if l.isEmpty then some [] else none
  | n + 1, l =>
    if l.isEmpty then some []
    else
      let hops := fieldAt l 14 1
      if l.length < 16 + 8 * hops || fieldAt l 0 2 == 0 || fieldAt l 2 1 ≥ 32 || fieldAt l 3 1 == 0 || 32 < fieldAt l 3 1 ||
          320 ≤ fieldAt l 4 2 || 320 ≤ fieldAt l 8 2 || !lineOk (fieldAt l 6 2) || !lineOk (fieldAt l 10 2) || fieldAt l 12 1 == 0 ||
          4 < fieldAt l 12 1 || 2 ≤ fieldAt l 13 1 || fieldAt l 15 1 != 0 then none
      else
        let hop (i : Nat) : Hop :=
          let o := 16 + 8 * i
          { sector := fieldAt l o 2, line := fieldAt l (o + 2) 2, exit := fieldAt l (o + 4) 1, mask := fieldAt l (o + 5) 1,
            group := fieldAt l (o + 6) 2 }
        let x : Link :=
          { clock := fieldAt l 2 1, latency := fieldAt l 3 1, sendSec := fieldAt l 4 2, sendLine := fieldAt l 6 2, recvSec := fieldAt l 8 2,
            recvLine := fieldAt l 10 2, recvTap := fieldAt l 12 1, freeze := fieldAt l 13 1 % 2 == 1, hops := (upto hops).map hop,
            writing := false }
        (linkRecords n (l.drop (16 + 8 * hops))).map (fun r => (fieldAt l 0 2, x) :: r)

/-! ### Signature (R203) -/

/-- The signature of a plate under its owner slot's key, over the header and the section table as CHECK read them; a revoked or absent slot's key
signs nothing (R597). The rest of the signature block is zero. -/
def plateSigned (l : Load) (s : Block) : Option Bool × Block :=
  let b := plateRead l.flash (l.addr + l.hdr.totalLen - 512) 512 s
  (b.1.map (fun g => slotReading (ownerFuse s l.hdr.owner) == 1 && keyMatches s l.hdr.owner && zeroFrom g 384 512 &&
    (match spGet (fun _ => none) s.nv.ownerKeys l.hdr.owner with
     | some k => rsaOk k l.signed (g.take 384)
     | none => false)), b.2)

/-- What STREAM read of every section has the digest that its descriptor gives. -/
def digestsOk (l : Load) : Bool :=
  l.secs.all (fun d => match l.bytes.lookup d.index with
    | some bs => sha256 bs == d.digest
    | none => false)

/-- The source of a retained plate has the digests recorded of its sections (R230). -/
def digestsMatch (flash : Bool) (addr : Nat) (secs : List (Nat × Nat × BitVec 256)) (s : Block) : Bool × Block :=
  secs.foldl (fun (x : Bool × Block) d =>
    let r := plateRead flash (addr + d.1) d.2.1 x.2
    (x.1 && (match r.1 with
      | some bs => sha256 bs == d.2.2
      | none => false), r.2)) (true, s)

end Sys2Proof.Machine
end

