-- ==== Sys2Proof/Machine/Plates.lean ====
section
/-! DEFINITION. Plates (07): the loader, release, freezing and reset of regions, links, relocation, and the configuration scrub. -/

namespace Sys2Proof.Machine

/-- The origin of a sector's events: the configuration engine of its die. -/
def cfgOrigin (d : Nat) : Nat := originOf (0x20 + 0x20 * d)

/-! ### What a region owns -/

/-- The sectors of a region in a state. -/
def sectorsIn (s : Block) (r st : Nat) : List Nat := (regionSectors s r).filter (fun k => secState s k == st)

/-- The access points, as port IDs, and the pins, by 384 d + n, that belong to a region. -/
def regionAps (s : Block) (r : Nat) : List Nat :=
  ((spKeys s.cfg.apOwner).filter (fun i => spGet (fun _ => 0) s.cfg.apOwner i == r)).map (fun i => 256 * (i / 96) + i % 96)
def regionPins (s : Block) (r : Nat) : List Nat :=
  (spKeys s.cfg.pinOwner).filter (fun i => spGet (fun _ => 0) s.cfg.pinOwner i == r)

/-- A pin of some region that its plate gives to the fabric, and that a sector of the region reaches (R250). -/
def fabricPin (s : Block) (i : Nat) : Bool :=
  s.f (Rg.ioPin (i / 384) (i % 384)) Rg.pinOwner == 1 &&
    s.f (Rg.sector (pinSector (i / 384) (i % 384))) Rg.secRegion == spGet (fun _ => 0) s.cfg.pinOwner i

/-- The Seam groups at some sectors that a plate of either side sets. -/
def seamsOf (s : Block) (ks : List Nat) : List (Nat × Nat) :=
  (ks.flatMap (fun k => match sectorSeam k with
    | none => []
    | some (e, g, _) => [0, 1].flatMap (fun side => (cfgKeys s (seamSector e g side) .seamDir).map (fun i => (e, g + keyPlace i))))).eraseDups

/-- DIR, IN_USE and DIR_CONFLICT of the Seam groups at some sectors follow their states. -/
def seamTouch (ks : List Nat) (s : Block) : Block := (seamsOf s ks).foldl (fun s p => seamRefresh p.1 p.2 s) s

/-- The FAB mailbox no longer answers: its run lock is released (R630). -/
def fabGone (was : Bool) (s : Block) : Block := when (was && !fabAnswers s) (releaseRun 5) s

/-! ### Clearing (R116, R190) -/

/-- A sector's contents are the cleared content (R116): frames, RAMs and engines, but for the transit fields of links (R190, R220). -/
def clearSector (k : Nat) (s : Block) : Block :=
  let touched := seamsOf s [k]
  let inF (i : Nat) : Bool := i / 6656 == k
  let s := clearStarved k (shutterStale k s)
  let s : Block := { s with rams := spClear (fun i => i / 68 == k) s.rams }
  let s : Block := { s with engines := spClear (fun e => e / 48 == k) s.engines }
  let s := modCfg (fun c => { c with
    frames := spClear inF c.frames, upsets := spClear inF c.upsets, fixes := spClear inF c.fixes, mbeWait := c.mbeWait.filter (· != k) }) s
  let s := rewriteRoutes (linkInSector k) (fabricInit k (clearFields k s))
  touched.foldl (fun s p => seamRefresh p.1 p.2 s) s

/-- A region that holds no sector any more owns nothing; what its last load ended with stays. -/
def dropRegion (r : Nat) (s : Block) : Block :=
  if !(regionSectors s r).isEmpty || r == 0 then s
  else
    let pins := regionPins s r
    let s := pins.foldl (fun s i => (pinToSafe (i / 384) (i % 384) s).put (Rg.ioPin (i / 384) (i % 384)) Rg.pinOwner 0) s
    let s := (regionAps s r).foldl (fun s p => closePort p s) s
    let plls := (spKeys s.cfg.fplls).filter (fun i => match spGet (fun _ => none) s.cfg.fplls i with
      | some p => p.region.toNat == r
      | none => false)
    let s := plls.foldl (fun s i => (s.putB (Rg.fpll (i / 16) (i % 16)) Rg.fpllInUse false).putB (Rg.fpll (i / 16) (i % 16)) Rg.fpllLocked false) s
    let s := modCfg (fun c => { c with
      apOwner := spClear (fun i => spGet (fun _ => 0) c.apOwner i == r) c.apOwner,
      pinOwner := spClear (fun i => spGet (fun _ => 0) c.pinOwner i == r) c.pinOwner,
      fplls := spClear (fun i => plls.contains i) c.fplls,
      nets := spClear (fun i => match spGet (fun _ => none) c.nets i with
        | some x => plls.contains (16 * (i / 32) + x.1)
        | none => false) c.nets }) s
    setRegion r { Region.none with lastLoad := (getRegion s r).lastLoad } s

/-- A sector becomes EMPTY; HARD_FAULT and its place in the spare pool stay. -/
def emptySector (k : Nat) (s : Block) : Block :=
  let r := secRegion s k
  let a := Rg.sector k
  dropRegion r (clearSector k ((((tapsFall [k] s).put a Rg.secState 0).put a Rg.secRegion 0).putB a Rg.secRelocated false))

/-- The TPPs of the dies that some sectors lie on follow what is LIVE. -/
def tppsFollow (ks : List Nat) (s : Block) : Block := forEach ((upto 24).filter (fun n => ks.any (fun k => k / 80 == n / 6))) tppPlates s

def emptySectors (ks : List Nat) (s : Block) : Block :=
  let was := fabAnswers s
  fabGone was (tppsFollow ks (forEach ks emptySector s))

/-! ### Freezing (R214) and releasing (R213) -/

/-- A region begins to freeze: its access points answer DOMAIN_OFF. -/
def freezeStart (r : Nat) (s : Block) : Block :=
  if s.cfg.freezes.any (fun f => f.region == r) then s
  else modCfg (fun c => { c with freezes := c.freezes ++ [{ region := r, phase := 0, since := s.devTime }] }) (forEach (regionAps s r) drainPort s)

/-- Ask for the release of some regions at the next alignment marker; an open command may wait for it under its number. -/
def releaseAsk (rs : List Nat) (s : Block) : Block :=
  modCfg (fun c => { c with releases := c.releases ++ [{ id := c.nextLoad, regions := rs }], nextLoad := c.nextLoad + 1 }) s

/-- A region's fabric PLLs are all locked. -/
def pllsLocked (s : Block) (l : List Nat) : Bool := l.all (fun i => s.flag (Rg.fpll (i / 16) (i % 16)) Rg.fpllLocked)
def regionPlls (s : Block) (r : Nat) : List Nat :=
  (spKeys s.cfg.fplls).filter (fun i => match spGet (fun _ => none) s.cfg.fplls i with
    | some p => p.region.toNat == r
    | none => false)

/-- A region is being moved (R226). -/
def inCutover (s : Block) (r : Nat) : Bool := s.cfg.cutovers.any (fun x => x.region == r)

/-- A region may be released (R213): LOADED or FROZEN, its PLLs locked, and not in a cutover, which releases it itself. -/
def releasable (s : Block) (r : Nat) : Bool :=
  let st := regionState s r
  (st == 2 || st == 4) && pllsLocked s (regionPlls s r) && !inCutover s r

/-- The regions that a release names, with those that one full plate has loaded along with a named one: they are released together (R213). -/
def withFull (s : Block) (rs : List Nat) : List Nat :=
  let mates (r : Nat) : List Nat := if !(getRegion s r).full || regionState s r != 2 then [] else
    (spKeys s.cfg.regions).filter (fun q => !rs.contains q && (getRegion s q).full && (getRegion s q).digest == (getRegion s r).digest &&
      regionState s q == 2)
  (rs ++ rs.flatMap mates).eraseDups

/-- A region becomes LIVE at the marker (R213): its fabric pins leave the safe state, its access points accept requests; a TPP fabric
port's SITE_OFF starts at 0 after a load (R304). -/
def goLive (r : Nat) (s : Block) : Block :=
  let fresh := sectorsIn s r 2
  let ks := fresh ++ sectorsIn s r 4
  let s := shutterRelease ks s
  let s := forEach ks (fun k s => fabricInit k (s.put (Rg.sector k) Rg.secState 3)) s
  let s := (regionPins s r).foldl (fun s i => if fabricPin s i then pinFromSafe (i / 384) (i % 384) s else s) s
  let s := (regionAps s r).foldl (fun s p => if portState s p == 3 then s else setPort p 0 s) s
  let s := forEach ((upto 24).filter (fun n => (tppSectors n).any (fun k => fresh.contains k))) (fun n s => modTpp n (fun t => { t with siteLine := 0 }) s) s
  seamTouch ks s

/-- Releases take effect at the alignment marker, all their regions together. The boot plate is released when its regions are, or with the
source HOST when any are (R42, R43). -/
def releaseOne (x : Release) (s : Block) : Block :=
  if x.regions.all (releasable s) then
    let svn := x.regions.foldl (fun v r => Nat.max v (getRegion s r).svn) 0
    let s := x.regions.foldl (fun s r => goLive r s) s
    let s := plateAdvance svn (forEach (upto 24) tppPlates s)
    let boots := setting s 0x0003 == 2 || x.regions.any (fun r => (getRegion s r).boot)
    stageDoneCheck (({ s with start := { s.start with bootReleased := s.start.bootReleased || boots } }).close 0x0103 x.id St.ok)
  else s.close 0x0103 x.id St.refusedState

/-- A region leaves LIVE at the marker (R191, R214): clock edges stop, state takes its INIT values, fabric pins their safe states; inbound
requests still unanswered receive DOMAIN_OFF. -/
def goFrozen (r : Nat) (s : Block) : Block :=
  let was := fabAnswers s
  let ks := sectorsIn s r 3
  let s := forEach ks (fun k s => eachEngine k engResetAt (eachRam k ramHold (s.put (Rg.sector k) Rg.secState 4))) s
  let s := (regionPins s r).foldl (fun s i => if fabricPin s i then pinToSafe (i / 384) (i % 384) s else s) s
  let s := (regionAps s r).foldl (fun s p => closePort p s) s
  fabGone was (tppsFollow ks (seamTouch ks (tapsFall ks s)))

/-! ### The loader (R208) -/

def modLoad (id : Nat) (f : Load → Load) (s : Block) : Block :=
  modCfg (fun c => { c with loads := c.loads.map (fun l => if l.id == id then f l else l) }) s

def dropLoad (id : Nat) (s : Block) : Block := modCfg (fun c => { c with loads := c.loads.filter (fun l => l.id != id) }) s

/-- The status of a load stands at its regions, and answers the command that asked for it; three statuses carry FRAME_ADDR (R211). -/
def loadAnswer (l : Load) (status fa : Nat) (s : Block) : Block :=
  let s := (l.regions.eraseDups).foldl (fun s r => setRegion r { getRegion s r with lastLoad := status } s) s
  if l.op2 == 0 then s
  else s.close l.op2 l.id status (if status == ldSectionCrc || status == ldFrameReject || status == ldFrameWriteFail then [(4, fa)] else [])

/-- FAILED in STREAM or VERIFY (R208, R209): every target is EMPTY. -/
def loadFail (l : Load) (status fa : Nat) (s : Block) : Block := loadAnswer l status fa (emptySectors l.targets (dropLoad l.id s))

/-- The links that a load's LINKS sections declare. DESIGN CHOICE: a malformed record ends the load with LINK_UNROUTABLE, since R211 names no
status for it. -/
def loadLinks (l : Load) : Nat ⊕ List (Nat × Link) :=
  (l.secs.filter (fun d => d.typ == 7)).foldl (fun (x : Nat ⊕ List (Nat × Link)) d =>
    match x, sectionBytes l d with
    | .inl e, _ => .inl e
    | _, .inl e => .inl e
    | .inr acc, .inr bs =>
      match linkRecords bs.length bs with
      | none => .inl ldLinkUnroutable
      | some ls => .inr (acc ++ ls)) (.inr [])

/-- STREAM begins: the targets enter LOADING, whatever they held; what the loader writes where the plate carries no frame is the cleared
content (R199). HARD_FAULT ends with a new load (R231). The sections are read, and the links known (R205, R218). -/
def streamStart (l : Load) (s : Block) : Block :=
  let old := (l.targets.map (secRegion s)).eraseDups
  let s := (l.targets.zip l.regions).foldl (fun s x =>
    let a := Rg.sector x.1
    let s := clearSector x.1 (((s.put a Rg.secState 1).put a Rg.secRegion x.2).putB a Rg.secHardFault false)
    let s := s.putB a Rg.secRelocated (l.hdr.kind == 2 && !l.hdr.map.getLsbD x.1)
    modCfg (fun c => { c with lastMbe := spSet (fun _ => none) c.lastMbe x.1 none }) s) s
  let s := old.foldl (fun s r => dropRegion r s) s
  let s := tppsFollow l.targets s
  let y := readSections l s
  let now : Load := { l with state := 1, keys := s.sec.keyNow.toList ++ s.sec.keyOld.toList, bytes := y.1 }
  match loadLinks now with
  | .inl e => loadFail now e 0 y.2
  | .inr ls => modLoad l.id (fun _ => { now with links := ls }) y.2

/-- A load leaves CHECK when none of its targets is LIVE any more. -/
def loadReady (id : Nat) (s : Block) : Block :=
  match s.cfg.loads.find? (fun l => l.id == id) with
  | none => s
  | some l => if l.state == 0 && l.targets.all (fun k => secState s k != 3) then streamStart l s else s

/-- A load is accepted: the regions of LIVE targets freeze first. -/
def loadBegin (l : Load) (s : Block) : Block :=
  let s := modCfg (fun c => { c with loads := c.loads ++ [l], nextLoad := c.nextLoad + 1 }) s
  let live := ((l.targets.filter (fun k => secState s k == 3)).map (secRegion s)).eraseDups
  loadReady l.id (forEach live freezeStart s)

/-- A load by command or firmware: refused in CHECK, or begun with its command held. -/
def loadAsk (q : LoadAsk) (c : Option Cmd) (s : Block) : Block :=
  let r := checkPlate q s
  match r.1 with
  | .inl st =>
    match c with
    | some c => r.2.respond c st
    | none => r.2
  | .inr l =>
    loadBegin l (match c with
      | some c => r.2.hold c q.op2 l.id
      | none => r.2)

def plateNeed (op : Nat) : Need := { op := op, ports := workPorts, stage := 3 }

/-- PLATE_LOAD: allowed once DRAM training has ended (R39). -/
def plateLoadCmd (source freezeFirst retain target region policy addr len : Nat) (c : Cmd) (s : Block) : Block :=
  if !s.start.trainingEnded then s.respond c St.refusedState
  else if 2 ≤ source || 2 ≤ freezeFirst || 2 ≤ retain then s.respond c St.badArg
  else
    loadAsk { op2 := 0x0100, flash := source == 1, addr := addr, len := some len, freeze := freezeFirst == 1, retain := retain == 1,
              target := target, region := region % 256, policy := BitVec.ofNat 32 policy, moveFrom := none, auto := false, boot := false }
      (some c) s

def execPlateLoad (h : Hdr) (source freezeFirst retain target region policy addr len : Nat) (s : State) :
    Host.Outcome State Fault Refusal :=
  live (fun s => s.command h (plateNeed 0x0100) (plateLoadCmd source freezeFirst retain target region policy addr len)) s

/-- CFG_LOAD of protocol v1: PLATE_LOAD from memory without options; a relocatable plate is not in v1 (R574). -/
def cfgLoadCmd (addr len : Nat) (c : Cmd) (s : Block) : Block :=
  let r := plateRead false addr 256 s
  if (r.1.map (fun bs => headerOk bs && (headerOf bs).kind == 2)).getD false then r.2.respond c St.notInV1
  else plateLoadCmd 0 0 0 0xFFFF 0 0 addr len c r.2

def execCfgLoad (h : Hdr) (_arg0 arg1 arg2 : Nat) (s : State) : Host.Outcome State Fault Refusal :=
  live (fun s => s.commandV1 h 0x10 (plateNeed 0x0100) (cfgLoadCmd arg2 arg1)) s

/-- HARD_FAULT of a sector, with its event (R231). -/
def hardFault (k : Nat) (s : Block) : Block :=
  if s.flag (Rg.sector k) Rg.secHardFault then s
  else sectorEvent (k / 80) ((s.putB (Rg.sector k) Rg.secHardFault true).raise Ev.sectorHardFault (cfgOrigin (k / 80)) k)

/-- The sector of a section of frames, and the frame that a record names there. -/
def recordSector (l : Load) (d : PlateSec) : Nat := sectionSector l.hdr l.targets d
def recordFrame (rb : List Nat) : Nat := fldGet (fieldAt rb 0 4) 10 13

/-- Record n of a section of frames. -/
def frameRecord (bs : List Nat) (n : Nat) : List Nat := (bs.drop (264 * n)).take 264

/-! ### The use of transit lines by a design (R218) -/

/-- The fields of sector k as a load's plate gives them. -/
def plateFields (l : Load) (k : Nat) : Sp Nat :=
  (l.secs.filter (fun d => d.typ == 2 && recordSector l d == k)).foldl (fun m d =>
    match sectionBytes l d with
    | .inl _ => m
    | .inr bs => (upto d.count).foldl (fun m n =>
        frameInto [] k (recordFrame (frameRecord bs n)) (some (frameData (frameRecord bs n))) m) m) []

/-- A sector of a link's record, moved with a relocatable plate's own end (R219). -/
def movedSec (l : Load) (k : Nat) : Nat :=
  if l.hdr.kind == 2 && l.hdr.map.getLsbD k then l.targets.headD k else k

/-- A design may read a wire: one that is no tap of a transit line, or the tap at which a link of its plate is received. -/
def mayRead (l : Load) (w : Option Wire) : Bool :=
  match w with
  | some (.line d x y dir n (t + 1)) =>
    match transitCode d x y dir n, moveOn dir (6 * (t + 1)) x y with
    | some (_, code), some (u, u') =>
      l.links.any (fun y => y.2.recvLine == code && y.2.recvTap == t + 1 && movedSec l y.2.recvSec == sectorAt d u u')
    | _, _ => true
  | _ => true

/-- A design may drive a line of a launch cluster: one that is no transit line, or the first line of a link that its plate sends. -/
def mayDrive (l : Load) (k c dir n : Nat) : Bool :=
  match transitCode (k / 80) (clusterX k c) (clusterY k c) dir n with
  | some (_, code) => l.links.any (fun y => y.2.sendLine == code && movedSec l y.2.sendSec == k)
  | none => true

/-- A field of a plate uses transit lines only as R218 allows; `s` holds the plate's fields. -/
def transitUse (l : Load) (s : Block) (key : Nat) : Bool :=
  let k := keySector key
  let c := keyPlace key
  let i := keyIdx key
  match keyKind key with
  | some .inGroup | some .inMember => mayRead l (inputWire s k c i)
  | some .segDrv => mayRead l (segWire s k c (i / 28) (i % 28))
  | some .expGroup | some .expMember =>
    (launchWire s k c (i / 16) (i % 16)).isNone || (mayDrive l k c (i / 16) (i % 16) && mayRead l (launchWire s k c (i / 16) (i % 16)))
  | some .tapReg => decide (i % 16 < designLines (i / 64)) || !cfgBit s k .tapReg c i
  | _ => true

/-- A frame that a plate carries may be written (R115, R218): its one-hot fields and its use of transit lines. -/
def frameAllowed (l : Load) (k f : Nat) (data : BitVec 2048) (s : Block) : Bool :=
  frameOneHot k f data &&
    (let p := modCfg (fun c => { c with fields := plateFields l k }) s
     (frameKeys k f).all (transitUse l p))

/-- A record whose CRC and frame are good is written and read back (R200, R209); a read-back that differs is a HARD_FAULT. What an upset had
changed in the frame is gone. -/
def writeRecord (l : Load) (d : PlateSec) (rb : List Nat) (rest : List (Nat × Nat)) (back : Bool) (s : Block) : Block :=
  let k := recordSector l d
  let f := recordFrame rb
  let s := modCfg (fun c => { c with
    frames := spSet (fun _ => none) c.frames (6656 * k + f) (some (frameData rb)), upsets := spSet (fun _ => []) c.upsets (6656 * k + f) [] }) s
  let s := frameFields k f (some (frameData rb)) s
  if back then modLoad l.id (fun x => { x with records := rest }) s
  else hardFault k (loadFail l ldFrameWriteFail (frameAddr k f) s)

/-- The configuration engine takes a record (R115, R200). DESIGN CHOICE: a record whose FRAME_ADDR names another sector than its section, or no
frame, ends the load with FRAME_REJECT, and the FRAME_ADDR that a relocatable plate's status carries is the record's own. -/
def takeRecord (l : Load) (d : PlateSec) (rb : List Nat) (rest : List (Nat × Nat)) (back : Bool) (s : Block) : Block :=
  let fa := fieldAt rb 0 4
  if fieldAt rb 260 4 != crc32 (rb.take 260) then loadFail l ldSectionCrc fa s
  else if !frameNames d fa || !frameAllowed l (recordSector l d) (recordFrame rb) (frameData rb) s then loadFail l ldFrameReject fa s
  else writeRecord l d rb rest back s

/-- FRAME_RECORD_WRITE (R200): the next record of a load in STREAM: CRC, one-hot fields, write and read-back. -/
def frameRecordWriteStep (id : Nat) (back : Bool) (s : Block) : Block :=
  if s.gr.restarting then s else
  match s.cfg.loads.find? (fun l => l.id == id) with
  | none => s
  | some l =>
    if l.state != 1 then s
    else
      match l.records with
      | [] => s
      | (i, n) :: rest =>
        match l.secs.find? (fun d => d.index == i) with
        | none => s
        | some d =>
          match sectionBytes l d with
          | .inl e => loadFail l e 0 s
          | .inr bs => takeRecord l d (frameRecord bs n) rest back s

def execFrameRecordWrite (load : Nat) (readBackOk : Bool) (s : State) : Host.Outcome State Fault Refusal :=
  clocked (frameRecordWriteStep load readBackOk) s

/-! ### The end of STREAM: RAMs, engines, PLLs, pins, access points, links -/

/-- The RAM records of a load's sections: the sector and its records, or the status that ends the load. -/
def loadRams (l : Load) : Nat ⊕ List (Nat × List RamRec) :=
  (l.secs.filter (fun d => d.typ == 3)).foldl (fun (x : Nat ⊕ List (Nat × List RamRec)) d =>
    match x, sectionBytes l d with
    | .inl e, _ => .inl e
    | _, .inl e => .inl e
    | .inr acc, .inr bs =>
      match ramRecords bs.length bs with
      | none => .inl ldSectionCrc
      | some rs => .inr (acc ++ [(sectionSector l.hdr l.targets d, rs)])) (.inr [])

/-- The status of the first section that cannot be read or opened (R204, R211). -/
def sectionsBad (l : Load) : Option Nat :=
  l.secs.findSome? (fun d => match sectionBytes l d with
    | .inl e => some e
    | .inr _ => none)

/-- The contents of the target sectors' RAMs and engines (R143, R144, R186): what the plate gives, zeros elsewhere. -/
def putRams (targets : List Nat) (recs : List (Nat × List RamRec)) (s : Block) : Block :=
  let s := forEach targets (fun k s => eachEngine k engResetAt (eachRam k ramHold s)) s
  recs.foldl (fun s kr => kr.2.foldl (fun s r =>
    if r.kind ≤ 1 then
      let i := if r.kind == 0 then r.index else 60 + r.index
      setRam s kr.1 i { getRam s kr.1 i with words := ramWords r }
    else
      let e := 48 * kr.1 + r.index
      let w := packWords 36 512 r.data
      setEng s e (if r.kind == 2 then { getEng s e with omA := w } else { getEng s e with omB := w })) s) s

/-- A resource belongs to a LIVE region that the load does not replace. -/
def ownedElsewhere (s : Block) (l : Load) (r : Nat) : Bool := r != 0 && !l.regions.contains r && regionLive s r

/-- Two settings of a fabric PLL are the same, whoever owns it (R216). -/
def samePll (a b : FpllSet) : Bool := a.d == b.d && a.m == b.m && a.o == b.o && a.phase == b.phase && a.freeRun == b.freeRun

/-- A region that a load does not replace uses global clock network n of die d: one of its sectors takes it. -/
def netUsed (s : Block) (l : Load) (d n : Nat) : Bool :=
  (upto 80).any (fun j =>
    let k := 80 * d + j
    decide (2 ≤ secState s k) && !l.targets.contains k && !l.regions.contains (secRegion s k) &&
      (upto 16).any (fun i => sectorNet s k i == some n))

/-- Such a region uses a fabric PLL: it owns it, or takes a network that it drives. -/
def pllUsed (s : Block) (l : Load) (d p : Nat) : Bool :=
  (match fpllSet s d p with
   | some x => ownedElsewhere s l x.region.toNat
   | none => false) ||
  (upto 32).any (fun n => (netSource s d n).any (fun y => y.1 == p) && netUsed s l d n)

/-- A PLL or a network in use by another region would change (R211, R216). -/
def clockConflict (s : Block) (l : Load) (x : DieSettings) : Bool :=
  let d := x.die.val
  x.fplls.any (fun p => pllUsed s l d p.pll.val && !(fpllSet s d p.pll.val).any (samePll p)) ||
    x.nets.any (fun n => netUsed s l d n.1.val && netSource s d n.1.val != some (n.2.1.val, n.2.2.val))

/-- What a pin would be set to is what it is set to. -/
def samePin (s : Block) (d : Nat) (p : PinSet) : Bool :=
  let a := Rg.ioPin d p.pin.val
  s.f a Rg.pinOwner == (if p.tpp then 2 else 1) && spGet (fun _ => 0) s.cfg.pinOwner (ioKey d p.pin.val) == p.region.toNat &&
    s.f a Rg.pinStandard == p.standard.toNat && s.f a Rg.pinDrive == p.drive.toNat && s.f a Rg.pinTerm == p.term.toNat &&
    s.f a Rg.pinIdelay == p.idelay.toNat && s.f a Rg.pinOdelay == p.odelay.toNat && pinLogic s d p.pin.val == p.io

/-- A pin's settings would change while its TPP is running (R211). -/
def pinBusy (s : Block) (d : Nat) (p : PinSet) : Bool :=
  let n := 6 * d + p.pin.val / 48
  decide (p.pin.val < 288) && tppState s n == 4 && pinAssigned s n (p.pin.val % 48) && !samePin s d p

/-- A pin's standard is not one that its bank's class permits (R253): the class that the plate gives the bank, else the one it has. -/
def pinMisfit (s : Block) (x : DieSettings) (p : PinSet) : Bool :=
  let b := bankOf p.pin.val
  let cls := ((x.banks.find? (fun y => y.1.val == b)).map (·.2.1.toNat)).getD (s.f (Rg.ioBank x.die.val b) Rg.vccoClass)
  pinExists p.pin.val && !stdPermits (decide (b < 6)) cls p.standard.toNat

/-- The serialisers of a die's pins keep within their standards' rates (R253, R267): ratio × M / (D O) GHz. -/
def pinRatesOk (s : Block) (x : DieSettings) : Bool :=
  let d := x.die.val
  x.pins.all (fun p => p.tpp ||
    match (sectorNet s (pinSector d p.pin.val) p.io.clk.val).bind (netSource s d) with
    | none => true
    | some (q, o) =>
      match fpllSet s d q with
      | none => true
      | some y => decide (1000 * (Nat.max p.io.ser p.io.des * y.m) ≤ stdRate p.standard.toNat * (y.d * y.o.getD o 1)))

/-- The first conflict of a load's die settings with what runs (R211, R216): a PLL of another region that would change, bank settings
outside a full plate or resources another LIVE region owns, pins of a TPP that is RUNNING. DESIGN CHOICE: a standard that a bank's class does
not permit ends the load with TYPE_MISMATCH, since R253 names no status. -/
def settingsConflict (s : Block) (l : Load) (x : DieSettings) : Option Nat :=
  let d := x.die.val
  if clockConflict s l x then some ldClockConflict
  else if (l.hdr.kind != 0 && !x.banks.isEmpty) || x.pins.any (pinMisfit s x) ||
      x.pins.any (fun p => ownedElsewhere s l (spGet (fun _ => 0) s.cfg.pinOwner (ioKey d p.pin.val))) ||
      x.aps.any (fun p => ownedElsewhere s l (spGet (fun _ => 0) s.cfg.apOwner (96 * d + p.ap.val))) then some ldTypeMismatch
  else if x.pins.any (pinBusy s d) then some ldPinBusy
  else none

/-- The pins that a pin's settings reach: with a differential standard both of its pair (R249). -/
def pairPins (p : PinSet) : List PinSet :=
  if p.standard == 8 || p.standard == 9 then [{ p with pin := Fin.ofNat 384 (p.pin.val / 2 * 2) }, { p with pin := Fin.ofNat 384 (p.pin.val / 2 * 2 + 1) }]
  else [p]

/-- What the sector's logic has at a pin. -/
def setLogic (d n : Nat) (x : PinIo) (s : Block) : Block :=
  { s with io := { s.io with logic := spSet (fun _ => PinIo.plain) s.io.logic (ioKey d n) x } }

/-- Apply the settings of one die: fabric PLLs relock where they change, pins take their settings, banks their class, which a voltage
that differs from it puts in VCCO_FAULT at once (R256), access points their owner and burst. -/
def putSettings (x : DieSettings) (s : Block) : Block :=
  let d := x.die.val
  let s := x.fplls.foldl (fun s p =>
    let i := 16 * d + p.pll.val
    let a := Rg.fpll d p.pll.val
    if (fpllSet s d p.pll.val).any (samePll p) then s
    else modCfg (fun c => { c with fplls := spSet (fun _ => none) c.fplls i (some p) }) ((s.putB a Rg.fpllInUse true).putB a Rg.fpllLocked false)) s
  let s := x.nets.foldl (fun s n =>
    modCfg (fun c => { c with nets := spSet (fun _ => none) c.nets (32 * d + n.1.val) (some (n.2.1.val, n.2.2.val)) }) s) s
  let s := x.banks.foldl (fun s b =>
    let a := Rg.ioBank d b.1.val
    bankClass d b.1.val ((s.put a Rg.vccoClass b.2.1.toNat).put a Rg.vrefCode b.2.2.toNat)) s
  let s := (x.pins.flatMap pairPins).foldl (fun s p =>
    let n := p.pin.val
    let a := Rg.ioPin d n
    if !pinExists n then s
    else
      let s := (pinToSafe d n s).put a Rg.pinOwner (if p.tpp then 2 else 1)
      let s := ((s.put a Rg.pinStandard p.standard.toNat).put a Rg.pinDrive p.drive.toNat).put a Rg.pinTerm p.term.toNat
      let s := (s.put a Rg.pinIdelay p.idelay.toNat).put a Rg.pinOdelay p.odelay.toNat
      modCfg (fun c => { c with pinOwner := spSet (fun _ => 0) c.pinOwner (ioKey d n) p.region.toNat })
        (setLogic d n p.io (setSafe d n p.safe.toNat s))) s
  x.aps.foldl (fun s p =>
    modCfg (fun c => { c with apOwner := spSet (fun _ => 0) c.apOwner (96 * d + p.ap.val) p.region.toNat })
      (s.put (Rg.tport d p.ap.val) Rg.tpBurst (Nat.min 5 p.burst.toNat))) s

/-! ### Links of a load (R219 to R221, R225) -/

/-- A link as a load declares it: a relocatable plate gives its own end, moved to the target; the other end stays as declared (R219). -/
def linkEnd (l : Load) (x : Nat × Link) (s : Block) : Link :=
  let mine : Link := { x.2 with sendSec := movedSec l x.2.sendSec, recvSec := movedSec l x.2.recvSec }
  if l.hdr.kind != 2 then x.2 else
  match getLink s x.1 with
  | none => mine
  | some o =>
    let sends := l.hdr.map.getLsbD x.2.sendSec
    let recvs := l.hdr.map.getLsbD x.2.recvSec
    let y : Link := if sends then { o with sendSec := mine.sendSec, sendLine := mine.sendLine } else o
    if recvs then { y with recvSec := mine.recvSec, recvLine := mine.recvLine, recvTap := mine.recvTap, freeze := mine.freeze } else y

/-- A declared link with its route: the plate's hops, or those that the loader has found, with the registers for its latency; none where they
are no route for it. -/
def routed (l : Load) (routes : List LinkRoute) (x : Nat × Link) (s : Block) : Option Link :=
  let y := linkEnd l x s
  let found := ((routes.find? (fun r => r.link == x.1)).map (·.hops)).getD []
  let hops := if x.2.hops.isEmpty then timedHops y.latency found else x.2.hops
  if routeOk s x.1 y hops then some { y with hops := hops, writing := false } else none

/-- The links of a load, each routed and written behind the one before; none where one has no route. -/
def routeAll (l : Load) (routes : List LinkRoute) (s : Block) : Option (List (Nat × Link) × Block) :=
  l.links.foldl (fun acc x => acc.bind (fun a => (routed l routes x a.2).map (fun y => (a.1 ++ [(x.1, y)], setLink x.1 y a.2)))) (some ([], s))

/-- A placement's networks carry, on the target's die, twins of those on the home die (R225). -/
def twinsThere (l : Load) (s : Block) : Bool :=
  let home := (bitsOf 320 l.hdr.map.toNat).headD 0 / 80
  l.hdr.kind != 2 || l.targets.all (fun k => k / 80 == home ||
    ((upto 16).filterMap (sectorNet s k)).all (fun n => netsTwin s home n (k / 80) n))

/-- What a load writes at the end of STREAM beside its links. -/
def streamWritten (l : Load) (dies : List DieSettings) (rs : List (Nat × List RamRec)) (s : Block) : Block :=
  dies.foldl (fun s x => putSettings x s) (putRams l.targets rs s)

/-- STREAM ends (R208, R221): the settings of RAMs, the twins of a placement's clocks and the routes of links are checked, links are written,
those of a relocation at its cutover; the loader enters VERIFY. DESIGN CHOICE: RAM settings that 05 does not allow end the load with
FRAME_REJECT, and serialisers faster than R253 allows with TYPE_MISMATCH. -/
def streamEnd (l : Load) (dies : List DieSettings) (routes : List LinkRoute) (s : Block) : Block :=
  if !l.targets.all (fun k => (upto 68).all (ramSetOk s k)) then loadFail l ldFrameReject 0 s
  else if !dies.all (pinRatesOk s) then loadFail l ldTypeMismatch 0 s
  else if !twinsThere l s then loadFail l ldClockConflict 0 s
  else
    match routeAll l routes s with
    | none => loadFail l ldLinkUnroutable 0 s
    | some (ls, s') =>
      modLoad l.id (fun x => { x with
        state := 2, links := ls, plls := dies.flatMap (fun d => d.fplls.map (fun p => 16 * d.die.val + p.pll.val)) })
        (if l.moveFrom.isSome then s else s')

/-- LOAD_STREAM_DONE: every section is written; the loader enters VERIFY. -/
def loadStreamDoneStep (id : Nat) (dies : List DieSettings) (routes : List LinkRoute) (s : Block) : Block :=
  if s.gr.restarting then s else
  match s.cfg.loads.find? (fun l => l.id == id) with
  | none => s
  | some l =>
    if l.state != 1 || !l.records.isEmpty then s
    else
      let dies := if l.hdr.kind == 2 then [] else dies
      match sectionsBad l, loadRams l, dies.findSome? (settingsConflict s l) with
      | some e, _, _ => loadFail l e 0 s
      | _, .inl e, _ => loadFail l e 0 s
      | _, _, some e => loadFail l e 0 s
      | none, .inr rs, none => streamEnd l dies routes (streamWritten l dies rs s)

def execLoadStreamDone (load : Nat) (dies : List DieSettings) (routes : List LinkRoute) (s : State) : Host.Outcome State Fault Refusal :=
  clocked (loadStreamDoneStep load dies routes) s

/-! ### VERIFY and DONE -/

/-- The Seam groups that the plates of some sectors set, each with the side of the sector; first where the other side has none (R124). -/
def targetSeams (s : Block) (ks : List Nat) : List (Nat × Nat × Bool) :=
  ks.flatMap (fun k => match sectorSeam k with
    | none => []
    | some (e, g, side) => (cfgKeys s k .seamDir).map (fun i =>
        (e, g + keyPlace i, (plateSide s e (g + keyPlace i) (1 - side)).isNone)))

/-- A sector has been loaded while groups at its edge are LOST: one comes back when both of its sectors have been (R129). -/
def seamsReloaded (faults : List SeamFault) (k : Nat) (s : Block) : Block :=
  match sectorSeam k with
  | none => s
  | some (e, g0, side) =>
    forEach ((upto 96).map (g0 + ·)) (fun g s =>
      if !s.flag (seamEnd e g 0) Rg.sgLost then s
      else
        let now := s.seam.reloaded.filter (· != (e, g, side)) ++ [(e, g, side)]
        let s : Block := { s with seam := { s.seam with reloaded := now } }
        if now.contains (e, g, 0) && now.contains (e, g, 1) then seamRefresh e g (seamFirstSet e g faults s) else s) s

/-- The Seam groups of the loaded sectors (R122 to R125, R129): one set for the first time is deskewed again. -/
def putSeams (groups : List (Nat × Nat × Bool)) (targets : List Nat) (faults : List SeamFault) (s : Block) : Block :=
  let s := groups.eraseDups.foldl (fun s x => seamRefresh x.1 x.2.1 (when x.2.2 (seamFirstSet x.1 x.2.1 faults) s)) s
  forEach targets (seamsReloaded faults) s

/-- What the device keeps of a region's plate (R203, R230, R612). -/
def putRegion (l : Load) (digest : BitVec 256) (s : Block) : Block :=
  (l.regions.eraseDups).foldl (fun s r =>
    let kept : Option Retained := if l.retain then some { flash := l.flash, addr := l.addr, hdr := l.hdr,
                                                          digests := l.secs.map (fun d => (d.off, d.len, d.digest)) } else none
    setRegion r { policy := settingPolicy l.policies r, retained := kept, lastLoad := St.ok, owner := l.hdr.owner, designId := l.hdr.designId,
                  boot := l.boot, sealed := l.hdr.sealed, relocatable := l.hdr.kind == 2, full := l.hdr.kind == 0, svn := l.hdr.svn, digest := digest } s) s
where
  settingPolicy (l : List (Nat × BitVec 32)) (r : Nat) : BitVec 32 := (l.lookup r).getD 0

/-- VERIFY has passed (R208): the targets are LOADED, and released at once with AUTO_RELEASE or as the boot plate; the relocation of a
LIVE region goes on to its cutover. -/
def loadPassed (l : Load) (digest : BitVec 256) (faults : List SeamFault) (s : Block) : Block :=
  let groups := if l.hdr.kind == 2 then [] else targetSeams s l.targets
  let s := forEach l.targets (fun k s => s.put (Rg.sector k) Rg.secState 2) (putRegion l digest s)
  let s := dropLoad l.id (putSeams groups l.targets faults s)
  match l.moveFrom with
  | none =>
    let rs := l.regions.eraseDups
    loadAnswer l St.ok 0 (when (l.hdr.autoRel || l.boot) (releaseAsk rs) s)
  | some old =>
    let r := l.regions.headD 0
    if secState s old == 3 then
      modCfg (fun c => { c with cutovers := c.cutovers ++ [{ id := l.id, region := r, old := old, new := l.targets.headD 0, step := 0, auto := l.auto, links := l.links }] }) s
    else loadAnswer l St.ok 0 (emptySectors [old] (l.links.foldl (fun s x => setLink x.1 x.2 s) s))

/-- LOAD_VERIFY_DONE: the signature, the digests and the counter are checked once every PLL of the load is locked. -/
def loadVerifyDoneStep (id : Nat) (faults : List SeamFault) (s : Block) : Block :=
  if s.gr.restarting then s else
  match s.cfg.loads.find? (fun l => l.id == id) with
  | none => s
  | some l =>
    if l.state != 2 || !pllsLocked s l.plls then s
    else
      let a := plateSigned l s
      let retained := l.moveFrom.isSome
      match a.1 with
      | some sig =>
        if !digestsOk l || !(sig || retained) then loadFail l (if retained then ldReloadBad else ldSigFail) 0 a.2
        else if !retained && l.hdr.svn < counterReading a.2 1 then loadFail l ldSvnLow 0 a.2
        else loadPassed l (sha256 l.signed) faults a.2
      | none => loadFail l ldSourceError 0 a.2

def execLoadVerifyDone (load : Nat) (faults : List SeamFault) (s : State) : Host.Outcome State Fault Refusal :=
  clocked (loadVerifyDoneStep load faults) s

/-! ### Region commands -/

def regionGiven (r : Nat) : Bool := decide (1 ≤ r) && decide (r < 256)

/-- REGION_FREEZE: of a LIVE region. -/
def regionFreezeCmd (r : Nat) (c : Cmd) (s : Block) : Block :=
  if !regionGiven r then s.respond c St.badArg
  else if !regionLive s r then s.respond c St.refusedState
  else if held s [0x0102] r || s.cfg.freezes.any (fun f => f.region == r) then s.respond c St.busy
  else (freezeStart r s).hold c 0x0102 r

def execRegionFreeze (h : Hdr) (region : Nat) (s : State) : Host.Outcome State Fault Refusal :=
  live (fun s => s.command h (plateNeed 0x0102) (regionFreezeCmd region)) s

/-- REGION_RELEASE: every named region LOADED or FROZEN and its PLLs locked; answered at the marker. -/
def regionReleaseCmd (m : BitVec 256) (c : Cmd) (s : Block) : Block :=
  let rs := bitsOf 256 m.toNat
  if rs.isEmpty || rs.contains 0 then s.respond c St.badArg
  else if !(withFull s rs).all (releasable s) then s.respond c St.refusedState
  else
    let id := s.cfg.nextLoad
    (releaseAsk (withFull s rs) s).hold c 0x0103 id

def execRegionRelease (h : Hdr) (regions : BitVec 256) (s : State) : Host.Outcome State Fault Refusal :=
  live (fun s => s.command h (plateNeed 0x0103) (regionReleaseCmd regions)) s

/-- REGION_RESET: a LIVE region is held from one marker to the next (R215). -/
def regionResetCmd (r : Nat) (c : Cmd) (s : Block) : Block :=
  if !regionGiven r then s.respond c St.badArg
  else if !regionLive s r then s.respond c St.refusedState
  else if held s [0x0104] r then s.respond c St.busy
  else (modCfg (fun x => { x with resets := x.resets ++ [(r, false)] }) s).hold c 0x0104 r

def execRegionReset (h : Hdr) (region : Nat) (s : State) : Host.Outcome State Fault Refusal :=
  live (fun s => s.command h (plateNeed 0x0104) (regionResetCmd region)) s

/-- REGION_CLEAR: a LOADED or FROZEN region (R190). -/
def regionClearCmd (r : Nat) (c : Cmd) (s : Block) : Block :=
  let st := regionState s r
  if !regionGiven r then s.respond c St.badArg
  else if !(st == 2 || st == 4) || s.cfg.loads.any (fun l => l.regions.contains r) || inCutover s r then s.respond c St.refusedState
  else (portsReset (regionAps s r) (emptySectors (regionSectors s r) s)).respond c St.ok

def execRegionClear (h : Hdr) (region : Nat) (s : State) : Host.Outcome State Fault Refusal :=
  live (fun s => s.command h (plateNeed 0x0105) (regionClearCmd region)) s

/-- PLATE_SPARES: the spare pool is replaced. -/
def plateSparesCmd (m : BitVec 320) (c : Cmd) (s : Block) : Block :=
  (forEach (upto 320) (fun k s => s.putB (Rg.sector k) Rg.secSpare (m.getLsbD k)) s).respond c St.ok

def execPlateSpares (h : Hdr) (sectors : BitVec 320) (s : State) : Host.Outcome State Fault Refusal :=
  live (fun s => s.command h (plateNeed 0x0106) (plateSparesCmd sectors)) s

/-- PLATE_UNRETAIN: the plate of a region is no longer retained. -/
def plateUnretainCmd (r : Nat) (c : Cmd) (s : Block) : Block :=
  if !regionGiven r then s.respond c St.badArg
  else (setRegion r { getRegion s r with retained := none } s).respond c St.ok

def execPlateUnretain (h : Hdr) (region : Nat) (s : State) : Host.Outcome State Fault Refusal :=
  live (fun s => s.command h (plateNeed 0x0107) (plateUnretainCmd region)) s

/-- PLATE_STATUS: the region's state, its sectors as a map, whether its plate is retained, its last load status; in v1 the state in byte 8
and the last status in bytes 9 and 10 (R574). -/
def plateStatusCmd (r : Nat) (c : Cmd) (s : Block) : Block :=
  if !regionGiven r then s.respond c St.badArg
  else
    let x := getRegion s r
    if c.v1 then s.respond c St.ok [(1, regionState s r), (1, x.lastLoad % 256), (1, x.lastLoad / 256)]
    else s.respond c St.ok [(1, regionState s r), (40, (regionSectors s r).foldl (fun m k => m + 2 ^ k) 0),
      (1, x.retained.isSome.toNat), (2, x.lastLoad)]

def execPlateStatus (h : Hdr) (region : Nat) (s : State) : Host.Outcome State Fault Refusal :=
  live (fun s => s.command h (plateNeed 0x0108) (plateStatusCmd region)) s

/-- CFG_STATUS of protocol v1 (R574). -/
def execCfgStatus (h : Hdr) (arg0 : Nat) (s : State) : Host.Outcome State Fault Refusal :=
  live (fun s => s.commandV1 h 0x11 (plateNeed 0x0108) (plateStatusCmd arg0)) s

/-- FREEZE_DRAIN_END: a region's drain ends, or DRAIN_LIMIT expires; the freeze completes at the next marker. -/
def freezeDrainEndStep (r : Nat) (s : Block) : Block :=
  modCfg (fun c => { c with freezes := c.freezes.map (fun f => if f.region == r then { f with phase := 1 } else f) }) s

def execFreezeDrainEnd (region : Nat) (s : State) : Host.Outcome State Fault Refusal := clocked (freezeDrainEndStep region) s

def execLinkReroute (link : Nat) (route : Option (List Hop)) (s : State) : Host.Outcome State Fault Refusal :=
  clocked (fun s => if s.gr.restarting then s else linkRerouteStep link route s) s

/-! ### Relocation (R225 to R227) -/

/-- The load of a region's retained relocatable plate into a sector; none where the region has no such plate. -/
def relocAsk (s : Block) (r target op2 : Nat) (auto : Bool) : Option LoadAsk :=
  match (getRegion s r).retained, regionSectors s r with
  | some p, [old] =>
    if (getRegion s r).relocatable then
      some { op2 := op2, flash := p.flash, addr := p.addr, len := none, freeze := false, retain := true, target := target, region := r,
             policy := (getRegion s r).policy, moveFrom := some old, auto := auto, boot := false }
    else none
  | _, _ => none

/-- The source of a retained plate still has its recorded digests (R230). -/
def retainedOk (s : Block) (r : Nat) : Bool × Block :=
  match (getRegion s r).retained with
  | some p => digestsMatch p.flash p.addr p.digests s
  | none => (false, s)

/-- Columns and rows, in sectors, between two sectors of the device's four dies. -/
def sectorsApart (j k : Nat) : Nat :=
  let x (i : Nat) : Int := 10 * (i / 80 % 2) + i % 80 / 8
  let y (i : Nat) : Int := 8 * (i / 160) + i % 8
  (x j - x k).natAbs + (y j - y k).natAbs

/-- The route total of a region's links from sector k. DESIGN CHOICE: the sum of the sectors between k and the links' other ends; R227 says
shortest without a measure. -/
def routeTotal (s : Block) (r k : Nat) : Nat :=
  let mine (j : Nat) : Bool := (regionSectors s r).contains j
  (links s).foldl (fun n l =>
    n + (if mine l.2.sendSec then sectorsApart k l.2.recvSec else if mine l.2.recvSec then sectorsApart k l.2.sendSec else 0)) 0

/-- The spares that a region's plate can go to, those with the shortest route total (R227). -/
def suitableSpares (s : Block) (r : Nat) : List Nat :=
  match (getRegion s r).retained with
  | some p =>
    let l := (upto 320).filter (fun k => secSpare s k && secState s k == 0 && !sectorOff s k && !sectorLoading s k && sectorType k == p.hdr.secType)
    l.filter (fun k => l.all (fun j => decide (routeTotal s r k ≤ routeTotal s r j)))
  | none => []

/-- PLATE_RELOCATE: all ones names Greone's choice, the suitable spare with the shortest route total; with none the load ends with
TYPE_MISMATCH. -/
def plateRelocateCmd (r target : Nat) (c : Cmd) (s : Block) : Block :=
  if !regionGiven r then s.respond c St.badArg
  else
    let t := if target == 0xFFFF then (suitableSpares s r).headD 0xFFFF else target
    match relocAsk s r t 0x0101 false with
    | none => s.respond c St.refusedState
    | some q =>
      if s.cfg.loads.any (fun x => x.regions.contains r) || inCutover s r then s.respond c ldRegionBusy
      else
        let k := retainedOk s r
        if k.1 then loadAsk q (some c) k.2
        else (setRegion r { getRegion k.2 r with lastLoad := ldReloadBad } k.2).respond c ldReloadBad

def execPlateRelocate (h : Hdr) (region target : Nat) (s : State) : Host.Outcome State Fault Refusal :=
  live (fun s => s.command h (plateNeed 0x0101) (plateRelocateCmd region target)) s

/-- AUTO_RELOCATE (R227): a single-sector region with RELOCATE_ON_HARD_FAULT whose sector is HARD_FAULT moves to the spare given, one of
those with the shortest route total; with no suitable spare NO_SPARE. The region may be LIVE, or frozen by its ON_MBE policy. -/
def autoRelocateStep (r spare : Nat) (s : Block) : Block :=
  if s.gr.restarting then s else
  match relocAsk s r spare 0 true with
  | none => s
  | some q =>
    let old := q.moveFrom.getD 0
    if !(getRegion s r).policy.getLsbD 2 || !s.flag (Rg.sector old) Rg.secHardFault || !(secState s old == 3 || secState s old == 4) ||
        s.cfg.loads.any (fun x => x.regions.contains r) || inCutover s r then s
    else if (suitableSpares s r).isEmpty then s.raise Ev.noSpare (originOf 0x01) old
    else if !(suitableSpares s r).contains spare then s
    else
      let k := retainedOk s r
      if k.1 then loadAsk q none k.2 else setRegion r { getRegion k.2 r with lastLoad := ldReloadBad } k.2

def execAutoRelocate (region spare : Nat) (s : State) : Host.Outcome State Fault Refusal := clocked (autoRelocateStep region spare) s

/-- RELOCATE_CUTOVER: the new routes' transit fields are written but for the drivers, and the region in the old sector begins to freeze (R226
steps 1 and 2). -/
def relocateCutoverStep (r : Nat) (s : Block) : Block :=
  if s.gr.restarting then s else
  match s.cfg.cutovers.find? (fun x => x.region == r && x.step == 0) with
  | none => s
  | some y =>
    let s := y.links.foldl (fun s l => writeTaps l.1 l.2 s) s
    freezeStart r (modCfg (fun c => { c with cutovers := c.cutovers.map (fun x => if x.region == r && x.step == 0 then { x with step := 1 } else x) }) s)

def execRelocateCutover (region : Nat) (s : State) : Host.Outcome State Fault Refusal := clocked (relocateCutoverStep region) s

/-- The cutover's last marker: the target is LIVE as the region, the old sector EMPTY (R226 step 4). -/
def cutoverDone (x : Cutover) (s : Block) : Block :=
  let s := modCfg (fun c => { c with cutovers := c.cutovers.filter (fun y => y.id != x.id) }) s
  let s := emptySectors [x.old] s
  let s := tppsFollow [x.new] (goLive x.region s)
  let s := when x.auto (fun s => s.raise Ev.sectorRelocated (originOf 0x01) x.old x.new) s
  s.close 0x0101 x.id St.ok

/-! ### Scrub and reload (R117, R228 to R231) -/

/-- CONFIG_UPSET: bits of a stored frame change, of its configuration bits (0 to 2,047) or of the check bits and CRC behind them (R201); what a
configuration bit belongs to changes with it (R117). -/
def configUpsetStep (k f : Nat) (bits : List Nat) (s : Block) : Block :=
  let i := 6656 * k + f
  bits.eraseDups.foldl (fun s b =>
    let old := spGet (fun _ => []) s.cfg.upsets i
    flipFrameBit k f b (modCfg (fun c => { c with
      upsets := spSet (fun _ => []) c.upsets i (if old.contains b then old.filter (· != b) else old ++ [b]) }) s)) s

def execConfigUpset (sector : Fin 320) (frame : Fin 6656) (bits : List (Fin 2093)) (s : State) : Host.Outcome State Fault Refusal :=
  live (configUpsetStep sector.val frame.val (bits.map (·.val))) s

/-- A frame holds its own content again, and the transit fields in it those of the loader's records (R229). -/
def repairFrame (i : Nat) (s : Block) : Block :=
  let k := i / 6656
  let f := i % 6656
  let s := modCfg (fun c => { c with upsets := spSet (fun _ => []) c.upsets i [] }) s
  let s := frameFields k f (spGet (fun _ => none) s.cfg.frames i) s
  if (frameKeys k f).any (fun key => spGet (fun _ => 0) s.cfg.transit key != 0) then rewriteRoutes (linkInSector k) s else s

/-- Every changed bit of a frame belongs to a transit field. -/
def transitOnly (s : Block) (k f : Nat) : Bool :=
  (spGet (fun _ => []) s.cfg.upsets (6656 * k + f)).all (fun b => match frameBit k f b with
    | some x => spGet (fun _ => 0) s.cfg.transit x.1 != 0
    | none => false)

/-- A single-bit error is corrected; the same bit three passes in a row is a HARD_FAULT (R228, R231). -/
def scrubSbe (k i b : Nat) (s : Block) : Block :=
  let old := spGet (fun _ => (0, 0)) s.cfg.fixes i
  let n := if old.2 != 0 && old.1 == b then old.2 + 1 else 1
  let s := repairFrame i (s.bump (Rg.cfgScrubSbe (k / 80)))
  let s := modCfg (fun c => { c with fixes := spSet (fun _ => (0, 0)) c.fixes i (b, n) }) s
  when (decide (3 ≤ n)) (hardFault k) s

/-- A multi-bit error (R228, R229, R231): counted, a sector event, LAST_MBE_FRAME, and what ON_MBE gives for a LIVE region; in
transit fields alone it is corrected at once under every policy. -/
def scrubMbe (k f : Nat) (s : Block) : Block :=
  let d := k / 80
  let s := s.bump (Rg.cfgScrubMbe d)
  let s := sectorEvent d ((s.put (Rg.sector k) Rg.secLastMbe f).raise Ev.sectorMbe (cfgOrigin d) k f)
  let again := match spGet (fun _ => none) s.cfg.lastMbe k with
    | some t => decide (s.devTime.toNat < t.toNat + 10000000000)
    | none => false
  let s := modCfg (fun c => { c with lastMbe := spSet (fun _ => none) c.lastMbe k (some s.devTime) }) s
  let s := when again (hardFault k) s
  let r := secRegion s k
  let pol := (getRegion s r).policy.toNat % 4
  if transitOnly s k f then repairFrame (6656 * k + f) s
  else if secState s k != 3 then s
  else if pol == 1 then freezeStart r s
  else if pol == 2 then freezeStart r (modCfg (fun c => { c with mbeWait := c.mbeWait.filter (· != k) ++ [k] }) s)
  else s

/-- CONFIG_SCRUB_FRAME: the scrub of a die reads its next frame; sectors in LOADING are skipped. A changed bit of the data or of the SECDED check
bits is a single-bit error; one of the CRC-32 is not, since the SECDED code shows none (R228). -/
def configScrubFrameStep (d : Nat) (s : Block) : Block :=
  let pos := spGet (fun _ => 0) s.cfg.scrubPos d
  let k := 80 * d + pos / 6656
  let next (p : Nat) : Block → Block := modCfg (fun c => { c with scrubPos := spSet (fun _ => 0) c.scrubPos d (if 532480 ≤ p then 0 else p) })
  if secState s k == 1 then next ((pos / 6656 + 1) * 6656) s
  else
    let i := 6656 * k + pos % 6656
    let s := next (pos + 1) s
    match spGet (fun _ => []) s.cfg.upsets i with
    | [] => modCfg (fun c => { c with fixes := spSet (fun _ => (0, 0)) c.fixes i (0, 0) }) s
    | [b] => if b < 2061 then scrubSbe k i b s else scrubMbe k (pos % 6656) s
    | _ => scrubMbe k (pos % 6656) s

def execConfigScrubFrame (die : Fin 4) (s : State) : Host.Outcome State Fault Refusal := clockedOn (die.val) (configScrubFrameStep die.val) s

/-- Every frame of a sector is written again with the content its plate gave it. -/
def rewriteFrames (k : Nat) (s : Block) : Block :=
  let inF (i : Nat) : Bool := i / 6656 == k
  let s := clearFields k (modCfg (fun c => { c with upsets := spClear inF c.upsets, fixes := spClear inF c.fixes }) s)
  let s := ((spKeys s.cfg.frames).filter inF).foldl (fun s i => frameFields k (i % 6656) (spGet (fun _ => none) s.cfg.frames i) s) s
  rewriteRoutes (linkInSector k) s

/-- MBE_RELOAD (R229, R230): the frozen sector's frames are written again from the retained plate and its region is released; a plate that
no longer has its digests ends it with RELOAD_SOURCE_BAD. -/
def mbeReloadStep (k : Nat) (s : Block) : Block :=
  if s.gr.restarting then s else
  let r := secRegion s k
  if !s.cfg.mbeWait.contains k || secState s k != 4 then s
  else
    let s := modCfg (fun c => { c with mbeWait := c.mbeWait.filter (· != k) }) s
    let x := retainedOk s r
    if !x.1 then setRegion r { getRegion x.2 r with lastLoad := ldReloadBad } x.2
    else
      let s := rewriteFrames k x.2
      let s := s.putB (Rg.sector k) Rg.secHardFault false
      if s.cfg.mbeWait.any (fun j => secRegion s j == r) then s else releaseAsk [r] s

def execMbeReload (sector : Fin 320) (s : State) : Host.Outcome State Fault Refusal := clocked (mbeReloadStep sector.val) s

/-! ### The alignment marker, and resets -/

/-- A region reset begins or ends at a marker (R215): flip-flops, wire registers and engines at their INIT values; queue positions 0. -/
def resetMarker (s : Block) : Block :=
  let due := s.cfg.resets
  let s := modCfg (fun c => { c with resets := (c.resets.filter (fun x => !x.2)).map (fun x => (x.1, true)) }) s
  due.foldl (fun s x =>
    if x.2 then (portsReset (regionAps s x.1) s).close 0x0104 x.1 St.ok
    else forEach (sectorsIn s x.1 3) (fun k s => fabricInit k (eachEngine k engResetAt (eachRam k ramRegionReset s))) s) s

/-- A region's DRAIN_LIMIT (setting 0x0010, in µs) has passed since its freeze began (R214). -/
def drainOver (s : Block) (f : Freeze) : Bool := decide (f.since.toNat + 1000 * setting s 0x0010 ≤ s.devTime.toNat)

/-- Freezes whose drain has ended, or whose DRAIN_LIMIT has passed, complete at the marker; loads and cutovers that wait for them go on. -/
def freezeMarker (s : Block) : Block :=
  let done (f : Freeze) : Bool := f.phase == 1 || drainOver s f
  let due := s.cfg.freezes.filter done
  let s := modCfg (fun c => { c with freezes := c.freezes.filter (fun f => !done f) }) s
  due.foldl (fun s f =>
    let s := (goFrozen f.region s).close 0x0102 f.region St.ok
    let s := modCfg (fun c => { c with cutovers := c.cutovers.map (fun x => if x.region == f.region && x.step == 1 then { x with step := 2 } else x) }) s
    (s.cfg.loads.filter (fun l => l.state == 0)).foldl (fun s l => loadReady l.id s) s) s

/-- Cutovers move one step at each marker after the freeze (R226): first the joining drivers go to the new routes, then the region is LIVE. -/
def cutoverMarker (s : Block) : Block :=
  s.cfg.cutovers.foldl (fun s x =>
    if x.step == 2 then (fun s => x.links.foldl (fun s l => setLink l.1 l.2 s) s) <| modCfg (fun c => { c with cutovers := c.cutovers.map (fun y => if y.id == x.id then { y with step := 3 } else y) }) s
    else if x.step == 3 then cutoverDone x s
    else s) s

/-- What an alignment marker does to regions. -/
def platesMarker (s : Block) : Block :=
  let rel := s.cfg.releases
  let s := modCfg (fun c => { c with releases := [] }) s
  rel.foldl (fun s x => releaseOne x s) (freezeMarker (cutoverMarker (resetMarker s)))

/-- A fabric die reset, or the clearing of a die (R54, R116, R190): loads that target it end with REFUSED_STATE, every sector of the die
is EMPTY and cleared, transit fields included, with its registers reset. -/
def platesDieReset (d : Nat) (s : Block) : Block :=
  let on (k : Nat) : Bool := k / 80 == d
  let s := (s.cfg.loads.filter (fun l => l.targets.any on)).foldl (fun s l => loadFail l St.refusedState 0 s) s
  let ks := (upto 80).map (80 * d + ·)
  let rs := (ks.map (secRegion s)).eraseDups
  let s := emptySectors ks s
  let s := modCfg (fun c => { c with fields := spClear (fun i => on (keySector i)) c.fields, transit := spClear (fun i => on (keySector i)) c.transit }) s
  let gone (r : Nat) : Bool := rs.contains r && (regionSectors s r).isEmpty
  let s := rs.foldl (fun s r => if gone r then (((s.close 0x0102 r St.refusedState).close 0x0104 r St.refusedState)) else s) s
  let dead := s.cfg.cutovers.filter (fun x => on x.old || on x.new)
  let s := dead.foldl (fun s x => s.close 0x0101 x.id St.refusedState) s
  modCfg (fun c => { c with
    freezes := c.freezes.filter (fun f => !gone f.region), resets := c.resets.filter (fun x => !gone x.1),
    cutovers := c.cutovers.filter (fun x => !(on x.old || on x.new)),
    lastMbe := spClear on c.lastMbe, scrubPos := spSet (fun _ => 0) c.scrubPos d 0,
    fplls := spClear (fun i => i / 16 == d) c.fplls, nets := spClear (fun i => i / 32 == d) c.nets }) s

/-- After a Greone restart (R212): loads in STREAM or VERIFY have ended, their targets are EMPTY, and LOAD_ABORTED is logged. -/
def platesRestart (s : Block) : Block :=
  s.cfg.loads.foldl (fun s l =>
    if l.state == 0 then dropLoad l.id s
    else (loadFail { l with op2 := 0 } ldAborted 0 s).raise Ev.loadAborted (originOf 0x01) l.id) s

end Sys2Proof.Machine
end

