-- ==== Sys2Proof/Machine/Ring.lean ====
section
/-! DEFINITION. The Ring Port (02): its packets, states, insertion and leaving, and the start and trigger packets of 10. -/

namespace Sys2Proof.Machine

/-! ### Packets (R56) -/


/-- The comma character of byte 0. -/
def ringComma : Nat := 0xBC

/-- A packet of a type with its four payload bytes. -/
def ringPkt (typ : Nat) (pay : List Nat) : BitVec 64 :=
  BitVec.ofNat 64 (leNat (ringComma :: typ :: pay ++ leBytes 2 (crc16 (typ :: pay))))

/-- Byte i of a packet. -/
def pktByte (p : BitVec 64) (i : Nat) : Nat := fldGet p.toNat (8 * i) 8

/-- The CRC of a packet holds. -/
def ringCrcOk (p : BitVec 64) : Bool := crc16 ((upto 5).map (fun i => pktByte p (1 + i))) == fldGet p.toNat 48 16

/-! ### State -/

/-- RING_STATUS.STATE: 0 BYPASSED, 1 LISTENING, 2 WAIT_WINDOW, 3 INSERTING, 4 JOINED, 5 LEAVING. -/
def ringSt (s : Block) : Nat := s.f Rg.ring Rg.ringState
def setRingSt (v : Nat) (s : Block) : Block := s.put Rg.ring Rg.ringState v

def modRing (f : RingSt → RingSt) (s : Block) : Block := { s with ring := f s.ring }

/-- The EIC source and ORIGIN of the Ring Port (R532). -/
def srcRing : Nat := 1288
def ringOrigin : Nat := originOf 0x07

/-- The receiver is locked to RING_IN. -/
def ringHears (s : Block) : Bool := s.flag Rg.ring Rg.ringLocked

/-- The bypass is open and what is received goes on to RING_OUT. -/
def ringThrough (s : Block) : Bool := s.flag Rg.ring Rg.ringBypassOpen && ringHears s

/-- Forward a packet downstream. -/
def ringForward (p : BitVec 64) (s : Block) : Block := when (ringThrough s) (fun s => s.emit (.ringPacket p)) s

/-- The port begins to listen (R63). -/
def ringListen (s : Block) : Block := modRing (fun r => { r with window := none, timeoutRaised := false }) (setRingSt 1 s)

/-- RING_LOCK_ACQUIRED (R63, R73): from LISTENING the port waits for a window; a part whose primary reference is the ring slews to it at
its first lock.  DESIGN CHOICE: a later lock is a recovery, and waits for the 10 ms of R85 (REFERENCE_RESTORED). -/
def ringLockAcquiredStep (s : Block) : Block :=
  if ringSt s == 0 || ringHears s then s
  else
    let first := ringSt s == 1
    let s := (s.putB Rg.ring Rg.ringLocked true).putB Rg.clk Rg.clkRingOk true
    let s := when first (setRingSt 2) s
    when (first && primaryRing s && !s.flag Rg.clk Rg.clkOnRing && !s.clk.ringUsed) (startSlew true) s

def execRingLockAcquired (s : State) : Host.Outcome State Fault Refusal := clocked ringLockAcquiredStep s

/-- RING_LOCK_LOST (R63, R66, R85): the ring reference is lost with it. WAIT_WINDOW returns to LISTENING; an inserted node stays inserted, sends IDLE, and acts on no start or
trigger packet until a new CENSUS. -/
def ringLockLostStep (s : Block) : Block :=
  if !ringHears s then s
  else
    let s := ringRefLost (s.putB Rg.ring Rg.ringLocked false)
    if ringSt s == 2 then ringListen s
    else
      let s := modRing (fun r => { r with holdOff := true }) s
      let s := when (s.flag Rg.ring Rg.ringBypassOpen) (fun s => s.emit (.ringPacket (ringPkt 0 [0, 0, 0, 0]))) s
      if ringSt s == 4 then (s.raise Ev.ringLockLost ringOrigin).eicEdge srcRing else s

def execRingLockLost (s : State) : Host.Outcome State Fault Refusal := clocked ringLockLostStep s

/-- RING_WINDOW (R56, R63, R65): forwarded; a LENGTH of 10 or more announces a window that a port uses if it waits for one or leaves when
it starts: a port that is JOINED keeps it, since RING_LEAVE may come before the window starts. -/
def ringWindowStep (delay length : BitVec 16) (s : Block) : Block :=
  if !ringHears s then s
  else
    let s := ringForward (ringPkt 1 (leBytes 2 delay.toNat ++ leBytes 2 length.toNat)) s
    if decide (10 ≤ length.toNat) && (ringSt s == 2 || ringSt s == 4 || ringSt s == 5) then modRing (fun r => { r with window := some (delay, length) }) s
    else s

def execRingWindow (delay length : BitVec 16) (s : State) : Host.Outcome State Fault Refusal := clocked (ringWindowStep delay length) s

/-- RING_WINDOW_START (R57, R58, R63): the announced window starts. The bypass opens and IDLE is sent, or it closes and LEAVING ends. -/
def ringWindowStartStep (s : Block) : Block :=
  if s.ring.window.isNone then s
  else
    let s := modRing (fun r => { r with window := none }) s
    if ringSt s == 2 then
      let s := (setRingSt 3 s).putB Rg.ring Rg.ringBypassOpen s.ring.vccaux
      when s.ring.vccaux (fun s => s.emit (.ringPacket (ringPkt 0 [0, 0, 0, 0]))) s
    else if ringSt s == 5 then
      let s := ((setRingSt 0 s).putB Rg.ring Rg.ringBypassOpen false).putB Rg.ring Rg.ringLocked false
      (modRing (fun r => { r with holdOff := false }) (ringRefLost s)).close 0x000F 0 St.ok
    else s

def execRingWindowStart (s : State) : Host.Outcome State Fault Refusal := clocked ringWindowStartStep s

/-- RING_CENSUS (R63, R64, R66, R70): an inserted node forwards it with HOP one higher, saturating at 255; one received without error
gives its position, ends the hold of R66, and completes the insertion. -/
def ringCensusStep (hop : Nat) (rxError : Bool) (s : Block) : Block :=
  if !ringThrough s then s
  else
    let st := ringSt s
    let up := if st == 3 || st == 4 then Nat.min (hop + 1) 255 else hop
    let s := ringForward (ringPkt 2 [up, 0, 0, 0]) s
    if rxError || !(st == 3 || st == 4) then s
    else
      let s := modRing (fun r => { r with holdOff := false }) ((setRingSt 4 s).put Rg.ring Rg.ringPosition hop)
      let s := s.putB Rg.rst Rg.ringJoined true
      when (st == 3) (fun s => s.close 0x000E 0 St.ok) s

def execRingCensus (hop : BitVec 8) (rxError : Bool) (s : State) : Host.Outcome State Fault Refusal :=
  clocked (ringCensusStep hop.toNat rxError) s

/-! ### Start, trigger and abort packets (R301, R302) -/

/-- The part acts on start and trigger packets: JOINED, the bypass open, no hold of R66. -/
def ringActs (s : Block) : Bool := ringSt s == 4 && ringThrough s && !s.ring.holdOff

/-- A packet's GROUP names the run's group. -/
def groupNames (g : Nat) (t : Tpp) : Bool := g == 0xFFFF || g == t.group

/-- The instant of R302 in ps, for a packet that arrives now. -/
def ringInstant (s : Block) (lead : Nat) (t : Tpp) : Int :=
  (nowPs s : Int) + 1000000 * lead - 64000 * (s.f Rg.ring Rg.ringPosition : Int) - 2 * sgn 24 (s.f Rg.ring Rg.ringComp) + 2 * t.offset

/-- An instant lies less than 100 ns ahead. -/
def ringTooLate (s : Block) (i : Int) : Bool := decide (i < (nowPs s : Int) + 100000)

/-- The TPPs whose run is of a group. -/
def groupTpps (s : Block) (g : Nat) (p : Nat → Bool) : List Nat := (upto 24).filter (fun n => p (tppState s n) && groupNames g (getTpp s n))

/-- RING_START_PACKET: the start instant of each ARMED run of the group that starts on the ring, or its end with RING_LATE. -/
def ringStartPacketStep (g lead : Nat) (s : Block) : Block :=
  let s := ringForward (ringPkt 0x10 (leBytes 2 g ++ [0, lead])) s
  if !ringActs s then s
  else
    forEach (groupTpps s g (· == 3)) (fun n s =>
      let t := getTpp s n
      if t.startSrc != 1 || t.startAt.isSome then s
      else
        let i := ringInstant s lead t
        if ringTooLate s i then runEnd n St.ringLate s else setTpp n { t with startAt := some i } s) s

def execRingStartPacket (group : BitVec 16) (lead : BitVec 8) (s : State) : Host.Outcome State Fault Refusal :=
  clocked (ringStartPacketStep group.toNat lead.toNat) s

/-- RING_TRIGGER_PACKET: the trigger's instant at each ARMED or RUNNING run of the group; a packet that a run must drop is counted once. -/
def ringTriggerPacketStep (g trig lead : Nat) (s : Block) : Block :=
  let s := ringForward (ringPkt 0x11 (leBytes 2 g ++ [trig, lead])) s
  if !ringActs s then s
  else
    let l := groupTpps s g (fun st => st == 3 || st == 4)
    let late (n : Nat) : Bool := ringTooLate s (ringInstant s lead (getTpp s n))
    let s := forEach l (fun n s => if late n then s else tppTrigger n false trig (ringInstant s lead (getTpp s n)) s) s
    when (l.any late) (fun s => s.bump Rg.ringLateCount) s

def execRingTriggerPacket (group : BitVec 16) (trig : BitVec 4) (lead : BitVec 8) (s : State) :
    Host.Outcome State Fault Refusal := clocked (ringTriggerPacketStep group.toNat trig.toNat lead.toNat) s

/-- RING_ABORT_PACKET: the group's runs end at the next period boundary with RING_ABORT. -/
def ringAbortPacketStep (g : Nat) (s : Block) : Block :=
  let s := ringForward (ringPkt 0x12 (leBytes 2 g ++ [0, 0])) s
  if ringSt s == 4 && ringThrough s then
    forEach (groupTpps s g (fun st => st == 3 || st == 4)) (fun n s => runStopAt n St.ringAbort (nowPs s + 1) s) s
  else s

def execRingAbortPacket (group : BitVec 16) (s : State) : Host.Outcome State Fault Refusal :=
  clocked (ringAbortPacketStep group.toNat) s

/-- RING_PACKET_FORWARD (R56, R301): an IDLE or reserved packet, or one whose CRC fails, goes on unchanged; a failing CRC is counted.
Packets of the other types with a good CRC have rows of their own. -/
def ringPacketForwardStep (p : BitVec 64) (s : Block) : Block :=
  if !ringHears s || (ringCrcOk p && [1, 2, 0x10, 0x11, 0x12].contains (pktByte p 1)) then s
  else when (!ringCrcOk p) (fun s => s.bump Rg.ringCrcErrCount) (ringForward p s)

def execRingPacketForward (packet : BitVec 64) (s : State) : Host.Outcome State Fault Refusal :=
  clocked (ringPacketForwardStep packet) s

/-! ### Joining and leaving (R67, R70) -/

/-- RING_JOIN_TIMEOUT: the event is raised once; a RING_JOIN that waits is answered TIMEOUT. -/
def ringJoinTimeoutStep (s : Block) : Block :=
  if ringSt s != 2 || s.ring.timeoutRaised then s
  else
    let s := modRing (fun r => { r with timeoutRaised := true }) ((s.raise Ev.ringJoinTimeout ringOrigin).eicEdge srcRing)
    s.close 0x000E 0 St.timeout

def execRingJoinTimeout (s : State) : Host.Outcome State Fault Refusal := clocked ringJoinTimeoutStep s

/-- RING_JOIN. -/
def ringJoinCmd (c : Cmd) (s : Block) : Block :=
  if ringSt s == 0 && !s.clk.gated then (ringListen s).hold c 0x000E 0 else s.respond c St.refusedState

def execRingJoin (h : Hdr) (s : State) : Host.Outcome State Fault Refusal :=
  live (fun s => s.command h { op := 0x000E, ports := hostPorts, stage := 2 } ringJoinCmd) s

/-- RING_LEAVE. -/
def ringLeaveCmd (c : Cmd) (s : Block) : Block :=
  if ringSt s == 4 then ((setRingSt 5 s).putB Rg.rst Rg.ringJoined false).hold c 0x000F 0 else s.respond c St.refusedState

def execRingLeave (h : Hdr) (s : State) : Host.Outcome State Fault Refusal :=
  live (fun s => s.command h { op := 0x000F, ports := hostPorts, stage := 2 } ringLeaveCmd) s

/-- VCCAUX_LOSS (R58, R68): the bypass closes at once, and stays closed while VCCAUX is absent. -/
def vccauxLossStep (s : Block) : Block := (modRing (fun r => { r with vccaux := false }) s).putB Rg.ring Rg.ringBypassOpen false

def execVccauxLoss (s : State) : Host.Outcome State Fault Refusal := live vccauxLossStep s

end Sys2Proof.Machine
end

