-- ==== Sys2Proof/Machine/Events.lean ====
section
/-! DEFINITION. Events (R582 to R584): the hardware FIFO, the event log and the event queue. -/

namespace Sys2Proof.Machine

def modEv (f : EvSt → EvSt) (s : Block) : Block := { s with ev := f s.ev }

/-- Entries of the hardware FIFO, and of the log. -/
def eventFifoSize : Nat := 512
def eventLogSize : Nat := 4096

/-- EVENT_FRAME: the oldest frame on its way enters the FIFO, or is counted while the FIFO is full. -/
def eventFrameStep (s : Block) : Block :=
  match s.ev.frames with
  | [] => s
  | f :: fs =>
    if s.ev.fifo.length < eventFifoSize then modEv (fun e => { e with frames := fs, fifo := e.fifo ++ [f] }) s
    else modEv (fun e => { e with frames := fs, lost := e.lost + 1 }) s

def execEventFrame (s : State) : Host.Outcome State Fault Refusal := live eventFrameStep s

/-- The 32 bytes of a log entry (R582). -/
def eventBytes (e : EvEntry) : List Nat :=
  leBytes 8 e.frame.time.toNat ++ leBytes 2 e.frame.code.toNat ++ [severity e.frame.code.toNat, e.first.toNat] ++
    leBytes 2 e.frame.origin.toNat ++ [0, 0] ++ leBytes 4 e.seq.toNat ++ leBytes 8 e.frame.detail.toNat ++
    leBytes 4 e.frame.detail2.toNat

/-- EVENT_LOST, with the number of events that were counted. -/
def eventLostFrame (s : Block) : EvFrame :=
  { time := s.devTime, code := BitVec.ofNat 16 Ev.eventLost, origin := 0xFFF, detail := 0,
    detail2 := BitVec.ofNat 31 s.ev.lost }

/-- The front of the FIFO leaves it; where events were counted, EVENT_LOST takes the space. -/
def fifoPop (s : Block) : Block :=
  let s := modEv (fun e => { e with fifo := e.fifo.drop 1 }) s
  if 0 < s.ev.lost then modEv (fun e => { e with fifo := e.fifo ++ [eventLostFrame s], lost := 0 }) s else s

/-- A log entry goes to the event queue where its severity is at or above the floor (R584). -/
def eventPush (e : EvEntry) (s : Block) : Block :=
  match s.ev.queue with
  | none => s
  | some (q, floor) =>
    if floor ≤ severity e.frame.code.toNat && !s.clk.gated then
      qePushArrive 0x400 q false (BitVec.ofNat 512 (leNat (eventBytes e))) s
    else s

/-- Greone firmware runs: an image, not the boot ROM, and no restart. -/
def firmwareRuns (s : Block) : Bool := s.gr.up && !s.gr.restarting && s.fwu.running.isSome && stageOf s != 7 && stageOf s != 0

/-- A frame becomes the next entry of the log, goes to the event queue, and raises source 1,286. -/
def logFrame (f : EvFrame) (s : Block) : Block :=
  let e : EvEntry := { frame := f, seq := s.ev.nextSeq, first := s.ev.first }
  let s := fifoPop s
  let s := modEv (fun x => { x with
    log := (x.log ++ [e]).drop (x.log.length + 1 - eventLogSize), nextSeq := x.nextSeq + 1, first := false }) s
  (eventPush e s).eicEdge 1286

/-- EVENT_LOG_WRITE: firmware moves the front of the FIFO into the log, pushes it to the event queue and raises source 1,286. -/
def eventLogWriteStep (s : Block) : Block :=
  match s.ev.fifo with
  | [] => s
  | f :: _ => if firmwareRuns s then logFrame f s else s

def execEventLogWrite (s : State) : Host.Outcome State Fault Refusal := live eventLogWriteStep s

/-- EVENT_READ: the oldest entry with that SEQ or later. -/
def eventReadCmd (seq : Nat) (c : Cmd) (s : Block) : Block :=
  match s.ev.log.find? (fun e => decide (seq ≤ e.seq.toNat)) with
  | some e => s.respond c St.ok ((eventBytes e).map (fun b => (1, b)))
  | none => s.respond c St.badArg

def execEventRead (h : Hdr) (seq : Nat) (s : State) : Host.Outcome State Fault Refusal :=
  live (fun s => s.command h { op := 0x0009, ports := allPorts, stage := 1 } (eventReadCmd seq)) s

/-- A queue that may take events: a VALID completion queue of 32-byte entries in a group of the port, with PUSH_SRC 0x400 or
0xFFF. -/
def eventQueueOk (s : Block) (p : Port) (q : Nat) : Bool :=
  ownsQueue s p q &&
  match ctxOf s q with
  | some x => x.valid && !x.sub && !x.es64 && (x.pushSrc == 0x400 || x.pushSrc == 0xFFF)
  | none => false

/-- EVENT_QUEUE: queue 0xF_FFFF stops delivery. -/
def eventQueueCmd (queue floor : Nat) (c : Cmd) (s : Block) : Block :=
  if queue == 0xFFFFF then (modEv (fun e => { e with queue := none }) s).respond c St.ok
  else if 0xFFFFF < queue || 3 < floor || !eventQueueOk s c.port queue then s.respond c St.badArg
  else (modEv (fun e => { e with queue := some (queue, floor) }) s).respond c St.ok

def execEventQueue (h : Hdr) (queue floor : Nat) (s : State) : Host.Outcome State Fault Refusal :=
  live (fun s => s.command h { op := 0x000A, ports := hostPorts, stage := 1 } (eventQueueCmd queue floor)) s

end Sys2Proof.Machine
end

