-- ==== Sys2Proof/Machine/SelfTest.lean ====
section
/-! DEFINITION. Self-tests and calibrations (R575 to R577): running one now, the schedule, quiet points and ends. -/

namespace Sys2Proof.Machine

def stTestFailed : Nat := 0x0E00
def stNoSuchTest : Nat := 0x0E01
def stScheduleFull : Nat := 0x0E02
def stCancelled : Nat := 0x0E03

def modGr (f : GreoneSt → GreoneSt) (s : Block) : Block := { s with gr := f s.gr }

/-! ### The tests (R576) -/

/-- How many targets a test has; one with none takes 0 or an omitted target. None where no test has the ID. -/
def testTargets (test : Nat) : Option Nat :=
  if test == 0 || 0x12 < test then none
  else if test ≤ 3 then some 128
  else if test ≤ 7 then some 8
  else if test ≤ 0xC then some 320
  else if test == 0xD then some 24
  else if test ≤ 0xF then some 4
  else if test == 0x10 then some 34
  else some 1

/-- The number of a target as the test's table gives it. -/
def testTarget (test target : Nat) : Nat := if (test == 0x11 || test == 0x12) && target == 0xFFFF then 0 else target

/-- A test with that target acts on fabric die d. -/
def testOnDie (d test target : Nat) : Bool :=
  if test ≤ 3 then target / 32 == d
  else if test ≤ 7 then target / 2 == d
  else if test ≤ 0xC then target / 80 == d
  else if test == 0xD then target / 6 == d
  else if test ≤ 0xF then target == d
  else if test == 0x10 then hasEnd d target
  else false

/-- The first stage in which a test's block is there. -/
def testStage (test : Nat) : Nat :=
  if test ≤ 7 || test == 0xD then 3 else if test == 0x10 then 2 else 1

/-- A test's own arguments, as 64-bit fields of a number: those of the command of the same name, with march and retrain those
of DRAM_SELFTEST and DRAM_TRAIN after the channel. -/
def testArg (args i : Nat) : Nat := fldGet args (64 * i) 64

/-- The eye scan that a test's arguments describe. -/
def testScan (args : Nat) : Option EyeScan :=
  eyeScanOf (testArg args 0) (testArg args 1) (testArg args 2) (testArg args 3) (testArg args 4) (testArg args 5) (testArg args 6)
    (testArg args 7)

/-- A test's own arguments are in range. -/
def testArgsOk (s : Block) (test target args : Nat) : Bool :=
  if test == 1 then (testScan args).isSome
  else if test == 6 then decide (testArg args 0 + testArg args 1 ≤ (getDc s target).cap) && testArg args 1 != 0
  else if test == 7 then decide (testArg args 0 < 4) || testArg args 0 == 255
  else true

/-- A die-link module retrains beside its traffic: v2 with carry-over. -/
def carriesOn (s : Block) (m : Nat) : Bool :=
  (linkEnds m).all (fun d => linkUp s d m && linkV2 s d m && s.flag (Rg.dl d m) Rg.mCarryEn)

/-- The condition of a test holds; a non-intrusive test has none. -/
def testCond (s : Block) (test target : Nat) : Bool :=
  if test == 2 || test == 3 then laneIdleForTest s target
  else if test == 6 || test == 7 then dcState s target == 4
  else if test == 0xA then secState s target == 0
  else if test == 0xB then secState s target != 3
  else if test == 0xC then secState s target == 0 && !hasTransit s target
  else if test == 0xD then tppState s target == 2
  else if test == 0x10 then moduleState s target == 0 || carriesOn s target
  else true

/-- The test runs on the target, or another command holds the block. -/
def testBusy (s : Block) (test target : Nat) : Bool :=
  s.gr.tests.any (fun t => t.test == test && t.target == target) ||
    ((test == 6 || test == 7) && dcTesting s target) || (test == 1 && (getLane s target).scan.isSome)

/-! ### Running a test -/

/-- A scrub pass of one sector (R228, R231). -/
def scrubSector (k : Nat) (s : Block) : Block :=
  let bad := (spKeys s.cfg.upsets).filter (fun i => i / 6656 == k)
  let s := modCfg (fun c => { c with fixes := spClear (fun i => i / 6656 == k && !bad.contains i) c.fixes }) s
  forEach bad (fun i s =>
    match spGet (fun _ => []) s.cfg.upsets i with
    | [] => s
    | [b] => scrubSbe k i b s
    | _ => scrubMbe k (i % 6656) s) s

/-- The self-test of a sector's engines overwrites their operand memories (R187). -/
def blurEngines (k : Nat) (s : Block) : Block :=
  forEach (upto 48) (fun j s =>
    let e := 48 * k + j
    setEng { s with free := s.free + 1 } e
      { getEng s e with omA := [], omB := [], omBlur := some s.free, markA := [], markB := [] }) s

/-- What a test does to its target. -/
def testBegin (test target args : Nat) (s : Block) : Block :=
  if test == 1 then modLane target (fun x => { x with scan := testScan args }) s
  else if test == 2 || test == 3 then s.putB (Rg.lane target) Rg.lTest true
  else if test == 6 then marchRange target (testArg args 0) (testArg args 1) s
  else if test == 7 then
    trainStart target .command (if testArg args 0 == 255 then none else some (testArg args 0)) s
  else if test == 8 then scrubSector target s
  else if test == 0xB then blurEngines target s
  else if test == 0xD then tppCalBegin target s
  else if test == 0x10 then if moduleState s target == 0 then discover target s else enterRetrain target s
  else if test == 0x11 then restartFor 4 s
  else s

/-- A run is under way. -/
def testAdd (t : TestRun) (s : Block) : Block := modGr (fun g => { g with tests := g.tests ++ [t] }) s

/-- The object that a TEST_RUN holds. -/
def testObj (test target : Nat) : Nat := test * 65536 + target

/-- A schedule slot ends with a status: TEST_DONE. -/
def slotEnd (k status : Nat) (s : Block) : Block :=
  (modGr (fun g => { g with schedule := spSet (fun _ => none) g.schedule k none,
                            slotStatus := spSet (fun _ => 0) g.slotStatus k status }) s).raise Ev.testDone (originOf 0x01)
    (status + k * 65536)

/-- The block of a test that firmware quiesced goes on. -/
def testResume (t : TestRun) (s : Block) : Block :=
  if t.test == 2 || t.test == 3 then
    let s := laneTest t.target s
    when t.resume (fun s => s.putB (Rg.lane t.target) Rg.lQuiesced false) s
  else if (t.test == 6 || t.test == 7) && t.resume && dcState s t.target == 4 then
    modDc t.target (fun c => { c with selfRefresh := false }) (enterDc t.target 2 s)
  else s

/-- A run ends with a status: its slot or its command hears of it. -/
def testEnd (t : TestRun) (status : Nat) (res : List (Nat × Nat)) (s : Block) : Block :=
  let s := testResume t (modGr (fun g => { g with tests := g.tests.erase t }) s)
  match t.slot with
  | some k => slotEnd k status s
  | none =>
    if t.test == 6 && held s [0x0506] t.target then s.close 0x0506 t.target (if status == stTestFailed then stSelftestFail else status) res
    else s.close 0x0E00 (testObj t.test t.target) status

/-- Every run on a fabric die that is about to be reset ends with REFUSED_STATE (R54). -/
def testsDieReset (d : Nat) (s : Block) : Block :=
  (s.gr.tests.filter (fun t => testOnDie d t.test t.target)).foldl (fun s t => testEnd t St.refusedState [] s) s

def needTest (op : Nat) : Need := { op := op, ports := workPorts, stage := 1 }

/-- The dies a test acts on run. -/
def testReach (s : Block) (test target : Nat) : Bool :=
  (upto 4).all (fun d => !(testOnDie d test target && (dieOff s d || s.flag Rg.rst (Rg.dieInReset d))))

/-- TEST_RUN: a test runs now, unless its condition does not hold. -/
def testRunCmd (test target0 args : Nat) (c : Cmd) (s : Block) : Block :=
  match testTargets test with
  | none => s.respond c stNoSuchTest
  | some n =>
    let target := testTarget test target0
    if n ≤ target || !testArgsOk s test target args then s.respond c St.badArg
    else if test == 0x11 || !stageOk s (testStage test) || !testReach s test target then s.respond c St.refusedState
    else if test == 1 && laneState s target != 5 then s.respond c St.refusedState
    else if !testCond s test target then s.respond c St.quiesceNeeded
    else if testBusy s test target then s.respond c St.busy
    else
      (testAdd { test := test, target := target, slot := none, resume := false, begun := true } (testBegin test target args s)).hold c 0x0E00 (testObj test target)

def execTestRun (h : Hdr) (test target args : Nat) (s : State) : Host.Outcome State Fault Refusal :=
  live (fun s => s.command h (needTest 0x0E00) (testRunCmd test target args)) s

/-! ### The schedule (R577) -/

def getSlot (s : Block) (k : Nat) : Option TestEntry := spGet (fun _ => none) s.gr.schedule k

/-- A test stands in a slot, or the slot is empty; the status that it shows. -/
def slotPut (k : Nat) (e : Option TestEntry) (status : Nat) (s : Block) : Block :=
  modGr (fun g => { g with schedule := spSet (fun _ => none) g.schedule k e,
                           slotStatus := spSet (fun _ => 0) g.slotStatus k status }) s

/-- TEST_SCHEDULE: the test enters the lowest empty slot, which is the answer. -/
def testScheduleCmd (test quiet target0 time args : Nat) (c : Cmd) (s : Block) : Block :=
  match testTargets test with
  | none => s.respond c stNoSuchTest
  | some n =>
    let target := testTarget test target0
    if n ≤ target || 3 < quiet || (quiet == 1 && test != 0xD) || (quiet == 2 && time == 2 ^ 64 - 1) ||
        !testArgsOk s test target args then s.respond c St.badArg
    else
      match (upto 16).find? (fun k => (getSlot s k).isNone) with
      | none => s.respond c stScheduleFull
      | some k =>
        let e : TestEntry := { test := test, quiet := quiet, target := target, time := time, args := args, port := c.port }
        (slotPut k (some e) 0 s).respond c St.ok [(1, k)]

def execTestSchedule (h : Hdr) (test quiet target time args : Nat) (s : State) : Host.Outcome State Fault Refusal :=
  live (fun s => s.command h (needTest 0x0E01) (testScheduleCmd test quiet target time args)) s

/-- The run of a slot. -/
def slotRun (s : Block) (k : Nat) : Option TestRun := s.gr.tests.find? (fun t => t.slot == some k)

/-- TEST_CANCEL: a test that waits leaves the schedule; its slot shows CANCELLED. -/
def testCancelCmd (k : Nat) (c : Cmd) (s : Block) : Block :=
  if 16 ≤ k || (getSlot s k).isNone then s.respond c St.badArg
  else if (slotRun s k).isSome then s.respond c St.refusedState
  else (slotPut k none stCancelled s).respond c St.ok

def execTestCancel (h : Hdr) (slot : Nat) (s : State) : Host.Outcome State Fault Refusal :=
  live (fun s => s.command h (needTest 0x0E02) (testCancelCmd slot)) s

/-- TEST_STATUS: 0 empty, 1 waiting, 2 running; and the status of the slot's last test. -/
def testStatusCmd (k : Nat) (c : Cmd) (s : Block) : Block :=
  if 16 ≤ k then s.respond c St.badArg
  else
    let st := if (slotRun s k).isSome then 2 else if (getSlot s k).isSome then 1 else 0
    s.respond c St.ok [(1, st), (2, spGet (fun _ => 0) s.gr.slotStatus k)]

def execTestStatus (h : Hdr) (slot : Nat) (s : State) : Host.Outcome State Fault Refusal :=
  live (fun s => s.command h (needTest 0x0E03) (testStatusCmd slot)) s

/-! ### Quiet points and ends -/

/-- The quiet point of a scheduled test can come now: no run lock (RUN_LOCK_FREE, TIME), the TPP is IDLE, the condition holds. -/
def quietNow (s : Block) (e : TestEntry) : Bool :=
  if e.quiet == 0 || e.quiet == 2 then !runLockHeld s
  else if e.quiet == 1 then tppState s e.target == 2
  else testCond s e.test e.target

/-- The test of a slot begins. -/
def slotBegin (k : Nat) (e : TestEntry) (resume : Bool) (s : Block) : Block :=
  testAdd { test := e.test, target := e.target, slot := some k, resume := resume, begun := true }
    (testBegin e.test e.target e.args s)

/-- The condition does not hold at the quiet point: firmware quiesces a lane or a channel, takes a v1 module down, or waits; a block
that cannot be quiesced ends the test. -/
def quietQuiesce (k : Nat) (e : TestEntry) (s : Block) : Block :=
  if e.test == 2 || e.test == 3 then
    if laneState s e.target == 5 then slotBegin k e true (s.putB (Rg.lane e.target) Rg.lQuiesced true)
    else slotEnd k St.refusedState s
  else if e.test == 6 || e.test == 7 then
    if dcState s e.target == 2 && !dcTesting s e.target then
      testAdd { test := e.test, target := e.target, slot := some k, resume := true, begun := false } (enterDc e.target 3 s)
    else slotEnd k St.refusedState s
  else if e.test == 0x10 then
    let st := moduleState s e.target
    if (st == 4 || st == 5) && !lastPath s e.target && !held s [0x0802] e.target then
      slotBegin k e true (moduleDown e.target false s)
    else slotEnd k St.refusedState s
  else s

/-- TEST_QUIET_POINT: the quiet point of a slot's test has come, or the channel it drains is quiesced. -/
def testQuietPointStep (k : Nat) (s : Block) : Block :=
  if !firmwareRuns s then s
  else
    match getSlot s k with
    | none => s
    | some e =>
      match slotRun s k with
      | some t =>
        if t.begun then s
        else if dcState s e.target == 4 then
          if testArgsOk s e.test e.target e.args then
            slotBegin k e true (modGr (fun g => { g with tests := g.tests.erase t }) s)
          else testEnd t St.badArg [] s
        else if dcState s e.target == 3 then s
        else testEnd t St.refusedState [] s
      | none =>
        if !quietNow s e || !stageOk s (testStage e.test) then s
        else
          let s := when (e.quiet == 2) (reachTime (BitVec.ofNat 64 e.time)) s
          if !testArgsOk s e.test e.target e.args then slotEnd k St.badArg s
          else if !testReach s e.test e.target || (e.test == 1 && laneState s e.target != 5) then slotEnd k St.refusedState s
          else if testCond s e.test e.target then
            if testBusy s e.test e.target then s else slotBegin k e false s
          else quietQuiesce k e s

def execTestQuietPoint (slot : Fin 16) (s : State) : Host.Outcome State Fault Refusal := clocked (testQuietPointStep slot.val) s

/-- A run has done its work on the block. -/
def testDone (s : Block) (t : TestRun) : Bool :=
  if t.test == 1 then (getLane s t.target).scan.isNone
  else if t.test == 7 then (getDc s t.target).training.isNone
  else if t.test == 0xD then tppState s t.target != 1
  else if t.test == 0x10 then !([1, 2, 3, 6].contains (moduleState s t.target))
  else t.test != 0x11

/-- What a finished run shows: a retrained channel is ONLINE, a retrained module is up, else the test's own result. -/
def testPassed (s : Block) (t : TestRun) (pass : Bool) : Bool :=
  if t.test == 7 then dcState s t.target == 2
  else if t.test == 0x10 then moduleState s t.target == 4 || moduleState s t.target == 5
  else pass

/-- SELF_TEST_COMPLETE: a run ends; a march that fails returns its first 16 offsets (R418). -/
def selfTestCompleteStep (test target : Nat) (pass : Bool) (offsets : List Nat) (s : Block) : Block :=
  match s.gr.tests.find? (fun t => t.test == test && t.target == target && t.begun) with
  | none => s
  | some t =>
    if !firmwareRuns s || !testDone s t then s
    else if testPassed s t pass then testEnd t St.ok [] s
    else testEnd t stTestFailed ((offsets.take 16).map (fun x => (8, x))) s

def execSelfTestComplete (test : Fin 256) (target : Fin 65536) (pass : Bool) (offsets : List Nat) (s : State) :
    Host.Outcome State Fault Refusal := clocked (selfTestCompleteStep test.val target.val pass offsets) s

end Sys2Proof.Machine
end

