-- ==== Sys2Proof/Machine/Device.lean ====
section
/-! DEFINITION. Staged start and reset scopes (02): the Device reset, the stages, fabric die and site resets. -/

namespace Sys2Proof.Machine

def modStart (f : StartSt → StartSt) (s : Block) : Block := { s with start := f s.start }

/-- Bit d of a mask set or cleared. -/
def maskPut {w : Nat} (m : BitVec w) (d : Nat) (v : Bool) : BitVec w :=
  if v then m ||| BitVec.ofNat w (2 ^ d) else m &&& ~~~(BitVec.ofNat w (2 ^ d))

/-! ### The Device reset (R47, R48, R63) -/

/-- Everything is reset but what no reset reaches: markings, fuses, the supplies of the banks and the configuration flash, where a settings write that was cut off
leaves its bank not valid (R636). Site resets are asserted. -/
def deviceReset (s : Block) : Block :=
  let s := cutBankWrite s
  let s := ([0, 1, 2].filter (fun n => !s.start.siteHeld.getLsbD n)).foldl (fun (s : Block) n => s.emit (.siteReset n true)) s
  let s := when (s.flag Rg.pwr Rg.pThermTrip) (fun s => s.emit (.thermTrip false)) s
  { Block.reset with out := s.out, free := s.free, nv := s.nv,
                     ring := { Block.reset.ring with vccaux := s.ring.vccaux },
                     io := { Block.reset.io with level := s.io.level } }

/-- PORST_N_ASSERT: a pulse under 1 µs is filtered out, one from 1 µs to 10 µs may reset the device (R48), a longer one does.
DESIGN CHOICE: during a pulse that does not reset the device the Ring Port's bypass stays as it is (R58 closes it while PORST_N is low,
R48 leaves such a pulse open). -/
def porstNAssertStep (lowNs : Nat) (mayReset : Bool) (s : Block) : Block :=
  if lowNs < 1000 || (decide (lowNs < 10000) && !mayReset) then s else deviceReset s

def execPorstNAssert (lowNs : Nat) (mayReset : Bool) (s : State) : Host.Outcome State Fault Refusal := always (porstNAssertStep lowNs mayReset) s

/-- Stage 0 begins (R39): the boot ROM runs on a locked root PLL, fuses are read, BOOT_SALT is drawn (R610), HD's windows open, and H0
leaves reset (R483). -/
def stage0Begin (s : Block) : Block :=
  let r := s.draw
  let s : Block := { r.2 with sec := { r.2.sec with salt := BitVec.ofNat 256 r.1 }, gr := { r.2.gr with up := true },
                              ring := { r.2.ring with vccaux := true } }
  let s := modStart (fun x => { x with inReset := false, porstLow := false, siteHeld := maskPut x.siteHeld 0 false }) s
  let s := (s.putB Rg.clk Rg.clkLocked true).putB Rg.clk Rg.clkRefclkOk true
  (openHub (fuseToRegs s)).emit (.siteReset 0 false)

/-- PORST_N_RELEASE. -/
def porstNReleaseStep (s : Block) : Block := if s.start.inReset then stage0Begin s else s

def execPorstNRelease (s : State) : Host.Outcome State Fault Refusal := always (porstNReleaseStep) s

/-! ### Stages 1 to 3 (R39, R42 to R45) -/

/-- STAGE1_ENTER: firmware runs with its settings loaded, every fabric die is cleared and its Seam deskewed, owner keys and rollback
counters are checked. -/
def stage1EnterStep (faults : List SeamFault) (s : Block) : Block :=
  if stageOf s != 0 || !s.gr.up || !s.start.imageChosen then s
  else
    let s := applyStage1 (loadSettings false (s.put Rg.rst Rg.stage 1))
    let s := modStart (fun x => { x with fabricCleared := true }) (seamDeskew [0, 1, 2, 3] faults s)
    fwRebuild (rollbackCheck 1 (rollbackCheck 0 (checkOwnerKeys s)))

def execStage1Enter (faults : List SeamFault) (s : State) : Host.Outcome State Fault Refusal := clocked (stage1EnterStep faults) s

/-- Every module is trained or DOWN. -/
def linksSettled (s : Block) : Bool := (upto 34).all (fun m => moduleState s m == 0 || moduleState s m == 4 || moduleState s m == 5)

/-- STAGE2_ENTER: the network is up with its burst limits, P1 and P2 leave reset, modules start discovery (R489), and ring insertion
begins where the ring is enabled.  DESIGN CHOICE: the stage table of R39 has die links trained or DOWN in Stage 1 and ACTIVE in Stage 2,
while R489 and R40 start discovery when Stage 2 begins; the model follows R489, so that modules are DOWN in Stage 1. -/
def stage2EnterStep (s : Block) : Block :=
  if stageOf s != 1 || !s.start.fabricCleared || !linksSettled s then s
  else
    let s := loadBursts (forEach (upto 4) openDie (s.put Rg.rst Rg.stage 2))
    let s := forEach [1, 2] (fun n s =>
      (modStart (fun x => { x with siteHeld := maskPut x.siteHeld n false }) s).emit (.siteReset n false)) s
    let s := forEach (upto 34) discover s
    let s := applyRingComp s
    when (setting s 0x0007 == 1) ringListen s

def execStage2Enter (s : State) : Host.Outcome State Fault Refusal := clocked stage2EnterStep s

/-- A setting as Greone firmware last committed it, or its default: what the DRAM mapping takes at each entry to Stage 3 (R31, R585). -/
def settingNow (s : Block) (id : Nat) : Nat :=
  match s.gr.committed.lookup id with
  | some v => if settingInRange s id v then v else (settingDefault id).getD 0
  | none => (settingDefault id).getD 0

/-- Stage 3 begins: the DRAM mapping takes its settings (R31), the fitted channels train (R42), and lanes with AUTO_UP come up (R358). -/
def stage3Begin (fitted : BitVec 8) (s : Block) : Block :=
  let s := s.put Rg.rst Rg.stage 3
  let s : Block := { s with dmap := { mode := settingNow s 0x0001, gran := settingNow s 0x0002, caps := [0, 0, 0, 0, 0, 0, 0, 0] } }
  let s := modStart (fun x => { x with trainingLeft := fitted, trainingEnded := fitted == 0 }) s
  let s := forEach (bitsOf 8 fitted.toNat) (fun n s =>
    trainStart n .stage3 none (modDc n (fun c => { c with mapHash := s.flag (Rg.dc n) Rg.dcMapHash }) s)) s
  let s := trainingDone s
  forEach ((upto 128).filter (fun n => s.flag (Rg.lane n) Rg.lAutoUp && laneState s n == 0 && laneMode s n != 3)) laneFirst s

/-- STAGE3_ENTER. -/
def stage3EnterStep (fitted : BitVec 8) (s : Block) : Block := if stageOf s == 2 then stage3Begin fitted s else s

def execStage3Enter (fitted : BitVec 8) (s : State) : Host.Outcome State Fault Refusal := clocked (stage3EnterStep fitted) s

/-- BOOT_PLATE_LOAD (R42, R43): after DRAM training, firmware loads the boot plate from the configuration flash (FLASH), waits for host
software (HOST), or was done when training ended (NONE). -/
def bootPlateLoadStep (s : Block) : Block :=
  if stageOf s != 3 || !s.start.trainingEnded || !firmwareRuns s then s
  else if setting s 0x0003 == 0 then s.putB Rg.rst Rg.stageDone true
  else if setting s 0x0003 == 1 && !s.start.bootReleased && !s.cfg.loads.any (fun l => l.boot) then
    loadAsk { op2 := 0, flash := true, addr := setting s 0x0004, len := none, freeze := false, retain := false, target := 0, region := 0,
              policy := 0, moveFrom := none, auto := false, boot := true } none s
  else s

def execBootPlateLoad (s : State) : Host.Outcome State Fault Refusal := clocked bootPlateLoadStep s

/-! ### Fabric die reset (R47, R50 to R55) -/

/-- An edge between two dies has a module that is up. -/
def edgeUp (s : Block) (a b : Nat) : Bool := (upto 24).any (fun m => hasEnd a m && hasEnd b m && linkUp s a m && linkUp s b m)

/-- The reset of die d would leave another die without a path to HD over the edges that `edge` allows (R53). -/
def cutsDie (s : Block) (edge : Nat → Nat → Bool) (d : Nat) : Bool :=
  let now (x : Nat) : Bool := s.flag Rg.rst (Rg.dieInReset x)
  let then' (x : Nat) : Bool := x == d || now x
  (upto 4).any (fun x => !then' x && (reachFrom edge now 4).contains x && !(reachFrom edge then' 4).contains x)

/-- Domains of a fabric die that drain (R470): its sector columns and TPPs; its channels drain by their own state. -/
def dieDomains (d : Nat) : List Nat := (upto 10).map (10 * d + ·) ++ (upto 6).map (48 + 6 * d + ·)

/-- A die begins to drain for its reset. Loads, readouts and self-tests on it end with REFUSED_STATE (R54). -/
def dieDrainStart (d : Nat) (s : Block) : Block :=
  let s := (s.cfg.loads.filter (fun l => l.targets.any (fun k => k / 80 == d))).foldl (fun s l => loadFail l St.refusedState 0 s) s
  let s := testsDieReset d (shutterDieReset d s)
  let s := forEach (dieDomains d) (fun m s => if s.net.domOff.contains m then s else domDrainStart m s) s
  forEach [2 * d, 2 * d + 1] (fun n s =>
    let s := s.close 0x0507 n St.refusedState
    if dcState s n == 2 then enterDc n 3 s else s) s

/-- DIE_RESET: the die drains; answered when the reset takes effect.  Refused with REFUSED_STATE in the two cases of R53, which the layout
decides; with NO_ROUTE where only edges that are lost leave another die without a path (R465; DESIGN CHOICE between the two rules). -/
def dieResetCmd (d : Nat) (c : Cmd) (s : Block) : Block :=
  if 4 ≤ d then s.respond c St.badArg
  else if s.flag Rg.rst (Rg.dieInReset d) then s.respond c St.busy
  else if ((upto 4).filter (fun x => s.flag Rg.rst (Rg.dieInReset x))).length ≥ 2 || cutsDie s (fun _ _ => true) d then
    s.respond c St.refusedState
  else if cutsDie s (edgeUp s) d then s.respond c stNoRoute
  else
    dieDrainStart d ((s.putB Rg.rst (Rg.dieInReset d) true).hold c 0x0005 d)

def execDieReset (h : Hdr) (die : Nat) (s : State) : Host.Outcome State Fault Refusal :=
  live (fun s => s.command h { op := 0x0005, ports := hostPorts, stage := 2 } (dieResetCmd die)) s

/-- A channel of a die in reset: its registers and its line scrambler's are reset, its DRAM stays in self-refresh with the initialisation map and BOUND saved (R51, R408,
R442);
a channel that is OFFLINE, FAILED, UNTRAINED or in CHANNEL_ERROR stays so. -/
def dcDieReset (n : Nat) (s : Block) : Block :=
  let s := [0x0500, 0x0502, 0x0505, 0x0506, 0x0507, 0x0508].foldl (fun s op => s.close op n St.refusedState) (dropReads n s)
  let st := dcState s n
  let s := s.resetWindows (0x20 + 0x20 * (n / 2) + 0x10 + n % 2) (0x20 + 0x20 * (n / 2) + 0x10 + n % 2)
  let s := s.put (Rg.dc n) Rg.dcState st
  let s := lsuDieReset n s
  modDc n (fun (c : DcSt) =>
    { DcSt.reset with
      dimm := c.dimm, cap := c.cap, lines := c.lines, tags := c.tags, initBelow := c.initBelow, initExtra := c.initExtra,
      blurs := c.blurs, patrolPos := c.patrolPos, selfRefresh := c.selfRefresh, lost := c.lost, mapHash := c.mapHash,
      training := c.training }) s

/-- The modules of a die go DOWN at both ends, and its own ends forget their maps (R487, R505); a site that has no module left is gone
(R24). -/
def linksDieReset (d : Nat) (s : Block) : Block :=
  let ms := (upto 34).filter (hasEnd d)
  let s := s.resetWindows (0x20 + 0x20 * d + 4) (0x20 + 0x20 * d + 4)
  let s := forEach ms (fun m s =>
    let s := forEach (linkEnds m) (fun x s => (s.put (Rg.dl x m) Rg.mState 0).put (Rg.dl x m) Rg.mWidth 0) s
    let s := (setEnd d m LinkEnd.reset s).close 0x0801 m St.refusedState
    (s.close 0x0803 m St.refusedState).close 0x0802 m St.ok) s
  (((ms.map linkSite).filterMap id).eraseDups).foldl (fun s n =>
    if (siteModules n).all (fun b => moduleState s b == 0) then siteDown n s else s) s

/-- The pins of a die are at their safe states and no region owns them (R55, R262); the registers of the pins keep their other fields, which
a Device reset alone resets (09). -/
def pinsDieReset (d : Nat) (s : Block) : Block :=
  forEach diePins (fun n s =>
    let a := Rg.ioPin d n
    let s := pinToSafe d n s
    when (s.f a Rg.pinOwner != 0) (fun s => s.put a Rg.pinOwner 0) s) s

/-- The Seam ends of a die lose their steering and what was in flight: wires under steering and the commands that wait for them end. -/
def seamDieReset (d : Nat) (s : Block) : Block :=
  let mine (x : SeamSteer) : Bool := (seamEdges d).contains x.edge
  let s := (s.seam.steers.filter mine).foldl (fun s x => s.close 0x0805 (seamObj x.edge x.group x.wire) St.refusedState) s
  let s : Block := { s with fab := { s.fab with slots := spClear (fun i => (seamEdges d).contains (i / 49152)) s.fab.slots } }
  { s with seam := { s.seam with steers := s.seam.steers.filter (fun x => !mine x) } }

/-- Every block of a die is reset (R47). -/
def dieBlocksReset (d : Nat) (s : Block) : Block :=
  let w := 0x20 + 0x20 * d
  let s := seamDieReset d (platesDieReset d s)
  let s := forEach (upto 6) (fun i s => tppReset (6 * d + i) s) s
  let s := linksDieReset d (netDieReset d (lanesReset d s))
  let s := dcDieReset (2 * d + 1) (dcDieReset (2 * d) s)
  let s := pinsDieReset d (s.resetWindows w (w + 3))
  let s := s.resetWindows (w + 6) (w + 7)
  let s : Block := { s with once := spClear (fun a => decide (dieWin d 0 ≤ a) && decide (a < dieWin d 0x20)) s.once }
  let s : Block := { s with
    clk := { s.clk with fpllStopped := s.clk.fpllStopped.filter (fun k => k / 16 != d), fpllFree := s.clk.fpllFree.filter (fun k => k / 16 != d) } }
  let s := forEach (upto 8) (fun b s => { s with io := { s.io with termOn := spClear (fun k => k / 48 == 8 * d + b) s.io.termOn } }) s
  eicDieLines d s

/-- A domain or a channel of the die still drains. -/
def dieDraining (s : Block) (d : Nat) : Bool :=
  s.net.domDrain.any (fun m => (dieDomains d).contains m) || [2 * d, 2 * d + 1].any (fun n => dcState s n == 2 || dcState s n == 3)

/-- Traffic goes round die d: the routing tables in use route around it, and no re-route runs (R50). -/
def routedAround (s : Block) (d : Nat) : Bool := s.net.reroutes.isEmpty && (tableSet s (newEpoch s)).gone.getLsbD d

/-- DIE_RESET_TAKE_EFFECT (R50): once the domains are drained, the channels keep themselves refreshed and a re-route has taken traffic
around the die, the die is in reset, and its command is answered. -/
def dieResetTakeEffectStep (d : Nat) (s : Block) : Block :=
  if !s.flag Rg.rst (Rg.dieInReset d) || s.start.dieHeld.getLsbD d || dieDraining s d || !routedAround s d then s
  else
    let s := modStart (fun x => { x with dieHeld := maskPut x.dieHeld d true, unaligned := maskPut x.unaligned d false, fromReset := maskPut x.fromReset d false }) s
    let s := (dieBlocksReset d s).putB Rg.rst (Rg.dieReady d) false
    (s.putB Rg.rst (Rg.causeDieReset d) true).close 0x0005 d St.ok

def execDieResetTakeEffect (die : Fin 4) (s : State) : Host.Outcome State Fault Refusal := clocked (dieResetTakeEffectStep die.val) s

/-- DIE_RESET_RELEASE (R47, R51, R79, R223): the die is cleared, the transit fields of routes through it are written again, its Seam deskewed, its windows open, its links retrain, its derived clocks wait
for an alignment marker after its forwarded clock is present, and the interrupt source of R549 pends. -/
def dieResetReleaseStep (d : Nat) (faults : List SeamFault) (s : Block) : Block :=
  if !s.start.dieHeld.getLsbD d then s
  else
    let s := modStart (fun x => { x with dieHeld := maskPut x.dieHeld d false, unaligned := maskPut x.unaligned d true, fromReset := maskPut x.fromReset d true }) s
    let s := rewriteRoutes (linkOnDie d) (seamDeskew (seamEdges d) faults (s.putB Rg.rst (Rg.dieInReset d) false))
    let s := loadBursts (openDie d s)
    let s := forEach ((upto 34).filter (hasEnd d)) discover s
    sectorEvent d s

def execDieResetRelease (die : Fin 4) (faults : List SeamFault) (s : State) : Host.Outcome State Fault Refusal :=
  clocked (dieResetReleaseStep die.val faults) s

/-- A channel of a die whose reset is over: firmware reloads its line scrambler, and it leaves self-refresh and trains with its contents
kept (R51, R417). -/
def dcReturn (n : Nat) (s : Block) : Block :=
  let s := lsuReload n s
  if dcState s n == 1 || dcState s n == 4 then trainStart n (((getDc s n).training).getD .dieReset) none s else s

/-- Die d's dividers align: its clocks run (R79). -/
def dieAligned (d : Nat) (s : Block) : Block :=
  let ends := s.start.fromReset.getLsbD d
  let s := modStart (fun x => { x with unaligned := maskPut x.unaligned d false }) s
  let s := when ends (fun s => dcReturn (2 * d + 1) (dcReturn (2 * d) s)) s
  dieReadyCheck d (modStart (fun x => { x with fromReset := maskPut x.fromReset d false }) s)

/-- At a marker the dividers of the dies align that wait for it and have their forwarded clock (R79, R482). -/
def dieMarker (s : Block) : Block :=
  forEach ((upto 4).filter (fun d => s.start.unaligned.getLsbD d && clockPresent s d)) dieAligned s

/-! ### Site reset (R47, R483, R671) -/

/-- The modules of a site are DOWN without an event, and commands that wait for them are answered. -/
def siteModulesDown (n : Nat) (s : Block) : Block :=
  (siteModules n).foldl (fun s m =>
    let s := forEach (linkEnds m) (fun x s => (s.put (Rg.dl x m) Rg.mState 0).put (Rg.dl x m) Rg.mWidth 0) s
    ((s.close 0x0801 m St.refusedState).close 0x0803 m St.refusedState).close 0x0802 m St.ok) s

/-- A site's reset line is asserted. Its window answers DOMAIN_OFF, its modules are DOWN, its run lock is released, its interrupt
targets' sources are completed, and with H0 the queue engine's host interface is AWAKE (R525, R528, R549, R630). -/
def siteResetBegin (n : Nat) (s : Block) : Block :=
  let s := modStart (fun x => { x with siteHeld := maskPut x.siteHeld n true, siteWindow := maskPut x.siteWindow n true }) s
  let s := (siteModulesDown n s).emit (.siteReset n true)
  let p := 0x500 + 0x100 * n
  let s := portsReset [p] (if portState s p == 3 then flushPort p 4 s else flushPort p 4 (setPort p 2 s))
  let s := eicSiteGone n (releaseRun n s)
  when (n == 0) qeHostReset s

/-- SITE_RESET. -/
def siteResetCmd (n : Nat) (c : Cmd) (s : Block) : Block :=
  if 3 ≤ n then s.respond c St.badArg
  else if s.start.siteHeld.getLsbD n then s.respond c St.busy
  else (siteResetBegin n s).respond c St.ok

def execSiteReset (h : Hdr) (site : Nat) (s : State) : Host.Outcome State Fault Refusal :=
  live (fun s => s.command h { op := 0x0006, ports := hostPorts, stage := 1 } (siteResetCmd site)) s

/-- SITE_RESET_RELEASE: 10 µs after it was asserted the line is released, and from Stage 2 on the site's modules start discovery. -/
def siteResetReleaseStep (n : Nat) (s : Block) : Block :=
  if !s.start.siteHeld.getLsbD n || (n != 0 && (stageOf s < 2 || stageOf s == 7)) then s
  else
    let s := (modStart (fun x => { x with siteHeld := maskPut x.siteHeld n false }) s).emit (.siteReset n false)
    if 2 ≤ stageOf s && stageOf s != 7 then (siteModules n).foldl (fun s m => discover m s) s else s

def execSiteResetRelease (site : Fin 3) (s : State) : Host.Outcome State Fault Refusal := live (siteResetReleaseStep site.val) s

end Sys2Proof.Machine
end

