-- ==== Sys2Proof/Machine/FabricTick.lean ====
section
/-! DEFINITION. Time in the fabric: the edges of the global clock networks as DEV_TIME goes on, the capture time of a Shutter session and the
trigger lines (R81 to R85, R232 to R236, R239).

DESIGN CHOICE: the block's queue holds no command for a clock edge. The edges come with DEV_TIME: an idle step is one cycle of the fabric
global clock, an alignment marker brings DEV_TIME up to itself, and the edges of the nanoseconds passed reach the fabric then. A command
that brings DEV_TIME forward leaves its edges to the next of these. -/

namespace Sys2Proof.Machine

/-! ### Trigger lines (R234, R235) -/

/-- The wires that a trigger tap can select: the cluster outputs of its sector. -/
def tapWires (k : Nat) : List Wire := (upto 480).flatMap (fun c => (upto 64).map (fun i => .out k c i))

/-- A sector's tap of trigger line l reads 1; taps of regions that are not LIVE read 0 (R235). -/
def trigTap (s : Block) (k l : Nat) : Bool :=
  sectorLive s k &&
  match (muxPick 25 (cfgGet s k .trig 0 l)).bind (fun n => muxSource .trig l n (tapWires k)) with
  | some w => s.wire w
  | none => false

/-- The sectors with a trigger tap that is no tie-off. -/
def trigSectors (s : Block) (l : Nat) : List Nat :=
  ((spKeys s.cfg.fields).filter (fun i => keyKind i == some .trig && keyIdx i == l)).map keySector

/-- The sample of the trigger lines at DEV_TIME t: a session armed on a line that reads 1 takes T = t + 16, or from the DEV_TIME after it,
as a free value has it (R234, R235). -/
def trigSample (t : Nat) (s : Block) : Block :=
  let x := s.shut
  if x.state == 1 && x.kind == 2 && x.time.isNone && (trigSectors s x.line).any (fun k => trigTap s k x.line) then
    let y := s.draw
    setShut { y.2.shut with time := some (BitVec.ofNat 64 (t + 16 + y.1 % 2)) } y.2
  else s

/-! ### Edges -/

/-- The nanosecond that ends at DEV_TIME t: the edges in it, those of one instant together, and the capture strobes. -/
def fabricTick (t : Nat) (s : Block) : Block :=
  let s := shutStart t s
  let es := edgesIn s t
  trigSample t ((edgeGroups es.length es).foldl (fun s g => shutDone (shutStrobe g (fabricEdges g s))) s)

/-- The fabric up to DEV_TIME: every edge since it last came up to it. Without a driven network there is none. -/
def fabricCatchUp (s : Block) : Block :=
  let t := s.fab.time.toNat
  let now := s.devTime.toNat
  let s' := if (drivenNets s).isEmpty || s.clk.gated then trigSample now (shutStart now s)
    else (upto (now - t)).foldl (fun s i => fabricTick (t + i + 1) s) s
  { s' with fab := { s'.fab with time := s'.devTime } }

/-- An idle step: one cycle of the fabric global clock, DEV_TIME's, unless the device is in RESET or the clock is gated (R80, R85). -/
def idleTick (s : Block) : Block := if s.start.inReset || s.clk.gated then s else fabricCatchUp (advanceTime 1 s)

/-! ### Capture (R233, R236) -/

/-- SHUTTER_CAPTURE (R233): DEV_TIME passes T and the longest period and a half a network can have, 192 ns; each masked network that runs
captures on its edges. -/
def shutterCaptureStep (s : Block) : Block :=
  match s.shut.time with
  | none => s
  | some t => if s.shut.state == 1 || s.shut.state == 2 then fabricCatchUp (reachTime (t + 192) s) else s

def execShutterCapture (s : State) : Host.Outcome State Fault Refusal := clocked shutterCaptureStep s

/-- SHUTTER_NO_EDGE_TIMEOUT (R236): 1 ms after T the masked networks without a capture edge are marked. -/
def shutterNoEdgeTimeoutStep (s : Block) : Block :=
  if s.shut.state != 2 then s
  else
    let s := fabricCatchUp (reachTime (s.shut.time.getD 0 + 1000000) s)
    if s.shut.state != 2 then s
    else shutReading (setShut { s.shut with noEdge := s.shut.domain &&& ~~~s.shut.captured } s)

def execShutterNoEdgeTimeout (s : State) : Host.Outcome State Fault Refusal := clocked shutterNoEdgeTimeoutStep s

end Sys2Proof.Machine
end

