-- ==== Sys2Proof/Machine/Greone.lean ====
section
/-! DEFINITION. Greone restarts, the Safelight network, the device commands of 19 and their v1 forms, and the Service Port's reads and
writes (R551 to R557, R566, R570 to R574, R620). -/

namespace Sys2Proof.Machine

/-! ### Restarts (R551, R552, R570) -/

/-- RST_CAUSE has a bit for each cause of a Greone restart. -/
def causeFld (cause : Nat) : Fld :=
  if cause == 1 then Rg.causeLockstep else if cause == 2 then Rg.causeWatchdog else if cause == 3 then Rg.causeUpdate
  else Rg.causeCommanded

/-- The status of a command that was taken and not answered (R570): none for one that the hardware completes or that runs again (R467,
R476, R530). -/
def restartStatus (s : Block) (o : OpenCmd) : Option Nat :=
  if o.op2 / 256 == 9 || o.op2 == 0x0700 || o.op2 == 0x0802 then none
  else if (o.op2 == 0x0100 || o.op2 == 0x0101) && s.cfg.loads.any (fun l => l.id == o.obj && l.state != 0) then some ldAborted
  else some St.interrupted

/-- Commands taken and not answered get their status; so do those whose response was decided and not written. -/
def interruptOpens (s : Block) : Block :=
  let cut (c : Cmd) (status : Nat) : Rsp := { cmd := c, status := BitVec.ofNat 16 status, res := [] }
  let lost := s.mbx.opens.filterMap (fun o => (restartStatus s o).map (cut o.cmd))
  let kept := s.mbx.rsp.map (fun r => if r.cmd.op.toNat / 256 == 9 then r else cut r.cmd St.interrupted)
  { s with mbx := { s.mbx with rsp := kept ++ lost, opens := s.mbx.opens.filter (fun o => (restartStatus s o).isNone) } }

/-- Training and self-tests of DRAM end, and their channels are QUIESCED (R417). -/
def dramRestart (s : Block) : Block :=
  forEach (upto 8) (fun n s =>
    match (getDc s n).training with
    | some w =>
      let s := modDc n (fun c => { c with training := none }) (enterDc n 4 s)
      let s := when (w == .stage3) (stage3Trained n 0) s
      modGr (fun g => { g with aborted := g.aborted ++ [n] }) s
    | none =>
      if s.gr.tests.any (fun t => t.test == 6 && t.target == n && t.begun) then modGr (fun g => { g with aborted := g.aborted ++ [n] }) s
      else s) s

/-- What is in Greone SRAM is lost, and the work that only the cores carried on ends. Scheduled tests are kept (R637). -/
def clearSram (s : Block) : Block :=
  let lanes := (s.gr.tests.filter (fun t => t.test == 2 || t.test == 3)).map (·.target)
  let s := modGr (fun g => { g with tests := g.tests.filter (fun t => t.slot.isSome), staged := [] }) s
  let s := forEach lanes laneTest s
  let s := modFwu (fun x => { x with
    length := 0, buffer := [], lastSeq := none, flashBad := false, erasing := false, reading := false, jobs := [], accepted := false })
    (cutBankWrite s)
  { modSec (fun x => { x with nonces := [] }) s with ev := { s.ev with log := [], first := true } }

/-- A Greone restart begins: step 1 of R552. -/
def restartBegin (cause : Nat) (s : Block) : Block :=
  let s := completeAll 1 (completeAll 0 (shutterRestart (s.putB Rg.rst (causeFld cause) true)))
  let s := clearSram (dramRestart (interruptOpens s))
  let s := modReroute (fun x => if x.step < 3 then { x with step := 0 } else x) s
  let s := modStart (fun x => { x with imageChosen := false }) s
  modGr (fun g => { g with restarting := true, restartDue := some cause }) s

/-- A crash: cause 1 a lockstep mismatch, 2 the watchdog. One during a restart begins it again. -/
def crashStep (cause : Nat) (s : Block) : Block :=
  if !s.gr.up then s
  else if s.gr.restarting then restartBegin cause s
  else modGr (fun g => { g with restartDue := some cause }) s

def execLockstepMismatch (s : State) : Host.Outcome State Fault Refusal := live (crashStep 1) s

def execWatchdogExpiry (s : State) : Host.Outcome State Fault Refusal := live (crashStep 2) s

/-- A restart that firmware itself performs comes after the responses of GREONE_RESTART, FW_ACTIVATE and FW_REVERT have been written. -/
def restartWaits (s : Block) (cause : Nat) : Bool :=
  decide (3 ≤ cause) && s.mbx.rsp.any (fun r => [0x0007, 0x0C04, 0x0C07].contains r.cmd.op.toNat)

/-- GREONE_RESTART_BEGIN. -/
def greoneRestartBeginStep (s : Block) : Block :=
  match s.gr.restartDue with
  | none => s
  | some cause => if s.gr.restarting || restartWaits s cause then s else restartBegin cause s

def execGreoneRestartBegin (s : State) : Host.Outcome State Fault Refusal := live greoneRestartBeginStep s

/-- The restarted firmware ends scheduled tests that were running, 0x11 with OK. -/
def testsRestart (s : Block) : Block :=
  s.gr.tests.foldl (fun s t => testEnd { t with resume := false } (if t.test == 0x11 then St.ok else St.interrupted) []
    (modGr (fun g => { g with tests := g.tests.erase t }) s)) s

/-- The restarted firmware reports the channels of R417. -/
def abortedRestart (s : Block) : Block :=
  modGr (fun g => { g with aborted := [] })
    (s.gr.aborted.foldl (fun s n => s.raise Ev.dramOpAborted (dcOrigin n)) s)

/-- Firmware after a Greone restart: settings reloaded, interrupted work settled, GREONE_RESTARTED raised (R552, R626, R636). -/
def restartedFirmware (cause : Nat) (s : Block) : Block :=
  let s := applyCommit (applyMailboxes (applyLevels (loadSettings true s)))
  let s := abortedRestart (platesRestart (fwRebuild s))
  let s := globalFenceRestart (rerouteRestart s)
  testsRestart (s.raise Ev.greoneRestarted (originOf 0x01) cause)

/-- GREONE_READY: once an image has been chosen; in Stage 0 and in RECOVERY the boot ROM answers again. -/
def greoneReadyStep (s : Block) : Block :=
  if !s.gr.restarting || !s.start.imageChosen then s
  else
    let cause := s.gr.restartDue.getD 4
    let s := modGr (fun g => { g with restarting := false, restartDue := none }) s
    if stageOf s == 0 || stageOf s == 7 then s else restartedFirmware cause s

def execGreoneReady (s : State) : Host.Outcome State Fault Refusal := live greoneReadyStep s

/-! ### The Safelight network (R553 to R556) -/

/-- CRC-16 of a frame holds over its bits [127:0]. -/
def safelightOk (f : BitVec 160) : Bool :=
  crc16 ((upto 16).map (fun i => fldGet f.toNat (8 * i) 8)) == fldGet f.toNat 128 16

/-- The block window of a management port. -/
def portWindow (p : Nat) : Option Nat := (upto 0xA3).find? (fun w => winAssigned w && (originOf w == p || winPort w == p))

/-- A management port on a die that does not run. -/
def windowHeld (s : Block) (w : Nat) : Bool :=
  decide (0x20 ≤ w) && decide (w < 0xA0) && dieOff s ((w - 0x20) / 0x20)

/-- A RESPONSE is on its way: its SEQ, its destination and its data. -/
def safelightReply (seq dst : Nat) (data : BitVec 64) (s : Block) : Block :=
  modGr (fun g => { g with slReplies := g.slReplies ++ [(seq, dst, data)] }) s

/-- READ or WRITE of a frame at its window: performed and answered; on a die in reset READ is answered with zeros. -/
def safelightAccess (kind w seq src off data : Nat) (s : Block) : Block :=
  if windowHeld s w then safelightReply seq src 0 s
  else if kind == 2 then
    let r := readReg (0x1000000 * w + off) true s
    safelightReply seq src (BitVec.ofNat 64 r.1) r.2
  else writeReg (0x1000000 * w + off) true data s

/-- SAFELIGHT_FRAME: a frame whose CRC fails is resent and has no effect here; READ is answered, WRITE performed, RESPONSE taken by its
destination, EVENT enters the FIFO; MARKER and SIGNAL act through their own steps. -/
def safelightFrameStep (f : BitVec 160) (s : Block) : Block :=
  let n := f.toNat
  let kind := fldGet n 0 4
  let dst := fldGet n 8 12
  let src := fldGet n 20 12
  let seq := fldGet n 56 8
  let data := fldGet n 64 64
  if !safelightOk f then s
  else if kind == 2 || kind == 3 then
    match portWindow dst with
    | none => s
    | some w => safelightAccess kind w seq src (fldGet n 32 24) data s
  else if kind == 4 then
    modGr (fun g => { g with slReplies := g.slReplies.filter (fun x => !(x.1 == seq && x.2.1 == dst)) }) s
  else if kind == 5 then eventFrameStep s
  else s

def execSafelightFrame (frame : BitVec 160) (s : State) : Host.Outcome State Fault Refusal := live (safelightFrameStep frame) s

/-- A segment is marked as failed, with its event. -/
def segmentFailed (k : Nat) (reverse : Bool) (s : Block) : Block :=
  (modGr (fun g => { g with segFail := maskPut g.segFail (k + (if reverse then 5 else 0)) true }) s).raise Ev.safelightSegment
    (originOf 0x01) (k + reverse.toNat * 256)

/-- SAFELIGHT_SEGMENT_FAIL: frames take the other direction. -/
def safelightSegmentFailStep (k : Nat) (reverse : Bool) (s : Block) : Block :=
  if s.gr.segFail.getLsbD (k + (if reverse then 5 else 0)) then s else segmentFailed k reverse s

def execSafelightSegmentFail (segment : Fin 5) (reverse : Bool) (s : State) : Host.Outcome State Fault Refusal :=
  live (safelightSegmentFailStep segment.val reverse) s

/-! ### Device commands (R572) -/

/-- What DEV_INFO answers: the boot ROM knows nothing of an image yet. -/
def devInfo (s : Block) : List (Nat × Nat) :=
  let booted := stageOf s != 0 && stageOf s != 7
  let img (f : ImgInfo → Nat) : Nat := if booted then (s.fwu.running.map f).getD 0 else 0
  [(2, 0x9480), (1, s.nv.speed), (1, s.nv.temp), (2, s.nv.fit.toNat), (1, 0xB0),
    (1, (s.reg Rg.rst).toNat % 256), (4, img ImgInfo.version), (2, img ImgInfo.schema), (1, if booted then 3 else 0),
    (8, (deviceId s).toNat)]

def devInfoCmd (c : Cmd) (s : Block) : Block := s.respond c St.ok (devInfo s)

def needDevInfo : Need := { op := 0x0000, ports := allPorts, stage := 0 }

def execDevInfo (h : Hdr) (s : State) : Host.Outcome State Fault Refusal := live (fun s => s.command h needDevInfo devInfoCmd) s

/-- What DEV_STATUS answers: RST_STAGE, RST_CAUSE, DEV_TIME, CLK_ROOT_STATUS. -/
def devStatus (s : Block) : List (Nat × Nat) :=
  [(4, (s.reg Rg.rst).toNat % 2 ^ 32), (4, (s.reg (Rg.rst + 8)).toNat % 2 ^ 32), (8, s.devTime.toNat),
    (4, (s.reg (Rg.clk + 8)).toNat % 2 ^ 32)]

def devStatusCmd (c : Cmd) (s : Block) : Block := s.respond c St.ok (devStatus s)

def needDevStatus : Need := { op := 0x0001, ports := allPorts, stage := 0 }

def execDevStatus (h : Hdr) (s : State) : Host.Outcome State Fault Refusal := live (fun s => s.command h needDevStatus devStatusCmd) s

/-- MBX_BARRIER (R569): it completes when no other command of its port is open. -/
def mbxBarrierCmd (c : Cmd) (s : Block) : Block := settleBarrier c.port (s.hold c opBarrier 0)

def needBarrier : Need := { op := opBarrier, ports := allPorts, stage := 1 }

def execMbxBarrier (h : Hdr) (s : State) : Host.Outcome State Fault Refusal := live (fun s => s.command h needBarrier mbxBarrierCmd) s

/-- GREONE_RESTART: the response is written before the restart. -/
def greoneRestartCmd (c : Cmd) (s : Block) : Block := restartFor 4 (s.respond c St.ok)

def execGreoneRestart (h : Hdr) (s : State) : Host.Outcome State Fault Refusal :=
  live (fun s => s.command h { op := 0x0007, ports := svcPort, stage := 1 } greoneRestartCmd) s

/-- A port's level is lowered, and its cap until the next Device reset. -/
def levelDrop (p : Port) (level : Nat) (s : Block) : Block :=
  let n := portNum p
  let s : Block := { s with mbx := { s.mbx with
    levelCap := spSet (fun _ => 2) s.mbx.levelCap n (Nat.min level (spGet (fun _ => 2) s.mbx.levelCap n)) } }
  s.put (Rg.mbx n) Rg.mbxLevel (Nat.min level (portLevel s p))

/-- EXPERT_DROP (R566): the issuing port's level is lowered until the next Device reset; it never rises. -/
def expertDropCmd (level : Nat) (c : Cmd) (s : Block) : Block :=
  if 2 < level then s.respond c St.badArg
  else (levelDrop c.port level s).respond c St.ok

def execExpertDrop (h : Hdr) (level : Nat) (s : State) : Host.Outcome State Fault Refusal :=
  live (fun s => s.command h { op := 0x0008, ports := allPorts, stage := 1 } (expertDropCmd level)) s

/-! ### Protocol v1 (R573, R574) -/

def execV1Info (h : Hdr) (s : State) : Host.Outcome State Fault Refusal := live (fun s => s.commandV1 h 0x01 needDevInfo devInfoCmd) s

def execV1Status (h : Hdr) (s : State) : Host.Outcome State Fault Refusal := live (fun s => s.commandV1 h 0x02 needDevStatus devStatusCmd) s

def execV1Barrier (h : Hdr) (s : State) : Host.Outcome State Fault Refusal := live (fun s => s.commandV1 h 0x03 needBarrier mbxBarrierCmd) s

def execMemTrain (h : Hdr) (arg0 : Nat) (s : State) : Host.Outcome State Fault Refusal :=
  live (fun s => s.commandV1 h 0x20 (dramNeed 0x0500) (onDie (arg0 / 2) (dramTrainCmd arg0 255))) s

def execMemStatus (h : Hdr) (arg0 : Nat) (s : State) : Host.Outcome State Fault Refusal :=
  live (fun s => s.commandV1 h 0x21 (dramNeed 0x0501) (onDie (arg0 / 2) (dramStatusCmd arg0))) s

def execLinkUp (h : Hdr) (arg0 arg1 : Nat) (s : State) : Host.Outcome State Fault Refusal :=
  live (fun s => s.commandV1 h 0x30 (needLane 0x0400) (onDie arg0 (laneUpCmd arg0 arg1 0 0))) s

def execLinkDown (h : Hdr) (arg0 arg1 : Nat) (s : State) : Host.Outcome State Fault Refusal :=
  live (fun s => s.commandV1 h 0x31 (needLane 0x0401) (onDie arg0 (laneDownCmd arg0 arg1))) s

/-! ### The Service Port's requests (R618 to R620) -/

/-- An answer of the network's status to a frame. -/
def svcNetwork (typ status : Nat) (bs : List Nat) (s : Block) : Block := s.emit (.svcAnswer typ 3 (fieldAt bs 3 2) status 0 [])

/-- Address and length of a frame are as R620 takes them. -/
def svcForm (bs : List Nat) (len : Nat) : Bool :=
  fieldAt bs 5 8 % 4 == 0 && len % 4 == 0 && decide (1 ≤ len) && decide (len ≤ 4096) && decide (fieldAt bs 5 8 + len ≤ 2 ^ 48)

/-- WRITE: a posted write of port 0x404. -/
def svcWriteAct (bs : List Nat) (s : Block) : Block :=
  let a := fieldAt bs 5 8
  let p := framePayload bs
  if !svcForm bs p.length || !mayIssue s 0x404 4 a then svcNetwork 0x81 1 bs s
  else if fenceBusy s 0x404 || flipHeld s 0x404 then svcAck bs 1 s
  else svcAck bs 0 (nocIssue 0x404 4 2 a p.length 0 false p s)

def execSvcWrite (frame : List (BitVec 8)) (s : State) : Host.Outcome State Fault Refusal :=
  live (fun s => svcFrame 1 frame svcWriteAct s) s

/-- READ: a read of port 0x404, answered by DATA when its response is there. -/
def svcReadAct (bs : List Nat) (s : Block) : Block :=
  let a := fieldAt bs 5 8
  let n := fieldAt bs 13 4
  if !svcForm bs n || !mayIssue s 0x404 4 a then svcNetwork 0x82 1 bs s
  else
    let tags := (netSegs s 0x404 0 a n).filter (segTagged s 0)
    if fenceBusy s 0x404 || s.fwu.svcRead.isSome || (freeTags s 0x404 tags.length).length < tags.length then svcAck bs 1 s
    else
      nocIssue 0x404 4 0 a n svcLabel false []
        (modFwu (fun x => { x with svcRead := some { seq := fieldAt bs 3 2, addr := a, len := n, lines := [] } }) s)

def execSvcRead (frame : List (BitVec 8)) (s : State) : Host.Outcome State Fault Refusal :=
  live (fun s => svcFrame 2 frame svcReadAct s) s

end Sys2Proof.Machine
end

