-- ==== Sys2Proof/Machine/Mailbox.lean ====
section
/-! DEFINITION. Mailbox rings (R558 to R564, R573, R574): taking a command entry and writing a response entry. -/

namespace Sys2Proof.Machine

/-! ### Arguments (R564) -/

/-- The alignment of an argument: its size, and 8 for a longer array. -/
def argAlign (size : Nat) : Nat := if size ≤ 8 then size else 8

/-- Where the next argument of a size starts. -/
def argStart (off size : Nat) : Nat := (off + argAlign size - 1) / argAlign size * argAlign size

/-- Arguments of given sizes from an offset on, and where they end. -/
def argsFrom (bs : List Nat) : Nat → List Nat → List Nat × Nat
  | off, [] => ([], off)
  | off, n :: ns =>
    let at' := argStart off n
    let r := argsFrom bs (at' + n) ns
    (fieldAt bs at' n :: r.1, r.2)

/-- Results packed from byte 8 on by the rule of arguments. -/
def packResults : Nat → List (Nat × Nat) → List Nat
  | _, [] => []
  | off, (n, v) :: rs => List.replicate (argStart off n - off) 0 ++ leBytes n v ++ packResults (argStart off n + n) rs

/-! ### The command catalogue (R572) -/

/-- A command of the catalogue: its opcode, the sizes of its arguments, and its meaning with their values. -/
structure CmdRow where
  op   : Nat
  args : List Nat
  run  : Hdr → (Nat → Nat) → State → Host.Outcome State Fault Refusal

def deviceRows : List CmdRow :=
  [ ⟨0x0000, [], fun h _ => execDevInfo h⟩,
    ⟨0x0001, [], fun h _ => execDevStatus h⟩,
    ⟨0x0002, [], fun h _ => execMbxBarrier h⟩,
    ⟨0x0003, [8, 1], fun h a => execRegRead h (a 0) (a 1)⟩,
    ⟨0x0004, [8, 1, 8], fun h a => execRegWrite h (a 0) (a 1) (a 2)⟩,
    ⟨0x0005, [1], fun h a => execDieReset h (a 0)⟩,
    ⟨0x0006, [1], fun h a => execSiteReset h (a 0)⟩,
    ⟨0x0007, [], fun h _ => execGreoneRestart h⟩,
    ⟨0x0008, [1], fun h a => execExpertDrop h (a 0)⟩,
    ⟨0x0009, [4], fun h a => execEventRead h (a 0)⟩,
    ⟨0x000A, [4, 1], fun h a => execEventQueue h (a 0) (a 1)⟩,
    ⟨0x000B, [2], fun h a => execSettingsRead h (a 0)⟩,
    ⟨0x000C, [2, 8], fun h a => execSettingsWrite h (a 0) (a 1)⟩,
    ⟨0x000D, [8, 8], fun h a => execSettingsCommit h (a 0) (a 1)⟩,
    ⟨0x000E, [], fun h _ => execRingJoin h⟩,
    ⟨0x000F, [], fun h _ => execRingLeave h⟩ ]

def plateRows : List CmdRow :=
  [ ⟨0x0100, [1, 1, 1, 2, 1, 4, 8, 8], fun h a => execPlateLoad h (a 0) (a 1) (a 2) (a 3) (a 4) (a 5) (a 6) (a 7)⟩,
    ⟨0x0101, [1, 2], fun h a => execPlateRelocate h (a 0) (a 1)⟩,
    ⟨0x0102, [1], fun h a => execRegionFreeze h (a 0)⟩,
    ⟨0x0103, [32], fun h a => execRegionRelease h (BitVec.ofNat 256 (a 0))⟩,
    ⟨0x0104, [1], fun h a => execRegionReset h (a 0)⟩,
    ⟨0x0105, [1], fun h a => execRegionClear h (a 0)⟩,
    ⟨0x0106, [40], fun h a => execPlateSpares h (BitVec.ofNat 320 (a 0))⟩,
    ⟨0x0107, [1], fun h a => execPlateUnretain h (a 0)⟩,
    ⟨0x0108, [1], fun h a => execPlateStatus h (a 0)⟩,
    ⟨0x0200, [8], fun h a => execShutter h (a 0)⟩,
    ⟨0x0201, [], fun h _ => execShutterResume h⟩,
    ⟨0x0202, [], fun h _ => execShutterCancel h⟩,
    ⟨0x0203, [], fun h _ => execShutterStatus h⟩ ]

def unitRows : List CmdRow :=
  [ ⟨0x0300, [1, 8, 2, 2], fun h a => execTppLoad h (a 0) (a 1) (a 2) (a 3)⟩,
    ⟨0x0301, [1, 8], fun h a => execTppRun h (a 0) (a 1)⟩,
    ⟨0x0302, [4], fun h a => execTppAbort h (a 0)⟩,
    ⟨0x0303, [1], fun h a => execTppStatus h (a 0)⟩,
    ⟨0x0304, [4], fun h a => execTppCalibrate h (a 0)⟩,
    ⟨0x0305, [1, 1], fun h a => execTppSite h (a 0) (a 1)⟩,
    ⟨0x0400, [1, 4, 1, 1], fun h a => execLaneUp h (a 0) (a 1) (a 2) (a 3)⟩,
    ⟨0x0401, [1, 4], fun h a => execLaneDown h (a 0) (a 1)⟩,
    ⟨0x0402, [1, 4], fun h a => execLaneQuiesce h (a 0) (a 1)⟩,
    ⟨0x0403, [1, 4], fun h a => execLaneResume h (a 0) (a 1)⟩,
    ⟨0x0404, [1, 1, 1], fun h a => execLaneLoopback h (a 0) (a 1) (a 2)⟩,
    ⟨0x0405, [1, 1, 1, 1, 1], fun h a => execLanePrbs h (a 0) (a 1) (a 2) (a 3) (a 4)⟩,
    ⟨0x0406, [1, 1, 1, 1, 1, 1, 1, 1, 8], fun h a =>
      execLaneEyescan h (a 0) (a 1) (a 2) (a 3) (a 4) (a 5) (a 6) (a 7) (a 8)⟩,
    ⟨0x0407, [1], fun h a => execLaneStatus h (a 0)⟩ ]

def memoryRows : List CmdRow :=
  [ ⟨0x0500, [1, 1], fun h a => execDramTrain h (a 0) (a 1)⟩,
    ⟨0x0501, [1], fun h a => execDramStatus h (a 0)⟩,
    ⟨0x0502, [1], fun h a => execDramQuiesce h (a 0)⟩,
    ⟨0x0503, [1], fun h a => execDramResume h (a 0)⟩,
    ⟨0x0504, [1], fun h a => execDramOffline h (a 0)⟩,
    ⟨0x0505, [1], fun h a => execDramOnline h (a 0)⟩,
    ⟨0x0506, [1, 8, 8, 1], fun h a => execDramSelftest h (a 0) (a 1) (a 2) (a 3)⟩,
    ⟨0x0507, [1, 8], fun h a => execDramBracket h (a 0) (BitVec.ofNat 64 (a 1))⟩,
    ⟨0x0508, [1], fun h a => execDramRecover h (a 0)⟩,
    ⟨0x0600, [1, 1], fun h a => execLsuKeyLoad h (a 0) (a 1)⟩,
    ⟨0x0601, [1], fun h a => execLsuKeyClear h (a 0)⟩,
    ⟨0x0602, [1, 8, 8, 1], fun h a => execLsuRegionSet h (a 0) (a 1) (a 2) (a 3)⟩,
    ⟨0x0603, [1, 1, 1], fun h a => execLsuRekey h (a 0) (a 1) (a 2)⟩,
    ⟨0x0604, [1], fun h a => execLsuStatus h (a 0)⟩ ]

def networkRows : List CmdRow :=
  [ ⟨0x0700, [], fun h _ => execNocGlobalFence h⟩,
    ⟨0x0701, [1, 1, 1], fun h a => execNocStatus h (a 0) (a 1) (a 2)⟩,
    ⟨0x0702, [2], fun h a => execNocIsolate h (a 0)⟩,
    ⟨0x0703, [2], fun h a => execNocRelease h (a 0)⟩,
    ⟨0x0704, [1], fun h a => execNocDomainOff h (a 0)⟩,
    ⟨0x0705, [1], fun h a => execNocDomainOn h (a 0)⟩,
    ⟨0x0800, [1], fun h a => execDlStatus h (a 0)⟩,
    ⟨0x0801, [1], fun h a => execDlRetrain h (a 0)⟩,
    ⟨0x0802, [1], fun h a => execDlDown h (a 0)⟩,
    ⟨0x0803, [1], fun h a => execDlUp h (a 0)⟩,
    ⟨0x0804, [1], fun h a => execDlClearDegrade h (a 0)⟩,
    ⟨0x0805, [1, 2, 1], fun h a => execSeamSteer h (a 0) (a 1) (a 2)⟩ ]

/-- The arguments of QE_QUEUE_CREATE end with PUSH_SRC for a completion queue, and with WB_ADDR, DELIV_ADDR and DELIV_WINDOW for a submission
queue (R531). -/
def queueArgs (dir : Nat) : List Nat := [4, 8, 1, 1, 1, 2, 1, 1, 1] ++ (if dir == 1 then [8, 8, 2] else [2])

def queueRows (dir : Nat) : List CmdRow :=
  [ ⟨0x0900, [2, 1], fun h a => execQeGroupAssign h (a 0) (a 1)⟩,
    ⟨0x0901, queueArgs dir, fun h a =>
      if dir == 1 then
        execQeQueueCreate h (a 0) (a 1) (a 2) (a 3) (a 4) (a 5) (a 6) (a 7) (a 8) 0 (a 9) (a 10) (a 11)
      else execQeQueueCreate h (a 0) (a 1) (a 2) (a 3) (a 4) (a 5) (a 6) (a 7) (a 8) (a 9) 0 0 0⟩,
    ⟨0x0902, [4], fun h a => execQeQueueDestroy h (a 0)⟩,
    ⟨0x0903, [4], fun h a => execQeQueueReset h (a 0)⟩,
    ⟨0x0904, [4], fun h a => execQeQueueStatus h (a 0)⟩,
    ⟨0x0905, [2, 1, 1, 2, 1, 1], fun h a => execQeVectorSet h (a 0) (a 1) (a 2) (a 3) (a 4) (a 5)⟩,
    ⟨0x0906, [], fun h _ => execQeStatus h⟩,
    ⟨0x0A00, [2, 1, 1, 1], fun h a => execEicSourceSet h (a 0) (a 1) (a 2) (a 3)⟩,
    ⟨0x0A01, [1, 1, 8], fun h a => execEicTargetSet h (a 0) (a 1) (a 2)⟩,
    ⟨0x0A02, [], fun h _ => execEicStatus h⟩ ]

def securityRows : List CmdRow :=
  [ ⟨0x0B00, [], fun h _ => execSecStatus h⟩,
    ⟨0x0B01, [], fun h _ => execSecNonce h⟩,
    ⟨0x0B02, [1, 8, 8], fun h a => execSecIdCert h (a 0) (a 1) (a 2)⟩,
    ⟨0x0B03, [8, 8, 32], fun h a => execSecQuote h (a 0) (a 1) (BitVec.ofNat 256 (a 2))⟩,
    ⟨0x0B04, [1, 8], fun h a => execSecOwnerKeyPut h (a 0) (a 1)⟩,
    ⟨0x0B05, [8, 8], fun h a => execSecOwnerProgram h (a 0) (a 1)⟩,
    ⟨0x0B06, [8, 8], fun h a => execSecOwnerRevoke h (a 0) (a 1)⟩,
    ⟨0x0B07, [8, 8], fun h a => execSecFuseLock h (a 0) (a 1)⟩,
    ⟨0x0B08, [8, 8], fun h a => execSecSvnAdvance h (a 0) (a 1)⟩,
    ⟨0x0B09, [8, 8], fun h a => execSecSealKeySet h (a 0) (a 1)⟩,
    ⟨0x0B0A, [8, 8], fun h a => execSecPolicySet h (a 0) (a 1)⟩,
    ⟨0x0C00, [], fun h _ => execFwStatus h⟩,
    ⟨0x0C01, [4], fun h a => execFwBegin h (a 0)⟩,
    ⟨0x0C02, [32], fun h a => execFwEnd h (BitVec.ofNat 256 (a 0))⟩,
    ⟨0x0C03, [], fun h _ => execFwVerify h⟩,
    ⟨0x0C04, [1], fun h a => execFwActivate h (a 0)⟩,
    ⟨0x0C05, [], fun h _ => execFwAbort h⟩,
    ⟨0x0C06, [8, 8], fun h a => execFwAcceptDefaults h (a 0) (a 1)⟩,
    ⟨0x0C07, [], fun h _ => execFwRevert h⟩,
    ⟨0x0C08, [4], fun h a => execRunLock h (a 0)⟩,
    ⟨0x0C09, [1], fun h a => execRunUnlock h (a 0)⟩,
    ⟨0x0D00, [], fun h _ => execPwrStatus h⟩,
    ⟨0x0D01, [1, 1], fun h a => execThermSet h (a 0) (a 1)⟩ ]

/-- A test's own arguments as 64-bit fields of one number. -/
def testArgs (a : Nat → Nat) (first n : Nat) : Nat := (upto n).foldl (fun v i => v + a (first + i) * 2 ^ (64 * i)) 0

def testRows (test : Nat) : List CmdRow :=
  let n := (testSizes test).length
  [ ⟨0x0E00, [1, 2] ++ testSizes test, fun h a => execTestRun h (a 0) (a 1) (testArgs a 2 n)⟩,
    ⟨0x0E01, [1, 1, 2, 8] ++ testSizes test, fun h a => execTestSchedule h (a 0) (a 1) (a 2) (a 3) (testArgs a 4 n)⟩,
    ⟨0x0E02, [1], fun h a => execTestCancel h (a 0)⟩,
    ⟨0x0E03, [1], fun h a => execTestStatus h (a 0)⟩ ]

/-- The commands as an entry's bytes select them: DIR of QE_QUEUE_CREATE stands in byte 25, a test's ID in byte 8. -/
def cmdRows (bs : List Nat) : List CmdRow :=
  deviceRows ++ plateRows ++ unitRows ++ memoryRows ++ networkRows ++ queueRows (bs.getD 25 0) ++ securityRows ++ testRows (bs.getD 8 0)

/-- The entry of a command: its opcode, tag, version, and its arguments with their sizes; zeros to 64 bytes (R564). -/
def entryOf (op tag : Nat) (args : List (Nat × Nat)) : List Nat :=
  let bs := leBytes 2 op ++ leBytes 2 tag ++ [2, 0, 0, 0] ++ packResults 8 args
  bs ++ List.replicate (64 - bs.length) 0

/-! ### Taking a command (R562, R563, R573) -/

/-- The block after a meaning. -/
def nextOf (f : State → Host.Outcome State Fault Refusal) (s : Block) : Block :=
  match f { pending := [], blk := s } with
  | .next t => t.blk
  | _ => s

/-- n bytes of a mailbox page from offset o on. -/
def pageBytes (s : Block) (p o n : Nat) : List Nat :=
  (upto n).map (fun i => fldGet (s.reg ((Rg.mbx p + o + i) / 8 * 8)).toNat (8 * ((o + i) % 8)) 8)

/-- A v2 command entry: its opcode, TAG, VERSION and arguments; zero elsewhere. -/
def runEntry (p : Port) (bs : List Nat) (s : Block) : Block :=
  let h : Hdr := { port := p, tag := BitVec.ofNat 16 (fieldAt bs 2 2) }
  let op := fieldAt bs 0 2
  match (cmdRows bs).find? (fun r => r.op == op) with
  | none => s.respond (cmdOf h op) St.badOpcode
  | some r =>
    let x := argsFrom bs 8 r.args
    if bs.getD 4 0 != 2 || !zeroFrom bs 5 8 || !zeroFrom bs x.2 64 then s.respond (cmdOf h op) St.badArg
    else nextOf (r.run h (fun i => x.1.getD i 0)) s

/-- A v1 command entry (R574): ARG0 in bytes 2 and 3, ARG1 in 4 to 7, ARG2 in 8 to 15. -/
def runEntryV1 (p : Port) (bs : List Nat) (s : Block) : Block :=
  let h : Hdr := { port := p, tag := BitVec.ofNat 16 (bs.getD 1 0) }
  let op := bs.getD 0 0
  let a0 := fieldAt bs 2 2
  let a1 := fieldAt bs 4 4
  let a2 := fieldAt bs 8 8
  let go (f : State → Host.Outcome State Fault Refusal) : Block := nextOf f s
  match op with
  | 0x01 => go (execV1Info h)
  | 0x02 => go (execV1Status h)
  | 0x03 => go (execV1Barrier h)
  | 0x10 => go (execCfgLoad h a0 a1 a2)
  | 0x11 => go (execCfgStatus h a0)
  | 0x20 => go (execMemTrain h a0)
  | 0x21 => go (execMemStatus h a0)
  | 0x30 => go (execLinkUp h a0 a1)
  | 0x31 => go (execLinkDown h a0 a1)
  | 0x40 => go (execRegRd h a2)
  | 0x41 => go (execRegWr h a1 a2)
  | _ => s.respond { port := p, tag := h.tag, op := BitVec.ofNat 16 op, v1 := true } St.notInV1

/-- The entry at MBX_CMD_HEAD is taken in the port's protocol. -/
def takeEntry (p : Port) (v1 : Bool) (s : Block) : Block :=
  let n := portNum p
  let head := s.f (Rg.mbx n) Rg.cmdHead
  let t := s.put (Rg.mbx n) Rg.cmdHead ((head + 1) % 128)
  if v1 then runEntryV1 p (pageBytes s n (16 * (head % 64)) 16) t else runEntry p (pageBytes s n (64 * (head % 64)) 64) t

/-- MBX_COMMAND_TAKE: the entry at MBX_CMD_HEAD is taken in ring order. -/
def mbxCommandTakeStep (p : Port) (s : Block) : Block :=
  let b := Rg.mbx (portNum p)
  if !canTake s p (s.flag b Rg.mbxProto) || s.f b Rg.cmdHead == s.f b Rg.cmdTail then s else takeEntry p (s.flag b Rg.mbxProto) s

def execMbxCommandTake (p : Port) (s : State) : Host.Outcome State Fault Refusal := live (mbxCommandTakeStep p) s

/-! ### Writing a response (R562, R563, R573) -/

/-- The n bytes from the front of a list, zeros after its end. -/
def padTo (n : Nat) (bs : List Nat) : List Nat := (bs ++ List.replicate n 0).take n

/-- The phase bit of position r, in bit 7 of its byte: 1 xor WRAP. -/
def phaseByte (r : Nat) : Nat := if r / 64 % 2 == 0 then 0x80 else 0

/-- The bytes of a response at position pos: 64 of v2, 16 of v1. -/
def rspBytes (r : Rsp) (pos : Nat) : List Nat :=
  let st := r.status.toNat
  let res := packResults 8 r.res
  if r.cmd.v1 then
    [r.cmd.op.toNat % 256, r.cmd.tag.toNat % 256, if st == 0 then 0 else if st == 1 then 1 else 2, phaseByte pos] ++
      leBytes 2 st ++ [0, 0] ++ padTo 8 res
  else
    leBytes 2 r.cmd.op.toNat ++ leBytes 2 r.cmd.tag.toNat ++ leBytes 2 st ++ [0, 0] ++ padTo 55 res ++ [phaseByte pos]

/-- Write 8-byte words of a mailbox page. -/
def putPage (p o : Nat) (bs : List Nat) (s : Block) : Block :=
  forEach (upto (bs.length / 8)) (fun i s => s.setReg (Rg.mbx p + o + 8 * i) (BitVec.ofNat 64 (fieldAt bs (8 * i) 8))) s

/-- A response is written at MBX_RSP_TAIL. -/
def writeResponse (p : Port) (r : Rsp) (s : Block) : Block :=
  let n := portNum p
  let pos := s.f (Rg.mbx n) Rg.rspTail
  let bs := rspBytes r pos
  let s := putPage n (0x1000 + bs.length * (pos % 64)) bs s
  let s : Block := { s with mbx := { s.mbx with rsp := s.mbx.rsp.erase r } }
  (s.put (Rg.mbx n) Rg.rspTail ((pos + 1) % 128)).eicEdge (1280 + n)

/-- MBX_RESPONSE_WRITE: the oldest response that is decided is written at MBX_RSP_TAIL, and the mailbox's EIC source rises. -/
def mbxResponseWriteStep (p : Port) (s : Block) : Block :=
  match s.mbx.rsp.find? (fun r => r.cmd.port == p) with
  | none => s
  | some r =>
    if !s.gr.up || s.gr.restarting || 64 ≤ rspUsed s p then s else writeResponse p r s

def execMbxResponseWrite (p : Port) (s : State) : Host.Outcome State Fault Refusal := live (mbxResponseWriteStep p) s

end Sys2Proof.Machine
end

