-- ==== Sys2Proof/Machine/Marker.lean ====
section
/-! DEFINITION. The alignment marker (R78): every 1,024 cycles of the fabric global clock, with what takes effect at it. -/

namespace Sys2Proof.Machine

/-- The next marker's DEV_TIME. HD sends one every 1,024 cycles (R78); DESIGN CHOICE: at the multiples of 1,024, since the spec does
not say at which values of DEV_TIME. -/
def nextMarker (t : Nat) : Nat := (t / 1024 + 1) * 1024

/-- ALIGNMENT_MARKER: time and the fabric come up to the marker; dividers of dies align (R79), Seam wires are steered (R127, R128), pins take their
safe states (R261), held networks resume (R242), forwarded clocks change their source (R482), releases, freezes, region resets
and cutovers act (R213 to R215, R226), routing tables flip (R466) and fence points are taken (R476). -/
def alignmentMarkerStep (s : Block) : Block :=
  let s := fabricCatchUp (advanceTime (nextMarker s.devTime.toNat - s.devTime.toNat) s)
  let s := clockMarker (shutterMarker (safeMarker (seamMarker (dieMarker s))))
  globalFenceMarker (rerouteMarker (platesMarker s))

def execAlignmentMarker (s : State) : Host.Outcome State Fault Refusal := clocked alignmentMarkerStep s

end Sys2Proof.Machine
end

