-- ==== Sys2Proof/Machine/Sequencer.lean ====
section
/-! DEFINITION. The sequencer (10): vector words, their legality, pins under vectors, and one meaning for each opcode.
A SEQ step is one word: its applications, and where the sequencer goes.  The outcome of a double-bit cache error and of a
MATCH is an operand. -/

namespace Sys2Proof.Machine

/-! ### The vector word (R277) -/

def wordTset (w : Nat) : Nat := fldGet w 192 6
def wordOp (w : Nat) : Nat := fldGet w 198 4
def wordEvt (w : Nat) : Bool := w.testBit 202
def wordArg (w lo n : Nat) : Nat := fldGet w (208 + lo) n
def wordPec (w : Nat) : Nat := w % 2 ^ 192

/-- Bits of OPERAND that an opcode names (R279). -/
def operandBits (op : Nat) : Nat :=
  if op == 0x1 then 24
  else if op == 0x2 then 39
  else if op == 0x3 || op == 0x4 then 15
  else if op == 0x6 then 24
  else if op == 0x7 then 47
  else if op == 0x8 || op == 0x9 then 32
  else if op == 0xA then 44
  else 0

/-- A field in which zero encodes the largest value (R279). -/
def orMax (v w : Nat) : Nat := if v == 0 then 2 ^ w else v

/-- PERIOD of a timing set in ps. -/
def periodPs (s : Block) (n tset : Nat) : Nat := 2 * s.f (Rg.tpp n) (Rg.tsPeriod tset)

/-- W of R282. -/
def wOf (period : Nat) : Nat := Nat.max 1 ((40000 + period - 1) / period)

/-! ### Loops and calls (R281) -/

/-- Loops entered since the last CALL, innermost first. -/
def freshLoops (t : Tpp) : List SeqLoop :=
  match t.calls with
  | (_, d) :: _ => t.loops.take (t.loops.length - d)
  | [] => t.loops

/-- The loops active at the last CALL. -/
def keptLoops (t : Tpp) : List SeqLoop := t.loops.drop (freshLoops t).length

/-- After the word at pc: the loop that ends there turns, or ends after its last pass and its enclosing loop is looked at. -/
def turnLoops (pc : Nat) : List SeqLoop → List SeqLoop × Nat
  | [] => ([], pc + 1)
  | l :: ls =>
    if l.last == pc then
      if 1 < l.left then ({ l with left := l.left - 1 } :: ls, l.first) else turnLoops pc ls
    else (l :: ls, pc + 1)

/-- The sequencer goes on after the word at pc. -/
def seqAdvance (pc : Nat) (t : Tpp) : Tpp :=
  let r := turnLoops pc (freshLoops t)
  { t with loops := r.1 ++ keptLoops t, word := r.2 }

/-- The sequencer goes to a target, ending the loops whose body does not hold it. -/
def seqGoto (target : Nat) (t : Tpp) : Tpp :=
  { t with loops := (freshLoops t).dropWhile (fun l => !(decide (l.first ≤ target) && decide (target ≤ l.last))) ++ keptLoops t,
           word := target }

/-! ### Legality (R281, R285, R307) -/

/-- The code with which the run ends before a word, if it does. -/
def wordFault (s : Block) (n : Nat) (dbe : Bool) : Option Nat :=
  let t := getTpp s n
  if 32768 ≤ t.word + bufWords t.buf then some St.illegalVector
  else if dbe then some St.cacheError
  else
    let w := (spGet (fun _ => 0) t.cache t.word).toNat
    let op := wordOp w
    if (0xB ≤ op && op ≤ 0xE) || fldGet w 203 5 != 0 || fldGet w (208 + operandBits op) (48 - operandBits op) != 0 ||
        !s.flag (Rg.tpp n) (Rg.tsValid (wordTset w)) then some St.illegalVector
    else if op == 0x2 then
      let e := wordArg w 24 15
      if e < t.word then some St.illegalVector
      else if e == t.word then none
      else if (freshLoops t).any (fun l => decide (l.last < e)) then some St.illegalVector
      else if 16 ≤ t.loops.length then some St.stackFault
      else none
    else if op == 0x4 && 16 ≤ t.calls.length then some St.stackFault
    else if op == 0x5 && t.calls.isEmpty then some St.stackFault
    else if op == 0x9 && (t.buf == 0 || t.segs.isEmpty) then some St.streamEmpty
    else none

/-! ### Pins under vectors (R273, R274, R295, R297) -/

/-- A pin: its level L, driver on, termination class, and whether the vectors own it. -/
structure PinNow where
  lvl  : Bool
  drv  : Bool
  term : Nat
  own  : Bool
deriving DecidableEq, Repr

/-- A PEC acts on a pin; `bit` is the APG bit of its slot. -/
def pecAct (p : Nat) (bit : Bool) (q : PinNow) : PinNow :=
  if p == 0x0 || p == 0xA then { lvl := false, drv := true, term := 1, own := true }
  else if p == 0x1 || p == 0xB then { lvl := true, drv := true, term := 1, own := true }
  else if p == 0x2 then { q with drv := false, term := 2, own := true }
  else if p == 0x7 then { q with drv := false, term := 4, own := true }
  else if p == 0x8 then { q with drv := true, term := 1, own := true }
  else if p == 0x9 then { lvl := !q.lvl, drv := true, term := 1, own := true }
  else if p == 0xC then { lvl := bit, drv := true, term := 1, own := true }
  else if p == 0xF then q
  else { q with drv := false, term := 3, own := true }

def setBit (v : BitVec 48) (k : Nat) (b : Bool) : BitVec 48 :=
  if b then v ||| BitVec.ofNat 48 (2 ^ k) else v &&& ~~~BitVec.ofNat 48 (2 ^ k)

/-- One application acts on active pin k: its slots in order, PEC 0x7 while its site is disabled. -/
def pinApply (n pec : Nat) (a : ApgSt) (sites : BitVec 8) (k : Nat) (s : Block) : Block :=
  let t := getTpp s n
  let x := siteOf s n k
  let off := decide (x < 8) && !sites.getLsbD x
  let q0 : PinNow := { lvl := t.lvl.getLsbD k, drv := t.drv.getLsbD k, term := spGet (fun _ => 0) t.term k,
                       own := t.owned.getLsbD k }
  let q := (pinSlots s n k).foldl (fun q i =>
    pecAct (if off then 0x7 else pecAt pec i) (apgBit s (Rg.tpp n) a i) q) q0
  let s := setTpp n { t with lvl := setBit t.lvl k q.lvl, drv := setBit t.drv k q.drv, owned := setBit t.owned k q.own,
                             term := spSet (fun _ => 0) t.term k q.term } s
  when (q.own && !q0.own) (fun s =>
    when (k + 1 < 48 && pinFollows s n (k + 1)) (fun s => s.putB (tppPin n (k + 1)) Rg.pinInSafe false)
      (s.putB (tppPin n k) Rg.pinInSafe false)) s

/-- One application acts on every active pin. -/
def pinsApply (n pec : Nat) (a : ApgSt) (sites : BitVec 8) (s : Block) : Block :=
  forEach (tppPins s n) (pinApply n pec a sites) s

/-! ### Applications (R280) -/

/-- What the applications of a word share: PECs, timing set, the APG instruction executed after each, and whether the word
is a MATCH, whose strobes produce nothing else (R326). -/
structure AppWord where
  pec     : Nat
  tset    : Nat
  instr   : Option Nat
  isMatch : Bool
deriving DecidableEq, Repr

/-- k applications in a row between two changes. With one APG state, what the last leaves at the pins after k equals what
one application, or two where k is even, leaves: only PEC 0x9 distinguishes them. -/
def applyRun (n k : Nat) (w : AppWord) (s : Block) : Block :=
  if k == 0 then s
  else
    let b := Rg.tpp n
    let t := getTpp s n
    let per := periodPs s n w.tset
    let v := s.f b Rg.tVecnum
    let sites := sitesAt t t.time
    let stepped (j : Nat) : ApgSt := match w.instr with
      | some i => apgExecN s b i j t.apg
      | none => t.apg
    let last := stepped (k - 1)
    let s := when (k % 2 == 0) (pinsApply n w.pec last sites) s
    let s := pinsApply n w.pec last sites s
    let s := s.emit (.vectors n v k t.time per w.tset sites (BitVec.ofNat 192 w.pec) (edgesOf s n w.tset)
      ((tppPins s n).map (fun i => (i, termNow s n i))))
    let batch : AppBatch := { first := v, count := k, start := t.time, period := per, tset := w.tset,
                              pec := BitVec.ofNat 192 w.pec, apg := t.apg, instr := w.instr, sites := sites }
    let seen := !w.isMatch && (allSlots s n).any (fun i => pecCompares (pecAt w.pec i) || pecAt w.pec i == 0xE)
    let s := modTpp n (fun t => { t with
      time := t.time + k * per, apg := stepped k,
      batches := if seen then t.batches ++ [batch] else t.batches }) s
    (when w.instr.isSome (apgPublish n) s).put b Rg.tVecnum (v + k)

/-- The run is still applying vectors. -/
def applying (s : Block) (n : Nat) : Bool := tppState s n == 4 && (getTpp s n).ended.isNone

/-- Applications from a to the first boundary at or after an instant. -/
def appsUntil (time per at' : Nat) : Nat := if at' ≤ time then 0 else (at' - time + per - 1) / per

/-- The first boundary, in applications from now, at which a site changes or the run is to end, among k. -/
def nextChange (t : Tpp) (per k : Nat) : Nat :=
  let sites := t.siteQ.map (fun x => x.1)
  let stops := match t.stop with
    | some x => [x.1]
    | none => []
  let lims := (upto 8).filterMap (fun x => (getSite t x).limitAt)
  (((sites ++ stops ++ lims).filter (fun a => decide (t.time < a))).map (appsUntil t.time per)).foldl Nat.min k

/-- The code with which the run ends at this boundary, if it is to end (R305). -/
def stopNow (t : Tpp) : Option Nat :=
  match t.stop with
  | some (at', code) => if at' ≤ t.time then some code else none
  | none => none

/-- k applications: at each boundary where something changes, the run ends if it is to (R305), or site changes act (R294).
`fuel` bounds the number of such boundaries. -/
def applyN (n : Nat) (w : AppWord) : Nat → Nat → Block → Block
  | 0, k, s => applyRun n k w s
  | fuel + 1, k, s =>
    match stopNow (getTpp s n) with
    | some code => runEnd n code s
    | none =>
      let s1 := modTpp n applySites s
      let j := nextChange (getTpp s1 n) (periodPs s1 n w.tset) k
      if j == k then applyRun n k w s1 else applyN n w fuel (k - j) (applyRun n j w s1)

/-- How many boundaries can bring a change. -/
def changeFuel (t : Tpp) : Nat := t.siteQ.length + 10

/-- The program counter as TPP_STATUS shows it. -/
def showPc (n : Nat) (s : Block) : Block := s.put (Rg.tpp n) Rg.tPc (getTpp s n).word

/-- Continue only while the run has not ended. -/
def thenSeq (n : Nat) (f : Block → Block) (s : Block) : Block := when (applying s n) f s

/-- A row of one opcode: at the boundary the run ends where it is to, or before an illegal word; `f` gets the word. A row
of another opcode than the word's is not what happens next, and changes nothing. -/
def seqRow (n op : Nat) (dbe : Bool) (f : Nat → Block → Block) (s : Block) : Block :=
  let t := getTpp s n
  if !applying s n || t.streaming.isSome then s
  else
    let s := reachTime (BitVec.ofNat 64 (t.time / 1000)) s
    match stopNow t with
    | some code => showPc n (runEnd n code s)
    | none =>
      match if t.waited == 0 then wordFault s n dbe else none with
      | some code => showPc n (runEnd n code s)
      | none =>
        let w := (spGet (fun _ => 0) t.cache t.word).toNat
        if wordOp w == op then
          showPc n (f w (when (wordEvt w && t.waited == 0) (fun s => s.emit (.tppEvt n)) s))
        else s

/-- The PECs and timing set of a word that is no MATCH and steps no APG. -/
def plainWord (w : Nat) : AppWord := { pec := wordPec w, tset := wordTset w, instr := none, isMatch := false }

/-- k applications of a word. -/
def applyWord (n k : Nat) (w : AppWord) (s : Block) : Block := applyN n w (changeFuel (getTpp s n)) k s

/-- Go on to the next word. -/
def seqOn (n : Nat) (s : Block) : Block := thenSeq n (modTpp n (fun t => seqAdvance t.word t)) s

/-! ### The opcodes (R279) -/

def seqNextStep (n : Nat) (w : Nat) (s : Block) : Block := seqOn n (applyWord n 1 (plainWord w) s)

def execSeqNext (tpp : Fin 24) (dbe : Bool) (s : State) : Host.Outcome State Fault Refusal :=
  clockedOn (tpp.val / 6) (seqRow tpp.val 0x0 dbe (seqNextStep tpp.val)) s

def seqRepeatStep (n : Nat) (w : Nat) (s : Block) : Block :=
  seqOn n (applyWord n (orMax (wordArg w 0 24) 24) (plainWord w) s)

def execSeqRepeat (tpp : Fin 24) (dbe : Bool) (s : State) : Host.Outcome State Fault Refusal :=
  clockedOn (tpp.val / 6) (seqRow tpp.val 0x1 dbe (seqRepeatStep tpp.val)) s

/-- LOOP (R281): an END at its own address leaves the body empty. -/
def seqLoopStep (n : Nat) (w : Nat) (s : Block) : Block :=
  let e := wordArg w 24 15
  thenSeq n (modTpp n (fun t =>
    if e == t.word then seqAdvance t.word t
    else { t with loops := { first := t.word + 1, last := e, left := orMax (wordArg w 0 24) 24 } :: t.loops,
                  word := t.word + 1 })) (applyWord n 1 (plainWord w) s)

def execSeqLoop (tpp : Fin 24) (dbe : Bool) (s : State) : Host.Outcome State Fault Refusal :=
  clockedOn (tpp.val / 6) (seqRow tpp.val 0x2 dbe (seqLoopStep tpp.val)) s

def seqJumpStep (n : Nat) (w : Nat) (s : Block) : Block :=
  thenSeq n (modTpp n (seqGoto (wordArg w 0 15))) (applyWord n 1 (plainWord w) s)

def execSeqJump (tpp : Fin 24) (dbe : Bool) (s : State) : Host.Outcome State Fault Refusal :=
  clockedOn (tpp.val / 6) (seqRow tpp.val 0x3 dbe (seqJumpStep tpp.val)) s

def seqCallStep (n : Nat) (w : Nat) (s : Block) : Block :=
  thenSeq n (modTpp n (fun t => { t with calls := (t.word, t.loops.length) :: t.calls, word := wordArg w 0 15 }))
    (applyWord n 1 (plainWord w) s)

def execSeqCall (tpp : Fin 24) (dbe : Bool) (s : State) : Host.Outcome State Fault Refusal :=
  clockedOn (tpp.val / 6) (seqRow tpp.val 0x4 dbe (seqCallStep tpp.val)) s

/-- RET (R281): the loops of the subroutine end, and it resumes as the word after the CALL would. -/
def seqRetStep (n : Nat) (w : Nat) (s : Block) : Block :=
  thenSeq n (modTpp n (fun t =>
    match t.calls with
    | (pc, _) :: cs => seqAdvance pc { t with loops := keptLoops t, calls := cs }
    | [] => t)) (applyWord n 1 (plainWord w) s)

def execSeqRet (tpp : Fin 24) (dbe : Bool) (s : State) : Host.Outcome State Fault Refusal :=
  clockedOn (tpp.val / 6) (seqRow tpp.val 0x5 dbe (seqRetStep tpp.val)) s

/-- JOF (R282): it tests once every compare before its first application has been delivered; until then it waits. -/
def seqJofStep (n : Nat) (w : Nat) (s : Block) : Block :=
  let mask := wordArg w 15 8
  thenSeq n (fun s =>
    let fails := s.f (Rg.tpp n) Rg.tSiteFail
    let s := when (wordArg w 23 1 == 1) (fun s => s.put (Rg.tpp n) Rg.tSiteFail (Nat.land fails (255 - mask))) s
    if Nat.land fails mask != 0 then modTpp n (seqGoto (wordArg w 0 15)) s
    else modTpp n (fun t => seqAdvance t.word t) s)
    (applyWord n (wOf (periodPs s n (wordTset w))) (plainWord w) s)

def execSeqJof (tpp : Fin 24) (dbe : Bool) (s : State) : Host.Outcome State Fault Refusal :=
  clockedOn (tpp.val / 6) (fun s => when ((getTpp s tpp.val).batches.isEmpty || (stopNow (getTpp s tpp.val)).isSome)
    (seqRow tpp.val 0x6 dbe (seqJofStep tpp.val)) s) s

/-- The application in which a site matches: 1 where it is disabled or compares nothing, else what the pins gave. -/
def matchOf (s : Block) (n w : Nat) (hits : List (Nat × Nat)) (x : Nat) : Option Nat :=
  let t := getTpp s n
  if !(sitesAt t t.time).getLsbD x || !((siteSlots s n x).any (fun k => pecCompares (pecAt (wordPec w) k))) then some 1
  else (hits.lookup x).map (Nat.max 1)

/-- A site's match-timeout: its fail flag and a record of TYPE 0x02 (R283, R329). -/
def matchTimeout (n w v fails x : Nat) (s : Block) : Block :=
  let r := Rg.tpp n
  let t := getTpp s n
  let slots := (siteSlots s n x).filter (fun k => fails.testBit k && pecCompares (pecAt (wordPec w) k))
  let apgUsed := (allSlots s n).any (fun k => pecAt (wordPec w) k == 0xC || pecAt (wordPec w) k == 0xD)
  let ad := recAddrs s n t.apg
  when (producesRecords s n x)
    (produceRecord n x v (recWord v 2 (x + 8 * apgUsed.toNat) (maskOf slots) (wordTset w) n ad.1 ad.2))
    (s.put r Rg.tSiteFail (Nat.lor (s.f r Rg.tSiteFail) (2 ^ x)))

/-- MATCH (R283). -/
def seqMatchStep (n : Nat) (hits : List (Nat × Nat)) (fails : Nat) (w : Nat) (s : Block) : Block :=
  let timeout := orMax (wordArg w 0 24) 24
  let sites := bitsOf 8 (wordArg w 39 8)
  let ms := sites.map (matchOf s n w hits)
  let wa : AppWord := { plainWord w with isMatch := true }
  let late := fun m : Option Nat => match m with
    | some k => decide (timeout < k)
    | none => true
  let after := wOf (periodPs s n (wordTset w))
  let v := s.f (Rg.tpp n) Rg.tVecnum
  if ms.any late then
    let lost := sites.filter (fun x => late (matchOf s n w hits x))
    thenSeq n (fun s => modTpp n (seqGoto (wordArg w 24 15)) (forEach lost (matchTimeout n w (v + timeout - 1) fails) s))
      (applyWord n (timeout + after) wa s)
  else
    seqOn n (applyWord n ((ms.map (fun m => m.getD 1)).foldl Nat.max 1 + after) wa s)

def execSeqMatch (tpp : Fin 24) (dbe : Bool) (hits : List (Fin 8 × Nat)) (fails : BitVec 48) (s : State) :
    Host.Outcome State Fault Refusal :=
  clockedOn (tpp.val / 6) (seqRow tpp.val 0x7 dbe (seqMatchStep tpp.val (hits.map (fun x => (x.1.val, x.2))) fails.toNat)) s

/-- APG_STEP (R315): INSTR executes after each application. -/
def seqApgStepStep (n : Nat) (w : Nat) (s : Block) : Block :=
  seqOn n (applyWord n (orMax (wordArg w 0 24) 24) { plainWord w with instr := some (wordArg w 24 8) } s)

def execSeqApgStep (tpp : Fin 24) (dbe : Bool) (s : State) : Host.Outcome State Fault Refusal :=
  clockedOn (tpp.val / 6) (seqRow tpp.val 0x8 dbe (seqApgStepStep tpp.val)) s

/-- STREAM (R279): the word once; its stream vectors follow one by one. -/
def seqStreamStep (n : Nat) (w : Nat) (s : Block) : Block :=
  thenSeq n (modTpp n (fun t => { t with streaming := some (orMax (wordArg w 0 32) 32) })) (applyWord n 1 (plainWord w) s)

def execSeqStream (tpp : Fin 24) (dbe : Bool) (s : State) : Host.Outcome State Fault Refusal :=
  clockedOn (tpp.val / 6) (seqRow tpp.val 0x9 dbe (seqStreamStep tpp.val)) s

/-- The segment and vector of the next stream vector: segments without vectors left are passed. -/
def streamAt (segs : List (Nat × Nat)) (seg vec : Nat) : Option (Nat × Nat) :=
  match (upto segs.length).find? (fun i => decide (seg ≤ i) && decide ((if i == seg then vec else 0) < (segs.getD i (0, 0)).2)) with
  | some i => some (i, if i == seg then vec else 0)
  | none => none

/-- Stream vector v of segment g is applied from the two lines that hold it, and the next one or the next word follows (R278). -/
def streamVector (n g v c : Nat) (x y : BitVec 512) (s : Block) : Block :=
  let t := getTpp s n
  let both := x.toNat + y.toNat * 2 ^ 512
  let pec := both / 2 ^ (8 * (24 * v % 64)) % 2 ^ 192
  let w := (spGet (fun _ => 0) t.cache t.word).toNat
  thenSeq n (modTpp n (fun t =>
    let t := { t with sSeg := g, sVec := v + 1 }
    let t := { t with sLines := spClear (fun k => decide (k < streamBase t)) t.sLines }
    if 1 < c then { t with streaming := some (c - 1) } else seqAdvance t.word { t with streaming := none }))
    (applyWord n 1 { plainWord w with pec := pec } s)

/-- SEQ_STREAM_VECTOR (R278, R305, R311): the next stream vector is applied, or the run ends before it. -/
def seqStreamVectorStep (n : Nat) (s : Block) : Block :=
  let t := getTpp s n
  match t.streaming with
  | none => s
  | some c =>
    if !applying s n then s
    else
      let s := reachTime (BitVec.ofNat 64 (t.time / 1000)) s
      match stopNow t with
      | some code => runEnd n code s
      | none =>
        match streamAt t.segs t.sSeg t.sVec with
        | none => runEnd n St.streamEmpty s
        | some (g, v) =>
          match spGet (fun _ => none) t.sLines (segFirst t g + 24 * v / 64),
            spGet (fun _ => none) t.sLines (segFirst t g + (24 * v + 23) / 64) with
          | some (some x), some (some y) => streamVector n g v c x y s
          | some none, _ => runEnd n St.streamPoison s
          | _, some none => runEnd n St.streamPoison s
          | _, _ => runEnd n St.streamUnderrun s

def execSeqStreamVector (tpp : Fin 24) (s : State) : Host.Outcome State Fault Refusal :=
  clockedOn (tpp.val / 6) (fun s => showPc tpp.val (seqStreamVectorStep tpp.val s)) s

/-- A trigger satisfies a WAIT_TRIG application from `start` to `stop'` (R284). -/
def trigHit (fabric : Bool) (i start stop' : Nat) (x : Bool × Nat × Int) : Bool :=
  x.1 == fabric && x.2.1 == i && (if fabric then decide (x.2.2 ≤ (start : Int)) else decide (x.2.2 < (stop' : Int)))

/-- WAIT_TRIG (R284): one application; the word ends where its trigger has occurred, or after TIMEOUT of them. -/
def seqWaitTrigStep (n : Nat) (w : Nat) (s : Block) : Block :=
  let t0 := (getTpp s n).time
  let s := applyWord n 1 (plainWord w) s
  thenSeq n (fun s =>
    let t := getTpp s n
    let hit := trigHit (wordArg w 43 1 == 1) (wordArg w 39 4) t0 t.time
    if t.trigs.any hit then
      setTpp n (seqAdvance t.word { t with trigs := t.trigs.filter (fun x => !hit x), waited := 0 }) s
    else if orMax (wordArg w 0 24) 24 ≤ t.waited + 1 then
      setTpp n (seqGoto (wordArg w 24 15) { t with waited := 0 }) s
    else setTpp n { t with waited := t.waited + 1 } s) s

def execSeqWaitTrig (tpp : Fin 24) (dbe : Bool) (s : State) : Host.Outcome State Fault Refusal :=
  clockedOn (tpp.val / 6) (seqRow tpp.val 0xA dbe (seqWaitTrigStep tpp.val)) s

/-- STOP (R279): the run ends after this application. -/
def seqStopStep (n : Nat) (w : Nat) (s : Block) : Block :=
  thenSeq n (runEnd n St.ok) (applyWord n 1 (plainWord w) s)

def execSeqStop (tpp : Fin 24) (dbe : Bool) (s : State) : Host.Outcome State Fault Refusal :=
  clockedOn (tpp.val / 6) (seqRow tpp.val 0xF dbe (seqStopStep tpp.val)) s

end Sys2Proof.Machine
end

