-- ==== Sys2Proof/Machine/Dispatch.lean ====
section
/-! DEFINITION. The meaning of every command, one arm per constructor of Instr. -/

namespace Sys2Proof.Machine

def exec (i : Instr) (s : State) : Host.Outcome State Fault Refusal :=
  match i with
  | .porstNAssert lowNs mayReset => Sys2Proof.Machine.execPorstNAssert lowNs mayReset s
  | .porstNRelease => Sys2Proof.Machine.execPorstNRelease s
  | .stage1Enter faults => Sys2Proof.Machine.execStage1Enter faults s
  | .stage2Enter => Sys2Proof.Machine.execStage2Enter s
  | .stage3Enter fitted => Sys2Proof.Machine.execStage3Enter fitted s
  | .bootPlateLoad => Sys2Proof.Machine.execBootPlateLoad s
  | .dieReset h die => Sys2Proof.Machine.execDieReset h die s
  | .dieResetTakeEffect die => Sys2Proof.Machine.execDieResetTakeEffect die s
  | .dieResetRelease die faults => Sys2Proof.Machine.execDieResetRelease die faults s
  | .siteReset h site => Sys2Proof.Machine.execSiteReset h site s
  | .siteResetRelease site => Sys2Proof.Machine.execSiteResetRelease site s
  | .vccauxLoss => Sys2Proof.Machine.execVccauxLoss s
  | .ringLockAcquired => Sys2Proof.Machine.execRingLockAcquired s
  | .ringLockLost => Sys2Proof.Machine.execRingLockLost s
  | .ringWindow delay length => Sys2Proof.Machine.execRingWindow delay length s
  | .ringWindowStart => Sys2Proof.Machine.execRingWindowStart s
  | .ringCensus hop rxError => Sys2Proof.Machine.execRingCensus hop rxError s
  | .ringStartPacket group lead => Sys2Proof.Machine.execRingStartPacket group lead s
  | .ringTriggerPacket group trig lead => Sys2Proof.Machine.execRingTriggerPacket group trig lead s
  | .ringAbortPacket group => Sys2Proof.Machine.execRingAbortPacket group s
  | .ringPacketForward packet => Sys2Proof.Machine.execRingPacketForward packet s
  | .ringJoinTimeout => Sys2Proof.Machine.execRingJoinTimeout s
  | .ringJoin h => Sys2Proof.Machine.execRingJoin h s
  | .ringLeave h => Sys2Proof.Machine.execRingLeave h s
  | .alignmentMarker => Sys2Proof.Machine.execAlignmentMarker s
  | .devTimeWrap => Sys2Proof.Machine.execDevTimeWrap s
  | .primaryRingLost => Sys2Proof.Machine.execPrimaryRingLost s
  | .refclkLost => Sys2Proof.Machine.execRefclkLost s
  | .referenceRestored ring => Sys2Proof.Machine.execReferenceRestored ring s
  | .referenceSlewDone => Sys2Proof.Machine.execReferenceSlewDone s
  | .rootPllUnlock => Sys2Proof.Machine.execRootPllUnlock s
  | .fpllUnlock die pll => Sys2Proof.Machine.execFpllUnlock die pll s
  | .fpllRelock die pll => Sys2Proof.Machine.execFpllRelock die pll s
  | .seamMarginLoss edge group wire margin => Sys2Proof.Machine.execSeamMarginLoss edge group wire margin s
  | .seamParityFail edge group wire => Sys2Proof.Machine.execSeamParityFail edge group wire s
  | .configUpset sector frame bits => Sys2Proof.Machine.execConfigUpset sector frame bits s
  | .ramPortAccess sector ram a b near bFirst err => Sys2Proof.Machine.execRamPortAccess sector ram a b near bFirst err s
  | .tankQueueWrite sector tank din we => Sys2Proof.Machine.execTankQueueWrite sector tank din we s
  | .tankQueueRead sector tank orCe orSr err => Sys2Proof.Machine.execTankQueueRead sector tank orCe orSr err s
  | .userRamScrubRead sector ram which err => Sys2Proof.Machine.execUserRamScrubRead sector ram which err s
  | .userRamScrubWriteback sector ram => Sys2Proof.Machine.execUserRamScrubWriteback sector ram s
  | .scrubStarved sector ram => Sys2Proof.Machine.execScrubStarved sector ram s
  | .engineStart e => Sys2Proof.Machine.execEngineStart e s
  | .engineHalt e => Sys2Proof.Machine.execEngineHalt e s
  | .engineHaltRelease e => Sys2Proof.Machine.execEngineHaltRelease e s
  | .engineReset e high => Sys2Proof.Machine.execEngineReset e high s
  | .engineFifoWrite e b word => Sys2Proof.Machine.execEngineFifoWrite e b word s
  | .engineOqRead e => Sys2Proof.Machine.execEngineOqRead e s
  | .engineNop e => Sys2Proof.Machine.execEngineNop e s
  | .engineMac e errA errB => Sys2Proof.Machine.execEngineMac e errA errB s
  | .engineNmac e errA errB => Sys2Proof.Machine.execEngineNmac e errA errB s
  | .engineNorm e => Sys2Proof.Machine.execEngineNorm e s
  | .engineAgset e => Sys2Proof.Machine.execEngineAgset e s
  | .engineSet e errA errB => Sys2Proof.Machine.execEngineSet e errA errB s
  | .engineRep e => Sys2Proof.Machine.execEngineRep e s
  | .engineLoop e => Sys2Proof.Machine.execEngineLoop e s
  | .engineJmp e => Sys2Proof.Machine.execEngineJmp e s
  | .engineWait e => Sys2Proof.Machine.execEngineWait e s
  | .engineSig e => Sys2Proof.Machine.execEngineSig e s
  | .engineStop e => Sys2Proof.Machine.execEngineStop e s
  | .engineStopDrained e => Sys2Proof.Machine.execEngineStopDrained e s
  | .engineGpiChange e gpi0 gpi1 => Sys2Proof.Machine.execEngineGpiChange e gpi0 gpi1 s
  | .plateLoad h source freezeFirst retain target region policy addr len => Sys2Proof.Machine.execPlateLoad h source freezeFirst retain target region policy addr len s
  | .plateRelocate h region target => Sys2Proof.Machine.execPlateRelocate h region target s
  | .regionFreeze h region => Sys2Proof.Machine.execRegionFreeze h region s
  | .regionRelease h regions => Sys2Proof.Machine.execRegionRelease h regions s
  | .regionReset h region => Sys2Proof.Machine.execRegionReset h region s
  | .regionClear h region => Sys2Proof.Machine.execRegionClear h region s
  | .plateSpares h sectors => Sys2Proof.Machine.execPlateSpares h sectors s
  | .plateUnretain h region => Sys2Proof.Machine.execPlateUnretain h region s
  | .plateStatus h region => Sys2Proof.Machine.execPlateStatus h region s
  | .frameRecordWrite load readBackOk => Sys2Proof.Machine.execFrameRecordWrite load readBackOk s
  | .loadStreamDone load dies routes => Sys2Proof.Machine.execLoadStreamDone load dies routes s
  | .loadVerifyDone load faults => Sys2Proof.Machine.execLoadVerifyDone load faults s
  | .freezeDrainEnd region => Sys2Proof.Machine.execFreezeDrainEnd region s
  | .relocateCutover region => Sys2Proof.Machine.execRelocateCutover region s
  | .linkReroute link route => Sys2Proof.Machine.execLinkReroute link route s
  | .configScrubFrame die => Sys2Proof.Machine.execConfigScrubFrame die s
  | .mbeReload sector => Sys2Proof.Machine.execMbeReload sector s
  | .autoRelocate region spare => Sys2Proof.Machine.execAutoRelocate region spare s
  | .shutter h addr => Sys2Proof.Machine.execShutter h addr s
  | .shutterResume h => Sys2Proof.Machine.execShutterResume h s
  | .shutterCancel h => Sys2Proof.Machine.execShutterCancel h s
  | .shutterStatus h => Sys2Proof.Machine.execShutterStatus h s
  | .shutterTriggerLine line => Sys2Proof.Machine.execShutterTriggerLine line s
  | .shutterCapture => Sys2Proof.Machine.execShutterCapture s
  | .shutterNoEdgeTimeout => Sys2Proof.Machine.execShutterNoEdgeTimeout s
  | .contactRecordWrite => Sys2Proof.Machine.execContactRecordWrite s
  | .shutterReadoutDone => Sys2Proof.Machine.execShutterReadoutDone s
  | .vccoFaultEnter die bank mv => Sys2Proof.Machine.execVccoFaultEnter die bank mv s
  | .vccoFaultExit die bank mv => Sys2Proof.Machine.execVccoFaultExit die bank mv s
  | .ioCalibration die ok => Sys2Proof.Machine.execIoCalibration die ok s
  | .ioPinWrite die pin size8 high value => Sys2Proof.Machine.execIoPinWrite die pin size8 high value s
  | .delayFabricStep die pin output inc => Sys2Proof.Machine.execDelayFabricStep die pin output inc s
  | .termEnChange die pin on => Sys2Proof.Machine.execTermEnChange die pin on s
  | .vccoLevelChange die bank mv => Sys2Proof.Machine.execVccoLevelChange die bank mv s
  | .delayLineTapMove die pin => Sys2Proof.Machine.execDelayLineTapMove die pin s
  | .tppLoad h tpp addr first count => Sys2Proof.Machine.execTppLoad h tpp addr first count s
  | .tppRun h tpp addr => Sys2Proof.Machine.execTppRun h tpp addr s
  | .tppAbort h mask => Sys2Proof.Machine.execTppAbort h mask s
  | .tppStatus h tpp => Sys2Proof.Machine.execTppStatus h tpp s
  | .tppCalibrate h mask => Sys2Proof.Machine.execTppCalibrate h mask s
  | .tppSite h tpp enables => Sys2Proof.Machine.execTppSite h tpp enables s
  | .tppCalDone tpp cals temp => Sys2Proof.Machine.execTppCalDone tpp cals temp s
  | .tppStreamReady tpp => Sys2Proof.Machine.execTppStreamReady tpp s
  | .tppStartInstant tpp => Sys2Proof.Machine.execTppStartInstant tpp s
  | .startFEdge tpp => Sys2Proof.Machine.execStartFEdge tpp s
  | .abortFEdge tpp => Sys2Proof.Machine.execAbortFEdge tpp s
  | .trigFEdge tpp trig => Sys2Proof.Machine.execTrigFEdge tpp trig s
  | .siteOffChange tpp off => Sys2Proof.Machine.execSiteOffChange tpp off s
  | .seqNext tpp dbe => Sys2Proof.Machine.execSeqNext tpp dbe s
  | .seqRepeat tpp dbe => Sys2Proof.Machine.execSeqRepeat tpp dbe s
  | .seqLoop tpp dbe => Sys2Proof.Machine.execSeqLoop tpp dbe s
  | .seqJump tpp dbe => Sys2Proof.Machine.execSeqJump tpp dbe s
  | .seqCall tpp dbe => Sys2Proof.Machine.execSeqCall tpp dbe s
  | .seqRet tpp dbe => Sys2Proof.Machine.execSeqRet tpp dbe s
  | .seqJof tpp dbe => Sys2Proof.Machine.execSeqJof tpp dbe s
  | .seqMatch tpp dbe hits fails => Sys2Proof.Machine.execSeqMatch tpp dbe hits fails s
  | .seqApgStep tpp dbe => Sys2Proof.Machine.execSeqApgStep tpp dbe s
  | .seqStream tpp dbe => Sys2Proof.Machine.execSeqStream tpp dbe s
  | .seqStreamVector tpp => Sys2Proof.Machine.execSeqStreamVector tpp s
  | .seqWaitTrig tpp dbe => Sys2Proof.Machine.execSeqWaitTrig tpp dbe s
  | .seqStop tpp dbe => Sys2Proof.Machine.execSeqStop tpp dbe s
  | .streamRefillRead tpp => Sys2Proof.Machine.execStreamRefillRead tpp s
  | .streamReadResponse tpp line ok data => Sys2Proof.Machine.execStreamReadResponse tpp line ok data s
  | .tppDrainEnd tpp => Sys2Proof.Machine.execTppDrainEnd tpp s
  | .tppDrainTimeout tpp => Sys2Proof.Machine.execTppDrainTimeout tpp s
  | .compareResult tpp vecnum volts => Sys2Proof.Machine.execCompareResult tpp vecnum volts s
  | .failRecordSend tpp => Sys2Proof.Machine.execFailRecordSend tpp s
  | .bitmapLineEvict tpp line => Sys2Proof.Machine.execBitmapLineEvict tpp line s
  | .bitmapAorResponse tpp line ok => Sys2Proof.Machine.execBitmapAorResponse tpp line ok s
  | .cntClear tpp => Sys2Proof.Machine.execCntClear tpp s
  | .laneUp h die mask group spares => Sys2Proof.Machine.execLaneUp h die mask group spares s
  | .laneDown h die mask => Sys2Proof.Machine.execLaneDown h die mask s
  | .laneQuiesce h die mask => Sys2Proof.Machine.execLaneQuiesce h die mask s
  | .laneResume h die mask => Sys2Proof.Machine.execLaneResume h die mask s
  | .laneLoopback h lane kind squelch => Sys2Proof.Machine.execLaneLoopback h lane kind squelch s
  | .lanePrbs h lane poly gen chk inv => Sys2Proof.Machine.execLanePrbs h lane poly gen chk inv s
  | .laneEyescan h lane hStart hLen hStep vStart vLen vStep dwell addr => Sys2Proof.Machine.execLaneEyescan h lane hStart hLen hStep vStart vLen vStep dwell addr s
  | .laneStatus h lane => Sys2Proof.Machine.execLaneStatus h lane s
  | .laneUpTimeout die mask => Sys2Proof.Machine.execLaneUpTimeout die mask s
  | .laneTxBlock lane ctrl payload => Sys2Proof.Machine.execLaneTxBlock lane ctrl payload s
  | .laneRxBlock lane hdr payload drained => Sys2Proof.Machine.execLaneRxBlock lane hdr payload drained s
  | .rxSlip lane => Sys2Proof.Machine.execRxSlip lane s
  | .blockLockGained lane => Sys2Proof.Machine.execBlockLockGained lane s
  | .blockLockLost lane => Sys2Proof.Machine.execBlockLockLost lane s
  | .lnbCaps lane map nonce groupCap => Sys2Proof.Machine.execLnbCaps lane map nonce groupCap s
  | .lnbStepReq lane code => Sys2Proof.Machine.execLnbStepReq lane code s
  | .lnbStepAck lane code => Sys2Proof.Machine.execLnbStepAck lane code s
  | .laneRateSwitch lane => Sys2Proof.Machine.execLaneRateSwitch lane s
  | .lnbCoeff lane preset pre post => Sys2Proof.Machine.execLnbCoeff lane preset pre post s
  | .lnbCoeffAck lane => Sys2Proof.Machine.execLnbCoeffAck lane s
  | .lnbSteerReq lane logical abrupt => Sys2Proof.Machine.execLnbSteerReq lane logical abrupt s
  | .lnbSteerAck lane logical => Sys2Proof.Machine.execLnbSteerAck lane logical s
  | .lnbSteerDone lane logical => Sys2Proof.Machine.execLnbSteerDone lane logical s
  | .groupMarker lane logical dup clean => Sys2Proof.Machine.execGroupMarker lane logical dup clean s
  | .laneEqEnd lane ctle tap1 margin => Sys2Proof.Machine.execLaneEqEnd lane ctle tap1 margin s
  | .laneCheckEnd lane pass => Sys2Proof.Machine.execLaneCheckEnd lane pass s
  | .laneLockTimeout lane => Sys2Proof.Machine.execLaneLockTimeout lane s
  | .laneBaseRetry lane => Sys2Proof.Machine.execLaneBaseRetry lane s
  | .laneRetrain lane => Sys2Proof.Machine.execLaneRetrain lane s
  | .laneDegrading lane errs margin => Sys2Proof.Machine.execLaneDegrading lane errs margin s
  | .eyescanDone lane counts => Sys2Proof.Machine.execEyescanDone lane counts s
  | .laneSnap lane => Sys2Proof.Machine.execLaneSnap lane s
  | .bmkSend die group => Sys2Proof.Machine.execBmkSend die group s
  | .lnbRepeat lane => Sys2Proof.Machine.execLnbRepeat lane s
  | .dramTrain h ch rate => Sys2Proof.Machine.execDramTrain h ch rate s
  | .dramStatus h ch => Sys2Proof.Machine.execDramStatus h ch s
  | .dramQuiesce h ch => Sys2Proof.Machine.execDramQuiesce h ch s
  | .dramResume h ch => Sys2Proof.Machine.execDramResume h ch s
  | .dramOffline h ch => Sys2Proof.Machine.execDramOffline h ch s
  | .dramOnline h ch => Sys2Proof.Machine.execDramOnline h ch s
  | .dramSelftest h ch off len kind => Sys2Proof.Machine.execDramSelftest h ch off len kind s
  | .dramBracket h ch ctrl => Sys2Proof.Machine.execDramBracket h ch ctrl s
  | .dramRecover h ch => Sys2Proof.Machine.execDramRecover h ch s
  | .dramTrainDone ch dimm pairDdr4 pass selfRef => Sys2Proof.Machine.execDramTrainDone ch dimm pairDdr4 pass selfRef s
  | .bracketGo ch => Sys2Proof.Machine.execBracketGo ch s
  | .bracketDone ch results => Sys2Proof.Machine.execBracketDone ch results s
  | .dramLineRead ch id line src stream => Sys2Proof.Machine.execDramLineRead ch id line src stream s
  | .dramLineWrite ch id line src data => Sys2Proof.Machine.execDramLineWrite ch id line src data s
  | .dramLockedPair ch id line src merge => Sys2Proof.Machine.execDramLockedPair ch id line src merge s
  | .dramBurstComplete ch idx errs => Sys2Proof.Machine.execDramBurstComplete ch idx errs s
  | .dramWriteStarve ch => Sys2Proof.Machine.execDramWriteStarve ch s
  | .dramRefreshDue ch sub rank => Sys2Proof.Machine.execDramRefreshDue ch sub rank s
  | .dramRefreshRateRead ch hot => Sys2Proof.Machine.execDramRefreshRateRead ch hot s
  | .actTableClear ch sub rank bg bank => Sys2Proof.Machine.execActTableClear ch sub rank bg bank s
  | .dramAlert ch sub => Sys2Proof.Machine.execDramAlert ch sub s
  | .dramAlertRelease ch sub => Sys2Proof.Machine.execDramAlertRelease ch sub s
  | .dramReplayWindowEnd ch sub => Sys2Proof.Machine.execDramReplayWindowEnd ch sub s
  | .dramPatrolRead ch errs overtaken => Sys2Proof.Machine.execDramPatrolRead ch errs overtaken s
  | .dramInitBlock ch => Sys2Proof.Machine.execDramInitBlock ch s
  | .dramZqCal ch rank => Sys2Proof.Machine.execDramZqCal ch rank s
  | .dramDriftTrack ch rank moves => Sys2Proof.Machine.execDramDriftTrack ch rank moves s
  | .dramDrainDone ch => Sys2Proof.Machine.execDramDrainDone ch s
  | .dramSchedulerSlot ch sub => Sys2Proof.Machine.execDramSchedulerSlot ch sub s
  | .vddqDcRemoved pair => Sys2Proof.Machine.execVddqDcRemoved pair s
  | .lsuKeyLoad h slot ref => Sys2Proof.Machine.execLsuKeyLoad h slot ref s
  | .lsuKeyClear h slot => Sys2Proof.Machine.execLsuKeyClear h slot s
  | .lsuRegionSet h region base limit valid => Sys2Proof.Machine.execLsuRegionSet h region base limit valid s
  | .lsuRekey h region slot tagEn => Sys2Proof.Machine.execLsuRekey h region slot tagEn s
  | .lsuStatus h region => Sys2Proof.Machine.execLsuStatus h region s
  | .lsuReadCheck ch idx => Sys2Proof.Machine.execLsuReadCheck ch idx s
  | .sweepLineConvert ch => Sys2Proof.Machine.execSweepLineConvert ch s
  | .sweepReadReturn ch => Sys2Proof.Machine.execSweepReadReturn ch s
  | .sweepComplete region => Sys2Proof.Machine.execSweepComplete region s
  | .nocRequestIssue src via kind addr len label stream data => Sys2Proof.Machine.execNocRequestIssue src via kind addr len label stream data s
  | .routerFlit router header payload headerError => Sys2Proof.Machine.execRouterFlit router header payload headerError s
  | .nocCreditReturn router port vc => Sys2Proof.Machine.execNocCreditReturn router port vc s
  | .nocResponseArrive dst tag status flits fifoFull => Sys2Proof.Machine.execNocResponseArrive dst tag status flits fifoFull s
  | .apTargetRequest d k src tag kind off len data => Sys2Proof.Machine.execApTargetRequest d k src tag kind off len data s
  | .apTargetResponse d k id targetError data => Sys2Proof.Machine.execApTargetResponse d k id targetError data s
  | .nocFence src label => Sys2Proof.Machine.execNocFence src label s
  | .fenceMark src dst => Sys2Proof.Machine.execFenceMark src dst s
  | .fenceAck src dst => Sys2Proof.Machine.execFenceAck src dst s
  | .targetTimeout port => Sys2Proof.Machine.execTargetTimeout port s
  | .rerouteStart gone spared halved sites => Sys2Proof.Machine.execRerouteStart gone spared halved sites s
  | .rerouteTablesConfirmed => Sys2Proof.Machine.execRerouteTablesConfirmed s
  | .routerTableRetire router => Sys2Proof.Machine.execRouterTableRetire router s
  | .rerouteSlow => Sys2Proof.Machine.execRerouteSlow s
  | .domainDrainEnd domain => Sys2Proof.Machine.execDomainDrainEnd domain s
  | .domainOpened domain => Sys2Proof.Machine.execDomainOpened domain s
  | .nocGlobalFence h => Sys2Proof.Machine.execNocGlobalFence h s
  | .nocStatus h die isPort number => Sys2Proof.Machine.execNocStatus h die isPort number s
  | .nocIsolate h port => Sys2Proof.Machine.execNocIsolate h port s
  | .nocRelease h port => Sys2Proof.Machine.execNocRelease h port s
  | .nocDomainOff h domain => Sys2Proof.Machine.execNocDomainOff h domain s
  | .nocDomainOn h domain => Sys2Proof.Machine.execNocDomainOn h domain s
  | .sitePortMoveConfirm site => Sys2Proof.Machine.execSitePortMoveConfirm site s
  | .dlStatus h module => Sys2Proof.Machine.execDlStatus h module s
  | .dlRetrain h module => Sys2Proof.Machine.execDlRetrain h module s
  | .dlDown h module => Sys2Proof.Machine.execDlDown h module s
  | .dlUp h module => Sys2Proof.Machine.execDlUp h module s
  | .dlClearDegrade h module => Sys2Proof.Machine.execDlClearDegrade h module s
  | .seamSteer h die group wire => Sys2Proof.Machine.execSeamSteer h die group wire s
  | .discoverySend d m => Sys2Proof.Machine.execDiscoverySend d m s
  | .discoveryRecord d m record => Sys2Proof.Machine.execDiscoveryRecord d m record s
  | .discoverTimeout d m => Sys2Proof.Machine.execDiscoverTimeout d m s
  | .parameterExchangeDone d m record found => Sys2Proof.Machine.execParameterExchangeDone d m record found s
  | .retrainTimeout d m => Sys2Proof.Machine.execRetrainTimeout d m s
  | .fregalFlitReceive d m flit => Sys2Proof.Machine.execFregalFlitReceive d m flit s
  | .fregalNak d m seq => Sys2Proof.Machine.execFregalNak d m seq s
  | .replayTimeout d m => Sys2Proof.Machine.execReplayTimeout d m s
  | .carryReq d m k => Sys2Proof.Machine.execCarryReq d m k s
  | .carryAck d m k seq offset => Sys2Proof.Machine.execCarryAck d m k seq offset s
  | .carryResume d m count => Sys2Proof.Machine.execCarryResume d m count s
  | .dlLaneMargin d m lane => Sys2Proof.Machine.execDlLaneMargin d m lane s
  | .dlClockLoss d m => Sys2Proof.Machine.execDlClockLoss d m s
  | .dlTrainTimeout d m => Sys2Proof.Machine.execDlTrainTimeout d m s
  | .dlRxLockLoss d m => Sys2Proof.Machine.execDlRxLockLoss d m s
  | .qeGroupAssign h group owner => Sys2Proof.Machine.execQeGroupAssign h group owner s
  | .qeQueueCreate h queue base log2 dir esize vector cls irqEn pin pushSrc wbAddr delivAddr window => Sys2Proof.Machine.execQeQueueCreate h queue base log2 dir esize vector cls irqEn pin pushSrc wbAddr delivAddr window s
  | .qeQueueDestroy h queue => Sys2Proof.Machine.execQeQueueDestroy h queue s
  | .qeQueueReset h queue => Sys2Proof.Machine.execQeQueueReset h queue s
  | .qeQueueStatus h queue => Sys2Proof.Machine.execQeQueueStatus h queue s
  | .qeVectorSet h vector cls thresh timer target mask => Sys2Proof.Machine.execQeVectorSet h vector cls thresh timer target mask s
  | .qeStatus h => Sys2Proof.Machine.execQeStatus h s
  | .qeCompletionDoorbell src q value => Sys2Proof.Machine.execQeCompletionDoorbell src q value s
  | .qeSubmissionDoorbell src q value => Sys2Proof.Machine.execQeSubmissionDoorbell src q value s
  | .qePush src q wide data => Sys2Proof.Machine.execQePush src q wide data s
  | .qeCreditReturn src q n => Sys2Proof.Machine.execQeCreditReturn src q n s
  | .qeRingWriteResponse idx ok => Sys2Proof.Machine.execQeRingWriteResponse idx ok s
  | .qeContextFill q => Sys2Proof.Machine.execQeContextFill q s
  | .qeContextWriteback q evict => Sys2Proof.Machine.execQeContextWriteback q evict s
  | .qeContextRetry q => Sys2Proof.Machine.execQeContextRetry q s
  | .qeSubmissionFetch q => Sys2Proof.Machine.execQeSubmissionFetch q s
  | .qeFetchResponse idx ok => Sys2Proof.Machine.execQeFetchResponse idx ok s
  | .qeHeadWriteback q => Sys2Proof.Machine.execQeHeadWriteback q s
  | .qeVectorTimer vec => Sys2Proof.Machine.execQeVectorTimer vec s
  | .qeVectorFire vec => Sys2Proof.Machine.execQeVectorFire vec s
  | .qeSleepReq => Sys2Proof.Machine.execQeSleepReq s
  | .qeSleepEntered => Sys2Proof.Machine.execQeSleepEntered s
  | .qeAwake => Sys2Proof.Machine.execQeAwake s
  | .eicSourceEdge n => Sys2Proof.Machine.execEicSourceEdge n s
  | .eicSourceLevel sector line high => Sys2Proof.Machine.execEicSourceLevel sector line high s
  | .eicNotify t => Sys2Proof.Machine.execEicNotify t s
  | .eicClaim t => Sys2Proof.Machine.execEicClaim t s
  | .eicComplete t src => Sys2Proof.Machine.execEicComplete t src s
  | .eicSourceSet h src prio enable mode => Sys2Proof.Machine.execEicSourceSet h src prio enable mode s
  | .eicTargetSet h target thresh msgAddr => Sys2Proof.Machine.execEicTargetSet h target thresh msgAddr s
  | .eicStatus h => Sys2Proof.Machine.execEicStatus h s
  | .lockstepMismatch => Sys2Proof.Machine.execLockstepMismatch s
  | .watchdogExpiry => Sys2Proof.Machine.execWatchdogExpiry s
  | .greoneRestartBegin => Sys2Proof.Machine.execGreoneRestartBegin s
  | .greoneReady => Sys2Proof.Machine.execGreoneReady s
  | .safelightFrame frame => Sys2Proof.Machine.execSafelightFrame frame s
  | .safelightSegmentFail segment reverse => Sys2Proof.Machine.execSafelightSegmentFail segment reverse s
  | .mbxDoorbell p tail => Sys2Proof.Machine.execMbxDoorbell p tail s
  | .mbxRspRelease p head => Sys2Proof.Machine.execMbxRspRelease p head s
  | .mbxCommandTake p => Sys2Proof.Machine.execMbxCommandTake p s
  | .mbxResponseWrite p => Sys2Proof.Machine.execMbxResponseWrite p s
  | .devInfo h => Sys2Proof.Machine.execDevInfo h s
  | .devStatus h => Sys2Proof.Machine.execDevStatus h s
  | .mbxBarrier h => Sys2Proof.Machine.execMbxBarrier h s
  | .regRead h addr size => Sys2Proof.Machine.execRegRead h addr size s
  | .regWrite h addr size value => Sys2Proof.Machine.execRegWrite h addr size value s
  | .greoneRestart h => Sys2Proof.Machine.execGreoneRestart h s
  | .expertDrop h level => Sys2Proof.Machine.execExpertDrop h level s
  | .eventRead h seq => Sys2Proof.Machine.execEventRead h seq s
  | .eventQueue h queue floor => Sys2Proof.Machine.execEventQueue h queue floor s
  | .settingsRead h id => Sys2Proof.Machine.execSettingsRead h id s
  | .settingsWrite h id value => Sys2Proof.Machine.execSettingsWrite h id value s
  | .settingsCommit h reqAddr reqLen => Sys2Proof.Machine.execSettingsCommit h reqAddr reqLen s
  | .testRun h test target args => Sys2Proof.Machine.execTestRun h test target args s
  | .testSchedule h test quiet target time args => Sys2Proof.Machine.execTestSchedule h test quiet target time args s
  | .testCancel h slot => Sys2Proof.Machine.execTestCancel h slot s
  | .testStatus h slot => Sys2Proof.Machine.execTestStatus h slot s
  | .testQuietPoint slot => Sys2Proof.Machine.execTestQuietPoint slot s
  | .selfTestComplete test target pass offsets => Sys2Proof.Machine.execSelfTestComplete test target pass offsets s
  | .v1Info h => Sys2Proof.Machine.execV1Info h s
  | .v1Status h => Sys2Proof.Machine.execV1Status h s
  | .v1Barrier h => Sys2Proof.Machine.execV1Barrier h s
  | .cfgLoad h arg0 arg1 arg2 => Sys2Proof.Machine.execCfgLoad h arg0 arg1 arg2 s
  | .cfgStatus h arg0 => Sys2Proof.Machine.execCfgStatus h arg0 s
  | .memTrain h arg0 => Sys2Proof.Machine.execMemTrain h arg0 s
  | .memStatus h arg0 => Sys2Proof.Machine.execMemStatus h arg0 s
  | .linkUp h arg0 arg1 => Sys2Proof.Machine.execLinkUp h arg0 arg1 s
  | .linkDown h arg0 arg1 => Sys2Proof.Machine.execLinkDown h arg0 arg1 s
  | .regRd h arg2 => Sys2Proof.Machine.execRegRd h arg2 s
  | .regWr h arg1 arg2 => Sys2Proof.Machine.execRegWr h arg1 arg2 s
  | .counterClearWrite addr size8 value => Sys2Proof.Machine.execCounterClearWrite addr size8 value s
  | .registerWrite addr size8 value => Sys2Proof.Machine.execRegisterWrite addr size8 value s
  | .eventFrame => Sys2Proof.Machine.execEventFrame s
  | .eventLogWrite => Sys2Proof.Machine.execEventLogWrite s
  | .secStatus h => Sys2Proof.Machine.execSecStatus h s
  | .secNonce h => Sys2Proof.Machine.execSecNonce h s
  | .secIdCert h which addr len => Sys2Proof.Machine.execSecIdCert h which addr len s
  | .secQuote h addr len nonce => Sys2Proof.Machine.execSecQuote h addr len nonce s
  | .quoteSigned => Sys2Proof.Machine.execQuoteSigned s
  | .secOwnerKeyPut h slot addr => Sys2Proof.Machine.execSecOwnerKeyPut h slot addr s
  | .secOwnerProgram h addr len => Sys2Proof.Machine.execSecOwnerProgram h addr len s
  | .secOwnerRevoke h addr len => Sys2Proof.Machine.execSecOwnerRevoke h addr len s
  | .secFuseLock h addr len => Sys2Proof.Machine.execSecFuseLock h addr len s
  | .secSvnAdvance h addr len => Sys2Proof.Machine.execSecSvnAdvance h addr len s
  | .secSealKeySet h addr len => Sys2Proof.Machine.execSecSealKeySet h addr len s
  | .secPolicySet h addr len => Sys2Proof.Machine.execSecPolicySet h addr len s
  | .fuseProgramDone ok got => Sys2Proof.Machine.execFuseProgramDone ok got s
  | .nonceExpiry p => Sys2Proof.Machine.execNonceExpiry p s
  | .jtagTapInstruction instr => Sys2Proof.Machine.execJtagTapInstruction instr s
  | .bootImageChoice => Sys2Proof.Machine.execBootImageChoice s
  | .svcWrite frame => Sys2Proof.Machine.execSvcWrite frame s
  | .svcRead frame => Sys2Proof.Machine.execSvcRead frame s
  | .svcImage frame => Sys2Proof.Machine.execSvcImage frame s
  | .svcPing frame => Sys2Proof.Machine.execSvcPing frame s
  | .fwStatus h => Sys2Proof.Machine.execFwStatus h s
  | .fwBegin h len => Sys2Proof.Machine.execFwBegin h len s
  | .fwEraseDone ok => Sys2Proof.Machine.execFwEraseDone ok s
  | .fwEnd h digest => Sys2Proof.Machine.execFwEnd h digest s
  | .fwVerify h => Sys2Proof.Machine.execFwVerify h s
  | .fwActivate h whenPermitted => Sys2Proof.Machine.execFwActivate h whenPermitted s
  | .fwAbort h => Sys2Proof.Machine.execFwAbort h s
  | .fwAcceptDefaults h addr len => Sys2Proof.Machine.execFwAcceptDefaults h addr len s
  | .fwRevert h => Sys2Proof.Machine.execFwRevert h s
  | .runLock h lease => Sys2Proof.Machine.execRunLock h lease s
  | .runUnlock h force => Sys2Proof.Machine.execRunUnlock h force s
  | .runLockExpiry p => Sys2Proof.Machine.execRunLockExpiry p s
  | .fwArmedActivation => Sys2Proof.Machine.execFwArmedActivation s
  | .fwTrialCheck pass => Sys2Proof.Machine.execFwTrialCheck pass s
  | .crashClear => Sys2Proof.Machine.execCrashClear s
  | .flashProgramDone ok => Sys2Proof.Machine.execFlashProgramDone ok s
  | .fwReadbackDone ok => Sys2Proof.Machine.execFwReadbackDone ok s
  | .powerWarn => Sys2Proof.Machine.execPowerWarn s
  | .powerWarnClear => Sys2Proof.Machine.execPowerWarnClear s
  | .holdupLost => Sys2Proof.Machine.execHoldupLost s
  | .holdupGood => Sys2Proof.Machine.execHoldupGood s
  | .thermalSample temps => Sys2Proof.Machine.execThermalSample temps s
  | .railSample mv => Sys2Proof.Machine.execRailSample mv s
  | .pwrStatus h => Sys2Proof.Machine.execPwrStatus h s
  | .thermSet h die thresh => Sys2Proof.Machine.execThermSet h die thresh s

end Sys2Proof.Machine
end

