-- ==== Sys2Proof/WellFormed.lean ====
section
/-! DEFINITION. Well-formed commands and events: an argument fits the size the command table gives it (R564, R572), a list has
as many members as there are things it tells about, and no member tells about one thing twice. -/

namespace Sys2Proof

/-- Every argument fits its size in bytes. -/
def small (l : List (Nat × Nat)) : Bool := l.all (fun x => decide (x.1 < 256 ^ x.2))

/-- A line of a channel, a memory or a stream: 64-byte lines of a 48-bit address space. -/
def lineOk (line : Nat) : Bool := decide (line < 2 ^ 42)

/-- A test's own arguments, kept as 64-bit fields of one number, each within its size. -/
def testArgsSized (test args : Nat) : Bool :=
  let sz := Machine.testSizes test
  decide (args < 2 ^ (64 * sz.length)) &&
    (List.range sz.length).all (fun i => decide (args / 2 ^ (64 * i) % 2 ^ 64 < 256 ^ sz.getD i 0))

/-- A Service Port frame: a header of up to 17 bytes, up to 4,096 of payload and a CRC-32 (R619). -/
def frameLenOk (f : List (BitVec 8)) : Bool := decide (f.length ≤ 17 + 4096 + 4)

/-- The settings of a fabric PLL within the limits of R81, the highest output frequency being that of speed grade 3. -/
def fpllOk (p : FpllSet) : Bool :=
  decide (2 ≤ p.d) && decide (p.d ≤ 50) && decide (4 ≤ p.m) && decide (p.m ≤ 200) && decide (2 * p.d ≤ p.m) && decide (p.m ≤ 4 * p.d) &&
    decide (p.o.length ≤ 8) && p.phase.length == p.o.length &&
    p.o.all (fun o => decide (2 ≤ o) && decide (o ≤ 256) && decide (p.m ≤ p.d * o) && decide (p.d * o ≤ 128 * p.m)) &&
    (p.o.zip p.phase).all (fun x => decide (x.2 < 8 * x.1))

/-- The ratios of a pin's serialiser and deserialiser (R267): 1, 2, 4 or 8, on an HV pin 1 or 2. -/
def pinSetOk (p : PinSet) : Bool :=
  [p.io.ser, p.io.des].all (fun r => if p.pin.val < 288 then r == 1 || r == 2 || r == 4 || r == 8 else r == 1 || r == 2)

/-- A bank's class and reference code (R252, R254): an HV bank has no reference. -/
def bankSetOk (x : Fin 8 × BitVec 3 × BitVec 7) : Bool :=
  if x.1.val < 6 then decide (x.2.1.toNat ≤ 5) && decide (x.2.2.toNat ≤ 90) else decide (x.2.1.toNat ≤ 3) && x.2.2 == 0

/-- The settings of dies: each die once, and on a die each PLL, network, pin, bank and access point once. -/
def settingsOk (ds : List DieSettings) : Bool :=
  decide (ds.map (·.die)).Nodup &&
    ds.all (fun d => decide (d.fplls.map (·.pll)).Nodup && decide (d.nets.map Prod.fst).Nodup && decide (d.pins.map (·.pin)).Nodup &&
      decide (d.banks.map Prod.fst).Nodup && decide (d.aps.map (·.ap)).Nodup && d.fplls.all fpllOk && d.pins.all pinSetOk && d.banks.all bankSetOk)

/-- What an SPD may say: devices of 4 to 32 bits, and 1 to 8 ranks. -/
def dimmOk (m : Dimm) : Bool :=
  [4, 8, 16, 32].contains m.devWidth && decide (1 ≤ m.ranks) && decide (m.ranks ≤ 8)

/-- The command or event is one that the block can be given. -/
def Instr.wf (i : Instr) : Bool :=
  match i with
  | .porstNAssert _ _ => true
  | .porstNRelease => true
  | .stage1Enter faults => decide faults.Nodup
  | .stage2Enter => true
  | .stage3Enter _ => true
  | .bootPlateLoad => true
  | .dieReset _ die => small [(die, 1)]
  | .dieResetTakeEffect _ => true
  | .dieResetRelease _ faults => decide faults.Nodup
  | .siteReset _ site => small [(site, 1)]
  | .siteResetRelease _ => true
  | .vccauxLoss => true
  | .ringLockAcquired => true
  | .ringLockLost => true
  | .ringWindow _ _ => true
  | .ringWindowStart => true
  | .ringCensus _ _ => true
  | .ringStartPacket _ _ => true
  | .ringTriggerPacket _ _ _ => true
  | .ringAbortPacket _ => true
  | .ringPacketForward _ => true
  | .ringJoinTimeout => true
  | .ringJoin _ => true
  | .ringLeave _ => true
  | .alignmentMarker => true
  | .devTimeWrap => true
  | .primaryRingLost => true
  | .refclkLost => true
  | .referenceRestored _ => true
  | .referenceSlewDone => true
  | .rootPllUnlock => true
  | .fpllUnlock _ _ => true
  | .fpllRelock _ _ => true
  | .seamMarginLoss _ _ _ _ => true
  | .seamParityFail _ _ _ => true
  | .configUpset _ _ bits => decide bits.Nodup && !bits.isEmpty
  | .ramPortAccess _ _ _ _ _ _ _ => true
  | .tankQueueWrite _ _ _ _ => true
  | .tankQueueRead _ _ _ _ _ => true
  | .userRamScrubRead _ _ _ _ => true
  | .userRamScrubWriteback _ _ => true
  | .scrubStarved _ _ => true
  | .engineStart _ => true
  | .engineHalt _ => true
  | .engineHaltRelease _ => true
  | .engineReset _ _ => true
  | .engineFifoWrite _ _ _ => true
  | .engineOqRead _ => true
  | .engineNop _ => true
  | .engineMac _ _ _ => true
  | .engineNmac _ _ _ => true
  | .engineNorm _ => true
  | .engineAgset _ => true
  | .engineSet _ _ _ => true
  | .engineRep _ => true
  | .engineLoop _ => true
  | .engineJmp _ => true
  | .engineWait _ => true
  | .engineSig _ => true
  | .engineStop _ => true
  | .engineStopDrained _ => true
  | .engineGpiChange _ _ _ => true
  | .plateLoad _ source freezeFirst retain target region policy addr len => small [(source, 1), (freezeFirst, 1), (retain, 1), (target, 2), (region, 1), (policy, 4), (addr, 8), (len, 8)]
  | .plateRelocate _ region target => small [(region, 1), (target, 2)]
  | .regionFreeze _ region => small [(region, 1)]
  | .regionRelease _ _ => true
  | .regionReset _ region => small [(region, 1)]
  | .regionClear _ region => small [(region, 1)]
  | .plateSpares _ _ => true
  | .plateUnretain _ region => small [(region, 1)]
  | .plateStatus _ region => small [(region, 1)]
  | .frameRecordWrite _ _ => true
  | .loadStreamDone _ dies routes => settingsOk dies && decide (routes.map (·.link)).Nodup
  | .loadVerifyDone _ faults => decide faults.Nodup
  | .freezeDrainEnd _ => true
  | .relocateCutover _ => true
  | .linkReroute _ _ => true
  | .configScrubFrame _ => true
  | .mbeReload _ => true
  | .autoRelocate _ _ => true
  | .shutter _ addr => small [(addr, 8)]
  | .shutterResume _ => true
  | .shutterCancel _ => true
  | .shutterStatus _ => true
  | .shutterTriggerLine _ => true
  | .shutterCapture => true
  | .shutterNoEdgeTimeout => true
  | .contactRecordWrite => true
  | .shutterReadoutDone => true
  | .vccoFaultEnter _ _ _ => true
  | .vccoFaultExit _ _ _ => true
  | .ioCalibration _ _ => true
  | .ioPinWrite _ _ _ _ _ => true
  | .delayFabricStep _ _ _ _ => true
  | .termEnChange _ _ _ => true
  | .vccoLevelChange _ _ _ => true
  | .delayLineTapMove _ _ => true
  | .tppLoad _ tpp addr first count => small [(tpp, 1), (addr, 8), (first, 2), (count, 2)]
  | .tppRun _ tpp addr => small [(tpp, 1), (addr, 8)]
  | .tppAbort _ mask => small [(mask, 4)]
  | .tppStatus _ tpp => small [(tpp, 1)]
  | .tppCalibrate _ mask => small [(mask, 4)]
  | .tppSite _ tpp enables => small [(tpp, 1), (enables, 1)]
  | .tppCalDone _ cals _ => cals.length == 48
  | .tppStreamReady _ => true
  | .tppStartInstant _ => true
  | .startFEdge _ => true
  | .abortFEdge _ => true
  | .trigFEdge _ _ => true
  | .siteOffChange _ _ => true
  | .seqNext _ _ => true
  | .seqRepeat _ _ => true
  | .seqLoop _ _ => true
  | .seqJump _ _ => true
  | .seqCall _ _ => true
  | .seqRet _ _ => true
  | .seqJof _ _ => true
  | .seqMatch _ _ hits _ => decide (hits.map Prod.fst).Nodup && hits.all (fun x => 1 ≤ x.2)
  | .seqApgStep _ _ => true
  | .seqStream _ _ => true
  | .seqStreamVector _ => true
  | .seqWaitTrig _ _ => true
  | .seqStop _ _ => true
  | .streamRefillRead _ => true
  | .streamReadResponse _ line _ _ => lineOk line
  | .tppDrainEnd _ => true
  | .tppDrainTimeout _ => true
  | .compareResult _ _ volts => decide (volts.map Prod.fst).Nodup
  | .failRecordSend _ => true
  | .bitmapLineEvict _ line => lineOk line
  | .bitmapAorResponse _ line _ => lineOk line
  | .cntClear _ => true
  | .laneUp _ die mask group spares => small [(die, 1), (mask, 4), (group, 1), (spares, 1)]
  | .laneDown _ die mask => small [(die, 1), (mask, 4)]
  | .laneQuiesce _ die mask => small [(die, 1), (mask, 4)]
  | .laneResume _ die mask => small [(die, 1), (mask, 4)]
  | .laneLoopback _ lane kind squelch => small [(lane, 1), (kind, 1), (squelch, 1)]
  | .lanePrbs _ lane poly gen chk inv => small [(lane, 1), (poly, 1), (gen, 1), (chk, 1), (inv, 1)]
  | .laneEyescan _ lane hStart hLen hStep vStart vLen vStep dwell addr => small [(lane, 1), (hStart, 1), (hLen, 1), (hStep, 1), (vStart, 1), (vLen, 1), (vStep, 1), (dwell, 1), (addr, 8)]
  | .laneStatus _ lane => small [(lane, 1)]
  | .laneUpTimeout _ _ => true
  | .laneTxBlock _ _ _ => true
  | .laneRxBlock _ _ _ _ => true
  | .rxSlip _ => true
  | .blockLockGained _ => true
  | .blockLockLost _ => true
  | .lnbCaps _ _ _ _ => true
  | .lnbStepReq _ _ => true
  | .lnbStepAck _ _ => true
  | .laneRateSwitch _ => true
  | .lnbCoeff _ _ _ _ => true
  | .lnbCoeffAck _ => true
  | .lnbSteerReq _ _ _ => true
  | .lnbSteerAck _ _ => true
  | .lnbSteerDone _ _ => true
  | .groupMarker _ _ _ _ => true
  | .laneEqEnd _ _ _ _ => true
  | .laneCheckEnd _ _ => true
  | .laneLockTimeout _ => true
  | .laneBaseRetry _ => true
  | .laneRetrain _ => true
  | .laneDegrading _ _ _ => true
  | .eyescanDone _ counts => counts.all (fun x => decide (x < 2 ^ 40))
  | .laneSnap _ => true
  | .bmkSend _ _ => true
  | .lnbRepeat _ => true
  | .dramTrain _ ch rate => small [(ch, 1), (rate, 1)]
  | .dramStatus _ ch => small [(ch, 1)]
  | .dramQuiesce _ ch => small [(ch, 1)]
  | .dramResume _ ch => small [(ch, 1)]
  | .dramOffline _ ch => small [(ch, 1)]
  | .dramOnline _ ch => small [(ch, 1)]
  | .dramSelftest _ ch off len kind => small [(ch, 1), (off, 8), (len, 8), (kind, 1)]
  | .dramBracket _ ch _ => small [(ch, 1)]
  | .dramRecover _ ch => small [(ch, 1)]
  | .dramTrainDone _ dimm _ _ _ => match dimm with
      | some m => dimmOk m
      | none => true
  | .bracketGo _ => true
  | .bracketDone _ results => results.length == 40 || results.length == 72
  | .dramLineRead _ _ line _ _ => lineOk line
  | .dramLineWrite _ _ line _ _ => lineOk line
  | .dramLockedPair _ _ line _ _ => lineOk line
  | .dramBurstComplete _ _ errs => decide errs.Nodup
  | .dramWriteStarve _ => true
  | .dramRefreshDue _ _ _ => true
  | .dramRefreshRateRead _ _ => true
  | .actTableClear _ _ _ _ _ => true
  | .dramAlert _ _ => true
  | .dramAlertRelease _ _ => true
  | .dramReplayWindowEnd _ _ => true
  | .dramPatrolRead _ errs _ => decide errs.Nodup
  | .dramInitBlock _ => true
  | .dramZqCal _ _ => true
  | .dramDriftTrack _ _ moves => decide (moves.map Prod.fst).Nodup
  | .dramDrainDone _ => true
  | .dramSchedulerSlot _ _ => true
  | .vddqDcRemoved _ => true
  | .lsuKeyLoad _ slot ref => small [(slot, 1), (ref, 1)]
  | .lsuKeyClear _ slot => small [(slot, 1)]
  | .lsuRegionSet _ region base limit valid => small [(region, 1), (base, 8), (limit, 8), (valid, 1)]
  | .lsuRekey _ region slot tagEn => small [(region, 1), (slot, 1), (tagEn, 1)]
  | .lsuStatus _ region => small [(region, 1)]
  | .lsuReadCheck _ _ => true
  | .sweepLineConvert _ => true
  | .sweepReadReturn _ => true
  | .sweepComplete _ => true
  | .nocRequestIssue _ _ kind _ len _ _ data => data.length == (if kind == 0 then 0 else len.val + 1)
  | .routerFlit _ _ _ _ => true
  | .nocCreditReturn _ _ _ => true
  | .nocResponseArrive _ _ _ flits _ => decide (flits.length ≤ 64)
  | .apTargetRequest _ _ _ _ kind _ len data => data.length == (if kind == 0 then 0 else len.val + 1)
  | .apTargetResponse _ _ _ _ data => decide (data.length ≤ 4096)
  | .nocFence _ _ => true
  | .fenceMark _ _ => true
  | .fenceAck _ _ => true
  | .targetTimeout _ => true
  | .rerouteStart _ spared halved sites => decide spared.Nodup && decide halved.Nodup && decide sites.Nodup
  | .rerouteTablesConfirmed => true
  | .routerTableRetire _ => true
  | .rerouteSlow => true
  | .domainDrainEnd _ => true
  | .domainOpened _ => true
  | .nocGlobalFence _ => true
  | .nocStatus _ die isPort number => small [(die, 1), (isPort, 1), (number, 1)]
  | .nocIsolate _ port => small [(port, 2)]
  | .nocRelease _ port => small [(port, 2)]
  | .nocDomainOff _ domain => small [(domain, 1)]
  | .nocDomainOn _ domain => small [(domain, 1)]
  | .sitePortMoveConfirm _ => true
  | .dlStatus _ module => small [(module, 1)]
  | .dlRetrain _ module => small [(module, 1)]
  | .dlDown _ module => small [(module, 1)]
  | .dlUp _ module => small [(module, 1)]
  | .dlClearDegrade _ module => small [(module, 1)]
  | .seamSteer _ die group wire => small [(die, 1), (group, 2), (wire, 1)]
  | .discoverySend _ _ => true
  | .discoveryRecord _ _ _ => true
  | .discoverTimeout _ _ => true
  | .parameterExchangeDone _ _ _ _ => true
  | .retrainTimeout _ _ => true
  | .fregalFlitReceive _ _ _ => true
  | .fregalNak _ _ _ => true
  | .replayTimeout _ _ => true
  | .carryReq _ _ _ => true
  | .carryAck _ _ _ _ _ => true
  | .carryResume _ _ _ => true
  | .dlLaneMargin _ _ _ => true
  | .dlClockLoss _ _ => true
  | .dlTrainTimeout _ _ => true
  | .dlRxLockLoss _ _ => true
  | .qeGroupAssign _ group owner => small [(group, 2), (owner, 1)]
  | .qeQueueCreate _ queue base log2 dir esize vector cls irqEn pin pushSrc wbAddr delivAddr window => small [(queue, 4), (base, 8), (log2, 1), (dir, 1), (esize, 1), (vector, 2), (cls, 1), (irqEn, 1), (pin, 1), (pushSrc, 2), (wbAddr, 8),
      (delivAddr, 8), (window, 2)] &&
      (if dir == 1 then pushSrc == 0 else wbAddr == 0 && delivAddr == 0 && window == 0)
  | .qeQueueDestroy _ queue => small [(queue, 4)]
  | .qeQueueReset _ queue => small [(queue, 4)]
  | .qeQueueStatus _ queue => small [(queue, 4)]
  | .qeVectorSet _ vector cls thresh timer target mask => small [(vector, 2), (cls, 1), (thresh, 1), (timer, 2), (target, 1), (mask, 1)]
  | .qeStatus _ => true
  | .qeCompletionDoorbell _ _ _ => true
  | .qeSubmissionDoorbell _ _ _ => true
  | .qePush _ _ _ _ => true
  | .qeCreditReturn _ _ _ => true
  | .qeRingWriteResponse _ _ => true
  | .qeContextFill _ => true
  | .qeContextWriteback _ _ => true
  | .qeContextRetry _ => true
  | .qeSubmissionFetch _ => true
  | .qeFetchResponse _ _ => true
  | .qeHeadWriteback _ => true
  | .qeVectorTimer _ => true
  | .qeVectorFire _ => true
  | .qeSleepReq => true
  | .qeSleepEntered => true
  | .qeAwake => true
  | .eicSourceEdge _ => true
  | .eicSourceLevel _ _ _ => true
  | .eicNotify _ => true
  | .eicClaim _ => true
  | .eicComplete _ _ => true
  | .eicSourceSet _ src prio enable mode => small [(src, 2), (prio, 1), (enable, 1), (mode, 1)]
  | .eicTargetSet _ target thresh msgAddr => small [(target, 1), (thresh, 1), (msgAddr, 8)]
  | .eicStatus _ => true
  | .lockstepMismatch => true
  | .watchdogExpiry => true
  | .greoneRestartBegin => true
  | .greoneReady => true
  | .safelightFrame _ => true
  | .safelightSegmentFail _ _ => true
  | .mbxDoorbell _ _ => true
  | .mbxRspRelease _ _ => true
  | .mbxCommandTake _ => true
  | .mbxResponseWrite _ => true
  | .devInfo _ => true
  | .devStatus _ => true
  | .mbxBarrier _ => true
  | .regRead _ addr size => small [(addr, 8), (size, 1)]
  | .regWrite _ addr size value => small [(addr, 8), (size, 1), (value, 8)]
  | .greoneRestart _ => true
  | .expertDrop _ level => small [(level, 1)]
  | .eventRead _ seq => small [(seq, 4)]
  | .eventQueue _ queue floor => small [(queue, 4), (floor, 1)]
  | .settingsRead _ id => small [(id, 2)]
  | .settingsWrite _ id value => small [(id, 2), (value, 8)]
  | .settingsCommit _ reqAddr reqLen => small [(reqAddr, 8), (reqLen, 8)]
  | .testRun _ test target args => small [(test, 1), (target, 2)] && testArgsSized test args
  | .testSchedule _ test quiet target time args => small [(test, 1), (quiet, 1), (target, 2), (time, 8)] && testArgsSized test args
  | .testCancel _ slot => small [(slot, 1)]
  | .testStatus _ slot => small [(slot, 1)]
  | .testQuietPoint _ => true
  | .selfTestComplete _ _ _ offsets => offsets.all (fun x => decide (x < 2 ^ 64))
  | .v1Info _ => true
  | .v1Status _ => true
  | .v1Barrier _ => true
  | .cfgLoad _ arg0 arg1 arg2 => small [(arg0, 2), (arg1, 4), (arg2, 8)]
  | .cfgStatus _ arg0 => small [(arg0, 2)]
  | .memTrain _ arg0 => small [(arg0, 2)]
  | .memStatus _ arg0 => small [(arg0, 2)]
  | .linkUp _ arg0 arg1 => small [(arg0, 2), (arg1, 4)]
  | .linkDown _ arg0 arg1 => small [(arg0, 2), (arg1, 4)]
  | .regRd _ arg2 => small [(arg2, 8)]
  | .regWr _ arg1 arg2 => small [(arg1, 4), (arg2, 8)]
  | .counterClearWrite _ _ _ => true
  | .registerWrite _ _ _ => true
  | .eventFrame => true
  | .eventLogWrite => true
  | .secStatus _ => true
  | .secNonce _ => true
  | .secIdCert _ which addr len => small [(which, 1), (addr, 8), (len, 8)]
  | .secQuote _ addr len _ => small [(addr, 8), (len, 8)]
  | .quoteSigned => true
  | .secOwnerKeyPut _ slot addr => small [(slot, 1), (addr, 8)]
  | .secOwnerProgram _ addr len => small [(addr, 8), (len, 8)]
  | .secOwnerRevoke _ addr len => small [(addr, 8), (len, 8)]
  | .secFuseLock _ addr len => small [(addr, 8), (len, 8)]
  | .secSvnAdvance _ addr len => small [(addr, 8), (len, 8)]
  | .secSealKeySet _ addr len => small [(addr, 8), (len, 8)]
  | .secPolicySet _ addr len => small [(addr, 8), (len, 8)]
  | .fuseProgramDone _ _ => true
  | .nonceExpiry _ => true
  | .jtagTapInstruction _ => true
  | .bootImageChoice => true
  | .svcWrite frame => frameLenOk frame
  | .svcRead frame => frameLenOk frame
  | .svcImage frame => frameLenOk frame
  | .svcPing frame => frameLenOk frame
  | .fwStatus _ => true
  | .fwBegin _ len => small [(len, 4)]
  | .fwEraseDone _ => true
  | .fwEnd _ _ => true
  | .fwVerify _ => true
  | .fwActivate _ whenPermitted => small [(whenPermitted, 1)]
  | .fwAbort _ => true
  | .fwAcceptDefaults _ addr len => small [(addr, 8), (len, 8)]
  | .fwRevert _ => true
  | .runLock _ lease => small [(lease, 4)]
  | .runUnlock _ force => small [(force, 1)]
  | .runLockExpiry _ => true
  | .fwArmedActivation => true
  | .fwTrialCheck _ => true
  | .crashClear => true
  | .flashProgramDone _ => true
  | .fwReadbackDone _ => true
  | .powerWarn => true
  | .powerWarnClear => true
  | .holdupLost => true
  | .holdupGood => true
  | .thermalSample temps => temps.length == 5
  | .railSample mv => mv.length == 13 && mv.all (fun x => decide (x < 65536))
  | .pwrStatus _ => true
  | .thermSet _ die thresh => small [(die, 1), (thresh, 1)]

end Sys2Proof
end

