-- ==== Sys2Proof/Safety.lean ====
section
/-! DEFINITION. The terms statements use: a running block, a command that its port may send, a state whose block an effect has
changed, and the canonical form of the registers. -/

namespace Sys2Proof.Machine

/-- The state with the effect `f` on its block, and its queue as it is. -/
def State.on (s : State) (f : Block → Block) : State := { s with blk := f s.blk }

/-- The state with another block, and its queue as it is. -/
def State.set (s : State) (b : Block) : State := { s with blk := b }

/-- The block is out of RESET (R39) and its derived clocks run (R85). -/
def Running (b : Block) : Prop := b.start.inReset = false ∧ b.clk.gated = false

/-- The derived clocks of fabric die d run (R47, R79). -/
def RunsOn (b : Block) (d : Nat) : Prop := Running b ∧ dieOff b d = false

/-- A command of the header's port is taken now and passes the checks that come before its own: its port accepts it and has its
level, and the stage is reached (R41, R562, R566, R567, R605). -/
def Admitted (b : Block) (h : Hdr) (n : Need) : Prop :=
  b.start.inReset = false ∧ canTake b h.port false = true ∧ n.ports.contains h.port = true ∧
  (h.port = .jtag → jtagAllows b n.op = true) ∧ (n.expert = true → portLevel b h.port ≠ 0) ∧ stageOk b n.stage = true

/-- The same of a v1 command, at a port whose protocol is v1 (R573). -/
def AdmittedV1 (b : Block) (h : Hdr) (n : Need) : Prop :=
  b.start.inReset = false ∧ canTake b h.port true = true ∧ n.ports.contains h.port = true ∧
  (h.port = .jtag → jtagAllows b n.op = true) ∧ (n.expert = true → portLevel b h.port ≠ 0) ∧ stageOk b n.stage = true

/-- The v1 command of a header: its own opcode, and 8 bits of TAG (R574). -/
def cmdOfV1 (h : Hdr) (op1 : Nat) : Cmd :=
  { port := h.port, tag := BitVec.ofNat 16 (h.tag.toNat % 256), op := BitVec.ofNat 16 op1, v1 := true }

/-- Engine e has acted on the levels of its HALT and START lines (R176, R177). -/
def engReady (e : Nat) (b : Block) : Block := setEng b e (engSettle (getEng b e))

/-- Engine e runs, its lines acted on, and stands at the legal instruction word w, whose opcode is op (R175, R182, R183). -/
def EngineAt (b : Block) (e op w : Nat) : Prop :=
  engUp b e = true ∧ (engSettle (getEng b e)).mode = .running ∧ engWord (engReady e b) e = w ∧ ifld w 63 60 = op ∧
  legalHere (engSettle (getEng b e)) w = true

/-- The block when DEV_TIME has reached the boundary at which the word w of TPP n begins, its EVT pulsed (R277, R280). -/
def seqBegin (n w : Nat) (b : Block) : Block :=
  when (wordEvt w) (fun b => b.emit (.tppEvt n)) (reachTime (BitVec.ofNat 64 ((getTpp b n).time / 1000)) b)

/-- TPP n runs, streams nothing, and stands at the legal word w, whose opcode is op, with nothing that ends the run at this boundary
(R279, R281, R285, R305). -/
def SeqAt (b : Block) (n op w : Nat) : Prop :=
  applying b n = true ∧ (getTpp b n).streaming = none ∧ (getTpp b n).waited = 0 ∧ stopNow (getTpp b n) = none ∧
  wordFault (reachTime (BitVec.ofNat 64 ((getTpp b n).time / 1000)) b) n false = none ∧
  (spGet (fun _ => 0) (getTpp b n).cache (getTpp b n).word).toNat = w ∧ wordOp w = op

/-! ### Canonical form of memories and registers -/

/-- Keys rise strictly. -/
def spSorted {α : Type} (m : Sp α) : Bool := decide ((spKeys m).Pairwise (· < ·))

/-- The block's registers and memories are in canonical form: keys strictly rising in each table, and no register, fabric RAM, RAM word,
engine, TPP, lane, channel or flash byte listed at what an unlisted one reads as. A DRAM line that was never written reads as what its channel
says, which changes; its lines are in rising order. -/
def BlockWf (b : Block) : Bool :=
  spWf regDefault b.regs && spWf (fun _ => Ram.cleared) b.rams && b.rams.all (fun x => spWf (fun _ => (0 : BitVec 72)) x.2.words) &&
    spWf (fun _ => false) b.once && spWf (fun _ => Engine.cleared) b.engines && spWf (fun _ => Tpp.reset) b.tpps &&
    spWf (fun _ => LaneSt.reset) b.lanes && spWf (fun _ => DcSt.reset) b.dcs && b.dcs.all (fun x => spSorted x.2.lines) &&
    spWf flashErased b.nv.flash

/-! ### The parts of the block -/

/-- The parts of the block's state, each a field of Block. -/
inductive Part where
  | out | free | devTime | regs | start | ring | clk | seam | rams | once
  | engines | cfg | shut | io | tpps | lanes | dcs | dmap | lsu | net
  | dl | qe | eic | mbx | ev | gr | sec | fwu | nv | pwr
  | tap | fab
deriving DecidableEq, Repr

/-- The number of a part. -/
def Part.idx : Part → Nat
  | .out => 0
  | .free => 1
  | .devTime => 2
  | .regs => 3
  | .start => 4
  | .ring => 5
  | .clk => 6
  | .seam => 7
  | .rams => 8
  | .once => 9
  | .engines => 10
  | .cfg => 11
  | .shut => 12
  | .io => 13
  | .tpps => 14
  | .lanes => 15
  | .dcs => 16
  | .dmap => 17
  | .lsu => 18
  | .net => 19
  | .dl => 20
  | .qe => 21
  | .eic => 22
  | .mbx => 23
  | .ev => 24
  | .gr => 25
  | .sec => 26
  | .fwu => 27
  | .nv => 28
  | .pwr => 29
  | .tap => 30
  | .fab => 31

/-- A part is the same in two blocks. -/
def Part.Same (p : Part) (s t : Block) : Prop :=
  match p with
  | .out => t.out = s.out
  | .free => t.free = s.free
  | .devTime => t.devTime = s.devTime
  | .regs => t.regs = s.regs
  | .start => t.start = s.start
  | .ring => t.ring = s.ring
  | .clk => t.clk = s.clk
  | .seam => t.seam = s.seam
  | .rams => t.rams = s.rams
  | .once => t.once = s.once
  | .engines => t.engines = s.engines
  | .cfg => t.cfg = s.cfg
  | .shut => t.shut = s.shut
  | .io => t.io = s.io
  | .tpps => t.tpps = s.tpps
  | .lanes => t.lanes = s.lanes
  | .dcs => t.dcs = s.dcs
  | .dmap => t.dmap = s.dmap
  | .lsu => t.lsu = s.lsu
  | .net => t.net = s.net
  | .dl => t.dl = s.dl
  | .qe => t.qe = s.qe
  | .eic => t.eic = s.eic
  | .mbx => t.mbx = s.mbx
  | .ev => t.ev = s.ev
  | .gr => t.gr = s.gr
  | .sec => t.sec = s.sec
  | .fwu => t.fwu = s.fwu
  | .nv => t.nv = s.nv
  | .pwr => t.pwr = s.pwr
  | .tap => t.tap = s.tap
  | .fab => t.fab = s.fab

end Sys2Proof.Machine
end

