-- ==== Sys2Proof/Machine/Frames.lean ====
section
/-! DEFINITION. What is said of every command at once: the parts of the block it may change, when it acts, and what a mailbox command
asks of its port and of the stage. The meanings do not read these tables; statements and their proofs do. -/

namespace Sys2Proof.Machine

/-- The parts of the block that a command may change; it leaves every other part as it was. -/
def partsOf : Instr → List Part
  | .porstNAssert .. => [.out, .free, .devTime, .regs, .start, .ring, .clk, .seam, .rams, .once, .engines, .cfg, .shut, .io, .tpps, .lanes, .dcs, .dmap, .lsu, .net, .dl, .qe, .eic, .mbx, .ev, .gr, .sec, .fwu, .nv, .pwr, .tap, .fab]
  | .porstNRelease => [.out, .free, .regs, .start, .ring, .net, .gr, .sec]
  | .stage1Enter .. => [.regs, .start, .seam, .io, .mbx, .ev, .gr, .sec, .fwu, .nv]
  | .stage2Enter => [.out, .regs, .start, .ring, .net, .dl]
  | .stage3Enter .. => [.out, .free, .regs, .start, .lanes, .dcs, .dmap, .net, .mbx, .ev, .fwu]
  | .bootPlateLoad => [.out, .free, .regs, .seam, .rams, .once, .engines, .cfg, .shut, .io, .net, .eic, .mbx, .ev, .fwu, .fab]
  | .dieReset .. => [.out, .free, .regs, .seam, .rams, .once, .engines, .cfg, .shut, .io, .lanes, .dcs, .net, .eic, .mbx, .ev, .gr, .fwu, .fab]
  | .dieResetTakeEffect .. => [.out, .free, .regs, .start, .clk, .seam, .rams, .once, .engines, .cfg, .shut, .io, .tpps, .lanes, .dcs, .lsu, .net, .dl, .eic, .mbx, .ev, .fwu, .fab]
  | .dieResetRelease .. => [.regs, .start, .seam, .cfg, .net, .dl, .mbx, .ev]
  | .siteReset .. => [.out, .regs, .start, .net, .qe, .mbx, .fwu]
  | .siteResetRelease .. => [.out, .regs, .start, .dl]
  | .vccauxLoss => [.regs, .ring]
  | .ringLockAcquired => [.regs, .clk]
  | .ringLockLost => [.out, .regs, .ring, .clk, .ev]
  | .ringWindow .. => [.out, .ring]
  | .ringWindowStart => [.out, .regs, .ring, .clk, .mbx, .ev]
  | .ringCensus .. => [.out, .regs, .ring, .mbx]
  | .ringStartPacket .. => [.out, .free, .regs, .io, .tpps, .mbx]
  | .ringTriggerPacket .. => [.out, .regs, .tpps, .ev]
  | .ringAbortPacket .. => [.out, .free, .regs, .io, .tpps, .mbx]
  | .ringPacketForward .. => [.out, .regs, .ev]
  | .ringJoinTimeout => [.regs, .ring, .mbx, .ev]
  | .ringJoin .. => [.regs, .ring, .mbx]
  | .ringLeave .. => [.regs, .mbx]
  | .alignmentMarker => [.out, .free, .devTime, .regs, .start, .seam, .rams, .once, .engines, .cfg, .shut, .io, .tpps, .dcs, .lsu, .net, .dl, .eic, .mbx, .ev, .sec, .fwu, .fab]
  | .devTimeWrap => [.devTime, .regs]
  | .primaryRingLost => [.regs, .clk, .ev]
  | .refclkLost => [.regs, .clk, .ev]
  | .referenceRestored .. => [.regs, .clk]
  | .referenceSlewDone => [.regs]
  | .rootPllUnlock => [.free, .regs, .ring, .clk, .io, .tpps, .lanes, .mbx, .ev]
  | .fpllUnlock .. => [.regs, .clk, .ev]
  | .fpllRelock .. => [.regs, .clk]
  | .seamMarginLoss .. => [.regs, .seam, .mbx, .ev]
  | .seamParityFail .. => [.regs, .seam, .mbx, .ev]
  | .configUpset .. => [.cfg]
  | .ramPortAccess .. => [.free, .regs, .rams, .once, .ev]
  | .tankQueueWrite .. => [.free, .regs, .rams, .once, .ev]
  | .tankQueueRead .. => [.free, .regs, .rams, .once, .ev]
  | .userRamScrubRead .. => [.free, .regs, .rams, .once, .ev]
  | .userRamScrubWriteback .. => [.rams]
  | .scrubStarved .. => [.regs, .once, .ev]
  | .engineStart .. => [.engines]
  | .engineHalt .. => [.engines]
  | .engineHaltRelease .. => [.engines]
  | .engineReset .. => [.engines]
  | .engineFifoWrite .. => [.engines]
  | .engineOqRead .. => [.engines]
  | .engineNop .. => [.regs, .once, .engines, .ev]
  | .engineMac .. => [.free, .regs, .once, .engines, .ev]
  | .engineNmac .. => [.free, .regs, .once, .engines, .ev]
  | .engineNorm .. => [.regs, .once, .engines, .ev]
  | .engineAgset .. => [.regs, .once, .engines, .ev]
  | .engineSet .. => [.free, .regs, .once, .engines, .ev]
  | .engineRep .. => [.regs, .once, .engines, .ev]
  | .engineLoop .. => [.regs, .once, .engines, .ev]
  | .engineJmp .. => [.regs, .once, .engines, .ev]
  | .engineWait .. => [.regs, .once, .engines, .ev]
  | .engineSig .. => [.out, .regs, .once, .engines, .ev]
  | .engineStop .. => [.regs, .once, .engines, .ev]
  | .engineStopDrained .. => [.out, .engines]
  | .engineGpiChange .. => [.engines]
  | .plateLoad .. => [.out, .free, .regs, .seam, .rams, .once, .engines, .cfg, .shut, .io, .net, .eic, .mbx, .ev, .fwu, .fab]
  | .plateRelocate .. => [.out, .free, .regs, .seam, .rams, .once, .engines, .cfg, .shut, .io, .net, .eic, .mbx, .ev, .fwu, .fab]
  | .regionFreeze .. => [.regs, .cfg, .net, .mbx]
  | .regionRelease .. => [.cfg, .mbx]
  | .regionReset .. => [.cfg, .mbx]
  | .regionClear .. => [.out, .free, .regs, .seam, .rams, .once, .engines, .cfg, .shut, .io, .net, .eic, .mbx, .ev, .fwu, .fab]
  | .plateSpares .. => [.regs, .mbx]
  | .plateUnretain .. => [.cfg, .mbx]
  | .plateStatus .. => [.mbx]
  | .frameRecordWrite .. => [.out, .free, .regs, .seam, .rams, .once, .engines, .cfg, .shut, .io, .net, .eic, .mbx, .ev, .fwu, .fab]
  | .loadStreamDone .. => [.out, .free, .regs, .seam, .rams, .once, .engines, .cfg, .shut, .io, .tpps, .net, .eic, .mbx, .ev, .fwu, .fab]
  | .loadVerifyDone .. => [.out, .free, .regs, .seam, .rams, .once, .engines, .cfg, .shut, .io, .net, .eic, .mbx, .ev, .fwu, .fab]
  | .freezeDrainEnd .. => [.cfg]
  | .relocateCutover .. => [.regs, .cfg, .net]
  | .linkReroute .. => [.regs, .seam, .cfg, .mbx, .ev]
  | .configScrubFrame .. => [.regs, .cfg, .net, .ev]
  | .mbeReload .. => [.free, .regs, .cfg, .ev]
  | .autoRelocate .. => [.out, .free, .regs, .seam, .rams, .once, .engines, .cfg, .shut, .io, .net, .eic, .mbx, .ev, .fwu, .fab]
  | .shutter .. => [.free, .regs, .shut, .mbx, .ev]
  | .shutterResume .. => [.shut, .mbx]
  | .shutterCancel .. => [.shut, .mbx]
  | .shutterStatus .. => [.mbx]
  | .shutterTriggerLine .. => [.shut]
  | .shutterCapture => [.out, .free, .devTime, .regs, .shut, .dcs, .ev, .fab]
  | .shutterNoEdgeTimeout => [.out, .free, .devTime, .regs, .shut, .dcs, .ev, .fab]
  | .contactRecordWrite => [.out, .regs, .shut, .dcs, .ev]
  | .shutterReadoutDone => [.out, .regs, .shut, .dcs, .mbx, .ev]
  | .vccoFaultEnter .. => [.free, .regs, .io, .tpps, .mbx, .ev]
  | .vccoFaultExit .. => [.regs, .io, .ev]
  | .ioCalibration .. => [.regs, .once, .ev]
  | .ioPinWrite .. => [.regs, .io]
  | .delayFabricStep .. => [.regs]
  | .termEnChange .. => [.io]
  | .vccoLevelChange .. => [.regs, .io, .ev]
  | .delayLineTapMove .. => [.regs]
  | .tppLoad .. => [.free, .regs, .tpps, .mbx, .ev]
  | .tppRun .. => [.free, .regs, .tpps, .mbx, .ev]
  | .tppAbort .. => [.free, .regs, .io, .tpps, .mbx]
  | .tppStatus .. => [.mbx]
  | .tppCalibrate .. => [.regs, .mbx]
  | .tppSite .. => [.tpps, .mbx]
  | .tppCalDone .. => [.free, .regs, .tpps, .mbx]
  | .tppStreamReady .. => [.regs, .tpps, .mbx]
  | .tppStartInstant .. => [.free, .devTime, .regs, .io, .tpps, .mbx]
  | .startFEdge .. => [.tpps]
  | .abortFEdge .. => [.free, .regs, .io, .tpps, .mbx]
  | .trigFEdge .. => [.tpps]
  | .siteOffChange .. => [.tpps]
  | .seqNext .. => [.out, .free, .devTime, .regs, .io, .tpps, .mbx]
  | .seqRepeat .. => [.out, .free, .devTime, .regs, .io, .tpps, .mbx]
  | .seqLoop .. => [.out, .free, .devTime, .regs, .io, .tpps, .mbx]
  | .seqJump .. => [.out, .free, .devTime, .regs, .io, .tpps, .mbx]
  | .seqCall .. => [.out, .free, .devTime, .regs, .io, .tpps, .mbx]
  | .seqRet .. => [.out, .free, .devTime, .regs, .io, .tpps, .mbx]
  | .seqJof .. => [.out, .free, .devTime, .regs, .io, .tpps, .mbx]
  | .seqMatch .. => [.out, .free, .devTime, .regs, .io, .tpps, .mbx, .ev]
  | .seqApgStep .. => [.out, .free, .devTime, .regs, .io, .tpps, .mbx]
  | .seqStream .. => [.out, .free, .devTime, .regs, .io, .tpps, .mbx]
  | .seqStreamVector .. => [.out, .free, .devTime, .regs, .io, .tpps, .mbx]
  | .seqWaitTrig .. => [.out, .free, .devTime, .regs, .io, .tpps, .mbx]
  | .seqStop .. => [.out, .free, .devTime, .regs, .io, .tpps, .mbx]
  | .streamRefillRead .. => [.out, .tpps]
  | .streamReadResponse .. => [.tpps]
  | .tppDrainEnd .. => [.regs, .tpps]
  | .tppDrainTimeout .. => [.devTime, .regs, .tpps, .ev]
  | .compareResult .. => [.out, .free, .regs, .tpps, .ev]
  | .failRecordSend .. => [.out, .regs, .tpps, .ev]
  | .bitmapLineEvict .. => [.out, .tpps]
  | .bitmapAorResponse .. => [.out, .free, .regs, .tpps, .dcs, .ev]
  | .cntClear .. => [.regs]
  | .laneUp .. => [.out, .free, .regs, .lanes, .mbx]
  | .laneDown .. => [.regs, .lanes, .mbx]
  | .laneQuiesce .. => [.regs, .mbx]
  | .laneResume .. => [.regs, .mbx]
  | .laneLoopback .. => [.regs, .lanes, .mbx]
  | .lanePrbs .. => [.regs, .lanes, .mbx]
  | .laneEyescan .. => [.lanes, .mbx]
  | .laneStatus .. => [.mbx]
  | .laneUpTimeout .. => [.devTime, .mbx]
  | .laneTxBlock .. => [.out, .regs, .lanes, .ev]
  | .laneRxBlock .. => [.out, .regs, .lanes, .ev]
  | .rxSlip .. => [.lanes]
  | .blockLockGained .. => [.regs, .lanes]
  | .blockLockLost .. => [.out, .regs, .lanes, .ev]
  | .lnbCaps .. => [.out, .free, .regs, .lanes, .mbx]
  | .lnbStepReq .. => [.out, .regs, .lanes]
  | .lnbStepAck .. => [.regs, .lanes]
  | .laneRateSwitch .. => [.regs, .lanes]
  | .lnbCoeff .. => [.out, .regs, .lanes]
  | .lnbCoeffAck .. => [.lanes]
  | .lnbSteerReq .. => [.lanes]
  | .lnbSteerAck .. => [.lanes]
  | .lnbSteerDone .. => [.regs, .lanes]
  | .groupMarker .. => [.out, .regs, .lanes, .ev]
  | .laneEqEnd .. => [.regs, .lanes, .mbx]
  | .laneCheckEnd .. => [.out, .free, .regs, .lanes, .mbx, .ev]
  | .laneLockTimeout .. => [.out, .free, .regs, .lanes, .mbx, .ev]
  | .laneBaseRetry .. => [.out, .devTime, .regs, .lanes, .ev]
  | .laneRetrain .. => [.out, .free, .regs, .lanes, .ev]
  | .laneDegrading .. => [.out, .regs, .lanes]
  | .eyescanDone .. => [.out, .regs, .lanes, .dcs, .mbx, .ev]
  | .laneSnap .. => [.lanes]
  | .bmkSend .. => [.out, .lanes]
  | .lnbRepeat .. => [.out, .lanes]
  | .dramTrain .. => [.out, .regs, .dcs, .net, .mbx, .ev, .fwu]
  | .dramStatus .. => [.mbx]
  | .dramQuiesce .. => [.out, .regs, .dcs, .net, .mbx, .ev, .fwu]
  | .dramResume .. => [.out, .regs, .dcs, .net, .mbx, .ev, .fwu]
  | .dramOffline .. => [.out, .regs, .dcs, .net, .mbx, .ev, .fwu]
  | .dramOnline .. => [.out, .regs, .dcs, .net, .mbx, .ev, .fwu]
  | .dramSelftest .. => [.free, .dcs, .mbx, .gr]
  | .dramBracket .. => [.regs, .mbx]
  | .dramRecover .. => [.out, .regs, .dcs, .net, .mbx, .ev, .fwu]
  | .dramTrainDone .. => [.out, .regs, .start, .dcs, .dmap, .net, .mbx, .ev, .fwu]
  | .bracketGo .. => [.regs]
  | .bracketDone .. => [.regs, .mbx]
  | .dramLineRead .. => [.out, .dcs]
  | .dramLineWrite .. => [.out, .regs, .dcs, .ev]
  | .dramLockedPair .. => [.out, .regs, .dcs]
  | .dramBurstComplete .. => [.free, .regs, .once, .dcs, .ev]
  | .dramWriteStarve .. => [.devTime, .regs, .dcs, .ev]
  | .dramRefreshDue .. => [.dcs]
  | .dramRefreshRateRead .. => [.regs, .dcs, .ev]
  | .actTableClear .. => [.dcs]
  | .dramAlert .. => [.out, .regs, .dcs, .net, .mbx, .ev, .fwu]
  | .dramAlertRelease .. => [.out, .dcs]
  | .dramReplayWindowEnd .. => [.regs, .dcs, .ev]
  | .dramPatrolRead .. => [.free, .regs, .once, .dcs, .ev]
  | .dramInitBlock .. => [.regs, .dcs]
  | .dramZqCal .. => []
  | .dramDriftTrack .. => [.regs]
  | .dramDrainDone .. => [.out, .regs, .dcs, .net, .mbx, .ev, .fwu]
  | .dramSchedulerSlot .. => [.regs, .dcs, .ev]
  | .vddqDcRemoved .. => [.out, .regs, .dcs, .net, .mbx, .ev, .fwu]
  | .lsuKeyLoad .. => [.regs, .lsu, .mbx]
  | .lsuKeyClear .. => [.regs, .lsu, .mbx]
  | .lsuRegionSet .. => [.regs, .mbx]
  | .lsuRekey .. => [.regs, .lsu, .mbx]
  | .lsuStatus .. => [.mbx]
  | .lsuReadCheck .. => [.out, .regs, .once, .dcs, .ev]
  | .sweepLineConvert .. => [.regs, .dcs]
  | .sweepReadReturn .. => [.regs, .once, .dcs, .ev]
  | .sweepComplete .. => [.regs, .lsu, .mbx]
  | .nocRequestIssue .. => [.out, .free, .regs, .io, .lanes, .lsu, .net, .qe, .ev, .fwu]
  | .routerFlit .. => [.out, .regs, .net, .dl, .ev]
  | .nocCreditReturn .. => [.out, .net, .dl]
  | .nocResponseArrive .. => [.out, .regs, .net, .mbx, .ev, .fwu]
  | .apTargetRequest .. => [.out, .regs, .net, .mbx, .ev, .fwu]
  | .apTargetResponse .. => [.out, .regs, .net, .ev]
  | .nocFence .. => [.out, .net, .mbx, .fwu]
  | .fenceMark .. => [.out]
  | .fenceAck .. => [.out, .net, .mbx, .fwu]
  | .targetTimeout .. => [.out, .regs, .dcs, .net, .mbx, .ev, .fwu]
  | .rerouteStart .. => [.out, .regs, .net]
  | .rerouteTablesConfirmed => [.net]
  | .routerTableRetire .. => [.out, .regs, .net, .dl, .mbx, .ev, .fwu]
  | .rerouteSlow => [.devTime, .regs, .net, .ev]
  | .domainDrainEnd .. => [.out, .regs, .net, .dl, .mbx, .fwu]
  | .domainOpened .. => [.regs, .net]
  | .nocGlobalFence .. => [.mbx]
  | .nocStatus .. => [.mbx]
  | .nocIsolate .. => [.out, .regs, .net, .mbx, .ev, .fwu]
  | .nocRelease .. => [.regs, .net, .mbx]
  | .nocDomainOff .. => [.out, .regs, .net, .dl, .mbx, .fwu]
  | .nocDomainOn .. => [.regs, .net, .dl, .mbx]
  | .sitePortMoveConfirm .. => [.net]
  | .dlStatus .. => [.mbx]
  | .dlRetrain .. => [.out, .regs, .dl, .mbx, .ev]
  | .dlDown .. => [.dl, .mbx]
  | .dlUp .. => [.regs, .dl, .mbx]
  | .dlClearDegrade .. => [.regs, .dl, .mbx]
  | .seamSteer .. => [.regs, .seam, .mbx, .ev]
  | .discoverySend .. => [.out]
  | .discoveryRecord .. => [.out, .regs, .start, .net, .dl, .mbx, .ev, .fwu]
  | .discoverTimeout .. => [.out, .regs, .start, .net, .dl, .mbx, .ev, .fwu]
  | .parameterExchangeDone .. => [.out, .regs, .start, .net, .dl, .mbx, .ev, .fwu]
  | .retrainTimeout .. => [.out, .regs, .net, .dl, .mbx, .ev, .fwu]
  | .fregalFlitReceive .. => [.out, .regs, .dl, .ev]
  | .fregalNak .. => [.out, .regs, .dl, .ev]
  | .replayTimeout .. => [.out, .regs, .dl, .ev]
  | .carryReq .. => [.out, .dl]
  | .carryAck .. => [.out, .dl]
  | .carryResume .. => [.out, .regs, .dl, .ev]
  | .dlLaneMargin .. => [.out, .regs, .dl, .ev]
  | .dlClockLoss .. => [.out, .regs, .start, .net, .dl, .mbx, .ev, .fwu]
  | .dlTrainTimeout .. => [.out, .regs, .net, .dl, .mbx, .ev, .fwu]
  | .dlRxLockLoss .. => [.out, .regs, .dl, .ev]
  | .qeGroupAssign .. => [.qe, .mbx]
  | .qeQueueCreate .. => [.out, .regs, .dcs, .qe, .mbx, .ev]
  | .qeQueueDestroy .. => [.out, .regs, .dcs, .qe, .mbx, .ev]
  | .qeQueueReset .. => [.out, .regs, .dcs, .qe, .mbx, .ev]
  | .qeQueueStatus .. => [.out, .regs, .dcs, .qe, .mbx, .ev]
  | .qeVectorSet .. => [.out, .regs, .qe, .mbx]
  | .qeStatus .. => [.mbx]
  | .qeCompletionDoorbell .. => [.regs, .qe, .ev]
  | .qeSubmissionDoorbell .. => [.regs, .qe, .ev]
  | .qePush .. => [.regs, .qe, .ev]
  | .qeCreditReturn .. => [.regs, .qe, .ev]
  | .qeRingWriteResponse .. => [.out, .regs, .dcs, .qe, .mbx, .ev]
  | .qeContextFill .. => [.out, .free, .regs, .dcs, .qe, .ev]
  | .qeContextWriteback .. => [.out, .regs, .dcs, .qe, .ev]
  | .qeContextRetry .. => [.out, .free, .regs, .dcs, .qe, .ev]
  | .qeSubmissionFetch .. => [.out, .regs, .dcs, .qe, .ev]
  | .qeFetchResponse .. => [.out, .free, .regs, .dcs, .qe, .mbx, .ev]
  | .qeHeadWriteback .. => [.out, .regs, .dcs, .qe, .ev]
  | .qeVectorTimer .. => [.regs, .qe]
  | .qeVectorFire .. => [.out, .regs, .qe]
  | .qeSleepReq => [.out, .regs, .qe]
  | .qeSleepEntered => [.out, .regs, .qe, .eic]
  | .qeAwake => [.out, .regs, .qe, .eic]
  | .eicSourceEdge .. => [.regs]
  | .eicSourceLevel .. => [.regs, .eic]
  | .eicNotify .. => [.out, .regs, .eic]
  | .eicClaim .. => [.out, .regs]
  | .eicComplete .. => [.regs, .ev]
  | .eicSourceSet .. => [.regs, .mbx]
  | .eicTargetSet .. => [.regs, .mbx]
  | .eicStatus .. => [.mbx]
  | .lockstepMismatch => [.out, .regs, .start, .shut, .lanes, .dcs, .dmap, .net, .mbx, .ev, .gr, .sec, .fwu, .nv]
  | .watchdogExpiry => [.out, .regs, .start, .shut, .lanes, .dcs, .dmap, .net, .mbx, .ev, .gr, .sec, .fwu, .nv]
  | .greoneRestartBegin => [.out, .regs, .start, .shut, .lanes, .dcs, .dmap, .net, .mbx, .ev, .gr, .sec, .fwu, .nv]
  | .greoneReady => [.out, .free, .regs, .seam, .rams, .once, .engines, .cfg, .shut, .io, .lanes, .dcs, .net, .eic, .mbx, .ev, .gr, .sec, .fwu, .nv, .fab]
  | .safelightFrame .. => [.out, .free, .regs, .io, .lanes, .lsu, .qe, .ev, .gr]
  | .safelightSegmentFail .. => [.ev, .gr]
  | .mbxDoorbell .. => [.regs, .ev]
  | .mbxRspRelease .. => [.regs]
  | .mbxCommandTake .. => [.out, .free, .regs, .start, .ring, .seam, .rams, .once, .engines, .cfg, .shut, .io, .tpps, .lanes, .dcs, .lsu, .net, .dl, .qe, .eic, .mbx, .ev, .gr, .sec, .fwu, .nv, .fab]
  | .mbxResponseWrite .. => [.regs, .mbx]
  | .devInfo .. => [.mbx]
  | .devStatus .. => [.mbx]
  | .mbxBarrier .. => [.mbx]
  | .regRead .. => [.free, .regs, .mbx]
  | .regWrite .. => [.out, .regs, .io, .lanes, .lsu, .qe, .mbx, .ev]
  | .greoneRestart .. => [.mbx, .gr]
  | .expertDrop .. => [.regs, .mbx]
  | .eventRead .. => [.mbx]
  | .eventQueue .. => [.mbx, .ev]
  | .settingsRead .. => [.mbx]
  | .settingsWrite .. => [.mbx, .gr]
  | .settingsCommit .. => [.free, .regs, .mbx, .ev, .sec, .fwu]
  | .testRun .. => [.out, .free, .regs, .engines, .cfg, .lanes, .dcs, .net, .dl, .mbx, .ev, .gr, .fwu]
  | .testSchedule .. => [.mbx, .gr]
  | .testCancel .. => [.mbx, .gr]
  | .testStatus .. => [.mbx]
  | .testQuietPoint .. => [.out, .free, .devTime, .regs, .engines, .cfg, .lanes, .dcs, .net, .dl, .mbx, .ev, .gr, .fwu]
  | .selfTestComplete .. => [.out, .regs, .lanes, .dcs, .net, .mbx, .ev, .gr, .fwu]
  | .v1Info .. => [.mbx]
  | .v1Status .. => [.mbx]
  | .v1Barrier .. => [.mbx]
  | .cfgLoad .. => [.out, .free, .regs, .seam, .rams, .once, .engines, .cfg, .shut, .io, .net, .eic, .mbx, .ev, .fwu, .fab]
  | .cfgStatus .. => [.mbx]
  | .memTrain .. => [.out, .regs, .dcs, .net, .mbx, .ev, .fwu]
  | .memStatus .. => [.mbx]
  | .linkUp .. => [.out, .free, .regs, .lanes, .mbx]
  | .linkDown .. => [.regs, .lanes, .mbx]
  | .regRd .. => [.free, .regs, .mbx]
  | .regWr .. => [.out, .regs, .io, .lanes, .lsu, .qe, .mbx, .ev]
  | .counterClearWrite .. => [.out, .regs, .io, .lanes, .lsu, .qe, .ev]
  | .registerWrite .. => [.out, .regs, .io, .lanes, .lsu, .qe, .ev]
  | .eventFrame => [.ev]
  | .eventLogWrite => [.regs, .qe, .ev]
  | .secStatus .. => [.mbx]
  | .secNonce .. => [.free, .mbx, .sec]
  | .secIdCert .. => [.out, .regs, .dcs, .mbx, .ev]
  | .secQuote .. => [.mbx, .sec]
  | .quoteSigned => [.out, .free, .regs, .dcs, .mbx, .ev, .sec]
  | .secOwnerKeyPut .. => [.free, .regs, .mbx, .ev, .nv]
  | .secOwnerProgram .. => [.free, .regs, .mbx, .ev, .sec]
  | .secOwnerRevoke .. => [.free, .regs, .mbx, .ev, .sec]
  | .secFuseLock .. => [.free, .regs, .mbx, .ev, .sec]
  | .secSvnAdvance .. => [.free, .regs, .mbx, .ev, .sec]
  | .secSealKeySet .. => [.free, .regs, .mbx, .ev, .sec, .fwu]
  | .secPolicySet .. => [.free, .regs, .mbx, .ev, .sec, .fwu]
  | .fuseProgramDone .. => [.regs, .mbx, .ev, .sec, .fwu, .nv]
  | .nonceExpiry .. => [.devTime, .sec]
  | .jtagTapInstruction .. => [.tap]
  | .bootImageChoice => [.regs, .start, .mbx, .ev, .gr, .fwu, .nv]
  | .svcWrite .. => [.out, .free, .regs, .io, .lanes, .lsu, .net, .qe, .ev, .fwu]
  | .svcRead .. => [.out, .free, .regs, .io, .lanes, .lsu, .net, .qe, .ev, .fwu]
  | .svcImage .. => [.out, .regs, .ev, .fwu]
  | .svcPing .. => [.out, .regs, .ev]
  | .fwStatus .. => [.mbx]
  | .fwBegin .. => [.regs, .mbx, .fwu, .nv]
  | .fwEraseDone .. => [.regs, .mbx, .ev, .fwu, .nv]
  | .fwEnd .. => [.regs, .mbx, .fwu, .nv]
  | .fwVerify .. => [.mbx, .fwu]
  | .fwActivate .. => [.regs, .mbx, .fwu, .nv]
  | .fwAbort .. => [.regs, .mbx, .fwu, .nv]
  | .fwAcceptDefaults .. => [.free, .regs, .mbx, .ev, .sec, .fwu]
  | .fwRevert .. => [.mbx, .fwu, .nv]
  | .runLock .. => [.regs, .mbx, .fwu]
  | .runUnlock .. => [.regs, .mbx, .fwu]
  | .runLockExpiry .. => [.devTime, .regs, .ev, .fwu]
  | .fwArmedActivation => [.regs, .fwu, .nv]
  | .fwTrialCheck .. => [.devTime, .ev, .gr, .fwu, .nv]
  | .crashClear => [.devTime, .fwu, .nv]
  | .flashProgramDone .. => [.regs, .mbx, .ev, .gr, .sec, .fwu, .nv]
  | .fwReadbackDone .. => [.regs, .mbx, .fwu, .nv]
  | .powerWarn => [.regs, .mbx, .ev, .fwu, .nv]
  | .powerWarnClear => [.regs, .mbx, .ev, .sec]
  | .holdupLost => [.regs, .mbx, .ev, .fwu, .nv]
  | .holdupGood => [.regs, .mbx, .ev, .sec]
  | .thermalSample .. => [.out, .free, .regs, .ring, .clk, .io, .tpps, .lanes, .mbx, .ev, .pwr]
  | .railSample .. => [.regs, .ev, .pwr]
  | .pwrStatus .. => [.mbx]
  | .thermSet .. => [.regs, .mbx]

/-- When a command acts: whatever the device's state; out of RESET (R39); or while the derived clocks run too (R85). -/
inductive Acts where
  | always
  | live
  | clocked
deriving DecidableEq, Repr

def actsOf : Instr → Acts
  | .porstNAssert .. => .always
  | .porstNRelease => .always
  | .stage1Enter .. => .clocked
  | .stage2Enter => .clocked
  | .stage3Enter .. => .clocked
  | .bootPlateLoad => .clocked
  | .dieReset .. => .live
  | .dieResetTakeEffect .. => .clocked
  | .dieResetRelease .. => .clocked
  | .siteReset .. => .live
  | .siteResetRelease .. => .live
  | .vccauxLoss => .live
  | .ringLockAcquired => .clocked
  | .ringLockLost => .clocked
  | .ringWindow .. => .clocked
  | .ringWindowStart => .clocked
  | .ringCensus .. => .clocked
  | .ringStartPacket .. => .clocked
  | .ringTriggerPacket .. => .clocked
  | .ringAbortPacket .. => .clocked
  | .ringPacketForward .. => .clocked
  | .ringJoinTimeout => .clocked
  | .ringJoin .. => .live
  | .ringLeave .. => .live
  | .alignmentMarker => .clocked
  | .devTimeWrap => .clocked
  | .primaryRingLost => .clocked
  | .refclkLost => .clocked
  | .referenceRestored .. => .clocked
  | .referenceSlewDone => .clocked
  | .rootPllUnlock => .live
  | .fpllUnlock .. => .clocked
  | .fpllRelock .. => .clocked
  | .seamMarginLoss .. => .clocked
  | .seamParityFail .. => .clocked
  | .configUpset .. => .live
  | .ramPortAccess .. => .clocked
  | .tankQueueWrite .. => .clocked
  | .tankQueueRead .. => .clocked
  | .userRamScrubRead .. => .clocked
  | .userRamScrubWriteback .. => .clocked
  | .scrubStarved .. => .clocked
  | .engineStart .. => .clocked
  | .engineHalt .. => .clocked
  | .engineHaltRelease .. => .clocked
  | .engineReset .. => .clocked
  | .engineFifoWrite .. => .clocked
  | .engineOqRead .. => .clocked
  | .engineNop .. => .clocked
  | .engineMac .. => .clocked
  | .engineNmac .. => .clocked
  | .engineNorm .. => .clocked
  | .engineAgset .. => .clocked
  | .engineSet .. => .clocked
  | .engineRep .. => .clocked
  | .engineLoop .. => .clocked
  | .engineJmp .. => .clocked
  | .engineWait .. => .clocked
  | .engineSig .. => .clocked
  | .engineStop .. => .clocked
  | .engineStopDrained .. => .clocked
  | .engineGpiChange .. => .clocked
  | .plateLoad .. => .live
  | .plateRelocate .. => .live
  | .regionFreeze .. => .live
  | .regionRelease .. => .live
  | .regionReset .. => .live
  | .regionClear .. => .live
  | .plateSpares .. => .live
  | .plateUnretain .. => .live
  | .plateStatus .. => .live
  | .frameRecordWrite .. => .clocked
  | .loadStreamDone .. => .clocked
  | .loadVerifyDone .. => .clocked
  | .freezeDrainEnd .. => .clocked
  | .relocateCutover .. => .clocked
  | .linkReroute .. => .clocked
  | .configScrubFrame .. => .clocked
  | .mbeReload .. => .clocked
  | .autoRelocate .. => .clocked
  | .shutter .. => .live
  | .shutterResume .. => .live
  | .shutterCancel .. => .live
  | .shutterStatus .. => .live
  | .shutterTriggerLine .. => .clocked
  | .shutterCapture => .clocked
  | .shutterNoEdgeTimeout => .clocked
  | .contactRecordWrite => .clocked
  | .shutterReadoutDone => .clocked
  | .vccoFaultEnter .. => .live
  | .vccoFaultExit .. => .live
  | .ioCalibration .. => .live
  | .ioPinWrite .. => .live
  | .delayFabricStep .. => .clocked
  | .termEnChange .. => .clocked
  | .vccoLevelChange .. => .live
  | .delayLineTapMove .. => .clocked
  | .tppLoad .. => .live
  | .tppRun .. => .live
  | .tppAbort .. => .live
  | .tppStatus .. => .live
  | .tppCalibrate .. => .live
  | .tppSite .. => .live
  | .tppCalDone .. => .clocked
  | .tppStreamReady .. => .clocked
  | .tppStartInstant .. => .clocked
  | .startFEdge .. => .clocked
  | .abortFEdge .. => .clocked
  | .trigFEdge .. => .clocked
  | .siteOffChange .. => .clocked
  | .seqNext .. => .clocked
  | .seqRepeat .. => .clocked
  | .seqLoop .. => .clocked
  | .seqJump .. => .clocked
  | .seqCall .. => .clocked
  | .seqRet .. => .clocked
  | .seqJof .. => .clocked
  | .seqMatch .. => .clocked
  | .seqApgStep .. => .clocked
  | .seqStream .. => .clocked
  | .seqStreamVector .. => .clocked
  | .seqWaitTrig .. => .clocked
  | .seqStop .. => .clocked
  | .streamRefillRead .. => .clocked
  | .streamReadResponse .. => .clocked
  | .tppDrainEnd .. => .clocked
  | .tppDrainTimeout .. => .clocked
  | .compareResult .. => .clocked
  | .failRecordSend .. => .clocked
  | .bitmapLineEvict .. => .clocked
  | .bitmapAorResponse .. => .clocked
  | .cntClear .. => .clocked
  | .laneUp .. => .live
  | .laneDown .. => .live
  | .laneQuiesce .. => .live
  | .laneResume .. => .live
  | .laneLoopback .. => .live
  | .lanePrbs .. => .live
  | .laneEyescan .. => .live
  | .laneStatus .. => .live
  | .laneUpTimeout .. => .clocked
  | .laneTxBlock .. => .clocked
  | .laneRxBlock .. => .clocked
  | .rxSlip .. => .clocked
  | .blockLockGained .. => .clocked
  | .blockLockLost .. => .clocked
  | .lnbCaps .. => .clocked
  | .lnbStepReq .. => .clocked
  | .lnbStepAck .. => .clocked
  | .laneRateSwitch .. => .clocked
  | .lnbCoeff .. => .clocked
  | .lnbCoeffAck .. => .clocked
  | .lnbSteerReq .. => .clocked
  | .lnbSteerAck .. => .clocked
  | .lnbSteerDone .. => .clocked
  | .groupMarker .. => .clocked
  | .laneEqEnd .. => .clocked
  | .laneCheckEnd .. => .clocked
  | .laneLockTimeout .. => .clocked
  | .laneBaseRetry .. => .clocked
  | .laneRetrain .. => .clocked
  | .laneDegrading .. => .clocked
  | .eyescanDone .. => .clocked
  | .laneSnap .. => .clocked
  | .bmkSend .. => .clocked
  | .lnbRepeat .. => .clocked
  | .dramTrain .. => .live
  | .dramStatus .. => .live
  | .dramQuiesce .. => .live
  | .dramResume .. => .live
  | .dramOffline .. => .live
  | .dramOnline .. => .live
  | .dramSelftest .. => .live
  | .dramBracket .. => .live
  | .dramRecover .. => .live
  | .dramTrainDone .. => .clocked
  | .bracketGo .. => .clocked
  | .bracketDone .. => .clocked
  | .dramLineRead .. => .clocked
  | .dramLineWrite .. => .clocked
  | .dramLockedPair .. => .clocked
  | .dramBurstComplete .. => .clocked
  | .dramWriteStarve .. => .clocked
  | .dramRefreshDue .. => .clocked
  | .dramRefreshRateRead .. => .clocked
  | .actTableClear .. => .clocked
  | .dramAlert .. => .clocked
  | .dramAlertRelease .. => .clocked
  | .dramReplayWindowEnd .. => .clocked
  | .dramPatrolRead .. => .clocked
  | .dramInitBlock .. => .clocked
  | .dramZqCal .. => .clocked
  | .dramDriftTrack .. => .clocked
  | .dramDrainDone .. => .clocked
  | .dramSchedulerSlot .. => .clocked
  | .vddqDcRemoved .. => .live
  | .lsuKeyLoad .. => .live
  | .lsuKeyClear .. => .live
  | .lsuRegionSet .. => .live
  | .lsuRekey .. => .live
  | .lsuStatus .. => .live
  | .lsuReadCheck .. => .clocked
  | .sweepLineConvert .. => .clocked
  | .sweepReadReturn .. => .clocked
  | .sweepComplete .. => .clocked
  | .nocRequestIssue .. => .live
  | .routerFlit .. => .clocked
  | .nocCreditReturn .. => .clocked
  | .nocResponseArrive .. => .clocked
  | .apTargetRequest .. => .clocked
  | .apTargetResponse .. => .clocked
  | .nocFence .. => .clocked
  | .fenceMark .. => .clocked
  | .fenceAck .. => .clocked
  | .targetTimeout .. => .clocked
  | .rerouteStart .. => .clocked
  | .rerouteTablesConfirmed => .clocked
  | .routerTableRetire .. => .clocked
  | .rerouteSlow => .clocked
  | .domainDrainEnd .. => .clocked
  | .domainOpened .. => .clocked
  | .nocGlobalFence .. => .live
  | .nocStatus .. => .live
  | .nocIsolate .. => .live
  | .nocRelease .. => .live
  | .nocDomainOff .. => .live
  | .nocDomainOn .. => .live
  | .sitePortMoveConfirm .. => .clocked
  | .dlStatus .. => .live
  | .dlRetrain .. => .live
  | .dlDown .. => .live
  | .dlUp .. => .live
  | .dlClearDegrade .. => .live
  | .seamSteer .. => .live
  | .discoverySend .. => .clocked
  | .discoveryRecord .. => .clocked
  | .discoverTimeout .. => .clocked
  | .parameterExchangeDone .. => .clocked
  | .retrainTimeout .. => .clocked
  | .fregalFlitReceive .. => .clocked
  | .fregalNak .. => .clocked
  | .replayTimeout .. => .clocked
  | .carryReq .. => .clocked
  | .carryAck .. => .clocked
  | .carryResume .. => .clocked
  | .dlLaneMargin .. => .clocked
  | .dlClockLoss .. => .clocked
  | .dlTrainTimeout .. => .clocked
  | .dlRxLockLoss .. => .clocked
  | .qeGroupAssign .. => .live
  | .qeQueueCreate .. => .live
  | .qeQueueDestroy .. => .live
  | .qeQueueReset .. => .live
  | .qeQueueStatus .. => .live
  | .qeVectorSet .. => .live
  | .qeStatus .. => .live
  | .qeCompletionDoorbell .. => .clocked
  | .qeSubmissionDoorbell .. => .clocked
  | .qePush .. => .clocked
  | .qeCreditReturn .. => .clocked
  | .qeRingWriteResponse .. => .clocked
  | .qeContextFill .. => .clocked
  | .qeContextWriteback .. => .clocked
  | .qeContextRetry .. => .clocked
  | .qeSubmissionFetch .. => .clocked
  | .qeFetchResponse .. => .clocked
  | .qeHeadWriteback .. => .clocked
  | .qeVectorTimer .. => .clocked
  | .qeVectorFire .. => .clocked
  | .qeSleepReq => .clocked
  | .qeSleepEntered => .clocked
  | .qeAwake => .clocked
  | .eicSourceEdge .. => .clocked
  | .eicSourceLevel .. => .clocked
  | .eicNotify .. => .clocked
  | .eicClaim .. => .clocked
  | .eicComplete .. => .clocked
  | .eicSourceSet .. => .live
  | .eicTargetSet .. => .live
  | .eicStatus .. => .live
  | .lockstepMismatch => .live
  | .watchdogExpiry => .live
  | .greoneRestartBegin => .live
  | .greoneReady => .live
  | .safelightFrame .. => .live
  | .safelightSegmentFail .. => .live
  | .mbxDoorbell .. => .live
  | .mbxRspRelease .. => .live
  | .mbxCommandTake .. => .live
  | .mbxResponseWrite .. => .live
  | .devInfo .. => .live
  | .devStatus .. => .live
  | .mbxBarrier .. => .live
  | .regRead .. => .live
  | .regWrite .. => .live
  | .greoneRestart .. => .live
  | .expertDrop .. => .live
  | .eventRead .. => .live
  | .eventQueue .. => .live
  | .settingsRead .. => .live
  | .settingsWrite .. => .live
  | .settingsCommit .. => .live
  | .testRun .. => .live
  | .testSchedule .. => .live
  | .testCancel .. => .live
  | .testStatus .. => .live
  | .testQuietPoint .. => .clocked
  | .selfTestComplete .. => .clocked
  | .v1Info .. => .live
  | .v1Status .. => .live
  | .v1Barrier .. => .live
  | .cfgLoad .. => .live
  | .cfgStatus .. => .live
  | .memTrain .. => .live
  | .memStatus .. => .live
  | .linkUp .. => .live
  | .linkDown .. => .live
  | .regRd .. => .live
  | .regWr .. => .live
  | .counterClearWrite .. => .live
  | .registerWrite .. => .live
  | .eventFrame => .live
  | .eventLogWrite => .live
  | .secStatus .. => .live
  | .secNonce .. => .live
  | .secIdCert .. => .live
  | .secQuote .. => .live
  | .quoteSigned => .live
  | .secOwnerKeyPut .. => .live
  | .secOwnerProgram .. => .live
  | .secOwnerRevoke .. => .live
  | .secFuseLock .. => .live
  | .secSvnAdvance .. => .live
  | .secSealKeySet .. => .live
  | .secPolicySet .. => .live
  | .fuseProgramDone .. => .live
  | .nonceExpiry .. => .live
  | .jtagTapInstruction .. => .live
  | .bootImageChoice => .live
  | .svcWrite .. => .live
  | .svcRead .. => .live
  | .svcImage .. => .live
  | .svcPing .. => .live
  | .fwStatus .. => .live
  | .fwBegin .. => .live
  | .fwEraseDone .. => .live
  | .fwEnd .. => .live
  | .fwVerify .. => .live
  | .fwActivate .. => .live
  | .fwAbort .. => .live
  | .fwAcceptDefaults .. => .live
  | .fwRevert .. => .live
  | .runLock .. => .live
  | .runUnlock .. => .live
  | .runLockExpiry .. => .live
  | .fwArmedActivation => .live
  | .fwTrialCheck .. => .live
  | .crashClear => .live
  | .flashProgramDone .. => .live
  | .fwReadbackDone .. => .live
  | .powerWarn => .live
  | .powerWarnClear => .live
  | .holdupLost => .live
  | .holdupGood => .live
  | .thermalSample .. => .live
  | .railSample .. => .live
  | .pwrStatus .. => .live
  | .thermSet .. => .live

/-- The fabric die on whose derived clocks a command's part runs too (R47, R79, R482). -/
def dieOf : Instr → Option Nat
  | .fpllUnlock die _ => some (die.val)
  | .fpllRelock die _ => some (die.val)
  | .ramPortAccess sector _ _ _ _ _ _ => some (sector.val / 80)
  | .tankQueueWrite sector _ _ _ => some (sector.val / 80)
  | .tankQueueRead sector _ _ _ _ => some (sector.val / 80)
  | .userRamScrubRead sector _ _ _ => some (sector.val / 80)
  | .userRamScrubWriteback sector _ => some (sector.val / 80)
  | .scrubStarved sector _ => some (sector.val / 80)
  | .engineStart e => some (e.val / 3840)
  | .engineHalt e => some (e.val / 3840)
  | .engineHaltRelease e => some (e.val / 3840)
  | .engineReset e _ => some (e.val / 3840)
  | .engineFifoWrite e _ _ => some (e.val / 3840)
  | .engineOqRead e => some (e.val / 3840)
  | .engineNop e => some (e.val / 3840)
  | .engineMac e _ _ => some (e.val / 3840)
  | .engineNmac e _ _ => some (e.val / 3840)
  | .engineNorm e => some (e.val / 3840)
  | .engineAgset e => some (e.val / 3840)
  | .engineSet e _ _ => some (e.val / 3840)
  | .engineRep e => some (e.val / 3840)
  | .engineLoop e => some (e.val / 3840)
  | .engineJmp e => some (e.val / 3840)
  | .engineWait e => some (e.val / 3840)
  | .engineSig e => some (e.val / 3840)
  | .engineStop e => some (e.val / 3840)
  | .engineStopDrained e => some (e.val / 3840)
  | .engineGpiChange e _ _ => some (e.val / 3840)
  | .configScrubFrame die => some (die.val)
  | .delayFabricStep die _ _ _ => some (die.val)
  | .termEnChange die _ _ => some (die.val)
  | .delayLineTapMove die _ => some (die.val)
  | .tppCalDone tpp _ _ => some (tpp.val / 6)
  | .tppStreamReady tpp => some (tpp.val / 6)
  | .tppStartInstant tpp => some (tpp.val / 6)
  | .startFEdge tpp => some (tpp.val / 6)
  | .abortFEdge tpp => some (tpp.val / 6)
  | .trigFEdge tpp _ => some (tpp.val / 6)
  | .siteOffChange tpp _ => some (tpp.val / 6)
  | .seqNext tpp _ => some (tpp.val / 6)
  | .seqRepeat tpp _ => some (tpp.val / 6)
  | .seqLoop tpp _ => some (tpp.val / 6)
  | .seqJump tpp _ => some (tpp.val / 6)
  | .seqCall tpp _ => some (tpp.val / 6)
  | .seqRet tpp _ => some (tpp.val / 6)
  | .seqJof tpp _ => some (tpp.val / 6)
  | .seqMatch tpp _ _ _ => some (tpp.val / 6)
  | .seqApgStep tpp _ => some (tpp.val / 6)
  | .seqStream tpp _ => some (tpp.val / 6)
  | .seqStreamVector tpp => some (tpp.val / 6)
  | .seqWaitTrig tpp _ => some (tpp.val / 6)
  | .seqStop tpp _ => some (tpp.val / 6)
  | .streamRefillRead tpp => some (tpp.val / 6)
  | .streamReadResponse tpp _ _ _ => some (tpp.val / 6)
  | .tppDrainEnd tpp => some (tpp.val / 6)
  | .tppDrainTimeout tpp => some (tpp.val / 6)
  | .compareResult tpp _ _ => some (tpp.val / 6)
  | .failRecordSend tpp => some (tpp.val / 6)
  | .bitmapLineEvict tpp _ => some (tpp.val / 6)
  | .bitmapAorResponse tpp _ _ => some (tpp.val / 6)
  | .cntClear tpp => some (tpp.val / 6)
  | .laneTxBlock lane _ _ => some (lane.val / 32)
  | .laneRxBlock lane _ _ _ => some (lane.val / 32)
  | .rxSlip lane => some (lane.val / 32)
  | .blockLockGained lane => some (lane.val / 32)
  | .blockLockLost lane => some (lane.val / 32)
  | .lnbCaps lane _ _ _ => some (lane.val / 32)
  | .lnbStepReq lane _ => some (lane.val / 32)
  | .lnbStepAck lane _ => some (lane.val / 32)
  | .laneRateSwitch lane => some (lane.val / 32)
  | .lnbCoeff lane _ _ _ => some (lane.val / 32)
  | .lnbCoeffAck lane => some (lane.val / 32)
  | .lnbSteerReq lane _ _ => some (lane.val / 32)
  | .lnbSteerAck lane _ => some (lane.val / 32)
  | .lnbSteerDone lane _ => some (lane.val / 32)
  | .groupMarker lane _ _ _ => some (lane.val / 32)
  | .laneEqEnd lane _ _ _ => some (lane.val / 32)
  | .laneCheckEnd lane _ => some (lane.val / 32)
  | .laneLockTimeout lane => some (lane.val / 32)
  | .laneBaseRetry lane => some (lane.val / 32)
  | .laneRetrain lane => some (lane.val / 32)
  | .laneDegrading lane _ _ => some (lane.val / 32)
  | .eyescanDone lane _ => some (lane.val / 32)
  | .laneSnap lane => some (lane.val / 32)
  | .bmkSend die _ => some (die.val)
  | .lnbRepeat lane => some (lane.val / 32)
  | .dramTrainDone ch _ _ _ _ => some (ch.val / 2)
  | .bracketGo ch => some (ch.val / 2)
  | .bracketDone ch _ => some (ch.val / 2)
  | .dramLineRead ch _ _ _ _ => some (ch.val / 2)
  | .dramLineWrite ch _ _ _ _ => some (ch.val / 2)
  | .dramLockedPair ch _ _ _ _ => some (ch.val / 2)
  | .dramBurstComplete ch _ _ => some (ch.val / 2)
  | .dramWriteStarve ch => some (ch.val / 2)
  | .dramRefreshDue ch _ _ => some (ch.val / 2)
  | .dramRefreshRateRead ch _ => some (ch.val / 2)
  | .actTableClear ch _ _ _ _ => some (ch.val / 2)
  | .dramAlert ch _ => some (ch.val / 2)
  | .dramAlertRelease ch _ => some (ch.val / 2)
  | .dramReplayWindowEnd ch _ => some (ch.val / 2)
  | .dramPatrolRead ch _ _ => some (ch.val / 2)
  | .dramInitBlock ch => some (ch.val / 2)
  | .dramZqCal ch _ => some (ch.val / 2)
  | .dramDriftTrack ch _ _ => some (ch.val / 2)
  | .dramDrainDone ch => some (ch.val / 2)
  | .dramSchedulerSlot ch _ => some (ch.val / 2)
  | .lsuReadCheck ch _ => some (ch.val / 2)
  | .sweepLineConvert ch => some (ch.val / 2)
  | .sweepReadReturn ch => some (ch.val / 2)
  | .routerFlit router _ _ _ => some (router.val / 24)
  | .nocCreditReturn router _ _ => some (router.val / 24)
  | .apTargetRequest d _ _ _ _ _ _ _ => some (d.val)
  | .apTargetResponse d _ _ _ _ => some (d.val)
  | .routerTableRetire router => some (router.val / 24)
  | .parameterExchangeDone d _ _ _ => some (d.val)
  | .fregalFlitReceive d _ _ => some (d.val)
  | .fregalNak d _ _ => some (d.val)
  | .replayTimeout d _ => some (d.val)
  | .carryReq d _ _ => some (d.val)
  | .carryAck d _ _ _ _ => some (d.val)
  | .carryResume d _ _ => some (d.val)
  | .dlLaneMargin d _ _ => some (d.val)
  | .dlRxLockLoss d _ => some (d.val)
  | _ => none

/-- What a mailbox command of protocol v2 asks (R41, R566, R567, R572): its header, and its opcode, ports, least stage and level. -/
def needOf : Instr → Option (Hdr × Need)
  | .dieReset h _ => some (h, { op := 0x0005, ports := hostPorts, stage := 2 })
  | .siteReset h _ => some (h, { op := 0x0006, ports := hostPorts, stage := 1 })
  | .ringJoin h => some (h, { op := 0x000E, ports := hostPorts, stage := 2 })
  | .ringLeave h => some (h, { op := 0x000F, ports := hostPorts, stage := 2 })
  | .plateLoad h _ _ _ _ _ _ _ _ => some (h, (plateNeed 0x0100))
  | .plateRelocate h _ _ => some (h, (plateNeed 0x0101))
  | .regionFreeze h _ => some (h, (plateNeed 0x0102))
  | .regionRelease h _ => some (h, (plateNeed 0x0103))
  | .regionReset h _ => some (h, (plateNeed 0x0104))
  | .regionClear h _ => some (h, (plateNeed 0x0105))
  | .plateSpares h _ => some (h, (plateNeed 0x0106))
  | .plateUnretain h _ => some (h, (plateNeed 0x0107))
  | .plateStatus h _ => some (h, (plateNeed 0x0108))
  | .shutter h _ => some (h, (needShutter 0x0200))
  | .shutterResume h => some (h, (needShutter 0x0201))
  | .shutterCancel h => some (h, (needShutter 0x0202))
  | .shutterStatus h => some (h, (needShutter 0x0203))
  | .tppLoad h _ _ _ _ => some (h, (needTpp 0x0300))
  | .tppRun h _ _ => some (h, (needTpp 0x0301))
  | .tppAbort h _ => some (h, (needTpp 0x0302))
  | .tppStatus h _ => some (h, (needTpp 0x0303))
  | .tppCalibrate h _ => some (h, (needTpp 0x0304))
  | .tppSite h _ _ => some (h, (needTpp 0x0305))
  | .laneUp h _ _ _ _ => some (h, (needLane 0x0400))
  | .laneDown h _ _ => some (h, (needLane 0x0401))
  | .laneQuiesce h _ _ => some (h, (needLane 0x0402))
  | .laneResume h _ _ => some (h, (needLane 0x0403))
  | .laneLoopback h _ _ _ => some (h, (needLane 0x0404))
  | .lanePrbs h _ _ _ _ _ => some (h, (needLane 0x0405))
  | .laneEyescan h _ _ _ _ _ _ _ _ _ => some (h, (needLane 0x0406))
  | .laneStatus h _ => some (h, (needLane 0x0407))
  | .dramTrain h _ _ => some (h, (dramNeed 0x0500))
  | .dramStatus h _ => some (h, (dramNeed 0x0501))
  | .dramQuiesce h _ => some (h, (dramNeed 0x0502))
  | .dramResume h _ => some (h, (dramNeed 0x0503))
  | .dramOffline h _ => some (h, (dramNeed 0x0504))
  | .dramOnline h _ => some (h, (dramNeed 0x0505))
  | .dramSelftest h _ _ _ _ => some (h, (dramNeed 0x0506))
  | .dramBracket h _ _ => some (h, (dramNeed 0x0507 true))
  | .dramRecover h _ => some (h, (dramNeed 0x0508))
  | .lsuKeyLoad h _ _ => some (h, { op := 0x0600, ports := hostPorts, stage := 3 })
  | .lsuKeyClear h _ => some (h, { op := 0x0601, ports := hostPorts, stage := 3 })
  | .lsuRegionSet h _ _ _ _ => some (h, { op := 0x0602, ports := workPorts, stage := 3 })
  | .lsuRekey h _ _ _ => some (h, { op := 0x0603, ports := workPorts, stage := 3 })
  | .lsuStatus h _ => some (h, { op := 0x0604, ports := workPorts, stage := 3 })
  | .nocGlobalFence h => some (h, (nocNeed 0x0700))
  | .nocStatus h _ _ _ => some (h, (nocNeed 0x0701))
  | .nocIsolate h _ => some (h, (nocNeed 0x0702 true))
  | .nocRelease h _ => some (h, (nocNeed 0x0703))
  | .nocDomainOff h _ => some (h, (nocNeed 0x0704))
  | .nocDomainOn h _ => some (h, (nocNeed 0x0705))
  | .dlStatus h _ => some (h, (dlNeed 0x0800))
  | .dlRetrain h _ => some (h, (dlNeed 0x0801))
  | .dlDown h _ => some (h, (dlNeed 0x0802))
  | .dlUp h _ => some (h, (dlNeed 0x0803))
  | .dlClearDegrade h _ => some (h, (dlNeed 0x0804 true))
  | .seamSteer h _ _ _ => some (h, (dlNeed 0x0805))
  | .qeGroupAssign h _ _ => some (h, { op := 0x0900, ports := svcPort, stage := 1 })
  | .qeQueueCreate h _ _ _ _ _ _ _ _ _ _ _ _ _ => some (h, (qeNeed 0x0901))
  | .qeQueueDestroy h _ => some (h, (qeNeed 0x0902))
  | .qeQueueReset h _ => some (h, (qeNeed 0x0903))
  | .qeQueueStatus h _ => some (h, (qeNeed 0x0904))
  | .qeVectorSet h _ _ _ _ _ _ => some (h, (qeNeed 0x0905))
  | .qeStatus h => some (h, (qeNeed 0x0906))
  | .eicSourceSet h _ _ _ _ => some (h, { op := 0x0A00, ports := workPorts, stage := 1 })
  | .eicTargetSet h _ _ _ => some (h, { op := 0x0A01, ports := workPorts, stage := 1 })
  | .eicStatus h => some (h, { op := 0x0A02, ports := workPorts, stage := 1 })
  | .devInfo h => some (h, needDevInfo)
  | .devStatus h => some (h, needDevStatus)
  | .mbxBarrier h => some (h, needBarrier)
  | .regRead h _ _ => some (h, needRegRead)
  | .regWrite h _ _ _ => some (h, needRegWrite)
  | .greoneRestart h => some (h, { op := 0x0007, ports := svcPort, stage := 1 })
  | .expertDrop h _ => some (h, { op := 0x0008, ports := allPorts, stage := 1 })
  | .eventRead h _ => some (h, { op := 0x0009, ports := allPorts, stage := 1 })
  | .eventQueue h _ _ => some (h, { op := 0x000A, ports := hostPorts, stage := 1 })
  | .settingsRead h _ => some (h, { op := 0x000B, ports := allPorts, stage := 1 })
  | .settingsWrite h _ _ => some (h, { op := 0x000C, ports := hostPorts, stage := 1 })
  | .settingsCommit h _ _ => some (h, { op := 0x000D, ports := hostPorts, stage := 1 })
  | .testRun h _ _ _ => some (h, (needTest 0x0E00))
  | .testSchedule h _ _ _ _ _ => some (h, (needTest 0x0E01))
  | .testCancel h _ => some (h, (needTest 0x0E02))
  | .testStatus h _ => some (h, (needTest 0x0E03))
  | .secStatus h => some (h, { op := 0x0B00, ports := allPorts, stage := 1 })
  | .secNonce h => some (h, (secNeed 0x0B01))
  | .secIdCert h _ _ _ => some (h, { op := 0x0B02, ports := allPorts, stage := 1 })
  | .secQuote h _ _ _ => some (h, { op := 0x0B03, ports := workPorts, stage := 1 })
  | .secOwnerKeyPut h _ _ => some (h, (secNeed 0x0B04))
  | .secOwnerProgram h _ _ => some (h, (secNeed 0x0B05))
  | .secOwnerRevoke h _ _ => some (h, (secNeed 0x0B06))
  | .secFuseLock h _ _ => some (h, (secNeed 0x0B07))
  | .secSvnAdvance h _ _ => some (h, (secNeed 0x0B08))
  | .secSealKeySet h _ _ => some (h, (secNeed 0x0B09))
  | .secPolicySet h _ _ => some (h, (secNeed 0x0B0A))
  | .fwStatus h => some (h, { op := 0x0C00, ports := allPorts, stage := 0 })
  | .fwBegin h _ => some (h, { op := 0x0C01, ports := svcPort, stage := 0 })
  | .fwEnd h _ => some (h, { op := 0x0C02, ports := svcPort, stage := 0 })
  | .fwVerify h => some (h, { op := 0x0C03, ports := svcPort, stage := 0 })
  | .fwActivate h _ => some (h, { op := 0x0C04, ports := hostPorts, stage := 0 })
  | .fwAbort h => some (h, { op := 0x0C05, ports := svcPort, stage := 0 })
  | .fwAcceptDefaults h _ _ => some (h, { op := 0x0C06, ports := hostPorts, stage := 1 })
  | .fwRevert h => some (h, { op := 0x0C07, ports := hostPorts, stage := 1 })
  | .runLock h _ => some (h, { op := 0x0C08, ports := [.h0, .p1, .p2, .fab], stage := 1 })
  | .runUnlock h _ => some (h, { op := 0x0C09, ports := workPorts, stage := 1 })
  | .pwrStatus h => some (h, (needPwr 0x0D00))
  | .thermSet h _ _ => some (h, (needPwr 0x0D01))
  | _ => none

/-- The update commands, which RECOVERY permits too, and Stage 0 does not (R628). -/
def isUpdate : Instr → Bool
  | .fwBegin .. => true
  | .fwEnd .. => true
  | .fwVerify .. => true
  | .fwActivate .. => true
  | .fwAbort .. => true
  | _ => false

/-- The stage permits the command. -/
def stagePermits (s : Block) (c : Instr) (n : Need) : Bool := stageOk s n.stage && !(isUpdate c && stageOf s == 0)

/-- The same of the commands of protocol v1 (R573, R574), with their own opcode. -/
def needOfV1 : Instr → Option (Hdr × Nat × Need)
  | .v1Info h => some (h, 0x01, needDevInfo)
  | .v1Status h => some (h, 0x02, needDevStatus)
  | .v1Barrier h => some (h, 0x03, needBarrier)
  | .cfgLoad h _ _ _ => some (h, 0x10, (plateNeed 0x0100))
  | .cfgStatus h _ => some (h, 0x11, (plateNeed 0x0108))
  | .memTrain h _ => some (h, 0x20, (dramNeed 0x0500))
  | .memStatus h _ => some (h, 0x21, (dramNeed 0x0501))
  | .linkUp h _ _ => some (h, 0x30, (needLane 0x0400))
  | .linkDown h _ _ => some (h, 0x31, (needLane 0x0401))
  | .regRd h _ => some (h, 0x40, needRegRead)
  | .regWr h _ _ => some (h, 0x41, needRegWrite)
  | _ => none

end Sys2Proof.Machine
end

