-- ==== Sys2Proof/Certificates/Slice0/Obligations.lean ====
section
/-! DEFINITION. The statements for the provers. Each names in its docstring the rules of the spec it follows. -/

section

open Sys2Proof Sys2Proof.Machine

/-- A step takes the command at the front of the queue and runs it with the queue's rest; on an empty queue the block idles (the model's choice,
log entry 2): DEV_TIME advances by one tick, with TIME_WRAP when it wraps, and the fabric's clock edges of that tick reach the
fabric, unless the device is in RESET or the clocks are gated. -/
def Obligations.StepRunsFront : Prop :=
  (∀ (c : Instr) (rest : List Instr) (s : State), step { s with pending := c :: rest } = exec c { s with pending := rest }) ∧
  (∀ s : State, s.pending = [] → (s.blk.start.inReset = true ∨ s.blk.clk.gated = true) → step s = .next s) ∧
  (∀ s : State, s.pending = [] → Running s.blk → step s = .next (s.on fun b => fabricCatchUp (advanceTime 1 b)))

/-- Every command answers a next state, and leaves the queue of those that wait behind it as it was. -/
def Obligations.EveryCommandAnswers : Prop :=
  ∀ (c : Instr) (s : State), ∃ t, exec c s = .next t ∧ t.pending = s.pending

/-- The queue is worked off: as many steps as commands wait lead, without a stop, to a state in which none waits. -/
def Obligations.QueueDrains : Prop :=
  ∀ s : State, ∃ t, core.run s.pending.length s = .next t ∧ t.pending = []

/-- The frame of every command: a part of the block that its row of the table `partsOf` does not name is as it was. -/
def Obligations.CommandsKeepOtherParts : Prop :=
  ∀ (c : Instr) (s t : State), exec c s = .next t → ∀ p : Part, p ∉ partsOf c → p.Same s.blk t.blk

/-- The canonical form of registers and memories is kept by every step, whatever the command: register file, fabric RAMs and their words,
full-event flags, engines, test-pattern processors, lanes, DRAM channels and the configuration flash list no entry twice and none that equals
its reset or erased value, and the stored lines of each DRAM channel stand in rising order. -/
def Obligations.StepKeepsCanonicalForm : Prop :=
  ∀ s t : State, BlockWf s.blk = true → step s = .next t → BlockWf t.blk = true

/-- The canonical form holds at reset. -/
def Obligations.ResetIsCanonical : Prop := BlockWf State.reset.blk = true

/-- What reset leaves (R11, R39, R47, R190, R296, R409): no command waits, the device is in RESET, every register reads the value its map's Reset column
gives, DEV_TIME is 0, every sector is EMPTY with no frame written, every TPP is OFF, every lane DISABLED, every channel UNTRAINED, no response
and no open command stands in a mailbox, and no event is queued. -/
def Obligations.ResetState : Prop :=
  State.reset.pending = [] ∧ State.reset.blk.start.inReset = true ∧ State.reset.blk.devTime = 0 ∧
  (∀ a : Nat, State.reset.blk.reg a = regDefault a) ∧
  (∀ k : Fin 320, State.reset.blk.f (Rg.sector k.val) Rg.secState = 0) ∧ State.reset.blk.cfg.frames = [] ∧
  (∀ n : Fin 24, State.reset.blk.f (Rg.tpp n.val) Rg.tState = 0) ∧
  (∀ n : Fin 128, State.reset.blk.f (Rg.lane n.val) Rg.lState = 0) ∧
  (∀ n : Fin 8, State.reset.blk.f (Rg.dc n.val) Rg.dcState = 0) ∧
  State.reset.blk.mbx.rsp = [] ∧ State.reset.blk.mbx.opens = [] ∧ State.reset.blk.ev.frames = []

/-- In RESET nothing acts but PORST_N (R39): every command of another row leaves the whole state. -/
def Obligations.InReset : Prop :=
  ∀ (c : Instr) (s : State), actsOf c ≠ .always → s.blk.start.inReset = true → exec c s = .next s

/-- The device returns to RESET only when PORST_N is asserted (R39): no other row leads from a state out of RESET into RESET. -/
def Obligations.OnlyPorstResets : Prop :=
  ∀ (c : Instr) (s t : State), exec c s = .next t → s.blk.start.inReset = false → t.blk.start.inReset = true →
    ∃ lowNs may, c = .porstNAssert lowNs may

/-- While the root PLL's loss of lock gates the derived clocks (R85), and while a fabric die is in reset or its dividers have not aligned (R47,
R79), what runs on those clocks stands still: each of these commands leaves the whole state. -/
def Obligations.GatedRows : Prop :=
  (∀ (c : Instr) (s : State), actsOf c = .clocked → s.blk.clk.gated = true → exec c s = .next s) ∧
  (∀ (c : Instr) (d : Nat) (s : State), dieOf c = some d → dieOff s.blk d = true → exec c s = .next s)

/-- An entry of a mailbox page means what its bytes say (R563, R564, R572): the 64 bytes of a catalogue command's opcode, tag, version and
arguments, laid out by the rule of arguments, run that command with that header and those argument values; and every command of the
catalogue is a command of the table. -/
def Obligations.MailboxEntries : Prop :=
  (∀ (p : Port) (tag : BitVec 16) (r : CmdRow) (vals : List Nat) (s : Block),
    r ∈ cmdRows (entryOf r.op tag.toNat (r.args.zip vals)) → vals.length = r.args.length →
    (∀ x ∈ r.args.zip vals, x.2 < 2 ^ (8 * x.1)) →
    runEntry p (entryOf r.op tag.toNat (r.args.zip vals)) s = nextOf (r.run { port := p, tag := tag } (fun i => vals.getD i 0)) s) ∧
  (∀ (bs : List Nat) (r : CmdRow), r ∈ cmdRows bs → ∀ (h : Hdr) (a : Nat → Nat), ∃ c : Instr, ∀ s : State, r.run h a s = exec c s)

/-- An entry that spells no command (R563 to R565, R572): with an opcode that no row of the catalogue has it is answered with BAD_OPCODE; with a
version other than 2, a byte other than zero in bytes 5 to 7, or one behind its arguments, with BAD_ARG. -/
def Obligations.EntryChecks : Prop :=
  ∀ (p : Port) (bs : List Nat) (s : Block),
    let c := cmdOf { port := p, tag := BitVec.ofNat 16 (fieldAt bs 2 2) } (fieldAt bs 0 2)
    ((∀ r ∈ cmdRows bs, r.op ≠ fieldAt bs 0 2) → runEntry p bs s = s.respond c St.badOpcode) ∧
    (∀ r ∈ cmdRows bs, r.op = fieldAt bs 0 2 →
      (bs.getD 4 0 ≠ 2 ∨ zeroFrom bs 5 8 = false ∨ zeroFrom bs (argsFrom bs 8 r.args).2 64 = false) →
      runEntry p bs s = s.respond c St.badArg)

/-- What a mailbox command asks is checked before it acts, in this order (R41, R566, R567, R573, R608): from a port its row does not name, or
from JTAG where the fused level does not allow it, it is answered with AUTH_FAIL; an expert command at a port of level BASIC with
EXPERT_DISABLED; in a stage that does not permit it with REFUSED_STATE; and none of these has another effect.  A command that its port cannot
take now is not taken.  The same holds of protocol v1. -/
def Obligations.CommandChecks : Prop :=
  (∀ (c : Instr) (h : Hdr) (n : Need) (s : State), needOf c = some (h, n) → s.blk.start.inReset = false →
    let deny (st : Nat) : Host.Outcome State Fault Refusal := .next (s.on fun b => b.respond (cmdOf h n.op) st)
    let portOk : Prop := n.ports.contains h.port = true ∧ (h.port = .jtag → jtagAllows s.blk n.op = true)
    (canTake s.blk h.port false = false → exec c s = .next s) ∧
    (canTake s.blk h.port false = true →
      (¬ portOk → exec c s = deny St.authFail) ∧
      (portOk → n.expert = true → portLevel s.blk h.port = 0 → exec c s = deny St.expertDisabled) ∧
      (portOk → (n.expert = true → portLevel s.blk h.port ≠ 0) → stagePermits s.blk c n = false → exec c s = deny St.refusedState))) ∧
  (∀ (c : Instr) (h : Hdr) (op1 : Nat) (n : Need) (s : State), needOfV1 c = some (h, op1, n) → s.blk.start.inReset = false →
    let deny (st : Nat) : Host.Outcome State Fault Refusal := .next (s.on fun b => b.respond (cmdOfV1 h op1) st)
    let portOk : Prop := n.ports.contains h.port = true ∧ (h.port = .jtag → jtagAllows s.blk n.op = true)
    (canTake s.blk h.port true = false → exec c s = .next s) ∧
    (canTake s.blk h.port true = true →
      (¬ portOk → exec c s = deny St.authFail) ∧
      (portOk → n.expert = true → portLevel s.blk h.port = 0 → exec c s = deny St.expertDisabled) ∧
      (portOk → (n.expert = true → portLevel s.blk h.port ≠ 0) → stageOk s.blk n.stage = false → exec c s = deny St.refusedState)))

/-- The DRAM window (R29, R30), for channels whose capacities are whole granules and at most 256 GiB: in modes 0 and 1 an interleave set of k
channels maps k times the smallest capacity among them from its base, nothing of a channel beyond that capacity, and the rest of its range is a
hole; in mode 2 each channel's range holds its capacity from its base. -/
def Obligations.DramSets : Prop :=
  ∀ (s : Block) (a : Nat), s.dmap.caps.length = 8 → (∀ c ∈ s.dmap.caps, c ≤ 0x4000000000 ∧ c % granBytes s.dmap.gran = 0) →
    a < 0x20000000000 →
    (s.dmap.mode = 0 → ((∃ ch off, destOf s a = .dram ch off) ↔ a < 8 * minCap s.dmap.caps) ∧
      (∀ ch off, destOf s a = .dram ch off → off < minCap s.dmap.caps) ∧
      (8 * minCap s.dmap.caps ≤ a → destOf s a = .hole)) ∧
    (s.dmap.mode = 1 → ((∃ ch off, destOf s a = .dram ch off) ↔
        a % 0x10000000000 < 4 * minCap ((s.dmap.caps.drop (4 * (a / 0x10000000000))).take 4)) ∧
      (∀ ch off, destOf s a = .dram ch off → off < minCap ((s.dmap.caps.drop (4 * (a / 0x10000000000))).take 4)) ∧
      (4 * minCap ((s.dmap.caps.drop (4 * (a / 0x10000000000))).take 4) ≤ a % 0x10000000000 → destOf s a = .hole)) ∧
    (s.dmap.mode = 2 → destOf s a =
      if a % 0x4000000000 < s.dmap.caps.getD (a / 0x4000000000) 0 then .dram (a / 0x4000000000) (a % 0x4000000000) else .hole)

/-- Every byte of a DRAM channel has one address (R28, R423): the address that `dramJoin` gives leads back to the byte, and an address that
leads to a byte is the one that `dramJoin` gives; so no two addresses lead to one byte. -/
def Obligations.DramHome : Prop :=
  ∀ (s : Block) (ch off : Nat), s.dmap.mode = 0 ∨ s.dmap.mode = 1 ∨ s.dmap.mode = 2 →
    (∀ a, destOf s a = .dram ch off → a = dramJoin s.dmap ch off) ∧
    (ch < 8 → off < mappedCap s.dmap ch → off < 0x4000000000 → destOf s (dramJoin s.dmap ch off) = .dram ch off)

/-- PORST_N's filter (R48): a low pulse shorter than 1 µs has no effect, and one of 1 µs to 10 µs resets the device or has no effect, as the
row's operand says. -/
def Obligations.PulseFilter : Prop :=
  ∀ (lowNs : Nat) (may : Bool) (s : State),
    (lowNs < 1000 → exec (.porstNAssert lowNs may) s = .next s) ∧
    (1000 ≤ lowNs → lowNs < 10000 →
      exec (.porstNAssert lowNs true) s = .next (s.on deviceReset) ∧ exec (.porstNAssert lowNs false) s = .next s)

/-- PORST_N low for 10 µs or more resets the device whatever its state, and its release in RESET begins Stage 0 (R39, R47, R48).  The stages
follow when what they wait for has happened (R39, R42 to R44); the boot plate loads, or STAGE_DONE stands with no boot plate to load. -/
def Obligations.StartEvents : Prop :=
  (∀ (s : State) (lowNs : Nat) (may : Bool), 10000 ≤ lowNs → exec (.porstNAssert lowNs may) s = .next (s.on deviceReset)) ∧
  (∀ s : State, s.blk.start.inReset = true → exec .porstNRelease s = .next (s.on stage0Begin)) ∧
  (∀ s : State, Running s.blk →
    (∀ faults : List SeamFault, stageOf s.blk = 0 → s.blk.gr.up = true → s.blk.start.imageChosen = true →
      exec (.stage1Enter faults) s = .next (s.on fun b =>
        let b := applyStage1 (loadSettings false (b.put Rg.rst Rg.stage 1))
        let b := modStart (fun x => { x with fabricCleared := true }) (seamDeskew [0, 1, 2, 3] faults b)
        fwRebuild (rollbackCheck 1 (rollbackCheck 0 (checkOwnerKeys b))))) ∧
    (stageOf s.blk = 1 → s.blk.start.fabricCleared = true → linksSettled s.blk = true →
      exec .stage2Enter s = .next (s.on fun b =>
        let b := loadBursts (forEach (upto 4) openDie (b.put Rg.rst Rg.stage 2))
        let leave (n : Nat) (b : Block) : Block :=
          (modStart (fun x => { x with siteHeld := maskPut x.siteHeld n false }) b).emit (.siteReset n false)
        let b := applyRingComp (forEach (upto 34) discover (leave 2 (leave 1 b)))
        if setting b 0x0007 = 1 then ringListen b else b)) ∧
    (∀ fitted : BitVec 8, stageOf s.blk = 2 →
      exec (.stage3Enter fitted) s = .next (s.on (stage3Begin fitted))) ∧
    (stageOf s.blk = 3 → s.blk.start.trainingEnded = true → firmwareRuns s.blk = true → setting s.blk 0x0003 = 0 →
      exec .bootPlateLoad s = .next (s.on fun b => b.putB Rg.rst Rg.stageDone true)) ∧
    (∀ (l : Load) (b : Block), stageOf s.blk = 3 → s.blk.start.trainingEnded = true → firmwareRuns s.blk = true →
      setting s.blk 0x0003 = 1 → s.blk.start.bootReleased = false → s.blk.cfg.loads.any (fun l => l.boot) = false →
      checkPlate { op2 := 0, flash := true, addr := setting s.blk 0x0004, len := none, freeze := false, retain := false, target := 0,
                   region := 0, policy := 0, moveFrom := none, auto := false, boot := true } s.blk = (.inr l, b) →
      exec .bootPlateLoad s = .next (s.set (loadBegin l b))))

/-- Die and site resets take effect (R47, R50 to R53, R79, R483, R549, R671): DIE_RESET drains a die that leaves every other die a path to
HD, the reset takes effect when it is drained and answers its command, and its release clears the die; SITE_RESET asserts a site's line at once, and
its release lets it go. -/
def Obligations.ResetCommands : Prop :=
  ∀ s : State,
    (∀ (h : Hdr) (d : Nat), Admitted s.blk h { op := 0x0005, ports := [.h0, .svc], stage := 2 } → d < 4 →
      s.blk.flag Rg.rst (Rg.dieInReset d) = false →
      ((List.range 4).filter (fun x => s.blk.flag Rg.rst (Rg.dieInReset x))).length < 2 → cutsDie s.blk (fun _ _ => true) d = false →
      cutsDie s.blk (edgeUp s.blk) d = false →
      exec (.dieReset h d) s = .next (s.on fun b =>
        dieDrainStart d ((b.putB Rg.rst (Rg.dieInReset d) true).hold (cmdOf h 0x0005) 0x0005 d))) ∧
    (∀ (h : Hdr) (n : Nat), Admitted s.blk h { op := 0x0006, ports := [.h0, .svc], stage := 1 } → n < 3 →
      s.blk.start.siteHeld.getLsbD n = false →
      exec (.siteReset h n) s = .next (s.on fun b => (siteResetBegin n b).respond (cmdOf h 0x0006) St.ok)) ∧
    (∀ n : Fin 3, s.blk.start.inReset = false → s.blk.start.siteHeld.getLsbD n = true → 2 ≤ stageOf s.blk → stageOf s.blk ≠ 7 →
      exec (.siteResetRelease n) s = .next (s.on fun b =>
        let b := (modStart (fun x => { x with siteHeld := maskPut x.siteHeld n false }) b).emit (.siteReset n false)
        (siteModules n).foldl (fun b m => discover m b) b)) ∧
    (s.blk.start.inReset = false → s.blk.start.siteHeld.getLsbD 0 = true → (stageOf s.blk < 2 ∨ stageOf s.blk = 7) →
      exec (.siteResetRelease 0) s = .next (s.on fun b =>
        (modStart (fun x => { x with siteHeld := maskPut x.siteHeld 0 false }) b).emit (.siteReset 0 false))) ∧
    (∀ d : Fin 4, Running s.blk → s.blk.flag Rg.rst (Rg.dieInReset d) = true → s.blk.start.dieHeld.getLsbD d = false →
      dieDraining s.blk d = false → routedAround s.blk d = true →
      exec (.dieResetTakeEffect d) s = .next (s.on fun b =>
        let b := modStart (fun x => { x with dieHeld := maskPut x.dieHeld d true, unaligned := maskPut x.unaligned d false,
                                             fromReset := maskPut x.fromReset d false }) b
        (((dieBlocksReset d b).putB Rg.rst (Rg.dieReady d) false).putB Rg.rst (Rg.causeDieReset d) true).close 0x0005 d St.ok)) ∧
    (∀ (d : Fin 4) (faults : List SeamFault), Running s.blk → s.blk.start.dieHeld.getLsbD d = true →
      exec (.dieResetRelease d faults) s = .next (s.on fun b =>
        let b := modStart (fun x => { x with dieHeld := maskPut x.dieHeld d false, unaligned := maskPut x.unaligned d true,
                                             fromReset := maskPut x.fromReset d true }) b
        let b := rewriteRoutes (linkOnDie d) (seamDeskew (seamEdges d) faults (b.putB Rg.rst (Rg.dieInReset d) false))
        let b := loadBursts (openDie d b)
        sectorEvent d (((List.range 34).filter (hasEnd d)).foldl (fun b m => discover m b) b)))

/-- The Ring Port's insertion, leaving and packets take effect (R56 to R58, R63 to R68, R70, R73, R301, R302). -/
def Obligations.RingPort : Prop :=
  ∀ s : State, s.blk.start.inReset = false →
    (exec .vccauxLoss s = .next (s.on fun b =>
      (modRing (fun r => { r with vccaux := false }) b).putB Rg.ring Rg.ringBypassOpen false)) ∧
    (∀ h : Hdr, Admitted s.blk h { op := 0x000E, ports := [.h0, .svc], stage := 2 } → ringSt s.blk = 0 → s.blk.clk.gated = false →
      exec (.ringJoin h) s = .next (s.on fun b => (ringListen b).hold (cmdOf h 0x000E) 0x000E 0)) ∧
    (∀ h : Hdr, Admitted s.blk h { op := 0x000F, ports := [.h0, .svc], stage := 2 } → ringSt s.blk = 4 →
      exec (.ringLeave h) s = .next (s.on fun b => ((setRingSt 5 b).putB Rg.rst Rg.ringJoined false).hold (cmdOf h 0x000F) 0x000F 0)) ∧
    (s.blk.clk.gated = false →
      (ringSt s.blk = 1 → ringHears s.blk = false →
        exec .ringLockAcquired s = .next (s.on fun b =>
          let b := setRingSt 2 ((b.putB Rg.ring Rg.ringLocked true).putB Rg.clk Rg.clkRingOk true)
          if primaryRing b && !b.flag Rg.clk Rg.clkOnRing && !b.clk.ringUsed then startSlew true b else b)) ∧
      (ringHears s.blk = true → ringSt (ringRefLost (s.blk.putB Rg.ring Rg.ringLocked false)) = 2 →
        exec .ringLockLost s = .next (s.on fun b => ringListen (ringRefLost (b.putB Rg.ring Rg.ringLocked false)))) ∧
      (∀ delay length : BitVec 16, ringHears s.blk = true → s.blk.flag Rg.ring Rg.ringBypassOpen = false → 10 ≤ length.toNat →
        (ringSt s.blk = 2 ∨ ringSt s.blk = 4 ∨ ringSt s.blk = 5) → exec (.ringWindow delay length) s = .next (s.on (modRing fun r => { r with window := some (delay, length) }))) ∧
      (s.blk.ring.window.isSome = true → ringSt s.blk = 2 → s.blk.ring.vccaux = true →
        exec .ringWindowStart s = .next (s.on fun b =>
          ((setRingSt 3 (modRing (fun r => { r with window := none }) b)).putB Rg.ring Rg.ringBypassOpen true).emit
            (.ringPacket (ringPkt 0 [0, 0, 0, 0])))) ∧
      (s.blk.ring.window.isSome = true → ringSt s.blk = 5 →
        exec .ringWindowStart s = .next (s.on fun b =>
          let b := ((setRingSt 0 (modRing (fun r => { r with window := none }) b)).putB Rg.ring Rg.ringBypassOpen false).putB
            Rg.ring Rg.ringLocked false
          (modRing (fun r => { r with holdOff := false }) (ringRefLost b)).close 0x000F 0 St.ok)) ∧
      (∀ hop : BitVec 8, ringThrough s.blk = true → ringSt s.blk = 3 →
        exec (.ringCensus hop false) s = .next (s.on fun b =>
          let b := b.emit (.ringPacket (ringPkt 2 [min (hop.toNat + 1) 255, 0, 0, 0]))
          let b := modRing (fun r => { r with holdOff := false }) ((setRingSt 4 b).put Rg.ring Rg.ringPosition hop.toNat)
          (b.putB Rg.rst Rg.ringJoined true).close 0x000E 0 St.ok)) ∧
      (∀ (g : BitVec 16) (lead : BitVec 8), ringActs s.blk = true →
        exec (.ringStartPacket g lead) s = .next (s.on fun b =>
          let b := b.emit (.ringPacket (ringPkt 0x10 (leBytes 2 g.toNat ++ [0, lead.toNat])))
          (groupTpps b g.toNat (· == 3)).foldl (fun b n =>
            if (getTpp b n).startSrc ≠ 1 ∨ (getTpp b n).startAt.isSome then b
            else if ringTooLate b (ringInstant b lead.toNat (getTpp b n)) then runEnd n St.ringLate b
            else setTpp n { getTpp b n with startAt := some (ringInstant b lead.toNat (getTpp b n)) } b) b)) ∧
      (∀ (g : BitVec 16) (trig : BitVec 4) (lead : BitVec 8), ringActs s.blk = true →
        exec (.ringTriggerPacket g trig lead) s = .next (s.on fun b =>
          let b := b.emit (.ringPacket (ringPkt 0x11 (leBytes 2 g.toNat ++ [trig.toNat, lead.toNat])))
          let l := groupTpps b g.toNat (fun st => st == 3 || st == 4)
          let late (n : Nat) : Bool := ringTooLate b (ringInstant b lead.toNat (getTpp b n))
          let b' := l.foldl (fun b n =>
            if late n then b else tppTrigger n false trig.toNat (ringInstant b lead.toNat (getTpp b n)) b) b
          if l.any late then b'.bump Rg.ringLateCount else b')) ∧
      (∀ g : BitVec 16, ringSt s.blk = 4 → ringThrough s.blk = true →
        exec (.ringAbortPacket g) s = .next (s.on fun b =>
          let b := b.emit (.ringPacket (ringPkt 0x12 (leBytes 2 g.toNat ++ [0, 0])))
          (groupTpps b g.toNat (fun st => st == 3 || st == 4)).foldl (fun b n => runStopAt n St.ringAbort (nowPs b + 1) b) b)) ∧
      (∀ p : BitVec 64, ringThrough s.blk = true → ringHears s.blk = true →
        (ringCrcOk p = false → exec (.ringPacketForward p) s = .next (s.on fun b => (b.emit (.ringPacket p)).bump Rg.ringCrcErrCount)) ∧
        (ringCrcOk p = true → [1, 2, 0x10, 0x11, 0x12].contains (pktByte p 1) = false →
          exec (.ringPacketForward p) s = .next (s.on fun b => b.emit (.ringPacket p)))) ∧
      (ringSt s.blk = 2 → s.blk.ring.timeoutRaised = false →
        exec .ringJoinTimeout s = .next (s.on fun b =>
          (modRing (fun r => { r with timeoutRaised := true }) ((b.raise Ev.ringJoinTimeout ringOrigin).eicEdge srcRing)).close
            0x000E 0 St.timeout)))

/-- The root clock's events take effect (R75, R78, R85, R580): a lost reference is given up, the primary reference coming back is
slewed to, a slew ends, the root PLL's loss of lock makes the part safe, and fabric PLLs unlock and relock.  DEV_TIME's wrap sets
TIME_WRAP, and a marker brings DEV_TIME to the next multiple of 1,024 before what acts at it. -/
def Obligations.ClockEvents : Prop :=
  ∀ s : State, Running s.blk →
    (exec .alignmentMarker s = .next (s.on fun b =>
      let b := fabricCatchUp (advanceTime (nextMarker b.devTime.toNat - b.devTime.toNat) b)
      globalFenceMarker (rerouteMarker (platesMarker (clockMarker (shutterMarker (safeMarker (seamMarker (dieMarker b))))))))) ∧
    (exec .devTimeWrap s = .next (s.on fun b => ({ b with devTime := 0 }).putB Rg.clk Rg.clkTimeWrap true)) ∧
    (s.blk.flag Rg.clk Rg.clkClockFault = false →
      exec .primaryRingLost s = .next (s.on fun b => loseReference true (b.putB Rg.clk Rg.clkRingOk false)) ∧
      exec .refclkLost s = .next (s.on fun b => loseReference false (b.putB Rg.clk Rg.clkRefclkOk false))) ∧
    (s.blk.flag Rg.clk Rg.clkClockFault = false → s.blk.flag Rg.ring Rg.ringLocked = true →
      exec (.referenceRestored true) s = .next (s.on fun b =>
        let b := b.putB Rg.clk Rg.clkRingOk true
        if primaryRing b = true ∧ (b.flag Rg.clk Rg.clkOnRing = false ∨ b.flag Rg.clk Rg.clkHoldover = true) then startSlew true b else b)) ∧
    (s.blk.flag Rg.clk Rg.clkClockFault = false →
      exec (.referenceRestored false) s = .next (s.on fun b =>
        let b := b.putB Rg.clk Rg.clkRefclkOk true
        if primaryRing b = true then
          if b.flag Rg.clk Rg.clkHoldover = true ∧ (b.flag Rg.clk Rg.clkOnRing = false ∨ b.flag Rg.clk Rg.clkFallbackEn = true) then
            startSlew false b
          else b
        else if b.flag Rg.clk Rg.clkOnRing = true ∨ b.flag Rg.clk Rg.clkHoldover = true then startSlew false b else b)) ∧
    (exec .referenceSlewDone s = .next (s.on fun b => b.putB Rg.clk Rg.clkSlewing false)) ∧
    (s.blk.flag Rg.clk Rg.clkLocked = true →
      exec .rootPllUnlock s = .next (s.on fun b => clockFault (b.putB Rg.clk Rg.clkLocked false))) ∧
    (∀ (d : Fin 4) (p : Fin 16), dieOff s.blk d = false → s.blk.flag (Rg.fpll d p) Rg.fpllLocked = true →
      exec (.fpllUnlock d p) s = .next (s.on (fpllLosesLock d p))) ∧
    (∀ (d : Fin 4) (p : Fin 16), dieOff s.blk d = false → s.blk.flag (Rg.fpll d p) Rg.fpllInUse = true →
      exec (.fpllRelock d p) s = .next (s.on fun b =>
        { b.putB (Rg.fpll d p) Rg.fpllLocked true with
          clk := { b.clk with fpllStopped := b.clk.fpllStopped.filter (· != 16 * d.val + p),
                              fpllFree := b.clk.fpllFree.filter (· != 16 * d.val + p) } }))

/-- Seam wires and configuration upsets take effect (R117, R126 to R129).  A wire that carries data, on a group with a sending end that is
not LOST, and falls below MARGIN_MIN is steered to a spare when the receiving end's AUTO_STEER is 1; with 0 the event is raised that the
model chose (log entry 44).  A parity failure counts PARITY_ERRORS and steers the wire at once, turns a steering that runs into an abrupt one, and
loses the group when no spare carries parity.  An upset changes the stored bits of a frame and the bits of the configuration fields they hold. -/
def Obligations.FabricEvents : Prop :=
  (∀ (s : State) (e : Fin 4) (g : Fin 768) (w : Fin 34) (k side : Nat), Running s.blk → seamSender s.blk e g = some side →
    seamLogical s.blk e g w = some k → s.blk.flag (seamEnd e g 0) Rg.sgLost = false →
    (∀ margin : BitVec 6, seamSteerOf s.blk e g k = none →
      margin.toNat < s.blk.f (Rg.seam (seamDie e (1 - side))) Rg.seamMarginMin →
      exec (.seamMarginLoss e g w margin) s = .next (s.on
        (if s.blk.flag (Rg.seam (seamDie e (1 - side))) Rg.seamAutoSteer then fun b => seamSteer e g k 1 none (seamSpareFails e g w b)
         else fun b => b.raise Ev.seamWireSteered (originOf (0x22 + 0x20 * seamDie e (1 - side))) (seamNo e g * 0x100 + k) 1))) ∧
    exec (.seamParityFail e g w) s = .next (s.on
      (if seamParityOn s.blk e g = false then seamLose e g
       else fun b =>
        let b := b.bumpBy (seamEnd e g (1 - side)) seamCnt 1
        if (seamSteerOf b e g k).isSome then seamTurnAbrupt e g k b
        else seamSteer e g k 2 (some b.devTime) (seamSpareFails e g w b)))) ∧
  (∀ (s : State) (k : Fin 320) (f : Fin 6656) (bits : List (Fin 2093)), s.blk.start.inReset = false →
    ∃ t, exec (.configUpset k f bits) s = .next t ∧ t.pending = s.pending ∧ t.blk.regs = s.blk.regs ∧
      t.blk.cfg.frames = s.blk.cfg.frames ∧
      (∀ i x, ((spGet (fun _ => []) t.blk.cfg.upsets i).contains x) =
        ((spGet (fun _ => []) s.blk.cfg.upsets i).contains x ^^
          (i == 6656 * k.val + f && (bits.map (·.val)).contains x))) ∧
      (∀ key j, (spGet cfgCleared t.blk.cfg.fields key).testBit j =
        ((spGet cfgCleared s.blk.cfg.fields key).testBit j ^^
          (((bits.map (·.val)).eraseDups.filter fun x => frameBit k f x == some (key, j)).length % 2 == 1))))

/-- Fabric RAM cycles take effect at ports whose clock runs in a LIVE region (R130 to R151): the output stages of a port move on its edge, then
a port's cycle on its own, both ports' cycles on synchronous clocks, collisions within 200 ps on one word, or one after the other; QUEUE
mode's writes and reads with QERR at its ends, the scrub's reads and write-backs of every block of a cascade, and a starved scrub's event. -/
def Obligations.FabricRamCycles : Prop :=
  ∀ (s : State) (k : Fin 320), RunsOn s.blk (k.val / 80) →
    (∀ (i : Fin 68) (a b : RamReq) (near bFirst : Bool) (err : Fin 3), (ramSet s.blk k i).mode ≠ .queue →
      (portRuns s.blk k i false = true →
        exec (.ramPortAccess k i (some a) none near bFirst err) s = .next (s.on fun x =>
          portCycle k i false a err (stageEdge k i false a.orCe a.orSr x))) ∧
      (portRuns s.blk k i true = true →
        exec (.ramPortAccess k i none (some b) near bFirst err) s = .next (s.on fun x =>
          portCycle k i true b err (stageEdge k i true b.orCe b.orSr x))) ∧
      (portRuns s.blk k i false = true → portRuns s.blk k i true = true →
        let edges (x : Block) : Block := stageEdge k i true b.orCe b.orSr (stageEdge k i false a.orCe a.orSr x)
        let x := ramSet s.blk k i
        let clash := spansMeet (portSpan x i false a) (portSpan x i true b) && a.en && b.en &&
          (portWrites x false a || portWrites x true b)
        exec (.ramPortAccess k i (some a) (some b) near bFirst err) s = .next (s.on fun x =>
          if portsSync s.blk k i then bothSync k i a b err (edges x)
          else if near && clash then bothNear k i a b (edges x)
          else if bFirst then portCycle k i false a err (portCycle k i true b err (edges x))
          else portCycle k i true b err (portCycle k i false a err (edges x))))) ∧
    (∀ t : Fin 8, (ramSet s.blk k (60 + t.val)).mode = .queue →
      (∀ (din : BitVec 72) (we : BitVec 8), portRuns s.blk k (60 + t.val) false = true →
        exec (.tankQueueWrite k t din we) s = .next (s.on
          (if (getRam s.blk k (60 + t.val)).count < queueDepth (ramSet s.blk k (60 + t.val)) then queuePush k (60 + t.val) din we
           else fun x => setRam x k (60 + t.val) { getRam x k (60 + t.val) with qerr := true }))) ∧
      (∀ (ce : Bool) (err : Fin 3), portRuns s.blk k (60 + t.val) true = true →
        exec (.tankQueueRead k t ce false err) s = .next (s.on fun x =>
          queuePop k (60 + t.val) err (stageEdge k (60 + t.val) true ce false x)) ∧
        exec (.tankQueueRead k t ce true err) s = .next (s.on fun x =>
          let x := queuePop k (60 + t.val) err (stageEdge k (60 + t.val) true ce true x)
          setRam x k (60 + t.val) { getRam x k (60 + t.val) with qerr := false }))) ∧
    (∀ (i : Fin 68) (which : Fin 4) (err : Fin 3),
      (scrubs s.blk k i = true →
        exec (.userRamScrubRead k i which err) s = .next (s.on fun x =>
          forEach (upto (if isTray i then 1 else Nat.max 1 (ramSet s.blk k i).cascade))
            (fun j => scrubBlock k (i + j) (if j == which then err else 0))
            { x with once := spSet (fun _ => false) x.once (starvedKey k i) false })) ∧
      (∀ w, (getRam s.blk k i).scrubBack = some w → scrubs s.blk k (cascadeHead s.blk k i) = true →
        exec (.userRamScrubWriteback k i) s = .next (s.on fun x =>
          let r := getRam x k i
          setRam x k i { r with scrubBack := none, marks := spSet (fun _ => 0) r.marks w 0 })) ∧
      (scrubs s.blk k i = true → spGet (fun _ => false) s.blk.once (starvedKey k i) = false →
        exec (.scrubStarved k i) s = .next (s.on fun x =>
          let x := { x with once := spSet (fun _ => false) x.once (starvedKey k i) true }
          (x.raise Ev.scrubStarved (originOf (0x26 + 0x20 * (k.val / 80))) k i).eicEdge (eicDie (k.val / 80) 21))))

/-- An engine that runs executes the legal instruction at its program counter (R158 to R164, R169, R175 to R183), unless it stalls on
an empty FIFO or a full OQ outside a REP; it has acted on the levels of its lines before. -/
def Obligations.EngineInstructions : Prop :=
  ∀ (s : State) (e : Fin 15360) (w : Nat), RunsOn s.blk (e.val / 3840) →
    (EngineAt s.blk e 0x0 w → exec (.engineNop e) s = .next (s.on fun b => setEng b e (advance (engSettle (getEng b e))))) ∧
    (EngineAt s.blk e 0x1 w → ∀ x y : Fin 3, stallsIn (engSettle (getEng s.blk e)) [ifld w 59 57, ifld w 56 54, ifld w 53 51] = false →
      stallsOut (engSettle (getEng s.blk e)) (ifld w 37 36) = false →
      exec (.engineMac e x y) s = .next (s.on fun b =>
        let h := fetch e x y [ifld w 59 57, ifld w 56 54, ifld w 53 51] (engReady e b)
        setEng h.2 e (advance (popsAndSteps w (macCompute w h.1 (getEng h.2 e)))))) ∧
    (EngineAt s.blk e 0x2 w → ∀ x y : Fin 3, stallsIn (engSettle (getEng s.blk e)) [ifld w 59 57, ifld w 56 54, ifld w 53 51] = false →
      stallsOut (engSettle (getEng s.blk e)) (ifld w 37 36) = false →
      exec (.engineNmac e x y) s = .next (s.on fun b =>
        let h := fetch e x y [ifld w 59 57, ifld w 56 54, ifld w 53 51] (engReady e b)
        let g := (List.range 8).foldl (fun g j => nmacLane (ifld w 45 43) (srcVal h.1 (ifld w 59 57)) (srcVal h.1 (ifld w 56 54))
          (srcVal h.1 (ifld w 53 51)) j g) (getEng h.2 e)
        setEng h.2 e (advance (popsAndSteps w (if ifld w 37 36 = 1 then nmacOut w g else g))))) ∧
    (EngineAt s.blk e 0x3 w → exec (.engineNorm e) s = .next (s.on fun b =>
      let g := engSettle (getEng b e)
      let r := min (redundant g.accR) (redundant g.accI)
      let g := { g with exp := BitVec.ofNat 6 r }
      setEng b e (advance (if ifld w 59 59 = 1 then { g with accR := g.accR <<< r, accI := g.accI <<< r } else g)))) ∧
    (EngineAt s.blk e 0x4 w → exec (.engineAgset e) s = .next (s.on fun b =>
      let g := engSettle (getEng b e)
      let a : AddrGen := { base := BitVec.ofNat 9 (ifld w 57 49), step := BitVec.ofNat 10 (ifld w 48 39),
                           mod := agMod (ifld w 38 29), bitrev := ifld w 58 58 == 1, ri := ifld w 28 20, wi := ifld w 19 11 }
      setEng b e (advance (if ifld w 59 59 = 1 then { g with ag1 := a } else { g with ag0 := a })))) ∧
    (EngineAt s.blk e 0x5 w → ifld w 59 59 = 0 → ∀ x y : Fin 3, exec (.engineSet e x y) s = .next (s.on fun b =>
      let g := engSettle (getEng b e)
      let g := if ifld w 58 58 = 1 then { g with exp := BitVec.ofNat 6 (ifld w 53 48) } else g
      let g := if ifld w 57 57 = 1 then { g with flags := g.flags &&& 0x80#8 } else g
      setEng b e (advance (popsAndSteps w g)))) ∧
    (EngineAt s.blk e 0x5 w → ifld w 59 59 = 1 → ∀ x y : Fin 3, stallsIn (engSettle (getEng s.blk e)) [ifld w 56 54] = false →
      exec (.engineSet e x y) s = .next (s.on fun b =>
        let h := fetch e x y [ifld w 56 54] (engReady e b)
        let g := getEng h.2 e
        let g := { g with nw := BitVec.ofNat 32 (if ifld w 56 54 = 0 then ifld w 31 0 else srcVal h.1 (ifld w 56 54)) }
        let g := if ifld w 58 58 = 1 then { g with exp := BitVec.ofNat 6 (ifld w 53 48) } else g
        let g := if ifld w 57 57 = 1 then { g with flags := g.flags &&& 0x80#8 } else g
        setEng h.2 e (advance (popsAndSteps w g)))) ∧
    (EngineAt s.blk e 0x8 w → exec (.engineRep e) s = .next (s.on fun b =>
      setEng b e { nextPc (engSettle (getEng b e)) with rep := some (repCount (ifld w 59 48)) })) ∧
    (EngineAt s.blk e 0x9 w → exec (.engineLoop e) s = .next (s.on fun b =>
      let g := engSettle (getEng b e)
      let stop := BitVec.ofNat 5 (ifld w 47 43)
      setEng b e (haltCheck (if stop = g.pc then { g with pc := g.pc + 1 }
        else { g with pc := g.pc + 1, loop := some (g.pc + 1, stop, repCount (ifld w 59 48)) })))) ∧
    (EngineAt s.blk e 0xA w → exec (.engineJmp e) s = .next (s.on fun b =>
      let g := engSettle (getEng b e)
      setEng b e (if engCond g (ifld w 59 57) then haltCheck { g with pc := BitVec.ofNat 5 (ifld w 47 43) } else advance g))) ∧
    (EngineAt s.blk e 0xB w → engCond (engSettle (getEng s.blk e)) (ifld w 59 57) = true →
      exec (.engineWait e) s = .next (s.on fun b => setEng b e (advance (engSettle (getEng b e))))) ∧
    (EngineAt s.blk e 0xC w → exec (.engineSig e) s = .next (s.on fun b =>
      let x := setEng b e (advance { engSettle (getEng b e) with gpo0 := ifld w 59 59 == 1, gpo1 := ifld w 58 58 == 1 })
      if ifld w 57 57 = 1 then x.emit (.engineEvt e) else x)) ∧
    (EngineAt s.blk e 0xF w → exec (.engineStop e) s = .next (s.on fun b =>
      setEng b e { engSettle (getEng b e) with mode := .draining, loop := none }))

/-- The fabric's lines and FIFO ports of an engine take effect (R172, R176 to R181): START on an idle engine, at once or when HALT falls or
its clock runs again, HALT and its release, RST both ways, words into IA and IB while they have room and out of OQ, each on its own clock, GPI
levels, and the end of a program's drain with its DONE pulse. -/
def Obligations.EnginePorts : Prop :=
  ∀ (s : State) (e : Fin 15360), RunsOn s.blk (e.val / 3840) →
    (engInReset s.blk e = false → (getEng s.blk e).mode = .idle →
      exec (.engineStart e) s = .next (s.on fun b => setEng b e
        (if engUp s.blk e = true ∧ (getEng b e).halt = false then { getEng b e with mode := .running, pc := 0, startReq := false }
         else { getEng b e with startReq := true }))) ∧
    (engUp s.blk e = true → (getEng s.blk e).mode = .running → (getEng s.blk e).rep = none → (getEng s.blk e).inProgress = false →
      exec (.engineHalt e) s = .next (s.on fun b => setEng b e { getEng b e with halt := true, mode := .halted })) ∧
    ((getEng s.blk e).mode = .running → (getEng s.blk e).rep.isSome || (getEng s.blk e).inProgress →
      exec (.engineHalt e) s = .next (s.on fun b => setEng b e { getEng b e with halt := true })) ∧
    (engUp s.blk e = true → (getEng s.blk e).mode = .halted →
      exec (.engineHaltRelease e) s = .next (s.on fun b => setEng b e { getEng b e with halt := false, mode := .running })) ∧
    (engUp s.blk e = true → (getEng s.blk e).mode = .idle → (getEng s.blk e).startReq = true →
      exec (.engineHaltRelease e) s = .next (s.on fun b =>
        setEng b e { getEng b e with halt := false, mode := .running, pc := 0, startReq := false })) ∧
    (∀ word, fifoUp s.blk e 1 = true → (getEng s.blk e).ib.length < 16 →
      exec (.engineFifoWrite e true word) s = .next (s.on fun b => setEng b e { getEng b e with ib := (getEng b e).ib ++ [word] })) ∧
    (∀ word, fifoUp s.blk e 0 = true → (getEng s.blk e).ia.length < 16 →
      exec (.engineFifoWrite e false word) s = .next (s.on fun b => setEng b e { getEng b e with ia := (getEng b e).ia ++ [word] })) ∧
    (fifoUp s.blk e 2 = true →
      exec (.engineOqRead e) s = .next (s.on fun b => setEng b e { getEng b e with oq := (getEng b e).oq.drop 1 })) ∧
    (engUp s.blk e = true → (getEng s.blk e).mode = .draining → exec (.engineStopDrained e) s = .next (s.on fun b =>
      (setEng b e { getEng b e with mode := .idle }).emit (.engineDone e))) ∧
    (exec (.engineReset e true) s = .next (s.on fun b =>
      setEng b e { engReset (agInit b e 0) (agInit b e 1) (getEng b e) with rst := true })) ∧
    (exec (.engineReset e false) s = .next (s.on fun b => setEng b e { getEng b e with rst := false })) ∧
    (∀ g0 g1, exec (.engineGpiChange e g0 g1) s = .next (s.on fun b => setEng b e { getEng b e with gpi0 := g0, gpi1 := g1 }))

/-- Plate commands take effect (R190, R206, R208, R213 to R215, R227, R230): a plate that passes CHECK begins to load, with the command
held; a relocation of a retained plate whose digests still hold begins as one; freezing, release and reset of a region
are asked for and answered later, the release with the regions that one full plate loaded along; REGION_CLEAR, PLATE_SPARES, PLATE_UNRETAIN and PLATE_STATUS answer at once. -/
def Obligations.PlateCommands : Prop :=
  ∀ (s : State) (h : Hdr),
    (∀ (src fr ret target region policy addr len : Nat) (l : Load) (b : Block),
      Admitted s.blk h { op := 0x0100, ports := [.h0, .p1, .p2, .svc, .fab], stage := 3 } → s.blk.start.trainingEnded = true →
      src < 2 → fr < 2 → ret < 2 →
      checkPlate { op2 := 0x0100, flash := src == 1, addr := addr, len := some len, freeze := fr == 1, retain := ret == 1,
                   target := target, region := region % 256, policy := BitVec.ofNat 32 policy, moveFrom := none, auto := false,
                   boot := false } s.blk = (.inr l, b) →
      exec (.plateLoad h src fr ret target region policy addr len) s =
        .next (s.set (loadBegin l (b.hold (cmdOf h 0x0100) 0x0100 l.id)))) ∧
    (∀ (r target : Nat) (q : LoadAsk) (b b' : Block) (l : Load),
      Admitted s.blk h { op := 0x0101, ports := [.h0, .p1, .p2, .svc, .fab], stage := 3 } → 1 ≤ r → r < 256 →
      relocAsk s.blk r (if target = 0xFFFF then (suitableSpares s.blk r).headD 0xFFFF else target) 0x0101 false = some q → s.blk.cfg.loads.any (fun x => x.regions.contains r) = false →
      inCutover s.blk r = false → retainedOk s.blk r = (true, b) → checkPlate q b = (.inr l, b') →
      exec (.plateRelocate h r target) s = .next (s.set (loadBegin l (b'.hold (cmdOf h 0x0101) q.op2 l.id)))) ∧
    (∀ r : Nat, 1 ≤ r → r < 256 →
      (Admitted s.blk h { op := 0x0102, ports := [.h0, .p1, .p2, .svc, .fab], stage := 3 } → regionLive s.blk r = true →
        held s.blk [0x0102] r = false → s.blk.cfg.freezes.any (fun f => f.region == r) = false →
        exec (.regionFreeze h r) s = .next (s.on fun b => (freezeStart r b).hold (cmdOf h 0x0102) 0x0102 r)) ∧
      (Admitted s.blk h { op := 0x0104, ports := [.h0, .p1, .p2, .svc, .fab], stage := 3 } → regionLive s.blk r = true →
        held s.blk [0x0104] r = false →
        exec (.regionReset h r) s = .next (s.on fun b =>
          (modCfg (fun c => { c with resets := c.resets ++ [(r, false)] }) b).hold (cmdOf h 0x0104) 0x0104 r)) ∧
      (Admitted s.blk h { op := 0x0105, ports := [.h0, .p1, .p2, .svc, .fab], stage := 3 } →
        regionState s.blk r = 2 ∨ regionState s.blk r = 4 → s.blk.cfg.loads.any (fun l => l.regions.contains r) = false → inCutover s.blk r = false →
        exec (.regionClear h r) s = .next (s.on fun b =>
          (portsReset (regionAps b r) (emptySectors (regionSectors b r) b)).respond (cmdOf h 0x0105) St.ok)) ∧
      (Admitted s.blk h { op := 0x0107, ports := [.h0, .p1, .p2, .svc, .fab], stage := 3 } →
        exec (.plateUnretain h r) s = .next (s.on fun b =>
          (setRegion r { getRegion b r with retained := none } b).respond (cmdOf h 0x0107) St.ok)) ∧
      (Admitted s.blk h { op := 0x0108, ports := [.h0, .p1, .p2, .svc, .fab], stage := 3 } →
        exec (.plateStatus h r) s = .next (s.on fun b =>
          b.respond (cmdOf h 0x0108) St.ok [(1, regionState b r), (40, (regionSectors b r).foldl (fun m k => m + 2 ^ k) 0),
            (1, (getRegion b r).retained.isSome.toNat), (2, (getRegion b r).lastLoad)]))) ∧
    (∀ m : BitVec 256, Admitted s.blk h { op := 0x0103, ports := [.h0, .p1, .p2, .svc, .fab], stage := 3 } →
      bitsOf 256 m.toNat ≠ [] → ¬ (0 ∈ bitsOf 256 m.toNat) → (∀ r ∈ withFull s.blk (bitsOf 256 m.toNat), releasable s.blk r = true) →
      exec (.regionRelease h m) s = .next (s.on fun b =>
        (releaseAsk (withFull b (bitsOf 256 m.toNat)) b).hold (cmdOf h 0x0103) 0x0103 b.cfg.nextLoad)) ∧
    (∀ m : BitVec 320, Admitted s.blk h { op := 0x0106, ports := [.h0, .p1, .p2, .svc, .fab], stage := 3 } →
      exec (.plateSpares h m) s = .next (s.on fun b =>
        ((List.range 320).foldl (fun b k => b.putB (Rg.sector k) Rg.secSpare (m.getLsbD k)) b).respond (cmdOf h 0x0106) St.ok))

/-- The loader's own steps and those of freezes, cutovers, links and the configuration scrub take effect (R200, R208, R214, R222, R226 to
R231) while Greone firmware is not restarting: records of a frame with their CRC, one-hot and read-back checks, the end of STREAM, of VERIFY, of a
freeze's drain, a cutover's start, links over a LOST group, the scrub of a frame, and the reload and relocation after errors. -/
def Obligations.PlateEvents : Prop :=
  ∀ s : State, Running s.blk → s.blk.gr.restarting = false →
    (∀ (id i n : Nat) (l : Load) (rest : List (Nat × Nat)) (d : PlateSec) (bs : List Nat),
      s.blk.cfg.loads.find? (fun x => x.id == id) = some l → l.state = 1 → l.records = (i, n) :: rest →
      l.secs.find? (fun x => x.index == i) = some d → sectionBytes l d = .inr bs →
      (∀ back, fieldAt (frameRecord bs n) 260 4 ≠ crc32 ((frameRecord bs n).take 260) →
        exec (.frameRecordWrite id back) s = .next (s.on (loadFail l ldSectionCrc (fieldAt (frameRecord bs n) 0 4)))) ∧
      (∀ back, fieldAt (frameRecord bs n) 260 4 = crc32 ((frameRecord bs n).take 260) →
        (frameNames d (fieldAt (frameRecord bs n) 0 4) &&
          frameAllowed l (recordSector l d) (recordFrame (frameRecord bs n)) (frameData (frameRecord bs n)) s.blk) = false →
        exec (.frameRecordWrite id back) s = .next (s.on (loadFail l ldFrameReject (fieldAt (frameRecord bs n) 0 4)))) ∧
      (fieldAt (frameRecord bs n) 260 4 = crc32 ((frameRecord bs n).take 260) →
        frameNames d (fieldAt (frameRecord bs n) 0 4) = true →
        frameAllowed l (recordSector l d) (recordFrame (frameRecord bs n)) (frameData (frameRecord bs n)) s.blk = true →
        let k := recordSector l d
        let f := recordFrame (frameRecord bs n)
        let data := frameData (frameRecord bs n)
        let put (b : Block) : Block := frameFields k f (some data) (modCfg (fun c => { c with
          frames := spSet (fun _ => none) c.frames (6656 * k + f) (some data),
          upsets := spSet (fun _ => []) c.upsets (6656 * k + f) [] }) b)
        exec (.frameRecordWrite id true) s = .next (s.on fun b => modLoad l.id (fun x => { x with records := rest }) (put b)) ∧
        exec (.frameRecordWrite id false) s = .next (s.on fun b =>
          hardFault k (loadFail l ldFrameWriteFail (frameAddr k f) (put b))))) ∧
    (∀ (id : Nat) (l : Load) (dies : List DieSettings) (routes : List LinkRoute) (rs : List (Nat × List RamRec)),
      s.blk.cfg.loads.find? (fun x => x.id == id) = some l → l.state = 1 → l.records = [] → sectionsBad l = none →
      loadRams l = .inr rs →
      ((if l.hdr.kind = 2 then [] else dies).findSome? (settingsConflict s.blk l)) = none →
      exec (.loadStreamDone id dies routes) s = .next (s.on fun b =>
        let dies := if l.hdr.kind = 2 then [] else dies
        streamEnd l dies routes (dies.foldl (fun b x => putSettings x b) (putRams l.targets rs b)))) ∧
    (∀ (id : Nat) (l : Load) (faults : List SeamFault) (sig : Bool) (b : Block),
      s.blk.cfg.loads.find? (fun x => x.id == id) = some l → l.state = 2 → pllsLocked s.blk l.plls = true →
      plateSigned l s.blk = (some sig, b) → digestsOk l = true → sig = true ∨ l.moveFrom.isSome = true →
      counterReading b 1 ≤ l.hdr.svn ∨ l.moveFrom.isSome = true →
      exec (.loadVerifyDone id faults) s = .next (s.set (loadPassed l (sha256 l.signed) faults b))) ∧
    (∀ r : Nat, exec (.freezeDrainEnd r) s = .next (s.on (modCfg fun c => { c with
      freezes := c.freezes.map (fun f => if f.region == r then { f with phase := 1 } else f) }))) ∧
    (∀ (r : Nat) (y : Cutover), s.blk.cfg.cutovers.find? (fun x => x.region == r && x.step == 0) = some y →
      exec (.relocateCutover r) s = .next (s.on fun b => freezeStart r (modCfg (fun c => { c with
        cutovers := c.cutovers.map (fun x => if x.region == r && x.step == 0 then { x with step := 1 } else x) })
        (y.links.foldl (fun b l => writeTaps l.1 l.2 b) b)))) ∧
    (∀ (i : Nat) (x : Link), getLink s.blk i = some x → x.hops.any (hopLost s.blk) = true →
      (∀ r, routeOk s.blk i x (timedHops x.latency r) = true →
        exec (.linkReroute i (some r)) s = .next (s.on fun b =>
          (setLink i { x with hops := timedHops x.latency r, writing := false } b).raise Ev.linkRerouted (originOf 0x01) i)) ∧
      exec (.linkReroute i none) s = .next (s.on (modCfg fun c => { c with
        links := spSet (fun _ => none) c.links i (some { x with writing := true }) }))) ∧
    (∀ d : Fin 4, dieOff s.blk d = false →
      let pos := spGet (fun _ => 0) s.blk.cfg.scrubPos d
      let i := 6656 * (80 * d.val + pos / 6656) + pos % 6656
      let on : Block → Block := modCfg (fun c => { c with
        scrubPos := spSet (fun _ => 0) c.scrubPos d (if 532480 ≤ pos + 1 then 0 else pos + 1) })
      secState s.blk (80 * d.val + pos / 6656) ≠ 1 →
      (spGet (fun _ => []) s.blk.cfg.upsets i = [] → exec (.configScrubFrame d) s = .next (s.on fun b =>
        modCfg (fun c => { c with fixes := spSet (fun _ => (0, 0)) c.fixes i (0, 0) }) (on b))) ∧
      (∀ x, spGet (fun _ => []) s.blk.cfg.upsets i = [x] →
        exec (.configScrubFrame d) s = .next (s.on fun b =>
          if x < 2061 then scrubSbe (80 * d.val + pos / 6656) i x (on b)
          else scrubMbe (80 * d.val + pos / 6656) (pos % 6656) (on b))) ∧
      (∀ x y l, spGet (fun _ => []) s.blk.cfg.upsets i = x :: y :: l →
        exec (.configScrubFrame d) s = .next (s.on fun b => scrubMbe (80 * d.val + pos / 6656) (pos % 6656) (on b)))) ∧
    (∀ (k : Fin 320) (b : Block), k.val ∈ s.blk.cfg.mbeWait → secState s.blk k = 4 →
      retainedOk (modCfg (fun c => { c with mbeWait := c.mbeWait.filter (· != k.val) }) s.blk) (secRegion s.blk k) = (true, b) →
      exec (.mbeReload k) s = .next (s.set (
        let r := secRegion s.blk k
        let x := (rewriteFrames k b).putB (Rg.sector k) Rg.secHardFault false
        if x.cfg.mbeWait.any (fun j => secRegion x j == r) then x else releaseAsk [r] x))) ∧
    (∀ (r spare : Nat) (q : LoadAsk) (old : Nat) (b b' : Block) (l : Load), relocAsk s.blk r spare 0 true = some q →
      q.moveFrom = some old → (getRegion s.blk r).policy.getLsbD 2 = true → s.blk.flag (Rg.sector old) Rg.secHardFault = true →
      secState s.blk old = 3 ∨ secState s.blk old = 4 → s.blk.cfg.loads.any (fun x => x.regions.contains r) = false →
      inCutover s.blk r = false → spare ∈ suitableSpares s.blk r →
      retainedOk s.blk r = (true, b) → checkPlate q b = (.inr l, b') →
      exec (.autoRelocate r spare) s = .next (s.set (loadBegin l b')))

/-- Shutter commands and events take effect (R232 to R234, R237, R239 to R242, R245, R246): a readable, valid descriptor arms a session; resume
and cancel act on a held, an armed or a reading one; a trigger line sets T; the fabric clocks' edges up to 192 ns past T, which capture, the
records, the time-out and the trailer follow. -/
def Obligations.ShutterCommands : Prop :=
  (∀ (s : State) (h : Hdr),
    (∀ (addr : Nat) (bs : List Nat) (b : Block) (x : ShutSt),
      Admitted s.blk h { op := 0x0200, ports := [.h0, .p1, .p2, .svc, .fab], stage := 3 } → s.blk.shut.state = 0 →
      readMem srcGreone addr 128 s.blk = (some bs, b) → shutParse b bs (cmdOf h 0x0200) = .inr x →
      exec (.shutter h addr) s = .next (s.set ((setShut x b).hold (cmdOf h 0x0200) 0x0200 0))) ∧
    (Admitted s.blk h { op := 0x0201, ports := [.h0, .p1, .p2, .svc, .fab], stage := 3 } → s.blk.shut.state = 4 →
      s.blk.shut.resume = none →
      exec (.shutterResume h) s = .next (s.on fun b =>
        (setShut { b.shut with resume := some (cmdOf h 0x0201) } b).hold (cmdOf h 0x0201) 0x0201 0)) ∧
    (Admitted s.blk h { op := 0x0202, ports := [.h0, .p1, .p2, .svc, .fab], stage := 3 } →
      s.blk.shut.state = 1 ∨ s.blk.shut.state = 3 →
      exec (.shutterCancel h) s = .next (s.on fun b => (shutEnd (shutAnswer St.cancelled b)).respond (cmdOf h 0x0202) St.ok)) ∧
    (Admitted s.blk h { op := 0x0203, ports := [.h0, .p1, .p2, .svc, .fab], stage := 3 } →
      exec (.shutterStatus h) s = .next (s.on fun b =>
        b.respond (cmdOf h 0x0203) St.ok [(1, b.shut.state), (2, b.shut.session.toNat), (8, (b.shut.time.getD 0).toNat)]))) ∧
  (∀ s : State, Running s.blk →
    (∀ l : Fin 8, s.blk.shut.state = 1 → s.blk.shut.kind = 2 → s.blk.shut.line = l → s.blk.shut.time = none →
      exec (.shutterTriggerLine l) s = .next (s.on fun b => setShut { b.shut with time := some (b.devTime + 16) } b)) ∧
    (∀ t : BitVec 64, s.blk.shut.time = some t → s.blk.shut.state = 1 ∨ s.blk.shut.state = 2 →
      exec .shutterCapture s = .next (s.on fun b => fabricCatchUp (reachTime (t + 192) b))) ∧
    (s.blk.shut.state = 2 → exec .shutterNoEdgeTimeout s = .next (s.on fun b =>
      let b := fabricCatchUp (reachTime (b.shut.time.getD 0 + 1000000) b)
      if b.shut.state = 2 then shutReading (setShut { b.shut with noEdge := b.shut.domain &&& ~~~b.shut.captured } b) else b)) ∧
    (s.blk.shut.state = 3 → s.blk.shut.next < shutTotal s.blk.shut →
      (s.blk.shut.next < shutClusters s.blk.shut →
        exec .contactRecordWrite s = .next (s.on fun b => clusterRecord b.shut.next b)) ∧
      (shutClusters s.blk.shut ≤ s.blk.shut.next →
        exec .contactRecordWrite s = .next (s.on fun b => memoryRecord (b.shut.next - shutClusters b.shut) b))) ∧
    (s.blk.shut.state = 3 → shutTotal s.blk.shut ≤ s.blk.shut.next → exec .shutterReadoutDone s = .next (s.on shutTrailer)))

/-- I/O events take effect (R255, R257, R261, R265, R266, R268, R269): a bank's VCCO outside 8% of its class and back within 5%, its level, a
die's calibration from Stage 1 on; a write of IO_PIN; and on the pins of a design that runs the delay steps and the termination that its plate
enables. -/
def Obligations.IoEvents : Prop :=
  ∀ (s : State) (d : Fin 4) (b : Fin 8) (n : Fin 384), s.blk.start.inReset = false →
    (∀ mv : BitVec 12,
      (classMv s.blk d b ≠ 0 → ¬ (8 * d.val + b.val) ∈ s.blk.io.faulted → within 8 (classMv s.blk d b) mv.toNat = false →
        exec (.vccoFaultEnter d b mv) s = .next (s.on fun x => bankFault d b (vccoNow d b mv.toNat x))) ∧
      (classMv s.blk d b ≠ 0 → (8 * d.val + b.val) ∈ s.blk.io.faulted → within 5 (classMv s.blk d b) mv.toNat = true →
        exec (.vccoFaultExit d b mv) s = .next (s.on fun x => bankClears d b (vccoNow d b mv.toNat x))) ∧
      exec (.vccoLevelChange d b mv) s = .next (s.on (vccoNow d b mv.toNat))) ∧
    (∀ ok : Bool, stageOf s.blk ≠ 0 → stageOf s.blk ≠ 7 → exec (.ioCalibration d ok) s = .next (s.on (ioCalibrated d ok))) ∧
    (∀ v : BitVec 64, pinExists n = true →
      (∀ high : Bool, exec (.ioPinWrite d n true high v) s = .next (s.on fun x => safeWritten d n (x.plainWrite (Rg.ioPin d n) true v.toNat))) ∧
      exec (.ioPinWrite d n false false v) s = .next (s.on fun x => safeWritten d n (x.plainWrite (Rg.ioPin d n) false v.toNat)) ∧
      exec (.ioPinWrite d n false true v) s = .next (s.on fun x => x.plainWrite (Rg.ioPin d n + 4) false v.toNat)) ∧
    (s.blk.clk.gated = false → dieOff s.blk d = false →
      (n.val < 288 → pinFabric s.blk d n = true → (pinLogic s.blk d n).dlyEn = true → ∀ output : Bool,
        let fl := if output then Rg.pinOdelay else Rg.pinIdelay
        exec (.delayFabricStep d n output true) s = .next (s.on fun x =>
          if x.f (Rg.ioPin d n) fl < 255 then x.put (Rg.ioPin d n) fl (x.f (Rg.ioPin d n) fl + 1) else x) ∧
        exec (.delayFabricStep d n output false) s = .next (s.on fun x => x.put (Rg.ioPin d n) fl (x.f (Rg.ioPin d n) fl - 1))) ∧
      (n.val < 288 → s.blk.f (Rg.ioPin d n) Rg.pinOwner = 1 → exec (.delayLineTapMove d n) s = .next (s.on fun x =>
        (x.put (Rg.ioPin d n) Rg.pinIdelayNow (towards (x.f (Rg.ioPin d n) Rg.pinIdelayNow) (x.f (Rg.ioPin d n) Rg.pinIdelay))).put
          (Rg.ioPin d n) Rg.pinOdelayNow (towards (x.f (Rg.ioPin d n) Rg.pinOdelayNow) (x.f (Rg.ioPin d n) Rg.pinOdelay)))) ∧
      (pinFabric s.blk d n = true → (pinLogic s.blk d n).termEn = true → ∀ on : Bool, exec (.termEnChange d n on) s = .next (s.on
        (modIo fun x => { x with termOn := spSet (fun _ => false) x.termOn (ioKey d n) on }))))

/-- TPP commands take effect (R292, R294, R298, R300, R676): an IDLE TPP loads its cache, arms a run from a valid descriptor, which is READY
at once without a stream buffer, and calibrates; abort and site changes act on armed and running ones. -/
def Obligations.TppCommands : Prop :=
  ∀ (s : State) (h : Hdr),
    (∀ (n addr first count : Nat) (bs : List Nat) (b : Block),
      Admitted s.blk h { op := 0x0300, ports := [.h0, .p1, .p2, .svc, .fab], stage := 3 } →
      dieOff s.blk (n / 6) = false → n < 24 → first + count ≤ 32768 → addr % 32 = 0 → tppState s.blk n = 2 →
      readMem (srcTpp n) addr (32 * count) s.blk = (some bs, b) →
      exec (.tppLoad h n addr first count) s = .next (s.set ((modTpp n (fun t => (List.range count).foldl (fun t i =>
        { t with cache := spSet (fun _ => 0) t.cache (first + i) (BitVec.ofNat 256 (fieldAt bs (32 * i) 32)) }) t) b).respond
        (cmdOf h 0x0300) St.ok))) ∧
    (∀ (n addr : Nat) (bs : List Nat) (b : Block),
      Admitted s.blk h { op := 0x0301, ports := [.h0, .p1, .p2, .svc, .fab], stage := 3 } →
      dieOff s.blk (n / 6) = false → n < 24 → tppState s.blk n = 2 →
      readMem (srcTpp n) addr 320 s.blk = (some bs, b) → tppRunCheck b n bs = none →
      exec (.tppRun h n addr) s = .next (s.set (
        let x := (tppArm n bs b).hold (cmdOf h 0x0301) 0x0301 n
        if fieldAt bs 1 1 = 0 then runReady n x else x))) ∧
    (∀ mask : Nat, Admitted s.blk h { op := 0x0302, ports := [.h0, .p1, .p2, .svc, .fab], stage := 3 } → mask < 2 ^ 24 →
      exec (.tppAbort h mask) s = .next (s.on fun b =>
        let l := (bitsOf 24 mask).filter (fun n => tppState b n == 3 || tppState b n == 4)
        (l.foldl (fun b n => runStopAt n St.hostAbort (nowPs b + 1) b) b).respond (cmdOf h 0x0302) St.ok
          [(4, l.foldl (fun v n => v + 2 ^ n) 0)])) ∧
    (∀ n : Nat, Admitted s.blk h { op := 0x0303, ports := [.h0, .p1, .p2, .svc, .fab], stage := 3 } →
      dieOff s.blk (n / 6) = false → n < 24 →
      exec (.tppStatus h n) s = .next (s.on fun b =>
        b.respond (cmdOf h 0x0303) St.ok [(8, (b.reg (Rg.tpp n)).toNat), (8, (b.reg (Rg.tpp n + 8)).toNat)])) ∧
    (∀ mask : Nat, Admitted s.blk h { op := 0x0304, ports := [.h0, .p1, .p2, .svc, .fab], stage := 3 } → mask ≠ 0 → mask < 2 ^ 24 →
      (bitsOf 24 mask).all (fun n => tppState s.blk n == 2) = true →
      exec (.tppCalibrate h mask) s = .next (s.on fun b =>
        ((bitsOf 24 mask).foldl (fun b n => tppCalBegin n b) b).hold (cmdOf h 0x0304) 0x0304 mask)) ∧
    (∀ n en : Nat, Admitted s.blk h { op := 0x0305, ports := [.h0, .p1, .p2, .svc, .fab], stage := 3 } →
      dieOff s.blk (n / 6) = false → n < 24 → en < 256 → tppState s.blk n = 3 ∨ tppState s.blk n = 4 →
      exec (.tppSite h n en) s = .next (s.on fun b =>
        (modTpp n (fun t => { t with siteQ := t.siteQ ++ [(nowPs b + 1, false, BitVec.ofNat 8 en)] }) b).respond
          (cmdOf h 0x0305) St.ok))

/-- Calibration, starts, the fabric port's edges and the stream buffer of a TPP take effect (R284, R292, R300, R303 to R305, R308,
R677). -/
def Obligations.TppEvents : Prop :=
  ∀ (s : State) (n : Fin 24), RunsOn s.blk (n.val / 6) →
    (∀ cals temp, tppState s.blk n = 1 → exec (.tppCalDone n cals temp) s = .next (s.on (tppCalibrated n cals temp))) ∧
    (∀ at' : Int, (getTpp s.blk n).startAt = some at' → tppState s.blk n = 3 →
      exec (.tppStartInstant n) s = .next (s.on fun b =>
        let b := reachTime (BitVec.ofNat 64 (at'.toNat / 1000)) b
        if b.flag (Rg.tpp n) Rg.tReady then tppBegin n at' b else runEnd n St.streamUnderrun b)) ∧
    (tppPortLive s.blk n = true →
      (tppState s.blk n = 3 → (getTpp s.blk n).startSrc = 2 → (getTpp s.blk n).startAt = none →
        s.blk.flag (Rg.tpp n) Rg.tReady = false →
        exec (.startFEdge n) s = .next (s.on fun b => setTpp n { getTpp b n with startHeld := true } b)) ∧
      (tppState s.blk n = 3 → (getTpp s.blk n).startSrc = 2 → (getTpp s.blk n).startAt = none →
        s.blk.flag (Rg.tpp n) Rg.tReady = true →
        exec (.startFEdge n) s = .next (s.on fun b =>
          setTpp n { getTpp b n with startAt := some (((nowPs b + 8000 + 624) / 625 * 625 : Nat) +
            (if (getTpp b n).offset < 0 then 0 else 2 * (getTpp b n).offset)) } b)) ∧
      (exec (.abortFEdge n) s = .next (s.on fun b => runStopAt n St.fabricAbort (nowPs b + 8000) b)) ∧
      (∀ i : Fin 16, tppState s.blk n = 3 → (getTpp s.blk n).ended = none →
        exec (.trigFEdge n i) s = .next (s.on fun b =>
          setTpp n { getTpp b n with trigs := (getTpp b n).trigs ++ [(true, i.val, ((nowPs b + 8000 : Nat) : Int))] } b)) ∧
      (∀ off : BitVec 8, tppState s.blk n = 3 ∨ tppState s.blk n = 4 →
        exec (.siteOffChange n off) s = .next (s.on fun b =>
          setTpp n { getTpp b n with siteLine := off, siteQ := (getTpp b n).siteQ ++ [(nowPs b + 8000, true, off)] } b))) ∧
    (tppState s.blk n = 3 ∨ tppState s.blk n = 4 → (getTpp s.blk n).ended = none → (getTpp s.blk n).sNext < streamTotal (getTpp s.blk n) →
      (getTpp s.blk n).sAsked.length < 1024 → (getTpp s.blk n).sNext < streamBase (getTpp s.blk n) + bufLines (getTpp s.blk n).buf →
      exec (.streamRefillRead n) s = .next (s.on fun b =>
        let t := getTpp b n
        (setTpp n { t with sNext := t.sNext + 1, sAsked := t.sAsked ++ [t.sNext] } b).emit
          (.streamRead n t.sNext (lineAddr t.segs t.sNext)))) ∧
    (∀ (line : Nat) (ok : Bool) (data : BitVec 512), line ∈ (getTpp s.blk n).sAsked →
      exec (.streamReadResponse n line ok data) s = .next (s.on fun b =>
        let t := getTpp b n
        setTpp n { t with sAsked := t.sAsked.erase line,
                          sLines := spSet (fun _ => none) t.sLines line
                            (some (if ok && accessStatus b (lineAddr t.segs line) == 0 then some data else none)) } b)) ∧
    (tppState s.blk n = 3 → s.blk.flag (Rg.tpp n) Rg.tReady = false → (getTpp s.blk n).sAsked = [] →
      min (streamTotal (getTpp s.blk n)) (bufLines (getTpp s.blk n).buf) ≤ (getTpp s.blk n).sNext →
      exec (.tppStreamReady n) s = .next (s.on (runReady n)))

/-- A running TPP applies the legal vector word it stands at and goes where its opcode says (R277 to R284, R311, R315); where the run is to end
at this boundary, or the word is illegal or has a double-bit error, it ends before it (R281, R285, R305). -/
def Obligations.SequencerWords : Prop :=
  ∀ (s : State) (n : Fin 24) (w : Nat), RunsOn s.blk (n.val / 6) →
    (SeqAt s.blk n 0x0 w → exec (.seqNext n false) s = .next (s.on fun b =>
      showPc n (seqOn n (applyWord n 1 (plainWord w) (seqBegin n w b))))) ∧
    (SeqAt s.blk n 0x1 w → exec (.seqRepeat n false) s = .next (s.on fun b =>
      showPc n (seqOn n (applyWord n (orMax (wordArg w 0 24) 24) (plainWord w) (seqBegin n w b))))) ∧
    (SeqAt s.blk n 0x2 w → exec (.seqLoop n false) s = .next (s.on fun b =>
      showPc n (thenSeq n (modTpp n (fun t =>
        if wordArg w 24 15 = t.word then seqAdvance t.word t
        else { t with loops := { first := t.word + 1, last := wordArg w 24 15, left := orMax (wordArg w 0 24) 24 } :: t.loops,
                      word := t.word + 1 })) (applyWord n 1 (plainWord w) (seqBegin n w b))))) ∧
    (SeqAt s.blk n 0x3 w → exec (.seqJump n false) s = .next (s.on fun b =>
      showPc n (thenSeq n (modTpp n (seqGoto (wordArg w 0 15))) (applyWord n 1 (plainWord w) (seqBegin n w b))))) ∧
    (SeqAt s.blk n 0x4 w → exec (.seqCall n false) s = .next (s.on fun b =>
      showPc n (thenSeq n (modTpp n (fun t => { t with calls := (t.word, t.loops.length) :: t.calls, word := wordArg w 0 15 }))
        (applyWord n 1 (plainWord w) (seqBegin n w b))))) ∧
    (SeqAt s.blk n 0x5 w → exec (.seqRet n false) s = .next (s.on fun b => showPc n (seqRetStep n w (seqBegin n w b)))) ∧
    (SeqAt s.blk n 0x6 w → (getTpp s.blk n).batches = [] →
      exec (.seqJof n false) s = .next (s.on fun b => showPc n (seqJofStep n w (seqBegin n w b)))) ∧
    (SeqAt s.blk n 0x7 w → ∀ (hits : List (Fin 8 × Nat)) (fails : BitVec 48),
      exec (.seqMatch n false hits fails) s = .next (s.on fun b =>
        showPc n (seqMatchStep n (hits.map (fun x => (x.1.val, x.2))) fails.toNat w (seqBegin n w b)))) ∧
    (SeqAt s.blk n 0x8 w → exec (.seqApgStep n false) s = .next (s.on fun b =>
      showPc n (seqOn n (applyWord n (orMax (wordArg w 0 24) 24) { plainWord w with instr := some (wordArg w 24 8) }
        (seqBegin n w b))))) ∧
    (SeqAt s.blk n 0x9 w → exec (.seqStream n false) s = .next (s.on fun b =>
      showPc n (thenSeq n (modTpp n (fun t => { t with streaming := some (orMax (wordArg w 0 32) 32) }))
        (applyWord n 1 (plainWord w) (seqBegin n w b))))) ∧
    (SeqAt s.blk n 0xA w → exec (.seqWaitTrig n false) s = .next (s.on fun b => showPc n (seqWaitTrigStep n w (seqBegin n w b)))) ∧
    (SeqAt s.blk n 0xF w → exec (.seqStop n false) s = .next (s.on fun b =>
      showPc n (thenSeq n (runEnd n St.ok) (applyWord n 1 (plainWord w) (seqBegin n w b))))) ∧
    (∀ (dbe : Bool) (hits : List (Fin 8 × Nat)) (fails : BitVec 48) (code : Nat), applying s.blk n = true →
      (getTpp s.blk n).streaming = none →
      stopNow (getTpp s.blk n) = some code ∨ (stopNow (getTpp s.blk n) = none ∧ (getTpp s.blk n).waited = 0 ∧
        wordFault (reachTime (BitVec.ofNat 64 ((getTpp s.blk n).time / 1000)) s.blk) n dbe = some code) →
      ∀ c ∈ [Instr.seqNext n dbe, .seqRepeat n dbe, .seqLoop n dbe, .seqJump n dbe, .seqCall n dbe, .seqRet n dbe,
             .seqMatch n dbe hits fails, .seqApgStep n dbe, .seqStream n dbe, .seqWaitTrig n dbe, .seqStop n dbe],
        exec c s = .next (s.on fun b =>
          showPc n (runEnd n code (reachTime (BitVec.ofNat 64 ((getTpp b n).time / 1000)) b)))) ∧
    (∀ (c g v : Nat) (x y : BitVec 512), applying s.blk n = true → (getTpp s.blk n).streaming = some c → stopNow (getTpp s.blk n) = none →
      streamAt (getTpp s.blk n).segs (getTpp s.blk n).sSeg (getTpp s.blk n).sVec = some (g, v) →
      spGet (fun _ => none) (getTpp s.blk n).sLines (segFirst (getTpp s.blk n) g + 24 * v / 64) = some (some x) →
      spGet (fun _ => none) (getTpp s.blk n).sLines (segFirst (getTpp s.blk n) g + (24 * v + 23) / 64) = some (some y) →
      exec (.seqStreamVector n) s = .next (s.on fun b =>
        showPc n (streamVector n g v c x y (reachTime (BitVec.ofNat 64 ((getTpp b n).time / 1000)) b))))

/-- Fail capture takes effect (R325, R333 to R335, R338 to R340, R343, R345): a result acts on the sites of its application, records leave
two of one queue at a time, or one, bitmap lines leave as atomic ORs and are answered, the drain ends, and CNT_CLEAR clears the counters of an IDLE
TPP. -/
def Obligations.FailCaptureEvents : Prop :=
  ∀ (s : State) (n : Fin 24), RunsOn s.blk (n.val / 6) →
    (∀ (v : BitVec 48) (volts : List (Fin 48 × Int)) (b : AppBatch), tppState s.blk n = 4 →
      (getTpp s.blk n).batches.find? (fun x => decide (x.first ≤ v.toNat) && decide (v.toNat < x.first + x.count)) = some b →
      (batchesBefore (getTpp s.blk n) v.toNat).any (owesCapture s.blk n) = false → owesCapture s.blk n b = false ∨ b.first = v.toNat →
      exec (.compareResult n v volts) s = .next (s.on (applicationResult n v.toNat b (volts.map fun x => (x.1.val, x.2))))) ∧
    (∀ a b l, (getTpp s.blk n).fifo = a :: b :: l → a.queue = b.queue →
      exec (.failRecordSend n) s = .next (s.on fun x =>
        writeMarkers n (recordsOut n a.queue [a.word, b.word] (modTpp n (fun t => { t with fifo := l }) x)))) ∧
    (∀ a b l, (getTpp s.blk n).fifo = a :: b :: l → a.queue ≠ b.queue →
      exec (.failRecordSend n) s = .next (s.on fun x =>
        writeMarkers n (recordsOut n a.queue [a.word] (modTpp n (fun t => { t with fifo := b :: l }) x)))) ∧
    (∀ a, (getTpp s.blk n).fifo = [a] →
      exec (.failRecordSend n) s = .next (s.on fun x =>
        writeMarkers n (recordsOut n a.queue [a.word] (modTpp n (fun t => { t with fifo := [] }) x)))) ∧
    (∀ (i : Nat) (l : BmLine), (getTpp s.blk n).bmLines[i]? = some l → (getTpp s.blk n).bmOut.length < 512 →
      exec (.bitmapLineEvict n i) s = .next (s.on (evictLine n l))) ∧
    (∀ (i : Nat) (ok : Bool) (l : BmLine), (getTpp s.blk n).bmOut[i]? = some l →
      exec (.bitmapAorResponse n i ok) s = .next (s.on fun x =>
        aorAnswered n l ok (modTpp n (fun t => { t with bmOut := t.bmOut.eraseIdx i }) x))) ∧
    (∀ code at', (getTpp s.blk n).ended = some (code, at') →
      (drained (getTpp s.blk n) = true → exec (.tppDrainEnd n) s = .next (s.on (runFinish n code))) ∧
      (drained (getTpp s.blk n) = false → exec (.tppDrainTimeout n) s = .next (s.on fun x =>
        runFinish n code (drainLost n (reachTime (BitVec.ofNat 64 (at' / 1000 + 10000000)) x))))) ∧
    (tppState s.blk n = 2 → exec (.cntClear n) s = .next (s.on (clearCounters n)))

/-- Lane commands take effect on a die that is not held in reset (R358, R365, R370 to R375): LANE_UP takes the lanes of its mask out of
DISABLED, alone or as a group that numbers its logical lanes and spares, with the command held; LANE_DOWN, LANE_QUIESCE, LANE_RESUME,
LANE_LOOPBACK and LANE_PRBS answer at once; a scan is held until it ends; LANE_STATUS answers the two status registers. -/
def Obligations.LaneCommands : Prop :=
  ∀ (s : State) (h : Hdr) (die mask n : Nat), 0 < mask → mask < 2 ^ 32 → die < 4 → n < 128 →
    (dieOff s.blk die = false →
      (Admitted s.blk h { op := 0x0400, ports := [.h0, .p1, .p2, .svc, .fab], stage := 3 } →
        (∀ m ∈ maskLanes die mask, laneMode s.blk m ≠ 3 ∧ laneState s.blk m = 0) →
        (∀ spares : Nat, spares < 256 → exec (.laneUp h die mask 0 spares) s = .next (s.on fun b =>
          (maskLanes die mask).foldl (fun b m => laneFirst m b) (b.hold (cmdOf h 0x0400) 0x0400 (die * 2 ^ 32 + mask)))) ∧
        (∀ group spares : Nat, 0 < group → group < 256 → spares ≤ 2 → spares < (maskLanes die mask).length →
          (maskLanes die mask).length ≤ 16 + spares → (∀ m ∈ maskLanes die mask, laneMode s.blk m = 0) →
          exec (.laneUp h die mask group spares) s = .next (s.on fun b =>
            (maskLanes die mask).foldl (fun b m => laneFirst m b)
              ((groupNumber group spares (maskLanes die mask) b).hold (cmdOf h 0x0400) 0x0400 (die * 2 ^ 32 + mask))))) ∧
      (Admitted s.blk h { op := 0x0401, ports := [.h0, .p1, .p2, .svc, .fab], stage := 3 } →
        exec (.laneDown h die mask) s = .next (s.on fun b =>
          ((maskLanes die mask).foldl (fun b m => laneOff m b) b).respond (cmdOf h 0x0401) St.ok)) ∧
      (Admitted s.blk h { op := 0x0402, ports := [.h0, .p1, .p2, .svc, .fab], stage := 3 } →
        (∀ m ∈ maskLanes die mask, laneState s.blk m = 5) →
        exec (.laneQuiesce h die mask) s = .next (s.on fun b =>
          ((maskLanes die mask).foldl (fun b m => b.putB (Rg.lane m) Rg.lQuiesced true) b).respond (cmdOf h 0x0402) St.ok)) ∧
      (Admitted s.blk h { op := 0x0403, ports := [.h0, .p1, .p2, .svc, .fab], stage := 3 } →
        (∀ m ∈ maskLanes die mask, s.blk.flag (Rg.lane m) Rg.lQuiesced = true) →
        exec (.laneResume h die mask) s = .next (s.on fun b =>
          ((maskLanes die mask).foldl (fun b m => b.putB (Rg.lane m) Rg.lQuiesced false) b).respond (cmdOf h 0x0403) St.ok))) ∧
    (dieOff s.blk (n / 32) = false →
      (laneState s.blk n = 0 ∨ s.blk.flag (Rg.lane n) Rg.lQuiesced = true →
        (∀ (kind : Nat) (squelch : Bool), kind ≤ 4 → (kind = 2 ∨ kind = 4 → laneMode s.blk n ≠ 2) →
          Admitted s.blk h { op := 0x0404, ports := [.h0, .p1, .p2, .svc, .fab], stage := 3 } →
          exec (.laneLoopback h n kind squelch.toNat) s = .next (s.on fun b =>
            (laneTest n (modLane n (fun x => { x with loop := kind, squelch := squelch }) b)).respond (cmdOf h 0x0404) St.ok)) ∧
        (∀ (poly : Nat) (gen chk inv : Bool), poly ≤ 3 →
          Admitted s.blk h { op := 0x0405, ports := [.h0, .p1, .p2, .svc, .fab], stage := 3 } →
          exec (.lanePrbs h n poly gen.toNat chk.toNat inv.toNat) s = .next (s.on fun b =>
            (laneTest n (modLane n (prbsSet poly gen chk inv) b)).respond (cmdOf h 0x0405) St.ok))) ∧
      (∀ (h0 hl hs v0 vl vs dwell addr : Nat) (scan : EyeScan),
        Admitted s.blk h { op := 0x0406, ports := [.h0, .p1, .p2, .svc, .fab], stage := 3 } → laneState s.blk n = 5 →
        (getLane s.blk n).scan = none → eyeScanOf h0 hl hs v0 vl vs dwell addr = some scan →
        exec (.laneEyescan h n h0 hl hs v0 vl vs dwell addr) s = .next (s.on fun b =>
          (modLane n (fun x => { x with scan := some scan }) b).hold (cmdOf h 0x0406) 0x0406 n)) ∧
      (Admitted s.blk h { op := 0x0407, ports := [.h0, .p1, .p2, .svc, .fab], stage := 3 } →
        exec (.laneStatus h n) s = .next (s.on fun b => b.respond (cmdOf h 0x0407) St.ok
          [(8, (b.reg (Rg.lane n + 0x08)).toNat), (4, (b.reg (Rg.lane n + 0x10)).toNat % 2 ^ 32)])))

/-- Blocks and block lock take effect (R348 to R356, R358, R367 to R371): a block presented at the port of an open lane goes out scrambled, or
unscrambled in RAW mode, around a near-end loopback, or over the lanes that carry the port's logical lane; a generator's word takes its place;
a received block is inverted where RX_INVERT says so and taken by the checker, as a raw word, or as a coded block; a slip passes one bit over;
block lock gained leads on to EQ, and lost in a group starts an abrupt steering while a spare is idle. -/
def Obligations.LaneBlocks : Prop :=
  ∀ (s : State) (n : Fin 128), RunsOn s.blk (n.val / 32) →
    (∀ (ctrl : Bool) (payload : BitVec 64),
      ((getLane s.blk n).gen = true →
        let r := prbsWord (getLane s.blk n).poly 0 64 (0, (getLane s.blk n).genReg.toNat)
        exec (.laneTxBlock n ctrl payload) s = .next (s.on fun b =>
          laneOut n none (BitVec.ofNat 64 (if (getLane b n).inv then 2 ^ 64 - 1 - r.1 else r.1))
            (setLane n { getLane b n with genReg := BitVec.ofNat 31 r.2 } b))) ∧
      ((getLane s.blk n).gen = false → laneOpen s.blk n = true → (getLane s.blk n).loop ≤ 2 →
        (laneMode s.blk n = 2 → exec (.laneTxBlock n ctrl payload) s = .next (s.on (laneOut n none payload))) ∧
        (laneMode s.blk n ≠ 2 →
          let bad := ctrl && payload.toNat / 16 % 16 == 0xA
          let rejected (b : Block) : Block := if bad then b.putB (Rg.lane n) Rg.lTxReject true else b
          let p := if bad then idlePayload else payload
          (1 ≤ (getLane s.blk n).loop →
            exec (.laneTxBlock n ctrl payload) s = .next (s.on fun b => laneAround n (bad || ctrl) p (rejected b))) ∧
          ((getLane s.blk n).loop = 0 → laneGroup (rejected s.blk) n = 0 →
            exec (.laneTxBlock n ctrl payload) s = .next (s.on fun b => laneSend n (bad || ctrl) p (rejected b))) ∧
          ((getLane s.blk n).loop = 0 → laneGroup (rejected s.blk) n ≠ 0 → (getLane s.blk n).port < 16 →
            exec (.laneTxBlock n ctrl payload) s = .next (s.on fun b =>
              let b := rejected b
              forEach ((carrier b n (getLane s.blk n).port).toList ++ (groupLanes b n).filterMap (fun m => match (getLane b m).sendOn with
                | some (k, true) => if logicalOf b m == (getLane s.blk n).port then some k else none
                | _ => none)) (fun m => laneSend m (bad || ctrl) p) b))))) ∧
    (∀ (hdr : BitVec 2) (payload : BitVec 64) (drained : Nat), (getLane s.blk n).loop ≠ 1 → (getLane s.blk n).loop ≠ 2 →
      laneState s.blk n ≠ 0 ∨ (getLane s.blk n).loop ≠ 0 ∨ (getLane s.blk n).chk = true →
      let inv := laneCfg s.blk n Rg.lRxInvert == 1
      let hd := if inv then 3 - hdr.toNat else hdr.toNat
      let bits := if inv then 2 ^ 64 - 1 - payload.toNat else payload.toNat
      let taken (b : Block) : Block := match rxPort b n with
        | some port => laneDrain port drained b
        | none => b
      ((getLane s.blk n).loop ≠ 3 → exec (.laneRxBlock n hdr payload drained) s = .next (s.on fun b => laneTakes n hd bits (taken b))) ∧
      ((getLane s.blk n).loop = 3 → exec (.laneRxBlock n hdr payload drained) s = .next (s.on fun b =>
        laneTakes n hd bits (laneLine n (if laneMode (taken b) n = 2 then none else some (BitVec.ofNat 2 hd)) (BitVec.ofNat 64 bits)
          (taken b))))) ∧
    (laneMode s.blk n = 2 → laneOpen s.blk n = true →
      exec (.rxSlip n) s = .next (s.on (modLane n slipOne))) ∧
    (laneMode s.blk n ≠ 2 → laneState s.blk n ≠ 0 → s.blk.flag (Rg.lane n) Rg.lBlockLock = false →
      exec (.blockLockGained n) s = .next (s.on fun b =>
        let b := lockGained n b
        if laneState b n = 2 ∧ (getLane b n).stepTo = none then b.put (Rg.lane n) Rg.lState 3 else baseReady n b)) ∧
    (s.blk.flag (Rg.lane n) Rg.lBlockLock = true → ∀ b, b = lockDropped n s.blk →
      (laneState b n = 5 → laneGroup b n ≠ 0 → logicalOf b n < 16 → laneFailed b n = false →
        (idleSpares b n = [] → exec (.blockLockLost n) s = .next (s.set (laneLost n b))) ∧
        (idleSpares b n ≠ [] → exec (.blockLockLost n) s = .next (s.set (steerReq n true (steerAbrupt n b))))) ∧
      (laneState b n ≠ 5 ∨ laneGroup b n = 0 → exec (.blockLockLost n) s = .next (s.set b)))

/-- The lane layer's messages take effect (R357, R358, R361, R362, R367): CAPS, the request and acknowledgement of a step, coefficients
and their acknowledgement, the messages of a steering, and the repetition of a message that is not acknowledged. -/
def Obligations.LaneMessages : Prop :=
  ∀ (s : State) (n : Fin 128) (code : Fin 8) (k : Fin 32), RunsOn s.blk (n.val / 32) →
    (∀ (map nonce : BitVec 8) (cap : Bool), laneState s.blk n = 1 → laneGroup s.blk n = 0 → ∀ b,
      b = s.blk.put (Rg.lane n) Rg.lFarMap map.toNat → Nat.land map.toNat (localMap b n) ≠ 0 → nonce ≠ (getLane s.blk n).nonce →
      exec (.lnbCaps n map nonce cap) s = .next (s.set (baseReady n (modLane n (fun x => { x with farNonce := some nonce }) b)))) ∧
    (laneMode s.blk n = 0 → (getLane s.blk n).phase = 3 → laneState s.blk n ≠ 5 → nextCode s.blk n = some code.val →
      (getLane s.blk n).nonce.toNat < ((getLane s.blk n).farNonce.getD 0).toNat →
      exec (.lnbStepReq n code) s = .next (s.on fun b => laneStepBegin n code (laneMsg n 3 code 0xF 0 0 b))) ∧
    ((getLane s.blk n).asked = some code.val → exec (.lnbStepAck n code) s = .next (s.on (laneStepBegin n code))) ∧
    (laneMode s.blk n = 0 → laneState s.blk n = 3 →
      (∀ (preset : BitVec 4) (pre post : BitVec 2), preset.toNat < 8 →
        exec (.lnbCoeff n preset pre post) s = .next (s.on fun b => laneMsg n 5 0 0xF 0 0 (lanePreset n preset.toNat b))) ∧
      (∀ (pre post : BitVec 2) (x y : Nat), coeffStep (s.blk.f (Rg.lane n) Rg.lCPre) pre.toNat 12 = some x →
        coeffStep (s.blk.f (Rg.lane n) Rg.lCPost) post.toNat 24 = some y →
        exec (.lnbCoeff n 15 pre post) s = .next (s.on fun b =>
          laneMsg n 5 0 0xF 0 0 ((b.put (Rg.lane n) Rg.lCPre x).put (Rg.lane n) Rg.lCPost y)))) ∧
    exec (.lnbCoeffAck n) s = .next (s.on (modLane n fun x => { x with msg := x.msg.filter (fun p => p.toNat / 256 % 256 != 4) })) ∧
    (∀ (m sp : Nat) (rest : List Nat), carrier s.blk n k = some m →
      (∀ abrupt : Bool, idleSpares s.blk n = sp :: rest → (getLane s.blk m).sendOn = none → k.val < 16 →
        exec (.lnbSteerReq n k abrupt) s = .next (s.on (modLane m fun x => { x with sendOn := some (sp, false) }))) ∧
      ((getLane s.blk m).sendOn = some (sp, true) → exec (.lnbSteerDone n k) s = .next (s.on (steerMove m sp)))) ∧
    exec (.lnbSteerAck n k) s = .next (s.on fun b => (groupLanes b n).foldl (fun b m => modLane m (ackSteer k) b) b) ∧
    (∀ p : BitVec 64, (getLane s.blk n).msg = some p → exec (.lnbRepeat n) s = .next (s.on (laneSend n true p)))

/-- The events of bring-up, equalisation, steering and snapshots take effect (R359 to R369, R372, R374, R375, R581). -/
def Obligations.LaneEvents : Prop :=
  ∀ (s : State) (n : Fin 128), RunsOn s.blk (n.val / 32) →
    (∀ code : Nat, (getLane s.blk n).stepTo = some code → laneState s.blk n = 2 →
      exec (.laneRateSwitch n) s = .next (s.on fun b => lanePreset n (laneCfg b n Rg.lStartPreset) (rateSwitched n code b))) ∧
    (∀ (ctle : BitVec 4) (tap1 margin : BitVec 8), laneInEq s.blk n = true → ∀ b, b = eqFound n ctle tap1 margin s.blk →
      (laneMode b n ≠ 0 → exec (.laneEqEnd n ctle tap1 margin) s = .next (s.set (laneActive n b))) ∧
      (laneMode b n = 0 → exec (.laneEqEnd n ctle tap1 margin) s =
        .next (s.set (checkBegin n (if laneState b n = 1 then b else b.put (Rg.lane n) Rg.lState 4))))) ∧
    (∀ pass : Bool, laneMode s.blk n = 0 → (getLane s.blk n).phase = 2 → laneState s.blk n = 4 ∨ laneState s.blk n = 1 →
      exec (.laneCheckEnd n pass) s = .next (s.on (laneResult n (pass && !(getLane s.blk n).spoiled)))) ∧
    (laneState s.blk n = 2 → (getLane s.blk n).stepTo = none → s.blk.flag (Rg.lane n) Rg.lBlockLock = false →
      exec (.laneLockTimeout n) s = .next (s.on (laneResult n false))) ∧
    (laneState s.blk n = 1 →
      exec (.laneBaseRetry n) s = .next (s.on fun b =>
        if 99 ≤ (getLane s.blk n).retries ∧ (getLane s.blk n).said = false then laneEvent n Ev.laneNoPartner (baseReady n (laneAgain n b))
        else baseReady n (laneAgain n b))) ∧
    (laneState s.blk n = 5 → s.blk.flag (Rg.lane n) Rg.lBlockLock = false → s.blk.flag (Rg.lane n) Rg.lTest = false →
      laneMode s.blk n ≠ 2 →
      (laneGroup s.blk n = 0 → exec (.laneRetrain n) s = .next (s.on fun b =>
        let b := laneEvent n Ev.laneRetrain b
        if laneMode b n = 0 then laneBase n b else laneStart n b)) ∧
      (laneGroup s.blk n ≠ 0 → (getLane s.blk n).tested = true →
        exec (.laneRetrain n) s = .next (s.on fun b => (groupLanes b n).foldl (fun b m => laneBase m b) b))) ∧
    (∀ (errs : BitVec 16) (margin : BitVec 8) (b : Block), b = s.blk.put (Rg.lane n) Rg.lMargin margin.toNat →
      (laneCfg b n Rg.lDegradeThresh ≤ errs.toNat ∨ margin.toNat < laneCfg b n Rg.lMarginMin →
        laneState b n = 5 → laneGroup b n ≠ 0 → logicalOf b n < 16 → laneFailed b n = false →
        b.flag (Rg.lane n) Rg.lSteering = false → idleSpares b n ≠ [] →
        exec (.laneDegrading n errs margin) s = .next (s.set (steerReq n false (steerAsked n b)))) ∧
      (errs.toNat < laneCfg b n Rg.lDegradeThresh → laneCfg b n Rg.lMarginMin ≤ margin.toNat →
        exec (.laneDegrading n errs margin) s = .next (s.set b))) ∧
    (∀ (k : Fin 32) (clean : Bool) (old flagged : Nat), idleSpare s.blk n = true → carrier s.blk n k = some old →
      (∀ (t : BitVec 64) (seen : Option Nat), (getLane s.blk old).steer = some (some t, flagged, seen) →
        exec (.groupMarker n k true clean) s = .next (s.on (steerTake old n (some t) flagged))) ∧
      ((getLane s.blk old).steer = some (none, flagged, none) →
        exec (.groupMarker n k true clean) s = .next (s.on (modLane old fun x => { x with steer := some (none, flagged, some n.val) }))) ∧
      ((getLane s.blk old).steer = some (none, flagged, some n.val) →
        exec (.groupMarker n k true true) s = .next (s.on (steerTake old n none flagged)))) ∧
    (∀ (d : Fin 4) (g : BitVec 8), RunsOn s.blk d → exec (.bmkSend d g) s = .next (s.on fun b =>
      (groupActive b d g.toNat).foldl (fun b m => bmkOne (groupActive s.blk d g.toNat) g.toNat m b)
        ((groupActive b d g.toNat).foldl (fun b m => steerStart g.toNat m b) b))) ∧
    (∀ (counts : List Nat) (x : EyeScan), (getLane s.blk n).scan = some x →
      exec (.eyescanDone n counts) s = .next (s.on fun b =>
        (writeMem (srcQuad n) x.addr (scanBytes x counts) (modLane n (fun x => { x with scan := none }) b)).2.close 0x0406 n St.ok)) ∧
    exec (.laneSnap n) s = .next (s.on (snapLane n)) ∧
    (∀ (d : Fin 4) (mask : BitVec 32), openOf s.blk 0x0400 (d.val * 2 ^ 32 + mask.toNat) ≠ [] →
      exec (.laneUpTimeout d mask) s = .next (s.on fun b =>
        (reachTime (BitVec.ofNat 64 (upSince b d mask.toNat + 1000000000)) b).close 0x0400 (d.val * 2 ^ 32 + mask.toNat) St.noPartner))

/-- DRAM channel commands take effect on a die that is not held in reset (R409, R411 to R416, R418): training, quiescing, bringing new
memory online, recovery, a bracket and a self-test begin, with the command held; DRAM_STATUS, DRAM_RESUME and DRAM_OFFLINE answer at once. -/
def Obligations.DramCommands : Prop :=
  ∀ (s : State) (h : Hdr) (n : Nat), n < 8 → dieOff s.blk (n / 2) = false →
    (Admitted s.blk h { op := 0x0500, ports := [.h0, .p1, .p2, .svc, .fab], stage := 3 } → dcTesting s.blk n = false →
      dcState s.blk n = 0 ∨ dcState s.blk n = 4 ∨ dcState s.blk n = 6 →
      (∀ rate : Nat, rate < 4 → exec (.dramTrain h n rate) s = .next (s.on fun b =>
        (trainStart n .command (some rate) b).hold (cmdOf h 0x0500) 0x0500 n)) ∧
      exec (.dramTrain h n 255) s = .next (s.on fun b => (trainStart n .command none b).hold (cmdOf h 0x0500) 0x0500 n)) ∧
    (Admitted s.blk h { op := 0x0501, ports := [.h0, .p1, .p2, .svc, .fab], stage := 3 } →
      exec (.dramStatus h n) s = .next (s.on fun b => b.respond (cmdOf h 0x0501) St.ok [(4, (b.reg (Rg.dc n)).toNat)])) ∧
    (Admitted s.blk h { op := 0x0502, ports := [.h0, .p1, .p2, .svc, .fab], stage := 3 } → dcState s.blk n = 2 →
      exec (.dramQuiesce h n) s = .next (s.on fun b => (enterDc n 3 b).hold (cmdOf h 0x0502) 0x0502 n)) ∧
    (Admitted s.blk h { op := 0x0503, ports := [.h0, .p1, .p2, .svc, .fab], stage := 3 } → dcState s.blk n = 4 →
      dcTesting s.blk n = false → exec (.dramResume h n) s = .next (s.on fun b =>
        (modDc n (fun c => { c with selfRefresh := false }) (enterDc n 2 b)).respond (cmdOf h 0x0503) St.ok)) ∧
    (Admitted s.blk h { op := 0x0504, ports := [.h0, .p1, .p2, .svc, .fab], stage := 3 } →
      dcState s.blk n = 4 ∨ dcState s.blk n = 5 ∨ dcState s.blk n = 6 → dcTesting s.blk n = false →
      exec (.dramOffline h n) s = .next (s.on fun b =>
        (modDc n (fun c => { c with dimm := none, selfRefresh := false, lost := false }) (contentsNew n (enterDc n 7 b))).respond
          (cmdOf h 0x0504) St.ok)) ∧
    (Admitted s.blk h { op := 0x0505, ports := [.h0, .p1, .p2, .svc, .fab], stage := 3 } → (40 + n) ∉ s.blk.net.domOff →
      dcState s.blk n = 7 → exec (.dramOnline h n) s = .next (s.on fun b => (trainStart n .online none b).hold (cmdOf h 0x0505) 0x0505 n)) ∧
    (∀ off len kind : Nat, Admitted s.blk h { op := 0x0506, ports := [.h0, .p1, .p2, .svc, .fab], stage := 3 } →
      off + len ≤ (getDc s.blk n).cap → 0 < len → dcState s.blk n = 4 → dcTesting s.blk n = false →
      exec (.dramSelftest h n off len kind) s = .next (s.on fun b =>
        (testBegins { test := 6, target := n, slot := none, resume := false, begun := true } (marchRange n off len b)).hold
          (cmdOf h 0x0506) 0x0506 n)) ∧
    (∀ ctrl : BitVec 64, Admitted s.blk h { op := 0x0507, ports := [.h0, .p1, .p2, .svc, .fab], stage := 3, expert := true } →
      dcState s.blk n = 1 ∨ dcState s.blk n = 4 → dcTesting s.blk n = false → bracketInRange ctrl.toNat = true →
      exec (.dramBracket h n ctrl) s = .next (s.on fun b =>
        ((b.plainWrite (Rg.dc n + 0x1000) true ctrl.toNat).putB (Rg.dc n) Rg.bkBusy true).hold (cmdOf h 0x0507) 0x0507 n)) ∧
    (Admitted s.blk h { op := 0x0508, ports := [.h0, .p1, .p2, .svc, .fab], stage := 3 } → dcState s.blk n = 5 →
      exec (.dramRecover h n) s = .next (s.on fun b => (trainStart n .recover none b).hold (cmdOf h 0x0508) 0x0508 n))

/-- Requests for DRAM lines are taken on a channel that is online, in the view of their initiator (R384 to R387, R389, R406, R407, R431, R433,
R434): a read joins the queue, or is answered with zeros from a block without contents; a write is visible from its entry into the write
queue, in its stored form with its tag, its block initialised first; a locked pair holds its line, and is denied in the scrambled view of a
keyed line; a channel that takes no request answers with its status. -/
def Obligations.DramRequests : Prop :=
  ∀ (s : State) (n : Fin 8) (id line : Nat) (src : BitVec 12), RunsOn s.blk (n.val / 2) →
    (dcTakes s.blk n = false →
      (∀ stream : Bool, exec (.dramLineRead n id line src stream) s = .next (s.on fun b =>
        b.emit (.lineResponse n id (dcStatusOf b n) false 0))) ∧
      (∀ data : BitVec 512, exec (.dramLineWrite n (some id) line src data) s = .next (s.on fun b =>
        b.emit (.lineResponse n id (dcStatusOf b n) false 0))) ∧
      (∀ data : BitVec 512, exec (.dramLineWrite n none line src data) s = .next (s.on (bumpDiscard (dcPortId n)))) ∧
      (∀ merge : Merge, exec (.dramLockedPair n id line src merge) s = .next (s.on fun b =>
        b.emit (.lineResponse n id (dcStatusOf b n) false 0)))) ∧
    (dcState s.blk n = 2 → portState s.blk (dcPortId n) = 0 → 64 * line < (getDc s.blk n).cap → (getDc s.blk n).lock.contains line = false →
      (∀ stream : Bool, (getDc s.blk n).rq.length < 256 →
        (blockDone (getDc s.blk n) (blockOf line) = false →
          exec (.dramLineRead n id line src stream) s = .next (s.on fun b => b.emit (.lineResponse n id 0 false 0))) ∧
        (blockDone (getDc s.blk n) (blockOf line) = true →
          exec (.dramLineRead n id line src stream) s = .next (s.on fun b =>
            acceptRead n { id := id, kind := .read, line := line, scr := viewScr b n src.toNat, form := lineForm b n line,
                           stream := stream, time := b.devTime, merge := none, issued := none } b))) ∧
      (∀ data : BitVec 512, (getDc s.blk n).wq.length < 128 →
        let ready (b : Block) : Block := if blockDone (getDc s.blk n) (blockOf line) then b else initBlock n (blockOf line) b
        let put (b : Block) : Block :=
          enterWrite n line (storedForm (lineForm b n line) (viewScr b n src.toNat) data).1
            (storedForm (lineForm b n line) (viewScr b n src.toNat) data).2 b
        exec (.dramLineWrite n (some id) line src data) s = .next (s.on fun b => (put (ready b)).emit (.lineResponse n id 0 false 0)) ∧
        exec (.dramLineWrite n none line src data) s = .next (s.on fun b => put (ready b))) ∧
      (∀ merge : Merge,
        (viewScr s.blk n src.toNat = true → (lineForm s.blk n line).key.isSome = true →
          exec (.dramLockedPair n id line src merge) s = .next (s.on fun b => b.emit (.lineResponse n id 2 false 0))) ∧
        (viewScr s.blk n src.toNat = false ∨ (lineForm s.blk n line).key = none → (getDc s.blk n).rq.length < 256 →
          exec (.dramLockedPair n id line src merge) s = .next (s.on fun b =>
            pairAccepted n id line (viewScr b n src.toNat) merge
              (if blockDone (getDc b n) (blockOf line) then b else initBlock n (blockOf line) b)))))

/-- A channel's own events take effect (R388 to R405, R409, R414 to R416, R643): the end of training and draining, refresh and its
owed intervals, the slots of the scheduler, the return of a burst, patrol, alerts and their replay, initialisation, drift, brackets and
a lost supply. -/
def Obligations.DramEvents : Prop :=
  ∀ (s : State) (n : Fin 8) (sub : Fin 2) (rank : Fin 4), RunsOn s.blk (n.val / 2) →
    (∀ (w : TrainWhy) (d : Dimm) (pair : Option Bool) (r : Fin 4) (selfRef : Bool), (getDc s.blk n).training = some w → dimmSupported d = true →
      d.sameRanks = true → pair ≠ some (!d.ddr4) → ¬ (w = .online ∧ dimmCapacity d < mappedCap s.blk.dmap n) →
      (dimmRates d).contains (((getDc s.blk n).rateAsked).getD ((dimmRates d).headD 0)) = true → (dimmRates d).contains r.val = true →
      ((getDc s.blk n).rateAsked).getD ((dimmRates d).headD 0) ≤ r.val →
      exec (.dramTrainDone n (some d) pair (some r) selfRef) s = .next (s.on
        (trainPass n w d r (decide (((getDc s.blk n).rateAsked).getD ((dimmRates d).headD 0) < r.val)) (trainKeeps n w selfRef s.blk)))) ∧
    (dcState s.blk n = 3 → (getDc s.blk n).rq = [] → (getDc s.blk n).issued = [] → (getDc s.blk n).rets = [] → (getDc s.blk n).wq = [] →
      (getDc s.blk n).lock = [] →
      exec (.dramDrainDone n) s = .next (s.on fun b =>
        (modDc n (fun c => { c with selfRefresh := true, drain := false, forced := false }) (enterDc n 4 b)).close 0x0502 n St.ok)) ∧
    (dcRuns s.blk n = true → ∀ d : Dimm, (getDc s.blk n).dimm = some d → rank.val < d.ranks → sub.val = 0 ∨ s.blk.flag (Rg.dc n) Rg.dcDdr4 = false →
      exec (.dramRefreshDue n sub rank) s = .next (s.on (modDc n fun c => { c with
        owed := spSet (fun _ => 0) c.owed (4 * sub + rank) (owedOf c sub rank + 1),
        schedNow := (s.blk.reg (Rg.dc n + 0x08)).toNat, refNow := (s.blk.reg (Rg.dc n + 0x10)).toNat,
        actNow := (s.blk.reg (Rg.dc n + 0x18)).toNat }))) ∧
    (dcRuns s.blk n = true → alertOn (getDc s.blk n) sub = none →
      (cmdsWithin s.blk n sub s.blk.devTime).length + 7 ≤ 64 →
      exec (.dramSchedulerSlot n sub) s = .next (s.on (schedulerSlot n sub))) ∧
    (∀ (w : DWrite) (l : List DWrite), (getDc s.blk n).wq = w :: l → (getDc s.blk n).drain = false → dcRuns s.blk n = true →
      exec (.dramWriteStarve n) s = .next (s.on fun b =>
        (modDc n (fun c => { c with drain := true, forced := true }) (writeWaited w b)).bump (Rg.dcWstarveCount n))) ∧
    (dcRuns s.blk n = true → ∀ hot : BitVec 4, exec (.dramRefreshRateRead n hot) s = .next (s.on (rateRead n hot))) ∧
    (∀ (i : Nat) (r : DReq), (getDc s.blk n).issued[i]? = some r → alertOn (getDc s.blk n) (coordOf (getDc s.blk n) r.line).sub = none →
      ∀ errs : List (Fin 4 × Fin 20), exec (.dramBurstComplete n i errs) s = .next (s.on
        (burstReturns n i r (realErrs (getDc s.blk n) (errs.map fun e => (e.1.val, e.2.val)))))) ∧
    (dcState s.blk n = 2 → alertOn (getDc s.blk n) (coordOf (getDc s.blk n) (getDc s.blk n).patrolPos).sub = none →
      (getDc s.blk n).lock.contains (getDc s.blk n).patrolPos = false → ∀ (errs : List (Fin 4 × Fin 20)) (overtaken : Bool),
      exec (.dramPatrolRead n errs overtaken) s = .next (s.on
        (patrolRead n (realErrs (getDc s.blk n) (errs.map fun e => (e.1.val, e.2.val))) overtaken))) ∧
    (∀ (bg : Fin 8) (bank : Fin 4), exec (.actTableClear n sub rank bg bank) s = .next (s.on (modDc n fun c => { c with
      acts := spClear (fun k => k / 16 == bankKey { sub := sub.val, rank := rank.val, bg := bg.val, bank := bank.val, row := 0 }) c.acts }))) ∧
    (dcRuns s.blk n = true → alertOn (getDc s.blk n) sub = none →
      exec (.dramAlert n sub) s = .next (s.on fun b =>
        alertVoid n sub { replays := 0, asserted := true, time := b.devTime } (b.bump (Rg.dcAlertCount n)))) ∧
    (∀ a : DAlert, alertOn (getDc s.blk n) sub = some a →
      (dcRuns s.blk n = true → a.asserted = false → exec (.dramAlert n sub) s = .next (s.on fun b =>
        if 4 ≤ a.replays then channelError n (b.bump (Rg.dcAlertCount n))
        else alertVoid n sub { a with asserted := true, time := b.devTime } (b.bump (Rg.dcAlertCount n)))) ∧
      (a.asserted = true → exec (.dramAlertRelease n sub) s = .next (s.on fun b => dcReplay n sub a (modDc n (fun c => { c with
        alerts := spSet (fun _ => none) c.alerts sub (some { a with replays := a.replays + 1, asserted := false }) }) b))) ∧
      (a.asserted = false → exec (.dramReplayWindowEnd n sub) s = .next (s.on fun b =>
        (modDc n (fun c => { c with alerts := spSet (fun _ => none) c.alerts sub none }) b).bump (Rg.dcReplayCount n)))) ∧
    (dcState s.blk n = 2 → (getDc s.blk n).initBelow < dcBlocks (getDc s.blk n) →
      exec (.dramInitBlock n) s = .next (s.on (initBlock n (getDc s.blk n).initBelow))) ∧
    exec (.dramZqCal n rank) s = .next s ∧
    (dcRuns s.blk n = true → ∀ moves : List (Fin 80 × Bool), exec (.dramDriftTrack n rank moves) s = .next (s.on
      (driftMoves n (moves.map fun m => (m.1.val, m.2))))) ∧
    (s.blk.flag (Rg.dc n) Rg.bkBusy = false → dcState s.blk n = 1 ∨ dcState s.blk n = 4 →
      bracketInRange (s.blk.reg (Rg.dc n + 0x1000)).toNat = true →
      exec (.bracketGo n) s = .next (s.on fun b => b.putB (Rg.dc n) Rg.bkBusy true)) ∧
    (s.blk.flag (Rg.dc n) Rg.bkBusy = true → ∀ results : List (BitVec 27),
      exec (.bracketDone n results) s = .next (s.on fun b =>
        ((bracketResults n results b).putB (Rg.dc n) Rg.bkBusy false).close 0x0507 n St.ok)) ∧
    (∀ p : Fin 4, exec (.vddqDcRemoved p) s = .next (s.on fun b => vddqRemovedOne (2 * p + 1) (vddqRemovedOne (2 * p) b)))

/-- Line scrambler commands take effect (R421, R422, R436, R443, R444, R610): a slot's key of the next or the present generation, an
emptied slot, a region's range, a sweep with the command held, and the region's control register. -/
def Obligations.LsuCommands : Prop :=
  ∀ (s : State) (h : Hdr),
    (∀ k : Nat, k < 16 → slotInUse s.blk k = false →
      (Admitted s.blk h { op := 0x0600, ports := [.h0, .svc], stage := 3 } →
        exec (.lsuKeyLoad h k 0) s = .next (s.on fun b =>
          (setSlot k (some (lsuKey b k ((spGet (fun _ => 0) b.lsu.gens k + 1) % 2 ^ 32)))
            (setGen k ((spGet (fun _ => 0) b.lsu.gens k + 1) % 2 ^ 32) b)).respond (cmdOf h 0x0600) St.ok) ∧
        (spGet (fun _ => 0) s.blk.lsu.gens k ≠ 0 → exec (.lsuKeyLoad h k 1) s = .next (s.on fun b =>
          (setSlot k (some (lsuKey b k (spGet (fun _ => 0) b.lsu.gens k)))
            (setGen k (spGet (fun _ => 0) b.lsu.gens k) b)).respond (cmdOf h 0x0600) St.ok))) ∧
      (Admitted s.blk h { op := 0x0601, ports := [.h0, .svc], stage := 3 } →
        exec (.lsuKeyClear h k) s = .next (s.on fun b => (setSlot k none b).respond (cmdOf h 0x0601) St.ok))) ∧
    (∀ r base limit valid : Nat, Admitted s.blk h { op := 0x0602, ports := [.h0, .p1, .p2, .svc, .fab], stage := 3 } → r < 64 →
      base % 0x10000 = 0 → limit % 0x10000 = 0 → base ≤ limit → valid < 2 →
      (s.blk.flag (Rg.lsu (lsuRef s.blk)) (Rg.rgKeyClear r) = true ∧ s.blk.flag (Rg.lsu (lsuRef s.blk)) (Rg.rgSweep r) = false ∨
        regionChanges s.blk r base limit valid = false) →
      (valid = 1 → regionOverlaps s.blk r base limit = false) →
      exec (.lsuRegionSet h r base limit valid) s = .next (s.on fun b =>
        (lsuPutAll (Rg.rgValid r) valid (lsuPutAll (Rg.rgLimit r) limit (lsuPutAll (Rg.rgBase r) base b))).respond
          (cmdOf h 0x0602) St.ok)) ∧
    (∀ r slot tagEn : Nat, Admitted s.blk h { op := 0x0603, ports := [.h0, .p1, .p2, .svc, .fab], stage := 3 } → r < 64 → slot ≤ 16 →
      tagEn < 2 → s.blk.flag (Rg.lsu (lsuRef s.blk)) (Rg.rgSweep r) = false → (slot < 16 → heldKey s.blk slot ≠ none) →
      (tagEn = 1 → slot < 16 ∧ ∀ n, n < 8 → s.blk.flag (Rg.dc n) Rg.dcDdr4 = false) →
      exec (.lsuRekey h r slot tagEn) s = .next (s.on fun b =>
        (rekeyBegins r slot tagEn (cmdOf h 0x0603) b).hold (cmdOf h 0x0603) 0x0603 r)) ∧
    (∀ r : Nat, Admitted s.blk h { op := 0x0604, ports := [.h0, .p1, .p2, .svc, .fab], stage := 3 } → r < 64 →
      exec (.lsuStatus h r) s = .next (s.on fun b =>
        b.respond (cmdOf h 0x0604) St.ok [(8, (b.reg (Rg.lsu (lsuRef b) + 0x1010 + 0x20 * r)).toNat)]))

/-- A line scrambler's own events take effect (R429, R431, R434, R438 to R441): the check of a returned line, and a sweep's read, its
write in the target form, and its end. -/
def Obligations.LsuEvents : Prop :=
  ∀ (s : State) (n : Fin 8), RunsOn s.blk (n.val / 2) →
    (∀ (i : Nat) (r : DRet), (getDc s.blk n).rets[i]? = some r →
      (r.req.kind = .read → exec (.lsuReadCheck n i) s = .next (s.on fun b =>
        readAnswer n r (modDc n (fun c => { c with rets := c.rets.eraseIdx i }) b))) ∧
      (∀ m : Merge, r.req.kind = .pair → r.req.merge = some m → (getDc s.blk n).wq.length < 128 →
        exec (.lsuReadCheck n i) s = .next (s.on fun b =>
          pairAnswer n r m (modDc n (fun c => { c with rets := c.rets.eraseIdx i }) b)))) ∧
    (∀ (w : Sweep) (rest : List Sweep), s.blk.lsu.sweeps = w :: rest →
      (∀ a line : Nat, dcTakes s.blk n = true → sweeping (getDc s.blk n) = false → (getDc s.blk n).rq.length < 256 →
        (sweepNext s.blk n w.region (regionBound s.blk n w.region) = some (a, line) → (getDc s.blk n).lock.contains line = false →
          exec (.sweepLineConvert n) s = .next (s.on (sweepRead n w.region a line))) ∧
        (sweepNext s.blk n w.region (regionBound s.blk n w.region) = none → exec (.sweepLineConvert n) s = .next (s.on fun b =>
          b.put (Rg.lsu n) (Rg.rgBound w.region) (regionLimit b n w.region)))) ∧
      (∀ r : DRet, (getDc s.blk n).rets.find? (fun x => x.req.kind == .sweep) = some r → (getDc s.blk n).wq.length < 128 →
        exec (.sweepReadReturn n) s = .next (s.on (sweepWritten n w.region r))) ∧
      (∀ r : Fin 64, s.blk.gr.restarting = false → w.region = r.val →
        (∀ m, m < 8 → regionBound s.blk m r = regionLimit s.blk (lsuRef s.blk) r ∧ sweeping (getDc s.blk m) = false) →
        exec (.sweepComplete r) s = .next (s.on fun b => (sweepEnds r rest b).close 0x0603 r St.ok)))

/-- Network commands take effect (R462, R469 to R471, R476): a global fence and a domain's drain begin, with the command held; a router's
or port's state is answered; a port is isolated or released, and a domain switched on, at once. -/
def Obligations.NocCommands : Prop :=
  ∀ (s : State) (h : Hdr),
    (Admitted s.blk h { op := 0x0700, ports := [.h0, .p1, .p2, .svc, .fab], stage := 2 } →
      exec (.nocGlobalFence h) s = .next (s.on fun b => b.hold (cmdOf h 0x0700) 0x0700 b.net.gfRound)) ∧
    (∀ die number : Nat, Admitted s.blk h { op := 0x0701, ports := [.h0, .p1, .p2, .svc, .fab], stage := 2 } → die < 5 →
      dieOff s.blk die = false →
      (number < (if die < 4 then 24 else 4) → exec (.nocStatus h die 0 number) s = .next (s.on fun b =>
        b.respond (cmdOf h 0x0701) St.ok [(8, routerWord b die number)])) ∧
      (number < 256 → exec (.nocStatus h die 1 number) s = .next (s.on fun b =>
        b.respond (cmdOf h 0x0701) St.ok [(8, tportWord b die number), (8, iportWord b die number)]))) ∧
    (∀ p : Nat, isTarget s.blk p = true → dieOff s.blk (p / 256) = false →
      (Admitted s.blk h { op := 0x0702, ports := [.h0, .p1, .p2, .svc, .fab], stage := 2, expert := true } → portState s.blk p ≠ 3 →
        exec (.nocIsolate h p) s = .next (s.on fun b => (isolatePort p true b).respond (cmdOf h 0x0702) St.ok)) ∧
      (Admitted s.blk h { op := 0x0703, ports := [.h0, .p1, .p2, .svc, .fab], stage := 2 } → portState s.blk p = 3 →
        s.blk.net.unreset.contains p = false →
        exec (.nocRelease h p) s = .next (s.on fun b => (portReleased p b).respond (cmdOf h 0x0703) St.ok))) ∧
    (∀ m : Nat, m < 75 → dieOff s.blk (domainDie m) = false →
      (Admitted s.blk h { op := 0x0704, ports := [.h0, .p1, .p2, .svc, .fab], stage := 2 } →
        (72 ≤ m → s.blk.start.sitePresent.getLsbD (m - 72) = true) → s.blk.net.domOff.contains m = false →
        s.blk.net.domDrain.contains m = false → domFree s.blk m = true →
        exec (.nocDomainOff h m) s = .next (s.on fun b => drainAtOnce m ((domDrainStart m b).hold (cmdOf h 0x0704) 0x0704 m))) ∧
      (Admitted s.blk h { op := 0x0705, ports := [.h0, .p1, .p2, .svc, .fab], stage := 2 } → s.blk.net.domOff.contains m = true →
        (72 ≤ m → siteCut s.blk (m - 72) = false) →
        exec (.nocDomainOn h m) s = .next (s.on fun b => (domainOn m b).respond (cmdOf h 0x0705) St.ok)))

/-- Requests, responses and fences of the network take effect (R449, R455, R459 to R461, R469, R475): the parts of a request
go their ways with the lowest free tags, a response reaches its initiator, a design is handed a request and its answer goes back, and a
fence waits for what its initiator has outstanding. -/
def Obligations.NocTraffic : Prop :=
  ∀ (s : State) (src dst tag : BitVec 12), Running s.blk →
    (∀ (via kind : Fin 5) (addr : BitVec 48) (len : Fin 4096) (label : BitVec 12) (stream : Bool) (data : List (BitVec 8)),
      mayIssue s.blk src.toNat via addr.toNat = true → nocRequestForm kind addr.toNat (len + 1) (bytesOf data) = true →
      fenceBusy s.blk src.toNat = false → (kindPosted kind = true → flipHeld s.blk src.toNat = false) →
      tagsNeeded s.blk src.toNat kind addr.toNat (len + 1) ≤
        (freeTags s.blk src.toNat (tagsNeeded s.blk src.toNat kind addr.toNat (len + 1))).length →
      exec (.nocRequestIssue src via kind addr len label stream data) s = .next (s.on
        (issueParts src.toNat via kind addr.toNat (len + 1) label.toNat stream (bytesOf data)
          (freeTags s.blk src.toNat (tagsNeeded s.blk src.toNat kind addr.toNat (len + 1)))))) ∧
    (∀ (status : Fin 7) (flits : List (BitVec 6 × Bool × BitVec 512)) (full : Bool) (p : NetPart),
      s.blk.net.parts.find? (fun p => p.src == dst.toNat && p.tag == tag.toNat && p.phase != 0) = some p →
      exec (.nocResponseArrive dst tag status flits full) s = .next (s.on
        (responseTaken p status (flits.map fun x => (x.1.toNat, x.2.1, x.2.2)) full))) ∧
    (∀ (d : Fin 4) (k : Fin 96) (off : BitVec 31) (len : Fin 4096) (data : List (BitVec 8)), dieOff s.blk d = false →
      exec (.apTargetRequest d k src tag 2 off len data) s = .next (s.on fun b =>
        if targetStatus b (256 * d.val + k.val) = 0 then b.emit (.apTarget d k 2 off.toNat len 0 (bytesOf data))
        else bumpDiscard (256 * d.val + k.val) b) ∧
      (∀ (kind : Fin 3) (x : NetPart), kind.val ≠ 2 →
        s.blk.net.parts.find? (fun x => x.src == src.toNat && x.tag == tag.toNat && x.dst == 256 * d.val + k.val && x.phase == 1) = some x →
        exec (.apTargetRequest d k src tag kind off len data) s = .next (s.on fun b =>
          if targetStatus b (256 * d.val + k.val) = 0 then
            b.emit (.apTarget d k kind off.toNat len (4096 * src.toNat + tag.toNat) (bytesOf data))
          else partFail x (targetStatus b (256 * d.val + k.val)) b))) ∧
    (∀ (d : Fin 4) (k : Fin 96) (id : BitVec 24) (err : Bool) (data : List (BitVec 8)) (x : NetPart), dieOff s.blk d = false →
      s.blk.net.parts.find? (fun x => x.src == id.toNat / 4096 && x.tag == id.toNat % 4096 && x.dst == 256 * d.val + k.val && x.phase == 1) =
        some x →
      exec (.apTargetResponse d k id err data) s = .next (s.on fun b =>
        if portState b (256 * d.val + k.val) ≤ 1 ∧ apLive b d k = true then apAnswered d k id.toNat x err (bytesOf data) b
        else bumpRspDrop (256 * d.val + k.val) b)) ∧
    (∀ label : BitVec 12, isInitiator src.toNat = true → dieOff s.blk (src.toNat / 256) = false →
      (∀ d k, apOf src.toNat = some (d, k) → apLive s.blk d k = true ∧ apHeld s.blk d k = false) → fenceBusy s.blk src.toNat = false →
      2 ≤ stageOf s.blk → stageOf s.blk ≠ 7 →
      exec (.nocFence src label) s = .next (s.on fun b =>
        settleFences (fencePoint src.toNat (.own label.toNat) (postedEpoch b src.toNat) (tagsOf b src.toNat) b))) ∧
    (s.blk.net.fences.any (fun f => f.src == src.toNat && f.dsts.contains dst.toNat) = true → 
      (isSitePort dst.toNat = true → targetStatus s.blk dst.toNat ≠ 0) →
      exec (.fenceMark src dst) s = .next (s.on fun b => b.emit (.fenceAck src.toNat dst.toNat))) ∧
    exec (.fenceAck src dst) s = .next (s.on (markAcked src.toNat dst.toNat))

/-- Routers, re-routing, timeouts and power domains take effect (R457, R458, R463, R466 to R471, R478, R499). -/
def Obligations.NocEvents : Prop :=
  ∀ (s : State) (r : Fin 100), RunsOn s.blk (r / 24) →
    (∀ (hd : BitVec 128) (pl : BitVec 512) (err : Fin 3),
      (err.val = 2 → exec (.routerFlit r hd pl err) s = .next (s.on fun b => (b.raise Ev.nocHeaderError
        (originOf (if routerDie r < 4 then 0x21 + 0x20 * routerDie r else 0x0A))).eicEdge 1291)) ∧
      (err.val ≠ 2 →
      (routerOf (hdrDst hd.toNat) = r.val →
        exec (.routerFlit r hd pl err) s = .next (s.on fun b => b.emit (.routerLocal r hd))) ∧
      (∀ port : Nat, routerOf (hdrDst hd.toNat) ≠ r.val → ∀ e : Nat,
        e = routeEntry s.blk (routerDie r) (r % 24) (fldGet hd.toNat 6 1) (routerOf (hdrDst hd.toNat)) →
        (fldGet e 16 2 ≠ 1 → fldGet e 16 2 ≠ 2 → pickPort (e % 2 ^ 16) (hdrSrc hd.toNat) (hdrDst hd.toNat) = some port →
          exec (.routerFlit r hd pl err) s = .next (s.on fun b => pumpFlits { b with net := { b.net with
            flits := b.net.flits ++ [{ router := r, port := port, header := hd, payload := pl }] } })) ∧
        (fldGet e 16 2 = 1 ∨ fldGet e 16 2 = 2 → exec (.routerFlit r hd pl err) s = .next (s.on fun b =>
          if hd.toNat % 16 = 5 then b.emit (.fenceAck (hdrSrc hd.toNat) (hdrDst hd.toNat))
          else if hd.toNat % 16 = 0 ∨ hd.toNat % 16 = 1 ∨ hd.toNat % 16 = 3 then
            b.emit (.routerAnswer r (if fldGet e 16 2 = 1 then 4 else 3) hd)
          else b))))) ∧
    (∀ (port : Fin 16) (vc : Fin 4), exec (.nocCreditReturn r port vc) s = .next (s.on fun b => pumpFlits { b with net := { b.net with
      spent := spSet (fun _ => 0) b.net.spent (outKey r port vc) (spGet (fun _ => 0) b.net.spent (outKey r port vc) - 1) } })) ∧
    (∀ (gone : BitVec 4) (spared halved : List (Fin 34)) (sites : List (Fin 3)), 2 ≤ stageOf s.blk → stageOf s.blk ≠ 7 →
      s.blk.gr.up = true → s.blk.gr.restarting = false → setFits s.blk gone (spared.map (·.val)) = true →
      exec (.rerouteStart gone spared halved sites) s = .next (s.on fun b =>
        rerouteBegin (rerouteAsked (setFor b gone (spared.map (·.val)) (halved.map (·.val))) (sites.map (·.val)) b))) ∧
    (∀ (x : Reroute) (rest : List Reroute), s.blk.net.reroutes = x :: rest →
      (x.step = 1 → exec .rerouteTablesConfirmed s = .next (s.on (modReroute fun _ => { x with step := 2 }))) ∧
      (∀ site : Fin 3, exec (.sitePortMoveConfirm site) s = .next (s.on (modReroute fun _ =>
        { x with sites := x.sites.filter (· != site.val) }))) ∧
      (x.step = 3 → s.blk.flag (Rg.router (routerDie r) (r % 24)) Rg.rtFlipSeen = true → oldCount s.blk r = 0 →
        s.blk.net.fences.any (fun f => f.what == .flip) = false →
        (flipsLeft (tableRetired r s.blk) = true → exec (.routerTableRetire r) s = .next (s.on (tableRetired r))) ∧
        (flipsLeft (tableRetired r s.blk) = false →
          exec (.routerTableRetire r) s = .next (s.on fun b => rerouteComplete (tableRetired r b)))) ∧
      (x.step = 3 → x.slow = false → exec .rerouteSlow s = .next (s.on fun b =>
        (modReroute (fun x => { x with slow := true }) ((reachTime (x.flipped + 10000000#64) b).raise Ev.nocRerouteSlow
          (originOf 0x01))).eicEdge 1291))) ∧
    (∀ p : BitVec 12, isTarget s.blk p.toNat = true → portState s.blk p.toNat ≠ 3 →
      (¬ (p.toNat / 256 < 4 ∧ (p.toNat % 256 = 0x68 ∨ p.toNat % 256 = 0x69)) →
        exec (.targetTimeout p) s = .next (s.on (isolatePort p.toNat false))) ∧
      (p.toNat / 256 < 4 → p.toNat % 256 = 0x68 ∨ p.toNat % 256 = 0x69 →
        exec (.targetTimeout p) s = .next (s.on fun b =>
          (channelError (2 * (p.toNat / 256) + (p.toNat % 256 - 0x68)) b).putB (tportAt p.toNat) Rg.tpTimeoutSeen true))) ∧
    (∀ m : Fin 75, (s.blk.net.domDrain.contains m.val = true → openOf (drainEnded m s.blk) 0x0704 m ≠ [] →
        exec (.domainDrainEnd m) s = .next (s.on fun b => (domainOff m (drainEnded m b)).close 0x0704 m St.ok)) ∧
      (s.blk.net.domDrain.contains m.val = true → openOf (drainEnded m s.blk) 0x0704 m = [] →
        exec (.domainDrainEnd m) s = .next (s.on (drainEnded m))) ∧
      exec (.domainOpened m) s = .next (s.on fun b => when (48 ≤ m.val && decide (m.val < 72)) (tppPlates (m - 48))
        ((domPorts m).foldl (fun b p => if portState b p == 4 then setPort p (portHome b p) b else b) b)))

/-- Die-link commands take effect on a module whose dies are not held in reset (R127, R488, R489, R499, R506): its status, a retraining,
a withdrawal behind a re-route, discovery, the end of a width hold, and the steering of a Seam wire. -/
def Obligations.DieLinkCommands : Prop :=
  ∀ (s : State) (h : Hdr) (m : Nat), m < 34 → (∀ d ∈ linkEnds m, s.blk.start.dieHeld.getLsbD d = false) →
    (Admitted s.blk h { op := 0x0800, ports := [.h0, .p1, .p2, .svc, .fab], stage := 2 } →
      exec (.dlStatus h m) s = .next (s.on fun b =>
        b.respond (cmdOf h 0x0800) St.ok ((linkEnds m).map (fun d => (8, (b.reg (Rg.dl d m)).toNat))))) ∧
    (Admitted s.blk h { op := 0x0801, ports := [.h0, .p1, .p2, .svc, .fab], stage := 2 } →
      moduleState s.blk m = 4 ∨ moduleState s.blk m = 5 →
      exec (.dlRetrain h m) s = .next (s.on fun b => (enterRetrain m b).hold (cmdOf h 0x0801) 0x0801 m)) ∧
    (Admitted s.blk h { op := 0x0801, ports := [.h0, .p1, .p2, .svc, .fab], stage := 2 } → moduleState s.blk m = 6 →
      exec (.dlRetrain h m) s = .next (s.on fun b => b.respond (cmdOf h 0x0801) St.busy)) ∧
    (Admitted s.blk h { op := 0x0802, ports := [.h0, .p1, .p2, .svc, .fab], stage := 2 } →
      moduleState s.blk m = 4 ∨ moduleState s.blk m = 5 ∨ moduleState s.blk m = 6 → held s.blk [0x0802] m = false →
      lastPath s.blk m = false →
      exec (.dlDown h m) s = .next (s.on fun b => (downAsked m b).hold (cmdOf h 0x0802) 0x0802 m)) ∧
    (Admitted s.blk h { op := 0x0802, ports := [.h0, .p1, .p2, .svc, .fab], stage := 2 } → moduleState s.blk m = 4 → m < 24 →
      held s.blk [0x0802] m = false → (∀ b ∈ siblings m, b ≠ m → moduleState s.blk b ≠ 4 ∧ moduleState s.blk b ≠ 5) →
      exec (.dlDown h m) s = .next (s.on fun b => b.respond (cmdOf h 0x0802) 0x0800)) ∧
    (Admitted s.blk h { op := 0x0803, ports := [.h0, .p1, .p2, .svc, .fab], stage := 2 } → moduleState s.blk m = 0 →
      exec (.dlUp h m) s = .next (s.on fun b => (discover m b).hold (cmdOf h 0x0803) 0x0803 m)) ∧
    (∀ d ∈ linkEnds m, Admitted s.blk h { op := 0x0804, ports := [.h0, .p1, .p2, .svc, .fab], stage := 2, expert := true } →
      s.blk.flag (Rg.dl d m) Rg.mWidthHeld = true →
      exec (.dlClearDegrade h m) s = .next (s.on fun b => (holdEnds m b).respond (cmdOf h 0x0804) St.ok)) ∧
    (∀ die group wire : Nat, Admitted s.blk h { op := 0x0805, ports := [.h0, .p1, .p2, .svc, .fab], stage := 2 } →
      die < 4 → group < 1536 → wire < 32 → dieOff s.blk die = false →
      s.blk.flag (seamEnd (seamOfDie die group).1 (seamOfDie die group).2 0) Rg.sgLost = false →
      seamCarried s.blk (seamOfDie die group).1 (seamOfDie die group).2 wire = false →
      seamIdle? s.blk (seamOfDie die group).1 (seamOfDie die group).2 ≠ none →
      exec (.seamSteer h die group wire) s = .next (s.on fun b =>
        (seamSteer (seamOfDie die group).1 (seamOfDie die group).2 wire 2 none b).hold (cmdOf h 0x0805) 0x0805
          (seamObj (seamOfDie die group).1 (seamOfDie die group).2 wire)))

/-- What an end of a module receives takes effect (R482, R484 to R489, R491 to R494, R497, R501 to R504): records, parameters, flits, NAKs,
the units of a carry-over, timeouts, a lost receiver lock, a low margin and a lost clock. -/
def Obligations.DieLinkEvents : Prop :=
  ∀ (s : State) (d : Fin 5) (m : Fin 34), Running s.blk → hasEnd d m = true →
    (linkState s.blk d m = 1 →
      exec (.discoverySend d m) s = .next (s.on fun b => b.emit (.discoveryRecord d m (recordOf b d m))) ∧
      exec (.discoverTimeout d m) s = .next (s.on (discoverEnds m)) ∧
      (∀ r : BitVec 384, recGood (recBytes r) = false → exec (.discoveryRecord d m r) s = .next s) ∧
      (∀ r : BitVec 384, recGood (recBytes r) = true → exec (.discoveryRecord d m r) s = .next (s.on (recordTaken d m (recBytes r))))) ∧
    (∀ (r : BitVec 384) (found : BitVec 68), dieOff s.blk d = false → linkState s.blk d m = 3 ∨ linkState s.blk d m = 6 → recGood (recBytes r) = true →
      exec (.parameterExchangeDone d m r found) s = .next (s.on (paramsTaken d m (recBytes r) found))) ∧
    (linkState s.blk d m = 3 →
      exec (.dlTrainTimeout d m) s = .next (s.on fun b => (moduleDown m true b).close 0x0803 m St.timeout)) ∧
    (linkState s.blk d m = 6 →
      exec (.retrainTimeout d m) s = .next (s.on fun b => (moduleDown m true b).close 0x0801 m St.timeout)) ∧
    (dieOff s.blk d = false → linkUp s.blk d m = true →
      exec (.dlRxLockLoss d m) s = .next (s.on (enterRetrain m)) ∧
      (∀ flit : BitVec 2048,
        (flitGood (flitOf (linkV2 s.blk d m) flit.toNat) = true →
          exec (.fregalFlitReceive d m flit) s = .next (s.on (flitAccepted d m (flitOf (linkV2 s.blk d m) flit.toNat)))) ∧
        (flitGood (flitOf (linkV2 s.blk d m) flit.toNat) = false →
          exec (.fregalFlitReceive d m flit) s = .next (s.on fun b => sendNak d m (b.bump (Rg.dl d m + Rg.mCrcErr))))) ∧
      (∀ seq : BitVec 16,
        (unacked (ackHeld ((seq.toNat + 0xFFFF) % 0x10000) (getEnd s.blk d m))).any (fun x => x.1 == seq.toNat) = true →
        exec (.fregalNak d m seq) s = .next (s.on fun b =>
          replay d m seq.toNat (modEnd d m (ackHeld ((seq.toNat + 0xFFFF) % 0x10000)) b))) ∧
      (∀ (x : Nat × List Nat) (l : List (Nat × List Nat)), unacked (getEnd s.blk d m) = x :: l →
        exec (.replayTimeout d m) s = .next (s.on (replay d m x.1))) ∧
      (∀ k : Fin 4, sibling m k ≠ m.val → k.val < (siblings m).length →
        exec (.carryReq d m k) s = .next (s.on (carryGranted d m k))) ∧
      (∀ count : BitVec 32,
        ((getEnd s.blk d m).inCount = count.toNat → exec (.carryResume d m count) s = .next (s.on (carryEnd d m))) ∧
        ((getEnd s.blk d m).inCount ≠ count.toNat → exec (.carryResume d m count) s = .next (s.on
          (modEnd d m fun e => { e with resumeAt := some count.toNat })))) ∧
      (∀ lane : Fin 64, (getEnd s.blk d m).rxFail.getLsbD lane = false →
        (s.blk.flag (Rg.dl d m) Rg.mAutoSteer = true → exec (.dlLaneMargin d m lane) s = .next (s.on fun b =>
          enterRetrain m (modEnd d m (fun e => { e with low := some lane.val }) (b.putB (Rg.dl d m) Rg.mSteering true)))) ∧
        (s.blk.flag (Rg.dl d m) Rg.mAutoSteer = false →
          exec (.dlLaneMargin d m lane) s = .next (s.on (dlEvent d Ev.dlLaneSteered 0))))) ∧
    (∀ (k : Fin 4) (seq offset : BitVec 16), dieOff s.blk d = false → (getEnd s.blk d (sibling m k)).carrier = some (m.val, false) →
      exec (.carryAck d m k seq offset) s = .next (s.on (carriedOver d m k seq.toNat offset.toNat))) ∧
    (clockDie (edgeOf m) = some d.val →
      ((siblings m).all (fun b => (clockLost m s.blk).dl.clkLost.contains b) = true →
        exec (.dlClockLoss d m) s = .next (s.on fun b => dieDown d (clockLost m b))) ∧
      ((siblings m).all (fun b => (clockLost m s.blk).dl.clkLost.contains b) = false →
        exec (.dlClockLoss d m) s = .next (s.on fun b => clockMove m (clockLost m b))))

/-- Queue engine commands take effect (R508, R509, R518, R522, R524, R530, R531): a group's owner, a new queue's context, the closing and
the fresh start of a queue, a vector's settings, and the status answers. -/
def Obligations.QueueCommands : Prop :=
  ∀ (s : State) (h : Hdr),
    (∀ (group owner : Nat) (o : Option Port), Admitted s.blk h { op := 0x0900, ports := [.svc], stage := 1 } → ownerOf owner = some o →
      group < 65536 → s.blk.qe.made.any (fun q => q / 16 == group) = false →
      exec (.qeGroupAssign h group owner) s = .next (s.on fun b =>
        (modQe (fun x => { x with owners := spSet (fun _ => none) x.owners group o }) b).respond (cmdOf h 0x0900) St.ok)) ∧
    (∀ (queue base log2 dir esize vector cls irqEn pin pushSrc wbAddr deliv window : Nat) (b : Block),
      Admitted s.blk h { op := 0x0901, ports := [.h0, .p1, .p2, .svc, .fab], stage := 1 } →
      createBad queue log2 dir esize vector cls irqEn pin pushSrc wbAddr deliv window = false →
      ownsQueue s.blk h.port queue = true → s.blk.qe.made.contains queue = false →
      ringPlaced base ((if esize = 1 then 64 else 32) * 2 ^ log2) = true → (pin = 1 → pinnedCount s.blk < 8192) →
      makeRoom queue s.blk = (true, b) →
      exec (.qeQueueCreate h queue base log2 dir esize vector cls irqEn pin pushSrc wbAddr deliv window) s = .next (s.set
        ((putCtx queue (newQueue base log2 dir esize vector cls irqEn pin pushSrc wbAddr deliv window)
          (modQe (fun y => { y with made := y.made ++ [queue] }) b)).respond (cmdOf h 0x0901) St.ok))) ∧
    (∀ (queue : Nat) (x : QCtx) (b : Block), queue < 1048576 → ownsQueue s.blk h.port queue = true →
      s.blk.qe.made.contains queue = true → s.blk.qe.closing.contains queue = false → ctxOf s.blk queue = some x →
      makeRoom queue s.blk = (true, b) →
      (Admitted s.blk h { op := 0x0902, ports := [.h0, .p1, .p2, .svc, .fab], stage := 1 } →
        exec (.qeQueueDestroy h queue) s = .next (s.set
          (settleDestroy queue ((queueClosing queue x b).hold (cmdOf h 0x0902) 0x0902 queue)))) ∧
      (Admitted s.blk h { op := 0x0903, ports := [.h0, .p1, .p2, .svc, .fab], stage := 1 } →
        exec (.qeQueueReset h queue) s = .next (s.set ((queueAfresh queue x b).respond (cmdOf h 0x0903) St.ok))) ∧
      (Admitted s.blk h { op := 0x0904, ports := [.h0, .p1, .p2, .svc, .fab], stage := 1 } →
        exec (.qeQueueStatus h queue) s = .next (s.set (b.respond (cmdOf h 0x0904) St.ok
          [(8, slotWord b queue), (2, x.credit), (4, x.dropped.toNat + x.ovf.toNat * 2 ^ 31)])))) ∧
    (∀ vector cls thresh timer target mask : Nat,
      Admitted s.blk h { op := 0x0905, ports := [.h0, .p1, .p2, .svc, .fab], stage := 1 } → 0 < thresh → thresh ≤ 255 → 0 < timer →
      timer ≤ 1000 → mask ≤ 1 → (cls = 0 ∧ vector < 4096 ∧ target ≤ 3 ∨ cls = 1 ∧ vector < 256 ∧ target ≤ 1) →
      maySetVector s.blk h.port (4096 * cls + vector) = true →
      exec (.qeVectorSet h vector cls thresh timer target mask) s = .next (s.on fun b =>
        (vecChanged (4096 * cls + vector) (vectorPut (4096 * cls + vector) thresh timer target mask b)).respond
          (cmdOf h 0x0905) St.ok)) ∧
    (Admitted s.blk h { op := 0x0906, ports := [.h0, .p1, .p2, .svc, .fab], stage := 1 } →
      exec (.qeStatus h) s = .next (s.on fun b => b.respond (cmdOf h 0x0906) St.ok [(8, qeHostStatus b)]))

/-- What reaches port 0x402 and what the queue engine does on its own takes effect (R511, R512, R514 to R527): pushes, doorbells
and credit returns of those who may, context fills, write-backs and retries, ring writes and fetches, vectors and their timers, and the
host's sleep. -/
def Obligations.QueueEvents : Prop :=
  ∀ (s : State) (q : Fin 1048576) (src : BitVec 12), Running s.blk →
    (qeOn s.blk = true →
      (∀ (wide : Bool) (data : BitVec 512), exec (.qePush src q wide data) s = .next (s.on (workArrive (.push src.toNat q wide data)))) ∧
      (ownerWrites (groupOwner s.blk (q / 16)) src.toNat = true → ∀ v : BitVec 64,
        (otherDir s.blk q false = false →
          exec (.qeCompletionDoorbell src q v) s = .next (s.on (workArrive (.doorbell src.toNat q v.toNat)))) ∧
        (otherDir s.blk q true = false →
          exec (.qeSubmissionDoorbell src q v) s = .next (s.on (workArrive (.doorbell src.toNat q v.toNat)))) ∧
        exec (.qeCreditReturn src q v) s = .next (s.on (workArrive (.credit src.toNat q (v.toNat % 8192)))))) ∧
    (s.blk.qe.waiting.any (fun w => workQueue w == q.val) = true → cached? s.blk q = none → s.blk.qe.retry.contains q.val = false →
      exec (.qeContextFill q) s = .next (s.on (contextRead q))) ∧
    (s.blk.qe.retry.contains q.val = true → cached? s.blk q = none →
      exec (.qeContextRetry q) s = .next (s.on (contextRead q))) ∧
    (∀ e : QCache, cached? s.blk q = some e →
      (e.dirty = true → s.blk.qe.retry.contains q.val = false →
        exec (.qeContextWriteback q false) s = .next (s.on fun b => (writeBack q e b).2)) ∧
      (evictable s.blk (q.val, some e) = true → exec (.qeContextWriteback q true) s = .next (s.on (evictNow q e)))) ∧
    (∀ (i : Nat) (ok : Bool),
      (∀ w : RingWrite, s.blk.qe.writes[i]? = some w → exec (.qeRingWriteResponse i ok) s = .next (s.on (writeAnswered w ok))) ∧
      (∀ p n : Nat, s.blk.qe.fetches[i]? = some (q.val, p, n) →
        exec (.qeFetchResponse i ok) s = .next (s.on (fetchAnswered q p n ok)))) ∧
    (∀ (c : QCtx) (b : Block), ctxOf s.blk q = some c → qeOn s.blk = true → c.valid = true → c.sub = true → c.error = false →
      s.blk.qe.fetches.any (fun f => f.1 == q.val) = false → 0 < fetchCount c → makeRoom q s.blk = (true, b) →
      exec (.qeSubmissionFetch q) s = .next (s.set
        (modQe (fun x => { x with fetches := x.fetches ++ [(q.val, c.head, fetchCount c)] }) (putCtx q c b)))) ∧
    (∀ (c : QCtx) (b : Block), b = modQe (fun x => { x with wbDue := x.wbDue.filter (· != q.val) }) s.blk →
      s.blk.qe.wbDue.contains q.val = true → ctxOf b q = some c → c.wb = true →
      exec (.qeHeadWriteback q) s = .next (s.set (postWrite c.wbAddr (leBytes 8 (posWord c.log2 c.head)) b))) ∧
    (∀ v : Fin 4352,
      (∀ f : VecFire, s.blk.qe.firings.find? (fun f => f.vec == v.val && f.wait.isEmpty && !f.woken) = some f →
        (hostVec v = true → sleepState s.blk ≠ 0 → s.blk.qe.entering.contains v.val = false →
          exec (.qeVectorFire v) s = .next (s.on (wakePend f))) ∧
        (sleepState s.blk = 0 → exec (.qeVectorFire v) s = .next (s.on (firingSent f)))) ∧
      (s.blk.flag (Rg.vec v) Rg.vTimerRun = true → exec (.qeVectorTimer v) s = .next (s.on fun b =>
        tryFire v (modQe (fun x => { x with due := x.due.filter (· != v.val) ++ [v.val] }) (b.putB (Rg.vec v) Rg.vTimerRun false))))) ∧
    (sleepState s.blk = 0 → exec .qeSleepReq s = .next (s.on sleepBegin)) ∧
    (sleepState s.blk = 1 → s.blk.qe.entering = [] →
      (s.blk.qe.awakeSeen = false → exec .qeSleepEntered s = .next (s.on asleep)) ∧
      (s.blk.qe.awakeSeen = true → exec .qeSleepEntered s = .next (s.on hostAwake))) ∧
    (sleepState s.blk = 1 → exec .qeAwake s = .next (s.on (modQe fun x => { x with awakeSeen := true }))) ∧
    (2 ≤ sleepState s.blk → exec .qeAwake s = .next (s.on hostAwake))

/-- The interrupt controller's rows take effect (R534, R536, R538 to R546, R548, R673, R674): a source's edge or level, a notification, a
claim and its completion, the settings of a source and of a target by a port that has the target, and the status. -/
def Obligations.EicRows : Prop :=
  ∀ (s : State) (h : Hdr) (t : Fin 8),
    (Running s.blk →
      (∀ n : Fin 2048, srcF s.blk n Rg.srcMode = 0 → exec (.eicSourceEdge n) s = .next (s.on fun b => b.eicEdge n)) ∧
      (∀ (sector : Fin 320) (line : Fin 256) (high : Bool), exec (.eicSourceLevel sector line high) s =
        .next (s.on (eicSourceLevelStep sector line high))) ∧
      (∀ n : Nat, eicBest s.blk t = some n → s.blk.flag (Rg.eicT t) Rg.eicNotified = false → (t.val < 2 ∨ 6 ≤ t.val ∨ sleepState s.blk < 2) →
        exec (.eicNotify t) s = .next (s.on (notifyTarget t n))) ∧
      exec (.eicClaim t) s = .next (s.set ((eicClaimRead t s.blk).2.emit (.regData (ctlAddr (Rg.eicT t + 0x08)) (eicClaimRead t s.blk).1))) ∧
      (∀ n : Fin 2048, activeFor s.blk t n = true → exec (.eicComplete t n) s = .next (s.on (completeSource t n)))) ∧
    (∀ src prio enable mode : Nat, Admitted s.blk h { op := 0x0A00, ports := [.h0, .p1, .p2, .svc, .fab], stage := 1 } →
      src < 2048 → eicAssigned src = true → prio ≤ 31 → enable ≤ 255 → mode ≤ 1 → Nat.land enable (portTargets h.port) = enable →
      exec (.eicSourceSet h src prio enable mode) s = .next (s.on fun b =>
        (sourceChanged src (sourcePut src prio enable mode (portTargets h.port) b)).respond (cmdOf h 0x0A00) St.ok)) ∧
    (∀ thresh msgAddr : Nat, Admitted s.blk h { op := 0x0A01, ports := [.h0, .p1, .p2, .svc, .fab], stage := 1 } →
      thresh ≤ 31 → (portTargets h.port).testBit t = true → inSiteWindow s.blk t msgAddr = true → msgAddr % 64 = 0 →
      exec (.eicTargetSet h t thresh msgAddr) s = .next (s.on fun b =>
        (settleNotified ((b.put (Rg.eicT t) Rg.eicThresh thresh).put (Rg.eicT t) Rg.eicMsgAddr msgAddr)).respond (cmdOf h 0x0A01) St.ok)) ∧
    (Admitted s.blk h { op := 0x0A02, ports := [.h0, .p1, .p2, .svc, .fab], stage := 1 } →
      exec (.eicStatus h) s = .next (s.on fun b => b.respond (cmdOf h 0x0A02) St.ok
        ((List.range 8).map (fun t => (1, (b.reg (Rg.eicT t + 0x18)).toNat)) ++ (List.range 8).map (fun t => (1, b.f (Rg.eicT t) Rg.eicThresh)))))

/-- Restarts, crashes and the Safelight network take effect (R551 to R556, R570, R582, R620): a mismatch or an expired watchdog makes a restart
due, which begins and ends with its own steps; a good frame acts at its window; a failed segment and an event frame are taken. -/
def Obligations.RestartEvents : Prop :=
  ∀ s : State, s.blk.start.inReset = false →
    (s.blk.gr.up = true → s.blk.gr.restarting = false →
      exec .lockstepMismatch s = .next (s.on (modGr fun g => { g with restartDue := some 1 })) ∧
      exec .watchdogExpiry s = .next (s.on (modGr fun g => { g with restartDue := some 2 }))) ∧
    (∀ cause : Nat, s.blk.gr.restartDue = some cause → s.blk.gr.restarting = false → restartWaits s.blk cause = false →
      exec .greoneRestartBegin s = .next (s.on (restartBegin cause))) ∧
    (∀ cause : Nat, s.blk.gr.restartDue = some cause → s.blk.gr.restarting = true → s.blk.start.imageChosen = true → ∀ b,
      b = modGr (fun g => { g with restarting := false, restartDue := none }) s.blk →
      (stageOf b ≠ 0 → stageOf b ≠ 7 → exec .greoneReady s = .next (s.set (restartedFirmware cause b))) ∧
      (stageOf b = 0 ∨ stageOf b = 7 → exec .greoneReady s = .next (s.set b))) ∧
    (∀ f : BitVec 160, safelightOk f = true →
      (∀ w : Nat, fldGet f.toNat 0 4 = 2 ∨ fldGet f.toNat 0 4 = 3 → portWindow (fldGet f.toNat 8 12) = some w →
        exec (.safelightFrame f) s = .next (s.on (safelightAccess (fldGet f.toNat 0 4) w (fldGet f.toNat 56 8) (fldGet f.toNat 20 12)
          (fldGet f.toNat 32 24) (fldGet f.toNat 64 64)))) ∧
      (fldGet f.toNat 0 4 = 4 → exec (.safelightFrame f) s = .next (s.on (modGr fun g =>
        { g with slReplies := g.slReplies.filter (fun x => !(x.1 == fldGet f.toNat 56 8 && x.2.1 == fldGet f.toNat 8 12)) }))) ∧
      (fldGet f.toNat 0 4 = 5 → exec (.safelightFrame f) s = .next (s.on eventFrameStep))) ∧
    (∀ (k : Fin 5) (rev : Bool), s.blk.gr.segFail.getLsbD (k.val + (if rev then 5 else 0)) = false →
      exec (.safelightSegmentFail k rev) s = .next (s.on (segmentFailed k rev))) ∧
    (∀ (f : EvFrame) (l : List EvFrame), s.blk.ev.frames = f :: l → s.blk.ev.fifo.length < 512 →
      exec .eventFrame s = .next (s.on (modEv fun e => { e with frames := l, fifo := e.fifo ++ [f] }))) ∧
    (∀ (f : EvFrame) (l : List EvFrame), s.blk.ev.fifo = f :: l → firmwareRuns s.blk = true →
      exec .eventLogWrite s = .next (s.on (logFrame f)))

/-- Mailbox rings and registers take effect (R9, R10, R562, R563, R568, R573, R579): a doorbell and a release within the ring, the taking of the
next entry, the writing of the oldest response, and writes of registers. -/
def Obligations.MailboxRows : Prop :=
  ∀ (s : State) (p : Port), s.blk.start.inReset = false →
    (∀ tail : BitVec 7, (tail.toNat + 128 - s.blk.f (Rg.mbx (portNum p)) Rg.cmdTail) % 128 ≤
        64 - (s.blk.f (Rg.mbx (portNum p)) Rg.cmdTail + 128 - s.blk.f (Rg.mbx (portNum p)) Rg.cmdHead) % 128 →
      exec (.mbxDoorbell p tail) s = .next (s.on fun b => b.put (Rg.mbx (portNum p)) Rg.cmdTail tail.toNat)) ∧
    (∀ head : BitVec 7, (head.toNat + 128 - s.blk.f (Rg.mbx (portNum p)) Rg.rspHead) % 128 ≤
        (s.blk.f (Rg.mbx (portNum p)) Rg.rspTail + 128 - s.blk.f (Rg.mbx (portNum p)) Rg.rspHead) % 128 →
      exec (.mbxRspRelease p head) s = .next (s.on fun b => b.put (Rg.mbx (portNum p)) Rg.rspHead head.toNat)) ∧
    (∀ v1 : Bool, canTake s.blk p v1 = true → s.blk.f (Rg.mbx (portNum p)) Rg.cmdHead ≠ s.blk.f (Rg.mbx (portNum p)) Rg.cmdTail →
      exec (.mbxCommandTake p) s = .next (s.on (takeEntry p v1))) ∧
    (∀ r : Rsp, s.blk.mbx.rsp.find? (fun r => r.cmd.port == p) = some r → s.blk.gr.up = true → s.blk.gr.restarting = false →
      rspUsed s.blk p < 64 → exec (.mbxResponseWrite p) s = .next (s.on (writeResponse p r))) ∧
    (∀ (addr : BitVec 32) (size8 : Bool) (v : BitVec 64),
      exec (.registerWrite addr size8 v) s = .next (s.on (writeReg addr.toNat size8 v.toNat)) ∧
      (hasCounter addr.toNat = true →
        exec (.counterClearWrite addr size8 v) s = .next (s.on (writeReg addr.toNat size8 v.toNat))))

/-- Device commands take effect (R566, R569, R572, R584, R586): what they read, write or arrange, and their response. -/
def Obligations.DeviceCommands : Prop :=
  ∀ (s : State) (h : Hdr),
    (Admitted s.blk h { op := 0x0000, ports := [.h0, .p1, .p2, .svc, .jtag, .fab], stage := 0 } →
      exec (.devInfo h) s = .next (s.on fun b => b.respond (cmdOf h 0x0000) St.ok (devInfo b))) ∧
    (Admitted s.blk h { op := 0x0001, ports := [.h0, .p1, .p2, .svc, .jtag, .fab], stage := 0 } →
      exec (.devStatus h) s = .next (s.on fun b => b.respond (cmdOf h 0x0001) St.ok (devStatus b))) ∧
    (Admitted s.blk h { op := 0x0002, ports := [.h0, .p1, .p2, .svc, .jtag, .fab], stage := 1 } →
      exec (.mbxBarrier h) s = .next (s.on fun b => settleBarrier h.port (b.hold (cmdOf h 0x0002) 0x0002 0))) ∧
    (∀ addr size a : Nat, cmdReg addr size = some a → dieUnreachable s.blk a = false →
      (Admitted s.blk h { op := 0x0003, ports := [.h0, .p1, .p2, .svc, .jtag, .fab], stage := 1 } → regReadable s.blk h.port a = true →
        exec (.regRead h addr size) s = .next (s.set
          ((readReg a (size == 8) s.blk).2.respond (cmdOf h 0x0003) St.ok [(8, (readReg a (size == 8) s.blk).1)]))) ∧
      (∀ v : Nat, Admitted s.blk h { op := 0x0004, ports := [.h0, .p1, .p2, .svc, .fab], stage := 1, expert := true } →
        winOf a ≠ 0x01 → (winOf a = 0x00 → a / 0x100000 = portNum h.port) → greoneWrites a = false →
        exec (.regWrite h addr size v) s = .next (s.on fun b => (writeReg a (size == 8) v b).respond (cmdOf h 0x0004) St.ok))) ∧
    (Admitted s.blk h { op := 0x0007, ports := [.svc], stage := 1 } →
      exec (.greoneRestart h) s = .next (s.on fun b => restartFor 4 (b.respond (cmdOf h 0x0007) St.ok))) ∧
    (∀ level : Nat, Admitted s.blk h { op := 0x0008, ports := [.h0, .p1, .p2, .svc, .jtag, .fab], stage := 1 } → level ≤ 2 →
      exec (.expertDrop h level) s = .next (s.on fun b => (levelDrop h.port level b).respond (cmdOf h 0x0008) St.ok)) ∧
    (∀ (seq : Nat) (e : EvEntry), Admitted s.blk h { op := 0x0009, ports := [.h0, .p1, .p2, .svc, .jtag, .fab], stage := 1 } →
      s.blk.ev.log.find? (fun e => decide (seq ≤ e.seq.toNat)) = some e →
      exec (.eventRead h seq) s = .next (s.on fun b => b.respond (cmdOf h 0x0009) St.ok ((eventBytes e).map (fun x => (1, x))))) ∧
    (Admitted s.blk h { op := 0x000A, ports := [.h0, .svc], stage := 1 } →
      (∀ floor : Nat, exec (.eventQueue h 0xFFFFF floor) s = .next (s.on fun b =>
        (modEv (fun e => { e with queue := none }) b).respond (cmdOf h 0x000A) St.ok)) ∧
      (∀ q floor : Nat, q < 0xFFFFF → floor ≤ 3 → eventQueueOk s.blk h.port q = true →
        exec (.eventQueue h q floor) s = .next (s.on fun b =>
          (modEv (fun e => { e with queue := some (q, floor) }) b).respond (cmdOf h 0x000A) St.ok))) ∧
    (∀ id v : Nat, settingDefault id ≠ none →
      (Admitted s.blk h { op := 0x000B, ports := [.h0, .p1, .p2, .svc, .jtag, .fab], stage := 1 } →
        exec (.settingsRead h id) s = .next (s.on fun b => b.respond (cmdOf h 0x000B) St.ok
          [(8, settingIn b.gr.committed id), (1, settingLen id), (1, settingSource b id)])) ∧
      (Admitted s.blk h { op := 0x000C, ports := [.h0, .svc], stage := 1 } → settingInRange s.blk id v = true →
        overCeiling s.blk id v = false →
        exec (.settingsWrite h id v) s = .next (s.on fun b => (stageValue id v b).respond (cmdOf h 0x000C) St.ok))) ∧
    (∀ addr len : Nat, Admitted s.blk h { op := 0x000D, ports := [.h0, .svc], stage := 1 } → storeBlocked s.blk = false →
      s.blk.gr.staged.any (fun x => settingOwner x.1) = false ∨ activeSlots s.blk = [] →
      exec (.settingsCommit h addr len) s = .next (s.on (commitStart (cmdOf h 0x000D))))

/-- Self-tests take effect (R575 to R577): a test that runs now is held until it ends, a scheduled one enters the lowest empty slot, a
waiting one is cancelled; a quiet point starts a test, and a finished run ends with its result. -/
def Obligations.SelfTests : Prop :=
  ∀ (s : State) (h : Hdr),
    (∀ test target args n : Nat, Admitted s.blk h { op := 0x0E00, ports := [.h0, .p1, .p2, .svc, .fab], stage := 1 } →
      testTargets test = some n → testTarget test target < n → testArgsOk s.blk test (testTarget test target) args = true →
      test ≠ 0x11 → stageOk s.blk (testStage test) = true → testReach s.blk test (testTarget test target) = true →
      (test = 1 → laneState s.blk (testTarget test target) = 5) → testCond s.blk test (testTarget test target) = true →
      testBusy s.blk test (testTarget test target) = false →
      exec (.testRun h test target args) s = .next (s.on fun b =>
        (testAdd { test := test, target := testTarget test target, slot := none, resume := false, begun := true }
          (testBegin test (testTarget test target) args b)).hold (cmdOf h 0x0E00) 0x0E00 (testObj test (testTarget test target)))) ∧
    (∀ test quiet target time args n k : Nat, Admitted s.blk h { op := 0x0E01, ports := [.h0, .p1, .p2, .svc, .fab], stage := 1 } →
      testTargets test = some n → testTarget test target < n → quiet ≤ 3 → (quiet = 1 → test = 0xD) → (quiet = 2 → time ≠ 2 ^ 64 - 1) →
      testArgsOk s.blk test (testTarget test target) args = true → (List.range 16).find? (fun k => (getSlot s.blk k).isNone) = some k →
      exec (.testSchedule h test quiet target time args) s = .next (s.on fun b =>
        (slotPut k (some { test := test, quiet := quiet, target := testTarget test target, time := time, args := args, port := h.port }) 0
          b).respond (cmdOf h 0x0E01) St.ok [(1, k)])) ∧
    (∀ k : Nat, k < 16 →
      (Admitted s.blk h { op := 0x0E02, ports := [.h0, .p1, .p2, .svc, .fab], stage := 1 } → getSlot s.blk k ≠ none →
        slotRun s.blk k = none →
        exec (.testCancel h k) s = .next (s.on fun b => (slotPut k none stCancelled b).respond (cmdOf h 0x0E02) St.ok)) ∧
      (Admitted s.blk h { op := 0x0E03, ports := [.h0, .p1, .p2, .svc, .fab], stage := 1 } →
        exec (.testStatus h k) s = .next (s.on fun b => b.respond (cmdOf h 0x0E03) St.ok
          [(1, if (slotRun b k).isSome then 2 else if (getSlot b k).isSome then 1 else 0), (2, spGet (fun _ => 0) b.gr.slotStatus k)]))) ∧
    (Running s.blk → firmwareRuns s.blk = true →
      (∀ (k : Fin 16) (e : TestEntry), getSlot s.blk k = some e → slotRun s.blk k = none → quietNow s.blk e = true → e.quiet ≠ 2 →
        stageOk s.blk (testStage e.test) = true → testArgsOk s.blk e.test e.target e.args = true → testReach s.blk e.test e.target = true →
        (e.test = 1 → laneState s.blk e.target = 5) →
        (testCond s.blk e.test e.target = true → testBusy s.blk e.test e.target = false →
          exec (.testQuietPoint k) s = .next (s.on (slotBegin k e false))) ∧
        (testCond s.blk e.test e.target = false → exec (.testQuietPoint k) s = .next (s.on (quietQuiesce k e)))) ∧
      (∀ (test : Fin 256) (target : Fin 65536) (pass : Bool) (offsets : List Nat) (t : TestRun),
        s.blk.gr.tests.find? (fun t => t.test == test.val && t.target == target.val && t.begun) = some t → testDone s.blk t = true →
        (testPassed s.blk t pass = true →
          exec (.selfTestComplete test target pass offsets) s = .next (s.on (testEnd t St.ok []))) ∧
        (testPassed s.blk t pass = false →
          exec (.selfTestComplete test target pass offsets) s = .next (s.on
            (testEnd t stTestFailed ((offsets.take 16).map (fun x => (8, x))))))))

/-- The commands of protocol v1 act as the v2 commands they stand for (R573, R574), at a port in that protocol. -/
def Obligations.V1Commands : Prop :=
  ∀ (s : State) (h : Hdr),
    (AdmittedV1 s.blk h { op := 0x0000, ports := [.h0, .p1, .p2, .svc, .jtag, .fab], stage := 0 } →
      exec (.v1Info h) s = .next (s.on fun b => b.respond (cmdOfV1 h 0x01) St.ok (devInfo b))) ∧
    (AdmittedV1 s.blk h { op := 0x0001, ports := [.h0, .p1, .p2, .svc, .jtag, .fab], stage := 0 } →
      exec (.v1Status h) s = .next (s.on fun b => b.respond (cmdOfV1 h 0x02) St.ok (devStatus b))) ∧
    (AdmittedV1 s.blk h { op := 0x0002, ports := [.h0, .p1, .p2, .svc, .jtag, .fab], stage := 1 } →
      exec (.v1Barrier h) s = .next (s.on fun b => settleBarrier h.port (b.hold (cmdOfV1 h 0x03) 0x0002 0))) ∧
    (∀ (a0 addr len : Nat) (bs : List Nat) (l : Load) (b b' : Block),
      AdmittedV1 s.blk h { op := 0x0100, ports := [.h0, .p1, .p2, .svc, .fab], stage := 3 } → plateRead false addr 256 s.blk = (some bs, b) →
      headerOk bs = true → (headerOf bs).kind ≠ 2 → b.start.trainingEnded = true →
      checkPlate { op2 := 0x0100, flash := false, addr := addr, len := some len, freeze := false, retain := false, target := 0xFFFF,
                   region := 0, policy := 0, moveFrom := none, auto := false, boot := false } b = (.inr l, b') →
      exec (.cfgLoad h a0 len addr) s = .next (s.set (loadBegin l (b'.hold (cmdOfV1 h 0x10) 0x0100 l.id)))) ∧
    (∀ r : Nat, AdmittedV1 s.blk h { op := 0x0108, ports := [.h0, .p1, .p2, .svc, .fab], stage := 3 } → 1 ≤ r → r < 256 →
      exec (.cfgStatus h r) s = .next (s.on fun b => b.respond (cmdOfV1 h 0x11) St.ok
        [(1, regionState b r), (1, (getRegion b r).lastLoad % 256), (1, (getRegion b r).lastLoad / 256)])) ∧
    (∀ n : Nat, n < 8 → dieOff s.blk (n / 2) = false →
      (AdmittedV1 s.blk h { op := 0x0500, ports := [.h0, .p1, .p2, .svc, .fab], stage := 3 } → dcTesting s.blk n = false →
        dcState s.blk n = 0 ∨ dcState s.blk n = 4 ∨ dcState s.blk n = 6 →
        exec (.memTrain h n) s = .next (s.on fun b => (trainStart n .command none b).hold (cmdOfV1 h 0x20) 0x0500 n)) ∧
      (AdmittedV1 s.blk h { op := 0x0501, ports := [.h0, .p1, .p2, .svc, .fab], stage := 3 } →
        exec (.memStatus h n) s = .next (s.on fun b => b.respond (cmdOfV1 h 0x21) St.ok [(4, (b.reg (Rg.dc n)).toNat)]))) ∧
    (∀ die mask : Nat, die < 4 → 0 < mask → mask < 2 ^ 32 → dieOff s.blk die = false →
      (AdmittedV1 s.blk h { op := 0x0400, ports := [.h0, .p1, .p2, .svc, .fab], stage := 3 } →
        (∀ m ∈ maskLanes die mask, laneMode s.blk m ≠ 3 ∧ laneState s.blk m = 0) →
        exec (.linkUp h die mask) s = .next (s.on fun b =>
          (maskLanes die mask).foldl (fun b m => laneFirst m b) (b.hold (cmdOfV1 h 0x30) 0x0400 (die * 2 ^ 32 + mask)))) ∧
      (AdmittedV1 s.blk h { op := 0x0401, ports := [.h0, .p1, .p2, .svc, .fab], stage := 3 } →
        exec (.linkDown h die mask) s = .next (s.on fun b =>
          ((maskLanes die mask).foldl (fun b m => laneOff m b) b).respond (cmdOfV1 h 0x31) St.ok))) ∧
    (∀ addr size a v : Nat, size = 4 ∨ size = 8 → cmdReg addr size = some a → dieUnreachable s.blk a = false →
      (AdmittedV1 s.blk h { op := 0x0003, ports := [.h0, .p1, .p2, .svc, .jtag, .fab], stage := 1 } → size = 8 →
        regReadable s.blk h.port a = true →
        exec (.regRd h addr) s = .next (s.set
          ((readReg a true s.blk).2.respond (cmdOfV1 h 0x40) St.ok [(8, (readReg a true s.blk).1)]))) ∧
      (AdmittedV1 s.blk h { op := 0x0004, ports := [.h0, .p1, .p2, .svc, .fab], stage := 1, expert := true } → size = 4 →
        winOf a ≠ 0x01 → (winOf a = 0x00 → a / 0x100000 = portNum h.port) → greoneWrites a = false →
        exec (.regWr h v addr) s = .next (s.on fun b => (writeReg a false v b).respond (cmdOfV1 h 0x41) St.ok)))

/-- Security commands take effect (R594 to R596, R599, R601, R608, R611 to R614): the status, a nonce, a certificate, an owner key that
matches its slot, a quote that joins those that wait; and with an authorised request that is accepted, or from SVC while no owner exists,
the fuse request or the write of the settings bank begins with its command held. -/
def Obligations.SecurityCommands : Prop :=
  ∀ (s : State) (h : Hdr),
    (Admitted s.blk h { op := 0x0B00, ports := [.h0, .p1, .p2, .svc, .jtag, .fab], stage := 1 } →
      exec (.secStatus h) s = .next (s.on fun b => b.respond (cmdOf h 0x0B00) St.ok
        ([(4, (b.reg Rg.sec).toNat % 2 ^ 32)] ++ (List.range 4).map (fun n => (1, b.f (Rg.owner n) Rg.oState)) ++
          [(4, b.sec.policy.toNat)]))) ∧
    (Admitted s.blk h { op := 0x0B01, ports := [.h0, .svc], stage := 1 } →
      exec (.secNonce h) s = .next (s.on fun b => (setNonce h.port (some (BitVec.ofNat 128 b.draw.1, b.devTime)) b.draw.2).respond
        (cmdOf h 0x0B01) St.ok [(16, (BitVec.ofNat 128 b.draw.1).toNat)])) ∧
    (∀ (which addr len : Nat) (b : Block), Admitted s.blk h { op := 0x0B02, ports := [.h0, .p1, .p2, .svc, .jtag, .fab], stage := 1 } →
      which ≤ 1 → (if which = 0 then s.blk.nv.fuses.idCert else s.blk.nv.fuses.mfgCert).length ≤ len →
      writeMem srcGreone addr ((if which = 0 then s.blk.nv.fuses.idCert else s.blk.nv.fuses.mfgCert).map BitVec.toNat) s.blk = (true, b) →
      exec (.secIdCert h which addr len) s = .next (s.set (b.respond (cmdOf h 0x0B02) St.ok))) ∧
    (∀ (addr len : Nat) (nonce : BitVec 256), Admitted s.blk h { op := 0x0B03, ports := [.h0, .p1, .p2, .svc, .fab], stage := 1 } →
      s.blk.sec.quotes.length < 9 →
      exec (.secQuote h addr len nonce) s = .next (s.on fun b => quoteStart (quoteAsked (cmdOf h 0x0B03) addr len nonce b))) ∧
    (∀ (slot addr : Nat) (bs : List Nat) (m : BitVec 3072) (b : Block), Admitted s.blk h { op := 0x0B04, ports := [.h0, .svc], stage := 1 } →
      slot < 4 → readMem srcGreone addr 388 s.blk = (some bs, b) → keyOfBytes bs = some m → (ownerFuse b slot).hash = keyHash m →
      exec (.secOwnerKeyPut h slot addr) s = .next (s.set
        (((modNv (fun x => { x with ownerKeys := spSet (fun _ => none) x.ownerKeys slot (some m) }) b).putB
          (Rg.owner slot) Rg.oKeyOk true).respond (cmdOf h 0x0B04) St.ok))) ∧
    (∀ (slot addr : Nat) (r : Option (List Nat) × Block), Admitted s.blk h { op := 0x0B04, ports := [.h0, .svc], stage := 1 } →
      slot < 4 → readMem srcGreone addr 388 s.blk = r →
      (∀ m : BitVec 3072, r.1.bind keyOfBytes = some m → (ownerFuse r.2 slot).hash ≠ keyHash m) →
      exec (.secOwnerKeyPut h slot addr) s = .next (s.set (r.2.respond (cmdOf h 0x0B04) St.keyMismatch))) ∧
    (∀ (addr len status : Nat) (b : Block), noOwner s.blk = false →
      (Admitted s.blk h { op := 0x0B05, ports := [.h0, .svc], stage := 1 } → authRequest (cmdOf h 0x0B05) 0x0B05 addr len s.blk = (.refused status, b) →
        exec (.secOwnerProgram h addr len) s = .next (s.set (b.respond (cmdOf h 0x0B05) status))) ∧
      (Admitted s.blk h { op := 0x0B06, ports := [.h0, .svc], stage := 1 } → authRequest (cmdOf h 0x0B06) 0x0B06 addr len s.blk = (.refused status, b) →
        exec (.secOwnerRevoke h addr len) s = .next (s.set (b.respond (cmdOf h 0x0B06) status)))) ∧
    (∀ (addr len : Nat) (bs : List Nat) (b : Block), Admitted s.blk h { op := 0x0B05, ports := [.h0, .svc], stage := 1 } →
      noOwner s.blk = true → h.port = .svc → readMem srcGreone addr (Nat.min len 4544) s.blk = (some bs, b) →
      fieldAt bs 0 4 = 0x51554152 → fieldAt bs 4 2 = 0x0B05 → fieldAt bs 8 8 = (deviceId s.blk).toNat → ∀ (p : List Nat) (m : BitVec 3072),
      p = (bs.drop 0x40).take (fieldAt bs 0x20 4) → p.length = 392 → fieldAt p 0 1 < 4 → fieldAt p 1 3 = 0 → keyOfBytes (p.drop 4) = some m →
      exec (.secOwnerProgram h addr len) s = .next (s.set
        (fuseCommand (cmdOf h 0x0B05) 0x0B05 (.program (fieldAt p 0 1) (keyHash m) m) b))) ∧
    (∀ (addr len signer : Nat) (p : List Nat) (b : Block),
      (∀ m : BitVec 3072, Admitted s.blk h { op := 0x0B05, ports := [.h0, .svc], stage := 1 } → noOwner s.blk = false →
        authRequest (cmdOf h 0x0B05) 0x0B05 addr len s.blk = (.accepted signer p, b) →
        p.length = 392 → fieldAt p 0 1 < 4 → fieldAt p 1 3 = 0 → keyOfBytes (p.drop 4) = some m →
        exec (.secOwnerProgram h addr len) s = .next (s.set
          (fuseCommand (cmdOf h 0x0B05) 0x0B05 (.program (fieldAt p 0 1) (keyHash m) m) b))) ∧
      (Admitted s.blk h { op := 0x0B06, ports := [.h0, .svc], stage := 1 } →
        authRequest (cmdOf h 0x0B06) 0x0B06 addr len s.blk = (.accepted signer p, b) → p.length = 1 → fieldAt p 0 1 < 4 →
        exec (.secOwnerRevoke h addr len) s = .next (s.set (fuseCommand (cmdOf h 0x0B06) 0x0B06 (.revoke (fieldAt p 0 1)) b))) ∧
      (Admitted s.blk h { op := 0x0B07, ports := [.h0, .svc], stage := 1 } →
        authRequest (cmdOf h 0x0B07) 0x0B07 addr len s.blk = (.accepted signer p, b) → p.length = 1 → fieldAt p 0 1 < 128 →
        exec (.secFuseLock h addr len) s = .next (s.set (fuseCommand (cmdOf h 0x0B07) 0x0B07 (.locks (fieldAt p 0 1)) b))) ∧
      (Admitted s.blk h { op := 0x0B08, ports := [.h0, .svc], stage := 1 } →
        authRequest (cmdOf h 0x0B08) 0x0B08 addr len s.blk = (.accepted signer p, b) → p.length = 2 →
        (fieldAt p 0 1 = 0 ∧ fieldAt p 1 1 ≤ 255 ∧ fieldAt p 1 1 ≤ (b.fwu.running.map ImgInfo.svn).getD 0 ∨
          fieldAt p 0 1 = 1 ∧ fieldAt p 1 1 ≤ 63) →
        exec (.secSvnAdvance h addr len) s = .next (s.set
          (fuseCommand (cmdOf h 0x0B08) 0x0B08 (.advance (fieldAt p 0 1) (fieldAt p 1 1)) b))) ∧
      (storeBlocked s.blk = false →
        (∀ key : BitVec 256, Admitted s.blk h { op := 0x0B09, ports := [.h0, .svc], stage := 1 } →
          authRequest (cmdOf h 0x0B09) 0x0B09 addr len s.blk = (.accepted signer p, b) → p.length = 384 →
          sealKeyOf b p = some key →
          exec (.secSealKeySet h addr len) s = .next (s.set
            ((writeBank { latestBank b with keyNow := some key, keyOld := (latestBank b).keyNow } 0x0B09 b).hold (cmdOf h 0x0B09) 0x0B09 0))) ∧
        (Admitted s.blk h { op := 0x0B0A, ports := [.h0, .svc], stage := 1 } →
          authRequest (cmdOf h 0x0B0A) 0x0B0A addr len s.blk = (.accepted signer p, b) → p.length = 4 → fieldAt p 0 4 < 32 →
          exec (.secPolicySet h addr len) s = .next (s.set
            ((writeBank { latestBank b with policy := some (BitVec.ofNat 32 (fieldAt p 0 4)) } 0x0B0A b).hold
              (cmdOf h 0x0B0A) 0x0B0A 0)))))

/-- Security events take effect (R591, R599, R605, R613): a fuse request that has been programmed, a nonce that has run its 600 s, a quote
that has been signed, and a TAP instruction. -/
def Obligations.SecurityEvents : Prop :=
  ∀ s : State, s.blk.start.inReset = false →
    (∀ (j : FuseJob) (l : List FuseJob) (ok : Bool) (got : BitVec 256), s.blk.sec.jobs = j :: l → j.started = true →
      exec (.fuseProgramDone ok got) s = .next (s.on (fuseProgrammed j ok got.toNat))) ∧
    (∀ (p : Port) (n : BitVec 128) (t : BitVec 64), nonceOf s.blk p = some (n, t) →
      exec (.nonceExpiry p) s = .next (s.on fun b => reachTime (t + 600000000000) (setNonce p none b))) ∧
    (∀ (q : Quote) (l : List Quote) (bs : List Nat) (b : Block), s.blk.sec.quotes = q :: l → q.bytes = some bs →
      writeMem srcGreone q.addr (bs ++ (identitySign bs s.blk).1) (identitySign bs s.blk).2 = (true, b) →
      exec .quoteSigned s = .next (s.set
        (quoteStart ((modSec (fun x => { x with quotes := l }) b).close 0x0B03 q.id St.ok)))) ∧
    (∀ i : TapInstr, exec (.jtagTapInstruction i) s = .next (s.on fun b => { b with tap := tapEffect b i }))

/-- Update commands take effect (R624, R627 to R630, R633, R635), each from the update state that its rule gives it: the status, receiving, its
end with a digest that matches, the read-back, the activation at once or ARMED, the abort, the acceptance of defaults, the return to the
other image, and run locks. -/
def Obligations.UpdateCommands : Prop :=
  ∀ (s : State) (h : Hdr),
    (Admitted s.blk h { op := 0x0C00, ports := [.h0, .p1, .p2, .svc, .jtag, .fab], stage := 0 } →
      exec (.fwStatus h) s = .next (s.on fun b => b.respond (cmdOf h 0x0C00) St.ok [(8, (b.reg (Rg.fw + 0x1000)).toNat),
        (8, (b.reg (Rg.fw + 0x1010)).toNat), (8, (b.reg (Rg.fw + 0x1018)).toNat)])) ∧
    (stageOf s.blk ≠ 0 →
      (∀ len : Nat, Admitted s.blk h { op := 0x0C01, ports := [.svc], stage := 0 } → fwState s.blk = 0 ∨ fwState s.blk = 6 →
        0x200 + 384 < len → len ≤ 0x1000000 → updateRefused s.blk false = none →
        exec (.fwBegin h len) s = .next (s.on fun b => (receivingBegins len b).hold (cmdOf h 0x0C01) 0x0C01 0)) ∧
      (∀ digest : BitVec 256, Admitted s.blk h { op := 0x0C02, ports := [.svc], stage := 0 } → fwState s.blk = 1 →
        s.blk.fwu.erasing = false → s.blk.fwu.flashBad = false → fwTaken s.blk = s.blk.fwu.length →
        sha256 (receivedBytes s.blk) = digest →
        exec (.fwEnd h digest) s = .next (s.on fun b =>
          (modNv (fun x => { x with pending := 2 }) (setFwState 2 b)).respond (cmdOf h 0x0C02) St.ok)) ∧
      (Admitted s.blk h { op := 0x0C03, ports := [.svc], stage := 0 } → fwState s.blk = 2 → s.blk.fwu.reading = false →
        exec (.fwVerify h) s = .next (s.on fun b =>
          (modFwu (fun x => { x with reading := true }) b).hold (cmdOf h 0x0C03) 0x0C03 0)) ∧
      (∀ whenPermitted : Nat, Admitted s.blk h { op := 0x0C04, ports := [.h0, .svc], stage := 0 } → fwState s.blk = 3 →
        openOf s.blk 0x0C04 0 = [] → whenPermitted ≤ 1 →
        (updateRefused s.blk false = none →
          exec (.fwActivate h whenPermitted) s = .next (s.on fun b => (fwActivateNow b).hold (cmdOf h 0x0C04) 0x0C04 0)) ∧
        (whenPermitted = 1 → updateRefused s.blk false ≠ none → updateLocked s.blk = false →
          exec (.fwActivate h whenPermitted) s = .next (s.on fun b => (setFwState 4 b).hold (cmdOf h 0x0C04) 0x0C04 0))) ∧
      (Admitted s.blk h { op := 0x0C05, ports := [.svc], stage := 0 } →
        (fwState s.blk = 4 → exec (.fwAbort h) s = .next (s.on fun b =>
          ((setFwState 3 b).close 0x0C04 0 St.refusedState).respond (cmdOf h 0x0C05) St.ok)) ∧
        (fwState s.blk = 1 ∨ fwState s.blk = 2 ∨ fwState s.blk = 3 ∧ openOf s.blk 0x0C04 0 = [] →
          exec (.fwAbort h) s = .next (s.on fun b => (updateAborted b).respond (cmdOf h 0x0C05) St.ok)))) ∧
    (Admitted s.blk h { op := 0x0C06, ports := [.h0, .svc], stage := 1 } → provisional s.blk = true → ∀ addr len : Nat,
      (activeSlots s.blk = [] → h.port = .svc →
        exec (.fwAcceptDefaults h addr len) s = .next (s.on (defaultsAccepted (cmdOf h 0x0C06)))) ∧
      (∀ (signer : Nat) (p : List Nat) (b : Block), activeSlots s.blk ≠ [] →
        authRequest (cmdOf h 0x0C06) 0x0C06 addr len s.blk = (.accepted signer p, b) →
        exec (.fwAcceptDefaults h addr len) s = .next (s.set (defaultsAccepted (cmdOf h 0x0C06) b)))) ∧
    (Admitted s.blk h { op := 0x0C07, ports := [.h0, .svc], stage := 1 } → fwState s.blk = 5 → s.blk.fwu.jobs = [] →
      s.blk.gr.restartDue = none → updateRefused s.blk true = none → 
      exec (.fwRevert h) s = .next (s.on fun b =>
        if slotUsable b (stagingSlot b) = true then
          (startRec { ActRec.none with slotB := stagingSlot b == 1 } 0x0C07 b).hold (cmdOf h 0x0C07) 0x0C07 0
        else b.respond (cmdOf h 0x0C07) St.noFallback)) ∧
    (∀ lease : Nat, Admitted s.blk h { op := 0x0C08, ports := [.h0, .p1, .p2, .fab], stage := 1 } → 1 ≤ lease → lease ≤ 86400 →
      exec (.runLock h lease) s = .next (s.on fun b => (takeRun (portNum h.port) lease b).respond (cmdOf h 0x0C08) St.ok)) ∧
    (Admitted s.blk h { op := 0x0C09, ports := [.h0, .p1, .p2, .svc, .fab], stage := 1 } →
      exec (.runUnlock h 0) s = .next (s.on fun b => (releaseRun (portNum h.port) b).respond (cmdOf h 0x0C09) St.ok) ∧
      (h.port = .svc → exec (.runUnlock h 1) s = .next (s.on fun b =>
        (releaseRun 5 (releaseRun 2 (releaseRun 1 (releaseRun 0 b)))).respond (cmdOf h 0x0C09) St.ok)))

/-- Firmware events take effect (R617, R621 to R624, R627 to R632): the choice of an image, the end of an erase, of a flash write and of a
read-back, an armed activation, the checks of a trial, the clearing of crashes, and the expiry of a run lock. -/
def Obligations.FirmwareEvents : Prop :=
  ∀ s : State, s.blk.start.inReset = false →
    (s.blk.start.imageChosen = false → stageOf s.blk = 0 ∧ s.blk.gr.up = true ∨ s.blk.gr.restarting = true →
      exec .bootImageChoice s = .next (s.on (imageChoice (s.blk.gr.restartDue == some 1 || s.blk.gr.restartDue == some 2)))) ∧
    (s.blk.fwu.erasing = true →
      exec (.fwEraseDone true) s = .next (s.on fun b => (slotErased b).close 0x0C01 0 St.ok) ∧
      exec (.fwEraseDone false) s = .next (s.on fun b => endReceiving St.flashFail (slotErased b))) ∧
    (∀ (r : ActRec) (op2 : Nat) (l : List FlashJob), s.blk.fwu.jobs = .record r op2 :: l →
      exec (.flashProgramDone true) s = .next (s.on fun b => recordWritten r op2 (modFwu (fun x => { x with jobs := l }) b)) ∧
      exec (.flashProgramDone false) s = .next (s.on fun b => (modFwu (fun x => { x with jobs := l }) b).close op2 0 St.flashFail)) ∧
    (∀ (k : SetBank) (op2 : Nat) (l : List FlashJob), s.blk.fwu.jobs = .settings k op2 :: l → powerGood s.blk = true →
      exec (.flashProgramDone true) s = .next (s.on fun b => bankWritten k op2 (modFwu (fun x => { x with jobs := l }) b)) ∧
      exec (.flashProgramDone false) s = .next (s.on fun b =>
        (putBank none (modFwu (fun x => { x with jobs := l }) b)).closeFirst op2 0 St.flashFail)) ∧
    (∀ ok : Bool, s.blk.fwu.jobs = [] → s.blk.fwu.buffer ≠ [] → s.blk.fwu.erasing = false → powerGood s.blk = true →
      exec (.flashProgramDone ok) s = .next (s.on (programImage ok))) ∧
    (s.blk.fwu.reading = true → s.blk.fwu.buffer = [] →
      (s.blk.fwu.flashBad = false → exec (.fwReadbackDone true) s = .next (s.on fun b => readBack (imageStatus b (stagingSlot b)) b)) ∧
      exec (.fwReadbackDone false) s = .next (s.on (readBack St.flashFail))) ∧
    (fwState s.blk = 4 → s.blk.gr.restarting = false → updateRefused s.blk false = none →
      exec .fwArmedActivation s = .next (s.on fun b => fwActivateNow (setFwState 3 b))) ∧
    (fwState s.blk = 5 → s.blk.gr.restarting = false → s.blk.gr.restartDue = none → s.blk.fwu.jobs = [] →
      exec (.fwTrialCheck false) s = .next (s.on fun b => restartFor 4 (b.raise Ev.fwTrialFailed fwOrigin)) ∧
      (allReady s.blk = true → provisional s.blk = false ∨ s.blk.fwu.accepted = true →
        exec (.fwTrialCheck true) s = .next (s.on fun b => trialPassed (reachTime (b.fwu.bootTime + 60000000000) b)))) ∧
    ((actRec s.blk).trial = false → (actRec s.blk).crashes ≠ 0 → s.blk.fwu.running ≠ none → s.blk.gr.restarting = false →
      s.blk.fwu.jobs = [] →
      exec .crashClear s = .next (s.on fun b =>
        startRec { actRec b with crashes := 0 } 1 (reachTime (b.fwu.bootTime + 600000000000) b))) ∧
    (∀ p : Port, p ≠ .svc → p ≠ .jtag → s.blk.flag Rg.fw (Rg.runHeld (portNum p)) = true →
      exec (.runLockExpiry p) s = .next (s.on fun b =>
        (releaseRun (portNum p) (reachTime (BitVec.ofNat 64 (spGet (fun _ => 0) b.fwu.leases (portNum p))) b)).raise
          Ev.runLockExpired fwOrigin))

/-- Frames of the Service Port take effect (R604, R618 to R621): with a good CRC, PING is acknowledged, the next image bytes enter the buffer,
and a write or a read of a legal span that the port may issue goes to the network. -/
def Obligations.ServiceFrames : Prop :=
  ∀ (s : State) (f : List (BitVec 8)), s.blk.start.inReset = false → s.blk.flag Rg.sec Rg.sSvcDisable = false →
    (frameBytes f).getD 0 0 = 0xA5 → frameOk (frameBytes f) = true →
    ((frameBytes f).getD 1 0 = 4 → exec (.svcPing f) s = .next (s.on (svcAck (frameBytes f) 0))) ∧
    ((frameBytes f).getD 1 0 = 3 → fwState s.blk = 1 → ∀ p, p = framePayload (frameBytes f) →
      s.blk.fwu.lastSeq ≠ some (fieldAt (frameBytes f) 3 2, fieldAt (frameBytes f) 5 8) →
      fieldAt (frameBytes f) 5 8 = fwTaken s.blk → fwTaken s.blk + p.length ≤ s.blk.fwu.length → p ≠ [] → p.length ≤ 4096 →
      s.blk.fwu.buffer.length + p.length ≤ 65536 →
      exec (.svcImage f) s = .next (s.on fun b => svcAck (frameBytes f) 0
        (imageTaken p (fieldAt (frameBytes f) 3 2, fieldAt (frameBytes f) 5 8) b))) ∧
    (∀ a, a = fieldAt (frameBytes f) 5 8 → mayIssue s.blk 0x404 4 a = true → fenceBusy s.blk 0x404 = false →
      ((frameBytes f).getD 1 0 = 1 → ∀ p, p = framePayload (frameBytes f) → svcForm (frameBytes f) p.length = true →
        flipHeld s.blk 0x404 = false →
        exec (.svcWrite f) s = .next (s.on fun b => svcAck (frameBytes f) 0 (nocIssue 0x404 4 2 a p.length 0 false p b))) ∧
      ((frameBytes f).getD 1 0 = 2 → ∀ n, n = fieldAt (frameBytes f) 13 4 → svcForm (frameBytes f) n = true → s.blk.fwu.svcRead = none →
        ((netSegs s.blk 0x404 0 a n).filter (segTagged s.blk 0)).length ≤
          (freeTags s.blk 0x404 ((netSegs s.blk 0x404 0 a n).filter (segTagged s.blk 0)).length).length →
        exec (.svcRead f) s = .next (s.on fun b => nocIssue 0x404 4 0 a n svcLabel false []
          (modFwu (fun x => { x with svcRead := some { seq := fieldAt (frameBytes f) 3 2, addr := a, len := n, lines := [] } }) b))))

/-- Power events take effect (R646 to R648): WARN and HOLDUP_OK change once each way, with their event, EIC source and, where power
is lost, the end of what the hold-up supply covers; samples are taken die by die and rail by rail, and a die that reads 120 °C twice
running trips the part (R649, R651).  THERM_SET takes a threshold from 60 °C to 105 °C and PWR_STATUS answers the readings (R653). -/
def Obligations.PowerCommands : Prop :=
  ∀ s : State, s.blk.start.inReset = false →
    (s.blk.flag Rg.pwr Rg.pWarn = false →
      exec .powerWarn s = .next (s.on fun b =>
        powerLost ((((b.putB Rg.pwr Rg.pWarn true).bumpBy Rg.pStatus warnCnt 1).raise Ev.powerWarn pwrOrigin).eicEdge srcPower))) ∧
    (s.blk.flag Rg.pwr Rg.pWarn = true →
      exec .powerWarnClear s = .next (s.on fun b =>
        fuseStart (((b.putB Rg.pwr Rg.pWarn false).raise Ev.powerWarnClear pwrOrigin).eicEdge srcPower))) ∧
    (s.blk.flag Rg.pwr Rg.pHoldup = true →
      exec .holdupLost s = .next (s.on fun b =>
        powerLost (((b.putB Rg.pwr Rg.pHoldup false).raise Ev.holdupLost pwrOrigin).eicEdge srcPower))) ∧
    (s.blk.flag Rg.pwr Rg.pHoldup = false →
      exec .holdupGood s = .next (s.on fun b =>
        fuseStart (((b.putB Rg.pwr Rg.pHoldup true).raise Ev.holdupGood pwrOrigin).eicEdge srcPower))) ∧
    (∀ t0 t1 t2 t3 t4 : BitVec 12, exec (.thermalSample [t0, t1, t2, t3, t4]) s = .next (s.on fun b =>
      let b := thermalOne 4 t4 (thermalOne 3 t3 (thermalOne 2 t2 (thermalOne 1 t1 (thermalOne 0 t0 b))))
      let twice := b.pwr.trip &&& tripDies [t0, t1, t2, t3, t4]
      let b := { b with pwr := { b.pwr with trip := tripDies [t0, t1, t2, t3, t4] } }
      if twice != 0 then thermTrip b else b)) ∧
    (∀ mv : List Nat, mv.length = 13 → (∀ v ∈ mv, v < 65536) →
      exec (.railSample mv) s = .next (s.on fun b => (List.range 13).foldl (fun b i => railOne i (mv.getD i 0) b) b)) ∧
    (∀ h : Hdr, Admitted s.blk h { op := 0x0D00, ports := [.h0, .svc], stage := 1 } →
      exec (.pwrStatus h) s = .next (s.on fun b =>
        b.respond (cmdOf h 0x0D00) St.ok ([(8, (b.reg Rg.pStatus).toNat)] ++
          (List.range 5).map (fun d => (2, unsgn 16 (sgn 12 (b.f Rg.pwr (Rg.thTemp d))))) ++
          (List.range 13).map (fun i => (2, spGet (fun _ => 0) b.pwr.rails i))))) ∧
    (∀ (h : Hdr) (die thresh : Nat), Admitted s.blk h { op := 0x0D01, ports := [.h0, .svc], stage := 1 } →
      die ≤ 4 → 60 ≤ thresh → thresh ≤ 105 →
      exec (.thermSet h die thresh) s = .next (s.on fun b =>
        (b.put Rg.pwr (Rg.thThresh die) thresh).respond (cmdOf h 0x0D01) St.ok))

end
end

