-- ==== Sys2Proof/Laws/Commands.lean ====
section
/-! SUPPORT. What the wrappers of a meaning answer: an effect out of RESET, one on running clocks, and a command of a mailbox that passes
its checks. -/

namespace Sys2Proof.Laws

open Machine

@[simp] theorem on_pending (s : State) (f : Block → Block) : (s.on f).pending = s.pending := rfl

@[simp] theorem on_blk (s : State) (f : Block → Block) : (s.on f).blk = f s.blk := rfl

theorem always_answers (f : Block → Block) (s : State) : always f s = .next (s.on f) := rfl

/-- Out of RESET a live effect is the effect. -/
theorem live_answers (f : Block → Block) (s : State) (h : s.blk.start.inReset = false) : live f s = .next (s.on f) := by
  simp [live, always, State.on, h]

/-- In RESET a live effect is none (R39). -/
theorem live_reset (f : Block → Block) (s : State) (h : s.blk.start.inReset = true) : live f s = .next s := by
  simp [live, always, h]

/-- On running clocks a clocked effect is the effect. -/
theorem clocked_answers (f : Block → Block) (s : State) (h : Running s.blk) : clocked f s = .next (s.on f) := by
  simp [clocked, always, State.on, h.1, h.2]

/-- On a die whose clocks run an effect that needs them is the effect. -/
theorem clockedOn_answers (d : Nat) (f : Block → Block) (s : State) (h : RunsOn s.blk d) : clockedOn d f s = .next (s.on f) := by
  simp [clockedOn, clocked, always, State.on, h.1.1, h.1.2, h.2]

/-- On a die whose clocks stand it is none (R47, R79). -/
theorem clockedOn_stopped (d : Nat) (f : Block → Block) (s : State) (h : dieOff s.blk d = true) : clockedOn d f s = .next s := by
  simp [clockedOn, clocked, always, h]

/-- With the clocks gated, or in RESET, a clocked effect is none (R85). -/
theorem clocked_stopped (f : Block → Block) (s : State) (h : ¬ Running s.blk) : clocked f s = .next s := by
  have : (s.blk.start.inReset || s.blk.clk.gated) = true := by
    unfold Running at h
    cases hr : s.blk.start.inReset <;> cases hg : s.blk.clk.gated <;> simp_all
  simp [clocked, always, this]

/-- A command that passes its checks has its own effect. -/
theorem checked_admitted (b : Block) (h : Hdr) (n : Need) (c : Cmd) (f : Cmd → Block → Block) (hc : c.port = h.port)
    (hp : n.ports.contains h.port = true) (hj : h.port = .jtag → jtagAllows b n.op = true)
    (hl : n.expert = true → portLevel b h.port ≠ 0) (hs : stageOk b n.stage = true) : b.checked c n f = f c b := by
  unfold Block.checked
  rw [if_neg, if_neg, if_neg]
  · simp [hs]
  · intro e; simp only [Bool.and_eq_true, beq_iff_eq] at e; exact hl e.1 (hc ▸ e.2)
  · intro e
    simp only [Bool.or_eq_true, Bool.and_eq_true, Bool.not_eq_true', beq_iff_eq] at e
    rcases e with e | e
    · rw [hc, hp] at e; cases e
    · rw [hj (hc ▸ e.1)] at e; cases e.2

theorem command_admitted (b : Block) (h : Hdr) (n : Need) (f : Cmd → Block → Block) (A : Admitted b h n) :
    b.command h n f = f (cmdOf h n.op) b := by
  obtain ⟨-, ht, hp, hj, hl, hs⟩ := A
  simp only [Block.command, ht, if_true]
  exact checked_admitted b h n _ f rfl hp hj hl hs

theorem commandV1_admitted (b : Block) (h : Hdr) (op1 : Nat) (n : Need) (f : Cmd → Block → Block) (A : AdmittedV1 b h n) :
    b.commandV1 h op1 n f = f (cmdOfV1 h op1) b := by
  obtain ⟨-, ht, hp, hj, hl, hs⟩ := A
  simp only [Block.commandV1, ht, if_true]
  exact checked_admitted b h n _ f rfl hp hj hl hs

/-- A mailbox command's meaning, once admitted. -/
theorem live_command (s : State) (h : Hdr) (n : Need) (f : Cmd → Block → Block) (A : Admitted s.blk h n) :
    live (fun b => b.command h n f) s = .next (s.on (f (cmdOf h n.op))) := by
  rw [live_answers _ _ A.1]
  simp only [State.on, command_admitted s.blk h n f A]

theorem live_commandV1 (s : State) (h : Hdr) (op1 : Nat) (n : Need) (f : Cmd → Block → Block) (A : AdmittedV1 s.blk h n) :
    live (fun b => b.commandV1 h op1 n f) s = .next (s.on (f (cmdOfV1 h op1))) := by
  rw [live_answers _ _ A.1]
  simp only [State.on, commandV1_admitted s.blk h op1 n f A]

end Sys2Proof.Laws
end

