-- ==== Sys2Proof/Laws/Tables.lean ====
section
/-! SUPPORT. Sparse tables: a read after a write, other keys left alone, and the canonical form kept. -/

namespace Sys2Proof.Laws

open Machine

variable {α : Type} (d : Nat → α)

theorem spGet_spDrop_same (m : Sp α) (k : Nat) : spGet d (spDrop m k) k = d k := by
  induction m with
  | nil => rfl
  | cons x m ih =>
    obtain ⟨a, v⟩ := x
    by_cases h : a = k
    · simp [spDrop, h, ih]
    · simp [spDrop, h, spGet, ih]

theorem spGet_spDrop_ne (m : Sp α) {k j : Nat} (h : j ≠ k) : spGet d (spDrop m k) j = spGet d m j := by
  induction m with
  | nil => rfl
  | cons x m ih =>
    obtain ⟨a, v⟩ := x
    by_cases ha : a = k
    · subst ha; simp [spDrop, spGet, ih, Ne.symm h]
    · simp only [spDrop, ha, if_false, spGet, ih]

theorem spGet_spInsert_same (m : Sp α) (k : Nat) (v : α) (h : ∀ w, (k, w) ∉ m) : spGet d (spInsert m k v) k = v := by
  induction m with
  | nil => simp [spInsert, spGet]
  | cons x m ih =>
    obtain ⟨a, w⟩ := x
    have ha : a ≠ k := fun e => h w (by simp [e])
    by_cases hk : k < a
    · simp [spInsert, hk, spGet]
    · simp only [spInsert, hk, spGet, ha, if_false]
      exact ih (fun w hw => h w (List.mem_cons_of_mem _ hw))

theorem spGet_spInsert_ne (m : Sp α) {k j : Nat} (v : α) (h : j ≠ k) : spGet d (spInsert m k v) j = spGet d m j := by
  induction m with
  | nil => simp [spInsert, spGet, Ne.symm h]
  | cons x m ih =>
    obtain ⟨a, w⟩ := x
    by_cases hk : k < a
    · simp [spInsert, hk, spGet, Ne.symm h]
    · simp only [spInsert, hk, if_false, spGet, ih]

theorem not_mem_spDrop (m : Sp α) (k : Nat) (w : α) : (k, w) ∉ spDrop m k := by
  induction m with
  | nil => simp [spDrop]
  | cons x m ih =>
    obtain ⟨a, v⟩ := x
    by_cases h : a = k
    · simp [spDrop, h, ih]
    · simp [spDrop, h, ih, Ne.symm h]

/-- A key that was written reads as the value written. -/
theorem spGet_spSet_same [DecidableEq α] (m : Sp α) (k : Nat) (v : α) : spGet d (spSet d m k v) k = v := by
  unfold spSet
  split
  · rename_i h; rw [spGet_spDrop_same, h]
  · exact spGet_spInsert_same d _ k v (not_mem_spDrop m k)

/-- Every other key reads as before. -/
theorem spGet_spSet_ne [DecidableEq α] (m : Sp α) {k j : Nat} (v : α) (h : j ≠ k) :
    spGet d (spSet d m k v) j = spGet d m j := by
  unfold spSet
  split
  · exact spGet_spDrop_ne d m h
  · rw [spGet_spInsert_ne d _ v h, spGet_spDrop_ne d m h]

theorem spGet_spSet [DecidableEq α] (m : Sp α) (k j : Nat) (v : α) :
    spGet d (spSet d m k v) j = if j = k then v else spGet d m j := by
  split
  · rename_i h; rw [h, spGet_spSet_same]
  · rename_i h; exact spGet_spSet_ne d m v h

/-- After a clear, the keys it names read as their defaults and the others as before. -/
theorem spGet_spClear (p : Nat → Bool) (m : Sp α) (k : Nat) :
    spGet d (spClear p m) k = if p k then d k else spGet d m k := by
  induction m with
  | nil => simp [spClear, spGet]
  | cons x m ih =>
    obtain ⟨a, v⟩ := x
    by_cases ha : p a
    · by_cases hk : a = k
      · subst hk; simp [spClear, ha, ih]
      · simp [spClear, ha, ih, spGet, hk]
    · by_cases hk : a = k
      · subst hk; simp [spClear, ha, spGet]
      · simp [spClear, ha, ih, spGet, hk]

/-! ### The canonical form -/

theorem spWfFrom_weaken [DecidableEq α] {m : Sp α} {a b : Nat} (hab : a ≤ b) (h : spWfFrom d (some b) m = true) :
    spWfFrom d (some a) m = true := by
  cases m with
  | nil => rfl
  | cons x m =>
    obtain ⟨k, v⟩ := x
    simp only [spWfFrom, Bool.and_eq_true, decide_eq_true_eq] at *
    exact ⟨⟨Nat.lt_of_le_of_lt hab h.1.1, h.1.2⟩, h.2⟩

theorem spWfFrom_none [DecidableEq α] {m : Sp α} {a : Nat} (h : spWfFrom d (some a) m = true) : spWfFrom d none m = true := by
  cases m with
  | nil => rfl
  | cons x m => obtain ⟨k, v⟩ := x; simp only [spWfFrom, Bool.and_eq_true] at *; simp_all

theorem spWfFrom_spClear [DecidableEq α] (p : Nat → Bool) (lo : Option Nat) (m : Sp α) (h : spWfFrom d lo m = true) :
    spWfFrom d lo (spClear p m) = true := by
  induction m generalizing lo with
  | nil => rfl
  | cons x m ih =>
    obtain ⟨a, v⟩ := x
    simp only [spWfFrom, Bool.and_eq_true] at h
    by_cases ha : p a
    · simp only [spClear, ha, if_true]
      refine ih lo ?_
      cases lo with
      | none => exact spWfFrom_none d h.2
      | some b => exact spWfFrom_weaken d (by simpa using Nat.le_of_lt (of_decide_eq_true h.1.1)) h.2
    · simp [spClear, ha, spWfFrom, h.1.1, h.1.2, ih _ h.2]

theorem spDrop_eq_spClear (m : Sp α) (k : Nat) : spDrop m k = spClear (fun a => decide (a = k)) m := by
  induction m with
  | nil => rfl
  | cons x m ih => obtain ⟨a, v⟩ := x; by_cases h : a = k <;> simp [spDrop, spClear, h, ih]

theorem spWfFrom_spInsert [DecidableEq α] (lo : Option Nat) (m : Sp α) (k : Nat) (v : α) (hv : v ≠ d k)
    (hk : ∀ b, lo = some b → b < k) (hn : ∀ w, (k, w) ∉ m) (h : spWfFrom d lo m = true) :
    spWfFrom d lo (spInsert m k v) = true := by
  induction m generalizing lo with
  | nil => cases lo <;> simp_all [spInsert, spWfFrom]
  | cons x m ih =>
    obtain ⟨a, w⟩ := x
    have hak : a ≠ k := fun e => hn w (by simp [e])
    simp only [spWfFrom, Bool.and_eq_true, decide_eq_true_eq] at h
    by_cases hlt : k < a
    · cases lo <;> simp_all [spInsert, spWfFrom]
    · simp only [spInsert, hlt, if_false, spWfFrom, Bool.and_eq_true, decide_eq_true_eq]
      refine ⟨h.1, ih (some a) (fun b e => ?_) (fun w hw => hn w (List.mem_cons_of_mem _ hw)) h.2⟩
      cases e; omega

/-- A write keeps the canonical form. -/
theorem spWf_spSet [DecidableEq α] (m : Sp α) (k : Nat) (v : α) (h : spWf d m = true) : spWf d (spSet d m k v) = true := by
  unfold spSet spWf at *
  have hd : spWfFrom d none (spDrop m k) = true := by
    rw [spDrop_eq_spClear]; exact spWfFrom_spClear d _ none m h
  split
  · exact hd
  · rename_i hv
    exact spWfFrom_spInsert d none _ k v hv (by simp) (not_mem_spDrop m k) hd

theorem spDrop_spDrop (m : Sp α) (k : Nat) : spDrop (spDrop m k) k = spDrop m k := by
  induction m with
  | nil => rfl
  | cons x m ih => obtain ⟨a, v⟩ := x; by_cases h : a = k <;> simp [spDrop, h, ih]

theorem spDrop_spInsert (m : Sp α) (k : Nat) (v : α) : spDrop (spInsert m k v) k = spDrop m k := by
  induction m with
  | nil => simp [spInsert, spDrop]
  | cons x m ih =>
    obtain ⟨a, w⟩ := x
    by_cases hk : k < a
    · simp [spInsert, hk, spDrop]
    · by_cases h : a = k <;> simp [spInsert, hk, spDrop, h, ih]

/-- Of two writes of one key the later one stays. -/
theorem spSet_spSet [DecidableEq α] (m : Sp α) (k : Nat) (v w : α) : spSet d (spSet d m k v) k w = spSet d m k w := by
  have h : spDrop (spSet d m k v) k = spDrop m k := by
    unfold spSet; split
    · exact spDrop_spDrop m k
    · rw [spDrop_spInsert, spDrop_spDrop]
  show (if w = d k then spDrop (spSet d m k v) k else spInsert (spDrop (spSet d m k v) k) k w) = spSet d m k w
  rw [h]; rfl

/-- A clear keeps the canonical form. -/
theorem spWf_spClear [DecidableEq α] (p : Nat → Bool) (m : Sp α) (h : spWf d m = true) : spWf d (spClear p m) = true :=
  spWfFrom_spClear d p none m h

end Sys2Proof.Laws
end

