-- ==== Sys2Proof/Laws/Kept.lean ====
section
/-! SUPPORT. What an effect keeps: the parts of the block that it does not name, and the canonical form of registers and memories. One lemma
for each way to build an effect; the files beside this one have one for each named operation. -/

namespace Sys2Proof.Laws

open Machine

/-! ### Sorted tables -/

theorem spKeys_spDrop_sublist {α : Type} (m : Sp α) (k : Nat) : (spKeys (spDrop m k)).Sublist (spKeys m) := by
  induction m with
  | nil => exact List.Sublist.refl _
  | cons x m ih =>
    obtain ⟨a, v⟩ := x
    by_cases h : a = k
    · simp only [spDrop, h, if_true, spKeys, List.map_cons]; exact List.Sublist.cons _ ih
    · simp only [spDrop, h, if_false, spKeys, List.map_cons]; exact List.Sublist.cons_cons _ ih

theorem spKeys_spClear_sublist {α : Type} (p : Nat → Bool) (m : Sp α) : (spKeys (spClear p m)).Sublist (spKeys m) := by
  induction m with
  | nil => exact List.Sublist.refl _
  | cons x m ih =>
    obtain ⟨a, v⟩ := x
    by_cases h : p a
    · simp only [spClear, h, if_true, spKeys, List.map_cons]; exact List.Sublist.cons _ ih
    · simp only [spClear, h, spKeys, List.map_cons]; exact List.Sublist.cons_cons _ ih

theorem mem_spKeys_spInsert {α : Type} (m : Sp α) (k j : Nat) (v : α) (h : j ∈ spKeys (spInsert m k v)) : j = k ∨ j ∈ spKeys m := by
  induction m with
  | nil => simpa [spInsert, spKeys] using h
  | cons x m ih =>
    obtain ⟨a, w⟩ := x
    by_cases hk : k < a
    · simpa [spInsert, hk, spKeys] using h
    · simp only [spInsert, hk, if_false, spKeys, List.map_cons, List.mem_cons] at h ⊢
      rcases h with h | h
      · exact .inr (.inl h)
      · rcases ih h with h | h
        · exact .inl h
        · exact .inr (.inr h)

theorem spSorted_cons {α : Type} (a : Nat) (w : α) (m : Sp α) :
    spSorted ((a, w) :: m) = true ↔ (∀ b ∈ spKeys m, a < b) ∧ spSorted m = true := by
  unfold spSorted spKeys
  rw [decide_eq_true_eq, decide_eq_true_eq, List.map_cons, List.pairwise_cons]

theorem spSorted_spInsert {α : Type} (m : Sp α) (k : Nat) (v : α) (hk : k ∉ spKeys m) (h : spSorted m = true) :
    spSorted (spInsert m k v) = true := by
  induction m with
  | nil => rfl
  | cons x m ih =>
    obtain ⟨a, w⟩ := x
    have h' := (spSorted_cons a w m).1 h
    simp only [spKeys, List.map_cons, List.mem_cons, not_or] at hk
    by_cases hlt : k < a
    · rw [show spInsert ((a, w) :: m) k v = (k, v) :: (a, w) :: m by simp [spInsert, hlt]]
      refine (spSorted_cons _ _ _).2 ⟨fun b hb => ?_, h⟩
      rcases List.mem_cons.1 hb with e | hb
      · omega
      · exact Nat.lt_trans hlt (h'.1 b hb)
    · rw [show spInsert ((a, w) :: m) k v = (a, w) :: spInsert m k v by simp [spInsert, hlt]]
      refine (spSorted_cons _ _ _).2 ⟨fun b hb => ?_, ih hk.2 h'.2⟩
      rcases mem_spKeys_spInsert m k b v hb with e | hb
      · omega
      · exact h'.1 b hb

theorem not_mem_spKeys_spDrop {α : Type} (m : Sp α) (k : Nat) : k ∉ spKeys (spDrop m k) := by
  intro h
  obtain ⟨x, hx, e⟩ := List.mem_map.1 h
  subst e
  exact not_mem_spDrop m x.1 x.2 hx

theorem spSorted_spDrop {α : Type} (m : Sp α) (k : Nat) (h : spSorted m = true) : spSorted (spDrop m k) = true := by
  simp only [spSorted, decide_eq_true_eq] at *
  exact h.sublist (spKeys_spDrop_sublist m k)

theorem spSorted_spClear {α : Type} (p : Nat → Bool) (m : Sp α) (h : spSorted m = true) : spSorted (spClear p m) = true := by
  simp only [spSorted, decide_eq_true_eq] at *
  exact h.sublist (spKeys_spClear_sublist p m)

theorem spSorted_spSet {α : Type} [DecidableEq α] (d : Nat → α) (m : Sp α) (k : Nat) (v : α) (h : spSorted m = true) :
    spSorted (spSet d m k v) = true := by
  unfold spSet
  split
  · exact spSorted_spDrop m k h
  · exact spSorted_spInsert _ k v (not_mem_spKeys_spDrop m k) (spSorted_spDrop m k h)

/-! ### A property of every value -/

theorem all_spDrop {α : Type} (m : Sp α) (k : Nat) (p : α → Bool) (h : m.all (fun x => p x.2) = true) :
    (spDrop m k).all (fun x => p x.2) = true := by
  induction m with
  | nil => rfl
  | cons x m ih =>
    obtain ⟨a, v⟩ := x
    simp only [List.all_cons, Bool.and_eq_true] at h
    by_cases e : a = k
    · simp only [spDrop, e, if_true]; exact ih h.2
    · simp only [spDrop, e, if_false, List.all_cons, Bool.and_eq_true]; exact ⟨h.1, ih h.2⟩

theorem all_spInsert {α : Type} (m : Sp α) (k : Nat) (v : α) (p : α → Bool) (hv : p v = true) (h : m.all (fun x => p x.2) = true) :
    (spInsert m k v).all (fun x => p x.2) = true := by
  induction m with
  | nil => simp [spInsert, hv]
  | cons x m ih =>
    obtain ⟨a, w⟩ := x
    simp only [List.all_cons, Bool.and_eq_true] at h
    by_cases hk : k < a
    · simp only [spInsert, hk, if_true, List.all_cons, Bool.and_eq_true]; exact ⟨hv, h⟩
    · simp only [spInsert, hk, if_false, List.all_cons, Bool.and_eq_true]; exact ⟨h.1, ih h.2⟩

theorem all_spSet {α : Type} [DecidableEq α] (d : Nat → α) (m : Sp α) (k : Nat) (v : α) (p : α → Bool) (hv : p v = true)
    (h : m.all (fun x => p x.2) = true) : (spSet d m k v).all (fun x => p x.2) = true := by
  unfold spSet
  split
  · exact all_spDrop m k p h
  · exact all_spInsert _ k v p hv (all_spDrop m k p h)

theorem all_spClear {α : Type} (q : Nat → Bool) (m : Sp α) (p : α → Bool) (h : m.all (fun x => p x.2) = true) :
    (spClear q m).all (fun x => p x.2) = true := by
  induction m with
  | nil => rfl
  | cons x m ih =>
    obtain ⟨a, v⟩ := x
    simp only [List.all_cons, Bool.and_eq_true] at h
    by_cases e : q a
    · simp only [spClear, e, if_true]; exact ih h.2
    · simp [spClear, e, h.1, ih h.2]

theorem all_spGet {α : Type} (d : Nat → α) (m : Sp α) (k : Nat) (p : α → Bool) (hd : p (d k) = true)
    (h : m.all (fun x => p x.2) = true) : p (spGet d m k) = true := by
  induction m with
  | nil => exact hd
  | cons x m ih =>
    obtain ⟨a, v⟩ := x
    simp only [List.all_cons, Bool.and_eq_true] at h
    by_cases e : a = k
    · simp only [spGet, e, if_true]; exact h.1
    · simp only [spGet, e, if_false]; exact ih h.2

theorem storeLine_lines {c : DcSt} (line : Nat) (d : BitVec 512) (t : BitVec 32) (h : spSorted c.lines = true) :
    spSorted (storeLine line d t c).lines = true := spSorted_spSet _ _ _ _ h

theorem foldl_lines {α : Type} {f : DcSt → α → DcSt} (hf : ∀ c x, spSorted c.lines = true → spSorted (f c x).lines = true)
    (l : List α) {c : DcSt} (h : spSorted c.lines = true) : spSorted (l.foldl f c).lines = true := by
  induction l generalizing c with
  | nil => exact h
  | cons x l ih => exact ih (hf c x h)

theorem spWf_foldl {α β : Type} [DecidableEq α] (d : Nat → α) {f : Sp α → β → Sp α} (hf : ∀ m x, spWf d m = true → spWf d (f m x) = true)
    (l : List β) {m : Sp α} (h : spWf d m = true) : spWf d (l.foldl f m) = true := by
  induction l generalizing m with
  | nil => exact h
  | cons x l ih => exact ih (hf m x h)

theorem packWords_wf (w n : Nat) (data : List Nat) : spWf (fun _ => (0 : BitVec w)) (packWords w n data) = true :=
  spWf_foldl _ (fun _ _ h => spWf_spSet _ _ _ _ h) _ rfl

theorem ramWords_wf (r : RamRec) : spWf (fun _ => (0 : BitVec 72)) (ramWords r) = true := by
  unfold ramWords
  dsimp only
  split
  · exact packWords_wf _ _ _
  · exact spWf_foldl _ (fun _ _ h => spWf_spSet _ _ _ _ h) _ rfl

/-! ### Kept -/

/-- Every bit of a is one of b. -/
abbrev Sub (a b : Nat) : Prop := Nat.land a b = a

theorem Sub.trans {a b c : Nat} (h : Sub a b) (k : Sub b c) : Sub a c := by
  unfold Sub at *
  rw [← h]
  show (a &&& b) &&& c = a &&& b
  rw [Nat.and_assoc]
  exact congrArg (fun x => a &&& x) k

theorem Sub.of {a b c : Nat} (k : Sub b c) (h : Sub a b) : Sub a c := h.trans k

theorem Sub.bit {a b : Nat} (h : Sub a b) {i : Nat} (k : Nat.testBit a i = true) : Nat.testBit b i = true := by
  unfold Sub at h
  have : Nat.testBit (a &&& b) i = true := by rw [show a &&& b = a from h]; exact k
  rw [Nat.testBit_and, Bool.and_eq_true] at this
  exact this.2

theorem Sub.one {b i : Nat} (h : Sub (2 ^ i) b) : Nat.testBit b i = true := Sub.bit h (Nat.testBit_two_pow_self)

/-- The mask of a list of parts. -/
def maskOf (l : List Part) : Nat := l.foldr (fun p m => Nat.lor (2 ^ p.idx) m) 0

theorem testBit_maskOf {p : Part} {l : List Part} (h : p ∉ l) : Nat.testBit (maskOf l) p.idx = false := by
  induction l with
  | nil => exact Nat.zero_testBit _
  | cons q l ih =>
    rw [List.mem_cons, not_or] at h
    show Nat.testBit (2 ^ q.idx ||| maskOf l) p.idx = false
    rw [Nat.testBit_or, ih h.2, Bool.or_false, Nat.testBit_two_pow]
    have : q.idx ≠ p.idx := fun e => h.1 (by cases p <;> cases q <;> first | rfl | cases e)
    simp [this]

/-- From s to t only the parts of the mask m may change, the canonical form is kept, and RESET is not entered unless bit 32 of the mask says
so. -/
def Kept (m : Nat) (s t : Block) : Prop :=
  (∀ p : Part, m.testBit p.idx = false → p.Same s t) ∧ (BlockWf s = true → BlockWf t = true) ∧
  (t.start.inReset = true → s.start.inReset = true ∨ Sub 0x100000000 m)

theorem Part.same_trans {p : Part} {s t u : Block} (h : p.Same s t) (k : p.Same t u) : p.Same s u := by
  cases p <;> exact Eq.trans k h

theorem Kept.refl (m : Nat) (s : Block) : Kept m s s := ⟨fun p _ => by cases p <;> rfl, id, .inl⟩

theorem Kept.trans {m : Nat} {s t u : Block} (h : Kept m s t) (k : Kept m t u) : Kept m s u :=
  ⟨fun p hp => Part.same_trans (h.1 p hp) (k.1 p hp), fun w => k.2.1 (h.2.1 w), fun w => (k.2.2 w).elim h.2.2 .inr⟩

variable {m : Nat} {s0 : Block}

theorem Kept.ite {c : Prop} [Decidable c] {a b : Block} (h : Kept m s0 a) (k : Kept m s0 b) : Kept m s0 (if c then a else b) := by
  split <;> assumption

theorem Kept.ite2 {α : Type} {c : Prop} [Decidable c] {a b : α × Block} (h : Kept m s0 a.2) (k : Kept m s0 b.2) :
    Kept m s0 (if c then a else b).2 := by
  split <;> assumption

theorem Kept.ite1 {α : Type} {c : Prop} [Decidable c] {a b : Block × α} (h : Kept m s0 a.1) (k : Kept m s0 b.1) :
    Kept m s0 (if c then a else b).1 := by
  split <;> assumption

theorem Kept.pair2 {α : Type} {a : α} {b : Block} (h : Kept m s0 b) : Kept m s0 (a, b).2 := h
theorem Kept.pair1 {α : Type} {a : α} {b : Block} (h : Kept m s0 b) : Kept m s0 (b, a).1 := h

theorem Kept.foldl {α : Type} {f : Block → α → Block} {l : List α} {s : Block} (hf : ∀ s x, Kept m s0 s → Kept m s0 (f s x))
    (h : Kept m s0 s) : Kept m s0 (l.foldl f s) := by
  induction l generalizing s with
  | nil => exact h
  | cons x l ih => exact ih (hf s x h)

theorem Kept.foldl2 {α β : Type} {f : β × Block → α → β × Block} {l : List α} {a : β × Block}
    (hf : ∀ a x, Kept m s0 a.2 → Kept m s0 (f a x).2) (h : Kept m s0 a.2) : Kept m s0 (l.foldl f a).2 := by
  induction l generalizing a with
  | nil => exact h
  | cons x l ih => exact ih (hf a x h)

theorem Kept.foldl1 {α β : Type} {f : Block × β → α → Block × β} {l : List α} {a : Block × β}
    (hf : ∀ a x, Kept m s0 a.1 → Kept m s0 (f a x).1) (h : Kept m s0 a.1) : Kept m s0 (l.foldl f a).1 := by
  induction l generalizing a with
  | nil => exact h
  | cons x l ih => exact ih (hf a x h)

/-! A named intermediate result: of a block only that it is kept is passed on. -/

theorem Kept.letB {W : Block} {P : Block → Prop} (hW : Kept m s0 W) (h : ∀ r, Kept m s0 r → P r) : let r := W; P r := h W hW

theorem Kept.letP {β : Type} {W : β × Block} {P : β × Block → Prop} (hW : Kept m s0 W.2) (h : ∀ r, Kept m s0 r.2 → P r) :
    let r := W; P r := h W hW

theorem Kept.letQ {β : Type} {W : Block × β} {P : Block × β → Prop} (hW : Kept m s0 W.1) (h : ∀ r, Kept m s0 r.1 → P r) :
    let r := W; P r := h W hW

theorem Kept.letV {β : Type} {W : β} {P : β → Prop} (h : P W) : let r := W; P r := h

theorem Kept.matchOpt {α : Type} {o : Option α} {f : α → Block} {g : Block} (hf : ∀ a, Kept m s0 (f a)) (hg : Kept m s0 g) :
    Kept m s0 (match o with
      | some a => f a
      | none => g) := by
  cases o with
  | none => exact hg
  | some a => exact hf a

/-- A block in which only parts of the mask differ, and no register or memory. -/
theorem Kept.upd {s : Block} {x_out : List Out} {x_free : Nat} {x_devTime : BitVec 64} {x_start : StartSt} {x_ring : RingSt} {x_clk : ClkSt} {x_seam : SeamSt} {x_fab : FabSt} {x_cfg : CfgSt} {x_shut : ShutSt} {x_io : IoSt} {x_dmap : DMap} {x_lsu : LsuSt} {x_net : NetSt} {x_dl : DlSt} {x_qe : QeSt} {x_eic : EicSt} {x_mbx : MbxSt} {x_ev : EvSt} {x_gr : GreoneSt} {x_sec : SecSt} {x_fwu : FwSt} {x_pwr : PwrSt} {x_tap : TapInstr}
    (h : Kept m s0 s)
    (h_out : x_out = s.out ∨ Sub 1 m := by exact .inl rfl)
    (h_free : x_free = s.free ∨ Sub 2 m := by exact .inl rfl)
    (h_devTime : x_devTime = s.devTime ∨ Sub 4 m := by exact .inl rfl)
    (h_start : x_start = s.start ∨ Sub 16 m := by exact .inl rfl)
    (h_ring : x_ring = s.ring ∨ Sub 32 m := by exact .inl rfl)
    (h_clk : x_clk = s.clk ∨ Sub 64 m := by exact .inl rfl)
    (h_seam : x_seam = s.seam ∨ Sub 128 m := by exact .inl rfl)
    (h_fab : x_fab = s.fab ∨ Sub 2147483648 m := by exact .inl rfl)
    (h_cfg : x_cfg = s.cfg ∨ Sub 2048 m := by exact .inl rfl)
    (h_shut : x_shut = s.shut ∨ Sub 4096 m := by exact .inl rfl)
    (h_io : x_io = s.io ∨ Sub 8192 m := by exact .inl rfl)
    (h_dmap : x_dmap = s.dmap ∨ Sub 131072 m := by exact .inl rfl)
    (h_lsu : x_lsu = s.lsu ∨ Sub 262144 m := by exact .inl rfl)
    (h_net : x_net = s.net ∨ Sub 524288 m := by exact .inl rfl)
    (h_dl : x_dl = s.dl ∨ Sub 1048576 m := by exact .inl rfl)
    (h_qe : x_qe = s.qe ∨ Sub 2097152 m := by exact .inl rfl)
    (h_eic : x_eic = s.eic ∨ Sub 4194304 m := by exact .inl rfl)
    (h_mbx : x_mbx = s.mbx ∨ Sub 8388608 m := by exact .inl rfl)
    (h_ev : x_ev = s.ev ∨ Sub 16777216 m := by exact .inl rfl)
    (h_gr : x_gr = s.gr ∨ Sub 33554432 m := by exact .inl rfl)
    (h_sec : x_sec = s.sec ∨ Sub 67108864 m := by exact .inl rfl)
    (h_fwu : x_fwu = s.fwu ∨ Sub 134217728 m := by exact .inl rfl)
    (h_pwr : x_pwr = s.pwr ∨ Sub 536870912 m := by exact .inl rfl)
    (h_tap : x_tap = s.tap ∨ Sub 1073741824 m := by exact .inl rfl)
    (h_in : x_start.inReset = true → s.start.inReset = true := by exact fun h => h) :
    Kept m s0 ⟨x_out, x_free, x_devTime, s.regs, x_start, x_ring, x_clk, x_seam, x_fab, s.rams, s.once, s.engines, x_cfg, x_shut, x_io, s.tpps, s.lanes, s.dcs, x_dmap, x_lsu, x_net, x_dl, x_qe, x_eic, x_mbx, x_ev, x_gr, x_sec, x_fwu, s.nv, x_pwr, x_tap⟩ := by
  refine h.trans ⟨fun p hp => ?_, fun w => w, fun w => .inl (h_in w)⟩
  cases p
  · exact h_out.resolve_right (fun z => by have y := Sub.one (i := 0) z; rw [show Nat.testBit m 0 = false from hp] at y; cases y)
  · exact h_free.resolve_right (fun z => by have y := Sub.one (i := 1) z; rw [show Nat.testBit m 1 = false from hp] at y; cases y)
  · exact h_devTime.resolve_right (fun z => by have y := Sub.one (i := 2) z; rw [show Nat.testBit m 2 = false from hp] at y; cases y)
  · rfl
  · exact h_start.resolve_right (fun z => by have y := Sub.one (i := 4) z; rw [show Nat.testBit m 4 = false from hp] at y; cases y)
  · exact h_ring.resolve_right (fun z => by have y := Sub.one (i := 5) z; rw [show Nat.testBit m 5 = false from hp] at y; cases y)
  · exact h_clk.resolve_right (fun z => by have y := Sub.one (i := 6) z; rw [show Nat.testBit m 6 = false from hp] at y; cases y)
  · exact h_seam.resolve_right (fun z => by have y := Sub.one (i := 7) z; rw [show Nat.testBit m 7 = false from hp] at y; cases y)
  · rfl
  · rfl
  · rfl
  · exact h_cfg.resolve_right (fun z => by have y := Sub.one (i := 11) z; rw [show Nat.testBit m 11 = false from hp] at y; cases y)
  · exact h_shut.resolve_right (fun z => by have y := Sub.one (i := 12) z; rw [show Nat.testBit m 12 = false from hp] at y; cases y)
  · exact h_io.resolve_right (fun z => by have y := Sub.one (i := 13) z; rw [show Nat.testBit m 13 = false from hp] at y; cases y)
  · rfl
  · rfl
  · rfl
  · exact h_dmap.resolve_right (fun z => by have y := Sub.one (i := 17) z; rw [show Nat.testBit m 17 = false from hp] at y; cases y)
  · exact h_lsu.resolve_right (fun z => by have y := Sub.one (i := 18) z; rw [show Nat.testBit m 18 = false from hp] at y; cases y)
  · exact h_net.resolve_right (fun z => by have y := Sub.one (i := 19) z; rw [show Nat.testBit m 19 = false from hp] at y; cases y)
  · exact h_dl.resolve_right (fun z => by have y := Sub.one (i := 20) z; rw [show Nat.testBit m 20 = false from hp] at y; cases y)
  · exact h_qe.resolve_right (fun z => by have y := Sub.one (i := 21) z; rw [show Nat.testBit m 21 = false from hp] at y; cases y)
  · exact h_eic.resolve_right (fun z => by have y := Sub.one (i := 22) z; rw [show Nat.testBit m 22 = false from hp] at y; cases y)
  · exact h_mbx.resolve_right (fun z => by have y := Sub.one (i := 23) z; rw [show Nat.testBit m 23 = false from hp] at y; cases y)
  · exact h_ev.resolve_right (fun z => by have y := Sub.one (i := 24) z; rw [show Nat.testBit m 24 = false from hp] at y; cases y)
  · exact h_gr.resolve_right (fun z => by have y := Sub.one (i := 25) z; rw [show Nat.testBit m 25 = false from hp] at y; cases y)
  · exact h_sec.resolve_right (fun z => by have y := Sub.one (i := 26) z; rw [show Nat.testBit m 26 = false from hp] at y; cases y)
  · exact h_fwu.resolve_right (fun z => by have y := Sub.one (i := 27) z; rw [show Nat.testBit m 27 = false from hp] at y; cases y)
  · rfl
  · exact h_pwr.resolve_right (fun z => by have y := Sub.one (i := 29) z; rw [show Nat.testBit m 29 = false from hp] at y; cases y)
  · exact h_tap.resolve_right (fun z => by have y := Sub.one (i := 30) z; rw [show Nat.testBit m 30 = false from hp] at y; cases y)
  · exact h_fab.resolve_right (fun z => by have y := Sub.one (i := 31) z; rw [show Nat.testBit m 31 = false from hp] at y; cases y)

/-- An update of regs that keeps its form. -/
theorem Kept.on_regs {s : Block} {y : Sp (BitVec 64)} (h : Kept m s0 s) (hm : Sub 8 m)
    (hw : spWf regDefault s.regs = true → spWf regDefault y = true) : Kept m s0 { s with regs := y } := by
  refine h.trans ⟨fun p hp => ?_, fun w => ?_, .inl⟩
  · cases p <;> first | rfl | (have y := Sub.one (i := 3) hm; rw [show Nat.testBit m 3 = false from hp] at y; cases y)
  · simp only [BlockWf, Bool.and_eq_true] at w ⊢
    obtain ⟨⟨⟨⟨⟨⟨⟨⟨⟨a, b⟩, c⟩, d⟩, e⟩, f⟩, g⟩, i⟩, j⟩, k⟩ := w
    have z := hw a
    exact ⟨⟨⟨⟨⟨⟨⟨⟨⟨z, b⟩, c⟩, d⟩, e⟩, f⟩, g⟩, i⟩, j⟩, k⟩

/-- An update of rams that keeps its form. -/
theorem Kept.on_rams {s : Block} {y : Sp Ram} (h : Kept m s0 s) (hm : Sub 256 m)
    (hw : spWf (fun _ => Ram.cleared) s.rams = true ∧ s.rams.all (fun x => spWf (fun _ => (0 : BitVec 72)) x.2.words) = true → spWf (fun _ => Ram.cleared) y = true ∧ y.all (fun x => spWf (fun _ => (0 : BitVec 72)) x.2.words) = true) : Kept m s0 { s with rams := y } := by
  refine h.trans ⟨fun p hp => ?_, fun w => ?_, .inl⟩
  · cases p <;> first | rfl | (have y := Sub.one (i := 8) hm; rw [show Nat.testBit m 8 = false from hp] at y; cases y)
  · simp only [BlockWf, Bool.and_eq_true] at w ⊢
    obtain ⟨⟨⟨⟨⟨⟨⟨⟨⟨a, b⟩, c⟩, d⟩, e⟩, f⟩, g⟩, i⟩, j⟩, k⟩ := w
    have z := hw ⟨b, c⟩
    exact ⟨⟨⟨⟨⟨⟨⟨⟨⟨a, z.1⟩, z.2⟩, d⟩, e⟩, f⟩, g⟩, i⟩, j⟩, k⟩

/-- An update of once that keeps its form. -/
theorem Kept.on_once {s : Block} {y : Sp Bool} (h : Kept m s0 s) (hm : Sub 512 m)
    (hw : spWf (fun _ => false) s.once = true → spWf (fun _ => false) y = true) : Kept m s0 { s with once := y } := by
  refine h.trans ⟨fun p hp => ?_, fun w => ?_, .inl⟩
  · cases p <;> first | rfl | (have y := Sub.one (i := 9) hm; rw [show Nat.testBit m 9 = false from hp] at y; cases y)
  · simp only [BlockWf, Bool.and_eq_true] at w ⊢
    obtain ⟨⟨⟨⟨⟨⟨⟨⟨⟨a, b⟩, c⟩, d⟩, e⟩, f⟩, g⟩, i⟩, j⟩, k⟩ := w
    have z := hw d
    exact ⟨⟨⟨⟨⟨⟨⟨⟨⟨a, b⟩, c⟩, z⟩, e⟩, f⟩, g⟩, i⟩, j⟩, k⟩

/-- An update of engines that keeps its form. -/
theorem Kept.on_engines {s : Block} {y : Sp Engine} (h : Kept m s0 s) (hm : Sub 1024 m)
    (hw : spWf (fun _ => Engine.cleared) s.engines = true → spWf (fun _ => Engine.cleared) y = true) : Kept m s0 { s with engines := y } := by
  refine h.trans ⟨fun p hp => ?_, fun w => ?_, .inl⟩
  · cases p <;> first | rfl | (have y := Sub.one (i := 10) hm; rw [show Nat.testBit m 10 = false from hp] at y; cases y)
  · simp only [BlockWf, Bool.and_eq_true] at w ⊢
    obtain ⟨⟨⟨⟨⟨⟨⟨⟨⟨a, b⟩, c⟩, d⟩, e⟩, f⟩, g⟩, i⟩, j⟩, k⟩ := w
    have z := hw e
    exact ⟨⟨⟨⟨⟨⟨⟨⟨⟨a, b⟩, c⟩, d⟩, z⟩, f⟩, g⟩, i⟩, j⟩, k⟩

/-- An update of tpps that keeps its form. -/
theorem Kept.on_tpps {s : Block} {y : Sp Tpp} (h : Kept m s0 s) (hm : Sub 16384 m)
    (hw : spWf (fun _ => Tpp.reset) s.tpps = true → spWf (fun _ => Tpp.reset) y = true) : Kept m s0 { s with tpps := y } := by
  refine h.trans ⟨fun p hp => ?_, fun w => ?_, .inl⟩
  · cases p <;> first | rfl | (have y := Sub.one (i := 14) hm; rw [show Nat.testBit m 14 = false from hp] at y; cases y)
  · simp only [BlockWf, Bool.and_eq_true] at w ⊢
    obtain ⟨⟨⟨⟨⟨⟨⟨⟨⟨a, b⟩, c⟩, d⟩, e⟩, f⟩, g⟩, i⟩, j⟩, k⟩ := w
    have z := hw f
    exact ⟨⟨⟨⟨⟨⟨⟨⟨⟨a, b⟩, c⟩, d⟩, e⟩, z⟩, g⟩, i⟩, j⟩, k⟩

/-- An update of lanes that keeps its form. -/
theorem Kept.on_lanes {s : Block} {y : Sp LaneSt} (h : Kept m s0 s) (hm : Sub 32768 m)
    (hw : spWf (fun _ => LaneSt.reset) s.lanes = true → spWf (fun _ => LaneSt.reset) y = true) : Kept m s0 { s with lanes := y } := by
  refine h.trans ⟨fun p hp => ?_, fun w => ?_, .inl⟩
  · cases p <;> first | rfl | (have y := Sub.one (i := 15) hm; rw [show Nat.testBit m 15 = false from hp] at y; cases y)
  · simp only [BlockWf, Bool.and_eq_true] at w ⊢
    obtain ⟨⟨⟨⟨⟨⟨⟨⟨⟨a, b⟩, c⟩, d⟩, e⟩, f⟩, g⟩, i⟩, j⟩, k⟩ := w
    have z := hw g
    exact ⟨⟨⟨⟨⟨⟨⟨⟨⟨a, b⟩, c⟩, d⟩, e⟩, f⟩, z⟩, i⟩, j⟩, k⟩

/-- An update of dcs that keeps its form. -/
theorem Kept.on_dcs {s : Block} {y : Sp DcSt} (h : Kept m s0 s) (hm : Sub 65536 m)
    (hw : spWf (fun _ => DcSt.reset) s.dcs = true ∧ s.dcs.all (fun x => spSorted x.2.lines) = true → spWf (fun _ => DcSt.reset) y = true ∧ y.all (fun x => spSorted x.2.lines) = true) : Kept m s0 { s with dcs := y } := by
  refine h.trans ⟨fun p hp => ?_, fun w => ?_, .inl⟩
  · cases p <;> first | rfl | (have y := Sub.one (i := 16) hm; rw [show Nat.testBit m 16 = false from hp] at y; cases y)
  · simp only [BlockWf, Bool.and_eq_true] at w ⊢
    obtain ⟨⟨⟨⟨⟨⟨⟨⟨⟨a, b⟩, c⟩, d⟩, e⟩, f⟩, g⟩, i⟩, j⟩, k⟩ := w
    have z := hw ⟨i, j⟩
    exact ⟨⟨⟨⟨⟨⟨⟨⟨⟨a, b⟩, c⟩, d⟩, e⟩, f⟩, g⟩, z.1⟩, z.2⟩, k⟩

/-- An update of nv that keeps its form. -/
theorem Kept.on_nv {s : Block} {y : NvSt} (h : Kept m s0 s) (hm : Sub 268435456 m)
    (hw : spWf flashErased s.nv.flash = true → spWf flashErased y.flash = true) : Kept m s0 { s with nv := y } := by
  refine h.trans ⟨fun p hp => ?_, fun w => ?_, .inl⟩
  · cases p <;> first | rfl | (have y := Sub.one (i := 28) hm; rw [show Nat.testBit m 28 = false from hp] at y; cases y)
  · simp only [BlockWf, Bool.and_eq_true] at w ⊢
    obtain ⟨⟨⟨⟨⟨⟨⟨⟨⟨a, b⟩, c⟩, d⟩, e⟩, f⟩, g⟩, i⟩, j⟩, k⟩ := w
    have z := hw k
    exact ⟨⟨⟨⟨⟨⟨⟨⟨⟨a, b⟩, c⟩, d⟩, e⟩, f⟩, g⟩, i⟩, j⟩, z⟩

/-! ### Answers -/

/-- A command answers: the queue is as it was, and of the block only parts of the mask change. -/
def Ran (m : Nat) (s : State) (o : Host.Outcome State Fault Refusal) : Prop :=
  ∃ t, o = .next t ∧ t.pending = s.pending ∧ Kept m s.blk t.blk

theorem Ran.next {s t : State} {o : Host.Outcome State Fault Refusal} (h : Ran m s o) (e : o = .next t) :
    t.pending = s.pending ∧ Kept m s.blk t.blk := by
  obtain ⟨u, hu, k⟩ := h
  rw [hu] at e
  cases e
  exact k

theorem always_ran {f : Block → Block} (hf : ∀ s0 b, Kept m s0 b → Kept m s0 (f b)) (s : State) : Ran m s (always f s) :=
  ⟨_, rfl, rfl, hf _ _ (Kept.refl m _)⟩

theorem live_ran {f : Block → Block} (hf : ∀ s0 b, Kept m s0 b → Kept m s0 (f b)) (s : State) : Ran m s (live f s) :=
  always_ran (fun s0 b h => Kept.ite h (hf s0 b h)) s

theorem clocked_ran {f : Block → Block} (hf : ∀ s0 b, Kept m s0 b → Kept m s0 (f b)) (s : State) : Ran m s (clocked f s) :=
  always_ran (fun s0 b h => Kept.ite h (hf s0 b h)) s

theorem clockedOn_ran {d : Nat} {f : Block → Block} (hf : ∀ s0 b, Kept m s0 b → Kept m s0 (f b)) (s : State) : Ran m s (clockedOn d f s) :=
  clocked_ran (fun s0 b h => Kept.ite h (hf s0 b h)) s

theorem nextOf_kept {f : State → Host.Outcome State Fault Refusal} (hf : ∀ s, Ran m s (f s)) {s : Block} (h : Kept m s0 s) :
    Kept m s0 (nextOf f s) := by
  obtain ⟨t, e, -, k⟩ := hf { pending := [], blk := s }
  unfold nextOf
  rw [e]
  exact h.trans k

end Sys2Proof.Laws
end

