-- ==== Sys2Proof/Laws/KeptFabric.lean ====
section
/-! SUPPORT. What each named operation keeps (Laws/Kept.lean): registers, mailbox responses, clocks, fabric wires, fabric RAM, engines and links. -/

namespace Sys2Proof.Laws

set_option Elab.async false
set_option linter.unusedTactic false
set_option linter.unreachableTactic false

open Machine

variable {m : Nat} {s0 : Block}

/-! ### Ops -/

theorem reachTime_kept (hM : Sub 4 m) {a0 : BitVec 64} {s : Block} (h : Kept m s0 s) :
    Kept m s0 (reachTime a0 s) := by
  unfold reachTime
  repeat' (first
    | with_reducible assumption
    | with_reducible refine Kept.ite ?_ ?_
    | with_reducible refine Kept.upd ?_ (h_devTime := .inr (hM.of rfl)))

theorem Block_setReg_kept (hM : Sub 8 m) {a1 : Nat} {a2 : BitVec 64} {s : Block} (h : Kept m s0 s) :
    Kept m s0 (Block.setReg s a1 a2) := by
  unfold Block.setReg
  repeat' (first
    | with_reducible assumption
    | ((with_reducible refine Kept.on_regs ?_ (hM.of rfl) ?_); rotate_left; exact fun w => spWf_spSet _ _ _ _ w))

theorem Block_put_kept (hM : Sub 8 m) {a1 : Nat} {a2 : Fld} {a3 : Nat} {s : Block} (h : Kept m s0 s) :
    Kept m s0 (Block.put s a1 a2 a3) := by
  unfold Block.put
  repeat' (first
    | with_reducible assumption
    | with_reducible refine Block_setReg_kept (hM.of rfl) ?_)

theorem Block_putB_kept (hM : Sub 8 m) {a1 : Nat} {a2 : Fld} {a3 : Bool} {s : Block} (h : Kept m s0 s) :
    Kept m s0 (Block.putB s a1 a2 a3) := by
  unfold Block.putB
  repeat' (first
    | with_reducible assumption
    | with_reducible refine Block_put_kept (hM.of rfl) ?_)

theorem Block_resetWindows_kept (hM : Sub 8 m) {a1 a2 : Nat} {s : Block} (h : Kept m s0 s) :
    Kept m s0 (Block.resetWindows s a1 a2) := by
  unfold Block.resetWindows
  repeat' (first
    | with_reducible assumption
    | ((with_reducible refine Kept.on_regs ?_ (hM.of rfl) ?_); rotate_left; exact fun w => spWf_spClear _ _ _ w))

theorem Block_resetRange_kept (hM : Sub 8 m) {a1 a2 : Nat} {s : Block} (h : Kept m s0 s) :
    Kept m s0 (Block.resetRange s a1 a2) := by
  unfold Block.resetRange
  repeat' (first
    | with_reducible assumption
    | ((with_reducible refine Kept.on_regs ?_ (hM.of rfl) ?_); rotate_left; exact fun w => spWf_spClear _ _ _ w))

theorem Block_draw_kept (hM : Sub 2 m) {s : Block} (h : Kept m s0 s) :
    Kept m s0 (Block.draw s).2 := by
  unfold Block.draw
  repeat' (first
    | with_reducible assumption
    | with_reducible refine Kept.upd ?_ (h_free := .inr (hM.of rfl)))

theorem Block_emit_kept (hM : Sub 1 m) {a1 : Out} {s : Block} (h : Kept m s0 s) :
    Kept m s0 (Block.emit s a1) := by
  unfold Block.emit
  repeat' (first
    | with_reducible assumption
    | with_reducible refine Kept.upd ?_ (h_out := .inr (hM.of rfl)))

theorem Block_raiseAt_kept (hM : Sub 16777216 m) {a1 : BitVec 64} {a2 a3 : Nat} {a4 : optParam Nat 0} {a5 : optParam Nat 0} {s : Block} (h : Kept m s0 s) :
    Kept m s0 (Block.raiseAt s a1 a2 a3 a4 a5) := by
  unfold Block.raiseAt
  repeat' (first
    | with_reducible assumption
    | (extract_lets +onlyGivenNames r; clear_value r)
    | with_reducible refine Kept.upd ?_ (h_ev := .inr (hM.of rfl)))

theorem Block_raise_kept (hM : Sub 16777216 m) {a1 a2 : Nat} {a3 : optParam Nat 0} {a4 : optParam Nat 0} {s : Block} (h : Kept m s0 s) :
    Kept m s0 (Block.raise s a1 a2 a3 a4) := by
  unfold Block.raise
  repeat' (first
    | with_reducible assumption
    | with_reducible refine Block_raiseAt_kept (hM.of rfl) ?_)

theorem Block_eicEdge_kept (hM : Sub 8 m) {a1 : Nat} {s : Block} (h : Kept m s0 s) :
    Kept m s0 (Block.eicEdge s a1) := by
  unfold Block.eicEdge
  repeat' (first
    | with_reducible assumption
    | with_reducible refine Kept.ite ?_ ?_
    | with_reducible refine Block_put_kept (hM.of rfl) ?_)

theorem Block_bumpBy_kept (hM : Sub 16777224 m) {a1 : Nat} {a2 : CntL} {a3 : Nat} {a4 : optParam Nat evCounterSaturated} {s : Block} (h : Kept m s0 s) :
    Kept m s0 (Block.bumpBy s a1 a2 a3 a4) := by
  unfold Block.bumpBy
  repeat' (first
    | with_reducible assumption
    | (extract_lets +onlyGivenNames r; clear_value r)
    | with_reducible refine Kept.ite ?_ ?_
    | with_reducible refine Block_setReg_kept (hM.of rfl) ?_
    | with_reducible refine Block_raise_kept (hM.of rfl) ?_)

theorem Block_bump_kept (hM : Sub 16777224 m) {a1 : Nat} {s : Block} (h : Kept m s0 s) :
    Kept m s0 (Block.bump s a1) := by
  unfold Block.bump
  repeat' (first
    | with_reducible assumption
    | with_reducible refine Block_bumpBy_kept (hM.of rfl) ?_)

theorem Block_logWrite_kept (hM : Sub 16777736 m) {a1 a2 a3 : Nat} {s : Block} (h : Kept m s0 s) :
    Kept m s0 (Block.logWrite s a1 a2 a3) := by
  unfold Block.logWrite
  split
  · next i _ =>
    exact Kept.on_once (Block_setReg_kept (hM.of rfl) h) (hM.of rfl)
      (fun w => spWf_spSet (fun _ => false) s.once a1 false w)
  · refine Kept.ite h (Block_raise_kept (hM.of rfl) ?_)
    exact Kept.on_once h (hM.of rfl) (fun w => spWf_spSet _ _ _ _ w)

theorem Block_plainWrite_kept (hM : Sub 8 m) {a1 : Nat} {a2 : Bool} {a3 : Nat} {s : Block} (h : Kept m s0 s) :
    Kept m s0 (Block.plainWrite s a1 a2 a3) := by
  unfold Block.plainWrite
  repeat' (first
    | with_reducible assumption
    | (extract_lets +onlyGivenNames r; clear_value r)
    | with_reducible refine Block_setReg_kept (hM.of rfl) ?_
    | split)

theorem forEach_kept (_ : Sub 0 m) {a0 : List Nat} {a1 : Nat → Block → Block} {s : Block} (h1 : ∀ x0 s, Kept m s0 s → Kept m s0 (a1 x0 s)) (h : Kept m s0 s) :
    Kept m s0 (forEach a0 a1 s) := by
  unfold forEach
  repeat' (first
    | with_reducible assumption
    | intro _
    | with_reducible refine Kept.foldl ?_ ?_
    | with_reducible refine h1 _ _ ?_)

theorem when_kept (_ : Sub 0 m) {a0 : Bool} {a1 : Block → Block} {s : Block} (h1 : ∀  s, Kept m s0 s → Kept m s0 (a1  s)) (h : Kept m s0 s) :
    Kept m s0 (when a0 a1 s) := by
  unfold when
  repeat' (first
    | with_reducible assumption
    | with_reducible refine Kept.ite ?_ ?_
    | with_reducible refine h1 _ ?_)

/-! ### Command -/

theorem setRegion_kept (hM : Sub 2048 m) {a0 : Nat} {a1 : Region} {s : Block} (h : Kept m s0 s) :
    Kept m s0 (setRegion a0 a1 s) := by
  unfold setRegion
  repeat' (first
    | with_reducible assumption
    | (extract_lets +onlyGivenNames r; clear_value r)
    | with_reducible refine Kept.upd ?_ (h_cfg := .inr (hM.of rfl)))

theorem releaseRun_kept (hM : Sub 134217736 m) {a0 : Nat} {s : Block} (h : Kept m s0 s) :
    Kept m s0 (releaseRun a0 s) := by
  unfold releaseRun
  repeat' (first
    | with_reducible assumption
    | (extract_lets +onlyGivenNames r; have hr : Kept m s0 r := ?_; clear_value r; rotate_left; subst r; rotate_right)
    | (extract_lets +onlyGivenNames r; clear_value r)
    | with_reducible refine Block_putB_kept (hM.of rfl) ?_
    | with_reducible refine Kept.upd ?_ (h_fwu := .inr (hM.of rfl)))

theorem settleBarrier_kept (hM : Sub 8388608 m) {a0 : Port} {s : Block} (h : Kept m s0 s) :
    Kept m s0 (settleBarrier a0 s) := by
  unfold settleBarrier
  repeat' (first
    | with_reducible assumption
    | (extract_lets +onlyGivenNames r; clear_value r)
    | with_reducible refine Kept.ite ?_ ?_
    | split
    | with_reducible refine Kept.upd ?_ (h_mbx := .inr (hM.of rfl)))

theorem Block_respond_kept (hM : Sub 8388608 m) {a1 : Cmd} {a2 : Nat} {a3 : optParam (List (Nat × Nat)) []} {s : Block} (h : Kept m s0 s) :
    Kept m s0 (Block.respond s a1 a2 a3) := by
  unfold Block.respond
  repeat' (first
    | with_reducible assumption
    | (extract_lets +onlyGivenNames r; clear_value r)
    | with_reducible refine settleBarrier_kept (hM.of rfl) ?_
    | with_reducible refine Kept.upd ?_ (h_mbx := .inr (hM.of rfl)))

theorem Block_answer_kept (hM : Sub 8388608 m) {a1 : OpenCmd} {a2 : Nat} {a3 : optParam (List (Nat × Nat)) []} {s : Block} (h : Kept m s0 s) :
    Kept m s0 (Block.answer s a1 a2 a3) := by
  unfold Block.answer
  repeat' (first
    | with_reducible assumption
    | (extract_lets +onlyGivenNames r; clear_value r)
    | with_reducible refine Block_respond_kept (hM.of rfl) ?_
    | with_reducible refine Kept.upd ?_ (h_mbx := .inr (hM.of rfl)))

theorem Block_hold_kept (hM : Sub 8388608 m) {a1 : Cmd} {a2 a3 : Nat} {s : Block} (h : Kept m s0 s) :
    Kept m s0 (Block.hold s a1 a2 a3) := by
  unfold Block.hold
  repeat' (first
    | with_reducible assumption
    | (extract_lets +onlyGivenNames r; clear_value r)
    | with_reducible refine Kept.upd ?_ (h_mbx := .inr (hM.of rfl)))

theorem Block_close_kept (hM : Sub 8388608 m) {a1 a2 a3 : Nat} {a4 : optParam (List (Nat × Nat)) []} {s : Block} (h : Kept m s0 s) :
    Kept m s0 (Block.close s a1 a2 a3 a4) := by
  unfold Block.close
  repeat' (first
    | with_reducible assumption
    | intro _
    | with_reducible refine Kept.foldl ?_ ?_
    | with_reducible refine Block_answer_kept (hM.of rfl) ?_)

theorem Block_closeFirst_kept (hM : Sub 8388608 m) {a1 a2 a3 : Nat} {a4 : optParam (List (Nat × Nat)) []} {s : Block} (h : Kept m s0 s) :
    Kept m s0 (Block.closeFirst s a1 a2 a3 a4) := by
  unfold Block.closeFirst
  repeat' (first
    | with_reducible assumption
    | with_reducible refine Block_answer_kept (hM.of rfl) ?_
    | split)

theorem Block_checked_kept (hM : Sub 8388608 m) {a1 : Cmd} {a2 : Need} {a3 : Cmd → Block → Block} {s : Block} (h3 : ∀ x0 s, Kept m s0 s → Kept m s0 (a3 x0 s)) (h : Kept m s0 s) :
    Kept m s0 (Block.checked s a1 a2 a3) := by
  unfold Block.checked
  repeat' (first
    | with_reducible assumption
    | with_reducible refine Kept.ite ?_ ?_
    | with_reducible refine h3 _ _ ?_
    | with_reducible refine Block_respond_kept (hM.of rfl) ?_)

theorem onDie_kept (hM : Sub 8388608 m) {a0 : Nat} {a1 : Cmd → Block → Block} {a2 : Cmd} {s : Block} (h1 : ∀ x0 s, Kept m s0 s → Kept m s0 (a1 x0 s)) (h : Kept m s0 s) :
    Kept m s0 (onDie a0 a1 a2 s) := by
  unfold onDie
  repeat' (first
    | with_reducible assumption
    | with_reducible refine Kept.ite ?_ ?_
    | with_reducible refine h1 _ _ ?_
    | with_reducible refine Block_respond_kept (hM.of rfl) ?_)

theorem Block_command_kept (hM : Sub 8388608 m) {a1 : Hdr} {a2 : Need} {a3 : Cmd → Block → Block} {s : Block} (h3 : ∀ x0 s, Kept m s0 s → Kept m s0 (a3 x0 s)) (h : Kept m s0 s) :
    Kept m s0 (Block.command s a1 a2 a3) := by
  unfold Block.command
  repeat' (first
    | with_reducible assumption
    | with_reducible refine Kept.ite ?_ ?_
    | with_reducible refine Block_checked_kept (hM.of rfl) ?_ ?_)

theorem Block_commandV1_kept (hM : Sub 8388608 m) {a1 : Hdr} {a2 : Nat} {a3 : Need} {a4 : Cmd → Block → Block} {s : Block} (h4 : ∀ x0 s, Kept m s0 s → Kept m s0 (a4 x0 s)) (h : Kept m s0 s) :
    Kept m s0 (Block.commandV1 s a1 a2 a3 a4) := by
  unfold Block.commandV1
  repeat' (first
    | with_reducible assumption
    | with_reducible refine Kept.ite ?_ ?_
    | with_reducible refine Block_checked_kept (hM.of rfl) ?_ ?_)

/-! ### Clocks -/

theorem startSlew_kept (hM : Sub 72 m) {a0 : Bool} {s : Block} (h : Kept m s0 s) :
    Kept m s0 (startSlew a0 s) := by
  unfold startSlew
  repeat' (first
    | with_reducible assumption
    | (extract_lets +onlyGivenNames r; have hr : Kept m s0 r := ?_; clear_value r; rotate_left; subst r; rotate_right)
    | (extract_lets +onlyGivenNames r; clear_value r)
    | with_reducible refine Block_putB_kept (hM.of rfl) ?_
    | with_reducible refine Kept.upd ?_ (h_clk := .inr (hM.of rfl)))

theorem enterHoldover_kept (hM : Sub 16777224 m) {s : Block} (h : Kept m s0 s) :
    Kept m s0 (enterHoldover s) := by
  unfold enterHoldover
  repeat' (first
    | with_reducible assumption
    | (extract_lets +onlyGivenNames r; have hr : Kept m s0 r := ?_; clear_value r; rotate_left; subst r; rotate_right)
    | with_reducible refine Block_putB_kept (hM.of rfl) ?_
    | with_reducible refine Block_eicEdge_kept (hM.of rfl) ?_
    | with_reducible refine Block_raise_kept (hM.of rfl) ?_)

theorem loseReference_kept (hM : Sub 16777288 m) {a0 : Bool} {s : Block} (h : Kept m s0 s) :
    Kept m s0 (loseReference a0 s) := by
  unfold loseReference
  repeat' (first
    | with_reducible assumption
    | intro _
    | (extract_lets +onlyGivenNames r; have hr : Kept m s0 r := ?_; clear_value r; rotate_left; subst r; rotate_right)
    | (extract_lets +onlyGivenNames r; clear_value r)
    | with_reducible refine Kept.ite ?_ ?_
    | with_reducible refine when_kept (hM.of rfl) ?_ ?_
    | with_reducible refine Block_putB_kept (hM.of rfl) ?_
    | with_reducible refine Block_eicEdge_kept (hM.of rfl) ?_
    | with_reducible refine Block_raise_kept (hM.of rfl) ?_
    | with_reducible refine startSlew_kept (hM.of rfl) ?_
    | with_reducible refine enterHoldover_kept (hM.of rfl) ?_)

theorem ringRefLost_kept (hM : Sub 16777288 m) {s : Block} (h : Kept m s0 s) :
    Kept m s0 (ringRefLost s) := by
  unfold ringRefLost
  repeat' (first
    | with_reducible assumption
    | with_reducible refine loseReference_kept (hM.of rfl) ?_
    | with_reducible refine Block_putB_kept (hM.of rfl) ?_)

theorem primaryRingLostStep_kept (hM : Sub 16777288 m) {s : Block} (h : Kept m s0 s) :
    Kept m s0 (primaryRingLostStep s) := by
  unfold primaryRingLostStep
  repeat' (first
    | with_reducible assumption
    | with_reducible refine Kept.ite ?_ ?_
    | with_reducible refine ringRefLost_kept (hM.of rfl) ?_)

theorem refclkLostStep_kept (hM : Sub 16777288 m) {s : Block} (h : Kept m s0 s) :
    Kept m s0 (refclkLostStep s) := by
  unfold refclkLostStep
  repeat' (first
    | with_reducible assumption
    | with_reducible refine Kept.ite ?_ ?_
    | with_reducible refine loseReference_kept (hM.of rfl) ?_
    | with_reducible refine Block_putB_kept (hM.of rfl) ?_)

theorem ringRestored_kept (hM : Sub 72 m) {s : Block} (h : Kept m s0 s) :
    Kept m s0 (ringRestored s) := by
  unfold ringRestored
  repeat' (first
    | with_reducible assumption
    | intro _
    | (extract_lets +onlyGivenNames r; have hr : Kept m s0 r := ?_; clear_value r; rotate_left; subst r; rotate_right)
    | with_reducible refine Block_putB_kept (hM.of rfl) ?_
    | with_reducible refine when_kept (hM.of rfl) ?_ ?_
    | with_reducible refine startSlew_kept (hM.of rfl) ?_)

theorem refclkRestored_kept (hM : Sub 72 m) {s : Block} (h : Kept m s0 s) :
    Kept m s0 (refclkRestored s) := by
  unfold refclkRestored
  repeat' (first
    | with_reducible assumption
    | intro _
    | (extract_lets +onlyGivenNames r; have hr : Kept m s0 r := ?_; clear_value r; rotate_left; subst r; rotate_right)
    | with_reducible refine Block_putB_kept (hM.of rfl) ?_
    | with_reducible refine when_kept (hM.of rfl) ?_ ?_
    | with_reducible refine startSlew_kept (hM.of rfl) ?_)

theorem referenceRestoredStep_kept (hM : Sub 72 m) {a0 : Bool} {s : Block} (h : Kept m s0 s) :
    Kept m s0 (referenceRestoredStep a0 s) := by
  unfold referenceRestoredStep
  repeat' (first
    | with_reducible assumption
    | with_reducible refine Kept.ite ?_ ?_
    | with_reducible refine ringRestored_kept (hM.of rfl) ?_
    | with_reducible refine refclkRestored_kept (hM.of rfl) ?_)

theorem referenceSlewDoneStep_kept (hM : Sub 8 m) {s : Block} (h : Kept m s0 s) :
    Kept m s0 (referenceSlewDoneStep s) := by
  unfold referenceSlewDoneStep
  repeat' (first
    | with_reducible assumption
    | with_reducible refine Block_putB_kept (hM.of rfl) ?_)

theorem devTimeWrapStep_kept (hM : Sub 12 m) {s : Block} (h : Kept m s0 s) :
    Kept m s0 (devTimeWrapStep s) := by
  unfold devTimeWrapStep
  repeat' (first
    | with_reducible assumption
    | with_reducible refine Block_putB_kept (hM.of rfl) ?_
    | with_reducible refine Kept.upd ?_ (h_devTime := .inr (hM.of rfl)))

theorem advanceTime_kept (hM : Sub 12 m) {a0 : Nat} {s : Block} (h : Kept m s0 s) :
    Kept m s0 (advanceTime a0 s) := by
  unfold advanceTime
  repeat' (first
    | with_reducible assumption
    | intro _
    | (extract_lets +onlyGivenNames r; have hr : Kept m s0 r := ?_; clear_value r; rotate_left; subst r; rotate_right)
    | (extract_lets +onlyGivenNames r; clear_value r)
    | with_reducible refine when_kept (hM.of rfl) ?_ ?_
    | with_reducible refine Block_putB_kept (hM.of rfl) ?_
    | with_reducible refine Kept.upd ?_ (h_devTime := .inr (hM.of rfl)))

theorem fpllStops_kept (hM : Sub 64 m) {a0 a1 : Nat} {s : Block} (h : Kept m s0 s) :
    Kept m s0 (fpllStops a0 a1 s) := by
  unfold fpllStops
  repeat' (first
    | with_reducible assumption
    | (extract_lets +onlyGivenNames r; clear_value r)
    | with_reducible refine Kept.ite ?_ ?_
    | with_reducible refine Kept.upd ?_ (h_clk := .inr (hM.of rfl)))

theorem fpllLosesLock_kept (hM : Sub 16777288 m) {a0 a1 : Nat} {s : Block} (h : Kept m s0 s) :
    Kept m s0 (fpllLosesLock a0 a1 s) := by
  unfold fpllLosesLock
  repeat' (first
    | with_reducible assumption
    | (extract_lets +onlyGivenNames r; have hr : Kept m s0 r := ?_; clear_value r; rotate_left; subst r; rotate_right)
    | (extract_lets +onlyGivenNames r; clear_value r)
    | with_reducible refine fpllStops_kept (hM.of rfl) ?_
    | with_reducible refine Block_bumpBy_kept (hM.of rfl) ?_
    | with_reducible refine Block_putB_kept (hM.of rfl) ?_
    | with_reducible refine Block_eicEdge_kept (hM.of rfl) ?_
    | with_reducible refine Block_raise_kept (hM.of rfl) ?_)

theorem fpllUnlockStep_kept (hM : Sub 16777288 m) {a0 a1 : Nat} {s : Block} (h : Kept m s0 s) :
    Kept m s0 (fpllUnlockStep a0 a1 s) := by
  unfold fpllUnlockStep
  repeat' (first
    | with_reducible assumption
    | with_reducible refine Kept.ite ?_ ?_
    | with_reducible refine fpllLosesLock_kept (hM.of rfl) ?_)

theorem fpllRelockStep_kept (hM : Sub 72 m) {a0 a1 : Nat} {s : Block} (h : Kept m s0 s) :
    Kept m s0 (fpllRelockStep a0 a1 s) := by
  unfold fpllRelockStep
  repeat' (first
    | with_reducible assumption
    | (extract_lets +onlyGivenNames r; have hr : Kept m s0 r := ?_; clear_value r; rotate_left; subst r; rotate_right)
    | (extract_lets +onlyGivenNames r; clear_value r)
    | with_reducible refine Kept.ite ?_ ?_
    | with_reducible refine Block_putB_kept (hM.of rfl) ?_
    | with_reducible refine Kept.upd ?_ (h_clk := .inr (hM.of rfl)))

theorem execPrimaryRingLost_ran (hM : Sub 16777288 m) (s : State) : Ran m s (execPrimaryRingLost s) := by
  unfold execPrimaryRingLost
  refine clocked_ran (fun s0 s h => ?_) s
  repeat' (first
    | with_reducible assumption
    | with_reducible refine primaryRingLostStep_kept (hM.of rfl) ?_)

theorem execRefclkLost_ran (hM : Sub 16777288 m) (s : State) : Ran m s (execRefclkLost s) := by
  unfold execRefclkLost
  refine clocked_ran (fun s0 s h => ?_) s
  repeat' (first
    | with_reducible assumption
    | with_reducible refine refclkLostStep_kept (hM.of rfl) ?_)

theorem execReferenceRestored_ran (hM : Sub 72 m) (a0 : Bool) (s : State) : Ran m s (execReferenceRestored a0 s) := by
  unfold execReferenceRestored
  refine clocked_ran (fun s0 s h => ?_) s
  repeat' (first
    | with_reducible assumption
    | with_reducible refine referenceRestoredStep_kept (hM.of rfl) ?_)

theorem execReferenceSlewDone_ran (hM : Sub 8 m) (s : State) : Ran m s (execReferenceSlewDone s) := by
  unfold execReferenceSlewDone
  refine clocked_ran (fun s0 s h => ?_) s
  repeat' (first
    | with_reducible assumption
    | with_reducible refine referenceSlewDoneStep_kept (hM.of rfl) ?_)

theorem execDevTimeWrap_ran (hM : Sub 12 m) (s : State) : Ran m s (execDevTimeWrap s) := by
  unfold execDevTimeWrap
  refine clocked_ran (fun s0 s h => ?_) s
  repeat' (first
    | with_reducible assumption
    | with_reducible refine devTimeWrapStep_kept (hM.of rfl) ?_)

theorem execFpllUnlock_ran (hM : Sub 16777288 m) (a0 : Fin 4) (a1 : Fin 16) (s : State) : Ran m s (execFpllUnlock a0 a1 s) := by
  unfold execFpllUnlock
  refine clockedOn_ran (fun s0 s h => ?_) s
  repeat' (first
    | with_reducible assumption
    | with_reducible refine fpllUnlockStep_kept (hM.of rfl) ?_)

theorem execFpllRelock_ran (hM : Sub 72 m) (a0 : Fin 4) (a1 : Fin 16) (s : State) : Ran m s (execFpllRelock a0 a1 s) := by
  unfold execFpllRelock
  refine clockedOn_ran (fun s0 s h => ?_) s
  repeat' (first
    | with_reducible assumption
    | with_reducible refine fpllRelockStep_kept (hM.of rfl) ?_)

/-! ### ConfigMem -/

theorem modCfg_kept (hM : Sub 2048 m) {a0 : CfgSt → CfgSt} {s : Block} (h : Kept m s0 s) :
    Kept m s0 (modCfg a0 s) := by
  unfold modCfg
  repeat' (first
    | with_reducible assumption
    | with_reducible refine Kept.upd ?_ (h_cfg := .inr (hM.of rfl)))

theorem cfgPut_kept (hM : Sub 2048 m) {a0 a1 : Nat} {s : Block} (h : Kept m s0 s) :
    Kept m s0 (cfgPut a0 a1 s) := by
  unfold cfgPut
  repeat' (first
    | with_reducible assumption
    | with_reducible refine modCfg_kept (hM.of rfl) ?_)

theorem frameFields_kept (hM : Sub 2048 m) {a0 a1 : Nat} {a2 : Option (BitVec 2048)} {s : Block} (h : Kept m s0 s) :
    Kept m s0 (frameFields a0 a1 a2 s) := by
  unfold frameFields
  repeat' (first
    | with_reducible assumption
    | with_reducible refine modCfg_kept (hM.of rfl) ?_)

theorem flipFrameBit_kept (hM : Sub 2048 m) {a0 a1 a2 : Nat} {s : Block} (h : Kept m s0 s) :
    Kept m s0 (flipFrameBit a0 a1 a2 s) := by
  unfold flipFrameBit
  repeat' (first
    | with_reducible assumption
    | (extract_lets +onlyGivenNames r; clear_value r)
    | with_reducible refine cfgPut_kept (hM.of rfl) ?_
    | split)

theorem clearFields_kept (hM : Sub 2048 m) {a0 : Nat} {s : Block} (h : Kept m s0 s) :
    Kept m s0 (clearFields a0 s) := by
  unfold clearFields
  repeat' (first
    | with_reducible assumption
    | with_reducible refine modCfg_kept (hM.of rfl) ?_)

/-! ### Fabric -/

theorem seamPutBoth_kept (hM : Sub 8 m) {a0 a1 : Nat} {a2 : Fld} {a3 : Nat} {s : Block} (h : Kept m s0 s) :
    Kept m s0 (seamPutBoth a0 a1 a2 a3 s) := by
  unfold seamPutBoth
  repeat' (first
    | with_reducible assumption
    | with_reducible refine Block_put_kept (hM.of rfl) ?_)

theorem sectorEvent_kept (hM : Sub 8 m) {a0 : Nat} {s : Block} (h : Kept m s0 s) :
    Kept m s0 (sectorEvent a0 s) := by
  unfold sectorEvent
  repeat' (first
    | with_reducible assumption
    | with_reducible refine Block_eicEdge_kept (hM.of rfl) ?_)

theorem seamUnsteer_kept (hM : Sub 8388744 m) {a0 a1 : Nat} {s : Block} (h : Kept m s0 s) :
    Kept m s0 (seamUnsteer a0 a1 s) := by
  unfold seamUnsteer
  repeat' (first
    | with_reducible assumption
    | intro _
    | (extract_lets +onlyGivenNames r; have hr : Kept m s0 r := ?_; clear_value r; rotate_left; subst r; rotate_right)
    | (extract_lets +onlyGivenNames r; clear_value r)
    | with_reducible refine seamPutBoth_kept (hM.of rfl) ?_
    | with_reducible refine forEach_kept (hM.of rfl) ?_ ?_
    | with_reducible refine Block_close_kept (hM.of rfl) ?_
    | with_reducible refine Kept.upd ?_ (h_seam := .inr (hM.of rfl)))

theorem seamRefresh_kept (hM : Sub 25165960 m) {a0 a1 : Nat} {s : Block} (h : Kept m s0 s) :
    Kept m s0 (seamRefresh a0 a1 s) := by
  unfold seamRefresh
  repeat' (first
    | with_reducible assumption
    | intro _
    | (extract_lets +onlyGivenNames r; have hr : Kept m s0 r := ?_; clear_value r; rotate_left; subst r; rotate_right)
    | (extract_lets +onlyGivenNames r; clear_value r)
    | with_reducible refine Kept.ite ?_ ?_
    | with_reducible refine forEach_kept (hM.of rfl) ?_ ?_
    | with_reducible refine Block_putB_kept (hM.of rfl) ?_
    | with_reducible refine when_kept (hM.of rfl) ?_ ?_
    | with_reducible refine seamUnsteer_kept (hM.of rfl) ?_
    | with_reducible refine sectorEvent_kept (hM.of rfl) ?_
    | with_reducible refine Block_raise_kept (hM.of rfl) ?_)

theorem seamLose_kept (hM : Sub 25165960 m) {a0 a1 : Nat} {s : Block} (h : Kept m s0 s) :
    Kept m s0 (seamLose a0 a1 s) := by
  unfold seamLose
  repeat' (first
    | with_reducible assumption
    | (extract_lets +onlyGivenNames r; have hr : Kept m s0 r := ?_; clear_value r; rotate_left; subst r; rotate_right)
    | (extract_lets +onlyGivenNames r; clear_value r)
    | with_reducible refine seamUnsteer_kept (hM.of rfl) ?_
    | with_reducible refine seamPutBoth_kept (hM.of rfl) ?_
    | with_reducible refine Block_eicEdge_kept (hM.of rfl) ?_
    | with_reducible refine Block_raise_kept (hM.of rfl) ?_
    | with_reducible refine Kept.upd ?_ (h_seam := .inr (hM.of rfl)))

theorem seamSteer_kept (hM : Sub 25165960 m) {a0 a1 a2 a3 : Nat} {a4 : Option (BitVec 64)} {s : Block} (h : Kept m s0 s) :
    Kept m s0 (seamSteer a0 a1 a2 a3 a4 s) := by
  unfold seamSteer
  repeat' (first
    | with_reducible assumption
    | (extract_lets +onlyGivenNames r; have hr : Kept m s0 r := ?_; clear_value r; rotate_left; subst r; rotate_right)
    | (extract_lets +onlyGivenNames r; clear_value r)
    | with_reducible refine seamLose_kept (hM.of rfl) ?_
    | with_reducible refine seamPutBoth_kept (hM.of rfl) ?_
    | split
    | with_reducible refine Kept.upd ?_ (h_seam := .inr (hM.of rfl)))

theorem seamSpareFails_kept (hM : Sub 136 m) {a0 a1 a2 : Nat} {s : Block} (h : Kept m s0 s) :
    Kept m s0 (seamSpareFails a0 a1 a2 s) := by
  unfold seamSpareFails
  repeat' (first
    | with_reducible assumption
    | (extract_lets +onlyGivenNames r; have hr : Kept m s0 r := ?_; clear_value r; rotate_left; subst r; rotate_right)
    | (extract_lets +onlyGivenNames r; clear_value r)
    | with_reducible refine Kept.ite ?_ ?_
    | with_reducible refine seamPutBoth_kept (hM.of rfl) ?_
    | with_reducible refine Kept.upd ?_ (h_seam := .inr (hM.of rfl)))

theorem seamMarginLossStep_kept (hM : Sub 25165960 m) {a0 a1 a2 a3 : Nat} {s : Block} (h : Kept m s0 s) :
    Kept m s0 (seamMarginLossStep a0 a1 a2 a3 s) := by
  unfold seamMarginLossStep
  repeat' (first
    | with_reducible assumption
    | (extract_lets +onlyGivenNames r; clear_value r)
    | with_reducible refine Kept.ite ?_ ?_
    | with_reducible refine seamSteer_kept (hM.of rfl) ?_
    | with_reducible refine seamSpareFails_kept (hM.of rfl) ?_
    | with_reducible refine Block_raise_kept (hM.of rfl) ?_
    | split)

theorem seamTurnAbrupt_kept (hM : Sub 128 m) {a0 a1 a2 : Nat} {s : Block} (h : Kept m s0 s) :
    Kept m s0 (seamTurnAbrupt a0 a1 a2 s) := by
  unfold seamTurnAbrupt
  repeat' (first
    | with_reducible assumption
    | (extract_lets +onlyGivenNames r; clear_value r)
    | with_reducible refine Kept.upd ?_ (h_seam := .inr (hM.of rfl)))

theorem seamParityFailStep_kept (hM : Sub 25165960 m) {a0 a1 a2 : Nat} {s : Block} (h : Kept m s0 s) :
    Kept m s0 (seamParityFailStep a0 a1 a2 s) := by
  unfold seamParityFailStep
  repeat' (first
    | with_reducible assumption
    | (extract_lets +onlyGivenNames r; have hr : Kept m s0 r := ?_; clear_value r; rotate_left; subst r; rotate_right)
    | with_reducible refine Kept.ite ?_ ?_
    | with_reducible refine seamLose_kept (hM.of rfl) ?_
    | with_reducible refine Block_bumpBy_kept (hM.of rfl) ?_
    | with_reducible refine seamTurnAbrupt_kept (hM.of rfl) ?_
    | with_reducible refine seamSteer_kept (hM.of rfl) ?_
    | with_reducible refine seamSpareFails_kept (hM.of rfl) ?_
    | split)

theorem seamKeep_kept (hM : Sub 128 m) {a0 : SeamSteer} {a1 : Nat} {s : Block} (h : Kept m s0 s) :
    Kept m s0 (seamKeep a0 a1 s) := by
  unfold seamKeep
  repeat' (first
    | with_reducible assumption
    | (extract_lets +onlyGivenNames r; clear_value r)
    | with_reducible refine Kept.upd ?_ (h_seam := .inr (hM.of rfl)))

theorem seamStep4_kept (hM : Sub 16777346 m) {a0 : SeamSteer} {s : Block} (h : Kept m s0 s) :
    Kept m s0 (seamStep4 a0 s) := by
  unfold seamStep4
  repeat' (first
    | with_reducible assumption
    | (extract_lets +onlyGivenNames r; have hr : Kept m s0 r.2 := ?_; clear_value r; rotate_left; subst r; rotate_right)
    | (extract_lets +onlyGivenNames r; clear_value r)
    | with_reducible refine Kept.ite ?_ ?_
    | with_reducible refine Block_draw_kept (hM.of rfl) ?_
    | with_reducible refine seamKeep_kept (hM.of rfl) ?_
    | with_reducible refine Block_raiseAt_kept (hM.of rfl) ?_
    | split)

theorem seamStep5_kept (hM : Sub 25165832 m) {a0 : SeamSteer} {s : Block} (h : Kept m s0 s) :
    Kept m s0 (seamStep5 a0 s) := by
  unfold seamStep5
  repeat' (first
    | with_reducible assumption
    | (extract_lets +onlyGivenNames r; have hr : Kept m s0 r := ?_; clear_value r; rotate_left; subst r; rotate_right)
    | (extract_lets +onlyGivenNames r; clear_value r)
    | with_reducible refine seamPutBoth_kept (hM.of rfl) ?_
    | with_reducible refine Block_close_kept (hM.of rfl) ?_
    | with_reducible refine Block_raise_kept (hM.of rfl) ?_)

theorem seamMarkerOne_kept (hM : Sub 25165962 m) {a0 : SeamSteer} {s : Block} (h : Kept m s0 s) :
    Kept m s0 (seamMarkerOne a0 s) := by
  unfold seamMarkerOne
  repeat' (first
    | with_reducible assumption
    | with_reducible refine Kept.ite ?_ ?_
    | with_reducible refine seamKeep_kept (hM.of rfl) ?_
    | with_reducible refine seamStep4_kept (hM.of rfl) ?_
    | with_reducible refine seamStep5_kept (hM.of rfl) ?_)

theorem seamMarker_kept (hM : Sub 25165962 m) {s : Block} (h : Kept m s0 s) :
    Kept m s0 (seamMarker s) := by
  unfold seamMarker
  repeat' (first
    | with_reducible assumption
    | intro _
    | (extract_lets +onlyGivenNames r; clear_value r)
    | with_reducible refine Kept.foldl ?_ ?_
    | with_reducible refine seamMarkerOne_kept (hM.of rfl) ?_
    | with_reducible refine Kept.upd ?_ (h_seam := .inr (hM.of rfl)))

theorem deskewGroup_kept (hM : Sub 25165960 m) {a0 a1 : Nat} {a2 : List Nat} {s : Block} (h : Kept m s0 s) :
    Kept m s0 (deskewGroup a0 a1 a2 s) := by
  unfold deskewGroup
  repeat' (first
    | with_reducible assumption
    | intro _
    | (extract_lets +onlyGivenNames r; have hr : Kept m s0 r := ?_; clear_value r; rotate_left; subst r; rotate_right)
    | (extract_lets +onlyGivenNames r; clear_value r)
    | with_reducible refine Kept.ite ?_ ?_
    | with_reducible refine seamLose_kept (hM.of rfl) ?_
    | with_reducible refine forEach_kept (hM.of rfl) ?_ ?_
    | with_reducible refine seamPutBoth_kept (hM.of rfl) ?_
    | split
    | with_reducible refine Kept.upd ?_ (h_seam := .inr (hM.of rfl)))

theorem seamFreshEnd_kept (hM : Sub 8 m) {a0 : Nat} {s : Block} (h : Kept m s0 s) :
    Kept m s0 (seamFreshEnd a0 s) := by
  unfold seamFreshEnd
  repeat' (first
    | with_reducible assumption
    | (extract_lets +onlyGivenNames r; have hr : Kept m s0 r := ?_; clear_value r; rotate_left; subst r; rotate_right)
    | with_reducible refine Block_put_kept (hM.of rfl) ?_)

theorem seamFresh_kept (hM : Sub 136 m) {a0 : Nat} {s : Block} (h : Kept m s0 s) :
    Kept m s0 (seamFresh a0 s) := by
  unfold seamFresh
  repeat' (first
    | with_reducible assumption
    | intro _
    | (extract_lets +onlyGivenNames r; have hr : Kept m s0 r := ?_; clear_value r; rotate_left; subst r; rotate_right)
    | (extract_lets +onlyGivenNames r; clear_value r)
    | with_reducible refine forEach_kept (hM.of rfl) ?_ ?_
    | with_reducible refine seamFreshEnd_kept (hM.of rfl) ?_
    | with_reducible refine Kept.upd ?_ (h_seam := .inr (hM.of rfl)))

theorem seamDeskew_kept (hM : Sub 25165960 m) {a0 : List Nat} {a1 : List SeamFault} {s : Block} (h : Kept m s0 s) :
    Kept m s0 (seamDeskew a0 a1 s) := by
  unfold seamDeskew
  repeat' (first
    | with_reducible assumption
    | intro _
    | (extract_lets +onlyGivenNames r; have hr : Kept m s0 r := ?_; clear_value r; rotate_left; subst r; rotate_right)
    | (extract_lets +onlyGivenNames r; clear_value r)
    | with_reducible refine Kept.foldl ?_ ?_
    | with_reducible refine forEach_kept (hM.of rfl) ?_ ?_
    | with_reducible refine seamFresh_kept (hM.of rfl) ?_
    | with_reducible refine deskewGroup_kept (hM.of rfl) ?_)

theorem seamFirstSet_kept (hM : Sub 25165960 m) {a0 a1 : Nat} {a2 : List SeamFault} {s : Block} (h : Kept m s0 s) :
    Kept m s0 (seamFirstSet a0 a1 a2 s) := by
  unfold seamFirstSet
  repeat' (first
    | with_reducible assumption
    | (extract_lets +onlyGivenNames r; have hr : Kept m s0 r := ?_; clear_value r; rotate_left; subst r; rotate_right)
    | (extract_lets +onlyGivenNames r; clear_value r)
    | with_reducible refine seamFreshEnd_kept (hM.of rfl) ?_
    | with_reducible refine deskewGroup_kept (hM.of rfl) ?_
    | with_reducible refine Kept.upd ?_ (h_seam := .inr (hM.of rfl)))

theorem execSeamMarginLoss_ran (hM : Sub 25165960 m) (a0 : Fin 4) (a1 : Fin 768) (a2 : Fin 34) (a3 : BitVec 6) (s : State) : Ran m s (execSeamMarginLoss a0 a1 a2 a3 s) := by
  unfold execSeamMarginLoss
  refine clocked_ran (fun s0 s h => ?_) s
  repeat' (first
    | with_reducible assumption
    | with_reducible refine seamMarginLossStep_kept (hM.of rfl) ?_)

theorem execSeamParityFail_ran (hM : Sub 25165960 m) (a0 : Fin 4) (a1 : Fin 768) (a2 : Fin 34) (s : State) : Ran m s (execSeamParityFail a0 a1 a2 s) := by
  unfold execSeamParityFail
  refine clocked_ran (fun s0 s h => ?_) s
  repeat' (first
    | with_reducible assumption
    | with_reducible refine seamParityFailStep_kept (hM.of rfl) ?_)

/-! ### FabricRam -/

theorem setRam_kept (hM : Sub 256 m) {s : Block} {k i : Nat} {r : Ram} (h : Kept m s0 s)
    (hr : BlockWf s = true → spWf (fun _ => (0 : BitVec 72)) r.words = true) : Kept m s0 (setRam s k i r) := by
  unfold setRam
  refine h.trans ⟨fun p hp => ?_, fun w => ?_, .inl⟩
  · cases p <;> first | rfl | (have y := Sub.one (i := 8) hM; rw [show Nat.testBit m 8 = false from hp] at y; cases y)
  · have z := hr w
    have e : Kept (2 ^ 31 - 1) s { s with rams := spSet (fun _ => Ram.cleared) s.rams (ramKey k i) r } :=
      Kept.on_rams (Kept.refl _ s) rfl (fun w => ⟨spWf_spSet _ _ _ _ w.1, all_spSet _ _ _ _ (fun r : Ram => spWf (fun _ => (0 : BitVec 72)) r.words) z w.2⟩)
    exact e.2.1 w

theorem getRam_words {s : Block} (k i : Nat) (w : BlockWf s = true) : spWf (fun _ => (0 : BitVec 72)) (getRam s k i).words = true := by
  simp only [BlockWf, Bool.and_eq_true] at w
  exact all_spGet _ _ _ (fun r : Ram => spWf (fun _ => (0 : BitVec 72)) r.words) rfl w.1.1.1.1.1.1.1.2

theorem writeWord72_kept (hM : Sub 256 m) {a0 a1 a2 a3 : Nat} {s : Block} (h : Kept m s0 s) :
    Kept m s0 (writeWord72 a0 a1 a2 a3 s) := by
  unfold writeWord72
  repeat' (first
    | with_reducible assumption
    | (extract_lets +onlyGivenNames r; have hr : Ram := r; subst r)
    | (extract_lets +onlyGivenNames r; clear_value r)
    | ((with_reducible refine setRam_kept (hM.of rfl) ?_ ?_); rotate_left; first | exact fun _ => rfl | exact fun _ => ramWords_wf _ | exact fun w => getRam_words _ _ w | exact fun w => spWf_spSet _ _ _ _ (getRam_words _ _ w)))

theorem writeW_kept (hM : Sub 256 m) {a0 a1 a2 a3 a4 : Nat} {s : Block} (h : Kept m s0 s) :
    Kept m s0 (writeW a0 a1 a2 a3 a4 s) := by
  unfold writeW
  repeat' (first
    | with_reducible assumption
    | (extract_lets +onlyGivenNames r; clear_value r)
    | with_reducible refine writeWord72_kept (hM.of rfl) ?_)

theorem setMark_kept (hM : Sub 256 m) {a0 a1 a2 a3 : Nat} {s : Block} (h : Kept m s0 s) :
    Kept m s0 (setMark a0 a1 a2 a3 s) := by
  unfold setMark
  repeat' (first
    | with_reducible assumption
    | (extract_lets +onlyGivenNames r; have hr : Ram := r; subst r)
    | (extract_lets +onlyGivenNames r; clear_value r)
    | ((with_reducible refine setRam_kept (hM.of rfl) ?_ ?_); rotate_left; first | exact fun _ => rfl | exact fun _ => ramWords_wf _ | exact fun w => getRam_words _ _ w | exact fun w => spWf_spSet _ _ _ _ (getRam_words _ _ w)))

theorem applyUpset_kept (hM : Sub 258 m) {a0 a1 a2 a3 : Nat} {s : Block} (h : Kept m s0 s) :
    Kept m s0 (applyUpset a0 a1 a2 a3 s) := by
  unfold applyUpset
  repeat' (first
    | with_reducible assumption
    | (extract_lets +onlyGivenNames r; have hr : Kept m s0 r := ?_; clear_value r; rotate_left; subst r; rotate_right)
    | (extract_lets +onlyGivenNames r; have hr : Kept m s0 r.2 := ?_; clear_value r; rotate_left; subst r; rotate_right)
    | with_reducible refine Kept.ite ?_ ?_
    | with_reducible refine setMark_kept (hM.of rfl) ?_
    | with_reducible refine Block_draw_kept (hM.of rfl) ?_
    | with_reducible refine writeWord72_kept (hM.of rfl) ?_)

theorem framReport_kept (hM : Sub 16777736 m) {a0 a1 a2 : Nat} {a3 a4 : Bool} {s : Block} (h : Kept m s0 s) :
    Kept m s0 (framReport a0 a1 a2 a3 a4 s) := by
  unfold framReport
  repeat' (first
    | with_reducible assumption
    | intro _
    | (extract_lets +onlyGivenNames r; have hr : Kept m s0 r := ?_; clear_value r; rotate_left; subst r; rotate_right)
    | (extract_lets +onlyGivenNames r; clear_value r)
    | with_reducible refine Kept.ite ?_ ?_
    | with_reducible refine Block_bump_kept (hM.of rfl) ?_
    | with_reducible refine Block_eicEdge_kept (hM.of rfl) ?_
    | with_reducible refine Block_logWrite_kept (hM.of rfl) ?_
    | with_reducible refine when_kept (hM.of rfl) ?_ ?_
    | with_reducible refine Block_raise_kept (hM.of rfl) ?_)

theorem dropScrub_kept (hM : Sub 256 m) {a0 a1 a2 : Nat} {s : Block} (h : Kept m s0 s) :
    Kept m s0 (dropScrub a0 a1 a2 s) := by
  unfold dropScrub
  repeat' (first
    | with_reducible assumption
    | (extract_lets +onlyGivenNames r; have hr : Ram := r; subst r)
    | (extract_lets +onlyGivenNames r; clear_value r)
    | with_reducible refine Kept.ite ?_ ?_
    | ((with_reducible refine setRam_kept (hM.of rfl) ?_ ?_); rotate_left; first | exact fun _ => rfl | exact fun _ => ramWords_wf _ | exact fun w => getRam_words _ _ w | exact fun w => spWf_spSet _ _ _ _ (getRam_words _ _ w)))

theorem portWrite_kept (hM : Sub 256 m) {a0 a1 : Nat} {a2 : Bool} {a3 : RamReq} {s : Block} (h : Kept m s0 s) :
    Kept m s0 (portWrite a0 a1 a2 a3 s) := by
  unfold portWrite
  repeat' (first
    | with_reducible assumption
    | intro _
    | (extract_lets +onlyGivenNames r; have hr : Kept m s0 r := ?_; clear_value r; rotate_left; subst r; rotate_right)
    | (extract_lets +onlyGivenNames r; clear_value r)
    | with_reducible refine Kept.ite ?_ ?_
    | with_reducible refine writeW_kept (hM.of rfl) ?_
    | with_reducible refine dropScrub_kept (hM.of rfl) ?_
    | with_reducible refine when_kept (hM.of rfl) ?_ ?_
    | with_reducible refine setMark_kept (hM.of rfl) ?_
    | split)

theorem setStages_kept (hM : Sub 256 m) {a0 a1 : Nat} {a2 : Bool} {a3 : RamStages → RamStages} {s : Block} (h : Kept m s0 s) :
    Kept m s0 (setStages a0 a1 a2 a3 s) := by
  unfold setStages
  repeat' (first
    | with_reducible assumption
    | (extract_lets +onlyGivenNames r; have hr : Ram := r; subst r)
    | ((with_reducible refine setRam_kept (hM.of rfl) ?_ ?_); rotate_left; first | exact fun _ => rfl | exact fun _ => ramWords_wf _ | exact fun w => getRam_words _ _ w | exact fun w => spWf_spSet _ _ _ _ (getRam_words _ _ w))
    | split)

theorem stageEdge_kept (hM : Sub 256 m) {a0 a1 : Nat} {a2 a3 a4 : Bool} {s : Block} (h : Kept m s0 s) :
    Kept m s0 (stageEdge a0 a1 a2 a3 a4 s) := by
  unfold stageEdge
  repeat' (first
    | with_reducible assumption
    | (extract_lets +onlyGivenNames r; clear_value r)
    | with_reducible refine setStages_kept (hM.of rfl) ?_)

theorem setLatch_kept (hM : Sub 256 m) {a0 a1 : Nat} {a2 : Bool} {a3 : RamOut} {s : Block} (h : Kept m s0 s) :
    Kept m s0 (setLatch a0 a1 a2 a3 s) := by
  unfold setLatch
  repeat' (first
    | with_reducible assumption
    | with_reducible refine setStages_kept (hM.of rfl) ?_)

theorem portRead_kept (hM : Sub 16777994 m) {a0 a1 : Nat} {a2 : Bool} {a3 : RamReq} {a4 : Nat} {s : Block} (h : Kept m s0 s) :
    Kept m s0 (portRead a0 a1 a2 a3 a4 s) := by
  unfold portRead
  repeat' (first
    | with_reducible assumption
    | intro _
    | (extract_lets +onlyGivenNames r; have hr : Kept m s0 r := ?_; clear_value r; rotate_left; subst r; rotate_right)
    | (extract_lets +onlyGivenNames r; clear_value r)
    | with_reducible refine Kept.ite ?_ ?_
    | with_reducible refine setLatch_kept (hM.of rfl) ?_
    | with_reducible refine applyUpset_kept (hM.of rfl) ?_
    | with_reducible refine when_kept (hM.of rfl) ?_ ?_
    | with_reducible refine framReport_kept (hM.of rfl) ?_
    | split)

theorem writeDout_kept (hM : Sub 256 m) {a0 a1 : Nat} {a2 : Bool} {a3 a4 : Nat} {s : Block} (h : Kept m s0 s) :
    Kept m s0 (writeDout a0 a1 a2 a3 a4 s) := by
  unfold writeDout
  repeat' (first
    | with_reducible assumption
    | with_reducible refine setLatch_kept (hM.of rfl) ?_
    | split)

theorem portCycle_kept (hM : Sub 16777994 m) {a0 a1 : Nat} {a2 : Bool} {a3 : RamReq} {a4 : Nat} {s : Block} (h : Kept m s0 s) :
    Kept m s0 (portCycle a0 a1 a2 a3 a4 s) := by
  unfold portCycle
  repeat' (first
    | with_reducible assumption
    | intro _
    | (extract_lets +onlyGivenNames r; have hr : Kept m s0 r := ?_; clear_value r; rotate_left; subst r; rotate_right)
    | (extract_lets +onlyGivenNames r; clear_value r)
    | with_reducible refine Kept.ite ?_ ?_
    | with_reducible refine portWrite_kept (hM.of rfl) ?_
    | with_reducible refine when_kept (hM.of rfl) ?_ ?_
    | with_reducible refine writeDout_kept (hM.of rfl) ?_
    | with_reducible refine portRead_kept (hM.of rfl) ?_)

theorem collidedRead_kept (hM : Sub 16777482 m) {a0 a1 : Nat} {a2 : Bool} {a3 a4 : Nat} {s : Block} (h : Kept m s0 s) :
    Kept m s0 (collidedRead a0 a1 a2 a3 a4 s) := by
  unfold collidedRead
  repeat' (first
    | with_reducible assumption
    | (extract_lets +onlyGivenNames r; have hr : Kept m s0 r.2 := ?_; clear_value r; rotate_left; subst r; rotate_right)
    | (extract_lets +onlyGivenNames r; clear_value r)
    | with_reducible refine Block_draw_kept (hM.of rfl) ?_
    | with_reducible refine Block_bump_kept (hM.of rfl) ?_
    | with_reducible refine setLatch_kept (hM.of rfl) ?_)

theorem bothSync_kept (hM : Sub 16777994 m) {a0 a1 : Nat} {a2 : RamReq} {a3 : RamReq} {a4 : Nat} {s : Block} (h : Kept m s0 s) :
    Kept m s0 (bothSync a0 a1 a2 a3 a4 s) := by
  unfold bothSync
  repeat' (first
    | with_reducible assumption
    | intro _
    | (extract_lets +onlyGivenNames r; have hr : Kept m s0 r := ?_; clear_value r; rotate_left; subst r; rotate_right)
    | (extract_lets +onlyGivenNames r; clear_value r)
    | with_reducible refine when_kept (hM.of rfl) ?_ ?_
    | with_reducible refine portRead_kept (hM.of rfl) ?_
    | with_reducible refine portWrite_kept (hM.of rfl) ?_
    | with_reducible refine writeDout_kept (hM.of rfl) ?_)

theorem bothNear_kept (hM : Sub 16777482 m) {a0 a1 : Nat} {a2 : RamReq} {a3 : RamReq} {s : Block} (h : Kept m s0 s) :
    Kept m s0 (bothNear a0 a1 a2 a3 s) := by
  unfold bothNear
  repeat' (first
    | with_reducible assumption
    | intro _
    | (extract_lets +onlyGivenNames r; have hr : Kept m s0 r := ?_; clear_value r; rotate_left; subst r; rotate_right)
    | (extract_lets +onlyGivenNames r; have hr : Kept m s0 r.2 := ?_; clear_value r; rotate_left; subst r; rotate_right)
    | (extract_lets +onlyGivenNames r; clear_value r)
    | with_reducible refine Kept.ite ?_ ?_
    | with_reducible refine Block_draw_kept (hM.of rfl) ?_
    | with_reducible refine portWrite_kept (hM.of rfl) ?_
    | with_reducible refine when_kept (hM.of rfl) ?_ ?_
    | with_reducible refine writeDout_kept (hM.of rfl) ?_
    | with_reducible refine collidedRead_kept (hM.of rfl) ?_)

theorem arrayCycle_kept (hM : Sub 16777994 m) {a0 a1 : Nat} {a2 : Option RamReq} {a3 : Option RamReq} {a4 a5 : Bool} {a6 : Nat} {s : Block} (h : Kept m s0 s) :
    Kept m s0 (arrayCycle a0 a1 a2 a3 a4 a5 a6 s) := by
  unfold arrayCycle
  repeat' (first
    | with_reducible assumption
    | (extract_lets +onlyGivenNames r; clear_value r)
    | with_reducible refine Kept.ite ?_ ?_
    | with_reducible refine portCycle_kept (hM.of rfl) ?_
    | with_reducible refine bothSync_kept (hM.of rfl) ?_
    | with_reducible refine bothNear_kept (hM.of rfl) ?_
    | split)

theorem ramPortAccessStep_kept (hM : Sub 16777994 m) {a0 a1 : Nat} {a2 : Option RamReq} {a3 : Option RamReq} {a4 a5 : Bool} {a6 : Nat} {s : Block} (h : Kept m s0 s) :
    Kept m s0 (ramPortAccessStep a0 a1 a2 a3 a4 a5 a6 s) := by
  unfold ramPortAccessStep
  repeat' (first
    | with_reducible assumption
    | (extract_lets +onlyGivenNames r; have hr : Kept m s0 r := ?_; clear_value r; rotate_left; subst r; rotate_right)
    | (extract_lets +onlyGivenNames r; have hr := fun x => r x; subst r)
    | (extract_lets +onlyGivenNames r; clear_value r)
    | with_reducible refine Kept.ite ?_ ?_
    | with_reducible refine stageEdge_kept (hM.of rfl) ?_
    | with_reducible refine arrayCycle_kept (hM.of rfl) ?_
    | split
    | dsimp only)

theorem queuePresent_kept (hM : Sub 16777994 m) {a0 a1 a2 : Nat} {s : Block} (h : Kept m s0 s) :
    Kept m s0 (queuePresent a0 a1 a2 s) := by
  unfold queuePresent
  repeat' (first
    | with_reducible assumption
    | intro _
    | (extract_lets +onlyGivenNames r; have hr : Kept m s0 r := ?_; clear_value r; rotate_left; subst r; rotate_right)
    | (extract_lets +onlyGivenNames r; clear_value r)
    | with_reducible refine Kept.ite ?_ ?_
    | with_reducible refine applyUpset_kept (hM.of rfl) ?_
    | with_reducible refine when_kept (hM.of rfl) ?_ ?_
    | with_reducible refine framReport_kept (hM.of rfl) ?_
    | with_reducible refine setLatch_kept (hM.of rfl) ?_)

theorem queuePush_kept (hM : Sub 16777994 m) {a0 a1 : Nat} {a2 : BitVec 72} {a3 : BitVec 8} {s : Block} (h : Kept m s0 s) :
    Kept m s0 (queuePush a0 a1 a2 a3 s) := by
  unfold queuePush
  repeat' (first
    | with_reducible assumption
    | intro _
    | (extract_lets +onlyGivenNames r; have hr : Kept m s0 r := ?_; clear_value r; rotate_left; subst r; rotate_right)
    | (extract_lets +onlyGivenNames r; have hr : Ram := r; subst r)
    | (extract_lets +onlyGivenNames r; clear_value r)
    | with_reducible refine writeW_kept (hM.of rfl) ?_
    | with_reducible refine dropScrub_kept (hM.of rfl) ?_
    | with_reducible refine when_kept (hM.of rfl) ?_ ?_
    | with_reducible refine setMark_kept (hM.of rfl) ?_
    | ((with_reducible refine setRam_kept (hM.of rfl) ?_ ?_); rotate_left; first | exact fun _ => rfl | exact fun _ => ramWords_wf _ | exact fun w => getRam_words _ _ w | exact fun w => spWf_spSet _ _ _ _ (getRam_words _ _ w))
    | with_reducible refine queuePresent_kept (hM.of rfl) ?_)

theorem tankQueueWriteStep_kept (hM : Sub 16777994 m) {a0 a1 : Nat} {a2 : BitVec 72} {a3 : BitVec 8} {s : Block} (h : Kept m s0 s) :
    Kept m s0 (tankQueueWriteStep a0 a1 a2 a3 s) := by
  unfold tankQueueWriteStep
  repeat' (first
    | with_reducible assumption
    | (extract_lets +onlyGivenNames r; have hr : Ram := r; subst r)
    | (extract_lets +onlyGivenNames r; clear_value r)
    | with_reducible refine Kept.ite ?_ ?_
    | ((with_reducible refine setRam_kept (hM.of rfl) ?_ ?_); rotate_left; first | exact fun _ => rfl | exact fun _ => ramWords_wf _ | exact fun w => getRam_words _ _ w | exact fun w => spWf_spSet _ _ _ _ (getRam_words _ _ w))
    | with_reducible refine queuePush_kept (hM.of rfl) ?_)

theorem queuePop_kept (hM : Sub 16777994 m) {a0 a1 a2 : Nat} {s : Block} (h : Kept m s0 s) :
    Kept m s0 (queuePop a0 a1 a2 s) := by
  unfold queuePop
  repeat' (first
    | with_reducible assumption
    | (extract_lets +onlyGivenNames r; have hr : Ram := r; subst r)
    | with_reducible refine Kept.ite ?_ ?_
    | ((with_reducible refine setRam_kept (hM.of rfl) ?_ ?_); rotate_left; first | exact fun _ => rfl | exact fun _ => ramWords_wf _ | exact fun w => getRam_words _ _ w | exact fun w => spWf_spSet _ _ _ _ (getRam_words _ _ w))
    | with_reducible refine queuePresent_kept (hM.of rfl) ?_)

theorem tankQueueReadStep_kept (hM : Sub 16777994 m) {a0 a1 : Nat} {a2 a3 : Bool} {a4 : Nat} {s : Block} (h : Kept m s0 s) :
    Kept m s0 (tankQueueReadStep a0 a1 a2 a3 a4 s) := by
  unfold tankQueueReadStep
  repeat' (first
    | with_reducible assumption
    | intro _
    | (extract_lets +onlyGivenNames r; have hr : Kept m s0 r := ?_; clear_value r; rotate_left; subst r; rotate_right)
    | (extract_lets +onlyGivenNames r; have hr : Ram := r; subst r)
    | (extract_lets +onlyGivenNames r; clear_value r)
    | with_reducible refine Kept.ite ?_ ?_
    | with_reducible refine queuePop_kept (hM.of rfl) ?_
    | with_reducible refine stageEdge_kept (hM.of rfl) ?_
    | with_reducible refine when_kept (hM.of rfl) ?_ ?_
    | ((with_reducible refine setRam_kept (hM.of rfl) ?_ ?_); rotate_left; first | exact fun _ => rfl | exact fun _ => ramWords_wf _ | exact fun w => getRam_words _ _ w | exact fun w => spWf_spSet _ _ _ _ (getRam_words _ _ w)))

theorem scrubBlock_kept (hM : Sub 16777994 m) {a0 a1 a2 : Nat} {s : Block} (h : Kept m s0 s) :
    Kept m s0 (scrubBlock a0 a1 a2 s) := by
  unfold scrubBlock
  repeat' (first
    | with_reducible assumption
    | (extract_lets +onlyGivenNames r; have hr : Kept m s0 r := ?_; clear_value r; rotate_left; subst r; rotate_right)
    | (extract_lets +onlyGivenNames r; have hr : Ram := r; subst r)
    | (extract_lets +onlyGivenNames r; clear_value r)
    | with_reducible refine Kept.ite ?_ ?_
    | ((with_reducible refine setRam_kept (hM.of rfl) ?_ ?_); rotate_left; first | exact fun _ => rfl | exact fun _ => ramWords_wf _ | exact fun w => getRam_words _ _ w | exact fun w => spWf_spSet _ _ _ _ (getRam_words _ _ w))
    | with_reducible refine applyUpset_kept (hM.of rfl) ?_
    | with_reducible refine framReport_kept (hM.of rfl) ?_)

theorem userRamScrubReadStep_kept (hM : Sub 16777994 m) {a0 a1 a2 a3 : Nat} {s : Block} (h : Kept m s0 s) :
    Kept m s0 (userRamScrubReadStep a0 a1 a2 a3 s) := by
  unfold userRamScrubReadStep
  repeat' (first
    | with_reducible assumption
    | intro _
    | (extract_lets +onlyGivenNames r; have hr : Kept m s0 r := ?_; clear_value r; rotate_left; subst r; rotate_right)
    | (extract_lets +onlyGivenNames r; clear_value r)
    | with_reducible refine Kept.ite ?_ ?_
    | with_reducible refine forEach_kept (hM.of rfl) ?_ ?_
    | with_reducible refine scrubBlock_kept (hM.of rfl) ?_
    | ((with_reducible refine Kept.on_once ?_ (hM.of rfl) ?_); rotate_left; exact fun w => spWf_spSet _ _ _ _ w))

theorem userRamScrubWritebackStep_kept (hM : Sub 256 m) {a0 a1 : Nat} {s : Block} (h : Kept m s0 s) :
    Kept m s0 (userRamScrubWritebackStep a0 a1 s) := by
  unfold userRamScrubWritebackStep
  repeat' (first
    | with_reducible assumption
    | (extract_lets +onlyGivenNames r; have hr : Ram := r; subst r)
    | with_reducible refine Kept.ite ?_ ?_
    | ((with_reducible refine setRam_kept (hM.of rfl) ?_ ?_); rotate_left; first | exact fun _ => rfl | exact fun _ => ramWords_wf _ | exact fun w => getRam_words _ _ w | exact fun w => spWf_spSet _ _ _ _ (getRam_words _ _ w))
    | split)

theorem scrubStarvedStep_kept (hM : Sub 16777736 m) {a0 a1 : Nat} {s : Block} (h : Kept m s0 s) :
    Kept m s0 (scrubStarvedStep a0 a1 s) := by
  unfold scrubStarvedStep
  repeat' (first
    | with_reducible assumption
    | (extract_lets +onlyGivenNames r; have hr : Kept m s0 r := ?_; clear_value r; rotate_left; subst r; rotate_right)
    | (extract_lets +onlyGivenNames r; clear_value r)
    | with_reducible refine Kept.ite ?_ ?_
    | with_reducible refine Block_eicEdge_kept (hM.of rfl) ?_
    | with_reducible refine Block_raise_kept (hM.of rfl) ?_
    | ((with_reducible refine Kept.on_once ?_ (hM.of rfl) ?_); rotate_left; exact fun w => spWf_spSet _ _ _ _ w))

theorem ramHold_kept (hM : Sub 256 m) {a0 a1 : Nat} {s : Block} (h : Kept m s0 s) :
    Kept m s0 (ramHold a0 a1 s) := by
  unfold ramHold
  repeat' (first
    | with_reducible assumption
    | (extract_lets +onlyGivenNames r; have hr : Ram := r; subst r)
    | (extract_lets +onlyGivenNames r; clear_value r)
    | ((with_reducible refine setRam_kept (hM.of rfl) ?_ ?_); rotate_left; first | exact fun _ => rfl | exact fun _ => ramWords_wf _ | exact fun w => getRam_words _ _ w | exact fun w => spWf_spSet _ _ _ _ (getRam_words _ _ w)))

theorem ramRegionReset_kept (hM : Sub 256 m) {a0 a1 : Nat} {s : Block} (h : Kept m s0 s) :
    Kept m s0 (ramRegionReset a0 a1 s) := by
  unfold ramRegionReset
  repeat' (first
    | with_reducible assumption
    | (extract_lets +onlyGivenNames r; have hr : Ram := r; subst r)
    | ((with_reducible refine setRam_kept (hM.of rfl) ?_ ?_); rotate_left; first | exact fun _ => rfl | exact fun _ => ramWords_wf _ | exact fun w => getRam_words _ _ w | exact fun w => spWf_spSet _ _ _ _ (getRam_words _ _ w)))

theorem eachRam_kept (hM : Sub 0 m) {a0 : Nat} {a1 : Nat → Nat → Block → Block} {s : Block} (h1 : ∀ x0 x1 s, Kept m s0 s → Kept m s0 (a1 x0 x1 s)) (h : Kept m s0 s) :
    Kept m s0 (eachRam a0 a1 s) := by
  unfold eachRam
  repeat' (first
    | with_reducible assumption
    | intro _
    | with_reducible refine h1 _ _ _ ?_
    | with_reducible refine forEach_kept (hM.of rfl) ?_ ?_)

theorem clearStarved_kept (hM : Sub 512 m) {a0 : Nat} {s : Block} (h : Kept m s0 s) :
    Kept m s0 (clearStarved a0 s) := by
  unfold clearStarved
  repeat' (first
    | with_reducible assumption
    | ((with_reducible refine Kept.on_once ?_ (hM.of rfl) ?_); rotate_left; exact fun w => spWf_spClear _ _ _ w))

theorem execRamPortAccess_ran (hM : Sub 16777994 m) (a0 : Fin 320) (a1 : Fin 68) (a2 : Option RamReq) (a3 : Option RamReq) (a4 : Bool) (a5 : Bool) (a6 : Fin 3) (s : State) : Ran m s (execRamPortAccess a0 a1 a2 a3 a4 a5 a6 s) := by
  unfold execRamPortAccess
  refine clockedOn_ran (fun s0 s h => ?_) s
  repeat' (first
    | with_reducible assumption
    | with_reducible refine ramPortAccessStep_kept (hM.of rfl) ?_)

theorem execTankQueueWrite_ran (hM : Sub 16777994 m) (a0 : Fin 320) (a1 : Fin 8) (a2 : BitVec 72) (a3 : BitVec 8) (s : State) : Ran m s (execTankQueueWrite a0 a1 a2 a3 s) := by
  unfold execTankQueueWrite
  refine clockedOn_ran (fun s0 s h => ?_) s
  repeat' (first
    | with_reducible assumption
    | with_reducible refine tankQueueWriteStep_kept (hM.of rfl) ?_)

theorem execTankQueueRead_ran (hM : Sub 16777994 m) (a0 : Fin 320) (a1 : Fin 8) (a2 : Bool) (a3 : Bool) (a4 : Fin 3) (s : State) : Ran m s (execTankQueueRead a0 a1 a2 a3 a4 s) := by
  unfold execTankQueueRead
  refine clockedOn_ran (fun s0 s h => ?_) s
  repeat' (first
    | with_reducible assumption
    | with_reducible refine tankQueueReadStep_kept (hM.of rfl) ?_)

theorem execUserRamScrubRead_ran (hM : Sub 16777994 m) (a0 : Fin 320) (a1 : Fin 68) (a2 : Fin 4) (a3 : Fin 3) (s : State) : Ran m s (execUserRamScrubRead a0 a1 a2 a3 s) := by
  unfold execUserRamScrubRead
  refine clockedOn_ran (fun s0 s h => ?_) s
  repeat' (first
    | with_reducible assumption
    | with_reducible refine userRamScrubReadStep_kept (hM.of rfl) ?_)

theorem execUserRamScrubWriteback_ran (hM : Sub 256 m) (a0 : Fin 320) (a1 : Fin 68) (s : State) : Ran m s (execUserRamScrubWriteback a0 a1 s) := by
  unfold execUserRamScrubWriteback
  refine clockedOn_ran (fun s0 s h => ?_) s
  repeat' (first
    | with_reducible assumption
    | with_reducible refine userRamScrubWritebackStep_kept (hM.of rfl) ?_)

theorem execScrubStarved_ran (hM : Sub 16777736 m) (a0 : Fin 320) (a1 : Fin 68) (s : State) : Ran m s (execScrubStarved a0 a1 s) := by
  unfold execScrubStarved
  refine clockedOn_ran (fun s0 s h => ?_) s
  repeat' (first
    | with_reducible assumption
    | with_reducible refine scrubStarvedStep_kept (hM.of rfl) ?_)

/-! ### Engine -/

theorem setEng_kept (hM : Sub 1024 m) {a1 : Nat} {a2 : Engine} {s : Block} (h : Kept m s0 s) :
    Kept m s0 (setEng s a1 a2) := by
  unfold setEng
  repeat' (first
    | with_reducible assumption
    | ((with_reducible refine Kept.on_engines ?_ (hM.of rfl) ?_); rotate_left; exact fun w => spWf_spSet _ _ _ _ w))

theorem engResetAt_kept (hM : Sub 1024 m) {a0 : Nat} {s : Block} (h : Kept m s0 s) :
    Kept m s0 (engResetAt a0 s) := by
  unfold engResetAt
  repeat' (first
    | with_reducible assumption
    | with_reducible refine setEng_kept (hM.of rfl) ?_)

theorem eachEngine_kept (hM : Sub 0 m) {a0 : Nat} {a1 : Nat → Block → Block} {s : Block} (h1 : ∀ x0 s, Kept m s0 s → Kept m s0 (a1 x0 s)) (h : Kept m s0 s) :
    Kept m s0 (eachEngine a0 a1 s) := by
  unfold eachEngine
  repeat' (first
    | with_reducible assumption
    | intro _
    | with_reducible refine h1 _ _ ?_
    | with_reducible refine forEach_kept (hM.of rfl) ?_ ?_)

theorem maceRaise_kept (hM : Sub 16777736 m) {a0 a1 a2 a3 : Nat} {s : Block} (h : Kept m s0 s) :
    Kept m s0 (maceRaise a0 a1 a2 a3 s) := by
  unfold maceRaise
  repeat' (first
    | with_reducible assumption
    | (extract_lets +onlyGivenNames r; have hr : Kept m s0 r := ?_; clear_value r; rotate_left; subst r; rotate_right)
    | (extract_lets +onlyGivenNames r; clear_value r)
    | with_reducible refine Block_logWrite_kept (hM.of rfl) ?_
    | with_reducible refine Block_eicEdge_kept (hM.of rfl) ?_
    | with_reducible refine Block_raise_kept (hM.of rfl) ?_)

theorem maceReport_kept (hM : Sub 16777736 m) {a0 : Bool} {a1 a2 a3 : Nat} {s : Block} (h : Kept m s0 s) :
    Kept m s0 (maceReport a0 a1 a2 a3 s) := by
  unfold maceReport
  repeat' (first
    | with_reducible assumption
    | intro _
    | (extract_lets +onlyGivenNames r; have hr : Kept m s0 r := ?_; clear_value r; rotate_left; subst r; rotate_right)
    | (extract_lets +onlyGivenNames r; clear_value r)
    | with_reducible refine Block_bump_kept (hM.of rfl) ?_
    | with_reducible refine when_kept (hM.of rfl) ?_ ?_
    | with_reducible refine maceRaise_kept (hM.of rfl) ?_)

theorem illegalStop_kept (hM : Sub 16778760 m) {a0 : Nat} {s : Block} (h : Kept m s0 s) :
    Kept m s0 (illegalStop a0 s) := by
  unfold illegalStop
  repeat' (first
    | with_reducible assumption
    | (extract_lets +onlyGivenNames r; have hr : Kept m s0 r := ?_; clear_value r; rotate_left; subst r; rotate_right)
    | (extract_lets +onlyGivenNames r; clear_value r)
    | with_reducible refine setEng_kept (hM.of rfl) ?_
    | with_reducible refine maceRaise_kept (hM.of rfl) ?_)

theorem engStall_kept (hM : Sub 1024 m) {a0 : Nat} {s : Block} (h : Kept m s0 s) :
    Kept m s0 (engStall a0 s) := by
  unfold engStall
  repeat' (first
    | with_reducible assumption
    | (extract_lets +onlyGivenNames r; clear_value r)
    | with_reducible refine setEng_kept (hM.of rfl) ?_)

theorem engExec_kept (hM : Sub 16778760 m) {a0 a1 : Nat} {a2 : Nat → Block → Block} {s : Block} (h2 : ∀ x0 s, Kept m s0 s → Kept m s0 (a2 x0 s)) (h : Kept m s0 s) :
    Kept m s0 (engExec a0 a1 a2 s) := by
  unfold engExec
  repeat' (first
    | with_reducible assumption
    | (extract_lets +onlyGivenNames r; have hr : Kept m s0 r := ?_; clear_value r; rotate_left; subst r; rotate_right)
    | (extract_lets +onlyGivenNames r; clear_value r)
    | with_reducible refine Kept.ite ?_ ?_
    | with_reducible refine h2 _ _ ?_
    | with_reducible refine setEng_kept (hM.of rfl) ?_
    | with_reducible refine illegalStop_kept (hM.of rfl) ?_)

theorem omRead_kept (hM : Sub 16778762 m) {a0 : Bool} {a1 a2 : Nat} {s : Block} (h : Kept m s0 s) :
    Kept m s0 (omRead a0 a1 a2 s).2 := by
  unfold omRead
  repeat' (first
    | with_reducible assumption
    | intro _
    | (extract_lets +onlyGivenNames r; have hr : Kept m s0 r := ?_; clear_value r; rotate_left; subst r; rotate_right)
    | (extract_lets +onlyGivenNames r; have hr : Kept m s0 r.2 := ?_; clear_value r; rotate_left; subst r; rotate_right)
    | (extract_lets +onlyGivenNames r; clear_value r)
    | with_reducible refine Kept.ite ?_ ?_
    | with_reducible refine Block_draw_kept (hM.of rfl) ?_
    | with_reducible refine setEng_kept (hM.of rfl) ?_
    | with_reducible refine when_kept (hM.of rfl) ?_ ?_
    | with_reducible refine maceReport_kept (hM.of rfl) ?_)

theorem fetch_kept (hM : Sub 16778762 m) {a0 a1 a2 : Nat} {a3 : List Nat} {s : Block} (h : Kept m s0 s) :
    Kept m s0 (fetch a0 a1 a2 a3 s).2 := by
  unfold fetch
  repeat' (first
    | with_reducible assumption
    | (extract_lets +onlyGivenNames r; have hr : Kept m s0 r := ?_; clear_value r; rotate_left; subst r; rotate_right)
    | (extract_lets +onlyGivenNames r; have hr : Kept m s0 r.2 := ?_; clear_value r; rotate_left; subst r; rotate_right)
    | (extract_lets +onlyGivenNames r; clear_value r)
    | with_reducible refine Kept.ite2 ?_ ?_
    | with_reducible refine omRead_kept (hM.of rfl) ?_
    | with_reducible refine setEng_kept (hM.of rfl) ?_)

theorem engineMacStep_kept (hM : Sub 16778762 m) {a0 a1 a2 : Nat} {s : Block} (h : Kept m s0 s) :
    Kept m s0 (engineMacStep a0 a1 a2 s) := by
  unfold engineMacStep
  repeat' (first
    | with_reducible assumption
    | intro _
    | (extract_lets +onlyGivenNames r; have hr : Kept m s0 r.2 := ?_; clear_value r; rotate_left; subst r; rotate_right)
    | (extract_lets +onlyGivenNames r; clear_value r)
    | with_reducible refine Kept.ite ?_ ?_
    | with_reducible refine engExec_kept (hM.of rfl) ?_ ?_
    | with_reducible refine engStall_kept (hM.of rfl) ?_
    | with_reducible refine fetch_kept (hM.of rfl) ?_
    | with_reducible refine setEng_kept (hM.of rfl) ?_)

theorem engineNmacStep_kept (hM : Sub 16778762 m) {a0 a1 a2 : Nat} {s : Block} (h : Kept m s0 s) :
    Kept m s0 (engineNmacStep a0 a1 a2 s) := by
  unfold engineNmacStep
  repeat' (first
    | with_reducible assumption
    | intro _
    | (extract_lets +onlyGivenNames r; have hr : Kept m s0 r.2 := ?_; clear_value r; rotate_left; subst r; rotate_right)
    | (extract_lets +onlyGivenNames r; clear_value r)
    | with_reducible refine Kept.ite ?_ ?_
    | with_reducible refine engExec_kept (hM.of rfl) ?_ ?_
    | with_reducible refine engStall_kept (hM.of rfl) ?_
    | with_reducible refine fetch_kept (hM.of rfl) ?_
    | with_reducible refine setEng_kept (hM.of rfl) ?_)

theorem engineNormStep_kept (hM : Sub 16778760 m) {a0 : Nat} {s : Block} (h : Kept m s0 s) :
    Kept m s0 (engineNormStep a0 s) := by
  unfold engineNormStep
  repeat' (first
    | with_reducible assumption
    | intro _
    | (extract_lets +onlyGivenNames r; clear_value r)
    | with_reducible refine engExec_kept (hM.of rfl) ?_ ?_
    | with_reducible refine setEng_kept (hM.of rfl) ?_)

theorem engineAgsetStep_kept (hM : Sub 16778760 m) {a0 : Nat} {s : Block} (h : Kept m s0 s) :
    Kept m s0 (engineAgsetStep a0 s) := by
  unfold engineAgsetStep
  repeat' (first
    | with_reducible assumption
    | intro _
    | (extract_lets +onlyGivenNames r; clear_value r)
    | with_reducible refine engExec_kept (hM.of rfl) ?_ ?_
    | with_reducible refine setEng_kept (hM.of rfl) ?_)

theorem engineSetStep_kept (hM : Sub 16778762 m) {a0 a1 a2 : Nat} {s : Block} (h : Kept m s0 s) :
    Kept m s0 (engineSetStep a0 a1 a2 s) := by
  unfold engineSetStep
  repeat' (first
    | with_reducible assumption
    | intro _
    | (extract_lets +onlyGivenNames r; have hr : Kept m s0 r.2 := ?_; clear_value r; rotate_left; subst r; rotate_right)
    | (extract_lets +onlyGivenNames r; clear_value r)
    | with_reducible refine Kept.ite ?_ ?_
    | with_reducible refine engExec_kept (hM.of rfl) ?_ ?_
    | with_reducible refine engStall_kept (hM.of rfl) ?_
    | with_reducible refine fetch_kept (hM.of rfl) ?_
    | with_reducible refine setEng_kept (hM.of rfl) ?_)

theorem engineNopStep_kept (hM : Sub 16778760 m) {a0 : Nat} {s : Block} (h : Kept m s0 s) :
    Kept m s0 (engineNopStep a0 s) := by
  unfold engineNopStep
  repeat' (first
    | with_reducible assumption
    | intro _
    | with_reducible refine engExec_kept (hM.of rfl) ?_ ?_
    | with_reducible refine setEng_kept (hM.of rfl) ?_)

theorem engineRepStep_kept (hM : Sub 16778760 m) {a0 : Nat} {s : Block} (h : Kept m s0 s) :
    Kept m s0 (engineRepStep a0 s) := by
  unfold engineRepStep
  repeat' (first
    | with_reducible assumption
    | intro _
    | (extract_lets +onlyGivenNames r; clear_value r)
    | with_reducible refine engExec_kept (hM.of rfl) ?_ ?_
    | with_reducible refine setEng_kept (hM.of rfl) ?_)

theorem engineLoopStep_kept (hM : Sub 16778760 m) {a0 : Nat} {s : Block} (h : Kept m s0 s) :
    Kept m s0 (engineLoopStep a0 s) := by
  unfold engineLoopStep
  repeat' (first
    | with_reducible assumption
    | intro _
    | (extract_lets +onlyGivenNames r; clear_value r)
    | with_reducible refine engExec_kept (hM.of rfl) ?_ ?_
    | with_reducible refine setEng_kept (hM.of rfl) ?_)

theorem engineJmpStep_kept (hM : Sub 16778760 m) {a0 : Nat} {s : Block} (h : Kept m s0 s) :
    Kept m s0 (engineJmpStep a0 s) := by
  unfold engineJmpStep
  repeat' (first
    | with_reducible assumption
    | intro _
    | (extract_lets +onlyGivenNames r; clear_value r)
    | with_reducible refine engExec_kept (hM.of rfl) ?_ ?_
    | with_reducible refine setEng_kept (hM.of rfl) ?_)

theorem engineWaitStep_kept (hM : Sub 16778760 m) {a0 : Nat} {s : Block} (h : Kept m s0 s) :
    Kept m s0 (engineWaitStep a0 s) := by
  unfold engineWaitStep
  repeat' (first
    | with_reducible assumption
    | intro _
    | (extract_lets +onlyGivenNames r; clear_value r)
    | with_reducible refine Kept.ite ?_ ?_
    | with_reducible refine engExec_kept (hM.of rfl) ?_ ?_
    | with_reducible refine setEng_kept (hM.of rfl) ?_
    | with_reducible refine engStall_kept (hM.of rfl) ?_)

theorem engineSigStep_kept (hM : Sub 16778761 m) {a0 : Nat} {s : Block} (h : Kept m s0 s) :
    Kept m s0 (engineSigStep a0 s) := by
  unfold engineSigStep
  repeat' (first
    | with_reducible assumption
    | intro _
    | (extract_lets +onlyGivenNames r; have hr : Kept m s0 r := ?_; clear_value r; rotate_left; subst r; rotate_right)
    | (extract_lets +onlyGivenNames r; clear_value r)
    | with_reducible refine engExec_kept (hM.of rfl) ?_ ?_
    | with_reducible refine setEng_kept (hM.of rfl) ?_
    | with_reducible refine when_kept (hM.of rfl) ?_ ?_
    | with_reducible refine Block_emit_kept (hM.of rfl) ?_)

theorem engineStopStep_kept (hM : Sub 16778760 m) {a0 : Nat} {s : Block} (h : Kept m s0 s) :
    Kept m s0 (engineStopStep a0 s) := by
  unfold engineStopStep
  repeat' (first
    | with_reducible assumption
    | intro _
    | (extract_lets +onlyGivenNames r; clear_value r)
    | with_reducible refine engExec_kept (hM.of rfl) ?_ ?_
    | with_reducible refine setEng_kept (hM.of rfl) ?_)

theorem engineStopDrainedStep_kept (hM : Sub 1025 m) {a0 : Nat} {s : Block} (h : Kept m s0 s) :
    Kept m s0 (engineStopDrainedStep a0 s) := by
  unfold engineStopDrainedStep
  repeat' (first
    | with_reducible assumption
    | (extract_lets +onlyGivenNames r; clear_value r)
    | with_reducible refine Kept.ite ?_ ?_
    | with_reducible refine Block_emit_kept (hM.of rfl) ?_
    | with_reducible refine setEng_kept (hM.of rfl) ?_)

theorem engLevels_kept (hM : Sub 1024 m) {a0 : Nat} {a1 : Engine} {s : Block} (h : Kept m s0 s) :
    Kept m s0 (engLevels a0 a1 s) := by
  unfold engLevels
  repeat' (first
    | with_reducible assumption
    | with_reducible refine setEng_kept (hM.of rfl) ?_)

theorem engineStartStep_kept (hM : Sub 1024 m) {a0 : Nat} {s : Block} (h : Kept m s0 s) :
    Kept m s0 (engineStartStep a0 s) := by
  unfold engineStartStep
  repeat' (first
    | with_reducible assumption
    | (extract_lets +onlyGivenNames r; clear_value r)
    | with_reducible refine Kept.ite ?_ ?_
    | with_reducible refine engLevels_kept (hM.of rfl) ?_)

theorem engineHaltStep_kept (hM : Sub 1024 m) {a0 : Nat} {s : Block} (h : Kept m s0 s) :
    Kept m s0 (engineHaltStep a0 s) := by
  unfold engineHaltStep
  repeat' (first
    | with_reducible assumption
    | (extract_lets +onlyGivenNames r; clear_value r)
    | with_reducible refine engLevels_kept (hM.of rfl) ?_)

theorem engineHaltReleaseStep_kept (hM : Sub 1024 m) {a0 : Nat} {s : Block} (h : Kept m s0 s) :
    Kept m s0 (engineHaltReleaseStep a0 s) := by
  unfold engineHaltReleaseStep
  repeat' (first
    | with_reducible assumption
    | (extract_lets +onlyGivenNames r; clear_value r)
    | with_reducible refine engLevels_kept (hM.of rfl) ?_)

theorem engineResetStep_kept (hM : Sub 1024 m) {a0 : Nat} {a1 : Bool} {s : Block} (h : Kept m s0 s) :
    Kept m s0 (engineResetStep a0 a1 s) := by
  unfold engineResetStep
  repeat' (first
    | with_reducible assumption
    | intro _
    | (extract_lets +onlyGivenNames r; have hr : Kept m s0 r := ?_; clear_value r; rotate_left; subst r; rotate_right)
    | (extract_lets +onlyGivenNames r; clear_value r)
    | with_reducible refine when_kept (hM.of rfl) ?_ ?_
    | with_reducible refine engResetAt_kept (hM.of rfl) ?_
    | with_reducible refine setEng_kept (hM.of rfl) ?_)

theorem engineFifoWriteStep_kept (hM : Sub 1024 m) {a0 : Nat} {a1 : Bool} {a2 : BitVec 36} {s : Block} (h : Kept m s0 s) :
    Kept m s0 (engineFifoWriteStep a0 a1 a2 s) := by
  unfold engineFifoWriteStep
  repeat' (first
    | with_reducible assumption
    | (extract_lets +onlyGivenNames r; clear_value r)
    | with_reducible refine Kept.ite ?_ ?_
    | with_reducible refine setEng_kept (hM.of rfl) ?_)

theorem engineOqReadStep_kept (hM : Sub 1024 m) {a0 : Nat} {s : Block} (h : Kept m s0 s) :
    Kept m s0 (engineOqReadStep a0 s) := by
  unfold engineOqReadStep
  repeat' (first
    | with_reducible assumption
    | (extract_lets +onlyGivenNames r; clear_value r)
    | with_reducible refine Kept.ite ?_ ?_
    | with_reducible refine setEng_kept (hM.of rfl) ?_)

theorem engineGpiChangeStep_kept (hM : Sub 1024 m) {a0 : Nat} {a1 a2 : Bool} {s : Block} (h : Kept m s0 s) :
    Kept m s0 (engineGpiChangeStep a0 a1 a2 s) := by
  unfold engineGpiChangeStep
  repeat' (first
    | with_reducible assumption
    | (extract_lets +onlyGivenNames r; clear_value r)
    | with_reducible refine setEng_kept (hM.of rfl) ?_)

theorem execEngineMac_ran (hM : Sub 16778762 m) (a0 : Fin 15360) (a1 : Fin 3) (a2 : Fin 3) (s : State) : Ran m s (execEngineMac a0 a1 a2 s) := by
  unfold execEngineMac
  refine clockedOn_ran (fun s0 s h => ?_) s
  repeat' (first
    | with_reducible assumption
    | with_reducible refine engineMacStep_kept (hM.of rfl) ?_)

theorem execEngineNmac_ran (hM : Sub 16778762 m) (a0 : Fin 15360) (a1 : Fin 3) (a2 : Fin 3) (s : State) : Ran m s (execEngineNmac a0 a1 a2 s) := by
  unfold execEngineNmac
  refine clockedOn_ran (fun s0 s h => ?_) s
  repeat' (first
    | with_reducible assumption
    | with_reducible refine engineNmacStep_kept (hM.of rfl) ?_)

theorem execEngineNorm_ran (hM : Sub 16778760 m) (a0 : Fin 15360) (s : State) : Ran m s (execEngineNorm a0 s) := by
  unfold execEngineNorm
  refine clockedOn_ran (fun s0 s h => ?_) s
  repeat' (first
    | with_reducible assumption
    | with_reducible refine engineNormStep_kept (hM.of rfl) ?_)

theorem execEngineAgset_ran (hM : Sub 16778760 m) (a0 : Fin 15360) (s : State) : Ran m s (execEngineAgset a0 s) := by
  unfold execEngineAgset
  refine clockedOn_ran (fun s0 s h => ?_) s
  repeat' (first
    | with_reducible assumption
    | with_reducible refine engineAgsetStep_kept (hM.of rfl) ?_)

theorem execEngineSet_ran (hM : Sub 16778762 m) (a0 : Fin 15360) (a1 : Fin 3) (a2 : Fin 3) (s : State) : Ran m s (execEngineSet a0 a1 a2 s) := by
  unfold execEngineSet
  refine clockedOn_ran (fun s0 s h => ?_) s
  repeat' (first
    | with_reducible assumption
    | with_reducible refine engineSetStep_kept (hM.of rfl) ?_)

theorem execEngineNop_ran (hM : Sub 16778760 m) (a0 : Fin 15360) (s : State) : Ran m s (execEngineNop a0 s) := by
  unfold execEngineNop
  refine clockedOn_ran (fun s0 s h => ?_) s
  repeat' (first
    | with_reducible assumption
    | with_reducible refine engineNopStep_kept (hM.of rfl) ?_)

theorem execEngineRep_ran (hM : Sub 16778760 m) (a0 : Fin 15360) (s : State) : Ran m s (execEngineRep a0 s) := by
  unfold execEngineRep
  refine clockedOn_ran (fun s0 s h => ?_) s
  repeat' (first
    | with_reducible assumption
    | with_reducible refine engineRepStep_kept (hM.of rfl) ?_)

theorem execEngineLoop_ran (hM : Sub 16778760 m) (a0 : Fin 15360) (s : State) : Ran m s (execEngineLoop a0 s) := by
  unfold execEngineLoop
  refine clockedOn_ran (fun s0 s h => ?_) s
  repeat' (first
    | with_reducible assumption
    | with_reducible refine engineLoopStep_kept (hM.of rfl) ?_)

theorem execEngineJmp_ran (hM : Sub 16778760 m) (a0 : Fin 15360) (s : State) : Ran m s (execEngineJmp a0 s) := by
  unfold execEngineJmp
  refine clockedOn_ran (fun s0 s h => ?_) s
  repeat' (first
    | with_reducible assumption
    | with_reducible refine engineJmpStep_kept (hM.of rfl) ?_)

theorem execEngineWait_ran (hM : Sub 16778760 m) (a0 : Fin 15360) (s : State) : Ran m s (execEngineWait a0 s) := by
  unfold execEngineWait
  refine clockedOn_ran (fun s0 s h => ?_) s
  repeat' (first
    | with_reducible assumption
    | with_reducible refine engineWaitStep_kept (hM.of rfl) ?_)

theorem execEngineSig_ran (hM : Sub 16778761 m) (a0 : Fin 15360) (s : State) : Ran m s (execEngineSig a0 s) := by
  unfold execEngineSig
  refine clockedOn_ran (fun s0 s h => ?_) s
  repeat' (first
    | with_reducible assumption
    | with_reducible refine engineSigStep_kept (hM.of rfl) ?_)

theorem execEngineStop_ran (hM : Sub 16778760 m) (a0 : Fin 15360) (s : State) : Ran m s (execEngineStop a0 s) := by
  unfold execEngineStop
  refine clockedOn_ran (fun s0 s h => ?_) s
  repeat' (first
    | with_reducible assumption
    | with_reducible refine engineStopStep_kept (hM.of rfl) ?_)

theorem execEngineStopDrained_ran (hM : Sub 1025 m) (a0 : Fin 15360) (s : State) : Ran m s (execEngineStopDrained a0 s) := by
  unfold execEngineStopDrained
  refine clockedOn_ran (fun s0 s h => ?_) s
  repeat' (first
    | with_reducible assumption
    | with_reducible refine engineStopDrainedStep_kept (hM.of rfl) ?_)

theorem execEngineStart_ran (hM : Sub 1024 m) (a0 : Fin 15360) (s : State) : Ran m s (execEngineStart a0 s) := by
  unfold execEngineStart
  refine clockedOn_ran (fun s0 s h => ?_) s
  repeat' (first
    | with_reducible assumption
    | with_reducible refine engineStartStep_kept (hM.of rfl) ?_)

theorem execEngineHalt_ran (hM : Sub 1024 m) (a0 : Fin 15360) (s : State) : Ran m s (execEngineHalt a0 s) := by
  unfold execEngineHalt
  refine clockedOn_ran (fun s0 s h => ?_) s
  repeat' (first
    | with_reducible assumption
    | with_reducible refine engineHaltStep_kept (hM.of rfl) ?_)

theorem execEngineHaltRelease_ran (hM : Sub 1024 m) (a0 : Fin 15360) (s : State) : Ran m s (execEngineHaltRelease a0 s) := by
  unfold execEngineHaltRelease
  refine clockedOn_ran (fun s0 s h => ?_) s
  repeat' (first
    | with_reducible assumption
    | with_reducible refine engineHaltReleaseStep_kept (hM.of rfl) ?_)

theorem execEngineReset_ran (hM : Sub 1024 m) (a0 : Fin 15360) (a1 : Bool) (s : State) : Ran m s (execEngineReset a0 a1 s) := by
  unfold execEngineReset
  refine clockedOn_ran (fun s0 s h => ?_) s
  repeat' (first
    | with_reducible assumption
    | with_reducible refine engineResetStep_kept (hM.of rfl) ?_)

theorem execEngineFifoWrite_ran (hM : Sub 1024 m) (a0 : Fin 15360) (a1 : Bool) (a2 : BitVec 36) (s : State) : Ran m s (execEngineFifoWrite a0 a1 a2 s) := by
  unfold execEngineFifoWrite
  refine clockedOn_ran (fun s0 s h => ?_) s
  repeat' (first
    | with_reducible assumption
    | with_reducible refine engineFifoWriteStep_kept (hM.of rfl) ?_)

theorem execEngineOqRead_ran (hM : Sub 1024 m) (a0 : Fin 15360) (s : State) : Ran m s (execEngineOqRead a0 s) := by
  unfold execEngineOqRead
  refine clockedOn_ran (fun s0 s h => ?_) s
  repeat' (first
    | with_reducible assumption
    | with_reducible refine engineOqReadStep_kept (hM.of rfl) ?_)

theorem execEngineGpiChange_ran (hM : Sub 1024 m) (a0 : Fin 15360) (a1 : Bool) (a2 : Bool) (s : State) : Ran m s (execEngineGpiChange a0 a1 a2 s) := by
  unfold execEngineGpiChange
  refine clockedOn_ran (fun s0 s h => ?_) s
  repeat' (first
    | with_reducible assumption
    | with_reducible refine engineGpiChangeStep_kept (hM.of rfl) ?_)

/-! ### FabricEdge -/

theorem fabricEdges_kept (hM : Sub 2147483648 m) {a0 : List NetEdge} {s : Block} (h : Kept m s0 s) :
    Kept m s0 (fabricEdges a0 s) := by
  unfold fabricEdges
  repeat' (first
    | with_reducible assumption
    | (extract_lets +onlyGivenNames r; have hr := fun x => r x; subst r)
    | (extract_lets +onlyGivenNames r; clear_value r)
    | with_reducible refine Kept.upd ?_ (h_fab := .inr (hM.of rfl)))

theorem fabricInit_kept (hM : Sub 2147483648 m) {a0 : Nat} {s : Block} (h : Kept m s0 s) :
    Kept m s0 (fabricInit a0 s) := by
  unfold fabricInit
  repeat' (first
    | with_reducible assumption
    | (extract_lets +onlyGivenNames r; have hr := fun x => r x; subst r)
    | (extract_lets +onlyGivenNames r; clear_value r)
    | with_reducible refine Kept.upd ?_ (h_fab := .inr (hM.of rfl)))

theorem latchNets_kept (hM : Sub 2147483648 m) {a0 : List Nat} {a1 : Bool} {s : Block} (h : Kept m s0 s) :
    Kept m s0 (latchNets a0 a1 s) := by
  unfold latchNets
  repeat' (first
    | with_reducible assumption
    | (extract_lets +onlyGivenNames r; have hr := fun x => r x; subst r)
    | (extract_lets +onlyGivenNames r; clear_value r)
    | with_reducible refine Kept.upd ?_ (h_fab := .inr (hM.of rfl)))

/-! ### LinkRoutes -/

theorem transitPut_kept (hM : Sub 2048 m) {a0 a1 a2 : Nat} {s : Block} (h : Kept m s0 s) :
    Kept m s0 (transitPut a0 a1 a2 s) := by
  unfold transitPut
  repeat' (first
    | with_reducible assumption
    | with_reducible refine cfgPut_kept (hM.of rfl) ?_
    | with_reducible refine modCfg_kept (hM.of rfl) ?_)

theorem writeTap_kept (hM : Sub 2048 m) {a0 a1 : Nat} {a2 : Nat × Nat × Nat} {s : Block} (h : Kept m s0 s) :
    Kept m s0 (writeTap a0 a1 a2 s) := by
  unfold writeTap
  repeat' (first
    | with_reducible assumption
    | (extract_lets +onlyGivenNames r; have hr : Kept m s0 r := ?_; clear_value r; rotate_left; subst r; rotate_right)
    | (extract_lets +onlyGivenNames r; clear_value r)
    | with_reducible refine Kept.ite ?_ ?_
    | with_reducible refine transitPut_kept (hM.of rfl) ?_)

theorem writeDriver_kept (hM : Sub 2048 m) {a0 : Nat} {a1 : Link} {a2 : Nat} {a3 : Nat × Nat × Nat} {s : Block} (h : Kept m s0 s) :
    Kept m s0 (writeDriver a0 a1 a2 a3 s) := by
  unfold writeDriver
  repeat' (first
    | with_reducible assumption
    | (extract_lets +onlyGivenNames r; clear_value r)
    | with_reducible refine transitPut_kept (hM.of rfl) ?_)

theorem writeTaps_kept (hM : Sub 2048 m) {a0 : Nat} {a1 : Link} {s : Block} (h : Kept m s0 s) :
    Kept m s0 (writeTaps a0 a1 s) := by
  unfold writeTaps
  repeat' (first
    | with_reducible assumption
    | intro _
    | with_reducible refine Kept.foldl ?_ ?_
    | with_reducible refine writeTap_kept (hM.of rfl) ?_)

theorem writeDrivers_kept (hM : Sub 2048 m) {a0 : Nat} {a1 : Link} {s : Block} (h : Kept m s0 s) :
    Kept m s0 (writeDrivers a0 a1 s) := by
  unfold writeDrivers
  repeat' (first
    | with_reducible assumption
    | intro _
    | with_reducible refine Kept.foldl ?_ ?_
    | with_reducible refine writeDriver_kept (hM.of rfl) ?_)

theorem writeRoute_kept (hM : Sub 2048 m) {a0 : Nat} {a1 : Link} {s : Block} (h : Kept m s0 s) :
    Kept m s0 (writeRoute a0 a1 s) := by
  unfold writeRoute
  repeat' (first
    | with_reducible assumption
    | with_reducible refine writeDrivers_kept (hM.of rfl) ?_
    | with_reducible refine writeTaps_kept (hM.of rfl) ?_)

theorem eraseRoute_kept (hM : Sub 2048 m) {a0 : Nat} {s : Block} (h : Kept m s0 s) :
    Kept m s0 (eraseRoute a0 s) := by
  unfold eraseRoute
  repeat' (first
    | with_reducible assumption
    | intro _
    | (extract_lets +onlyGivenNames r; have hr : Kept m s0 r := ?_; clear_value r; rotate_left; subst r; rotate_right)
    | (extract_lets +onlyGivenNames r; have hr := fun x => r x; subst r)
    | with_reducible refine Kept.ite ?_ ?_
    | with_reducible refine Kept.foldl ?_ ?_
    | with_reducible refine modCfg_kept (hM.of rfl) ?_
    | with_reducible refine writeTaps_kept (hM.of rfl) ?_)

theorem routeTouch_kept (hM : Sub 25165960 m) {a0 : Link} {s : Block} (h : Kept m s0 s) :
    Kept m s0 (routeTouch a0 s) := by
  unfold routeTouch
  repeat' (first
    | with_reducible assumption
    | intro _
    | with_reducible refine Kept.foldl ?_ ?_
    | with_reducible refine seamRefresh_kept (hM.of rfl) ?_
    | split)

theorem setLink_kept (hM : Sub 25168008 m) {a0 : Nat} {a1 : Link} {s : Block} (h : Kept m s0 s) :
    Kept m s0 (setLink a0 a1 s) := by
  unfold setLink
  repeat' (first
    | with_reducible assumption
    | (extract_lets +onlyGivenNames r; have hr : Kept m s0 r := ?_; clear_value r; rotate_left; subst r; rotate_right)
    | (extract_lets +onlyGivenNames r; clear_value r)
    | with_reducible refine eraseRoute_kept (hM.of rfl) ?_
    | with_reducible refine writeRoute_kept (hM.of rfl) ?_
    | with_reducible refine modCfg_kept (hM.of rfl) ?_
    | with_reducible refine routeTouch_kept (hM.of rfl) ?_
    | split)

theorem rewriteRoutes_kept (hM : Sub 2048 m) {a0 : Link → Bool} {s : Block} (h : Kept m s0 s) :
    Kept m s0 (rewriteRoutes a0 s) := by
  unfold rewriteRoutes
  repeat' (first
    | with_reducible assumption
    | intro _
    | with_reducible refine Kept.foldl ?_ ?_
    | with_reducible refine writeRoute_kept (hM.of rfl) ?_)

theorem linkRerouteStep_kept (hM : Sub 25168008 m) {a0 : Nat} {a1 : Option (List Hop)} {s : Block} (h : Kept m s0 s) :
    Kept m s0 (linkRerouteStep a0 a1 s) := by
  unfold linkRerouteStep
  repeat' (first
    | with_reducible assumption
    | (extract_lets +onlyGivenNames r; have hr : Kept m s0 r := ?_; clear_value r; rotate_left; subst r; rotate_right)
    | (extract_lets +onlyGivenNames r; clear_value r)
    | with_reducible refine Kept.ite ?_ ?_
    | with_reducible refine modCfg_kept (hM.of rfl) ?_
    | with_reducible refine Block_raise_kept (hM.of rfl) ?_
    | with_reducible refine setLink_kept (hM.of rfl) ?_
    | split)

end Sys2Proof.Laws
end

