-- ==== Sys2Proof/Laws/KeptMemory.lean ====
section
/-! SUPPORT. What each named operation keeps (Laws/Kept.lean): memory lines, network ports, interrupts, queues, security, DRAM channels and line scramblers. -/

namespace Sys2Proof.Laws

set_option Elab.async false
set_option linter.unusedTactic false
set_option linter.unreachableTactic false

open Machine

variable {m : Nat} {s0 : Block}

/-! ### Memory -/

theorem setDc_kept (hM : Sub 65536 m) {s : Block} {n : Nat} {c : DcSt} (h : Kept m s0 s)
    (hc : BlockWf s = true → spSorted c.lines = true) : Kept m s0 (setDc n c s) := by
  unfold setDc
  refine h.trans ⟨fun p hp => ?_, fun w => ?_, .inl⟩
  · cases p <;> first | rfl | (have y := Sub.one (i := 16) hM; rw [show Nat.testBit m 16 = false from hp] at y; cases y)
  · have z := hc w
    have e : Kept (2 ^ 31 - 1) s { s with dcs := spSet (fun _ => DcSt.reset) s.dcs n c } :=
      Kept.on_dcs (Kept.refl _ s) rfl (fun w => ⟨spWf_spSet _ _ _ _ w.1, all_spSet _ _ _ _ (fun c : DcSt => spSorted c.lines) z w.2⟩)
    exact e.2.1 w

theorem getDc_lines {s : Block} (n : Nat) (w : BlockWf s = true) : spSorted (getDc s n).lines = true := by
  simp only [BlockWf, Bool.and_eq_true] at w
  exact all_spGet _ _ _ (fun c : DcSt => spSorted c.lines) rfl w.1.2

theorem setDcState_kept (hM : Sub 8 m) {a0 a1 : Nat} {s : Block} (h : Kept m s0 s) :
    Kept m s0 (setDcState a0 a1 s) := by
  unfold setDcState
  repeat' (first
    | with_reducible assumption
    | (extract_lets +onlyGivenNames r; have hr : Kept m s0 r := ?_; clear_value r; rotate_left; subst r; rotate_right)
    | (extract_lets +onlyGivenNames r; clear_value r)
    | with_reducible refine Kept.ite ?_ ?_
    | with_reducible refine Block_put_kept (hM.of rfl) ?_)

theorem clearedBlock_lines {s : Block} (n b : Nat) (w : BlockWf s = true) : spSorted (clearedBlock n b s).lines = true := by
  unfold clearedBlock
  refine foldl_lines (fun c x h => storeLine_lines _ _ _ h) _ ?_
  exact spSorted_spClear (fun k => decide (0x4000 * b ≤ k) && decide (k < 0x4000 * b + 0x4000)) _ (getDc_lines n w)

theorem countBlock_lines {c : DcSt} (b : Nat) : (countBlock b c).lines = c.lines := by
  unfold countBlock
  dsimp only
  split <;> rfl

theorem initBlock_kept (hM : Sub 65544 m) {a0 a1 : Nat} {s : Block} (h : Kept m s0 s) :
    Kept m s0 (initBlock a0 a1 s) := by
  unfold initBlock
  refine Block_putB_kept (hM.of rfl) (setDc_kept (hM.of rfl) h (fun w => ?_))
  rw [countBlock_lines]
  exact clearedBlock_lines a0 a1 w

theorem markNew_kept (hM : Sub 65544 m) {a0 : Nat} {s : Block} (h : Kept m s0 s) :
    Kept m s0 (markNew a0 s) := by
  unfold markNew
  exact Block_putB_kept (hM.of rfl) (setDc_kept (hM.of rfl) h (fun _ => rfl))

theorem putLine_kept (hM : Sub 65544 m) {a0 a1 : Nat} {a2 : BitVec 512} {s : Block} (h : Kept m s0 s) :
    Kept m s0 (putLine a0 a1 a2 s) := by
  unfold putLine
  refine setDc_kept (hM.of rfl) (Kept.ite h (initBlock_kept hM h))
    (fun w => storeLine_lines _ _ _ (getDc_lines a0 w))

theorem countAccess_kept (hM : Sub 16777224 m) {a0 a1 : Nat} {s : Block} (h : Kept m s0 s) :
    Kept m s0 (countAccess a0 a1 s) := by
  unfold countAccess
  repeat' (first
    | with_reducible assumption
    | (extract_lets +onlyGivenNames r; clear_value r)
    | with_reducible refine Kept.ite ?_ ?_
    | with_reducible refine Block_bump_kept (hM.of rfl) ?_)

theorem freeLine_kept (hM : Sub 2 m) {s : Block} (h : Kept m s0 s) :
    Kept m s0 (freeLine s).2 := by
  unfold freeLine
  repeat' (first
    | with_reducible assumption
    | (extract_lets +onlyGivenNames r; have hr : Kept m s0 r.2 := ?_; clear_value r; rotate_left; subst r; rotate_right)
    | with_reducible refine Block_draw_kept (hM.of rfl) ?_)

theorem readLine_kept (hM : Sub 16777226 m) {a0 a1 : Nat} {s : Block} (h : Kept m s0 s) :
    Kept m s0 (readLine a0 a1 s).2 := by
  unfold readLine
  repeat' (first
    | with_reducible assumption
    | (extract_lets +onlyGivenNames r; clear_value r)
    | with_reducible refine Kept.ite2 ?_ ?_
    | with_reducible refine countAccess_kept (hM.of rfl) ?_
    | with_reducible refine freeLine_kept (hM.of rfl) ?_
    | split)

theorem readMem_kept (hM : Sub 16777226 m) {a0 a1 a2 : Nat} {s : Block} (h : Kept m s0 s) :
    Kept m s0 (readMem a0 a1 a2 s).2 := by
  unfold readMem
  repeat' (first
    | with_reducible assumption
    | intro _
    | (extract_lets +onlyGivenNames r; have hr : Kept m s0 r.2 := ?_; clear_value r; rotate_left; subst r; rotate_right)
    | with_reducible refine Kept.foldl2 ?_ ?_
    | with_reducible refine readLine_kept (hM.of rfl) ?_
    | split)

theorem writePart_kept (hM : Sub 16842761 m) {a0 a1 : Nat} {a2 : List Nat} {s : Block} (h : Kept m s0 s) :
    Kept m s0 (writePart a0 a1 a2 s).2 := by
  unfold writePart
  repeat' (first
    | with_reducible assumption
    | (extract_lets +onlyGivenNames r; clear_value r)
    | with_reducible refine Kept.ite2 ?_ ?_
    | with_reducible refine countAccess_kept (hM.of rfl) ?_
    | with_reducible refine putLine_kept (hM.of rfl) ?_
    | with_reducible refine Block_emit_kept (hM.of rfl) ?_
    | split)

theorem writeMem_kept (hM : Sub 16842761 m) {a0 a1 : Nat} {a2 : List Nat} {s : Block} (h : Kept m s0 s) :
    Kept m s0 (writeMem a0 a1 a2 s).2 := by
  unfold writeMem
  repeat' (first
    | with_reducible assumption
    | intro _
    | (extract_lets +onlyGivenNames r; have hr : Kept m s0 r.2 := ?_; clear_value r; rotate_left; subst r; rotate_right)
    | (extract_lets +onlyGivenNames r; clear_value r)
    | with_reducible refine Kept.foldl2 ?_ ?_
    | with_reducible refine writePart_kept (hM.of rfl) ?_)

/-! ### Ports -/

theorem setPort_kept (hM : Sub 524296 m) {a0 a1 : Nat} {s : Block} (h : Kept m s0 s) :
    Kept m s0 (setPort a0 a1 s) := by
  unfold setPort
  repeat' (first
    | with_reducible assumption
    | (extract_lets +onlyGivenNames r; clear_value r)
    | with_reducible refine Kept.ite ?_ ?_
    | with_reducible refine Block_put_kept (hM.of rfl) ?_
    | with_reducible refine Kept.upd ?_ (h_net := .inr (hM.of rfl)))

theorem bumpDiscard_kept (hM : Sub 16777224 m) {a0 : Nat} {s : Block} (h : Kept m s0 s) :
    Kept m s0 (bumpDiscard a0 s) := by
  unfold bumpDiscard
  repeat' (first
    | with_reducible assumption
    | with_reducible refine Kept.ite ?_ ?_
    | with_reducible refine Block_bump_kept (hM.of rfl) ?_)

theorem bumpRspDrop_kept (hM : Sub 16777224 m) {a0 : Nat} {s : Block} (h : Kept m s0 s) :
    Kept m s0 (bumpRspDrop a0 s) := by
  unfold bumpRspDrop
  repeat' (first
    | with_reducible assumption
    | with_reducible refine Kept.ite ?_ ?_
    | with_reducible refine Block_bump_kept (hM.of rfl) ?_)

theorem netData_kept (hM : Sub 134217729 m) {a0 a1 a2 a3 : Nat} {a4 : Bool} {a5 : BitVec 512} {s : Block} (h : Kept m s0 s) :
    Kept m s0 (netData a0 a1 a2 a3 a4 a5 s) := by
  unfold netData
  repeat' (first
    | with_reducible assumption
    | (extract_lets +onlyGivenNames r; clear_value r)
    | with_reducible refine Kept.ite ?_ ?_
    | with_reducible refine Block_emit_kept (hM.of rfl) ?_
    | with_reducible refine Kept.upd ?_ (h_fwu := .inr (hM.of rfl)))

theorem netDone_kept (hM : Sub 134217729 m) {a0 a1 a2 : Nat} {s : Block} (h : Kept m s0 s) :
    Kept m s0 (netDone a0 a1 a2 s) := by
  unfold netDone
  repeat' (first
    | with_reducible assumption
    | (extract_lets +onlyGivenNames r; clear_value r)
    | with_reducible refine Kept.ite ?_ ?_
    | with_reducible refine Block_emit_kept (hM.of rfl) ?_
    | split
    | with_reducible refine Kept.upd ?_ (h_fwu := .inr (hM.of rfl)))

theorem fenceFinish_kept (hM : Sub 142606337 m) {a0 : NetFence} {s : Block} (h : Kept m s0 s) :
    Kept m s0 (fenceFinish a0 s) := by
  unfold fenceFinish
  repeat' (first
    | with_reducible assumption
    | with_reducible refine Kept.ite ?_ ?_
    | with_reducible refine netDone_kept (hM.of rfl) ?_
    | with_reducible refine Block_close_kept (hM.of rfl) ?_
    | split)

theorem settleFences_kept (hM : Sub 143130625 m) {s : Block} (h : Kept m s0 s) :
    Kept m s0 (settleFences s) := by
  unfold settleFences
  repeat' (first
    | with_reducible assumption
    | intro _
    | (extract_lets +onlyGivenNames r; clear_value r)
    | with_reducible refine Kept.foldl ?_ ?_
    | with_reducible refine fenceFinish_kept (hM.of rfl) ?_
    | with_reducible refine Kept.upd ?_ (h_net := .inr (hM.of rfl)))

theorem passWaiting_kept (hM : Sub 524288 m) {a0 : Nat} {s : Block} (h : Kept m s0 s) :
    Kept m s0 (passWaiting a0 s) := by
  unfold passWaiting
  repeat' (first
    | with_reducible assumption
    | (extract_lets +onlyGivenNames r; clear_value r)
    | with_reducible refine Kept.upd ?_ (h_net := .inr (hM.of rfl)))

theorem reqPart_kept (hM : Sub 134742017 m) {a0 a1 : Nat} {a2 : Bool} {s : Block} (h : Kept m s0 s) :
    Kept m s0 (reqPart a0 a1 a2 s) := by
  unfold reqPart
  repeat' (first
    | with_reducible assumption
    | (extract_lets +onlyGivenNames r; have hr : Kept m s0 r := ?_; clear_value r; rotate_left; subst r; rotate_right)
    | (extract_lets +onlyGivenNames r; clear_value r)
    | with_reducible refine Kept.ite ?_ ?_
    | with_reducible refine netDone_kept (hM.of rfl) ?_
    | split
    | with_reducible refine Kept.upd ?_ (h_net := .inr (hM.of rfl)))

theorem partDone_kept (hM : Sub 143130625 m) {a0 a1 a2 : Nat} {a3 : Bool} {s : Block} (h : Kept m s0 s) :
    Kept m s0 (partDone a0 a1 a2 a3 s) := by
  unfold partDone
  repeat' (first
    | with_reducible assumption
    | (extract_lets +onlyGivenNames r; have hr : Kept m s0 r := ?_; clear_value r; rotate_left; subst r; rotate_right)
    | (extract_lets +onlyGivenNames r; clear_value r)
    | with_reducible refine settleFences_kept (hM.of rfl) ?_
    | with_reducible refine reqPart_kept (hM.of rfl) ?_
    | with_reducible refine passWaiting_kept (hM.of rfl) ?_
    | split
    | with_reducible refine Kept.upd ?_ (h_net := .inr (hM.of rfl)))

theorem partFail_kept (hM : Sub 143130625 m) {a0 : NetPart} {a1 : Nat} {s : Block} (h : Kept m s0 s) :
    Kept m s0 (partFail a0 a1 s) := by
  unfold partFail
  repeat' (first
    | with_reducible assumption
    | (extract_lets +onlyGivenNames r; clear_value r)
    | with_reducible refine Kept.ite ?_ ?_
    | with_reducible refine partDone_kept (hM.of rfl) ?_
    | with_reducible refine netData_kept (hM.of rfl) ?_)

theorem markSent_kept (hM : Sub 524288 m) {a0 a1 : Nat} {s : Block} (h : Kept m s0 s) :
    Kept m s0 (markSent a0 a1 s) := by
  unfold markSent
  repeat' (first
    | with_reducible assumption
    | (extract_lets +onlyGivenNames r; clear_value r)
    | with_reducible refine Kept.upd ?_ (h_net := .inr (hM.of rfl)))

theorem markAcked_kept (hM : Sub 143130625 m) {a0 a1 : Nat} {s : Block} (h : Kept m s0 s) :
    Kept m s0 (markAcked a0 a1 s) := by
  unfold markAcked
  repeat' (first
    | with_reducible assumption
    | (extract_lets +onlyGivenNames r; clear_value r)
    | with_reducible refine Kept.ite ?_ ?_
    | with_reducible refine settleFences_kept (hM.of rfl) ?_
    | with_reducible refine Kept.upd ?_ (h_net := .inr (hM.of rfl)))

theorem flushPort_kept (hM : Sub 143130625 m) {a0 a1 : Nat} {s : Block} (h : Kept m s0 s) :
    Kept m s0 (flushPort a0 a1 s) := by
  unfold flushPort
  repeat' (first
    | with_reducible assumption
    | intro _
    | (extract_lets +onlyGivenNames r; have hr : Kept m s0 r := ?_; clear_value r; rotate_left; subst r; rotate_right)
    | (extract_lets +onlyGivenNames r; clear_value r)
    | with_reducible refine Kept.foldl ?_ ?_
    | with_reducible refine partFail_kept (hM.of rfl) ?_
    | with_reducible refine settleFences_kept (hM.of rfl) ?_
    | with_reducible refine Kept.upd ?_ (h_net := .inr (hM.of rfl)))

theorem portEic_kept (hM : Sub 8 m) {a0 : Nat} {s : Block} (h : Kept m s0 s) :
    Kept m s0 (portEic a0 s) := by
  unfold portEic
  repeat' (first
    | with_reducible assumption
    | with_reducible refine Kept.ite ?_ ?_
    | with_reducible refine Block_eicEdge_kept (hM.of rfl) ?_)

theorem isolatePort_kept (hM : Sub 159907849 m) {a0 : Nat} {a1 : Bool} {s : Block} (h : Kept m s0 s) :
    Kept m s0 (isolatePort a0 a1 s) := by
  unfold isolatePort
  repeat' (first
    | with_reducible assumption
    | (extract_lets +onlyGivenNames r; have hr : Kept m s0 r := ?_; clear_value r; rotate_left; subst r; rotate_right)
    | (extract_lets +onlyGivenNames r; clear_value r)
    | with_reducible refine Kept.ite ?_ ?_
    | with_reducible refine setPort_kept (hM.of rfl) ?_
    | with_reducible refine Block_putB_kept (hM.of rfl) ?_
    | with_reducible refine flushPort_kept (hM.of rfl) ?_
    | with_reducible refine portEic_kept (hM.of rfl) ?_
    | with_reducible refine Block_raise_kept (hM.of rfl) ?_
    | with_reducible refine Kept.upd ?_ (h_net := .inr (hM.of rfl)))

theorem portsReset_kept (hM : Sub 524288 m) {a0 : List Nat} {s : Block} (h : Kept m s0 s) :
    Kept m s0 (portsReset a0 s) := by
  unfold portsReset
  repeat' (first
    | with_reducible assumption
    | (extract_lets +onlyGivenNames r; clear_value r)
    | with_reducible refine Kept.upd ?_ (h_net := .inr (hM.of rfl)))

theorem closePort_kept (hM : Sub 143130633 m) {a0 : Nat} {s : Block} (h : Kept m s0 s) :
    Kept m s0 (closePort a0 s) := by
  unfold closePort
  repeat' (first
    | with_reducible assumption
    | with_reducible refine Kept.ite ?_ ?_
    | with_reducible refine flushPort_kept (hM.of rfl) ?_
    | with_reducible refine setPort_kept (hM.of rfl) ?_)

theorem drainPort_kept (hM : Sub 524296 m) {a0 : Nat} {s : Block} (h : Kept m s0 s) :
    Kept m s0 (drainPort a0 s) := by
  unfold drainPort
  repeat' (first
    | with_reducible assumption
    | with_reducible refine Kept.ite ?_ ?_
    | with_reducible refine setPort_kept (hM.of rfl) ?_)

/-! ### QueueCtx -/

theorem putCtx_kept (hM : Sub 2097152 m) {a0 : Nat} {a1 : QCtx} {s : Block} (h : Kept m s0 s) :
    Kept m s0 (putCtx a0 a1 s) := by
  unfold putCtx
  repeat' (first
    | with_reducible assumption
    | (extract_lets +onlyGivenNames r; clear_value r)
    | with_reducible refine Kept.upd ?_ (h_qe := .inr (hM.of rfl)))

/-! ### Eic -/

theorem settleNotified_kept (hM : Sub 8 m) {s : Block} (h : Kept m s0 s) :
    Kept m s0 (settleNotified s) := by
  unfold settleNotified
  repeat' (first
    | with_reducible assumption
    | intro _
    | with_reducible refine Kept.ite ?_ ?_
    | with_reducible refine forEach_kept (hM.of rfl) ?_ ?_
    | with_reducible refine Block_putB_kept (hM.of rfl) ?_)

theorem resample_kept (hM : Sub 8 m) {a0 : Nat} {s : Block} (h : Kept m s0 s) :
    Kept m s0 (resample a0 s) := by
  unfold resample
  repeat' (first
    | with_reducible assumption
    | with_reducible refine Kept.ite ?_ ?_
    | with_reducible refine Block_put_kept (hM.of rfl) ?_)

theorem eicSourceEdgeStep_kept (hM : Sub 8 m) {a0 : Nat} {s : Block} (h : Kept m s0 s) :
    Kept m s0 (eicSourceEdgeStep a0 s) := by
  unfold eicSourceEdgeStep
  repeat' (first
    | with_reducible assumption
    | with_reducible refine Kept.ite ?_ ?_
    | with_reducible refine Block_eicEdge_kept (hM.of rfl) ?_)

theorem sourceInput_kept (hM : Sub 8 m) {a0 : Nat} {a1 : Bool} {s : Block} (h : Kept m s0 s) :
    Kept m s0 (sourceInput a0 a1 s) := by
  unfold sourceInput
  repeat' (first
    | with_reducible assumption
    | (extract_lets +onlyGivenNames r; have hr : Kept m s0 r := ?_; clear_value r; rotate_left; subst r; rotate_right)
    | (extract_lets +onlyGivenNames r; clear_value r)
    | with_reducible refine Kept.ite ?_ ?_
    | with_reducible refine Block_putB_kept (hM.of rfl) ?_
    | with_reducible refine Block_eicEdge_kept (hM.of rfl) ?_
    | with_reducible refine resample_kept (hM.of rfl) ?_
    | with_reducible refine settleNotified_kept (hM.of rfl) ?_)

theorem lineFollow_kept (hM : Sub 8 m) {a0 a1 : Nat} {s : Block} (h : Kept m s0 s) :
    Kept m s0 (lineFollow a0 a1 s) := by
  unfold lineFollow
  repeat' (first
    | with_reducible assumption
    | with_reducible refine sourceInput_kept (hM.of rfl) ?_)

theorem eicSourceLevelStep_kept (hM : Sub 4194312 m) {a0 a1 : Nat} {a2 : Bool} {s : Block} (h : Kept m s0 s) :
    Kept m s0 (eicSourceLevelStep a0 a1 a2 s) := by
  unfold eicSourceLevelStep
  repeat' (first
    | with_reducible assumption
    | (extract_lets +onlyGivenNames r; clear_value r)
    | with_reducible refine lineFollow_kept (hM.of rfl) ?_
    | split
    | with_reducible refine Kept.upd ?_ (h_eic := .inr (hM.of rfl)))

theorem tapsFall_kept (hM : Sub 4194312 m) {a0 : List Nat} {s : Block} (h : Kept m s0 s) :
    Kept m s0 (tapsFall a0 s) := by
  unfold tapsFall
  repeat' (first
    | with_reducible assumption
    | intro _
    | (extract_lets +onlyGivenNames r; clear_value r)
    | with_reducible refine Kept.foldl ?_ ?_
    | with_reducible refine lineFollow_kept (hM.of rfl) ?_
    | with_reducible refine Kept.upd ?_ (h_eic := .inr (hM.of rfl)))

theorem sendMessage_kept (hM : Sub 1 m) {a0 a1 a2 a3 : Nat} {s : Block} (h : Kept m s0 s) :
    Kept m s0 (sendMessage a0 a1 a2 a3 s) := by
  unfold sendMessage
  repeat' (first
    | with_reducible assumption
    | with_reducible refine Kept.ite ?_ ?_
    | with_reducible refine Block_emit_kept (hM.of rfl) ?_)

theorem notifyTarget_kept (hM : Sub 9 m) {a0 a1 : Nat} {s : Block} (h : Kept m s0 s) :
    Kept m s0 (notifyTarget a0 a1 s) := by
  unfold notifyTarget
  repeat' (first
    | with_reducible assumption
    | (extract_lets +onlyGivenNames r; have hr : Kept m s0 r := ?_; clear_value r; rotate_left; subst r; rotate_right)
    | with_reducible refine Kept.ite ?_ ?_
    | with_reducible refine Block_putB_kept (hM.of rfl) ?_
    | with_reducible refine Block_emit_kept (hM.of rfl) ?_
    | with_reducible refine sendMessage_kept (hM.of rfl) ?_)

theorem eicNotifyStep_kept (hM : Sub 4194313 m) {a0 : Nat} {s : Block} (h : Kept m s0 s) :
    Kept m s0 (eicNotifyStep a0 s) := by
  unfold eicNotifyStep
  repeat' (first
    | with_reducible assumption
    | (extract_lets +onlyGivenNames r; clear_value r)
    | with_reducible refine Kept.ite ?_ ?_
    | with_reducible refine Block_emit_kept (hM.of rfl) ?_
    | with_reducible refine notifyTarget_kept (hM.of rfl) ?_
    | split
    | with_reducible refine Kept.upd ?_ (h_eic := .inr (hM.of rfl)))

theorem eicHostAwake_kept (hM : Sub 4194313 m) {s : Block} (h : Kept m s0 s) :
    Kept m s0 (eicHostAwake s) := by
  unfold eicHostAwake
  repeat' (first
    | with_reducible assumption
    | intro _
    | (extract_lets +onlyGivenNames r; clear_value r)
    | with_reducible refine forEach_kept (hM.of rfl) ?_ ?_
    | with_reducible refine notifyTarget_kept (hM.of rfl) ?_
    | split
    | with_reducible refine Kept.upd ?_ (h_eic := .inr (hM.of rfl)))

theorem eicClaimRead_kept (hM : Sub 8 m) {a0 : Nat} {s : Block} (h : Kept m s0 s) :
    Kept m s0 (eicClaimRead a0 s).2 := by
  unfold eicClaimRead
  repeat' (first
    | with_reducible assumption
    | (extract_lets +onlyGivenNames r; have hr : Kept m s0 r := ?_; clear_value r; rotate_left; subst r; rotate_right)
    | (extract_lets +onlyGivenNames r; clear_value r)
    | with_reducible refine settleNotified_kept (hM.of rfl) ?_
    | with_reducible refine Block_putB_kept (hM.of rfl) ?_
    | with_reducible refine Block_put_kept (hM.of rfl) ?_
    | split)

theorem eicClaimStep_kept (hM : Sub 9 m) {a0 : Nat} {s : Block} (h : Kept m s0 s) :
    Kept m s0 (eicClaimStep a0 s) := by
  unfold eicClaimStep
  repeat' (first
    | with_reducible assumption
    | (extract_lets +onlyGivenNames r; have hr : Kept m s0 r.2 := ?_; clear_value r; rotate_left; subst r; rotate_right)
    | with_reducible refine eicClaimRead_kept (hM.of rfl) ?_
    | with_reducible refine Block_emit_kept (hM.of rfl) ?_)

theorem completeSource_kept (hM : Sub 8 m) {a0 a1 : Nat} {s : Block} (h : Kept m s0 s) :
    Kept m s0 (completeSource a0 a1 s) := by
  unfold completeSource
  repeat' (first
    | with_reducible assumption
    | (extract_lets +onlyGivenNames r; have hr : Kept m s0 r := ?_; clear_value r; rotate_left; subst r; rotate_right)
    | with_reducible refine Block_put_kept (hM.of rfl) ?_
    | with_reducible refine Block_putB_kept (hM.of rfl) ?_
    | with_reducible refine settleNotified_kept (hM.of rfl) ?_
    | with_reducible refine resample_kept (hM.of rfl) ?_)

theorem eicCompleteStep_kept (hM : Sub 16777224 m) {a0 a1 : Nat} {s : Block} (h : Kept m s0 s) :
    Kept m s0 (eicCompleteStep a0 a1 s) := by
  unfold eicCompleteStep
  repeat' (first
    | with_reducible assumption
    | with_reducible refine Kept.ite ?_ ?_
    | with_reducible refine completeSource_kept (hM.of rfl) ?_
    | with_reducible refine Block_bumpBy_kept (hM.of rfl) ?_)

theorem completeAll_kept (hM : Sub 8 m) {a0 : Nat} {s : Block} (h : Kept m s0 s) :
    Kept m s0 (completeAll a0 s) := by
  unfold completeAll
  repeat' (first
    | with_reducible assumption
    | intro _
    | with_reducible refine Kept.foldl ?_ ?_
    | with_reducible refine completeSource_kept (hM.of rfl) ?_)

theorem eicSiteGone_kept (hM : Sub 8 m) {a0 : Nat} {s : Block} (h : Kept m s0 s) :
    Kept m s0 (eicSiteGone a0 s) := by
  unfold eicSiteGone
  repeat' (first
    | with_reducible assumption
    | intro _
    | with_reducible refine forEach_kept (hM.of rfl) ?_ ?_
    | with_reducible refine completeAll_kept (hM.of rfl) ?_)

theorem eicDieLines_kept (hM : Sub 4194312 m) {a0 : Nat} {s : Block} (h : Kept m s0 s) :
    Kept m s0 (eicDieLines a0 s) := by
  unfold eicDieLines
  repeat' (first
    | with_reducible assumption
    | with_reducible refine tapsFall_kept (hM.of rfl) ?_)

theorem sourceChanged_kept (hM : Sub 8 m) {a0 : Nat} {s : Block} (h : Kept m s0 s) :
    Kept m s0 (sourceChanged a0 s) := by
  unfold sourceChanged
  repeat' (first
    | with_reducible assumption
    | (extract_lets +onlyGivenNames r; have hr : Kept m s0 r := ?_; clear_value r; rotate_left; subst r; rotate_right)
    | with_reducible refine Kept.ite ?_ ?_
    | with_reducible refine Block_put_kept (hM.of rfl) ?_
    | with_reducible refine settleNotified_kept (hM.of rfl) ?_
    | with_reducible refine resample_kept (hM.of rfl) ?_)

theorem sourcePut_kept (hM : Sub 8 m) {a0 a1 a2 a3 a4 : Nat} {s : Block} (h : Kept m s0 s) :
    Kept m s0 (sourcePut a0 a1 a2 a3 a4 s) := by
  unfold sourcePut
  repeat' (first
    | with_reducible assumption
    | (extract_lets +onlyGivenNames r; clear_value r)
    | with_reducible refine Block_put_kept (hM.of rfl) ?_)

theorem eicSourceSetCmd_kept (hM : Sub 8388616 m) {a0 a1 a2 a3 : Nat} {a4 : Cmd} {s : Block} (h : Kept m s0 s) :
    Kept m s0 (eicSourceSetCmd a0 a1 a2 a3 a4 s) := by
  unfold eicSourceSetCmd
  repeat' (first
    | with_reducible assumption
    | (extract_lets +onlyGivenNames r; clear_value r)
    | with_reducible refine Kept.ite ?_ ?_
    | with_reducible refine Block_respond_kept (hM.of rfl) ?_
    | with_reducible refine sourceChanged_kept (hM.of rfl) ?_
    | with_reducible refine sourcePut_kept (hM.of rfl) ?_)

theorem eicTargetSetCmd_kept (hM : Sub 8388616 m) {a0 a1 a2 : Nat} {a3 : Cmd} {s : Block} (h : Kept m s0 s) :
    Kept m s0 (eicTargetSetCmd a0 a1 a2 a3 s) := by
  unfold eicTargetSetCmd
  repeat' (first
    | with_reducible assumption
    | (extract_lets +onlyGivenNames r; clear_value r)
    | with_reducible refine Kept.ite ?_ ?_
    | with_reducible refine Block_respond_kept (hM.of rfl) ?_
    | with_reducible refine settleNotified_kept (hM.of rfl) ?_
    | with_reducible refine Block_put_kept (hM.of rfl) ?_)

theorem eicStatusCmd_kept (hM : Sub 8388608 m) {a0 : Cmd} {s : Block} (h : Kept m s0 s) :
    Kept m s0 (eicStatusCmd a0 s) := by
  unfold eicStatusCmd
  repeat' (first
    | with_reducible assumption
    | with_reducible refine Block_respond_kept (hM.of rfl) ?_)

theorem execEicSourceEdge_ran (hM : Sub 8 m) (a0 : Fin 2048) (s : State) : Ran m s (execEicSourceEdge a0 s) := by
  unfold execEicSourceEdge
  refine clocked_ran (fun s0 s h => ?_) s
  repeat' (first
    | with_reducible assumption
    | with_reducible refine eicSourceEdgeStep_kept (hM.of rfl) ?_)

theorem execEicSourceLevel_ran (hM : Sub 4194312 m) (a0 : Fin 320) (a1 : Fin 256) (a2 : Bool) (s : State) : Ran m s (execEicSourceLevel a0 a1 a2 s) := by
  unfold execEicSourceLevel
  refine clocked_ran (fun s0 s h => ?_) s
  repeat' (first
    | with_reducible assumption
    | with_reducible refine eicSourceLevelStep_kept (hM.of rfl) ?_)

theorem execEicNotify_ran (hM : Sub 4194313 m) (a0 : Fin 8) (s : State) : Ran m s (execEicNotify a0 s) := by
  unfold execEicNotify
  refine clocked_ran (fun s0 s h => ?_) s
  repeat' (first
    | with_reducible assumption
    | with_reducible refine eicNotifyStep_kept (hM.of rfl) ?_)

theorem execEicClaim_ran (hM : Sub 9 m) (a0 : Fin 8) (s : State) : Ran m s (execEicClaim a0 s) := by
  unfold execEicClaim
  refine clocked_ran (fun s0 s h => ?_) s
  repeat' (first
    | with_reducible assumption
    | with_reducible refine eicClaimStep_kept (hM.of rfl) ?_)

theorem execEicComplete_ran (hM : Sub 16777224 m) (a0 : Fin 8) (a1 : Fin 2048) (s : State) : Ran m s (execEicComplete a0 a1 s) := by
  unfold execEicComplete
  refine clocked_ran (fun s0 s h => ?_) s
  repeat' (first
    | with_reducible assumption
    | with_reducible refine eicCompleteStep_kept (hM.of rfl) ?_)

theorem execEicSourceSet_ran (hM : Sub 8388616 m) (a0 : Hdr) (a1 : Nat) (a2 : Nat) (a3 : Nat) (a4 : Nat) (s : State) : Ran m s (execEicSourceSet a0 a1 a2 a3 a4 s) := by
  unfold execEicSourceSet
  refine live_ran (fun s0 s h => ?_) s
  repeat' (first
    | with_reducible assumption
    | intro _
    | with_reducible refine Block_command_kept (hM.of rfl) ?_ ?_
    | with_reducible refine eicSourceSetCmd_kept (hM.of rfl) ?_)

theorem execEicTargetSet_ran (hM : Sub 8388616 m) (a0 : Hdr) (a1 : Nat) (a2 : Nat) (a3 : Nat) (s : State) : Ran m s (execEicTargetSet a0 a1 a2 a3 s) := by
  unfold execEicTargetSet
  refine live_ran (fun s0 s h => ?_) s
  repeat' (first
    | with_reducible assumption
    | intro _
    | with_reducible refine Block_command_kept (hM.of rfl) ?_ ?_
    | with_reducible refine eicTargetSetCmd_kept (hM.of rfl) ?_)

theorem execEicStatus_ran (hM : Sub 8388608 m) (a0 : Hdr) (s : State) : Ran m s (execEicStatus a0 s) := by
  unfold execEicStatus
  refine live_ran (fun s0 s h => ?_) s
  repeat' (first
    | with_reducible assumption
    | intro _
    | with_reducible refine Block_command_kept (hM.of rfl) ?_ ?_
    | with_reducible refine eicStatusCmd_kept (hM.of rfl) ?_)

/-! ### QueueEngine -/

theorem modQe_kept (hM : Sub 2097152 m) {a0 : QeSt → QeSt} {s : Block} (h : Kept m s0 s) :
    Kept m s0 (modQe a0 s) := by
  unfold modQe
  repeat' (first
    | with_reducible assumption
    | with_reducible refine Kept.upd ?_ (h_qe := .inr (hM.of rfl)))

theorem qeEvent_kept (hM : Sub 16777224 m) {a0 : Nat} {s : Block} (h : Kept m s0 s) :
    Kept m s0 (qeEvent a0 s) := by
  unfold qeEvent
  repeat' (first
    | with_reducible assumption
    | with_reducible refine Block_eicEdge_kept (hM.of rfl) ?_
    | with_reducible refine Block_raise_kept (hM.of rfl) ?_)

theorem beginFire_kept (hM : Sub 2097152 m) {a0 : Nat} {a1 : Bool} {s : Block} (h : Kept m s0 s) :
    Kept m s0 (beginFire a0 a1 s) := by
  unfold beginFire
  repeat' (first
    | with_reducible assumption
    | with_reducible refine modQe_kept (hM.of rfl) ?_)

theorem tryFire_kept (hM : Sub 2097152 m) {a0 : Nat} {s : Block} (h : Kept m s0 s) :
    Kept m s0 (tryFire a0 s) := by
  unfold tryFire
  repeat' (first
    | with_reducible assumption
    | (extract_lets +onlyGivenNames r; clear_value r)
    | with_reducible refine Kept.ite ?_ ?_
    | with_reducible refine beginFire_kept (hM.of rfl) ?_)

theorem countVec_kept (hM : Sub 2097160 m) {a0 a1 : Nat} {s : Block} (h : Kept m s0 s) :
    Kept m s0 (countVec a0 a1 s) := by
  unfold countVec
  repeat' (first
    | with_reducible assumption
    | (extract_lets +onlyGivenNames r; have hr : Kept m s0 r := ?_; clear_value r; rotate_left; subst r; rotate_right)
    | (extract_lets +onlyGivenNames r; clear_value r)
    | with_reducible refine Kept.ite ?_ ?_
    | with_reducible refine modQe_kept (hM.of rfl) ?_
    | with_reducible refine Block_put_kept (hM.of rfl) ?_
    | with_reducible refine Block_putB_kept (hM.of rfl) ?_
    | with_reducible refine tryFire_kept (hM.of rfl) ?_
    | split)

theorem sendVec_kept (hM : Sub 1 m) {a0 : Nat} {s : Block} (h : Kept m s0 s) :
    Kept m s0 (sendVec a0 s) := by
  unfold sendVec
  repeat' (first
    | with_reducible assumption
    | (extract_lets +onlyGivenNames r; clear_value r)
    | with_reducible refine Kept.ite ?_ ?_
    | with_reducible refine sendMessage_kept (hM.of rfl) ?_
    | with_reducible refine Block_emit_kept (hM.of rfl) ?_)

theorem firingSent_kept (hM : Sub 2097161 m) {a0 : VecFire} {s : Block} (h : Kept m s0 s) :
    Kept m s0 (firingSent a0 s) := by
  unfold firingSent
  repeat' (first
    | with_reducible assumption
    | (extract_lets +onlyGivenNames r; have hr : Kept m s0 r := ?_; clear_value r; rotate_left; subst r; rotate_right)
    | (extract_lets +onlyGivenNames r; clear_value r)
    | with_reducible refine sendVec_kept (hM.of rfl) ?_
    | with_reducible refine Block_putB_kept (hM.of rfl) ?_
    | with_reducible refine Block_put_kept (hM.of rfl) ?_
    | with_reducible refine tryFire_kept (hM.of rfl) ?_
    | with_reducible refine modQe_kept (hM.of rfl) ?_)

theorem settleWokenOne_kept (hM : Sub 2097161 m) {s : Block} (h : Kept m s0 s) :
    Kept m s0 (settleWokenOne s) := by
  unfold settleWokenOne
  repeat' (first
    | with_reducible assumption
    | with_reducible refine Kept.ite ?_ ?_
    | with_reducible refine firingSent_kept (hM.of rfl) ?_
    | split)

theorem settleWoken_kept (hM : Sub 2097161 m) {s : Block} (h : Kept m s0 s) :
    Kept m s0 (settleWoken s) := by
  unfold settleWoken
  repeat' (first
    | with_reducible assumption
    | intro _
    | with_reducible refine Kept.foldl ?_ ?_
    | with_reducible refine settleWokenOne_kept (hM.of rfl) ?_)

theorem wakePend_kept (hM : Sub 2097161 m) {a0 : VecFire} {s : Block} (h : Kept m s0 s) :
    Kept m s0 (wakePend a0 s) := by
  unfold wakePend
  repeat' (first
    | with_reducible assumption
    | (extract_lets +onlyGivenNames r; have hr : Kept m s0 r := ?_; clear_value r; rotate_left; subst r; rotate_right)
    | (extract_lets +onlyGivenNames r; clear_value r)
    | with_reducible refine Kept.ite ?_ ?_
    | with_reducible refine Block_put_kept (hM.of rfl) ?_
    | with_reducible refine Block_putB_kept (hM.of rfl) ?_
    | with_reducible refine modQe_kept (hM.of rfl) ?_
    | with_reducible refine Block_emit_kept (hM.of rfl) ?_)

theorem qeVectorFireStep_kept (hM : Sub 2097161 m) {a0 : Nat} {s : Block} (h : Kept m s0 s) :
    Kept m s0 (qeVectorFireStep a0 s) := by
  unfold qeVectorFireStep
  repeat' (first
    | with_reducible assumption
    | with_reducible refine Kept.ite ?_ ?_
    | with_reducible refine wakePend_kept (hM.of rfl) ?_
    | with_reducible refine firingSent_kept (hM.of rfl) ?_
    | split)

theorem qeVectorTimerStep_kept (hM : Sub 2097160 m) {a0 : Nat} {s : Block} (h : Kept m s0 s) :
    Kept m s0 (qeVectorTimerStep a0 s) := by
  unfold qeVectorTimerStep
  repeat' (first
    | with_reducible assumption
    | (extract_lets +onlyGivenNames r; clear_value r)
    | with_reducible refine Kept.ite ?_ ?_
    | with_reducible refine tryFire_kept (hM.of rfl) ?_
    | with_reducible refine modQe_kept (hM.of rfl) ?_
    | with_reducible refine Block_putB_kept (hM.of rfl) ?_)

theorem dropEntries_kept (hM : Sub 18874368 m) {a0 a1 : Nat} {s : Block} (h : Kept m s0 s) :
    Kept m s0 (dropEntries a0 a1 s) := by
  unfold dropEntries
  repeat' (first
    | with_reducible assumption
    | (extract_lets +onlyGivenNames r; clear_value r)
    | with_reducible refine Kept.ite ?_ ?_
    | with_reducible refine putCtx_kept (hM.of rfl) ?_
    | with_reducible refine Block_raise_kept (hM.of rfl) ?_
    | split)

theorem enterError_kept (hM : Sub 18874376 m) {a0 : Nat} {s : Block} (h : Kept m s0 s) :
    Kept m s0 (enterError a0 s) := by
  unfold enterError
  repeat' (first
    | with_reducible assumption
    | (extract_lets +onlyGivenNames r; have hr : Kept m s0 r := ?_; clear_value r; rotate_left; subst r; rotate_right)
    | (extract_lets +onlyGivenNames r; clear_value r)
    | with_reducible refine Kept.ite ?_ ?_
    | with_reducible refine qeEvent_kept (hM.of rfl) ?_
    | with_reducible refine putCtx_kept (hM.of rfl) ?_
    | with_reducible refine tryFire_kept (hM.of rfl) ?_
    | with_reducible refine modQe_kept (hM.of rfl) ?_
    | split)

theorem badDoorbell_kept (hM : Sub 16777224 m) {s : Block} (h : Kept m s0 s) :
    Kept m s0 (badDoorbell s) := by
  unfold badDoorbell
  repeat' (first
    | with_reducible assumption
    | with_reducible refine Block_bump_kept (hM.of rfl) ?_)

theorem rejectPush_kept (hM : Sub 16777224 m) {s : Block} (h : Kept m s0 s) :
    Kept m s0 (rejectPush s) := by
  unfold rejectPush
  repeat' (first
    | with_reducible assumption
    | with_reducible refine Block_bump_kept (hM.of rfl) ?_)

theorem invalidDoorbell_kept (hM : Sub 18874376 m) {a0 : Nat} {s : Block} (h : Kept m s0 s) :
    Kept m s0 (invalidDoorbell a0 s) := by
  unfold invalidDoorbell
  repeat' (first
    | with_reducible assumption
    | (extract_lets +onlyGivenNames r; have hr : Kept m s0 r := ?_; clear_value r; rotate_left; subst r; rotate_right)
    | with_reducible refine Kept.ite ?_ ?_
    | with_reducible refine badDoorbell_kept (hM.of rfl) ?_
    | with_reducible refine qeEvent_kept (hM.of rfl) ?_
    | with_reducible refine modQe_kept (hM.of rfl) ?_)

theorem completionDoorbell_kept (hM : Sub 18874376 m) {a0 a1 : Nat} {a2 : QCtx} {s : Block} (h : Kept m s0 s) :
    Kept m s0 (completionDoorbell a0 a1 a2 s) := by
  unfold completionDoorbell
  repeat' (first
    | with_reducible assumption
    | (extract_lets +onlyGivenNames r; clear_value r)
    | with_reducible refine Kept.ite ?_ ?_
    | with_reducible refine invalidDoorbell_kept (hM.of rfl) ?_
    | with_reducible refine putCtx_kept (hM.of rfl) ?_)

theorem submissionDoorbell_kept (hM : Sub 18874376 m) {a0 a1 : Nat} {a2 : QCtx} {s : Block} (h : Kept m s0 s) :
    Kept m s0 (submissionDoorbell a0 a1 a2 s) := by
  unfold submissionDoorbell
  repeat' (first
    | with_reducible assumption
    | (extract_lets +onlyGivenNames r; clear_value r)
    | with_reducible refine Kept.ite ?_ ?_
    | with_reducible refine invalidDoorbell_kept (hM.of rfl) ?_
    | with_reducible refine putCtx_kept (hM.of rfl) ?_)

theorem creditReturn_kept (hM : Sub 18874376 m) {a0 a1 : Nat} {a2 : QCtx} {s : Block} (h : Kept m s0 s) :
    Kept m s0 (creditReturn a0 a1 a2 s) := by
  unfold creditReturn
  repeat' (first
    | with_reducible assumption
    | with_reducible refine Kept.ite ?_ ?_
    | with_reducible refine badDoorbell_kept (hM.of rfl) ?_
    | with_reducible refine putCtx_kept (hM.of rfl) ?_)

theorem pushEntry_kept (hM : Sub 18874376 m) {a0 : Nat} {a1 : List Nat} {s : Block} (h : Kept m s0 s) :
    Kept m s0 (pushEntry a0 a1 s) := by
  unfold pushEntry
  repeat' (first
    | with_reducible assumption
    | (extract_lets +onlyGivenNames r; have hr : Kept m s0 r := ?_; clear_value r; rotate_left; subst r; rotate_right)
    | (extract_lets +onlyGivenNames r; clear_value r)
    | with_reducible refine Kept.ite ?_ ?_
    | with_reducible refine dropEntries_kept (hM.of rfl) ?_
    | with_reducible refine qeEvent_kept (hM.of rfl) ?_
    | with_reducible refine putCtx_kept (hM.of rfl) ?_
    | with_reducible refine modQe_kept (hM.of rfl) ?_
    | split)

theorem pushWork_kept (hM : Sub 18874376 m) {a0 a1 : Nat} {a2 : Bool} {a3 : BitVec 512} {a4 : QCtx} {s : Block} (h : Kept m s0 s) :
    Kept m s0 (pushWork a0 a1 a2 a3 a4 s) := by
  unfold pushWork
  repeat' (first
    | with_reducible assumption
    | (extract_lets +onlyGivenNames r; clear_value r)
    | with_reducible refine Kept.ite ?_ ?_
    | with_reducible refine rejectPush_kept (hM.of rfl) ?_
    | with_reducible refine pushEntry_kept (hM.of rfl) ?_)

theorem doWork_kept (hM : Sub 18874376 m) {a0 : QWork} {s : Block} (h : Kept m s0 s) :
    Kept m s0 (doWork a0 s) := by
  unfold doWork
  repeat' (first
    | with_reducible assumption
    | with_reducible refine Kept.ite ?_ ?_
    | with_reducible refine pushWork_kept (hM.of rfl) ?_
    | with_reducible refine badDoorbell_kept (hM.of rfl) ?_
    | with_reducible refine submissionDoorbell_kept (hM.of rfl) ?_
    | with_reducible refine completionDoorbell_kept (hM.of rfl) ?_
    | with_reducible refine creditReturn_kept (hM.of rfl) ?_
    | split)

theorem workArrive_kept (hM : Sub 18874376 m) {a0 : QWork} {s : Block} (h : Kept m s0 s) :
    Kept m s0 (workArrive a0 s) := by
  unfold workArrive
  repeat' (first
    | with_reducible assumption
    | (extract_lets +onlyGivenNames r; have hr : Kept m s0 r := ?_; clear_value r; rotate_left; subst r; rotate_right)
    | (extract_lets +onlyGivenNames r; clear_value r)
    | with_reducible refine Kept.ite ?_ ?_
    | with_reducible refine doWork_kept (hM.of rfl) ?_
    | with_reducible refine Block_bump_kept (hM.of rfl) ?_
    | with_reducible refine modQe_kept (hM.of rfl) ?_)

theorem qePushArrive_kept (hM : Sub 18874376 m) {a0 a1 : Nat} {a2 : Bool} {a3 : BitVec 512} {s : Block} (h : Kept m s0 s) :
    Kept m s0 (qePushArrive a0 a1 a2 a3 s) := by
  unfold qePushArrive
  repeat' (first
    | with_reducible assumption
    | with_reducible refine Kept.ite ?_ ?_
    | with_reducible refine workArrive_kept (hM.of rfl) ?_
    | with_reducible refine rejectPush_kept (hM.of rfl) ?_)

theorem qeDoorbellArrive_kept (hM : Sub 18874376 m) {a0 a1 a2 : Nat} {s : Block} (h : Kept m s0 s) :
    Kept m s0 (qeDoorbellArrive a0 a1 a2 s) := by
  unfold qeDoorbellArrive
  repeat' (first
    | with_reducible assumption
    | with_reducible refine Kept.ite ?_ ?_
    | with_reducible refine workArrive_kept (hM.of rfl) ?_
    | with_reducible refine badDoorbell_kept (hM.of rfl) ?_)

theorem qeCreditArrive_kept (hM : Sub 18874376 m) {a0 a1 a2 : Nat} {s : Block} (h : Kept m s0 s) :
    Kept m s0 (qeCreditArrive a0 a1 a2 s) := by
  unfold qeCreditArrive
  repeat' (first
    | with_reducible assumption
    | with_reducible refine Kept.ite ?_ ?_
    | with_reducible refine workArrive_kept (hM.of rfl) ?_
    | with_reducible refine badDoorbell_kept (hM.of rfl) ?_)

theorem writeBack_kept (hM : Sub 18939913 m) {a0 : Nat} {a1 : QCache} {s : Block} (h : Kept m s0 s) :
    Kept m s0 (writeBack a0 a1 s).2 := by
  unfold writeBack
  repeat' (first
    | with_reducible assumption
    | (extract_lets +onlyGivenNames r; have hr : Kept m s0 r.2 := ?_; clear_value r; rotate_left; subst r; rotate_right)
    | with_reducible refine Kept.ite2 ?_ ?_
    | with_reducible refine writeMem_kept (hM.of rfl) ?_
    | with_reducible refine modQe_kept (hM.of rfl) ?_
    | with_reducible refine Block_bump_kept (hM.of rfl) ?_)

theorem uncache_kept (hM : Sub 2097152 m) {a0 : Nat} {s : Block} (h : Kept m s0 s) :
    Kept m s0 (uncache a0 s) := by
  unfold uncache
  repeat' (first
    | with_reducible assumption
    | with_reducible refine modQe_kept (hM.of rfl) ?_)

theorem evictOne_kept (hM : Sub 18939913 m) {s : Block} (h : Kept m s0 s) :
    Kept m s0 (evictOne s).2 := by
  unfold evictOne
  repeat' (first
    | with_reducible assumption
    | (extract_lets +onlyGivenNames r; have hr : Kept m s0 r.2 := ?_; clear_value r; rotate_left; subst r; rotate_right)
    | with_reducible refine Kept.ite2 ?_ ?_
    | with_reducible refine writeBack_kept (hM.of rfl) ?_
    | with_reducible refine uncache_kept (hM.of rfl) ?_
    | split)

theorem makeRoom_kept (hM : Sub 18939913 m) {a0 : Nat} {s : Block} (h : Kept m s0 s) :
    Kept m s0 (makeRoom a0 s).2 := by
  unfold makeRoom
  repeat' (first
    | with_reducible assumption
    | with_reducible refine Kept.ite2 ?_ ?_
    | with_reducible refine evictOne_kept (hM.of rfl) ?_)

theorem contextRead_kept (hM : Sub 18939915 m) {a0 : Nat} {s : Block} (h : Kept m s0 s) :
    Kept m s0 (contextRead a0 s) := by
  unfold contextRead
  repeat' (first
    | with_reducible assumption
    | intro _
    | (extract_lets +onlyGivenNames r; have hr : Kept m s0 r := ?_; clear_value r; rotate_left; subst r; rotate_right)
    | (extract_lets +onlyGivenNames r; have hr : Kept m s0 r.2 := ?_; clear_value r; rotate_left; subst r; rotate_right)
    | (extract_lets +onlyGivenNames r; clear_value r)
    | with_reducible refine Kept.ite ?_ ?_
    | with_reducible refine Kept.foldl ?_ ?_
    | with_reducible refine readMem_kept (hM.of rfl) ?_
    | with_reducible refine makeRoom_kept (hM.of rfl) ?_
    | with_reducible refine modQe_kept (hM.of rfl) ?_
    | with_reducible refine doWork_kept (hM.of rfl) ?_
    | with_reducible refine Block_bump_kept (hM.of rfl) ?_
    | split)

theorem qeContextFillStep_kept (hM : Sub 18939915 m) {a0 : Nat} {s : Block} (h : Kept m s0 s) :
    Kept m s0 (qeContextFillStep a0 s) := by
  unfold qeContextFillStep
  repeat' (first
    | with_reducible assumption
    | with_reducible refine Kept.ite ?_ ?_
    | with_reducible refine contextRead_kept (hM.of rfl) ?_)

theorem evictNow_kept (hM : Sub 18939913 m) {a0 : Nat} {a1 : QCache} {s : Block} (h : Kept m s0 s) :
    Kept m s0 (evictNow a0 a1 s) := by
  unfold evictNow
  repeat' (first
    | with_reducible assumption
    | (extract_lets +onlyGivenNames r; have hr : Kept m s0 r.2 := ?_; clear_value r; rotate_left; subst r; rotate_right)
    | with_reducible refine Kept.ite ?_ ?_
    | with_reducible refine uncache_kept (hM.of rfl) ?_
    | with_reducible refine writeBack_kept (hM.of rfl) ?_)

theorem qeContextWritebackStep_kept (hM : Sub 18939913 m) {a0 : Nat} {a1 : Bool} {s : Block} (h : Kept m s0 s) :
    Kept m s0 (qeContextWritebackStep a0 a1 s) := by
  unfold qeContextWritebackStep
  repeat' (first
    | with_reducible assumption
    | with_reducible refine Kept.ite ?_ ?_
    | with_reducible refine evictNow_kept (hM.of rfl) ?_
    | with_reducible refine writeBack_kept (hM.of rfl) ?_
    | split)

theorem qeContextRetryStep_kept (hM : Sub 18939915 m) {a0 : Nat} {s : Block} (h : Kept m s0 s) :
    Kept m s0 (qeContextRetryStep a0 s) := by
  unfold qeContextRetryStep
  repeat' (first
    | with_reducible assumption
    | with_reducible refine Kept.ite ?_ ?_
    | with_reducible refine writeBack_kept (hM.of rfl) ?_
    | with_reducible refine contextRead_kept (hM.of rfl) ?_
    | split)

theorem settleDestroy_kept (hM : Sub 10485760 m) {a0 : Nat} {s : Block} (h : Kept m s0 s) :
    Kept m s0 (settleDestroy a0 s) := by
  unfold settleDestroy
  repeat' (first
    | with_reducible assumption
    | (extract_lets +onlyGivenNames r; have hr : Kept m s0 r := ?_; clear_value r; rotate_left; subst r; rotate_right)
    | with_reducible refine Kept.ite ?_ ?_
    | with_reducible refine modQe_kept (hM.of rfl) ?_
    | with_reducible refine Block_close_kept (hM.of rfl) ?_
    | with_reducible refine putCtx_kept (hM.of rfl) ?_)

theorem writeAnswered_kept (hM : Sub 27328521 m) {a0 : RingWrite} {a1 : Bool} {s : Block} (h : Kept m s0 s) :
    Kept m s0 (writeAnswered a0 a1 s) := by
  unfold writeAnswered
  repeat' (first
    | with_reducible assumption
    | (extract_lets +onlyGivenNames r; have hr : Kept m s0 r := ?_; clear_value r; rotate_left; subst r; rotate_right)
    | (extract_lets +onlyGivenNames r; have hr : Kept m s0 r.2 := ?_; clear_value r; rotate_left; subst r; rotate_right)
    | with_reducible refine Kept.ite ?_ ?_
    | with_reducible refine Kept.ite2 ?_ ?_
    | with_reducible refine writeMem_kept (hM.of rfl) ?_
    | with_reducible refine modQe_kept (hM.of rfl) ?_
    | with_reducible refine countVec_kept (hM.of rfl) ?_
    | with_reducible refine enterError_kept (hM.of rfl) ?_
    | with_reducible refine dropEntries_kept (hM.of rfl) ?_
    | with_reducible refine settleWoken_kept (hM.of rfl) ?_
    | with_reducible refine settleDestroy_kept (hM.of rfl) ?_
    | split)

theorem qeRingWriteResponseStep_kept (hM : Sub 27328521 m) {a0 : Nat} {a1 : Bool} {s : Block} (h : Kept m s0 s) :
    Kept m s0 (qeRingWriteResponseStep a0 a1 s) := by
  unfold qeRingWriteResponseStep
  repeat' (first
    | with_reducible assumption
    | with_reducible refine writeAnswered_kept (hM.of rfl) ?_
    | split)

theorem qeSubmissionFetchStep_kept (hM : Sub 18939913 m) {a0 : Nat} {s : Block} (h : Kept m s0 s) :
    Kept m s0 (qeSubmissionFetchStep a0 s) := by
  unfold qeSubmissionFetchStep
  repeat' (first
    | with_reducible assumption
    | (extract_lets +onlyGivenNames r; have hr : Kept m s0 r.2 := ?_; clear_value r; rotate_left; subst r; rotate_right)
    | with_reducible refine Kept.ite ?_ ?_
    | with_reducible refine makeRoom_kept (hM.of rfl) ?_
    | with_reducible refine modQe_kept (hM.of rfl) ?_
    | with_reducible refine putCtx_kept (hM.of rfl) ?_
    | split)

theorem postWrite_kept (hM : Sub 18939913 m) {a0 : Nat} {a1 : List Nat} {s : Block} (h : Kept m s0 s) :
    Kept m s0 (postWrite a0 a1 s) := by
  unfold postWrite
  repeat' (first
    | with_reducible assumption
    | with_reducible refine Kept.ite ?_ ?_
    | with_reducible refine Block_emit_kept (hM.of rfl) ?_
    | with_reducible refine bumpDiscard_kept (hM.of rfl) ?_
    | with_reducible refine writeMem_kept (hM.of rfl) ?_
    | with_reducible refine qePushArrive_kept (hM.of rfl) ?_
    | with_reducible refine badDoorbell_kept (hM.of rfl) ?_
    | split)

theorem deliverOne_kept (hM : Sub 18939915 m) {a0 a1 : Nat} {s : Bool × Block} (h : Kept m s0 s.2) :
    Kept m s0 (deliverOne a0 a1 s).2 := by
  unfold deliverOne
  repeat' (first
    | with_reducible assumption
    | (extract_lets +onlyGivenNames r; have hr : Kept m s0 r := ?_; clear_value r; rotate_left; subst r; rotate_right)
    | (extract_lets +onlyGivenNames r; have hr : Kept m s0 r.2 := ?_; clear_value r; rotate_left; subst r; rotate_right)
    | (extract_lets +onlyGivenNames r; clear_value r)
    | with_reducible refine Kept.ite ?_ ?_
    | with_reducible refine Kept.ite2 ?_ ?_
    | with_reducible refine readMem_kept (hM.of rfl) ?_
    | with_reducible refine postWrite_kept (hM.of rfl) ?_
    | with_reducible refine putCtx_kept (hM.of rfl) ?_
    | with_reducible refine modQe_kept (hM.of rfl) ?_
    | with_reducible refine countVec_kept (hM.of rfl) ?_
    | split)

theorem fetchAnswered_kept (hM : Sub 27328523 m) {a0 a1 a2 : Nat} {a3 : Bool} {s : Block} (h : Kept m s0 s) :
    Kept m s0 (fetchAnswered a0 a1 a2 a3 s) := by
  unfold fetchAnswered
  repeat' (first
    | with_reducible assumption
    | intro _
    | (extract_lets +onlyGivenNames r; have hr : Kept m s0 r := ?_; clear_value r; rotate_left; subst r; rotate_right)
    | (extract_lets +onlyGivenNames r; have hr : Kept m s0 r.2 := ?_; clear_value r; rotate_left; subst r; rotate_right)
    | with_reducible refine Kept.ite ?_ ?_
    | with_reducible refine Kept.foldl2 ?_ ?_
    | with_reducible refine modQe_kept (hM.of rfl) ?_
    | with_reducible refine settleDestroy_kept (hM.of rfl) ?_
    | with_reducible refine deliverOne_kept (hM.of rfl) ?_
    | with_reducible refine enterError_kept (hM.of rfl) ?_
    | split)

theorem qeFetchResponseStep_kept (hM : Sub 27328523 m) {a0 : Nat} {a1 : Bool} {s : Block} (h : Kept m s0 s) :
    Kept m s0 (qeFetchResponseStep a0 a1 s) := by
  unfold qeFetchResponseStep
  repeat' (first
    | with_reducible assumption
    | with_reducible refine fetchAnswered_kept (hM.of rfl) ?_
    | split)

theorem qeHeadWritebackStep_kept (hM : Sub 18939913 m) {a0 : Nat} {s : Block} (h : Kept m s0 s) :
    Kept m s0 (qeHeadWritebackStep a0 s) := by
  unfold qeHeadWritebackStep
  repeat' (first
    | with_reducible assumption
    | (extract_lets +onlyGivenNames r; have hr : Kept m s0 r := ?_; clear_value r; rotate_left; subst r; rotate_right)
    | with_reducible refine Kept.ite ?_ ?_
    | with_reducible refine modQe_kept (hM.of rfl) ?_
    | with_reducible refine postWrite_kept (hM.of rfl) ?_
    | split)

theorem sleepBegin_kept (hM : Sub 2097160 m) {s : Block} (h : Kept m s0 s) :
    Kept m s0 (sleepBegin s) := by
  unfold sleepBegin
  repeat' (first
    | with_reducible assumption
    | intro _
    | (extract_lets +onlyGivenNames r; have hr : Kept m s0 r := ?_; clear_value r; rotate_left; subst r; rotate_right)
    | (extract_lets +onlyGivenNames r; clear_value r)
    | with_reducible refine forEach_kept (hM.of rfl) ?_ ?_
    | with_reducible refine beginFire_kept (hM.of rfl) ?_
    | with_reducible refine Block_put_kept (hM.of rfl) ?_
    | with_reducible refine modQe_kept (hM.of rfl) ?_)

theorem qeSleepReqStep_kept (hM : Sub 2097161 m) {s : Block} (h : Kept m s0 s) :
    Kept m s0 (qeSleepReqStep s) := by
  unfold qeSleepReqStep
  repeat' (first
    | with_reducible assumption
    | with_reducible refine Kept.ite ?_ ?_
    | with_reducible refine sleepBegin_kept (hM.of rfl) ?_
    | with_reducible refine Block_emit_kept (hM.of rfl) ?_)

theorem hostAwake_kept (hM : Sub 6291465 m) {s : Block} (h : Kept m s0 s) :
    Kept m s0 (hostAwake s) := by
  unfold hostAwake
  repeat' (first
    | with_reducible assumption
    | intro _
    | (extract_lets +onlyGivenNames r; have hr : Kept m s0 r := ?_; clear_value r; rotate_left; subst r; rotate_right)
    | with_reducible refine modQe_kept (hM.of rfl) ?_
    | with_reducible refine Block_put_kept (hM.of rfl) ?_
    | with_reducible refine forEach_kept (hM.of rfl) ?_ ?_
    | with_reducible refine tryFire_kept (hM.of rfl) ?_
    | with_reducible refine eicHostAwake_kept (hM.of rfl) ?_
    | with_reducible refine settleWoken_kept (hM.of rfl) ?_)

theorem asleep_kept (hM : Sub 4194313 m) {s : Block} (h : Kept m s0 s) :
    Kept m s0 (asleep s) := by
  unfold asleep
  repeat' (first
    | with_reducible assumption
    | (extract_lets +onlyGivenNames r; have hr : Kept m s0 r := ?_; clear_value r; rotate_left; subst r; rotate_right)
    | (extract_lets +onlyGivenNames r; clear_value r)
    | with_reducible refine Kept.ite ?_ ?_
    | with_reducible refine Block_emit_kept (hM.of rfl) ?_
    | with_reducible refine Block_put_kept (hM.of rfl) ?_
    | with_reducible refine Kept.upd ?_ (h_eic := .inr (hM.of rfl)))

theorem qeSleepEnteredStep_kept (hM : Sub 6291465 m) {s : Block} (h : Kept m s0 s) :
    Kept m s0 (qeSleepEnteredStep s) := by
  unfold qeSleepEnteredStep
  repeat' (first
    | with_reducible assumption
    | with_reducible refine Kept.ite ?_ ?_
    | with_reducible refine hostAwake_kept (hM.of rfl) ?_
    | with_reducible refine asleep_kept (hM.of rfl) ?_)

theorem qeAwakeStep_kept (hM : Sub 6291465 m) {s : Block} (h : Kept m s0 s) :
    Kept m s0 (qeAwakeStep s) := by
  unfold qeAwakeStep
  repeat' (first
    | with_reducible assumption
    | with_reducible refine Kept.ite ?_ ?_
    | with_reducible refine modQe_kept (hM.of rfl) ?_
    | with_reducible refine hostAwake_kept (hM.of rfl) ?_)

theorem qeHostReset_kept (hM : Sub 2097160 m) {s : Block} (h : Kept m s0 s) :
    Kept m s0 (qeHostReset s) := by
  unfold qeHostReset
  repeat' (first
    | with_reducible assumption
    | intro _
    | (extract_lets +onlyGivenNames r; have hr : Kept m s0 r := ?_; clear_value r; rotate_left; subst r; rotate_right)
    | with_reducible refine forEach_kept (hM.of rfl) ?_ ?_
    | with_reducible refine Block_putB_kept (hM.of rfl) ?_
    | with_reducible refine modQe_kept (hM.of rfl) ?_
    | with_reducible refine Block_put_kept (hM.of rfl) ?_)

theorem vecChanged_kept (hM : Sub 2097161 m) {a0 : Nat} {s : Block} (h : Kept m s0 s) :
    Kept m s0 (vecChanged a0 s) := by
  unfold vecChanged
  repeat' (first
    | with_reducible assumption
    | with_reducible refine settleWoken_kept (hM.of rfl) ?_
    | with_reducible refine tryFire_kept (hM.of rfl) ?_)

theorem qeGroupAssignCmd_kept (hM : Sub 10485760 m) {a0 a1 : Nat} {a2 : Cmd} {s : Block} (h : Kept m s0 s) :
    Kept m s0 (qeGroupAssignCmd a0 a1 a2 s) := by
  unfold qeGroupAssignCmd
  repeat' (first
    | with_reducible assumption
    | with_reducible refine Kept.ite ?_ ?_
    | with_reducible refine Block_respond_kept (hM.of rfl) ?_
    | with_reducible refine modQe_kept (hM.of rfl) ?_
    | split)

theorem qeQueueCreateCmd_kept (hM : Sub 27328521 m) {a0 a1 a2 a3 a4 a5 a6 a7 a8 a9 a10 a11 a12 : Nat} {a13 : Cmd} {s : Block} (h : Kept m s0 s) :
    Kept m s0 (qeQueueCreateCmd a0 a1 a2 a3 a4 a5 a6 a7 a8 a9 a10 a11 a12 a13 s) := by
  unfold qeQueueCreateCmd
  repeat' (first
    | with_reducible assumption
    | (extract_lets +onlyGivenNames r; have hr : Kept m s0 r.2 := ?_; clear_value r; rotate_left; subst r; rotate_right)
    | with_reducible refine Kept.ite ?_ ?_
    | with_reducible refine Block_respond_kept (hM.of rfl) ?_
    | with_reducible refine makeRoom_kept (hM.of rfl) ?_
    | with_reducible refine putCtx_kept (hM.of rfl) ?_
    | with_reducible refine modQe_kept (hM.of rfl) ?_)

theorem onQueue_kept (hM : Sub 27328521 m) {a0 : Nat} {a1 : Cmd} {a2 : QCtx → Block → Block} {s : Block} (h2 : ∀ x0 s, Kept m s0 s → Kept m s0 (a2 x0 s)) (h : Kept m s0 s) :
    Kept m s0 (onQueue a0 a1 a2 s) := by
  unfold onQueue
  repeat' (first
    | with_reducible assumption
    | (extract_lets +onlyGivenNames r; have hr : Kept m s0 r.2 := ?_; clear_value r; rotate_left; subst r; rotate_right)
    | with_reducible refine Kept.ite ?_ ?_
    | with_reducible refine h2 _ _ ?_
    | with_reducible refine Block_respond_kept (hM.of rfl) ?_
    | with_reducible refine Block_bump_kept (hM.of rfl) ?_
    | with_reducible refine makeRoom_kept (hM.of rfl) ?_
    | split)

theorem queueClosing_kept (hM : Sub 2097152 m) {a0 : Nat} {a1 : QCtx} {s : Block} (h : Kept m s0 s) :
    Kept m s0 (queueClosing a0 a1 s) := by
  unfold queueClosing
  repeat' (first
    | with_reducible assumption
    | with_reducible refine modQe_kept (hM.of rfl) ?_
    | with_reducible refine putCtx_kept (hM.of rfl) ?_)

theorem qeQueueDestroyCmd_kept (hM : Sub 27328521 m) {a0 : Nat} {a1 : Cmd} {s : Block} (h : Kept m s0 s) :
    Kept m s0 (qeQueueDestroyCmd a0 a1 s) := by
  unfold qeQueueDestroyCmd
  repeat' (first
    | with_reducible assumption
    | intro _
    | with_reducible refine onQueue_kept (hM.of rfl) ?_ ?_
    | with_reducible refine settleDestroy_kept (hM.of rfl) ?_
    | with_reducible refine Block_hold_kept (hM.of rfl) ?_
    | with_reducible refine queueClosing_kept (hM.of rfl) ?_)

theorem queueAfresh_kept (hM : Sub 2097152 m) {a0 : Nat} {a1 : QCtx} {s : Block} (h : Kept m s0 s) :
    Kept m s0 (queueAfresh a0 a1 s) := by
  unfold queueAfresh
  repeat' (first
    | with_reducible assumption
    | (extract_lets +onlyGivenNames r; have hr : Kept m s0 r := ?_; clear_value r; rotate_left; subst r; rotate_right)
    | with_reducible refine modQe_kept (hM.of rfl) ?_
    | with_reducible refine putCtx_kept (hM.of rfl) ?_)

theorem qeQueueResetCmd_kept (hM : Sub 27328521 m) {a0 : Nat} {a1 : Cmd} {s : Block} (h : Kept m s0 s) :
    Kept m s0 (qeQueueResetCmd a0 a1 s) := by
  unfold qeQueueResetCmd
  repeat' (first
    | with_reducible assumption
    | intro _
    | with_reducible refine onQueue_kept (hM.of rfl) ?_ ?_
    | with_reducible refine Block_respond_kept (hM.of rfl) ?_
    | with_reducible refine queueAfresh_kept (hM.of rfl) ?_)

theorem qeQueueStatusCmd_kept (hM : Sub 27328521 m) {a0 : Nat} {a1 : Cmd} {s : Block} (h : Kept m s0 s) :
    Kept m s0 (qeQueueStatusCmd a0 a1 s) := by
  unfold qeQueueStatusCmd
  repeat' (first
    | with_reducible assumption
    | intro _
    | with_reducible refine onQueue_kept (hM.of rfl) ?_ ?_
    | with_reducible refine Block_respond_kept (hM.of rfl) ?_)

theorem vectorPut_kept (hM : Sub 8 m) {a0 a1 a2 a3 a4 : Nat} {s : Block} (h : Kept m s0 s) :
    Kept m s0 (vectorPut a0 a1 a2 a3 a4 s) := by
  unfold vectorPut
  repeat' (first
    | with_reducible assumption
    | (extract_lets +onlyGivenNames r; clear_value r)
    | with_reducible refine Block_put_kept (hM.of rfl) ?_)

theorem qeVectorSetCmd_kept (hM : Sub 10485769 m) {a0 a1 a2 a3 a4 a5 : Nat} {a6 : Cmd} {s : Block} (h : Kept m s0 s) :
    Kept m s0 (qeVectorSetCmd a0 a1 a2 a3 a4 a5 a6 s) := by
  unfold qeVectorSetCmd
  repeat' (first
    | with_reducible assumption
    | (extract_lets +onlyGivenNames r; clear_value r)
    | with_reducible refine Kept.ite ?_ ?_
    | with_reducible refine Block_respond_kept (hM.of rfl) ?_
    | with_reducible refine vecChanged_kept (hM.of rfl) ?_
    | with_reducible refine vectorPut_kept (hM.of rfl) ?_)

theorem qeStatusCmd_kept (hM : Sub 8388608 m) {a0 : Cmd} {s : Block} (h : Kept m s0 s) :
    Kept m s0 (qeStatusCmd a0 s) := by
  unfold qeStatusCmd
  repeat' (first
    | with_reducible assumption
    | with_reducible refine Block_respond_kept (hM.of rfl) ?_)

theorem execQeVectorFire_ran (hM : Sub 2097161 m) (a0 : Fin 4352) (s : State) : Ran m s (execQeVectorFire a0 s) := by
  unfold execQeVectorFire
  refine clocked_ran (fun s0 s h => ?_) s
  repeat' (first
    | with_reducible assumption
    | with_reducible refine qeVectorFireStep_kept (hM.of rfl) ?_)

theorem execQeVectorTimer_ran (hM : Sub 2097160 m) (a0 : Fin 4352) (s : State) : Ran m s (execQeVectorTimer a0 s) := by
  unfold execQeVectorTimer
  refine clocked_ran (fun s0 s h => ?_) s
  repeat' (first
    | with_reducible assumption
    | with_reducible refine qeVectorTimerStep_kept (hM.of rfl) ?_)

theorem execQeCompletionDoorbell_ran (hM : Sub 18874376 m) (a0 : BitVec 12) (a1 : Fin 1048576) (a2 : BitVec 64) (s : State) : Ran m s (execQeCompletionDoorbell a0 a1 a2 s) := by
  unfold execQeCompletionDoorbell
  refine clocked_ran (fun s0 s h => ?_) s
  repeat' (first
    | with_reducible assumption
    | with_reducible refine Kept.ite ?_ ?_
    | with_reducible refine qeDoorbellArrive_kept (hM.of rfl) ?_)

theorem execQeSubmissionDoorbell_ran (hM : Sub 18874376 m) (a0 : BitVec 12) (a1 : Fin 1048576) (a2 : BitVec 64) (s : State) : Ran m s (execQeSubmissionDoorbell a0 a1 a2 s) := by
  unfold execQeSubmissionDoorbell
  refine clocked_ran (fun s0 s h => ?_) s
  repeat' (first
    | with_reducible assumption
    | with_reducible refine Kept.ite ?_ ?_
    | with_reducible refine qeDoorbellArrive_kept (hM.of rfl) ?_)

theorem execQePush_ran (hM : Sub 18874376 m) (a0 : BitVec 12) (a1 : Fin 1048576) (a2 : Bool) (a3 : BitVec 512) (s : State) : Ran m s (execQePush a0 a1 a2 a3 s) := by
  unfold execQePush
  refine clocked_ran (fun s0 s h => ?_) s
  repeat' (first
    | with_reducible assumption
    | with_reducible refine qePushArrive_kept (hM.of rfl) ?_)

theorem execQeCreditReturn_ran (hM : Sub 18874376 m) (a0 : BitVec 12) (a1 : Fin 1048576) (a2 : BitVec 64) (s : State) : Ran m s (execQeCreditReturn a0 a1 a2 s) := by
  unfold execQeCreditReturn
  refine clocked_ran (fun s0 s h => ?_) s
  repeat' (first
    | with_reducible assumption
    | with_reducible refine qeCreditArrive_kept (hM.of rfl) ?_)

theorem execQeContextFill_ran (hM : Sub 18939915 m) (a0 : Fin 1048576) (s : State) : Ran m s (execQeContextFill a0 s) := by
  unfold execQeContextFill
  refine clocked_ran (fun s0 s h => ?_) s
  repeat' (first
    | with_reducible assumption
    | with_reducible refine qeContextFillStep_kept (hM.of rfl) ?_)

theorem execQeContextWriteback_ran (hM : Sub 18939913 m) (a0 : Fin 1048576) (a1 : Bool) (s : State) : Ran m s (execQeContextWriteback a0 a1 s) := by
  unfold execQeContextWriteback
  refine clocked_ran (fun s0 s h => ?_) s
  repeat' (first
    | with_reducible assumption
    | with_reducible refine qeContextWritebackStep_kept (hM.of rfl) ?_)

theorem execQeContextRetry_ran (hM : Sub 18939915 m) (a0 : Fin 1048576) (s : State) : Ran m s (execQeContextRetry a0 s) := by
  unfold execQeContextRetry
  refine clocked_ran (fun s0 s h => ?_) s
  repeat' (first
    | with_reducible assumption
    | with_reducible refine qeContextRetryStep_kept (hM.of rfl) ?_)

theorem execQeRingWriteResponse_ran (hM : Sub 27328521 m) (a0 : Nat) (a1 : Bool) (s : State) : Ran m s (execQeRingWriteResponse a0 a1 s) := by
  unfold execQeRingWriteResponse
  refine clocked_ran (fun s0 s h => ?_) s
  repeat' (first
    | with_reducible assumption
    | with_reducible refine qeRingWriteResponseStep_kept (hM.of rfl) ?_)

theorem execQeSubmissionFetch_ran (hM : Sub 18939913 m) (a0 : Fin 1048576) (s : State) : Ran m s (execQeSubmissionFetch a0 s) := by
  unfold execQeSubmissionFetch
  refine clocked_ran (fun s0 s h => ?_) s
  repeat' (first
    | with_reducible assumption
    | with_reducible refine qeSubmissionFetchStep_kept (hM.of rfl) ?_)

theorem execQeFetchResponse_ran (hM : Sub 27328523 m) (a0 : Nat) (a1 : Bool) (s : State) : Ran m s (execQeFetchResponse a0 a1 s) := by
  unfold execQeFetchResponse
  refine clocked_ran (fun s0 s h => ?_) s
  repeat' (first
    | with_reducible assumption
    | with_reducible refine qeFetchResponseStep_kept (hM.of rfl) ?_)

theorem execQeHeadWriteback_ran (hM : Sub 18939913 m) (a0 : Fin 1048576) (s : State) : Ran m s (execQeHeadWriteback a0 s) := by
  unfold execQeHeadWriteback
  refine clocked_ran (fun s0 s h => ?_) s
  repeat' (first
    | with_reducible assumption
    | with_reducible refine qeHeadWritebackStep_kept (hM.of rfl) ?_)

theorem execQeSleepReq_ran (hM : Sub 2097161 m) (s : State) : Ran m s (execQeSleepReq s) := by
  unfold execQeSleepReq
  refine clocked_ran (fun s0 s h => ?_) s
  repeat' (first
    | with_reducible assumption
    | with_reducible refine qeSleepReqStep_kept (hM.of rfl) ?_)

theorem execQeSleepEntered_ran (hM : Sub 6291465 m) (s : State) : Ran m s (execQeSleepEntered s) := by
  unfold execQeSleepEntered
  refine clocked_ran (fun s0 s h => ?_) s
  repeat' (first
    | with_reducible assumption
    | with_reducible refine qeSleepEnteredStep_kept (hM.of rfl) ?_)

theorem execQeAwake_ran (hM : Sub 6291465 m) (s : State) : Ran m s (execQeAwake s) := by
  unfold execQeAwake
  refine clocked_ran (fun s0 s h => ?_) s
  repeat' (first
    | with_reducible assumption
    | with_reducible refine qeAwakeStep_kept (hM.of rfl) ?_)

theorem execQeGroupAssign_ran (hM : Sub 10485760 m) (a0 : Hdr) (a1 : Nat) (a2 : Nat) (s : State) : Ran m s (execQeGroupAssign a0 a1 a2 s) := by
  unfold execQeGroupAssign
  refine live_ran (fun s0 s h => ?_) s
  repeat' (first
    | with_reducible assumption
    | intro _
    | with_reducible refine Block_command_kept (hM.of rfl) ?_ ?_
    | with_reducible refine qeGroupAssignCmd_kept (hM.of rfl) ?_)

theorem execQeQueueCreate_ran (hM : Sub 27328521 m) (a0 : Hdr) (a1 : Nat) (a2 : Nat) (a3 : Nat) (a4 : Nat) (a5 : Nat) (a6 : Nat) (a7 : Nat) (a8 : Nat) (a9 : Nat) (a10 : Nat) (a11 : Nat) (a12 : Nat) (a13 : Nat) (s : State) : Ran m s (execQeQueueCreate a0 a1 a2 a3 a4 a5 a6 a7 a8 a9 a10 a11 a12 a13 s) := by
  unfold execQeQueueCreate
  refine live_ran (fun s0 s h => ?_) s
  repeat' (first
    | with_reducible assumption
    | intro _
    | with_reducible refine Block_command_kept (hM.of rfl) ?_ ?_
    | with_reducible refine qeQueueCreateCmd_kept (hM.of rfl) ?_)

theorem execQeQueueDestroy_ran (hM : Sub 27328521 m) (a0 : Hdr) (a1 : Nat) (s : State) : Ran m s (execQeQueueDestroy a0 a1 s) := by
  unfold execQeQueueDestroy
  refine live_ran (fun s0 s h => ?_) s
  repeat' (first
    | with_reducible assumption
    | intro _
    | with_reducible refine Block_command_kept (hM.of rfl) ?_ ?_
    | with_reducible refine qeQueueDestroyCmd_kept (hM.of rfl) ?_)

theorem execQeQueueReset_ran (hM : Sub 27328521 m) (a0 : Hdr) (a1 : Nat) (s : State) : Ran m s (execQeQueueReset a0 a1 s) := by
  unfold execQeQueueReset
  refine live_ran (fun s0 s h => ?_) s
  repeat' (first
    | with_reducible assumption
    | intro _
    | with_reducible refine Block_command_kept (hM.of rfl) ?_ ?_
    | with_reducible refine qeQueueResetCmd_kept (hM.of rfl) ?_)

theorem execQeQueueStatus_ran (hM : Sub 27328521 m) (a0 : Hdr) (a1 : Nat) (s : State) : Ran m s (execQeQueueStatus a0 a1 s) := by
  unfold execQeQueueStatus
  refine live_ran (fun s0 s h => ?_) s
  repeat' (first
    | with_reducible assumption
    | intro _
    | with_reducible refine Block_command_kept (hM.of rfl) ?_ ?_
    | with_reducible refine qeQueueStatusCmd_kept (hM.of rfl) ?_)

theorem execQeVectorSet_ran (hM : Sub 10485769 m) (a0 : Hdr) (a1 : Nat) (a2 : Nat) (a3 : Nat) (a4 : Nat) (a5 : Nat) (a6 : Nat) (s : State) : Ran m s (execQeVectorSet a0 a1 a2 a3 a4 a5 a6 s) := by
  unfold execQeVectorSet
  refine live_ran (fun s0 s h => ?_) s
  repeat' (first
    | with_reducible assumption
    | intro _
    | with_reducible refine Block_command_kept (hM.of rfl) ?_ ?_
    | with_reducible refine qeVectorSetCmd_kept (hM.of rfl) ?_)

theorem execQeStatus_ran (hM : Sub 8388608 m) (a0 : Hdr) (s : State) : Ran m s (execQeStatus a0 s) := by
  unfold execQeStatus
  refine live_ran (fun s0 s h => ?_) s
  repeat' (first
    | with_reducible assumption
    | intro _
    | with_reducible refine Block_command_kept (hM.of rfl) ?_ ?_
    | with_reducible refine qeStatusCmd_kept (hM.of rfl) ?_)

/-! ### Security -/

theorem modSec_kept (hM : Sub 67108864 m) {a0 : SecSt → SecSt} {s : Block} (h : Kept m s0 s) :
    Kept m s0 (modSec a0 s) := by
  unfold modSec
  repeat' (first
    | with_reducible assumption
    | with_reducible refine Kept.upd ?_ (h_sec := .inr (hM.of rfl)))

theorem modNv_kept (hM : Sub 268435456 m) {s : Block} {f : NvSt → NvSt}
    (hf : ∀ n, spWf flashErased n.flash = true → spWf flashErased (f n).flash = true) (h : Kept m s0 s) : Kept m s0 (modNv f s) := by
  unfold modNv
  exact Kept.on_nv h (hM.of rfl) (fun w => hf _ w)

theorem modFwu_kept (hM : Sub 134217728 m) {a0 : FwSt → FwSt} {s : Block} (h : Kept m s0 s) :
    Kept m s0 (modFwu a0 s) := by
  unfold modFwu
  repeat' (first
    | with_reducible assumption
    | with_reducible refine Kept.upd ?_ (h_fwu := .inr (hM.of rfl)))

theorem modFuses_kept (hM : Sub 268435456 m) {a0 : Fuses → Fuses} {s : Block} (h : Kept m s0 s) :
    Kept m s0 (modFuses a0 s) := by
  unfold modFuses
  repeat' (first
    | with_reducible assumption
    | with_reducible refine modNv_kept (hM.of rfl) (fun _ h => h) ?_)

theorem setOwnerFuse_kept (hM : Sub 268435456 m) {a0 : Nat} {a1 : OwnerFuse} {s : Block} (h : Kept m s0 s) :
    Kept m s0 (setOwnerFuse a0 a1 s) := by
  unfold setOwnerFuse
  repeat' (first
    | with_reducible assumption
    | with_reducible refine modFuses_kept (hM.of rfl) ?_)

theorem fuseToRegs_kept (hM : Sub 8 m) {s : Block} (h : Kept m s0 s) :
    Kept m s0 (fuseToRegs s) := by
  unfold fuseToRegs
  repeat' (first
    | with_reducible assumption
    | intro _
    | (extract_lets +onlyGivenNames r; have hr : Kept m s0 r := ?_; clear_value r; rotate_left; subst r; rotate_right)
    | (extract_lets +onlyGivenNames r; clear_value r)
    | with_reducible refine Block_put_kept (hM.of rfl) ?_
    | with_reducible refine forEach_kept (hM.of rfl) ?_ ?_
    | with_reducible refine Block_putB_kept (hM.of rfl) ?_)

theorem checkOwnerKeys_kept (hM : Sub 16777224 m) {s : Block} (h : Kept m s0 s) :
    Kept m s0 (checkOwnerKeys s) := by
  unfold checkOwnerKeys
  repeat' (first
    | with_reducible assumption
    | intro _
    | (extract_lets +onlyGivenNames r; have hr : Kept m s0 r := ?_; clear_value r; rotate_left; subst r; rotate_right)
    | (extract_lets +onlyGivenNames r; clear_value r)
    | with_reducible refine Kept.ite ?_ ?_
    | with_reducible refine forEach_kept (hM.of rfl) ?_ ?_
    | with_reducible refine Block_putB_kept (hM.of rfl) ?_
    | with_reducible refine Block_raise_kept (hM.of rfl) ?_)

theorem rollbackCheck_kept (hM : Sub 16777216 m) {a0 : Nat} {s : Block} (h : Kept m s0 s) :
    Kept m s0 (rollbackCheck a0 s) := by
  unfold rollbackCheck
  repeat' (first
    | with_reducible assumption
    | (extract_lets +onlyGivenNames r; clear_value r)
    | with_reducible refine Kept.ite ?_ ?_
    | with_reducible refine Block_raise_kept (hM.of rfl) ?_)

theorem setFwState_kept (hM : Sub 8 m) {a0 : Nat} {s : Block} (h : Kept m s0 s) :
    Kept m s0 (setFwState a0 s) := by
  unfold setFwState
  repeat' (first
    | with_reducible assumption
    | with_reducible refine Block_put_kept (hM.of rfl) ?_)

theorem fwResult_kept (hM : Sub 8 m) {a0 : Nat} {s : Block} (h : Kept m s0 s) :
    Kept m s0 (fwResult a0 s) := by
  unfold fwResult
  repeat' (first
    | with_reducible assumption
    | with_reducible refine Block_put_kept (hM.of rfl) ?_)

theorem endReceiving_kept (hM : Sub 427819016 m) {a0 : Nat} {s : Block} (h : Kept m s0 s) :
    Kept m s0 (endReceiving a0 s) := by
  unfold endReceiving
  repeat' (first
    | with_reducible assumption
    | (extract_lets +onlyGivenNames r; have hr : Kept m s0 r := ?_; clear_value r; rotate_left; subst r; rotate_right)
    | with_reducible refine modFwu_kept (hM.of rfl) ?_
    | with_reducible refine modNv_kept (hM.of rfl) (fun _ h => h) ?_
    | with_reducible refine setFwState_kept (hM.of rfl) ?_
    | with_reducible refine Block_setReg_kept (hM.of rfl) ?_
    | with_reducible refine Block_close_kept (hM.of rfl) ?_
    | with_reducible refine Block_raise_kept (hM.of rfl) ?_)

theorem updateHoldCheck_kept (hM : Sub 427819016 m) {s : Block} (h : Kept m s0 s) :
    Kept m s0 (updateHoldCheck s) := by
  unfold updateHoldCheck
  repeat' (first
    | with_reducible assumption
    | with_reducible refine Kept.ite ?_ ?_
    | with_reducible refine endReceiving_kept (hM.of rfl) ?_
    | with_reducible refine Block_close_kept (hM.of rfl) ?_
    | with_reducible refine setFwState_kept (hM.of rfl) ?_)

theorem writeBank_kept (hM : Sub 134217728 m) {a0 : SetBank} {a1 : Nat} {s : Block} (h : Kept m s0 s) :
    Kept m s0 (writeBank a0 a1 s) := by
  unfold writeBank
  repeat' (first
    | with_reducible assumption
    | with_reducible refine modFwu_kept (hM.of rfl) ?_)

theorem fuseAnswer_kept (hM : Sub 8388608 m) {a0 : FuseJob} {a1 : Nat} {s : Block} (h : Kept m s0 s) :
    Kept m s0 (fuseAnswer a0 a1 s) := by
  unfold fuseAnswer
  repeat' (first
    | with_reducible assumption
    | with_reducible refine Kept.ite ?_ ?_
    | with_reducible refine Block_close_kept (hM.of rfl) ?_)

theorem fuseStartOne_kept (hM : Sub 75497480 m) {s : Block} (h : Kept m s0 s) :
    Kept m s0 (fuseStartOne s) := by
  unfold fuseStartOne
  repeat' (first
    | with_reducible assumption
    | with_reducible refine Kept.ite ?_ ?_
    | with_reducible refine Block_putB_kept (hM.of rfl) ?_
    | with_reducible refine fuseAnswer_kept (hM.of rfl) ?_
    | with_reducible refine modSec_kept (hM.of rfl) ?_
    | split)

theorem fuseStart_kept (hM : Sub 75497480 m) {s : Block} (h : Kept m s0 s) :
    Kept m s0 (fuseStart s) := by
  unfold fuseStart
  repeat' (first
    | with_reducible assumption
    | intro _
    | with_reducible refine Kept.foldl ?_ ?_
    | with_reducible refine fuseStartOne_kept (hM.of rfl) ?_)

theorem fuseQueue_kept (hM : Sub 75497480 m) {a0 : FuseWhat} {s : Block} (h : Kept m s0 s) :
    Kept m s0 (fuseQueue a0 s) := by
  unfold fuseQueue
  repeat' (first
    | with_reducible assumption
    | with_reducible refine fuseStart_kept (hM.of rfl) ?_
    | with_reducible refine modSec_kept (hM.of rfl) ?_)

theorem fuseCommand_kept (hM : Sub 75497480 m) {a0 : Cmd} {a1 : Nat} {a2 : FuseWhat} {s : Block} (h : Kept m s0 s) :
    Kept m s0 (fuseCommand a0 a1 a2 s) := by
  unfold fuseCommand
  repeat' (first
    | with_reducible assumption
    | (extract_lets +onlyGivenNames r; clear_value r)
    | with_reducible refine fuseStart_kept (hM.of rfl) ?_
    | with_reducible refine Block_hold_kept (hM.of rfl) ?_
    | with_reducible refine modSec_kept (hM.of rfl) ?_)

theorem fuseDone_kept (hM : Sub 285212672 m) {a0 : FuseWhat} {s : Block} (h : Kept m s0 s) :
    Kept m s0 (fuseDone a0 s) := by
  unfold fuseDone
  repeat' (first
    | with_reducible assumption
    | (extract_lets +onlyGivenNames r; clear_value r)
    | with_reducible refine Block_raise_kept (hM.of rfl) ?_
    | with_reducible refine setOwnerFuse_kept (hM.of rfl) ?_
    | with_reducible refine modNv_kept (hM.of rfl) (fun _ h => h) ?_
    | with_reducible refine modFuses_kept (hM.of rfl) ?_
    | with_reducible refine rollbackCheck_kept (hM.of rfl) ?_
    | split)

theorem fuseFailed_kept (hM : Sub 268435456 m) {a0 : FuseWhat} {a1 : Nat} {s : Block} (h : Kept m s0 s) :
    Kept m s0 (fuseFailed a0 a1 s) := by
  unfold fuseFailed
  repeat' (first
    | with_reducible assumption
    | with_reducible refine setOwnerFuse_kept (hM.of rfl) ?_
    | with_reducible refine modFuses_kept (hM.of rfl) ?_
    | split)

theorem fuseProgrammed_kept (hM : Sub 494927880 m) {a0 : FuseJob} {a1 : Bool} {a2 : Nat} {s : Block} (h : Kept m s0 s) :
    Kept m s0 (fuseProgrammed a0 a1 a2 s) := by
  unfold fuseProgrammed
  repeat' (first
    | with_reducible assumption
    | intro _
    | (extract_lets +onlyGivenNames r; have hr : Kept m s0 r := ?_; clear_value r; rotate_left; subst r; rotate_right)
    | with_reducible refine Kept.ite ?_ ?_
    | with_reducible refine modSec_kept (hM.of rfl) ?_
    | with_reducible refine Block_raise_kept (hM.of rfl) ?_
    | with_reducible refine fuseDone_kept (hM.of rfl) ?_
    | with_reducible refine fuseFailed_kept (hM.of rfl) ?_
    | with_reducible refine fuseToRegs_kept (hM.of rfl) ?_
    | with_reducible refine forEach_kept (hM.of rfl) ?_ ?_
    | with_reducible refine Block_putB_kept (hM.of rfl) ?_
    | with_reducible refine fuseStart_kept (hM.of rfl) ?_
    | with_reducible refine updateHoldCheck_kept (hM.of rfl) ?_
    | with_reducible refine fuseAnswer_kept (hM.of rfl) ?_)

theorem fuseProgramDoneStep_kept (hM : Sub 494927880 m) {a0 : Bool} {a1 : Nat} {s : Block} (h : Kept m s0 s) :
    Kept m s0 (fuseProgramDoneStep a0 a1 s) := by
  unfold fuseProgramDoneStep
  repeat' (first
    | with_reducible assumption
    | with_reducible refine Kept.ite ?_ ?_
    | with_reducible refine fuseProgrammed_kept (hM.of rfl) ?_
    | split)

theorem plateAdvance_kept (hM : Sub 75497480 m) {a0 : Nat} {s : Block} (h : Kept m s0 s) :
    Kept m s0 (plateAdvance a0 s) := by
  unfold plateAdvance
  repeat' (first
    | with_reducible assumption
    | with_reducible refine Kept.ite ?_ ?_
    | with_reducible refine fuseQueue_kept (hM.of rfl) ?_)

theorem setNonce_kept (hM : Sub 67108864 m) {a0 : Port} {a1 : Option (BitVec 128 × BitVec 64)} {s : Block} (h : Kept m s0 s) :
    Kept m s0 (setNonce a0 a1 s) := by
  unfold setNonce
  repeat' (first
    | with_reducible assumption
    | with_reducible refine modSec_kept (hM.of rfl) ?_)

theorem authRequest_kept (hM : Sub 83886090 m) {a0 : Cmd} {a1 a2 a3 : Nat} {s : Block} (h : Kept m s0 s) :
    Kept m s0 (authRequest a0 a1 a2 a3 s).2 := by
  unfold authRequest
  repeat' (first
    | with_reducible assumption
    | (extract_lets +onlyGivenNames r; have hr : Kept m s0 r := ?_; clear_value r; rotate_left; subst r; rotate_right)
    | (extract_lets +onlyGivenNames r; have hr : Kept m s0 r.2 := ?_; clear_value r; rotate_left; subst r; rotate_right)
    | (extract_lets +onlyGivenNames r; clear_value r)
    | with_reducible refine Kept.ite2 ?_ ?_
    | with_reducible refine readMem_kept (hM.of rfl) ?_
    | with_reducible refine setNonce_kept (hM.of rfl) ?_
    | with_reducible refine Block_raise_kept (hM.of rfl) ?_
    | split)

theorem Block_authorised_kept (hM : Sub 92274698 m) {a1 : Cmd} {a2 a3 a4 : Nat} {a5 : List Nat → Block → Block} {s : Block} (h5 : ∀ x0 s, Kept m s0 s → Kept m s0 (a5 x0 s)) (h : Kept m s0 s) :
    Kept m s0 (Block.authorised s a1 a2 a3 a4 a5) := by
  unfold Block.authorised
  have k : Kept m s0 (authRequest a1 a2 a3 a4 s).2 := authRequest_kept (hM.of rfl) h
  generalize authRequest a1 a2 a3 a4 s = r at k ⊢
  obtain ⟨a, t⟩ := r
  cases a with
  | refused st => exact Block_respond_kept (hM.of rfl) k
  | accepted x p => exact h5 _ _ k

theorem secNonceCmd_kept (hM : Sub 75497474 m) {a0 : Cmd} {s : Block} (h : Kept m s0 s) :
    Kept m s0 (secNonceCmd a0 s) := by
  unfold secNonceCmd
  repeat' (first
    | with_reducible assumption
    | (extract_lets +onlyGivenNames r; have hr : Kept m s0 r.2 := ?_; clear_value r; rotate_left; subst r; rotate_right)
    | (extract_lets +onlyGivenNames r; clear_value r)
    | with_reducible refine Block_draw_kept (hM.of rfl) ?_
    | with_reducible refine Block_respond_kept (hM.of rfl) ?_
    | with_reducible refine setNonce_kept (hM.of rfl) ?_)

theorem nonceExpiryStep_kept (hM : Sub 67108868 m) {a0 : Port} {s : Block} (h : Kept m s0 s) :
    Kept m s0 (nonceExpiryStep a0 s) := by
  unfold nonceExpiryStep
  repeat' (first
    | with_reducible assumption
    | with_reducible refine reachTime_kept (hM.of rfl) ?_
    | with_reducible refine setNonce_kept (hM.of rfl) ?_
    | split)

theorem secStatusCmd_kept (hM : Sub 8388608 m) {a0 : Cmd} {s : Block} (h : Kept m s0 s) :
    Kept m s0 (secStatusCmd a0 s) := by
  unfold secStatusCmd
  repeat' (first
    | with_reducible assumption
    | with_reducible refine Block_respond_kept (hM.of rfl) ?_)

theorem secIdCertCmd_kept (hM : Sub 25231369 m) {a0 a1 a2 : Nat} {a3 : Cmd} {s : Block} (h : Kept m s0 s) :
    Kept m s0 (secIdCertCmd a0 a1 a2 a3 s) := by
  unfold secIdCertCmd
  repeat' (first
    | with_reducible assumption
    | (extract_lets +onlyGivenNames r; have hr : Kept m s0 r.2 := ?_; clear_value r; rotate_left; subst r; rotate_right)
    | (extract_lets +onlyGivenNames r; clear_value r)
    | with_reducible refine Kept.ite ?_ ?_
    | with_reducible refine Block_respond_kept (hM.of rfl) ?_
    | with_reducible refine writeMem_kept (hM.of rfl) ?_)

theorem secOwnerKeyPutCmd_kept (hM : Sub 293601290 m) {a0 a1 : Nat} {a2 : Cmd} {s : Block} (h : Kept m s0 s) :
    Kept m s0 (secOwnerKeyPutCmd a0 a1 a2 s) := by
  unfold secOwnerKeyPutCmd
  repeat' (first
    | with_reducible assumption
    | (extract_lets +onlyGivenNames r; have hr : Kept m s0 r.2 := ?_; clear_value r; rotate_left; subst r; rotate_right)
    | with_reducible refine Kept.ite ?_ ?_
    | with_reducible refine Block_respond_kept (hM.of rfl) ?_
    | with_reducible refine readMem_kept (hM.of rfl) ?_
    | with_reducible refine Block_putB_kept (hM.of rfl) ?_
    | with_reducible refine modNv_kept (hM.of rfl) (fun _ h => h) ?_
    | split)

theorem programPayload_kept (hM : Sub 92274696 m) {a0 : Cmd} {a1 : List Nat} {s : Block} (h : Kept m s0 s) :
    Kept m s0 (programPayload a0 a1 s) := by
  unfold programPayload
  repeat' (first
    | with_reducible assumption
    | with_reducible refine Kept.ite ?_ ?_
    | with_reducible refine Block_respond_kept (hM.of rfl) ?_
    | with_reducible refine Block_raise_kept (hM.of rfl) ?_
    | with_reducible refine fuseCommand_kept (hM.of rfl) ?_
    | split)

theorem secOwnerProgramCmd_kept (hM : Sub 92274698 m) {a0 a1 : Nat} {a2 : Cmd} {s : Block} (h : Kept m s0 s) :
    Kept m s0 (secOwnerProgramCmd a0 a1 a2 s) := by
  unfold secOwnerProgramCmd
  repeat' (first
    | with_reducible assumption
    | intro _
    | (extract_lets +onlyGivenNames r; have hr : Kept m s0 r.2 := ?_; clear_value r; rotate_left; subst r; rotate_right)
    | with_reducible refine Kept.ite ?_ ?_
    | with_reducible refine Block_respond_kept (hM.of rfl) ?_
    | with_reducible refine readMem_kept (hM.of rfl) ?_
    | with_reducible refine programPayload_kept (hM.of rfl) ?_
    | with_reducible refine Block_authorised_kept (hM.of rfl) ?_ ?_
    | split)

theorem secOwnerRevokeCmd_kept (hM : Sub 92274698 m) {a0 a1 : Nat} {a2 : Cmd} {s : Block} (h : Kept m s0 s) :
    Kept m s0 (secOwnerRevokeCmd a0 a1 a2 s) := by
  unfold secOwnerRevokeCmd
  repeat' (first
    | with_reducible assumption
    | intro _
    | with_reducible refine Kept.ite ?_ ?_
    | with_reducible refine Block_authorised_kept (hM.of rfl) ?_ ?_
    | with_reducible refine Block_respond_kept (hM.of rfl) ?_
    | with_reducible refine fuseCommand_kept (hM.of rfl) ?_)

theorem secFuseLockCmd_kept (hM : Sub 92274698 m) {a0 a1 : Nat} {a2 : Cmd} {s : Block} (h : Kept m s0 s) :
    Kept m s0 (secFuseLockCmd a0 a1 a2 s) := by
  unfold secFuseLockCmd
  repeat' (first
    | with_reducible assumption
    | intro _
    | with_reducible refine Kept.ite ?_ ?_
    | with_reducible refine Block_authorised_kept (hM.of rfl) ?_ ?_
    | with_reducible refine Block_respond_kept (hM.of rfl) ?_
    | with_reducible refine fuseCommand_kept (hM.of rfl) ?_)

theorem secSvnAdvanceCmd_kept (hM : Sub 92274698 m) {a0 a1 : Nat} {a2 : Cmd} {s : Block} (h : Kept m s0 s) :
    Kept m s0 (secSvnAdvanceCmd a0 a1 a2 s) := by
  unfold secSvnAdvanceCmd
  repeat' (first
    | with_reducible assumption
    | intro _
    | (extract_lets +onlyGivenNames r; clear_value r)
    | with_reducible refine Kept.ite ?_ ?_
    | with_reducible refine Block_authorised_kept (hM.of rfl) ?_ ?_
    | with_reducible refine Block_respond_kept (hM.of rfl) ?_
    | with_reducible refine fuseCommand_kept (hM.of rfl) ?_)

theorem secSealKeySetCmd_kept (hM : Sub 226492426 m) {a0 a1 : Nat} {a2 : Cmd} {s : Block} (h : Kept m s0 s) :
    Kept m s0 (secSealKeySetCmd a0 a1 a2 s) := by
  unfold secSealKeySetCmd
  repeat' (first
    | with_reducible assumption
    | intro _
    | (extract_lets +onlyGivenNames r; clear_value r)
    | with_reducible refine Kept.ite ?_ ?_
    | with_reducible refine Block_respond_kept (hM.of rfl) ?_
    | with_reducible refine Block_authorised_kept (hM.of rfl) ?_ ?_
    | with_reducible refine Block_hold_kept (hM.of rfl) ?_
    | with_reducible refine writeBank_kept (hM.of rfl) ?_
    | split)

theorem secPolicySetCmd_kept (hM : Sub 226492426 m) {a0 a1 : Nat} {a2 : Cmd} {s : Block} (h : Kept m s0 s) :
    Kept m s0 (secPolicySetCmd a0 a1 a2 s) := by
  unfold secPolicySetCmd
  repeat' (first
    | with_reducible assumption
    | intro _
    | (extract_lets +onlyGivenNames r; clear_value r)
    | with_reducible refine Kept.ite ?_ ?_
    | with_reducible refine Block_respond_kept (hM.of rfl) ?_
    | with_reducible refine Block_authorised_kept (hM.of rfl) ?_ ?_
    | with_reducible refine Block_hold_kept (hM.of rfl) ?_
    | with_reducible refine writeBank_kept (hM.of rfl) ?_)

theorem quoteStartOne_kept (hM : Sub 75497472 m) {s : Block} (h : Kept m s0 s) :
    Kept m s0 (quoteStartOne s) := by
  unfold quoteStartOne
  repeat' (first
    | with_reducible assumption
    | with_reducible refine Kept.ite ?_ ?_
    | with_reducible refine Block_close_kept (hM.of rfl) ?_
    | with_reducible refine modSec_kept (hM.of rfl) ?_
    | split)

theorem quoteStart_kept (hM : Sub 75497472 m) {s : Block} (h : Kept m s0 s) :
    Kept m s0 (quoteStart s) := by
  unfold quoteStart
  repeat' (first
    | with_reducible assumption
    | intro _
    | with_reducible refine Kept.foldl ?_ ?_
    | with_reducible refine quoteStartOne_kept (hM.of rfl) ?_)

theorem quoteAsked_kept (hM : Sub 75497472 m) {a0 : Cmd} {a1 a2 : Nat} {a3 : BitVec 256} {s : Block} (h : Kept m s0 s) :
    Kept m s0 (quoteAsked a0 a1 a2 a3 s) := by
  unfold quoteAsked
  repeat' (first
    | with_reducible assumption
    | (extract_lets +onlyGivenNames r; clear_value r)
    | with_reducible refine Block_hold_kept (hM.of rfl) ?_
    | with_reducible refine modSec_kept (hM.of rfl) ?_)

theorem secQuoteCmd_kept (hM : Sub 75497472 m) {a0 a1 : Nat} {a2 : BitVec 256} {a3 : Cmd} {s : Block} (h : Kept m s0 s) :
    Kept m s0 (secQuoteCmd a0 a1 a2 a3 s) := by
  unfold secQuoteCmd
  repeat' (first
    | with_reducible assumption
    | with_reducible refine Kept.ite ?_ ?_
    | with_reducible refine Block_respond_kept (hM.of rfl) ?_
    | with_reducible refine quoteStart_kept (hM.of rfl) ?_
    | with_reducible refine quoteAsked_kept (hM.of rfl) ?_)

theorem identitySign_kept (hM : Sub 2 m) {a0 : List Nat} {s : Block} (h : Kept m s0 s) :
    Kept m s0 (identitySign a0 s).2 := by
  unfold identitySign
  repeat' (first
    | with_reducible assumption
    | (extract_lets +onlyGivenNames r; have hr : Kept m s0 r.2 := ?_; clear_value r; rotate_left; subst r; rotate_right)
    | with_reducible refine Block_draw_kept (hM.of rfl) ?_)

theorem quoteSignedStep_kept (hM : Sub 92340235 m) {s : Block} (h : Kept m s0 s) :
    Kept m s0 (quoteSignedStep s) := by
  unfold quoteSignedStep
  repeat' (first
    | with_reducible assumption
    | (extract_lets +onlyGivenNames r; have hr : Kept m s0 r.2 := ?_; clear_value r; rotate_left; subst r; rotate_right)
    | with_reducible refine identitySign_kept (hM.of rfl) ?_
    | with_reducible refine writeMem_kept (hM.of rfl) ?_
    | with_reducible refine quoteStart_kept (hM.of rfl) ?_
    | with_reducible refine Block_close_kept (hM.of rfl) ?_
    | with_reducible refine modSec_kept (hM.of rfl) ?_
    | split)

theorem jtagTapInstructionStep_kept (hM : Sub 1073741824 m) {a0 : TapInstr} {s : Block} (h : Kept m s0 s) :
    Kept m s0 (jtagTapInstructionStep a0 s) := by
  unfold jtagTapInstructionStep
  repeat' (first
    | with_reducible assumption
    | with_reducible refine Kept.upd ?_ (h_tap := .inr (hM.of rfl)))

theorem execFuseProgramDone_ran (hM : Sub 494927880 m) (a0 : Bool) (a1 : BitVec 256) (s : State) : Ran m s (execFuseProgramDone a0 a1 s) := by
  unfold execFuseProgramDone
  refine live_ran (fun s0 s h => ?_) s
  repeat' (first
    | with_reducible assumption
    | with_reducible refine fuseProgramDoneStep_kept (hM.of rfl) ?_)

theorem execSecNonce_ran (hM : Sub 75497474 m) (a0 : Hdr) (s : State) : Ran m s (execSecNonce a0 s) := by
  unfold execSecNonce
  refine live_ran (fun s0 s h => ?_) s
  repeat' (first
    | with_reducible assumption
    | intro _
    | with_reducible refine Block_command_kept (hM.of rfl) ?_ ?_
    | with_reducible refine secNonceCmd_kept (hM.of rfl) ?_)

theorem execNonceExpiry_ran (hM : Sub 67108868 m) (a0 : Port) (s : State) : Ran m s (execNonceExpiry a0 s) := by
  unfold execNonceExpiry
  refine live_ran (fun s0 s h => ?_) s
  repeat' (first
    | with_reducible assumption
    | with_reducible refine nonceExpiryStep_kept (hM.of rfl) ?_)

theorem execSecStatus_ran (hM : Sub 8388608 m) (a0 : Hdr) (s : State) : Ran m s (execSecStatus a0 s) := by
  unfold execSecStatus
  refine live_ran (fun s0 s h => ?_) s
  repeat' (first
    | with_reducible assumption
    | intro _
    | with_reducible refine Block_command_kept (hM.of rfl) ?_ ?_
    | with_reducible refine secStatusCmd_kept (hM.of rfl) ?_)

theorem execSecIdCert_ran (hM : Sub 25231369 m) (a0 : Hdr) (a1 : Nat) (a2 : Nat) (a3 : Nat) (s : State) : Ran m s (execSecIdCert a0 a1 a2 a3 s) := by
  unfold execSecIdCert
  refine live_ran (fun s0 s h => ?_) s
  repeat' (first
    | with_reducible assumption
    | intro _
    | with_reducible refine Block_command_kept (hM.of rfl) ?_ ?_
    | with_reducible refine secIdCertCmd_kept (hM.of rfl) ?_)

theorem execSecOwnerKeyPut_ran (hM : Sub 293601290 m) (a0 : Hdr) (a1 : Nat) (a2 : Nat) (s : State) : Ran m s (execSecOwnerKeyPut a0 a1 a2 s) := by
  unfold execSecOwnerKeyPut
  refine live_ran (fun s0 s h => ?_) s
  repeat' (first
    | with_reducible assumption
    | intro _
    | with_reducible refine Block_command_kept (hM.of rfl) ?_ ?_
    | with_reducible refine secOwnerKeyPutCmd_kept (hM.of rfl) ?_)

theorem execSecOwnerProgram_ran (hM : Sub 92274698 m) (a0 : Hdr) (a1 : Nat) (a2 : Nat) (s : State) : Ran m s (execSecOwnerProgram a0 a1 a2 s) := by
  unfold execSecOwnerProgram
  refine live_ran (fun s0 s h => ?_) s
  repeat' (first
    | with_reducible assumption
    | intro _
    | with_reducible refine Block_command_kept (hM.of rfl) ?_ ?_
    | with_reducible refine secOwnerProgramCmd_kept (hM.of rfl) ?_)

theorem execSecOwnerRevoke_ran (hM : Sub 92274698 m) (a0 : Hdr) (a1 : Nat) (a2 : Nat) (s : State) : Ran m s (execSecOwnerRevoke a0 a1 a2 s) := by
  unfold execSecOwnerRevoke
  refine live_ran (fun s0 s h => ?_) s
  repeat' (first
    | with_reducible assumption
    | intro _
    | with_reducible refine Block_command_kept (hM.of rfl) ?_ ?_
    | with_reducible refine secOwnerRevokeCmd_kept (hM.of rfl) ?_)

theorem execSecFuseLock_ran (hM : Sub 92274698 m) (a0 : Hdr) (a1 : Nat) (a2 : Nat) (s : State) : Ran m s (execSecFuseLock a0 a1 a2 s) := by
  unfold execSecFuseLock
  refine live_ran (fun s0 s h => ?_) s
  repeat' (first
    | with_reducible assumption
    | intro _
    | with_reducible refine Block_command_kept (hM.of rfl) ?_ ?_
    | with_reducible refine secFuseLockCmd_kept (hM.of rfl) ?_)

theorem execSecSvnAdvance_ran (hM : Sub 92274698 m) (a0 : Hdr) (a1 : Nat) (a2 : Nat) (s : State) : Ran m s (execSecSvnAdvance a0 a1 a2 s) := by
  unfold execSecSvnAdvance
  refine live_ran (fun s0 s h => ?_) s
  repeat' (first
    | with_reducible assumption
    | intro _
    | with_reducible refine Block_command_kept (hM.of rfl) ?_ ?_
    | with_reducible refine secSvnAdvanceCmd_kept (hM.of rfl) ?_)

theorem execSecSealKeySet_ran (hM : Sub 226492426 m) (a0 : Hdr) (a1 : Nat) (a2 : Nat) (s : State) : Ran m s (execSecSealKeySet a0 a1 a2 s) := by
  unfold execSecSealKeySet
  refine live_ran (fun s0 s h => ?_) s
  repeat' (first
    | with_reducible assumption
    | intro _
    | with_reducible refine Block_command_kept (hM.of rfl) ?_ ?_
    | with_reducible refine secSealKeySetCmd_kept (hM.of rfl) ?_)

theorem execSecPolicySet_ran (hM : Sub 226492426 m) (a0 : Hdr) (a1 : Nat) (a2 : Nat) (s : State) : Ran m s (execSecPolicySet a0 a1 a2 s) := by
  unfold execSecPolicySet
  refine live_ran (fun s0 s h => ?_) s
  repeat' (first
    | with_reducible assumption
    | intro _
    | with_reducible refine Block_command_kept (hM.of rfl) ?_ ?_
    | with_reducible refine secPolicySetCmd_kept (hM.of rfl) ?_)

theorem execSecQuote_ran (hM : Sub 75497472 m) (a0 : Hdr) (a1 : Nat) (a2 : Nat) (a3 : BitVec 256) (s : State) : Ran m s (execSecQuote a0 a1 a2 a3 s) := by
  unfold execSecQuote
  refine live_ran (fun s0 s h => ?_) s
  repeat' (first
    | with_reducible assumption
    | intro _
    | with_reducible refine Block_command_kept (hM.of rfl) ?_ ?_
    | with_reducible refine secQuoteCmd_kept (hM.of rfl) ?_)

theorem execQuoteSigned_ran (hM : Sub 92340235 m) (s : State) : Ran m s (execQuoteSigned s) := by
  unfold execQuoteSigned
  refine live_ran (fun s0 s h => ?_) s
  repeat' (first
    | with_reducible assumption
    | with_reducible refine quoteSignedStep_kept (hM.of rfl) ?_)

theorem execJtagTapInstruction_ran (hM : Sub 1073741824 m) (a0 : TapInstr) (s : State) : Ran m s (execJtagTapInstruction a0 s) := by
  unfold execJtagTapInstruction
  refine live_ran (fun s0 s h => ?_) s
  repeat' (first
    | with_reducible assumption
    | with_reducible refine jtagTapInstructionStep_kept (hM.of rfl) ?_)

/-! ### Dram -/

theorem modDc_kept (hM : Sub 65536 m) {s : Block} {n : Nat} {f : DcSt → DcSt}
    (hf : ∀ c, spSorted c.lines = true → spSorted (f c).lines = true) (h : Kept m s0 s) : Kept m s0 (modDc n f s) := by
  unfold modDc
  exact setDc_kept hM h (fun w => hf _ (getDc_lines n w))

theorem dcEic_kept (hM : Sub 8 m) {a0 : Nat} {s : Block} (h : Kept m s0 s) :
    Kept m s0 (dcEic a0 s) := by
  unfold dcEic
  repeat' (first
    | with_reducible assumption
    | with_reducible refine Block_eicEdge_kept (hM.of rfl) ?_)

theorem dropReads_kept (hM : Sub 65536 m) {a0 : Nat} {s : Block} (h : Kept m s0 s) :
    Kept m s0 (dropReads a0 s) := by
  unfold dropReads
  repeat' (first
    | with_reducible assumption
    | with_reducible refine modDc_kept (hM.of rfl) (by first | exact fun _ h => h | exact fun c h => storeLine_lines _ _ _ h | exact fun c h => spSorted_spClear _ _ h | (intro c h; dsimp only; split <;> exact h)) ?_)

theorem enterDc_kept (hM : Sub 159973385 m) {a0 a1 : Nat} {s : Block} (h : Kept m s0 s) :
    Kept m s0 (enterDc a0 a1 s) := by
  unfold enterDc
  repeat' (first
    | with_reducible assumption
    | intro _
    | (extract_lets +onlyGivenNames r; have hr : Kept m s0 r := ?_; clear_value r; rotate_left; subst r; rotate_right)
    | with_reducible refine Kept.ite ?_ ?_
    | with_reducible refine setDcState_kept (hM.of rfl) ?_
    | with_reducible refine isolatePort_kept (hM.of rfl) ?_
    | with_reducible refine dropReads_kept (hM.of rfl) ?_
    | with_reducible refine when_kept (hM.of rfl) ?_ ?_
    | with_reducible refine portsReset_kept (hM.of rfl) ?_
    | with_reducible refine flushPort_kept (hM.of rfl) ?_)

theorem channelError_kept (hM : Sub 159973385 m) {a0 : Nat} {s : Block} (h : Kept m s0 s) :
    Kept m s0 (channelError a0 s) := by
  unfold channelError
  repeat' (first
    | with_reducible assumption
    | with_reducible refine dcEic_kept (hM.of rfl) ?_
    | with_reducible refine enterDc_kept (hM.of rfl) ?_)

theorem dcRefuse_kept (hM : Sub 8388608 m) {a0 : Nat} {a1 : Cmd} {s : Block} (h : Kept m s0 s) :
    Kept m s0 (dcRefuse a0 a1 s) := by
  unfold dcRefuse
  repeat' (first
    | with_reducible assumption
    | with_reducible refine Block_respond_kept (hM.of rfl) ?_)

theorem trainStart_kept (hM : Sub 159973385 m) {a0 : Nat} {a1 : TrainWhy} {a2 : Option Nat} {s : Block} (h : Kept m s0 s) :
    Kept m s0 (trainStart a0 a1 a2 s) := by
  unfold trainStart
  repeat' (first
    | with_reducible assumption
    | with_reducible refine modDc_kept (hM.of rfl) (by first | exact fun _ h => h | exact fun c h => storeLine_lines _ _ _ h | exact fun c h => spSorted_spClear _ _ h | (intro c h; dsimp only; split <;> exact h)) ?_
    | with_reducible refine enterDc_kept (hM.of rfl) ?_)

theorem dramTrainCmd_kept (hM : Sub 159973385 m) {a0 a1 : Nat} {a2 : Cmd} {s : Block} (h : Kept m s0 s) :
    Kept m s0 (dramTrainCmd a0 a1 a2 s) := by
  unfold dramTrainCmd
  repeat' (first
    | with_reducible assumption
    | (extract_lets +onlyGivenNames r; clear_value r)
    | with_reducible refine Kept.ite ?_ ?_
    | with_reducible refine Block_respond_kept (hM.of rfl) ?_
    | with_reducible refine Block_hold_kept (hM.of rfl) ?_
    | with_reducible refine trainStart_kept (hM.of rfl) ?_
    | with_reducible refine dcRefuse_kept (hM.of rfl) ?_)

theorem dramStatusCmd_kept (hM : Sub 8388608 m) {a0 : Nat} {a1 : Cmd} {s : Block} (h : Kept m s0 s) :
    Kept m s0 (dramStatusCmd a0 a1 s) := by
  unfold dramStatusCmd
  repeat' (first
    | with_reducible assumption
    | with_reducible refine Kept.ite ?_ ?_
    | with_reducible refine Block_respond_kept (hM.of rfl) ?_)

theorem dramQuiesceCmd_kept (hM : Sub 159973385 m) {a0 : Nat} {a1 : Cmd} {s : Block} (h : Kept m s0 s) :
    Kept m s0 (dramQuiesceCmd a0 a1 s) := by
  unfold dramQuiesceCmd
  repeat' (first
    | with_reducible assumption
    | with_reducible refine Kept.ite ?_ ?_
    | with_reducible refine Block_respond_kept (hM.of rfl) ?_
    | with_reducible refine Block_hold_kept (hM.of rfl) ?_
    | with_reducible refine enterDc_kept (hM.of rfl) ?_
    | with_reducible refine dcRefuse_kept (hM.of rfl) ?_)

theorem dramResumeCmd_kept (hM : Sub 159973385 m) {a0 : Nat} {a1 : Cmd} {s : Block} (h : Kept m s0 s) :
    Kept m s0 (dramResumeCmd a0 a1 s) := by
  unfold dramResumeCmd
  repeat' (first
    | with_reducible assumption
    | with_reducible refine Kept.ite ?_ ?_
    | with_reducible refine Block_respond_kept (hM.of rfl) ?_
    | with_reducible refine modDc_kept (hM.of rfl) (by first | exact fun _ h => h | exact fun c h => storeLine_lines _ _ _ h | exact fun c h => spSorted_spClear _ _ h | (intro c h; dsimp only; split <;> exact h)) ?_
    | with_reducible refine enterDc_kept (hM.of rfl) ?_
    | with_reducible refine dcRefuse_kept (hM.of rfl) ?_)

theorem boundsToLimit_kept (hM : Sub 8 m) {a0 : Nat} {s : Block} (h : Kept m s0 s) :
    Kept m s0 (boundsToLimit a0 s) := by
  unfold boundsToLimit
  repeat' (first
    | with_reducible assumption
    | intro _
    | with_reducible refine Kept.ite ?_ ?_
    | with_reducible refine forEach_kept (hM.of rfl) ?_ ?_
    | with_reducible refine Block_put_kept (hM.of rfl) ?_)

theorem contentsNew_kept (hM : Sub 65544 m) {a0 : Nat} {s : Block} (h : Kept m s0 s) :
    Kept m s0 (contentsNew a0 s) := by
  unfold contentsNew
  repeat' (first
    | with_reducible assumption
    | with_reducible refine boundsToLimit_kept (hM.of rfl) ?_
    | with_reducible refine markNew_kept (hM.of rfl) ?_)

theorem dramOfflineCmd_kept (hM : Sub 159973385 m) {a0 : Nat} {a1 : Cmd} {s : Block} (h : Kept m s0 s) :
    Kept m s0 (dramOfflineCmd a0 a1 s) := by
  unfold dramOfflineCmd
  repeat' (first
    | with_reducible assumption
    | (extract_lets +onlyGivenNames r; clear_value r)
    | with_reducible refine Kept.ite ?_ ?_
    | with_reducible refine Block_respond_kept (hM.of rfl) ?_
    | with_reducible refine modDc_kept (hM.of rfl) (by first | exact fun _ h => h | exact fun c h => storeLine_lines _ _ _ h | exact fun c h => spSorted_spClear _ _ h | (intro c h; dsimp only; split <;> exact h)) ?_
    | with_reducible refine contentsNew_kept (hM.of rfl) ?_
    | with_reducible refine enterDc_kept (hM.of rfl) ?_
    | with_reducible refine dcRefuse_kept (hM.of rfl) ?_)

theorem dramOnlineCmd_kept (hM : Sub 159973385 m) {a0 : Nat} {a1 : Cmd} {s : Block} (h : Kept m s0 s) :
    Kept m s0 (dramOnlineCmd a0 a1 s) := by
  unfold dramOnlineCmd
  repeat' (first
    | with_reducible assumption
    | with_reducible refine Kept.ite ?_ ?_
    | with_reducible refine Block_respond_kept (hM.of rfl) ?_
    | with_reducible refine Block_hold_kept (hM.of rfl) ?_
    | with_reducible refine trainStart_kept (hM.of rfl) ?_
    | with_reducible refine dcRefuse_kept (hM.of rfl) ?_)

theorem marchRange_kept (hM : Sub 65538 m) {a0 a1 a2 : Nat} {s : Block} (h : Kept m s0 s) :
    Kept m s0 (marchRange a0 a1 a2 s) := by
  unfold marchRange
  refine modDc_kept (hM.of rfl) (fun c h => spSorted_spClear _ _ h) ?_
  have e : Kept m s0 s := h
  exact Kept.upd e (h_free := .inr (hM.of rfl))

theorem testBegins_kept (hM : Sub 33554432 m) {a0 : TestRun} {s : Block} (h : Kept m s0 s) :
    Kept m s0 (testBegins a0 s) := by
  unfold testBegins
  repeat' (first
    | with_reducible assumption
    | (extract_lets +onlyGivenNames r; clear_value r)
    | with_reducible refine Kept.upd ?_ (h_gr := .inr (hM.of rfl)))

theorem dramSelftestCmd_kept (hM : Sub 42008578 m) {a0 a1 a2 : Nat} {a3 : Cmd} {s : Block} (h : Kept m s0 s) :
    Kept m s0 (dramSelftestCmd a0 a1 a2 a3 s) := by
  unfold dramSelftestCmd
  repeat' (first
    | with_reducible assumption
    | (extract_lets +onlyGivenNames r; clear_value r)
    | with_reducible refine Kept.ite ?_ ?_
    | with_reducible refine Block_respond_kept (hM.of rfl) ?_
    | with_reducible refine Block_hold_kept (hM.of rfl) ?_
    | with_reducible refine testBegins_kept (hM.of rfl) ?_
    | with_reducible refine marchRange_kept (hM.of rfl) ?_)

theorem dramRecoverCmd_kept (hM : Sub 159973385 m) {a0 : Nat} {a1 : Cmd} {s : Block} (h : Kept m s0 s) :
    Kept m s0 (dramRecoverCmd a0 a1 s) := by
  unfold dramRecoverCmd
  repeat' (first
    | with_reducible assumption
    | with_reducible refine Kept.ite ?_ ?_
    | with_reducible refine Block_respond_kept (hM.of rfl) ?_
    | with_reducible refine Block_hold_kept (hM.of rfl) ?_
    | with_reducible refine trainStart_kept (hM.of rfl) ?_)

theorem dramBracketCmd_kept (hM : Sub 8388616 m) {a0 : Nat} {a1 : BitVec 64} {a2 : Cmd} {s : Block} (h : Kept m s0 s) :
    Kept m s0 (dramBracketCmd a0 a1 a2 s) := by
  unfold dramBracketCmd
  repeat' (first
    | with_reducible assumption
    | (extract_lets +onlyGivenNames r; clear_value r)
    | with_reducible refine Kept.ite ?_ ?_
    | with_reducible refine Block_respond_kept (hM.of rfl) ?_
    | with_reducible refine Block_hold_kept (hM.of rfl) ?_
    | with_reducible refine Block_putB_kept (hM.of rfl) ?_
    | with_reducible refine Block_plainWrite_kept (hM.of rfl) ?_)

theorem bracketGoStep_kept (hM : Sub 8 m) {a0 : Nat} {s : Block} (h : Kept m s0 s) :
    Kept m s0 (bracketGoStep a0 s) := by
  unfold bracketGoStep
  repeat' (first
    | with_reducible assumption
    | (extract_lets +onlyGivenNames r; clear_value r)
    | with_reducible refine Kept.ite ?_ ?_
    | with_reducible refine Block_putB_kept (hM.of rfl) ?_)

theorem bracketResults_kept (hM : Sub 8 m) {a0 : Nat} {a1 : List (BitVec 27)} {s : Block} (h : Kept m s0 s) :
    Kept m s0 (bracketResults a0 a1 s) := by
  unfold bracketResults
  repeat' (first
    | with_reducible assumption
    | intro _
    | (extract_lets +onlyGivenNames r; clear_value r)
    | with_reducible refine forEach_kept (hM.of rfl) ?_ ?_
    | with_reducible refine Block_setReg_kept (hM.of rfl) ?_)

theorem bracketDoneStep_kept (hM : Sub 8388616 m) {a0 : Nat} {a1 : List (BitVec 27)} {s : Block} (h : Kept m s0 s) :
    Kept m s0 (bracketDoneStep a0 a1 s) := by
  unfold bracketDoneStep
  repeat' (first
    | with_reducible assumption
    | with_reducible refine Kept.ite ?_ ?_
    | with_reducible refine Block_close_kept (hM.of rfl) ?_
    | with_reducible refine Block_putB_kept (hM.of rfl) ?_
    | with_reducible refine bracketResults_kept (hM.of rfl) ?_)

theorem trainingDone_kept (hM : Sub 8 m) {s : Block} (h : Kept m s0 s) :
    Kept m s0 (trainingDone s) := by
  unfold trainingDone
  repeat' (first
    | with_reducible assumption
    | intro _
    | with_reducible refine when_kept (hM.of rfl) ?_ ?_
    | with_reducible refine Block_putB_kept (hM.of rfl) ?_)

theorem stage3Trained_kept (hM : Sub 131096 m) {a0 a1 : Nat} {s : Block} (h : Kept m s0 s) :
    Kept m s0 (stage3Trained a0 a1 s) := by
  unfold stage3Trained
  repeat' (first
    | with_reducible assumption
    | (extract_lets +onlyGivenNames r; have hr : Kept m s0 r := ?_; clear_value r; rotate_left; subst r; rotate_right)
    | (extract_lets +onlyGivenNames r; have hr : StartSt := r; subst r)
    | (extract_lets +onlyGivenNames r; clear_value r)
    | with_reducible refine trainingDone_kept (hM.of rfl) ?_
    | with_reducible refine Kept.upd ?_ (h_start := .inr (hM.of rfl)) (h_dmap := .inr (hM.of rfl)))

theorem trainEnd_kept (hM : Sub 160104473 m) {a0 a1 : Nat} {a2 : TrainWhy} {a3 : Nat} {s : Block} (h : Kept m s0 s) :
    Kept m s0 (trainEnd a0 a1 a2 a3 s) := by
  unfold trainEnd
  repeat' (first
    | with_reducible assumption
    | (extract_lets +onlyGivenNames r; have hr : Kept m s0 r := ?_; clear_value r; rotate_left; subst r; rotate_right)
    | with_reducible refine Kept.ite ?_ ?_
    | with_reducible refine modDc_kept (hM.of rfl) (by first | exact fun _ h => h | exact fun c h => storeLine_lines _ _ _ h | exact fun c h => spSorted_spClear _ _ h | (intro c h; dsimp only; split <;> exact h)) ?_
    | with_reducible refine enterDc_kept (hM.of rfl) ?_
    | with_reducible refine stage3Trained_kept (hM.of rfl) ?_
    | with_reducible refine Block_close_kept (hM.of rfl) ?_)

theorem trainFail_kept (hM : Sub 160104473 m) {a0 : Nat} {a1 : TrainWhy} {a2 : Nat} {s : Block} (h : Kept m s0 s) :
    Kept m s0 (trainFail a0 a1 a2 s) := by
  unfold trainFail
  repeat' (first
    | with_reducible assumption
    | with_reducible refine trainEnd_kept (hM.of rfl) ?_)

theorem trainPass_kept (hM : Sub 160104473 m) {a0 : Nat} {a1 : TrainWhy} {a2 : Dimm} {a3 : Nat} {a4 a5 : Bool} {s : Block} (h : Kept m s0 s) :
    Kept m s0 (trainPass a0 a1 a2 a3 a4 a5 s) := by
  unfold trainPass
  repeat' (first
    | with_reducible assumption
    | intro _
    | (extract_lets +onlyGivenNames r; have hr : Kept m s0 r := ?_; clear_value r; rotate_left; subst r; rotate_right)
    | (extract_lets +onlyGivenNames r; clear_value r)
    | with_reducible refine Block_put_kept (hM.of rfl) ?_
    | with_reducible refine Block_putB_kept (hM.of rfl) ?_
    | with_reducible refine when_kept (hM.of rfl) ?_ ?_
    | with_reducible refine modDc_kept (hM.of rfl) (by first | exact fun _ h => h | exact fun c h => storeLine_lines _ _ _ h | exact fun c h => spSorted_spClear _ _ h | (intro c h; dsimp only; split <;> exact h)) ?_
    | with_reducible refine contentsNew_kept (hM.of rfl) ?_
    | with_reducible refine Block_raise_kept (hM.of rfl) ?_
    | with_reducible refine trainEnd_kept (hM.of rfl) ?_)

theorem dramTrainDoneStep_kept (hM : Sub 160104473 m) {a0 : Nat} {a1 : Option Dimm} {a2 : Option Bool} {a3 : Option Nat} {a4 : Bool} {s : Block} (h : Kept m s0 s) :
    Kept m s0 (dramTrainDoneStep a0 a1 a2 a3 a4 s) := by
  unfold dramTrainDoneStep
  repeat' (first
    | with_reducible assumption
    | (extract_lets +onlyGivenNames r; clear_value r)
    | with_reducible refine Kept.ite ?_ ?_
    | with_reducible refine trainFail_kept (hM.of rfl) ?_
    | with_reducible refine trainEnd_kept (hM.of rfl) ?_
    | with_reducible refine trainPass_kept (hM.of rfl) ?_
    | split)

theorem dramDrainDoneStep_kept (hM : Sub 159973385 m) {a0 : Nat} {s : Block} (h : Kept m s0 s) :
    Kept m s0 (dramDrainDoneStep a0 s) := by
  unfold dramDrainDoneStep
  repeat' (first
    | with_reducible assumption
    | (extract_lets +onlyGivenNames r; have hr : DcSt := r; subst r)
    | with_reducible refine Kept.ite ?_ ?_
    | with_reducible refine Block_close_kept (hM.of rfl) ?_
    | with_reducible refine modDc_kept (hM.of rfl) (by first | exact fun _ h => h | exact fun c h => storeLine_lines _ _ _ h | exact fun c h => spSorted_spClear _ _ h | (intro c h; dsimp only; split <;> exact h)) ?_
    | with_reducible refine enterDc_kept (hM.of rfl) ?_)

theorem vddqRemovedOne_kept (hM : Sub 159973385 m) {a0 : Nat} {s : Block} (h : Kept m s0 s) :
    Kept m s0 (vddqRemovedOne a0 s) := by
  unfold vddqRemovedOne
  repeat' (first
    | with_reducible assumption
    | (extract_lets +onlyGivenNames r; have hr : Kept m s0 r := ?_; clear_value r; rotate_left; subst r; rotate_right)
    | (extract_lets +onlyGivenNames r; clear_value r)
    | with_reducible refine Kept.ite ?_ ?_
    | with_reducible refine modDc_kept (hM.of rfl) (by first | exact fun _ h => h | exact fun c h => storeLine_lines _ _ _ h | exact fun c h => spSorted_spClear _ _ h | (intro c h; dsimp only; split <;> exact h)) ?_
    | with_reducible refine channelError_kept (hM.of rfl) ?_
    | with_reducible refine contentsNew_kept (hM.of rfl) ?_)

theorem vddqDcRemovedStep_kept (hM : Sub 159973385 m) {a0 : Nat} {s : Block} (h : Kept m s0 s) :
    Kept m s0 (vddqDcRemovedStep a0 s) := by
  unfold vddqDcRemovedStep
  repeat' (first
    | with_reducible assumption
    | with_reducible refine vddqRemovedOne_kept (hM.of rfl) ?_)

theorem acceptRead_kept (hM : Sub 65536 m) {a0 : Nat} {a1 : DReq} {s : Block} (h : Kept m s0 s) :
    Kept m s0 (acceptRead a0 a1 s) := by
  unfold acceptRead
  repeat' (first
    | with_reducible assumption
    | (extract_lets +onlyGivenNames r; have hr : DcSt := r; subst r)
    | ((with_reducible refine setDc_kept (hM.of rfl) ?_ ?_); rotate_left; exact fun w => getDc_lines _ w)
    | split)

theorem dramLineReadStep_kept (hM : Sub 65537 m) {a0 a1 a2 a3 : Nat} {a4 : Bool} {s : Block} (h : Kept m s0 s) :
    Kept m s0 (dramLineReadStep a0 a1 a2 a3 a4 s) := by
  unfold dramLineReadStep
  repeat' (first
    | with_reducible assumption
    | (extract_lets +onlyGivenNames r; have hr : DcSt := r; subst r)
    | with_reducible refine Kept.ite ?_ ?_
    | with_reducible refine Block_emit_kept (hM.of rfl) ?_
    | with_reducible refine acceptRead_kept (hM.of rfl) ?_)

theorem enterWrite_kept (hM : Sub 65536 m) {a0 a1 : Nat} {a2 : BitVec 512} {a3 : BitVec 32} {s : Block} (h : Kept m s0 s) :
    Kept m s0 (enterWrite a0 a1 a2 a3 s) := by
  unfold enterWrite
  repeat' (first
    | with_reducible assumption
    | with_reducible refine modDc_kept (hM.of rfl) (by first | exact fun _ h => h | exact fun c h => storeLine_lines _ _ _ h | exact fun c h => spSorted_spClear _ _ h | (intro c h; dsimp only; split <;> exact h)) ?_)

theorem dramLineWriteStep_kept (hM : Sub 16842761 m) {a0 : Nat} {a1 : Option Nat} {a2 a3 : Nat} {a4 : BitVec 512} {s : Block} (h : Kept m s0 s) :
    Kept m s0 (dramLineWriteStep a0 a1 a2 a3 a4 s) := by
  unfold dramLineWriteStep
  repeat' (first
    | with_reducible assumption
    | (extract_lets +onlyGivenNames r; have hr : Kept m s0 r := ?_; clear_value r; rotate_left; subst r; rotate_right)
    | (extract_lets +onlyGivenNames r; have hr := fun x => r x; subst r)
    | (extract_lets +onlyGivenNames r; have hr : DcSt := r; subst r)
    | (extract_lets +onlyGivenNames r; clear_value r)
    | with_reducible refine Kept.ite ?_ ?_
    | with_reducible refine Block_emit_kept (hM.of rfl) ?_
    | with_reducible refine bumpDiscard_kept (hM.of rfl) ?_
    | with_reducible refine initBlock_kept (hM.of rfl) ?_
    | with_reducible refine enterWrite_kept (hM.of rfl) ?_
    | split)

theorem pairAccepted_kept (hM : Sub 65536 m) {a0 a1 a2 : Nat} {a3 : Bool} {a4 : Merge} {s : Block} (h : Kept m s0 s) :
    Kept m s0 (pairAccepted a0 a1 a2 a3 a4 s) := by
  unfold pairAccepted
  repeat' (first
    | with_reducible assumption
    | (extract_lets +onlyGivenNames r; have hr : Kept m s0 r := ?_; clear_value r; rotate_left; subst r; rotate_right)
    | with_reducible refine modDc_kept (hM.of rfl) (by first | exact fun _ h => h | exact fun c h => storeLine_lines _ _ _ h | exact fun c h => spSorted_spClear _ _ h | (intro c h; dsimp only; split <;> exact h)) ?_
    | with_reducible refine acceptRead_kept (hM.of rfl) ?_)

theorem dramLockedPairStep_kept (hM : Sub 65545 m) {a0 a1 a2 a3 : Nat} {a4 : Merge} {s : Block} (h : Kept m s0 s) :
    Kept m s0 (dramLockedPairStep a0 a1 a2 a3 a4 s) := by
  unfold dramLockedPairStep
  repeat' (first
    | with_reducible assumption
    | (extract_lets +onlyGivenNames r; have hr : DcSt := r; subst r)
    | (extract_lets +onlyGivenNames r; clear_value r)
    | with_reducible refine Kept.ite ?_ ?_
    | with_reducible refine Block_emit_kept (hM.of rfl) ?_
    | with_reducible refine pairAccepted_kept (hM.of rfl) ?_
    | with_reducible refine initBlock_kept (hM.of rfl) ?_)

theorem sendCmds_kept (hM : Sub 65536 m) {a0 a1 : Nat} {a2 : List DCmd} {s : Block} (h : Kept m s0 s) :
    Kept m s0 (sendCmds a0 a1 a2 s) := by
  unfold sendCmds
  repeat' (first
    | with_reducible assumption
    | with_reducible refine modDc_kept (hM.of rfl) (by first | exact fun _ h => h | exact fun c h => storeLine_lines _ _ _ h | exact fun c h => spSorted_spClear _ _ h | (intro c h; dsimp only; split <;> exact h)) ?_)

theorem activate_kept (hM : Sub 16842760 m) {a0 : Nat} {a1 : Coord} {s : Block} (h : Kept m s0 s) :
    Kept m s0 (activate a0 a1 s) := by
  unfold activate
  repeat' (first
    | with_reducible assumption
    | (extract_lets +onlyGivenNames r; have hr := fun x => r x; subst r)
    | (extract_lets +onlyGivenNames r; have hr : DcSt := r; subst r)
    | (extract_lets +onlyGivenNames r; clear_value r)
    | with_reducible refine Kept.ite ?_ ?_
    | with_reducible refine sendCmds_kept (hM.of rfl) ?_
    | with_reducible refine Block_bump_kept (hM.of rfl) ?_
    | ((with_reducible refine setDc_kept (hM.of rfl) ?_ ?_); rotate_left; exact fun w => getDc_lines _ w))

theorem openFor_kept (hM : Sub 16842760 m) {a0 : Nat} {a1 : Coord} {s : Block} (h : Kept m s0 s) :
    Kept m s0 (openFor a0 a1 s) := by
  unfold openFor
  repeat' (first
    | with_reducible assumption
    | with_reducible refine Kept.ite ?_ ?_
    | with_reducible refine activate_kept (hM.of rfl) ?_)

theorem actTableClearStep_kept (hM : Sub 65536 m) {a0 : Nat} {a1 : Coord} {s : Block} (h : Kept m s0 s) :
    Kept m s0 (actTableClearStep a0 a1 s) := by
  unfold actTableClearStep
  repeat' (first
    | with_reducible assumption
    | with_reducible refine modDc_kept (hM.of rfl) (by first | exact fun _ h => h | exact fun c h => storeLine_lines _ _ _ h | exact fun c h => spSorted_spClear _ _ h | (intro c h; dsimp only; split <;> exact h)) ?_)

theorem dramRefreshDueStep_kept (hM : Sub 65536 m) {a0 a1 a2 : Nat} {s : Block} (h : Kept m s0 s) :
    Kept m s0 (dramRefreshDueStep a0 a1 a2 s) := by
  unfold dramRefreshDueStep
  repeat' (first
    | with_reducible assumption
    | (extract_lets +onlyGivenNames r; have hr : DcSt := r; subst r)
    | (extract_lets +onlyGivenNames r; clear_value r)
    | with_reducible refine Kept.ite ?_ ?_
    | with_reducible refine modDc_kept (hM.of rfl) (by first | exact fun _ h => h | exact fun c h => storeLine_lines _ _ _ h | exact fun c h => spSorted_spClear _ _ h | (intro c h; dsimp only; split <;> exact h)) ?_)

theorem refreshRank_kept (hM : Sub 65536 m) {a0 a1 a2 : Nat} {s : Block} (h : Kept m s0 s) :
    Kept m s0 (refreshRank a0 a1 a2 s) := by
  unfold refreshRank
  repeat' (first
    | with_reducible assumption
    | (extract_lets +onlyGivenNames r; clear_value r)
    | with_reducible refine sendCmds_kept (hM.of rfl) ?_
    | with_reducible refine modDc_kept (hM.of rfl) (by first | exact fun _ h => h | exact fun c h => storeLine_lines _ _ _ h | exact fun c h => spSorted_spClear _ _ h | (intro c h; dsimp only; split <;> exact h)) ?_)

theorem rateRead_kept (hM : Sub 16842760 m) {a0 : Nat} {a1 : BitVec 4} {s : Block} (h : Kept m s0 s) :
    Kept m s0 (rateRead a0 a1 s) := by
  unfold rateRead
  repeat' (first
    | with_reducible assumption
    | intro _
    | with_reducible refine forEach_kept (hM.of rfl) ?_ ?_
    | with_reducible refine Block_raise_kept (hM.of rfl) ?_
    | with_reducible refine Block_putB_kept (hM.of rfl) ?_
    | with_reducible refine modDc_kept (hM.of rfl) (by first | exact fun _ h => h | exact fun c h => storeLine_lines _ _ _ h | exact fun c h => spSorted_spClear _ _ h | (intro c h; dsimp only; split <;> exact h)) ?_)

theorem dramRefreshRateReadStep_kept (hM : Sub 16842760 m) {a0 : Nat} {a1 : BitVec 4} {s : Block} (h : Kept m s0 s) :
    Kept m s0 (dramRefreshRateReadStep a0 a1 s) := by
  unfold dramRefreshRateReadStep
  repeat' (first
    | with_reducible assumption
    | intro _
    | with_reducible refine when_kept (hM.of rfl) ?_ ?_
    | with_reducible refine rateRead_kept (hM.of rfl) ?_)

theorem issueRead_kept (hM : Sub 16842760 m) {a0 : Nat} {a1 : DReq} {s : Block} (h : Kept m s0 s) :
    Kept m s0 (issueRead a0 a1 s) := by
  unfold issueRead
  repeat' (first
    | with_reducible assumption
    | (extract_lets +onlyGivenNames r; have hr : Kept m s0 r := ?_; clear_value r; rotate_left; subst r; rotate_right)
    | (extract_lets +onlyGivenNames r; clear_value r)
    | with_reducible refine sendCmds_kept (hM.of rfl) ?_
    | with_reducible refine openFor_kept (hM.of rfl) ?_
    | with_reducible refine modDc_kept (hM.of rfl) (by first | exact fun _ h => h | exact fun c h => storeLine_lines _ _ _ h | exact fun c h => spSorted_spClear _ _ h | (intro c h; dsimp only; split <;> exact h)) ?_)

theorem issueWrite_kept (hM : Sub 16842760 m) {a0 : Nat} {a1 : DWrite} {s : Block} (h : Kept m s0 s) :
    Kept m s0 (issueWrite a0 a1 s) := by
  unfold issueWrite
  refine modDc_kept (hM.of rfl) (fun c h => ?_)
    (sendCmds_kept (hM.of rfl) (openFor_kept (hM.of rfl) h))
  exact storeLine_lines a1.line a1.data a1.tag (c := { c with wq := c.wq.erase a1 }) h

theorem countSlot_kept (hM : Sub 65536 m) {a0 a1 a2 : Nat} {s : Block} (h : Kept m s0 s) :
    Kept m s0 (countSlot a0 a1 a2 s) := by
  unfold countSlot
  exact modDc_kept hM (fun c h => by dsimp only; split <;> exact h) h

theorem schedulerSlot_kept (hM : Sub 16842760 m) {a0 a1 : Nat} {s : Block} (h : Kept m s0 s) :
    Kept m s0 (schedulerSlot a0 a1 s) := by
  unfold schedulerSlot
  repeat' (first
    | with_reducible assumption
    | (extract_lets +onlyGivenNames r; have hr : DcSt := r; subst r)
    | (extract_lets +onlyGivenNames r; clear_value r)
    | with_reducible refine Kept.ite ?_ ?_
    | with_reducible refine countSlot_kept (hM.of rfl) ?_
    | with_reducible refine refreshRank_kept (hM.of rfl) ?_
    | with_reducible refine issueRead_kept (hM.of rfl) ?_
    | with_reducible refine issueWrite_kept (hM.of rfl) ?_
    | split)

theorem dramSchedulerSlotStep_kept (hM : Sub 16842760 m) {a0 a1 : Nat} {s : Block} (h : Kept m s0 s) :
    Kept m s0 (dramSchedulerSlotStep a0 a1 s) := by
  unfold dramSchedulerSlotStep
  repeat' (first
    | with_reducible assumption
    | intro _
    | with_reducible refine when_kept (hM.of rfl) ?_ ?_
    | with_reducible refine schedulerSlot_kept (hM.of rfl) ?_)

theorem writeWaited_kept (hM : Sub 4 m) {a0 : DWrite} {s : Block} (h : Kept m s0 s) :
    Kept m s0 (writeWaited a0 s) := by
  unfold writeWaited
  repeat' (first
    | with_reducible assumption
    | (extract_lets +onlyGivenNames r; clear_value r)
    | with_reducible refine Kept.ite ?_ ?_
    | with_reducible refine Kept.upd ?_ (h_devTime := .inr (hM.of rfl)))

theorem dramWriteStarveStep_kept (hM : Sub 16842764 m) {a0 : Nat} {s : Block} (h : Kept m s0 s) :
    Kept m s0 (dramWriteStarveStep a0 s) := by
  unfold dramWriteStarveStep
  repeat' (first
    | with_reducible assumption
    | (extract_lets +onlyGivenNames r; have hr : DcSt := r; subst r)
    | with_reducible refine Kept.ite ?_ ?_
    | with_reducible refine Block_bump_kept (hM.of rfl) ?_
    | with_reducible refine modDc_kept (hM.of rfl) (by first | exact fun _ h => h | exact fun c h => storeLine_lines _ _ _ h | exact fun c h => spSorted_spClear _ _ h | (intro c h; dsimp only; split <;> exact h)) ?_
    | with_reducible refine writeWaited_kept (hM.of rfl) ?_
    | split)

theorem lineVerdict_kept (hM : Sub 2 m) {a0 : DcSt} {a1 : Bool} {a2 : List (Nat × Nat)} {s : Block} (h : Kept m s0 s) :
    Kept m s0 (lineVerdict a0 a1 a2 s).2 := by
  unfold lineVerdict
  repeat' (first
    | with_reducible assumption
    | (extract_lets +onlyGivenNames r; have hr : Kept m s0 r.2 := ?_; clear_value r; rotate_left; subst r; rotate_right)
    | (extract_lets +onlyGivenNames r; have hr := fun x => r x; subst r)
    | (extract_lets +onlyGivenNames r; clear_value r)
    | with_reducible refine Kept.ite2 ?_ ?_
    | with_reducible refine Block_draw_kept (hM.of rfl) ?_)

theorem dcLog_kept (hM : Sub 16777736 m) {a0 a1 : Nat} {a2 a3 a4 : Bool} {a5 : List (Nat × Nat)} {s : Block} (h : Kept m s0 s) :
    Kept m s0 (dcLog a0 a1 a2 a3 a4 a5 s) := by
  unfold dcLog
  repeat' (first
    | with_reducible assumption
    | (extract_lets +onlyGivenNames r; clear_value r)
    | with_reducible refine Block_logWrite_kept (hM.of rfl) ?_)

theorem suspectOne_kept (hM : Sub 16842752 m) {a0 a1 a2 : Nat} {s : Block} (h : Kept m s0 s) :
    Kept m s0 (suspectOne a0 a1 a2 s) := by
  unfold suspectOne
  repeat' (first
    | with_reducible assumption
    | (extract_lets +onlyGivenNames r; have hr : DcSt := r; subst r)
    | (extract_lets +onlyGivenNames r; clear_value r)
    | with_reducible refine Kept.ite ?_ ?_
    | with_reducible refine Block_raise_kept (hM.of rfl) ?_
    | ((with_reducible refine setDc_kept (hM.of rfl) ?_ ?_); rotate_left; exact fun w => getDc_lines _ w))

theorem countCe_kept (hM : Sub 16843272 m) {a0 a1 : Nat} {a2 a3 : Bool} {a4 : List (Nat × Nat)} {s : Block} (h : Kept m s0 s) :
    Kept m s0 (countCe a0 a1 a2 a3 a4 s) := by
  unfold countCe
  repeat' (first
    | with_reducible assumption
    | intro _
    | (extract_lets +onlyGivenNames r; have hr : Kept m s0 r := ?_; clear_value r; rotate_left; subst r; rotate_right)
    | with_reducible refine Block_bump_kept (hM.of rfl) ?_
    | with_reducible refine when_kept (hM.of rfl) ?_ ?_
    | with_reducible refine dcLog_kept (hM.of rfl) ?_
    | with_reducible refine forEach_kept (hM.of rfl) ?_ ?_
    | with_reducible refine suspectOne_kept (hM.of rfl) ?_)

theorem countUe_kept (hM : Sub 16777736 m) {a0 a1 : Nat} {a2 a3 : Bool} {a4 : List (Nat × Nat)} {s : Block} (h : Kept m s0 s) :
    Kept m s0 (countUe a0 a1 a2 a3 a4 s) := by
  unfold countUe
  repeat' (first
    | with_reducible assumption
    | with_reducible refine dcEic_kept (hM.of rfl) ?_
    | with_reducible refine Block_raise_kept (hM.of rfl) ?_
    | with_reducible refine dcLog_kept (hM.of rfl) ?_
    | with_reducible refine Block_bump_kept (hM.of rfl) ?_)

theorem burstReturns_kept (hM : Sub 16843274 m) {a0 a1 : Nat} {a2 : DReq} {a3 : List (Nat × Nat)} {s : Block} (h : Kept m s0 s) :
    Kept m s0 (burstReturns a0 a1 a2 a3 s) := by
  unfold burstReturns
  repeat' (first
    | with_reducible assumption
    | intro _
    | (extract_lets +onlyGivenNames r; have hr : Kept m s0 r.2 := ?_; clear_value r; rotate_left; subst r; rotate_right)
    | (extract_lets +onlyGivenNames r; have hr := fun x => r x; subst r)
    | (extract_lets +onlyGivenNames r; clear_value r)
    | with_reducible refine lineVerdict_kept (hM.of rfl) ?_
    | with_reducible refine modDc_kept (hM.of rfl) (by first | exact fun _ h => h | exact fun c h => storeLine_lines _ _ _ h | exact fun c h => spSorted_spClear _ _ h | (intro c h; dsimp only; split <;> exact h)) ?_
    | with_reducible refine countCe_kept (hM.of rfl) ?_
    | with_reducible refine countUe_kept (hM.of rfl) ?_
    | with_reducible refine when_kept (hM.of rfl) ?_ ?_
    | split)

theorem dramBurstCompleteStep_kept (hM : Sub 16843274 m) {a0 a1 : Nat} {a2 : List (Nat × Nat)} {s : Block} (h : Kept m s0 s) :
    Kept m s0 (dramBurstCompleteStep a0 a1 a2 s) := by
  unfold dramBurstCompleteStep
  repeat' (first
    | with_reducible assumption
    | with_reducible refine Kept.ite ?_ ?_
    | with_reducible refine burstReturns_kept (hM.of rfl) ?_
    | split)

theorem patrolRead_kept (hM : Sub 16843274 m) {a0 : Nat} {a1 : List (Nat × Nat)} {a2 : Bool} {s : Block} (h : Kept m s0 s) :
    Kept m s0 (patrolRead a0 a1 a2 s) := by
  unfold patrolRead
  repeat' (first
    | with_reducible assumption
    | (extract_lets +onlyGivenNames r; have hr : Kept m s0 r := ?_; clear_value r; rotate_left; subst r; rotate_right)
    | (extract_lets +onlyGivenNames r; have hr : Kept m s0 r.2 := ?_; clear_value r; rotate_left; subst r; rotate_right)
    | (extract_lets +onlyGivenNames r; have hr : DcSt := r; subst r)
    | (extract_lets +onlyGivenNames r; clear_value r)
    | with_reducible refine Kept.ite ?_ ?_
    | with_reducible refine modDc_kept (hM.of rfl) (by first | exact fun _ h => h | exact fun c h => storeLine_lines _ _ _ h | exact fun c h => spSorted_spClear _ _ h | (intro c h; dsimp only; split <;> exact h)) ?_
    | with_reducible refine lineVerdict_kept (hM.of rfl) ?_
    | with_reducible refine countCe_kept (hM.of rfl) ?_
    | with_reducible refine countUe_kept (hM.of rfl) ?_
    | split)

theorem dramPatrolReadStep_kept (hM : Sub 16843274 m) {a0 : Nat} {a1 : List (Nat × Nat)} {a2 : Bool} {s : Block} (h : Kept m s0 s) :
    Kept m s0 (dramPatrolReadStep a0 a1 a2 s) := by
  unfold dramPatrolReadStep
  repeat' (first
    | with_reducible assumption
    | (extract_lets +onlyGivenNames r; have hr : DcSt := r; subst r)
    | with_reducible refine Kept.ite ?_ ?_
    | with_reducible refine patrolRead_kept (hM.of rfl) ?_)

theorem alertVoid_kept (hM : Sub 65536 m) {a0 a1 : Nat} {a2 : DAlert} {s : Block} (h : Kept m s0 s) :
    Kept m s0 (alertVoid a0 a1 a2 s) := by
  unfold alertVoid
  repeat' (first
    | with_reducible assumption
    | (extract_lets +onlyGivenNames r; clear_value r)
    | with_reducible refine modDc_kept (hM.of rfl) (by first | exact fun _ h => h | exact fun c h => storeLine_lines _ _ _ h | exact fun c h => spSorted_spClear _ _ h | (intro c h; dsimp only; split <;> exact h)) ?_)

theorem dramAlertStep_kept (hM : Sub 159973385 m) {a0 a1 : Nat} {s : Block} (h : Kept m s0 s) :
    Kept m s0 (dramAlertStep a0 a1 s) := by
  unfold dramAlertStep
  repeat' (first
    | with_reducible assumption
    | with_reducible refine Kept.ite ?_ ?_
    | with_reducible refine alertVoid_kept (hM.of rfl) ?_
    | with_reducible refine Block_bump_kept (hM.of rfl) ?_
    | with_reducible refine channelError_kept (hM.of rfl) ?_
    | split)

theorem dcReplay_kept (hM : Sub 65537 m) {a0 a1 : Nat} {a2 : DAlert} {s : Block} (h : Kept m s0 s) :
    Kept m s0 (dcReplay a0 a1 a2 s) := by
  unfold dcReplay
  repeat' (first
    | with_reducible assumption
    | (extract_lets +onlyGivenNames r; clear_value r)
    | with_reducible refine Block_emit_kept (hM.of rfl) ?_
    | with_reducible refine sendCmds_kept (hM.of rfl) ?_)

theorem dramAlertReleaseStep_kept (hM : Sub 65537 m) {a0 a1 : Nat} {s : Block} (h : Kept m s0 s) :
    Kept m s0 (dramAlertReleaseStep a0 a1 s) := by
  unfold dramAlertReleaseStep
  repeat' (first
    | with_reducible assumption
    | with_reducible refine Kept.ite ?_ ?_
    | with_reducible refine dcReplay_kept (hM.of rfl) ?_
    | with_reducible refine modDc_kept (hM.of rfl) (by first | exact fun _ h => h | exact fun c h => storeLine_lines _ _ _ h | exact fun c h => spSorted_spClear _ _ h | (intro c h; dsimp only; split <;> exact h)) ?_
    | split)

theorem dramReplayWindowEndStep_kept (hM : Sub 16842760 m) {a0 a1 : Nat} {s : Block} (h : Kept m s0 s) :
    Kept m s0 (dramReplayWindowEndStep a0 a1 s) := by
  unfold dramReplayWindowEndStep
  repeat' (first
    | with_reducible assumption
    | with_reducible refine Kept.ite ?_ ?_
    | with_reducible refine Block_bump_kept (hM.of rfl) ?_
    | with_reducible refine modDc_kept (hM.of rfl) (by first | exact fun _ h => h | exact fun c h => storeLine_lines _ _ _ h | exact fun c h => spSorted_spClear _ _ h | (intro c h; dsimp only; split <;> exact h)) ?_
    | split)

theorem dramInitBlockStep_kept (hM : Sub 65544 m) {a0 : Nat} {s : Block} (h : Kept m s0 s) :
    Kept m s0 (dramInitBlockStep a0 s) := by
  unfold dramInitBlockStep
  repeat' (first
    | with_reducible assumption
    | (extract_lets +onlyGivenNames r; have hr : DcSt := r; subst r)
    | with_reducible refine Kept.ite ?_ ?_
    | with_reducible refine initBlock_kept (hM.of rfl) ?_)

theorem dramZqCalStep_kept (_ : Sub 0 m) {a0 a1 : Nat} {s : Block} (h : Kept m s0 s) :
    Kept m s0 (dramZqCalStep a0 a1 s) := by
  unfold dramZqCalStep
  repeat' (first
    | with_reducible assumption)

theorem driftMoves_kept (hM : Sub 8 m) {a0 : Nat} {a1 : List (Nat × Bool)} {s : Block} (h : Kept m s0 s) :
    Kept m s0 (driftMoves a0 a1 s) := by
  unfold driftMoves
  repeat' (first
    | with_reducible assumption
    | intro _
    | (extract_lets +onlyGivenNames r; clear_value r)
    | with_reducible refine forEach_kept (hM.of rfl) ?_ ?_
    | with_reducible refine Block_put_kept (hM.of rfl) ?_)

theorem dramDriftTrackStep_kept (hM : Sub 8 m) {a0 : Nat} {a1 : List (Nat × Bool)} {s : Block} (h : Kept m s0 s) :
    Kept m s0 (dramDriftTrackStep a0 a1 s) := by
  unfold dramDriftTrackStep
  repeat' (first
    | with_reducible assumption
    | intro _
    | with_reducible refine when_kept (hM.of rfl) ?_ ?_
    | with_reducible refine driftMoves_kept (hM.of rfl) ?_)

theorem execDramTrain_ran (hM : Sub 159973385 m) (a0 : Hdr) (a1 : Nat) (a2 : Nat) (s : State) : Ran m s (execDramTrain a0 a1 a2 s) := by
  unfold execDramTrain
  refine live_ran (fun s0 s h => ?_) s
  repeat' (first
    | with_reducible assumption
    | intro _
    | with_reducible refine Block_command_kept (hM.of rfl) ?_ ?_
    | with_reducible refine onDie_kept (hM.of rfl) ?_ ?_
    | with_reducible refine dramTrainCmd_kept (hM.of rfl) ?_)

theorem execDramStatus_ran (hM : Sub 8388608 m) (a0 : Hdr) (a1 : Nat) (s : State) : Ran m s (execDramStatus a0 a1 s) := by
  unfold execDramStatus
  refine live_ran (fun s0 s h => ?_) s
  repeat' (first
    | with_reducible assumption
    | intro _
    | with_reducible refine Block_command_kept (hM.of rfl) ?_ ?_
    | with_reducible refine onDie_kept (hM.of rfl) ?_ ?_
    | with_reducible refine dramStatusCmd_kept (hM.of rfl) ?_)

theorem execDramQuiesce_ran (hM : Sub 159973385 m) (a0 : Hdr) (a1 : Nat) (s : State) : Ran m s (execDramQuiesce a0 a1 s) := by
  unfold execDramQuiesce
  refine live_ran (fun s0 s h => ?_) s
  repeat' (first
    | with_reducible assumption
    | intro _
    | with_reducible refine Block_command_kept (hM.of rfl) ?_ ?_
    | with_reducible refine onDie_kept (hM.of rfl) ?_ ?_
    | with_reducible refine dramQuiesceCmd_kept (hM.of rfl) ?_)

theorem execDramResume_ran (hM : Sub 159973385 m) (a0 : Hdr) (a1 : Nat) (s : State) : Ran m s (execDramResume a0 a1 s) := by
  unfold execDramResume
  refine live_ran (fun s0 s h => ?_) s
  repeat' (first
    | with_reducible assumption
    | intro _
    | with_reducible refine Block_command_kept (hM.of rfl) ?_ ?_
    | with_reducible refine onDie_kept (hM.of rfl) ?_ ?_
    | with_reducible refine dramResumeCmd_kept (hM.of rfl) ?_)

theorem execDramOffline_ran (hM : Sub 159973385 m) (a0 : Hdr) (a1 : Nat) (s : State) : Ran m s (execDramOffline a0 a1 s) := by
  unfold execDramOffline
  refine live_ran (fun s0 s h => ?_) s
  repeat' (first
    | with_reducible assumption
    | intro _
    | with_reducible refine Block_command_kept (hM.of rfl) ?_ ?_
    | with_reducible refine onDie_kept (hM.of rfl) ?_ ?_
    | with_reducible refine dramOfflineCmd_kept (hM.of rfl) ?_)

theorem execDramOnline_ran (hM : Sub 159973385 m) (a0 : Hdr) (a1 : Nat) (s : State) : Ran m s (execDramOnline a0 a1 s) := by
  unfold execDramOnline
  refine live_ran (fun s0 s h => ?_) s
  repeat' (first
    | with_reducible assumption
    | intro _
    | with_reducible refine Block_command_kept (hM.of rfl) ?_ ?_
    | with_reducible refine onDie_kept (hM.of rfl) ?_ ?_
    | with_reducible refine dramOnlineCmd_kept (hM.of rfl) ?_)

theorem execDramSelftest_ran (hM : Sub 42008578 m) (a0 : Hdr) (a1 : Nat) (a2 : Nat) (a3 : Nat) (a4 : Nat) (s : State) : Ran m s (execDramSelftest a0 a1 a2 a3 a4 s) := by
  unfold execDramSelftest
  refine live_ran (fun s0 s h => ?_) s
  repeat' (first
    | with_reducible assumption
    | intro _
    | with_reducible refine Block_command_kept (hM.of rfl) ?_ ?_
    | with_reducible refine onDie_kept (hM.of rfl) ?_ ?_
    | with_reducible refine dramSelftestCmd_kept (hM.of rfl) ?_)

theorem execDramRecover_ran (hM : Sub 159973385 m) (a0 : Hdr) (a1 : Nat) (s : State) : Ran m s (execDramRecover a0 a1 s) := by
  unfold execDramRecover
  refine live_ran (fun s0 s h => ?_) s
  repeat' (first
    | with_reducible assumption
    | intro _
    | with_reducible refine Block_command_kept (hM.of rfl) ?_ ?_
    | with_reducible refine onDie_kept (hM.of rfl) ?_ ?_
    | with_reducible refine dramRecoverCmd_kept (hM.of rfl) ?_)

theorem execDramBracket_ran (hM : Sub 8388616 m) (a0 : Hdr) (a1 : Nat) (a2 : BitVec 64) (s : State) : Ran m s (execDramBracket a0 a1 a2 s) := by
  unfold execDramBracket
  refine live_ran (fun s0 s h => ?_) s
  repeat' (first
    | with_reducible assumption
    | intro _
    | with_reducible refine Block_command_kept (hM.of rfl) ?_ ?_
    | with_reducible refine onDie_kept (hM.of rfl) ?_ ?_
    | with_reducible refine dramBracketCmd_kept (hM.of rfl) ?_)

theorem execBracketGo_ran (hM : Sub 8 m) (a0 : Fin 8) (s : State) : Ran m s (execBracketGo a0 s) := by
  unfold execBracketGo
  refine clockedOn_ran (fun s0 s h => ?_) s
  repeat' (first
    | with_reducible assumption
    | with_reducible refine bracketGoStep_kept (hM.of rfl) ?_)

theorem execBracketDone_ran (hM : Sub 8388616 m) (a0 : Fin 8) (a1 : List (BitVec 27)) (s : State) : Ran m s (execBracketDone a0 a1 s) := by
  unfold execBracketDone
  refine clockedOn_ran (fun s0 s h => ?_) s
  repeat' (first
    | with_reducible assumption
    | with_reducible refine bracketDoneStep_kept (hM.of rfl) ?_)

theorem execDramTrainDone_ran (hM : Sub 160104473 m) (a0 : Fin 8) (a1 : Option Dimm) (a2 : Option Bool) (a3 : Option (Fin 4)) (a4 : Bool) (s : State) : Ran m s (execDramTrainDone a0 a1 a2 a3 a4 s) := by
  unfold execDramTrainDone
  refine clockedOn_ran (fun s0 s h => ?_) s
  repeat' (first
    | with_reducible assumption
    | with_reducible refine dramTrainDoneStep_kept (hM.of rfl) ?_)

theorem execDramDrainDone_ran (hM : Sub 159973385 m) (a0 : Fin 8) (s : State) : Ran m s (execDramDrainDone a0 s) := by
  unfold execDramDrainDone
  refine clockedOn_ran (fun s0 s h => ?_) s
  repeat' (first
    | with_reducible assumption
    | with_reducible refine dramDrainDoneStep_kept (hM.of rfl) ?_)

theorem execVddqDcRemoved_ran (hM : Sub 159973385 m) (a0 : Fin 4) (s : State) : Ran m s (execVddqDcRemoved a0 s) := by
  unfold execVddqDcRemoved
  refine live_ran (fun s0 s h => ?_) s
  repeat' (first
    | with_reducible assumption
    | with_reducible refine vddqDcRemovedStep_kept (hM.of rfl) ?_)

theorem execDramLineRead_ran (hM : Sub 65537 m) (a0 : Fin 8) (a1 : Nat) (a2 : Nat) (a3 : BitVec 12) (a4 : Bool) (s : State) : Ran m s (execDramLineRead a0 a1 a2 a3 a4 s) := by
  unfold execDramLineRead
  refine clockedOn_ran (fun s0 s h => ?_) s
  repeat' (first
    | with_reducible assumption
    | with_reducible refine dramLineReadStep_kept (hM.of rfl) ?_)

theorem execDramLineWrite_ran (hM : Sub 16842761 m) (a0 : Fin 8) (a1 : Option Nat) (a2 : Nat) (a3 : BitVec 12) (a4 : BitVec 512) (s : State) : Ran m s (execDramLineWrite a0 a1 a2 a3 a4 s) := by
  unfold execDramLineWrite
  refine clockedOn_ran (fun s0 s h => ?_) s
  repeat' (first
    | with_reducible assumption
    | with_reducible refine dramLineWriteStep_kept (hM.of rfl) ?_)

theorem execDramLockedPair_ran (hM : Sub 65545 m) (a0 : Fin 8) (a1 : Nat) (a2 : Nat) (a3 : BitVec 12) (a4 : Merge) (s : State) : Ran m s (execDramLockedPair a0 a1 a2 a3 a4 s) := by
  unfold execDramLockedPair
  refine clockedOn_ran (fun s0 s h => ?_) s
  repeat' (first
    | with_reducible assumption
    | with_reducible refine dramLockedPairStep_kept (hM.of rfl) ?_)

theorem execActTableClear_ran (hM : Sub 65536 m) (a0 : Fin 8) (a1 : Fin 2) (a2 : Fin 4) (a3 : Fin 8) (a4 : Fin 4) (s : State) : Ran m s (execActTableClear a0 a1 a2 a3 a4 s) := by
  unfold execActTableClear
  refine clockedOn_ran (fun s0 s h => ?_) s
  repeat' (first
    | with_reducible assumption
    | with_reducible refine actTableClearStep_kept (hM.of rfl) ?_)

theorem execDramRefreshDue_ran (hM : Sub 65536 m) (a0 : Fin 8) (a1 : Fin 2) (a2 : Fin 4) (s : State) : Ran m s (execDramRefreshDue a0 a1 a2 s) := by
  unfold execDramRefreshDue
  refine clockedOn_ran (fun s0 s h => ?_) s
  repeat' (first
    | with_reducible assumption
    | with_reducible refine dramRefreshDueStep_kept (hM.of rfl) ?_)

theorem execDramRefreshRateRead_ran (hM : Sub 16842760 m) (a0 : Fin 8) (a1 : BitVec 4) (s : State) : Ran m s (execDramRefreshRateRead a0 a1 s) := by
  unfold execDramRefreshRateRead
  refine clockedOn_ran (fun s0 s h => ?_) s
  repeat' (first
    | with_reducible assumption
    | with_reducible refine dramRefreshRateReadStep_kept (hM.of rfl) ?_)

theorem execDramSchedulerSlot_ran (hM : Sub 16842760 m) (a0 : Fin 8) (a1 : Fin 2) (s : State) : Ran m s (execDramSchedulerSlot a0 a1 s) := by
  unfold execDramSchedulerSlot
  refine clockedOn_ran (fun s0 s h => ?_) s
  repeat' (first
    | with_reducible assumption
    | with_reducible refine dramSchedulerSlotStep_kept (hM.of rfl) ?_)

theorem execDramWriteStarve_ran (hM : Sub 16842764 m) (a0 : Fin 8) (s : State) : Ran m s (execDramWriteStarve a0 s) := by
  unfold execDramWriteStarve
  refine clockedOn_ran (fun s0 s h => ?_) s
  repeat' (first
    | with_reducible assumption
    | with_reducible refine dramWriteStarveStep_kept (hM.of rfl) ?_)

theorem execDramBurstComplete_ran (hM : Sub 16843274 m) (a0 : Fin 8) (a1 : Nat) (a2 : List (Fin 4 × Fin 20)) (s : State) : Ran m s (execDramBurstComplete a0 a1 a2 s) := by
  unfold execDramBurstComplete
  refine clockedOn_ran (fun s0 s h => ?_) s
  repeat' (first
    | with_reducible assumption
    | with_reducible refine dramBurstCompleteStep_kept (hM.of rfl) ?_)

theorem execDramPatrolRead_ran (hM : Sub 16843274 m) (a0 : Fin 8) (a1 : List (Fin 4 × Fin 20)) (a2 : Bool) (s : State) : Ran m s (execDramPatrolRead a0 a1 a2 s) := by
  unfold execDramPatrolRead
  refine clockedOn_ran (fun s0 s h => ?_) s
  repeat' (first
    | with_reducible assumption
    | with_reducible refine dramPatrolReadStep_kept (hM.of rfl) ?_)

theorem execDramAlert_ran (hM : Sub 159973385 m) (a0 : Fin 8) (a1 : Fin 2) (s : State) : Ran m s (execDramAlert a0 a1 s) := by
  unfold execDramAlert
  refine clockedOn_ran (fun s0 s h => ?_) s
  repeat' (first
    | with_reducible assumption
    | with_reducible refine dramAlertStep_kept (hM.of rfl) ?_)

theorem execDramAlertRelease_ran (hM : Sub 65537 m) (a0 : Fin 8) (a1 : Fin 2) (s : State) : Ran m s (execDramAlertRelease a0 a1 s) := by
  unfold execDramAlertRelease
  refine clockedOn_ran (fun s0 s h => ?_) s
  repeat' (first
    | with_reducible assumption
    | with_reducible refine dramAlertReleaseStep_kept (hM.of rfl) ?_)

theorem execDramReplayWindowEnd_ran (hM : Sub 16842760 m) (a0 : Fin 8) (a1 : Fin 2) (s : State) : Ran m s (execDramReplayWindowEnd a0 a1 s) := by
  unfold execDramReplayWindowEnd
  refine clockedOn_ran (fun s0 s h => ?_) s
  repeat' (first
    | with_reducible assumption
    | with_reducible refine dramReplayWindowEndStep_kept (hM.of rfl) ?_)

theorem execDramInitBlock_ran (hM : Sub 65544 m) (a0 : Fin 8) (s : State) : Ran m s (execDramInitBlock a0 s) := by
  unfold execDramInitBlock
  refine clockedOn_ran (fun s0 s h => ?_) s
  repeat' (first
    | with_reducible assumption
    | with_reducible refine dramInitBlockStep_kept (hM.of rfl) ?_)

theorem execDramZqCal_ran (hM : Sub 0 m) (a0 : Fin 8) (a1 : Fin 4) (s : State) : Ran m s (execDramZqCal a0 a1 s) := by
  unfold execDramZqCal
  refine clockedOn_ran (fun s0 s h => ?_) s
  repeat' (first
    | with_reducible assumption
    | with_reducible refine dramZqCalStep_kept (hM.of rfl) ?_)

theorem execDramDriftTrack_ran (hM : Sub 8 m) (a0 : Fin 8) (a1 : Fin 4) (a2 : List (Fin 80 × Bool)) (s : State) : Ran m s (execDramDriftTrack a0 a1 a2 s) := by
  unfold execDramDriftTrack
  refine clockedOn_ran (fun s0 s h => ?_) s
  repeat' (first
    | with_reducible assumption
    | with_reducible refine dramDriftTrackStep_kept (hM.of rfl) ?_)

/-! ### Lsu -/

theorem keyStatusAt_kept (hM : Sub 8 m) {a0 : Nat} {s : Block} (h : Kept m s0 s) :
    Kept m s0 (keyStatusAt a0 s) := by
  unfold keyStatusAt
  repeat' (first
    | with_reducible assumption
    | intro _
    | with_reducible refine forEach_kept (hM.of rfl) ?_ ?_
    | with_reducible refine Block_putB_kept (hM.of rfl) ?_)

theorem keyStatus_kept (hM : Sub 8 m) {s : Block} (h : Kept m s0 s) :
    Kept m s0 (keyStatus s) := by
  unfold keyStatus
  repeat' (first
    | with_reducible assumption
    | intro _
    | with_reducible refine forEach_kept (hM.of rfl) ?_ ?_
    | with_reducible refine keyStatusAt_kept (hM.of rfl) ?_)

theorem setSlotAt_kept (hM : Sub 262144 m) {a0 : Nat} {a1 : Option (BitVec 128)} {a2 : Nat} {s : Block} (h : Kept m s0 s) :
    Kept m s0 (setSlotAt a0 a1 a2 s) := by
  unfold setSlotAt
  repeat' (first
    | with_reducible assumption
    | (extract_lets +onlyGivenNames r; clear_value r)
    | with_reducible refine Kept.upd ?_ (h_lsu := .inr (hM.of rfl)))

theorem setSlot_kept (hM : Sub 262152 m) {a0 : Nat} {a1 : Option (BitVec 128)} {s : Block} (h : Kept m s0 s) :
    Kept m s0 (setSlot a0 a1 s) := by
  unfold setSlot
  repeat' (first
    | with_reducible assumption
    | intro _
    | (extract_lets +onlyGivenNames r; clear_value r)
    | with_reducible refine keyStatus_kept (hM.of rfl) ?_
    | with_reducible refine forEach_kept (hM.of rfl) ?_ ?_
    | with_reducible refine setSlotAt_kept (hM.of rfl) ?_
    | with_reducible refine Kept.upd ?_ (h_lsu := .inr (hM.of rfl)))

theorem lsuKeyWrite_kept (hM : Sub 262152 m) {a0 a1 a2 a3 : Nat} {s : Block} (h : Kept m s0 s) :
    Kept m s0 (lsuKeyWrite a0 a1 a2 a3 s) := by
  unfold lsuKeyWrite
  repeat' (first
    | with_reducible assumption
    | (extract_lets +onlyGivenNames r; clear_value r)
    | with_reducible refine keyStatusAt_kept (hM.of rfl) ?_
    | with_reducible refine setSlotAt_kept (hM.of rfl) ?_)

theorem setGen_kept (hM : Sub 262144 m) {a0 a1 : Nat} {s : Block} (h : Kept m s0 s) :
    Kept m s0 (setGen a0 a1 s) := by
  unfold setGen
  repeat' (first
    | with_reducible assumption
    | (extract_lets +onlyGivenNames r; clear_value r)
    | with_reducible refine Kept.upd ?_ (h_lsu := .inr (hM.of rfl)))

theorem lsuKeyLoadCmd_kept (hM : Sub 8650760 m) {a0 a1 : Nat} {a2 : Cmd} {s : Block} (h : Kept m s0 s) :
    Kept m s0 (lsuKeyLoadCmd a0 a1 a2 s) := by
  unfold lsuKeyLoadCmd
  repeat' (first
    | with_reducible assumption
    | (extract_lets +onlyGivenNames r; clear_value r)
    | with_reducible refine Kept.ite ?_ ?_
    | with_reducible refine Block_respond_kept (hM.of rfl) ?_
    | with_reducible refine setSlot_kept (hM.of rfl) ?_
    | with_reducible refine setGen_kept (hM.of rfl) ?_)

theorem lsuKeyClearCmd_kept (hM : Sub 8650760 m) {a0 : Nat} {a1 : Cmd} {s : Block} (h : Kept m s0 s) :
    Kept m s0 (lsuKeyClearCmd a0 a1 s) := by
  unfold lsuKeyClearCmd
  repeat' (first
    | with_reducible assumption
    | with_reducible refine Kept.ite ?_ ?_
    | with_reducible refine Block_respond_kept (hM.of rfl) ?_
    | with_reducible refine setSlot_kept (hM.of rfl) ?_)

theorem lsuPutAll_kept (hM : Sub 8 m) {a0 : Fld} {a1 : Nat} {s : Block} (h : Kept m s0 s) :
    Kept m s0 (lsuPutAll a0 a1 s) := by
  unfold lsuPutAll
  repeat' (first
    | with_reducible assumption
    | intro _
    | with_reducible refine forEach_kept (hM.of rfl) ?_ ?_
    | with_reducible refine Block_put_kept (hM.of rfl) ?_)

theorem lsuRegionSetCmd_kept (hM : Sub 8388616 m) {a0 a1 a2 a3 : Nat} {a4 : Cmd} {s : Block} (h : Kept m s0 s) :
    Kept m s0 (lsuRegionSetCmd a0 a1 a2 a3 a4 s) := by
  unfold lsuRegionSetCmd
  repeat' (first
    | with_reducible assumption
    | with_reducible refine Kept.ite ?_ ?_
    | with_reducible refine Block_respond_kept (hM.of rfl) ?_
    | with_reducible refine lsuPutAll_kept (hM.of rfl) ?_)

theorem lsuStatusCmd_kept (hM : Sub 8388608 m) {a0 : Nat} {a1 : Cmd} {s : Block} (h : Kept m s0 s) :
    Kept m s0 (lsuStatusCmd a0 a1 s) := by
  unfold lsuStatusCmd
  repeat' (first
    | with_reducible assumption
    | with_reducible refine Kept.ite ?_ ?_
    | with_reducible refine Block_respond_kept (hM.of rfl) ?_)

theorem lsuLog_kept (hM : Sub 16777736 m) {a0 a1 a2 a3 : Nat} {a4 : Bool} {s : Block} (h : Kept m s0 s) :
    Kept m s0 (lsuLog a0 a1 a2 a3 a4 s) := by
  unfold lsuLog
  repeat' (first
    | with_reducible assumption
    | (extract_lets +onlyGivenNames r; have hr : Kept m s0 r := ?_; clear_value r; rotate_left; subst r; rotate_right)
    | (extract_lets +onlyGivenNames r; clear_value r)
    | with_reducible refine Kept.ite ?_ ?_
    | with_reducible refine Block_logWrite_kept (hM.of rfl) ?_
    | with_reducible refine dcEic_kept (hM.of rfl) ?_
    | with_reducible refine Block_raise_kept (hM.of rfl) ?_)

theorem unlock_kept (hM : Sub 65536 m) {a0 a1 : Nat} {s : Block} (h : Kept m s0 s) :
    Kept m s0 (unlock a0 a1 s) := by
  unfold unlock
  repeat' (first
    | with_reducible assumption
    | with_reducible refine modDc_kept (hM.of rfl) (by first | exact fun _ h => h | exact fun c h => storeLine_lines _ _ _ h | exact fun c h => spSorted_spClear _ _ h | (intro c h; dsimp only; split <;> exact h)) ?_)

theorem readAnswer_kept (hM : Sub 16777737 m) {a0 : Nat} {a1 : DRet} {s : Block} (h : Kept m s0 s) :
    Kept m s0 (readAnswer a0 a1 s) := by
  unfold readAnswer
  repeat' (first
    | with_reducible assumption
    | with_reducible refine Kept.ite ?_ ?_
    | with_reducible refine Block_emit_kept (hM.of rfl) ?_
    | with_reducible refine lsuLog_kept (hM.of rfl) ?_
    | with_reducible refine Block_bump_kept (hM.of rfl) ?_
    | split)

theorem pairAnswer_kept (hM : Sub 16843273 m) {a0 : Nat} {a1 : DRet} {a2 : Merge} {s : Block} (h : Kept m s0 s) :
    Kept m s0 (pairAnswer a0 a1 a2 s) := by
  unfold pairAnswer
  repeat' (first
    | with_reducible assumption
    | (extract_lets +onlyGivenNames r; have hr : Kept m s0 r := ?_; clear_value r; rotate_left; subst r; rotate_right)
    | (extract_lets +onlyGivenNames r; clear_value r)
    | with_reducible refine Kept.ite ?_ ?_
    | with_reducible refine unlock_kept (hM.of rfl) ?_
    | with_reducible refine Block_emit_kept (hM.of rfl) ?_
    | with_reducible refine lsuLog_kept (hM.of rfl) ?_
    | with_reducible refine Block_bump_kept (hM.of rfl) ?_
    | with_reducible refine enterWrite_kept (hM.of rfl) ?_
    | split)

theorem lsuReadCheckStep_kept (hM : Sub 16843273 m) {a0 a1 : Nat} {s : Block} (h : Kept m s0 s) :
    Kept m s0 (lsuReadCheckStep a0 a1 s) := by
  unfold lsuReadCheckStep
  repeat' (first
    | with_reducible assumption
    | (extract_lets +onlyGivenNames r; have hr := fun x => r x; subst r)
    | (extract_lets +onlyGivenNames r; have hr : DcSt := r; subst r)
    | with_reducible refine Kept.ite ?_ ?_
    | with_reducible refine modDc_kept (hM.of rfl) (by first | exact fun _ h => h | exact fun c h => storeLine_lines _ _ _ h | exact fun c h => spSorted_spClear _ _ h | (intro c h; dsimp only; split <;> exact h)) ?_
    | with_reducible refine readAnswer_kept (hM.of rfl) ?_
    | with_reducible refine pairAnswer_kept (hM.of rfl) ?_
    | split)

theorem boundTo_kept (hM : Sub 8 m) {a0 a1 a2 : Nat} {s : Block} (h : Kept m s0 s) :
    Kept m s0 (boundTo a0 a1 a2 s) := by
  unfold boundTo
  repeat' (first
    | with_reducible assumption
    | with_reducible refine Block_put_kept (hM.of rfl) ?_)

theorem rekeyBegins_kept (hM : Sub 262152 m) {a0 a1 a2 : Nat} {a3 : Cmd} {s : Block} (h : Kept m s0 s) :
    Kept m s0 (rekeyBegins a0 a1 a2 a3 s) := by
  unfold rekeyBegins
  repeat' (first
    | with_reducible assumption
    | intro _
    | (extract_lets +onlyGivenNames r; have hr : Kept m s0 r := ?_; clear_value r; rotate_left; subst r; rotate_right)
    | (extract_lets +onlyGivenNames r; clear_value r)
    | with_reducible refine Kept.ite ?_ ?_
    | with_reducible refine lsuPutAll_kept (hM.of rfl) ?_
    | with_reducible refine forEach_kept (hM.of rfl) ?_ ?_
    | with_reducible refine Block_put_kept (hM.of rfl) ?_
    | with_reducible refine boundTo_kept (hM.of rfl) ?_
    | with_reducible refine keyStatus_kept (hM.of rfl) ?_
    | with_reducible refine Kept.upd ?_ (h_lsu := .inr (hM.of rfl)))

theorem lsuRekeyCmd_kept (hM : Sub 8650760 m) {a0 a1 a2 : Nat} {a3 : Cmd} {s : Block} (h : Kept m s0 s) :
    Kept m s0 (lsuRekeyCmd a0 a1 a2 a3 s) := by
  unfold lsuRekeyCmd
  repeat' (first
    | with_reducible assumption
    | with_reducible refine Kept.ite ?_ ?_
    | with_reducible refine Block_respond_kept (hM.of rfl) ?_
    | with_reducible refine Block_hold_kept (hM.of rfl) ?_
    | with_reducible refine rekeyBegins_kept (hM.of rfl) ?_)

theorem sweepRead_kept (hM : Sub 65544 m) {a0 a1 a2 a3 : Nat} {s : Block} (h : Kept m s0 s) :
    Kept m s0 (sweepRead a0 a1 a2 a3 s) := by
  unfold sweepRead
  repeat' (first
    | with_reducible assumption
    | (extract_lets +onlyGivenNames r; have hr : Kept m s0 r := ?_; clear_value r; rotate_left; subst r; rotate_right)
    | with_reducible refine modDc_kept (hM.of rfl) (by first | exact fun _ h => h | exact fun c h => storeLine_lines _ _ _ h | exact fun c h => spSorted_spClear _ _ h | (intro c h; dsimp only; split <;> exact h)) ?_
    | with_reducible refine Block_put_kept (hM.of rfl) ?_
    | with_reducible refine acceptRead_kept (hM.of rfl) ?_)

theorem sweepLineConvertStep_kept (hM : Sub 65544 m) {a0 : Nat} {s : Block} (h : Kept m s0 s) :
    Kept m s0 (sweepLineConvertStep a0 s) := by
  unfold sweepLineConvertStep
  repeat' (first
    | with_reducible assumption
    | (extract_lets +onlyGivenNames r; have hr : DcSt := r; subst r)
    | (extract_lets +onlyGivenNames r; clear_value r)
    | with_reducible refine Kept.ite ?_ ?_
    | with_reducible refine Block_put_kept (hM.of rfl) ?_
    | with_reducible refine sweepRead_kept (hM.of rfl) ?_
    | split)

theorem sweepWritten_kept (hM : Sub 16843272 m) {a0 a1 : Nat} {a2 : DRet} {s : Block} (h : Kept m s0 s) :
    Kept m s0 (sweepWritten a0 a1 a2 s) := by
  unfold sweepWritten
  repeat' (first
    | with_reducible assumption
    | (extract_lets +onlyGivenNames r; have hr : Kept m s0 r := ?_; clear_value r; rotate_left; subst r; rotate_right)
    | (extract_lets +onlyGivenNames r; clear_value r)
    | with_reducible refine Kept.ite ?_ ?_
    | with_reducible refine modDc_kept (hM.of rfl) (by first | exact fun _ h => h | exact fun c h => storeLine_lines _ _ _ h | exact fun c h => spSorted_spClear _ _ h | (intro c h; dsimp only; split <;> exact h)) ?_
    | with_reducible refine boundTo_kept (hM.of rfl) ?_
    | with_reducible refine unlock_kept (hM.of rfl) ?_
    | with_reducible refine enterWrite_kept (hM.of rfl) ?_
    | with_reducible refine Block_bump_kept (hM.of rfl) ?_
    | with_reducible refine lsuLog_kept (hM.of rfl) ?_)

theorem sweepReadReturnStep_kept (hM : Sub 16843272 m) {a0 : Nat} {s : Block} (h : Kept m s0 s) :
    Kept m s0 (sweepReadReturnStep a0 s) := by
  unfold sweepReadReturnStep
  repeat' (first
    | with_reducible assumption
    | (extract_lets +onlyGivenNames r; have hr : DcSt := r; subst r)
    | with_reducible refine Kept.ite ?_ ?_
    | with_reducible refine sweepWritten_kept (hM.of rfl) ?_
    | split)

theorem sweepEnds_kept (hM : Sub 262152 m) {a0 : Nat} {a1 : List Sweep} {s : Block} (h : Kept m s0 s) :
    Kept m s0 (sweepEnds a0 a1 s) := by
  unfold sweepEnds
  repeat' (first
    | with_reducible assumption
    | intro _
    | (extract_lets +onlyGivenNames r; have hr : Kept m s0 r := ?_; clear_value r; rotate_left; subst r; rotate_right)
    | (extract_lets +onlyGivenNames r; clear_value r)
    | with_reducible refine forEach_kept (hM.of rfl) ?_ ?_
    | with_reducible refine Block_put_kept (hM.of rfl) ?_
    | with_reducible refine keyStatus_kept (hM.of rfl) ?_
    | with_reducible refine Kept.upd ?_ (h_lsu := .inr (hM.of rfl)))

theorem sweepCompleteStep_kept (hM : Sub 8650760 m) {a0 : Nat} {s : Block} (h : Kept m s0 s) :
    Kept m s0 (sweepCompleteStep a0 s) := by
  unfold sweepCompleteStep
  repeat' (first
    | with_reducible assumption
    | with_reducible refine Kept.ite ?_ ?_
    | with_reducible refine Block_close_kept (hM.of rfl) ?_
    | with_reducible refine sweepEnds_kept (hM.of rfl) ?_
    | split)

theorem lsuDieReset_kept (hM : Sub 262152 m) {a0 : Nat} {s : Block} (h : Kept m s0 s) :
    Kept m s0 (lsuDieReset a0 s) := by
  unfold lsuDieReset
  repeat' (first
    | with_reducible assumption
    | (extract_lets +onlyGivenNames r; have hr : Kept m s0 r := ?_; clear_value r; rotate_left; subst r; rotate_right)
    | (extract_lets +onlyGivenNames r; clear_value r)
    | ((with_reducible refine Kept.on_regs ?_ (hM.of rfl) ?_); rotate_left; exact fun w => spWf_spClear _ _ _ w)
    | with_reducible refine Kept.upd ?_ (h_lsu := .inr (hM.of rfl)))

theorem lsuReload_kept (hM : Sub 262152 m) {a0 : Nat} {s : Block} (h : Kept m s0 s) :
    Kept m s0 (lsuReload a0 s) := by
  unfold lsuReload
  repeat' (first
    | with_reducible assumption
    | intro _
    | (extract_lets +onlyGivenNames r; have hr : Kept m s0 r := ?_; clear_value r; rotate_left; subst r; rotate_right)
    | (extract_lets +onlyGivenNames r; clear_value r)
    | with_reducible refine Kept.foldl ?_ ?_
    | with_reducible refine Block_setReg_kept (hM.of rfl) ?_
    | with_reducible refine forEach_kept (hM.of rfl) ?_ ?_
    | with_reducible refine setSlotAt_kept (hM.of rfl) ?_
    | with_reducible refine keyStatusAt_kept (hM.of rfl) ?_
    | with_reducible refine when_kept (hM.of rfl) ?_ ?_
    | with_reducible refine boundsToLimit_kept (hM.of rfl) ?_
    | split)

theorem execLsuKeyLoad_ran (hM : Sub 8650760 m) (a0 : Hdr) (a1 : Nat) (a2 : Nat) (s : State) : Ran m s (execLsuKeyLoad a0 a1 a2 s) := by
  unfold execLsuKeyLoad
  refine live_ran (fun s0 s h => ?_) s
  repeat' (first
    | with_reducible assumption
    | intro _
    | with_reducible refine Block_command_kept (hM.of rfl) ?_ ?_
    | with_reducible refine lsuKeyLoadCmd_kept (hM.of rfl) ?_)

theorem execLsuKeyClear_ran (hM : Sub 8650760 m) (a0 : Hdr) (a1 : Nat) (s : State) : Ran m s (execLsuKeyClear a0 a1 s) := by
  unfold execLsuKeyClear
  refine live_ran (fun s0 s h => ?_) s
  repeat' (first
    | with_reducible assumption
    | intro _
    | with_reducible refine Block_command_kept (hM.of rfl) ?_ ?_
    | with_reducible refine lsuKeyClearCmd_kept (hM.of rfl) ?_)

theorem execLsuRegionSet_ran (hM : Sub 8388616 m) (a0 : Hdr) (a1 : Nat) (a2 : Nat) (a3 : Nat) (a4 : Nat) (s : State) : Ran m s (execLsuRegionSet a0 a1 a2 a3 a4 s) := by
  unfold execLsuRegionSet
  refine live_ran (fun s0 s h => ?_) s
  repeat' (first
    | with_reducible assumption
    | intro _
    | with_reducible refine Block_command_kept (hM.of rfl) ?_ ?_
    | with_reducible refine lsuRegionSetCmd_kept (hM.of rfl) ?_)

theorem execLsuStatus_ran (hM : Sub 8388608 m) (a0 : Hdr) (a1 : Nat) (s : State) : Ran m s (execLsuStatus a0 a1 s) := by
  unfold execLsuStatus
  refine live_ran (fun s0 s h => ?_) s
  repeat' (first
    | with_reducible assumption
    | intro _
    | with_reducible refine Block_command_kept (hM.of rfl) ?_ ?_
    | with_reducible refine lsuStatusCmd_kept (hM.of rfl) ?_)

theorem execLsuReadCheck_ran (hM : Sub 16843273 m) (a0 : Fin 8) (a1 : Nat) (s : State) : Ran m s (execLsuReadCheck a0 a1 s) := by
  unfold execLsuReadCheck
  refine clockedOn_ran (fun s0 s h => ?_) s
  repeat' (first
    | with_reducible assumption
    | with_reducible refine lsuReadCheckStep_kept (hM.of rfl) ?_)

theorem execLsuRekey_ran (hM : Sub 8650760 m) (a0 : Hdr) (a1 : Nat) (a2 : Nat) (a3 : Nat) (s : State) : Ran m s (execLsuRekey a0 a1 a2 a3 s) := by
  unfold execLsuRekey
  refine live_ran (fun s0 s h => ?_) s
  repeat' (first
    | with_reducible assumption
    | intro _
    | with_reducible refine Block_command_kept (hM.of rfl) ?_ ?_
    | with_reducible refine lsuRekeyCmd_kept (hM.of rfl) ?_)

theorem execSweepLineConvert_ran (hM : Sub 65544 m) (a0 : Fin 8) (s : State) : Ran m s (execSweepLineConvert a0 s) := by
  unfold execSweepLineConvert
  refine clockedOn_ran (fun s0 s h => ?_) s
  repeat' (first
    | with_reducible assumption
    | with_reducible refine sweepLineConvertStep_kept (hM.of rfl) ?_)

theorem execSweepReadReturn_ran (hM : Sub 16843272 m) (a0 : Fin 8) (s : State) : Ran m s (execSweepReadReturn a0 s) := by
  unfold execSweepReadReturn
  refine clockedOn_ran (fun s0 s h => ?_) s
  repeat' (first
    | with_reducible assumption
    | with_reducible refine sweepReadReturnStep_kept (hM.of rfl) ?_)

theorem execSweepComplete_ran (hM : Sub 8650760 m) (a0 : Fin 64) (s : State) : Ran m s (execSweepComplete a0 s) := by
  unfold execSweepComplete
  refine clocked_ran (fun s0 s h => ?_) s
  repeat' (first
    | with_reducible assumption
    | with_reducible refine sweepCompleteStep_kept (hM.of rfl) ?_)

end Sys2Proof.Laws
end

