-- ==== Sys2Proof/Laws/KeptLinks.lean ====
section
/-! SUPPORT. What each named operation keeps (Laws/Kept.lean): die links, Shutter, fabric edges and firmware updates. -/

namespace Sys2Proof.Laws

set_option Elab.async false
set_option linter.unusedTactic false
set_option linter.unreachableTactic false

open Machine

variable {m : Nat} {s0 : Block}

/-! ### DieLinks -/

theorem setEnd_kept (hM : Sub 1048576 m) {a0 a1 : Nat} {a2 : LinkEnd} {s : Block} (h : Kept m s0 s) :
    Kept m s0 (setEnd a0 a1 a2 s) := by
  unfold setEnd
  repeat' (first
    | with_reducible assumption
    | (extract_lets +onlyGivenNames r; clear_value r)
    | with_reducible refine Kept.upd ?_ (h_dl := .inr (hM.of rfl)))

theorem modEnd_kept (hM : Sub 1048576 m) {a0 a1 : Nat} {a2 : LinkEnd → LinkEnd} {s : Block} (h : Kept m s0 s) :
    Kept m s0 (modEnd a0 a1 a2 s) := by
  unfold modEnd
  repeat' (first
    | with_reducible assumption
    | with_reducible refine setEnd_kept (hM.of rfl) ?_)

theorem dlEvent_kept (hM : Sub 16777224 m) {a0 a1 a2 : Nat} {s : Block} (h : Kept m s0 s) :
    Kept m s0 (dlEvent a0 a1 a2 s) := by
  unfold dlEvent
  repeat' (first
    | with_reducible assumption
    | (extract_lets +onlyGivenNames r; have hr : Kept m s0 r := ?_; clear_value r; rotate_left; subst r; rotate_right)
    | with_reducible refine Kept.ite ?_ ?_
    | with_reducible refine Block_raise_kept (hM.of rfl) ?_
    | with_reducible refine Block_eicEdge_kept (hM.of rfl) ?_)

theorem sendFlit_kept (hM : Sub 1 m) {a0 a1 a2 a3 : Nat} {a4 : List Nat} {s : Block} (h : Kept m s0 s) :
    Kept m s0 (sendFlit a0 a1 a2 a3 a4 s) := by
  unfold sendFlit
  repeat' (first
    | with_reducible assumption
    | (extract_lets +onlyGivenNames r; clear_value r)
    | with_reducible refine Block_emit_kept (hM.of rfl) ?_)

theorem sendIdle_kept (hM : Sub 1 m) {a0 a1 : Nat} {a2 : Bool} {s : Block} (h : Kept m s0 s) :
    Kept m s0 (sendIdle a0 a1 a2 s) := by
  unfold sendIdle
  repeat' (first
    | with_reducible assumption
    | with_reducible refine sendFlit_kept (hM.of rfl) ?_)

theorem handOver_kept (hM : Sub 1048576 m) {a0 a1 a2 : Nat} {a3 : LinkPkt} {s : Block} (h : Kept m s0 s) :
    Kept m s0 (handOver a0 a1 a2 a3 s) := by
  unfold handOver
  repeat' (first
    | with_reducible assumption
    | with_reducible refine modEnd_kept (hM.of rfl) ?_)

theorem pump_kept (hM : Sub 1048577 m) {a0 a1 a2 : Nat} {s : Block} (h : Kept m s0 s) : Kept m s0 (pump a0 a1 a2 s) := by
  induction a2 generalizing s with
  | zero => exact h
  | succ n ih =>
    unfold pump
    extract_lets +onlyGivenNames e
    split
    · exact h
    · extract_lets +onlyGivenNames pays
      split
      · exact ih (handOver_kept (hM.of rfl) h)
      · refine Kept.ite h (ih ?_)
        refine Kept.foldl (fun s pay h => ?_) (setEnd_kept (hM.of rfl) h)
        exact modEnd_kept (hM.of rfl) (sendFlit_kept (hM.of rfl) h)

theorem pumpAll_kept (hM : Sub 1048577 m) {a0 a1 : Nat} {s : Block} (h : Kept m s0 s) :
    Kept m s0 (pumpAll a0 a1 s) := by
  unfold pumpAll
  repeat' (first
    | with_reducible assumption
    | with_reducible refine pump_kept (hM.of rfl) ?_)

theorem sendWaiting_kept (hM : Sub 1048577 m) {a0 a1 : Nat} {s : Block} (h : Kept m s0 s) :
    Kept m s0 (sendWaiting a0 a1 s) := by
  unfold sendWaiting
  repeat' (first
    | with_reducible assumption
    | (extract_lets +onlyGivenNames r; have hr : Kept m s0 r := ?_; clear_value r; rotate_left; subst r; rotate_right)
    | with_reducible refine pumpAll_kept (hM.of rfl) ?_
    | split)

theorem enqueue_kept (hM : Sub 1048577 m) {a0 a1 : Nat} {a2 : LinkPkt} {s : Block} (h : Kept m s0 s) :
    Kept m s0 (enqueue a0 a1 a2 s) := by
  unfold enqueue
  repeat' (first
    | with_reducible assumption
    | with_reducible refine sendWaiting_kept (hM.of rfl) ?_
    | with_reducible refine modEnd_kept (hM.of rfl) ?_)

theorem sendCtl_kept (hM : Sub 1048577 m) {a0 a1 : Nat} {a2 : List Nat} {s : Block} (h : Kept m s0 s) :
    Kept m s0 (sendCtl a0 a1 a2 s) := by
  unfold sendCtl
  repeat' (first
    | with_reducible assumption
    | with_reducible refine sendWaiting_kept (hM.of rfl) ?_
    | with_reducible refine modEnd_kept (hM.of rfl) ?_)

theorem bridgeTake_kept (hM : Sub 1048577 m) {a0 a1 : Nat} {a2 : BitVec 128} {a3 : BitVec 512} {s : Block} (h : Kept m s0 s) :
    Kept m s0 (bridgeTake a0 a1 a2 a3 s) := by
  unfold bridgeTake
  repeat' (first
    | with_reducible assumption
    | (extract_lets +onlyGivenNames r; clear_value r)
    | with_reducible refine Kept.ite ?_ ?_
    | with_reducible refine setEnd_kept (hM.of rfl) ?_
    | with_reducible refine enqueue_kept (hM.of rfl) ?_)

theorem carrierFlags_kept (hM : Sub 8 m) {a0 a1 : Nat} {s : Block} (h : Kept m s0 s) :
    Kept m s0 (carrierFlags a0 a1 s) := by
  unfold carrierFlags
  repeat' (first
    | with_reducible assumption
    | intro _
    | with_reducible refine forEach_kept (hM.of rfl) ?_ ?_
    | with_reducible refine Block_putB_kept (hM.of rfl) ?_)

theorem askCarrier_kept (hM : Sub 17825801 m) {a0 a1 : Nat} {s : Block} (h : Kept m s0 s) :
    Kept m s0 (askCarrier a0 a1 s) := by
  unfold askCarrier
  repeat' (first
    | with_reducible assumption
    | (extract_lets +onlyGivenNames r; have hr : Kept m s0 r := ?_; clear_value r; rotate_left; subst r; rotate_right)
    | with_reducible refine modEnd_kept (hM.of rfl) ?_
    | with_reducible refine Block_putB_kept (hM.of rfl) ?_
    | with_reducible refine sendCtl_kept (hM.of rfl) ?_
    | with_reducible refine Block_bump_kept (hM.of rfl) ?_
    | split)

theorem waitersAsk_kept (hM : Sub 17825801 m) {a0 a1 : Nat} {s : Block} (h : Kept m s0 s) :
    Kept m s0 (waitersAsk a0 a1 s) := by
  unfold waitersAsk
  repeat' (first
    | with_reducible assumption
    | intro _
    | (extract_lets +onlyGivenNames r; clear_value r)
    | with_reducible refine forEach_kept (hM.of rfl) ?_ ?_
    | with_reducible refine when_kept (hM.of rfl) ?_ ?_
    | with_reducible refine carrierFlags_kept (hM.of rfl) ?_
    | with_reducible refine askCarrier_kept (hM.of rfl) ?_)

theorem startCarry_kept (hM : Sub 17825801 m) {a0 a1 : Nat} {s : Block} (h : Kept m s0 s) :
    Kept m s0 (startCarry a0 a1 s) := by
  unfold startCarry
  repeat' (first
    | with_reducible assumption
    | intro _
    | (extract_lets +onlyGivenNames r; have hr : Kept m s0 r := ?_; clear_value r; rotate_left; subst r; rotate_right)
    | (extract_lets +onlyGivenNames r; clear_value r)
    | with_reducible refine Kept.ite ?_ ?_
    | with_reducible refine askCarrier_kept (hM.of rfl) ?_
    | with_reducible refine carrierFlags_kept (hM.of rfl) ?_
    | with_reducible refine forEach_kept (hM.of rfl) ?_ ?_)

theorem endRetrain_kept (hM : Sub 17825801 m) {a0 a1 : Nat} {s : Block} (h : Kept m s0 s) :
    Kept m s0 (endRetrain a0 a1 s) := by
  unfold endRetrain
  repeat' (first
    | with_reducible assumption
    | (extract_lets +onlyGivenNames r; have hr : Kept m s0 r := ?_; clear_value r; rotate_left; subst r; rotate_right)
    | with_reducible refine Kept.ite ?_ ?_
    | with_reducible refine Block_bump_kept (hM.of rfl) ?_
    | with_reducible refine Block_put_kept (hM.of rfl) ?_
    | with_reducible refine startCarry_kept (hM.of rfl) ?_
    | with_reducible refine modEnd_kept (hM.of rfl) ?_)

theorem enterRetrain_kept (hM : Sub 17825801 m) {a0 : Nat} {s : Block} (h : Kept m s0 s) :
    Kept m s0 (enterRetrain a0 s) := by
  unfold enterRetrain
  repeat' (first
    | with_reducible assumption
    | intro _
    | with_reducible refine forEach_kept (hM.of rfl) ?_ ?_
    | with_reducible refine endRetrain_kept (hM.of rfl) ?_)

theorem deliver_kept (hM : Sub 1048577 m) {a0 a1 a2 : Nat} {a3 : BitVec 512} {s : Block} (h : Kept m s0 s) :
    Kept m s0 (deliver a0 a1 a2 a3 s) := by
  unfold deliver
  repeat' (first
    | with_reducible assumption
    | (extract_lets +onlyGivenNames r; have hr : Kept m s0 r := ?_; clear_value r; rotate_left; subst r; rotate_right)
    | (extract_lets +onlyGivenNames r; clear_value r)
    | with_reducible refine modEnd_kept (hM.of rfl) ?_
    | with_reducible refine Block_emit_kept (hM.of rfl) ?_)

theorem takeUnit_kept (hM : Sub 1048577 m) {a0 a1 : Nat} {a2 : List Nat} {s : Block} (h : Kept m s0 s) :
    Kept m s0 (takeUnit a0 a1 a2 s).1 := by
  unfold takeUnit
  repeat' (first
    | with_reducible assumption
    | (extract_lets +onlyGivenNames r; have hr : Kept m s0 r := ?_; clear_value r; rotate_left; subst r; rotate_right)
    | (extract_lets +onlyGivenNames r; clear_value r)
    | with_reducible refine Kept.ite1 ?_ ?_
    | with_reducible refine setEnd_kept (hM.of rfl) ?_
    | with_reducible refine deliver_kept (hM.of rfl) ?_
    | split)

theorem carryEnd_kept (hM : Sub 17825801 m) {a0 a1 : Nat} {s : Block} (h : Kept m s0 s) :
    Kept m s0 (carryEnd a0 a1 s) := by
  unfold carryEnd
  repeat' (first
    | with_reducible assumption
    | intro _
    | (extract_lets +onlyGivenNames r; have hr : Kept m s0 r := ?_; clear_value r; rotate_left; subst r; rotate_right)
    | (extract_lets +onlyGivenNames r; have hr : Kept m s0 r.1 := ?_; clear_value r; rotate_left; subst r; rotate_right)
    | (extract_lets +onlyGivenNames r; clear_value r)
    | with_reducible refine Kept.ite ?_ ?_
    | with_reducible refine Kept.ite1 ?_ ?_
    | with_reducible refine Kept.foldl1 ?_ ?_
    | with_reducible refine dlEvent_kept (hM.of rfl) ?_
    | with_reducible refine modEnd_kept (hM.of rfl) ?_
    | with_reducible refine takeUnit_kept (hM.of rfl) ?_
    | with_reducible refine enterRetrain_kept (hM.of rfl) ?_)

theorem arriveUnit_kept (hM : Sub 17825801 m) {a0 a1 : Nat} {a2 : List Nat} {s : Block} (h : Kept m s0 s) :
    Kept m s0 (arriveUnit a0 a1 a2 s).1 := by
  unfold arriveUnit
  repeat' (first
    | with_reducible assumption
    | (extract_lets +onlyGivenNames r; have hr : Kept m s0 r := ?_; clear_value r; rotate_left; subst r; rotate_right)
    | (extract_lets +onlyGivenNames r; have hr : Kept m s0 r.1 := ?_; clear_value r; rotate_left; subst r; rotate_right)
    | (extract_lets +onlyGivenNames r; clear_value r)
    | with_reducible refine Kept.ite ?_ ?_
    | with_reducible refine Kept.ite1 ?_ ?_
    | with_reducible refine takeUnit_kept (hM.of rfl) ?_
    | with_reducible refine setEnd_kept (hM.of rfl) ?_
    | with_reducible refine carryEnd_kept (hM.of rfl) ?_
    | with_reducible refine modEnd_kept (hM.of rfl) ?_)

theorem siteDown_kept (hM : Sub 159907849 m) {a0 : Nat} {s : Block} (h : Kept m s0 s) :
    Kept m s0 (siteDown a0 s) := by
  unfold siteDown
  repeat' (first
    | with_reducible assumption
    | intro _
    | (extract_lets +onlyGivenNames r; have hr : Kept m s0 r := ?_; clear_value r; rotate_left; subst r; rotate_right)
    | (extract_lets +onlyGivenNames r; clear_value r)
    | with_reducible refine Kept.ite ?_ ?_
    | with_reducible refine eicSiteGone_kept (hM.of rfl) ?_
    | with_reducible refine releaseRun_kept (hM.of rfl) ?_
    | with_reducible refine forEach_kept (hM.of rfl) ?_ ?_
    | with_reducible refine Block_putB_kept (hM.of rfl) ?_
    | with_reducible refine isolatePort_kept (hM.of rfl) ?_)

theorem clockMove_kept (hM : Sub 1048576 m) {a0 : Nat} {s : Block} (h : Kept m s0 s) :
    Kept m s0 (clockMove a0 s) := by
  unfold clockMove
  repeat' (first
    | with_reducible assumption
    | (extract_lets +onlyGivenNames r; clear_value r)
    | with_reducible refine Kept.ite ?_ ?_
    | split
    | with_reducible refine Kept.upd ?_ (h_dl := .inr (hM.of rfl)))

theorem readyReached_kept (hM : Sub 8 m) {s : Block} (h : Kept m s0 s) :
    Kept m s0 (readyReached s) := by
  unfold readyReached
  repeat' (first
    | with_reducible assumption
    | intro _
    | with_reducible refine forEach_kept (hM.of rfl) ?_ ?_
    | with_reducible refine when_kept (hM.of rfl) ?_ ?_
    | with_reducible refine Block_putB_kept (hM.of rfl) ?_)

theorem edgeLost_kept (hM : Sub 160956425 m) {a0 : Nat} {s : Block} (h : Kept m s0 s) :
    Kept m s0 (edgeLost a0 s) := by
  unfold edgeLost
  repeat' (first
    | with_reducible assumption
    | (extract_lets +onlyGivenNames r; have hr : Kept m s0 r := ?_; clear_value r; rotate_left; subst r; rotate_right)
    | (extract_lets +onlyGivenNames r; clear_value r)
    | with_reducible refine Kept.ite ?_ ?_
    | with_reducible refine dlEvent_kept (hM.of rfl) ?_
    | with_reducible refine siteDown_kept (hM.of rfl) ?_
    | with_reducible refine readyReached_kept (hM.of rfl) ?_
    | split
    | with_reducible refine Kept.upd ?_ (h_dl := .inr (hM.of rfl)))

theorem moduleDown_kept (hM : Sub 160956425 m) {a0 : Nat} {a1 : Bool} {s : Block} (h : Kept m s0 s) :
    Kept m s0 (moduleDown a0 a1 s) := by
  unfold moduleDown
  repeat' (first
    | with_reducible assumption
    | intro _
    | (extract_lets +onlyGivenNames r; have hr : Kept m s0 r := ?_; clear_value r; rotate_left; subst r; rotate_right)
    | (extract_lets +onlyGivenNames r; clear_value r)
    | with_reducible refine forEach_kept (hM.of rfl) ?_ ?_
    | with_reducible refine Block_put_kept (hM.of rfl) ?_
    | with_reducible refine Block_putB_kept (hM.of rfl) ?_
    | with_reducible refine when_kept (hM.of rfl) ?_ ?_
    | with_reducible refine startCarry_kept (hM.of rfl) ?_
    | with_reducible refine dlEvent_kept (hM.of rfl) ?_
    | with_reducible refine edgeLost_kept (hM.of rfl) ?_
    | with_reducible refine clockMove_kept (hM.of rfl) ?_)

theorem onLink_kept (hM : Sub 8388608 m) {a0 : Nat} {a1 : Cmd → Block → Block} {a2 : Cmd} {s : Block} (h1 : ∀ x0 s, Kept m s0 s → Kept m s0 (a1 x0 s)) (h : Kept m s0 s) :
    Kept m s0 (onLink a0 a1 a2 s) := by
  unfold onLink
  repeat' (first
    | with_reducible assumption
    | with_reducible refine Kept.ite ?_ ?_
    | with_reducible refine h1 _ _ ?_
    | with_reducible refine Block_respond_kept (hM.of rfl) ?_)

theorem dlStatusCmd_kept (hM : Sub 8388608 m) {a0 : Nat} {a1 : Cmd} {s : Block} (h : Kept m s0 s) :
    Kept m s0 (dlStatusCmd a0 a1 s) := by
  unfold dlStatusCmd
  repeat' (first
    | with_reducible assumption
    | with_reducible refine Kept.ite ?_ ?_
    | with_reducible refine Block_respond_kept (hM.of rfl) ?_)

theorem dlRetrainCmd_kept (hM : Sub 26214409 m) {a0 : Nat} {a1 : Cmd} {s : Block} (h : Kept m s0 s) :
    Kept m s0 (dlRetrainCmd a0 a1 s) := by
  unfold dlRetrainCmd
  repeat' (first
    | with_reducible assumption
    | with_reducible refine Kept.ite ?_ ?_
    | with_reducible refine Block_respond_kept (hM.of rfl) ?_
    | with_reducible refine Block_hold_kept (hM.of rfl) ?_
    | with_reducible refine enterRetrain_kept (hM.of rfl) ?_)

theorem downAsked_kept (hM : Sub 1048576 m) {a0 : Nat} {s : Block} (h : Kept m s0 s) :
    Kept m s0 (downAsked a0 s) := by
  unfold downAsked
  repeat' (first
    | with_reducible assumption
    | intro _
    | with_reducible refine forEach_kept (hM.of rfl) ?_ ?_
    | with_reducible refine modEnd_kept (hM.of rfl) ?_)

theorem dlDownCmd_kept (hM : Sub 9437184 m) {a0 : Nat} {a1 : Cmd} {s : Block} (h : Kept m s0 s) :
    Kept m s0 (dlDownCmd a0 a1 s) := by
  unfold dlDownCmd
  repeat' (first
    | with_reducible assumption
    | (extract_lets +onlyGivenNames r; clear_value r)
    | with_reducible refine Kept.ite ?_ ?_
    | with_reducible refine Block_respond_kept (hM.of rfl) ?_
    | with_reducible refine Block_hold_kept (hM.of rfl) ?_
    | with_reducible refine downAsked_kept (hM.of rfl) ?_)

theorem dlDownDone_kept (hM : Sub 160956425 m) {a0 : Nat} {s : Block} (h : Kept m s0 s) :
    Kept m s0 (dlDownDone a0 s) := by
  unfold dlDownDone
  repeat' (first
    | with_reducible assumption
    | intro _
    | (extract_lets +onlyGivenNames r; have hr : Kept m s0 r := ?_; clear_value r; rotate_left; subst r; rotate_right)
    | with_reducible refine forEach_kept (hM.of rfl) ?_ ?_
    | with_reducible refine modEnd_kept (hM.of rfl) ?_
    | with_reducible refine Block_close_kept (hM.of rfl) ?_
    | with_reducible refine moduleDown_kept (hM.of rfl) ?_)

theorem endDiscover_kept (hM : Sub 1048584 m) {a0 a1 : Nat} {s : Block} (h : Kept m s0 s) :
    Kept m s0 (endDiscover a0 a1 s) := by
  unfold endDiscover
  repeat' (first
    | with_reducible assumption
    | (extract_lets +onlyGivenNames r; clear_value r)
    | with_reducible refine Block_put_kept (hM.of rfl) ?_
    | with_reducible refine setEnd_kept (hM.of rfl) ?_)

theorem discover_kept (hM : Sub 1048584 m) {a0 : Nat} {s : Block} (h : Kept m s0 s) :
    Kept m s0 (discover a0 s) := by
  unfold discover
  repeat' (first
    | with_reducible assumption
    | intro _
    | (extract_lets +onlyGivenNames r; clear_value r)
    | with_reducible refine Kept.ite ?_ ?_
    | with_reducible refine forEach_kept (hM.of rfl) ?_ ?_
    | with_reducible refine endDiscover_kept (hM.of rfl) ?_
    | with_reducible refine Kept.upd ?_ (h_dl := .inr (hM.of rfl)))

theorem dlUpCmd_kept (hM : Sub 9437192 m) {a0 : Nat} {a1 : Cmd} {s : Block} (h : Kept m s0 s) :
    Kept m s0 (dlUpCmd a0 a1 s) := by
  unfold dlUpCmd
  repeat' (first
    | with_reducible assumption
    | with_reducible refine Kept.ite ?_ ?_
    | with_reducible refine Block_respond_kept (hM.of rfl) ?_
    | with_reducible refine Block_hold_kept (hM.of rfl) ?_
    | with_reducible refine discover_kept (hM.of rfl) ?_)

theorem holdEnds_kept (hM : Sub 1048584 m) {a0 : Nat} {s : Block} (h : Kept m s0 s) :
    Kept m s0 (holdEnds a0 s) := by
  unfold holdEnds
  repeat' (first
    | with_reducible assumption
    | intro _
    | with_reducible refine forEach_kept (hM.of rfl) ?_ ?_
    | with_reducible refine modEnd_kept (hM.of rfl) ?_
    | with_reducible refine Block_put_kept (hM.of rfl) ?_
    | with_reducible refine Block_putB_kept (hM.of rfl) ?_)

theorem dlClearDegradeCmd_kept (hM : Sub 9437192 m) {a0 : Nat} {a1 : Cmd} {s : Block} (h : Kept m s0 s) :
    Kept m s0 (dlClearDegradeCmd a0 a1 s) := by
  unfold dlClearDegradeCmd
  repeat' (first
    | with_reducible assumption
    | with_reducible refine Kept.ite ?_ ?_
    | with_reducible refine Block_respond_kept (hM.of rfl) ?_
    | with_reducible refine holdEnds_kept (hM.of rfl) ?_)

theorem seamSteerCmd_kept (hM : Sub 25165960 m) {a0 a1 a2 : Nat} {a3 : Cmd} {s : Block} (h : Kept m s0 s) :
    Kept m s0 (seamSteerCmd a0 a1 a2 a3 s) := by
  unfold seamSteerCmd
  repeat' (first
    | with_reducible assumption
    | (extract_lets +onlyGivenNames r; clear_value r)
    | with_reducible refine Kept.ite ?_ ?_
    | with_reducible refine Block_respond_kept (hM.of rfl) ?_
    | with_reducible refine Block_hold_kept (hM.of rfl) ?_
    | with_reducible refine seamSteer_kept (hM.of rfl) ?_)

theorem discoverySendStep_kept (hM : Sub 1 m) {a0 a1 : Nat} {s : Block} (h : Kept m s0 s) :
    Kept m s0 (discoverySendStep a0 a1 s) := by
  unfold discoverySendStep
  repeat' (first
    | with_reducible assumption
    | with_reducible refine Kept.ite ?_ ?_
    | with_reducible refine Block_emit_kept (hM.of rfl) ?_)

theorem keepRecord_kept (hM : Sub 1048584 m) {a0 a1 : Nat} {a2 : List Nat} {s : Block} (h : Kept m s0 s) :
    Kept m s0 (keepRecord a0 a1 a2 s) := by
  unfold keepRecord
  repeat' (first
    | with_reducible assumption
    | intro _
    | (extract_lets +onlyGivenNames r; have hr : Kept m s0 r := ?_; clear_value r; rotate_left; subst r; rotate_right)
    | with_reducible refine forEach_kept (hM.of rfl) ?_ ?_
    | with_reducible refine Block_put_kept (hM.of rfl) ?_
    | with_reducible refine modEnd_kept (hM.of rfl) ?_)

theorem siteBad_kept (hM : Sub 16777240 m) {a0 : Nat} {s : Block} (h : Kept m s0 s) :
    Kept m s0 (siteBad a0 s) := by
  unfold siteBad
  repeat' (first
    | with_reducible assumption
    | intro _
    | (extract_lets +onlyGivenNames r; have hr : Kept m s0 r := ?_; clear_value r; rotate_left; subst r; rotate_right)
    | (extract_lets +onlyGivenNames r; have hr : StartSt := r; subst r)
    | with_reducible refine forEach_kept (hM.of rfl) ?_ ?_
    | with_reducible refine Block_put_kept (hM.of rfl) ?_
    | with_reducible refine Block_raise_kept (hM.of rfl) ?_
    | with_reducible refine Kept.upd ?_ (h_start := .inr (hM.of rfl)))

theorem siteSeen_kept (hM : Sub 24 m) {a0 : Nat} {s : Block} (h : Kept m s0 s) :
    Kept m s0 (siteSeen a0 s) := by
  unfold siteSeen
  repeat' (first
    | with_reducible assumption
    | intro _
    | (extract_lets +onlyGivenNames r; have hr : Kept m s0 r := ?_; clear_value r; rotate_left; subst r; rotate_right)
    | (extract_lets +onlyGivenNames r; have hr : StartSt := r; subst r)
    | with_reducible refine when_kept (hM.of rfl) ?_ ?_
    | with_reducible refine Block_putB_kept (hM.of rfl) ?_
    | with_reducible refine Kept.upd ?_ (h_start := .inr (hM.of rfl)))

theorem recordTaken_kept (hM : Sub 160956441 m) {a0 a1 : Nat} {a2 : List Nat} {s : Block} (h : Kept m s0 s) :
    Kept m s0 (recordTaken a0 a1 a2 s) := by
  unfold recordTaken
  repeat' (first
    | with_reducible assumption
    | (extract_lets +onlyGivenNames r; have hr : Kept m s0 r := ?_; clear_value r; rotate_left; subst r; rotate_right)
    | (extract_lets +onlyGivenNames r; clear_value r)
    | with_reducible refine Kept.ite ?_ ?_
    | with_reducible refine keepRecord_kept (hM.of rfl) ?_
    | with_reducible refine siteSeen_kept (hM.of rfl) ?_
    | with_reducible refine siteBad_kept (hM.of rfl) ?_
    | with_reducible refine moduleDown_kept (hM.of rfl) ?_
    | with_reducible refine dlEvent_kept (hM.of rfl) ?_
    | with_reducible refine Block_close_kept (hM.of rfl) ?_
    | with_reducible refine Block_put_kept (hM.of rfl) ?_
    | with_reducible refine Block_putB_kept (hM.of rfl) ?_
    | split)

theorem discoveryRecordStep_kept (hM : Sub 160956441 m) {a0 a1 : Nat} {a2 : List Nat} {s : Block} (h : Kept m s0 s) :
    Kept m s0 (discoveryRecordStep a0 a1 a2 s) := by
  unfold discoveryRecordStep
  repeat' (first
    | with_reducible assumption
    | with_reducible refine Kept.ite ?_ ?_
    | with_reducible refine recordTaken_kept (hM.of rfl) ?_)

theorem siteWindowEnd_kept (hM : Sub 16 m) {a0 : Nat} {s : Block} (h : Kept m s0 s) :
    Kept m s0 (siteWindowEnd a0 s) := by
  unfold siteWindowEnd
  repeat' (first
    | with_reducible assumption
    | (extract_lets +onlyGivenNames r; have hr : StartSt := r; subst r)
    | with_reducible refine Kept.upd ?_ (h_start := .inr (hM.of rfl)))

theorem discoverEnds_kept (hM : Sub 160956441 m) {a0 : Nat} {s : Block} (h : Kept m s0 s) :
    Kept m s0 (discoverEnds a0 s) := by
  unfold discoverEnds
  repeat' (first
    | with_reducible assumption
    | (extract_lets +onlyGivenNames r; have hr : Kept m s0 r := ?_; clear_value r; rotate_left; subst r; rotate_right)
    | with_reducible refine Kept.ite ?_ ?_
    | with_reducible refine Block_close_kept (hM.of rfl) ?_
    | with_reducible refine moduleDown_kept (hM.of rfl) ?_
    | with_reducible refine siteDown_kept (hM.of rfl) ?_
    | with_reducible refine siteWindowEnd_kept (hM.of rfl) ?_
    | split)

theorem discoverTimeoutStep_kept (hM : Sub 160956441 m) {a0 a1 : Nat} {s : Block} (h : Kept m s0 s) :
    Kept m s0 (discoverTimeoutStep a0 a1 s) := by
  unfold discoverTimeoutStep
  repeat' (first
    | with_reducible assumption
    | with_reducible refine Kept.ite ?_ ?_
    | with_reducible refine discoverEnds_kept (hM.of rfl) ?_)

theorem setSpares_kept (hM : Sub 8 m) {a0 a1 a2 : Nat} {a3 : BitVec 68} {s : Block} (h : Kept m s0 s) :
    Kept m s0 (setSpares a0 a1 a2 a3 s) := by
  unfold setSpares
  repeat' (first
    | with_reducible assumption
    | intro _
    | (extract_lets +onlyGivenNames r; have hr : Kept m s0 r := ?_; clear_value r; rotate_left; subst r; rotate_right)
    | (extract_lets +onlyGivenNames r; clear_value r)
    | with_reducible refine forEach_kept (hM.of rfl) ?_ ?_
    | with_reducible refine Block_put_kept (hM.of rfl) ?_)

theorem linkResume_kept (hM : Sub 1048585 m) {a0 a1 : Nat} {s : Block} (h : Kept m s0 s) :
    Kept m s0 (linkResume a0 a1 s) := by
  unfold linkResume
  repeat' (first
    | with_reducible assumption
    | intro _
    | (extract_lets +onlyGivenNames r; have hr : Kept m s0 r := ?_; clear_value r; rotate_left; subst r; rotate_right)
    | (extract_lets +onlyGivenNames r; clear_value r)
    | with_reducible refine Kept.ite ?_ ?_
    | with_reducible refine Kept.foldl ?_ ?_
    | with_reducible refine setEnd_kept (hM.of rfl) ?_
    | with_reducible refine modEnd_kept (hM.of rfl) ?_
    | with_reducible refine carrierFlags_kept (hM.of rfl) ?_
    | with_reducible refine sendCtl_kept (hM.of rfl) ?_
    | with_reducible refine Block_putB_kept (hM.of rfl) ?_
    | with_reducible refine sendFlit_kept (hM.of rfl) ?_
    | with_reducible refine sendWaiting_kept (hM.of rfl) ?_
    | split)

theorem siteUp_kept (hM : Sub 524312 m) {a0 : Nat} {s : Block} (h : Kept m s0 s) :
    Kept m s0 (siteUp a0 s) := by
  unfold siteUp
  repeat' (first
    | with_reducible assumption
    | (extract_lets +onlyGivenNames r; have hr : Kept m s0 r := ?_; clear_value r; rotate_left; subst r; rotate_right)
    | (extract_lets +onlyGivenNames r; clear_value r)
    | with_reducible refine Kept.ite ?_ ?_
    | with_reducible refine siteWindowEnd_kept (hM.of rfl) ?_
    | with_reducible refine setPort_kept (hM.of rfl) ?_)

theorem dieReadyCheck_kept (hM : Sub 8 m) {a0 : Nat} {s : Block} (h : Kept m s0 s) :
    Kept m s0 (dieReadyCheck a0 s) := by
  unfold dieReadyCheck
  repeat' (first
    | with_reducible assumption
    | intro _
    | (extract_lets +onlyGivenNames r; clear_value r)
    | with_reducible refine when_kept (hM.of rfl) ?_ ?_
    | with_reducible refine Block_putB_kept (hM.of rfl) ?_)

theorem paramsTaken_kept (hM : Sub 160956441 m) {a0 a1 : Nat} {a2 : List Nat} {a3 : BitVec 68} {s : Block} (h : Kept m s0 s) :
    Kept m s0 (paramsTaken a0 a1 a2 a3 s) := by
  unfold paramsTaken
  repeat' (first
    | with_reducible assumption
    | intro _
    | (extract_lets +onlyGivenNames r; have hr : Kept m s0 r := ?_; clear_value r; rotate_left; subst r; rotate_right)
    | (extract_lets +onlyGivenNames r; clear_value r)
    | with_reducible refine Kept.ite ?_ ?_
    | with_reducible refine Block_emit_kept (hM.of rfl) ?_
    | with_reducible refine setEnd_kept (hM.of rfl) ?_
    | with_reducible refine keepRecord_kept (hM.of rfl) ?_
    | with_reducible refine Block_put_kept (hM.of rfl) ?_
    | with_reducible refine dlEvent_kept (hM.of rfl) ?_
    | with_reducible refine Block_putB_kept (hM.of rfl) ?_
    | with_reducible refine modEnd_kept (hM.of rfl) ?_
    | with_reducible refine Block_close_kept (hM.of rfl) ?_
    | with_reducible refine moduleDown_kept (hM.of rfl) ?_
    | with_reducible refine setSpares_kept (hM.of rfl) ?_
    | with_reducible refine when_kept (hM.of rfl) ?_ ?_
    | with_reducible refine waitersAsk_kept (hM.of rfl) ?_
    | with_reducible refine linkResume_kept (hM.of rfl) ?_
    | with_reducible refine siteUp_kept (hM.of rfl) ?_
    | with_reducible refine forEach_kept (hM.of rfl) ?_ ?_
    | with_reducible refine dieReadyCheck_kept (hM.of rfl) ?_
    | split
    | with_reducible refine Kept.upd ?_ (h_dl := .inr (hM.of rfl)))

theorem parameterExchangeDoneStep_kept (hM : Sub 160956441 m) {a0 a1 : Nat} {a2 : List Nat} {a3 : BitVec 68} {s : Block} (h : Kept m s0 s) :
    Kept m s0 (parameterExchangeDoneStep a0 a1 a2 a3 s) := by
  unfold parameterExchangeDoneStep
  repeat' (first
    | with_reducible assumption
    | with_reducible refine Kept.ite ?_ ?_
    | with_reducible refine paramsTaken_kept (hM.of rfl) ?_)

theorem retrainTimeoutStep_kept (hM : Sub 160956425 m) {a0 a1 : Nat} {s : Block} (h : Kept m s0 s) :
    Kept m s0 (retrainTimeoutStep a0 a1 s) := by
  unfold retrainTimeoutStep
  repeat' (first
    | with_reducible assumption
    | with_reducible refine Kept.ite ?_ ?_
    | with_reducible refine Block_close_kept (hM.of rfl) ?_
    | with_reducible refine moduleDown_kept (hM.of rfl) ?_)

theorem dlTrainTimeoutStep_kept (hM : Sub 160956425 m) {a0 a1 : Nat} {s : Block} (h : Kept m s0 s) :
    Kept m s0 (dlTrainTimeoutStep a0 a1 s) := by
  unfold dlTrainTimeoutStep
  repeat' (first
    | with_reducible assumption
    | with_reducible refine Kept.ite ?_ ?_
    | with_reducible refine Block_close_kept (hM.of rfl) ?_
    | with_reducible refine moduleDown_kept (hM.of rfl) ?_)

theorem dlRxLockLossStep_kept (hM : Sub 17825801 m) {a0 a1 : Nat} {s : Block} (h : Kept m s0 s) :
    Kept m s0 (dlRxLockLossStep a0 a1 s) := by
  unfold dlRxLockLossStep
  repeat' (first
    | with_reducible assumption
    | with_reducible refine Kept.ite ?_ ?_
    | with_reducible refine enterRetrain_kept (hM.of rfl) ?_)

theorem takePayload_kept (hM : Sub 17825801 m) {a0 a1 a2 : Nat} {a3 : List Nat} {s : Block} (h : Kept m s0 s) :
    Kept m s0 (takePayload a0 a1 a2 a3 s) := by
  unfold takePayload
  repeat' (first
    | with_reducible assumption
    | intro _
    | (extract_lets +onlyGivenNames r; have hr : Kept m s0 r := ?_; clear_value r; rotate_left; subst r; rotate_right)
    | (extract_lets +onlyGivenNames r; have hr : Kept m s0 r.1 := ?_; clear_value r; rotate_left; subst r; rotate_right)
    | (extract_lets +onlyGivenNames r; clear_value r)
    | with_reducible refine Kept.ite ?_ ?_
    | with_reducible refine Kept.ite1 ?_ ?_
    | with_reducible refine Kept.foldl1 ?_ ?_
    | with_reducible refine setEnd_kept (hM.of rfl) ?_
    | with_reducible refine arriveUnit_kept (hM.of rfl) ?_
    | with_reducible refine enterRetrain_kept (hM.of rfl) ?_)

theorem sendNak_kept (hM : Sub 1048577 m) {a0 a1 : Nat} {s : Block} (h : Kept m s0 s) :
    Kept m s0 (sendNak a0 a1 s) := by
  unfold sendNak
  repeat' (first
    | with_reducible assumption
    | with_reducible refine Kept.ite ?_ ?_
    | with_reducible refine sendIdle_kept (hM.of rfl) ?_
    | with_reducible refine modEnd_kept (hM.of rfl) ?_)

theorem flitAccepted_kept (hM : Sub 17825801 m) {a0 a1 : Nat} {a2 : List Nat} {s : Block} (h : Kept m s0 s) :
    Kept m s0 (flitAccepted a0 a1 a2 s) := by
  unfold flitAccepted
  repeat' (first
    | with_reducible assumption
    | (extract_lets +onlyGivenNames r; have hr : Kept m s0 r := ?_; clear_value r; rotate_left; subst r; rotate_right)
    | (extract_lets +onlyGivenNames r; clear_value r)
    | with_reducible refine Kept.ite ?_ ?_
    | with_reducible refine modEnd_kept (hM.of rfl) ?_
    | with_reducible refine sendNak_kept (hM.of rfl) ?_
    | with_reducible refine setEnd_kept (hM.of rfl) ?_
    | with_reducible refine sendIdle_kept (hM.of rfl) ?_
    | with_reducible refine takePayload_kept (hM.of rfl) ?_
    | with_reducible refine sendWaiting_kept (hM.of rfl) ?_)

theorem fregalFlitReceiveStep_kept (hM : Sub 17825801 m) {a0 a1 a2 : Nat} {s : Block} (h : Kept m s0 s) :
    Kept m s0 (fregalFlitReceiveStep a0 a1 a2 s) := by
  unfold fregalFlitReceiveStep
  repeat' (first
    | with_reducible assumption
    | with_reducible refine Kept.ite ?_ ?_
    | with_reducible refine flitAccepted_kept (hM.of rfl) ?_
    | with_reducible refine sendNak_kept (hM.of rfl) ?_
    | with_reducible refine Block_bump_kept (hM.of rfl) ?_)

theorem replay_kept (hM : Sub 17825801 m) {a0 a1 a2 : Nat} {s : Block} (h : Kept m s0 s) :
    Kept m s0 (replay a0 a1 a2 s) := by
  unfold replay
  repeat' (first
    | with_reducible assumption
    | intro _
    | (extract_lets +onlyGivenNames r; have hr : Kept m s0 r := ?_; clear_value r; rotate_left; subst r; rotate_right)
    | (extract_lets +onlyGivenNames r; clear_value r)
    | with_reducible refine Kept.ite ?_ ?_
    | with_reducible refine Kept.foldl ?_ ?_
    | with_reducible refine enterRetrain_kept (hM.of rfl) ?_
    | with_reducible refine Block_bump_kept (hM.of rfl) ?_
    | with_reducible refine setEnd_kept (hM.of rfl) ?_
    | with_reducible refine sendFlit_kept (hM.of rfl) ?_)

theorem fregalNakStep_kept (hM : Sub 17825801 m) {a0 a1 a2 : Nat} {s : Block} (h : Kept m s0 s) :
    Kept m s0 (fregalNakStep a0 a1 a2 s) := by
  unfold fregalNakStep
  repeat' (first
    | with_reducible assumption
    | with_reducible refine Kept.ite ?_ ?_
    | with_reducible refine replay_kept (hM.of rfl) ?_
    | with_reducible refine modEnd_kept (hM.of rfl) ?_)

theorem replayTimeoutStep_kept (hM : Sub 17825801 m) {a0 a1 : Nat} {s : Block} (h : Kept m s0 s) :
    Kept m s0 (replayTimeoutStep a0 a1 s) := by
  unfold replayTimeoutStep
  repeat' (first
    | with_reducible assumption
    | with_reducible refine Kept.ite ?_ ?_
    | with_reducible refine replay_kept (hM.of rfl) ?_
    | split)

theorem carryGranted_kept (hM : Sub 1048577 m) {a0 a1 a2 : Nat} {s : Block} (h : Kept m s0 s) :
    Kept m s0 (carryGranted a0 a1 a2 s) := by
  unfold carryGranted
  repeat' (first
    | with_reducible assumption
    | (extract_lets +onlyGivenNames r; clear_value r)
    | with_reducible refine sendCtl_kept (hM.of rfl) ?_
    | with_reducible refine setEnd_kept (hM.of rfl) ?_)

theorem carryReqStep_kept (hM : Sub 1048577 m) {a0 a1 a2 : Nat} {s : Block} (h : Kept m s0 s) :
    Kept m s0 (carryReqStep a0 a1 a2 s) := by
  unfold carryReqStep
  repeat' (first
    | with_reducible assumption
    | with_reducible refine Kept.ite ?_ ?_
    | with_reducible refine carryGranted_kept (hM.of rfl) ?_)

theorem carriedOver_kept (hM : Sub 1048577 m) {a0 a1 a2 a3 a4 : Nat} {s : Block} (h : Kept m s0 s) :
    Kept m s0 (carriedOver a0 a1 a2 a3 a4 s) := by
  unfold carriedOver
  repeat' (first
    | with_reducible assumption
    | (extract_lets +onlyGivenNames r; have hr : Kept m s0 r := ?_; clear_value r; rotate_left; subst r; rotate_right)
    | (extract_lets +onlyGivenNames r; clear_value r)
    | with_reducible refine setEnd_kept (hM.of rfl) ?_
    | with_reducible refine sendWaiting_kept (hM.of rfl) ?_
    | with_reducible refine modEnd_kept (hM.of rfl) ?_)

theorem carryAckStep_kept (hM : Sub 1048577 m) {a0 a1 a2 a3 a4 : Nat} {s : Block} (h : Kept m s0 s) :
    Kept m s0 (carryAckStep a0 a1 a2 a3 a4 s) := by
  unfold carryAckStep
  repeat' (first
    | with_reducible assumption
    | with_reducible refine Kept.ite ?_ ?_
    | with_reducible refine carriedOver_kept (hM.of rfl) ?_)

theorem carryResumeStep_kept (hM : Sub 17825801 m) {a0 a1 a2 : Nat} {s : Block} (h : Kept m s0 s) :
    Kept m s0 (carryResumeStep a0 a1 a2 s) := by
  unfold carryResumeStep
  repeat' (first
    | with_reducible assumption
    | with_reducible refine Kept.ite ?_ ?_
    | with_reducible refine carryEnd_kept (hM.of rfl) ?_
    | with_reducible refine modEnd_kept (hM.of rfl) ?_)

theorem dlLaneMarginStep_kept (hM : Sub 17825801 m) {a0 a1 a2 : Nat} {s : Block} (h : Kept m s0 s) :
    Kept m s0 (dlLaneMarginStep a0 a1 a2 s) := by
  unfold dlLaneMarginStep
  repeat' (first
    | with_reducible assumption
    | with_reducible refine Kept.ite ?_ ?_
    | with_reducible refine enterRetrain_kept (hM.of rfl) ?_
    | with_reducible refine modEnd_kept (hM.of rfl) ?_
    | with_reducible refine Block_putB_kept (hM.of rfl) ?_
    | with_reducible refine dlEvent_kept (hM.of rfl) ?_)

theorem clockLost_kept (hM : Sub 1048576 m) {a0 : Nat} {s : Block} (h : Kept m s0 s) :
    Kept m s0 (clockLost a0 s) := by
  unfold clockLost
  repeat' (first
    | with_reducible assumption
    | (extract_lets +onlyGivenNames r; clear_value r)
    | with_reducible refine Kept.upd ?_ (h_dl := .inr (hM.of rfl)))

theorem dieDown_kept (hM : Sub 160956441 m) {a0 : Nat} {s : Block} (h : Kept m s0 s) :
    Kept m s0 (dieDown a0 s) := by
  unfold dieDown
  repeat' (first
    | with_reducible assumption
    | intro _
    | (extract_lets +onlyGivenNames r; have hr : Kept m s0 r := ?_; clear_value r; rotate_left; subst r; rotate_right)
    | (extract_lets +onlyGivenNames r; have hr : StartSt := r; subst r)
    | with_reducible refine readyReached_kept (hM.of rfl) ?_
    | with_reducible refine forEach_kept (hM.of rfl) ?_ ?_
    | with_reducible refine moduleDown_kept (hM.of rfl) ?_
    | with_reducible refine Kept.upd ?_ (h_start := .inr (hM.of rfl)))

theorem dlClockLossStep_kept (hM : Sub 160956441 m) {a0 a1 : Nat} {s : Block} (h : Kept m s0 s) :
    Kept m s0 (dlClockLossStep a0 a1 s) := by
  unfold dlClockLossStep
  repeat' (first
    | with_reducible assumption
    | with_reducible refine Kept.ite ?_ ?_
    | with_reducible refine clockLost_kept (hM.of rfl) ?_
    | with_reducible refine dieDown_kept (hM.of rfl) ?_
    | with_reducible refine clockMove_kept (hM.of rfl) ?_)

theorem clockMarker_kept (hM : Sub 17825800 m) {s : Block} (h : Kept m s0 s) :
    Kept m s0 (clockMarker s) := by
  unfold clockMarker
  repeat' (first
    | with_reducible assumption
    | intro _
    | (extract_lets +onlyGivenNames r; clear_value r)
    | with_reducible refine Kept.foldl ?_ ?_
    | with_reducible refine dlEvent_kept (hM.of rfl) ?_
    | with_reducible refine Block_putB_kept (hM.of rfl) ?_
    | split
    | with_reducible refine Kept.upd ?_ (h_dl := .inr (hM.of rfl)))

theorem execDlStatus_ran (hM : Sub 8388608 m) (a0 : Hdr) (a1 : Nat) (s : State) : Ran m s (execDlStatus a0 a1 s) := by
  unfold execDlStatus
  refine live_ran (fun s0 s h => ?_) s
  repeat' (first
    | with_reducible assumption
    | intro _
    | with_reducible refine Block_command_kept (hM.of rfl) ?_ ?_
    | with_reducible refine onLink_kept (hM.of rfl) ?_ ?_
    | with_reducible refine dlStatusCmd_kept (hM.of rfl) ?_)

theorem execDlRetrain_ran (hM : Sub 26214409 m) (a0 : Hdr) (a1 : Nat) (s : State) : Ran m s (execDlRetrain a0 a1 s) := by
  unfold execDlRetrain
  refine live_ran (fun s0 s h => ?_) s
  repeat' (first
    | with_reducible assumption
    | intro _
    | with_reducible refine Block_command_kept (hM.of rfl) ?_ ?_
    | with_reducible refine onLink_kept (hM.of rfl) ?_ ?_
    | with_reducible refine dlRetrainCmd_kept (hM.of rfl) ?_)

theorem execDlDown_ran (hM : Sub 9437184 m) (a0 : Hdr) (a1 : Nat) (s : State) : Ran m s (execDlDown a0 a1 s) := by
  unfold execDlDown
  refine live_ran (fun s0 s h => ?_) s
  repeat' (first
    | with_reducible assumption
    | intro _
    | with_reducible refine Block_command_kept (hM.of rfl) ?_ ?_
    | with_reducible refine onLink_kept (hM.of rfl) ?_ ?_
    | with_reducible refine dlDownCmd_kept (hM.of rfl) ?_)

theorem execDlUp_ran (hM : Sub 9437192 m) (a0 : Hdr) (a1 : Nat) (s : State) : Ran m s (execDlUp a0 a1 s) := by
  unfold execDlUp
  refine live_ran (fun s0 s h => ?_) s
  repeat' (first
    | with_reducible assumption
    | intro _
    | with_reducible refine Block_command_kept (hM.of rfl) ?_ ?_
    | with_reducible refine onLink_kept (hM.of rfl) ?_ ?_
    | with_reducible refine dlUpCmd_kept (hM.of rfl) ?_)

theorem execDlClearDegrade_ran (hM : Sub 9437192 m) (a0 : Hdr) (a1 : Nat) (s : State) : Ran m s (execDlClearDegrade a0 a1 s) := by
  unfold execDlClearDegrade
  refine live_ran (fun s0 s h => ?_) s
  repeat' (first
    | with_reducible assumption
    | intro _
    | with_reducible refine Block_command_kept (hM.of rfl) ?_ ?_
    | with_reducible refine onLink_kept (hM.of rfl) ?_ ?_
    | with_reducible refine dlClearDegradeCmd_kept (hM.of rfl) ?_)

theorem execSeamSteer_ran (hM : Sub 25165960 m) (a0 : Hdr) (a1 : Nat) (a2 : Nat) (a3 : Nat) (s : State) : Ran m s (execSeamSteer a0 a1 a2 a3 s) := by
  unfold execSeamSteer
  refine live_ran (fun s0 s h => ?_) s
  repeat' (first
    | with_reducible assumption
    | intro _
    | with_reducible refine Block_command_kept (hM.of rfl) ?_ ?_
    | with_reducible refine onDie_kept (hM.of rfl) ?_ ?_
    | with_reducible refine seamSteerCmd_kept (hM.of rfl) ?_)

theorem execDiscoverySend_ran (hM : Sub 1 m) (a0 : Fin 5) (a1 : Fin 34) (s : State) : Ran m s (execDiscoverySend a0 a1 s) := by
  unfold execDiscoverySend
  refine clocked_ran (fun s0 s h => ?_) s
  repeat' (first
    | with_reducible assumption
    | with_reducible refine discoverySendStep_kept (hM.of rfl) ?_)

theorem execDiscoveryRecord_ran (hM : Sub 160956441 m) (a0 : Fin 5) (a1 : Fin 34) (a2 : BitVec 384) (s : State) : Ran m s (execDiscoveryRecord a0 a1 a2 s) := by
  unfold execDiscoveryRecord
  refine clocked_ran (fun s0 s h => ?_) s
  repeat' (first
    | with_reducible assumption
    | with_reducible refine discoveryRecordStep_kept (hM.of rfl) ?_)

theorem execDiscoverTimeout_ran (hM : Sub 160956441 m) (a0 : Fin 5) (a1 : Fin 34) (s : State) : Ran m s (execDiscoverTimeout a0 a1 s) := by
  unfold execDiscoverTimeout
  refine clocked_ran (fun s0 s h => ?_) s
  repeat' (first
    | with_reducible assumption
    | with_reducible refine discoverTimeoutStep_kept (hM.of rfl) ?_)

theorem execParameterExchangeDone_ran (hM : Sub 160956441 m) (a0 : Fin 5) (a1 : Fin 34) (a2 : BitVec 384) (a3 : BitVec 68) (s : State) : Ran m s (execParameterExchangeDone a0 a1 a2 a3 s) := by
  unfold execParameterExchangeDone
  refine clockedOn_ran (fun s0 s h => ?_) s
  repeat' (first
    | with_reducible assumption
    | with_reducible refine parameterExchangeDoneStep_kept (hM.of rfl) ?_)

theorem execRetrainTimeout_ran (hM : Sub 160956425 m) (a0 : Fin 5) (a1 : Fin 34) (s : State) : Ran m s (execRetrainTimeout a0 a1 s) := by
  unfold execRetrainTimeout
  refine clocked_ran (fun s0 s h => ?_) s
  repeat' (first
    | with_reducible assumption
    | with_reducible refine retrainTimeoutStep_kept (hM.of rfl) ?_)

theorem execDlTrainTimeout_ran (hM : Sub 160956425 m) (a0 : Fin 5) (a1 : Fin 34) (s : State) : Ran m s (execDlTrainTimeout a0 a1 s) := by
  unfold execDlTrainTimeout
  refine clocked_ran (fun s0 s h => ?_) s
  repeat' (first
    | with_reducible assumption
    | with_reducible refine dlTrainTimeoutStep_kept (hM.of rfl) ?_)

theorem execDlRxLockLoss_ran (hM : Sub 17825801 m) (a0 : Fin 5) (a1 : Fin 34) (s : State) : Ran m s (execDlRxLockLoss a0 a1 s) := by
  unfold execDlRxLockLoss
  refine clockedOn_ran (fun s0 s h => ?_) s
  repeat' (first
    | with_reducible assumption
    | with_reducible refine dlRxLockLossStep_kept (hM.of rfl) ?_)

theorem execFregalFlitReceive_ran (hM : Sub 17825801 m) (a0 : Fin 5) (a1 : Fin 34) (a2 : BitVec 2048) (s : State) : Ran m s (execFregalFlitReceive a0 a1 a2 s) := by
  unfold execFregalFlitReceive
  refine clockedOn_ran (fun s0 s h => ?_) s
  repeat' (first
    | with_reducible assumption
    | with_reducible refine fregalFlitReceiveStep_kept (hM.of rfl) ?_)

theorem execFregalNak_ran (hM : Sub 17825801 m) (a0 : Fin 5) (a1 : Fin 34) (a2 : BitVec 16) (s : State) : Ran m s (execFregalNak a0 a1 a2 s) := by
  unfold execFregalNak
  refine clockedOn_ran (fun s0 s h => ?_) s
  repeat' (first
    | with_reducible assumption
    | with_reducible refine fregalNakStep_kept (hM.of rfl) ?_)

theorem execReplayTimeout_ran (hM : Sub 17825801 m) (a0 : Fin 5) (a1 : Fin 34) (s : State) : Ran m s (execReplayTimeout a0 a1 s) := by
  unfold execReplayTimeout
  refine clockedOn_ran (fun s0 s h => ?_) s
  repeat' (first
    | with_reducible assumption
    | with_reducible refine replayTimeoutStep_kept (hM.of rfl) ?_)

theorem execCarryReq_ran (hM : Sub 1048577 m) (a0 : Fin 5) (a1 : Fin 34) (a2 : Fin 4) (s : State) : Ran m s (execCarryReq a0 a1 a2 s) := by
  unfold execCarryReq
  refine clockedOn_ran (fun s0 s h => ?_) s
  repeat' (first
    | with_reducible assumption
    | with_reducible refine carryReqStep_kept (hM.of rfl) ?_)

theorem execCarryAck_ran (hM : Sub 1048577 m) (a0 : Fin 5) (a1 : Fin 34) (a2 : Fin 4) (a3 : BitVec 16) (a4 : BitVec 16) (s : State) : Ran m s (execCarryAck a0 a1 a2 a3 a4 s) := by
  unfold execCarryAck
  refine clockedOn_ran (fun s0 s h => ?_) s
  repeat' (first
    | with_reducible assumption
    | with_reducible refine carryAckStep_kept (hM.of rfl) ?_)

theorem execCarryResume_ran (hM : Sub 17825801 m) (a0 : Fin 5) (a1 : Fin 34) (a2 : BitVec 32) (s : State) : Ran m s (execCarryResume a0 a1 a2 s) := by
  unfold execCarryResume
  refine clockedOn_ran (fun s0 s h => ?_) s
  repeat' (first
    | with_reducible assumption
    | with_reducible refine carryResumeStep_kept (hM.of rfl) ?_)

theorem execDlLaneMargin_ran (hM : Sub 17825801 m) (a0 : Fin 5) (a1 : Fin 34) (a2 : Fin 64) (s : State) : Ran m s (execDlLaneMargin a0 a1 a2 s) := by
  unfold execDlLaneMargin
  refine clockedOn_ran (fun s0 s h => ?_) s
  repeat' (first
    | with_reducible assumption
    | with_reducible refine dlLaneMarginStep_kept (hM.of rfl) ?_)

theorem execDlClockLoss_ran (hM : Sub 160956441 m) (a0 : Fin 5) (a1 : Fin 34) (s : State) : Ran m s (execDlClockLoss a0 a1 s) := by
  unfold execDlClockLoss
  refine clocked_ran (fun s0 s h => ?_) s
  repeat' (first
    | with_reducible assumption
    | with_reducible refine dlClockLossStep_kept (hM.of rfl) ?_)

/-! ### Shutter -/

theorem setShut_kept (hM : Sub 4096 m) {a0 : ShutSt} {s : Block} (h : Kept m s0 s) :
    Kept m s0 (setShut a0 s) := by
  unfold setShut
  repeat' (first
    | with_reducible assumption
    | with_reducible refine Kept.upd ?_ (h_shut := .inr (hM.of rfl)))

theorem shutAnswer_kept (hM : Sub 8388608 m) {a0 : Nat} {s : Block} (h : Kept m s0 s) :
    Kept m s0 (shutAnswer a0 s) := by
  unfold shutAnswer
  repeat' (first
    | with_reducible assumption
    | intro _
    | with_reducible refine Kept.foldl ?_ ?_
    | with_reducible refine Block_answer_kept (hM.of rfl) ?_
    | split)

theorem shutEnd_kept (hM : Sub 4096 m) {s : Block} (h : Kept m s0 s) :
    Kept m s0 (shutEnd s) := by
  unfold shutEnd
  repeat' (first
    | with_reducible assumption
    | (extract_lets +onlyGivenNames r; clear_value r)
    | with_reducible refine Kept.ite ?_ ?_
    | with_reducible refine setShut_kept (hM.of rfl) ?_)

theorem shutterRelease_kept (hM : Sub 4096 m) {a0 : List Nat} {s : Block} (h : Kept m s0 s) :
    Kept m s0 (shutterRelease a0 s) := by
  unfold shutterRelease
  repeat' (first
    | with_reducible assumption
    | (extract_lets +onlyGivenNames r; clear_value r)
    | with_reducible refine setShut_kept (hM.of rfl) ?_)

theorem shutterCmd_kept (hM : Sub 25169930 m) {a0 : Nat} {a1 : Cmd} {s : Block} (h : Kept m s0 s) :
    Kept m s0 (shutterCmd a0 a1 s) := by
  unfold shutterCmd
  repeat' (first
    | with_reducible assumption
    | (extract_lets +onlyGivenNames r; have hr : Kept m s0 r.2 := ?_; clear_value r; rotate_left; subst r; rotate_right)
    | with_reducible refine Kept.ite ?_ ?_
    | with_reducible refine Block_respond_kept (hM.of rfl) ?_
    | with_reducible refine readMem_kept (hM.of rfl) ?_
    | with_reducible refine Block_hold_kept (hM.of rfl) ?_
    | with_reducible refine setShut_kept (hM.of rfl) ?_
    | split)

theorem shutterResumeCmd_kept (hM : Sub 8392704 m) {a0 : Cmd} {s : Block} (h : Kept m s0 s) :
    Kept m s0 (shutterResumeCmd a0 s) := by
  unfold shutterResumeCmd
  repeat' (first
    | with_reducible assumption
    | (extract_lets +onlyGivenNames r; clear_value r)
    | with_reducible refine Kept.ite ?_ ?_
    | with_reducible refine Block_respond_kept (hM.of rfl) ?_
    | with_reducible refine Block_hold_kept (hM.of rfl) ?_
    | with_reducible refine setShut_kept (hM.of rfl) ?_)

theorem shutterCancelCmd_kept (hM : Sub 8392704 m) {a0 : Cmd} {s : Block} (h : Kept m s0 s) :
    Kept m s0 (shutterCancelCmd a0 s) := by
  unfold shutterCancelCmd
  repeat' (first
    | with_reducible assumption
    | with_reducible refine Kept.ite ?_ ?_
    | with_reducible refine Block_respond_kept (hM.of rfl) ?_
    | with_reducible refine shutEnd_kept (hM.of rfl) ?_
    | with_reducible refine shutAnswer_kept (hM.of rfl) ?_)

theorem shutterStatusCmd_kept (hM : Sub 8388608 m) {a0 : Cmd} {s : Block} (h : Kept m s0 s) :
    Kept m s0 (shutterStatusCmd a0 s) := by
  unfold shutterStatusCmd
  repeat' (first
    | with_reducible assumption
    | with_reducible refine Block_respond_kept (hM.of rfl) ?_)

theorem shutterTriggerLineStep_kept (hM : Sub 4096 m) {a0 : Nat} {s : Block} (h : Kept m s0 s) :
    Kept m s0 (shutterTriggerLineStep a0 s) := by
  unfold shutterTriggerLineStep
  repeat' (first
    | with_reducible assumption
    | (extract_lets +onlyGivenNames r; clear_value r)
    | with_reducible refine Kept.ite ?_ ?_
    | with_reducible refine setShut_kept (hM.of rfl) ?_)

theorem shutReading_kept (hM : Sub 16846857 m) {s : Block} (h : Kept m s0 s) :
    Kept m s0 (shutReading s) := by
  unfold shutReading
  repeat' (first
    | with_reducible assumption
    | (extract_lets +onlyGivenNames r; have hr : Kept m s0 r.2 := ?_; clear_value r; rotate_left; subst r; rotate_right)
    | (extract_lets +onlyGivenNames r; clear_value r)
    | with_reducible refine writeMem_kept (hM.of rfl) ?_
    | with_reducible refine setShut_kept (hM.of rfl) ?_)

theorem shutStart_kept (hM : Sub 4096 m) {a0 : Nat} {s : Block} (h : Kept m s0 s) :
    Kept m s0 (shutStart a0 s) := by
  unfold shutStart
  repeat' (first
    | with_reducible assumption
    | (extract_lets +onlyGivenNames r; clear_value r)
    | with_reducible refine Kept.ite ?_ ?_
    | with_reducible refine setShut_kept (hM.of rfl) ?_
    | split)

theorem shutStrobe_kept (hM : Sub 2147487744 m) {a0 : List NetEdge} {s : Block} (h : Kept m s0 s) :
    Kept m s0 (shutStrobe a0 s) := by
  unfold shutStrobe
  repeat' (first
    | with_reducible assumption
    | (extract_lets +onlyGivenNames r; have hr : Kept m s0 r := ?_; clear_value r; rotate_left; subst r; rotate_right)
    | (extract_lets +onlyGivenNames r; clear_value r)
    | with_reducible refine Kept.ite ?_ ?_
    | with_reducible refine latchNets_kept (hM.of rfl) ?_
    | with_reducible refine setShut_kept (hM.of rfl) ?_)

theorem shutDone_kept (hM : Sub 16846857 m) {s : Block} (h : Kept m s0 s) :
    Kept m s0 (shutDone s) := by
  unfold shutDone
  repeat' (first
    | with_reducible assumption
    | with_reducible refine Kept.ite ?_ ?_
    | with_reducible refine shutReading_kept (hM.of rfl) ?_)

theorem clusterRecord_kept (hM : Sub 16846857 m) {a0 : Nat} {s : Block} (h : Kept m s0 s) :
    Kept m s0 (clusterRecord a0 s) := by
  unfold clusterRecord
  repeat' (first
    | with_reducible assumption
    | (extract_lets +onlyGivenNames r; have hr : Kept m s0 r.2 := ?_; clear_value r; rotate_left; subst r; rotate_right)
    | (extract_lets +onlyGivenNames r; clear_value r)
    | with_reducible refine writeMem_kept (hM.of rfl) ?_
    | with_reducible refine setShut_kept (hM.of rfl) ?_)

theorem memoryRecord_kept (hM : Sub 16846857 m) {a0 : Nat} {s : Block} (h : Kept m s0 s) :
    Kept m s0 (memoryRecord a0 s) := by
  unfold memoryRecord
  repeat' (first
    | with_reducible assumption
    | (extract_lets +onlyGivenNames r; have hr : Kept m s0 r.2 := ?_; clear_value r; rotate_left; subst r; rotate_right)
    | (extract_lets +onlyGivenNames r; have hr := fun x => r x; subst r)
    | (extract_lets +onlyGivenNames r; clear_value r)
    | with_reducible refine writeMem_kept (hM.of rfl) ?_
    | with_reducible refine setShut_kept (hM.of rfl) ?_)

theorem contactRecordWriteStep_kept (hM : Sub 16846857 m) {s : Block} (h : Kept m s0 s) :
    Kept m s0 (contactRecordWriteStep s) := by
  unfold contactRecordWriteStep
  repeat' (first
    | with_reducible assumption
    | with_reducible refine Kept.ite ?_ ?_
    | with_reducible refine clusterRecord_kept (hM.of rfl) ?_
    | with_reducible refine memoryRecord_kept (hM.of rfl) ?_)

theorem shutTrailer_kept (hM : Sub 25235465 m) {s : Block} (h : Kept m s0 s) :
    Kept m s0 (shutTrailer s) := by
  unfold shutTrailer
  repeat' (first
    | with_reducible assumption
    | (extract_lets +onlyGivenNames r; have hr : Kept m s0 r.2 := ?_; clear_value r; rotate_left; subst r; rotate_right)
    | (extract_lets +onlyGivenNames r; clear_value r)
    | with_reducible refine writeMem_kept (hM.of rfl) ?_
    | with_reducible refine shutEnd_kept (hM.of rfl) ?_
    | with_reducible refine shutAnswer_kept (hM.of rfl) ?_)

theorem shutterReadoutDoneStep_kept (hM : Sub 25235465 m) {s : Block} (h : Kept m s0 s) :
    Kept m s0 (shutterReadoutDoneStep s) := by
  unfold shutterReadoutDoneStep
  repeat' (first
    | with_reducible assumption
    | with_reducible refine Kept.ite ?_ ?_
    | with_reducible refine shutTrailer_kept (hM.of rfl) ?_)

theorem settleSectors_kept (hM : Sub 1024 m) {a0 : List Nat} {s : Block} (h : Kept m s0 s) :
    Kept m s0 (settleSectors a0 s) := by
  unfold settleSectors
  repeat' (first
    | with_reducible assumption
    | intro _
    | with_reducible refine Kept.ite ?_ ?_
    | with_reducible refine forEach_kept (hM.of rfl) ?_ ?_
    | with_reducible refine eachEngine_kept (hM.of rfl) ?_ ?_
    | with_reducible refine setEng_kept (hM.of rfl) ?_)

theorem shutterMarker_kept (hM : Sub 8393728 m) {s : Block} (h : Kept m s0 s) :
    Kept m s0 (shutterMarker s) := by
  unfold shutterMarker
  repeat' (first
    | with_reducible assumption
    | with_reducible refine Block_close_kept (hM.of rfl) ?_
    | with_reducible refine settleSectors_kept (hM.of rfl) ?_
    | with_reducible refine setShut_kept (hM.of rfl) ?_
    | split)

theorem shutterStale_kept (hM : Sub 4096 m) {a0 : Nat} {s : Block} (h : Kept m s0 s) :
    Kept m s0 (shutterStale a0 s) := by
  unfold shutterStale
  repeat' (first
    | with_reducible assumption
    | (extract_lets +onlyGivenNames r; have hr : Kept m s0 r := ?_; clear_value r; rotate_left; subst r; rotate_right)
    | (extract_lets +onlyGivenNames r; clear_value r)
    | with_reducible refine Kept.ite ?_ ?_
    | with_reducible refine setShut_kept (hM.of rfl) ?_)

theorem shutterDieReset_kept (hM : Sub 8392704 m) {a0 : Nat} {s : Block} (h : Kept m s0 s) :
    Kept m s0 (shutterDieReset a0 s) := by
  unfold shutterDieReset
  repeat' (first
    | with_reducible assumption
    | (extract_lets +onlyGivenNames r; have hr : Kept m s0 r := ?_; clear_value r; rotate_left; subst r; rotate_right)
    | (extract_lets +onlyGivenNames r; clear_value r)
    | with_reducible refine Kept.ite ?_ ?_
    | with_reducible refine setShut_kept (hM.of rfl) ?_
    | with_reducible refine shutEnd_kept (hM.of rfl) ?_
    | with_reducible refine shutAnswer_kept (hM.of rfl) ?_)

theorem shutterRestart_kept (hM : Sub 16781312 m) {s : Block} (h : Kept m s0 s) :
    Kept m s0 (shutterRestart s) := by
  unfold shutterRestart
  repeat' (first
    | with_reducible assumption
    | (extract_lets +onlyGivenNames r; clear_value r)
    | with_reducible refine Kept.ite ?_ ?_
    | with_reducible refine Block_raise_kept (hM.of rfl) ?_
    | with_reducible refine shutEnd_kept (hM.of rfl) ?_
    | with_reducible refine setShut_kept (hM.of rfl) ?_)

theorem execShutter_ran (hM : Sub 25169930 m) (a0 : Hdr) (a1 : Nat) (s : State) : Ran m s (execShutter a0 a1 s) := by
  unfold execShutter
  refine live_ran (fun s0 s h => ?_) s
  repeat' (first
    | with_reducible assumption
    | intro _
    | with_reducible refine Block_command_kept (hM.of rfl) ?_ ?_
    | with_reducible refine shutterCmd_kept (hM.of rfl) ?_)

theorem execShutterResume_ran (hM : Sub 8392704 m) (a0 : Hdr) (s : State) : Ran m s (execShutterResume a0 s) := by
  unfold execShutterResume
  refine live_ran (fun s0 s h => ?_) s
  repeat' (first
    | with_reducible assumption
    | intro _
    | with_reducible refine Block_command_kept (hM.of rfl) ?_ ?_
    | with_reducible refine shutterResumeCmd_kept (hM.of rfl) ?_)

theorem execShutterCancel_ran (hM : Sub 8392704 m) (a0 : Hdr) (s : State) : Ran m s (execShutterCancel a0 s) := by
  unfold execShutterCancel
  refine live_ran (fun s0 s h => ?_) s
  repeat' (first
    | with_reducible assumption
    | intro _
    | with_reducible refine Block_command_kept (hM.of rfl) ?_ ?_
    | with_reducible refine shutterCancelCmd_kept (hM.of rfl) ?_)

theorem execShutterStatus_ran (hM : Sub 8388608 m) (a0 : Hdr) (s : State) : Ran m s (execShutterStatus a0 s) := by
  unfold execShutterStatus
  refine live_ran (fun s0 s h => ?_) s
  repeat' (first
    | with_reducible assumption
    | intro _
    | with_reducible refine Block_command_kept (hM.of rfl) ?_ ?_
    | with_reducible refine shutterStatusCmd_kept (hM.of rfl) ?_)

theorem execShutterTriggerLine_ran (hM : Sub 4096 m) (a0 : Fin 8) (s : State) : Ran m s (execShutterTriggerLine a0 s) := by
  unfold execShutterTriggerLine
  refine clocked_ran (fun s0 s h => ?_) s
  repeat' (first
    | with_reducible assumption
    | with_reducible refine shutterTriggerLineStep_kept (hM.of rfl) ?_)

theorem execContactRecordWrite_ran (hM : Sub 16846857 m) (s : State) : Ran m s (execContactRecordWrite s) := by
  unfold execContactRecordWrite
  refine clocked_ran (fun s0 s h => ?_) s
  repeat' (first
    | with_reducible assumption
    | with_reducible refine contactRecordWriteStep_kept (hM.of rfl) ?_)

theorem execShutterReadoutDone_ran (hM : Sub 25235465 m) (s : State) : Ran m s (execShutterReadoutDone s) := by
  unfold execShutterReadoutDone
  refine clocked_ran (fun s0 s h => ?_) s
  repeat' (first
    | with_reducible assumption
    | with_reducible refine shutterReadoutDoneStep_kept (hM.of rfl) ?_)

/-! ### FabricTick -/

theorem trigSample_kept (hM : Sub 4098 m) {a0 : Nat} {s : Block} (h : Kept m s0 s) :
    Kept m s0 (trigSample a0 s) := by
  unfold trigSample
  repeat' (first
    | with_reducible assumption
    | (extract_lets +onlyGivenNames r; have hr : Kept m s0 r.2 := ?_; clear_value r; rotate_left; subst r; rotate_right)
    | (extract_lets +onlyGivenNames r; clear_value r)
    | with_reducible refine Kept.ite ?_ ?_
    | with_reducible refine Block_draw_kept (hM.of rfl) ?_
    | with_reducible refine setShut_kept (hM.of rfl) ?_)

theorem fabricTick_kept (hM : Sub 2164330507 m) {a0 : Nat} {s : Block} (h : Kept m s0 s) :
    Kept m s0 (fabricTick a0 s) := by
  unfold fabricTick
  repeat' (first
    | with_reducible assumption
    | intro _
    | (extract_lets +onlyGivenNames r; have hr : Kept m s0 r := ?_; clear_value r; rotate_left; subst r; rotate_right)
    | (extract_lets +onlyGivenNames r; clear_value r)
    | with_reducible refine Kept.foldl ?_ ?_
    | with_reducible refine shutStart_kept (hM.of rfl) ?_
    | with_reducible refine trigSample_kept (hM.of rfl) ?_
    | with_reducible refine shutDone_kept (hM.of rfl) ?_
    | with_reducible refine shutStrobe_kept (hM.of rfl) ?_
    | with_reducible refine fabricEdges_kept (hM.of rfl) ?_)

theorem fabricCatchUp_kept (hM : Sub 2164330507 m) {s : Block} (h : Kept m s0 s) :
    Kept m s0 (fabricCatchUp s) := by
  unfold fabricCatchUp
  repeat' (first
    | with_reducible assumption
    | intro _
    | (extract_lets +onlyGivenNames r; have hr : Kept m s0 r := ?_; clear_value r; rotate_left; subst r; rotate_right)
    | (extract_lets +onlyGivenNames r; clear_value r)
    | with_reducible refine Kept.ite ?_ ?_
    | with_reducible refine Kept.foldl ?_ ?_
    | with_reducible refine trigSample_kept (hM.of rfl) ?_
    | with_reducible refine shutStart_kept (hM.of rfl) ?_
    | with_reducible refine fabricTick_kept (hM.of rfl) ?_
    | with_reducible refine Kept.upd ?_ (h_fab := .inr (hM.of rfl)))

theorem idleTick_kept (hM : Sub 2164330511 m) {s : Block} (h : Kept m s0 s) :
    Kept m s0 (idleTick s) := by
  unfold idleTick
  repeat' (first
    | with_reducible assumption
    | with_reducible refine Kept.ite ?_ ?_
    | with_reducible refine fabricCatchUp_kept (hM.of rfl) ?_
    | with_reducible refine advanceTime_kept (hM.of rfl) ?_)

theorem shutterCaptureStep_kept (hM : Sub 2164330511 m) {s : Block} (h : Kept m s0 s) :
    Kept m s0 (shutterCaptureStep s) := by
  unfold shutterCaptureStep
  repeat' (first
    | with_reducible assumption
    | with_reducible refine Kept.ite ?_ ?_
    | with_reducible refine fabricCatchUp_kept (hM.of rfl) ?_
    | with_reducible refine reachTime_kept (hM.of rfl) ?_
    | split)

theorem shutterNoEdgeTimeoutStep_kept (hM : Sub 2164330511 m) {s : Block} (h : Kept m s0 s) :
    Kept m s0 (shutterNoEdgeTimeoutStep s) := by
  unfold shutterNoEdgeTimeoutStep
  repeat' (first
    | with_reducible assumption
    | (extract_lets +onlyGivenNames r; have hr : Kept m s0 r := ?_; clear_value r; rotate_left; subst r; rotate_right)
    | (extract_lets +onlyGivenNames r; clear_value r)
    | with_reducible refine Kept.ite ?_ ?_
    | with_reducible refine fabricCatchUp_kept (hM.of rfl) ?_
    | with_reducible refine reachTime_kept (hM.of rfl) ?_
    | with_reducible refine shutReading_kept (hM.of rfl) ?_
    | with_reducible refine setShut_kept (hM.of rfl) ?_)

theorem execShutterCapture_ran (hM : Sub 2164330511 m) (s : State) : Ran m s (execShutterCapture s) := by
  unfold execShutterCapture
  refine clocked_ran (fun s0 s h => ?_) s
  repeat' (first
    | with_reducible assumption
    | with_reducible refine shutterCaptureStep_kept (hM.of rfl) ?_)

theorem execShutterNoEdgeTimeout_ran (hM : Sub 2164330511 m) (s : State) : Ran m s (execShutterNoEdgeTimeout s) := by
  unfold execShutterNoEdgeTimeout
  refine clocked_ran (fun s0 s h => ?_) s
  repeat' (first
    | with_reducible assumption
    | with_reducible refine shutterNoEdgeTimeoutStep_kept (hM.of rfl) ?_)

/-! ### Firmware -/

theorem flashProgram_kept (hM : Sub 268435456 m) {a0 : Nat} {a1 : List Nat} {s : Block} (h : Kept m s0 s) :
    Kept m s0 (flashProgram a0 a1 s) := by
  unfold flashProgram
  exact modNv_kept hM (fun n h => spWf_foldl _ (fun m i h => spWf_spSet _ _ _ _ h) _ h) h

theorem flashErase_kept (hM : Sub 268435456 m) {a0 a1 : Nat} {s : Block} (h : Kept m s0 s) :
    Kept m s0 (flashErase a0 a1 s) := by
  unfold flashErase
  exact modNv_kept hM (fun n h => spWf_spClear _ _ _ h) h

theorem showSlot_kept (hM : Sub 8 m) {a0 : Nat} {s : Block} (h : Kept m s0 s) :
    Kept m s0 (showSlot a0 s) := by
  unfold showSlot
  repeat' (first
    | with_reducible assumption
    | (extract_lets +onlyGivenNames r; clear_value r)
    | with_reducible refine Kept.ite ?_ ?_
    | with_reducible refine Block_put_kept (hM.of rfl) ?_
    | with_reducible refine Block_putB_kept (hM.of rfl) ?_
    | with_reducible refine Block_setReg_kept (hM.of rfl) ?_)

theorem putRec_kept (hM : Sub 268435456 m) {a0 : Option ActRec} {s : Block} (h : Kept m s0 s) :
    Kept m s0 (putRec a0 s) := by
  unfold putRec
  repeat' (first
    | with_reducible assumption
    | with_reducible refine modNv_kept (hM.of rfl) (fun _ h => h) ?_
    | split)

theorem writeRec_kept (hM : Sub 268435456 m) {a0 : ActRec} {s : Block} (h : Kept m s0 s) :
    Kept m s0 (writeRec a0 s) := by
  unfold writeRec
  repeat' (first
    | with_reducible assumption
    | with_reducible refine putRec_kept (hM.of rfl) ?_)

theorem startRec_kept (hM : Sub 402653184 m) {a0 : ActRec} {a1 : Nat} {s : Block} (h : Kept m s0 s) :
    Kept m s0 (startRec a0 a1 s) := by
  unfold startRec
  repeat' (first
    | with_reducible assumption
    | (extract_lets +onlyGivenNames r; clear_value r)
    | with_reducible refine modFwu_kept (hM.of rfl) ?_
    | with_reducible refine putRec_kept (hM.of rfl) ?_)

theorem showRec_kept (hM : Sub 8 m) {s : Block} (h : Kept m s0 s) :
    Kept m s0 (showRec s) := by
  unfold showRec
  repeat' (first
    | with_reducible assumption
    | (extract_lets +onlyGivenNames r; clear_value r)
    | with_reducible refine Block_put_kept (hM.of rfl) ?_
    | with_reducible refine Block_putB_kept (hM.of rfl) ?_)

theorem fallBack_kept (hM : Sub 285212680 m) {a0 : Nat} {s : Block} (h : Kept m s0 s) :
    Kept m s0 (fallBack a0 s) := by
  unfold fallBack
  repeat' (first
    | with_reducible assumption
    | intro _
    | (extract_lets +onlyGivenNames r; have hr : Kept m s0 r := ?_; clear_value r; rotate_left; subst r; rotate_right)
    | (extract_lets +onlyGivenNames r; clear_value r)
    | with_reducible refine writeRec_kept (hM.of rfl) ?_
    | with_reducible refine Block_raise_kept (hM.of rfl) ?_
    | with_reducible refine when_kept (hM.of rfl) ?_ ?_
    | with_reducible refine fwResult_kept (hM.of rfl) ?_)

theorem bootRecord_kept (hM : Sub 285212680 m) {a0 : Bool} {s : Block} (h : Kept m s0 s) :
    Kept m s0 (bootRecord a0 s) := by
  unfold bootRecord
  repeat' (first
    | with_reducible assumption
    | (extract_lets +onlyGivenNames r; have hr : Kept m s0 r := ?_; clear_value r; rotate_left; subst r; rotate_right)
    | (extract_lets +onlyGivenNames r; clear_value r)
    | with_reducible refine Kept.ite ?_ ?_
    | with_reducible refine writeRec_kept (hM.of rfl) ?_
    | with_reducible refine fallBack_kept (hM.of rfl) ?_)

theorem bootSlot_kept (hM : Sub 285212680 m) {s : Block} (h : Kept m s0 s) :
    Kept m s0 (bootSlot s).2 := by
  unfold bootSlot
  repeat' (first
    | with_reducible assumption
    | (extract_lets +onlyGivenNames r; clear_value r)
    | with_reducible refine Kept.ite2 ?_ ?_
    | with_reducible refine fallBack_kept (hM.of rfl) ?_)

theorem imageChoice_kept (hM : Sub 461373464 m) {a0 : Bool} {s : Block} (h : Kept m s0 s) :
    Kept m s0 (imageChoice a0 s) := by
  unfold imageChoice
  repeat' (first
    | with_reducible assumption
    | intro _
    | (extract_lets +onlyGivenNames r; have hr : Kept m s0 r := ?_; clear_value r; rotate_left; subst r; rotate_right)
    | (extract_lets +onlyGivenNames r; have hr : Kept m s0 r.2 := ?_; clear_value r; rotate_left; subst r; rotate_right)
    | (extract_lets +onlyGivenNames r; have hr : StartSt := r; subst r)
    | (extract_lets +onlyGivenNames r; clear_value r)
    | with_reducible refine Kept.foldl ?_ ?_
    | with_reducible refine bootSlot_kept (hM.of rfl) ?_
    | with_reducible refine bootRecord_kept (hM.of rfl) ?_
    | with_reducible refine showSlot_kept (hM.of rfl) ?_
    | with_reducible refine showRec_kept (hM.of rfl) ?_
    | with_reducible refine Block_answer_kept (hM.of rfl) ?_
    | with_reducible refine setFwState_kept (hM.of rfl) ?_
    | with_reducible refine Block_put_kept (hM.of rfl) ?_
    | split
    | with_reducible refine Kept.upd ?_ (h_start := .inr (hM.of rfl)) (h_gr := .inr (hM.of rfl)) (h_fwu := .inr (hM.of rfl)))

theorem bootImageChoiceStep_kept (hM : Sub 461373464 m) {s : Block} (h : Kept m s0 s) :
    Kept m s0 (bootImageChoiceStep s) := by
  unfold bootImageChoiceStep
  repeat' (first
    | with_reducible assumption
    | with_reducible refine Kept.ite ?_ ?_
    | with_reducible refine imageChoice_kept (hM.of rfl) ?_)

theorem fwRebuild_kept (hM : Sub 494927880 m) {s : Block} (h : Kept m s0 s) :
    Kept m s0 (fwRebuild s) := by
  unfold fwRebuild
  repeat' (first
    | with_reducible assumption
    | (extract_lets +onlyGivenNames r; have hr : Kept m s0 r := ?_; clear_value r; rotate_left; subst r; rotate_right)
    | (extract_lets +onlyGivenNames r; have hr := fun x => r x; subst r)
    | (extract_lets +onlyGivenNames r; clear_value r)
    | with_reducible refine Kept.ite ?_ ?_
    | with_reducible refine setFwState_kept (hM.of rfl) ?_
    | with_reducible refine Block_raise_kept (hM.of rfl) ?_
    | with_reducible refine fwResult_kept (hM.of rfl) ?_
    | with_reducible refine modNv_kept (hM.of rfl) (fun _ h => h) ?_
    | with_reducible refine fuseQueue_kept (hM.of rfl) ?_
    | with_reducible refine writeBank_kept (hM.of rfl) ?_
    | split)

theorem Block_updateCommand_kept (hM : Sub 8388608 m) {a1 : Hdr} {a2 : Nat} {a3 : List Port} {a4 : Cmd → Block → Block} {s : Block} (h4 : ∀ x0 s, Kept m s0 s → Kept m s0 (a4 x0 s)) (h : Kept m s0 s) :
    Kept m s0 (Block.updateCommand s a1 a2 a3 a4) := by
  unfold Block.updateCommand
  repeat' (first
    | with_reducible assumption
    | intro _
    | with_reducible refine Kept.ite ?_ ?_
    | with_reducible refine h4 _ _ ?_
    | with_reducible refine Block_command_kept (hM.of rfl) ?_ ?_
    | with_reducible refine Block_respond_kept (hM.of rfl) ?_)

theorem fwStatusCmd_kept (hM : Sub 8388608 m) {a0 : Cmd} {s : Block} (h : Kept m s0 s) :
    Kept m s0 (fwStatusCmd a0 s) := by
  unfold fwStatusCmd
  repeat' (first
    | with_reducible assumption
    | with_reducible refine Block_respond_kept (hM.of rfl) ?_)

theorem receivingBegins_kept (hM : Sub 402653192 m) {a0 : Nat} {s : Block} (h : Kept m s0 s) :
    Kept m s0 (receivingBegins a0 s) := by
  unfold receivingBegins
  repeat' (first
    | with_reducible assumption
    | (extract_lets +onlyGivenNames r; have hr : Kept m s0 r := ?_; clear_value r; rotate_left; subst r; rotate_right)
    | with_reducible refine setFwState_kept (hM.of rfl) ?_
    | with_reducible refine Block_put_kept (hM.of rfl) ?_
    | with_reducible refine Block_setReg_kept (hM.of rfl) ?_
    | with_reducible refine modFwu_kept (hM.of rfl) ?_
    | with_reducible refine flashErase_kept (hM.of rfl) ?_
    | with_reducible refine modNv_kept (hM.of rfl) (fun _ h => h) ?_)

theorem fwBeginCmd_kept (hM : Sub 411041800 m) {a0 : Nat} {a1 : Cmd} {s : Block} (h : Kept m s0 s) :
    Kept m s0 (fwBeginCmd a0 a1 s) := by
  unfold fwBeginCmd
  repeat' (first
    | with_reducible assumption
    | with_reducible refine Kept.ite ?_ ?_
    | with_reducible refine Block_respond_kept (hM.of rfl) ?_
    | with_reducible refine Block_hold_kept (hM.of rfl) ?_
    | with_reducible refine receivingBegins_kept (hM.of rfl) ?_
    | split)

theorem slotErased_kept (hM : Sub 134217728 m) {s : Block} (h : Kept m s0 s) :
    Kept m s0 (slotErased s) := by
  unfold slotErased
  repeat' (first
    | with_reducible assumption
    | with_reducible refine modFwu_kept (hM.of rfl) ?_)

theorem fwEraseDoneStep_kept (hM : Sub 427819016 m) {a0 : Bool} {s : Block} (h : Kept m s0 s) :
    Kept m s0 (fwEraseDoneStep a0 s) := by
  unfold fwEraseDoneStep
  repeat' (first
    | with_reducible assumption
    | with_reducible refine Kept.ite ?_ ?_
    | with_reducible refine Block_close_kept (hM.of rfl) ?_
    | with_reducible refine slotErased_kept (hM.of rfl) ?_
    | with_reducible refine endReceiving_kept (hM.of rfl) ?_)

theorem fwIdle_kept (hM : Sub 402653192 m) {s : Block} (h : Kept m s0 s) :
    Kept m s0 (fwIdle s) := by
  unfold fwIdle
  repeat' (first
    | with_reducible assumption
    | with_reducible refine modFwu_kept (hM.of rfl) ?_
    | with_reducible refine modNv_kept (hM.of rfl) (fun _ h => h) ?_
    | with_reducible refine setFwState_kept (hM.of rfl) ?_)

theorem fwEndCmd_kept (hM : Sub 411041800 m) {a0 : BitVec 256} {a1 : Cmd} {s : Block} (h : Kept m s0 s) :
    Kept m s0 (fwEndCmd a0 a1 s) := by
  unfold fwEndCmd
  repeat' (first
    | with_reducible assumption
    | with_reducible refine Kept.ite ?_ ?_
    | with_reducible refine Block_respond_kept (hM.of rfl) ?_
    | with_reducible refine fwIdle_kept (hM.of rfl) ?_
    | with_reducible refine modNv_kept (hM.of rfl) (fun _ h => h) ?_
    | with_reducible refine setFwState_kept (hM.of rfl) ?_)

theorem fwVerifyCmd_kept (hM : Sub 142606336 m) {a0 : Cmd} {s : Block} (h : Kept m s0 s) :
    Kept m s0 (fwVerifyCmd a0 s) := by
  unfold fwVerifyCmd
  repeat' (first
    | with_reducible assumption
    | with_reducible refine Kept.ite ?_ ?_
    | with_reducible refine Block_respond_kept (hM.of rfl) ?_
    | with_reducible refine Block_hold_kept (hM.of rfl) ?_
    | with_reducible refine modFwu_kept (hM.of rfl) ?_)

theorem readBack_kept (hM : Sub 411041800 m) {a0 : Nat} {s : Block} (h : Kept m s0 s) :
    Kept m s0 (readBack a0 s) := by
  unfold readBack
  repeat' (first
    | with_reducible assumption
    | (extract_lets +onlyGivenNames r; have hr : Kept m s0 r := ?_; clear_value r; rotate_left; subst r; rotate_right)
    | with_reducible refine Kept.ite ?_ ?_
    | with_reducible refine showSlot_kept (hM.of rfl) ?_
    | with_reducible refine modFwu_kept (hM.of rfl) ?_
    | with_reducible refine Block_close_kept (hM.of rfl) ?_
    | with_reducible refine setFwState_kept (hM.of rfl) ?_
    | with_reducible refine fwIdle_kept (hM.of rfl) ?_)

theorem fwReadbackDoneStep_kept (hM : Sub 411041800 m) {a0 : Bool} {s : Block} (h : Kept m s0 s) :
    Kept m s0 (fwReadbackDoneStep a0 s) := by
  unfold fwReadbackDoneStep
  repeat' (first
    | with_reducible assumption
    | with_reducible refine Kept.ite ?_ ?_
    | with_reducible refine readBack_kept (hM.of rfl) ?_)

theorem fwActivateNow_kept (hM : Sub 402653184 m) {s : Block} (h : Kept m s0 s) :
    Kept m s0 (fwActivateNow s) := by
  unfold fwActivateNow
  repeat' (first
    | with_reducible assumption
    | (extract_lets +onlyGivenNames r; clear_value r)
    | with_reducible refine startRec_kept (hM.of rfl) ?_)

theorem fwActivateCmd_kept (hM : Sub 411041800 m) {a0 : Nat} {a1 : Cmd} {s : Block} (h : Kept m s0 s) :
    Kept m s0 (fwActivateCmd a0 a1 s) := by
  unfold fwActivateCmd
  repeat' (first
    | with_reducible assumption
    | with_reducible refine Kept.ite ?_ ?_
    | with_reducible refine Block_respond_kept (hM.of rfl) ?_
    | with_reducible refine Block_hold_kept (hM.of rfl) ?_
    | with_reducible refine fwActivateNow_kept (hM.of rfl) ?_
    | with_reducible refine setFwState_kept (hM.of rfl) ?_
    | split)

theorem fwArmedActivationStep_kept (hM : Sub 402653192 m) {s : Block} (h : Kept m s0 s) :
    Kept m s0 (fwArmedActivationStep s) := by
  unfold fwArmedActivationStep
  repeat' (first
    | with_reducible assumption
    | with_reducible refine Kept.ite ?_ ?_
    | with_reducible refine fwActivateNow_kept (hM.of rfl) ?_
    | with_reducible refine setFwState_kept (hM.of rfl) ?_)

theorem updateAborted_kept (hM : Sub 411041800 m) {s : Block} (h : Kept m s0 s) :
    Kept m s0 (updateAborted s) := by
  unfold updateAborted
  repeat' (first
    | with_reducible assumption
    | (extract_lets +onlyGivenNames r; have hr : Kept m s0 r := ?_; clear_value r; rotate_left; subst r; rotate_right)
    | with_reducible refine Block_close_kept (hM.of rfl) ?_
    | with_reducible refine fwResult_kept (hM.of rfl) ?_
    | with_reducible refine fwIdle_kept (hM.of rfl) ?_
    | with_reducible refine modFwu_kept (hM.of rfl) ?_)

theorem fwAbortCmd_kept (hM : Sub 411041800 m) {a0 : Cmd} {s : Block} (h : Kept m s0 s) :
    Kept m s0 (fwAbortCmd a0 s) := by
  unfold fwAbortCmd
  repeat' (first
    | with_reducible assumption
    | with_reducible refine Kept.ite ?_ ?_
    | with_reducible refine Block_respond_kept (hM.of rfl) ?_
    | with_reducible refine Block_close_kept (hM.of rfl) ?_
    | with_reducible refine setFwState_kept (hM.of rfl) ?_
    | with_reducible refine updateAborted_kept (hM.of rfl) ?_)

theorem restartFor_kept (hM : Sub 33554432 m) {a0 : Nat} {s : Block} (h : Kept m s0 s) :
    Kept m s0 (restartFor a0 s) := by
  unfold restartFor
  repeat' (first
    | with_reducible assumption
    | (extract_lets +onlyGivenNames r; clear_value r)
    | with_reducible refine Kept.ite ?_ ?_
    | with_reducible refine Kept.upd ?_ (h_gr := .inr (hM.of rfl)))

theorem trialPassed_kept (hM : Sub 402653184 m) {s : Block} (h : Kept m s0 s) :
    Kept m s0 (trialPassed s) := by
  unfold trialPassed
  repeat' (first
    | with_reducible assumption
    | (extract_lets +onlyGivenNames r; clear_value r)
    | with_reducible refine startRec_kept (hM.of rfl) ?_)

theorem fwTrialCheckStep_kept (hM : Sub 452984836 m) {a0 : Bool} {s : Block} (h : Kept m s0 s) :
    Kept m s0 (fwTrialCheckStep a0 s) := by
  unfold fwTrialCheckStep
  repeat' (first
    | with_reducible assumption
    | with_reducible refine Kept.ite ?_ ?_
    | with_reducible refine restartFor_kept (hM.of rfl) ?_
    | with_reducible refine Block_raise_kept (hM.of rfl) ?_
    | with_reducible refine trialPassed_kept (hM.of rfl) ?_
    | with_reducible refine reachTime_kept (hM.of rfl) ?_)

theorem fwConfirm_kept (hM : Sub 226492424 m) {s : Block} (h : Kept m s0 s) :
    Kept m s0 (fwConfirm s) := by
  unfold fwConfirm
  repeat' (first
    | with_reducible assumption
    | (extract_lets +onlyGivenNames r; have hr : Kept m s0 r := ?_; clear_value r; rotate_left; subst r; rotate_right)
    | (extract_lets +onlyGivenNames r; clear_value r)
    | with_reducible refine Kept.ite ?_ ?_
    | with_reducible refine Block_raise_kept (hM.of rfl) ?_
    | with_reducible refine fwResult_kept (hM.of rfl) ?_
    | with_reducible refine setFwState_kept (hM.of rfl) ?_
    | with_reducible refine fuseQueue_kept (hM.of rfl) ?_
    | with_reducible refine Block_putB_kept (hM.of rfl) ?_
    | with_reducible refine writeBank_kept (hM.of rfl) ?_)

theorem defaultsAccepted_kept (hM : Sub 142606336 m) {a0 : Cmd} {s : Block} (h : Kept m s0 s) :
    Kept m s0 (defaultsAccepted a0 s) := by
  unfold defaultsAccepted
  repeat' (first
    | with_reducible assumption
    | with_reducible refine Block_respond_kept (hM.of rfl) ?_
    | with_reducible refine modFwu_kept (hM.of rfl) ?_)

theorem fwAcceptDefaultsCmd_kept (hM : Sub 226492426 m) {a0 a1 : Nat} {a2 : Cmd} {s : Block} (h : Kept m s0 s) :
    Kept m s0 (fwAcceptDefaultsCmd a0 a1 a2 s) := by
  unfold fwAcceptDefaultsCmd
  repeat' (first
    | with_reducible assumption
    | intro _
    | with_reducible refine Kept.ite ?_ ?_
    | with_reducible refine Block_respond_kept (hM.of rfl) ?_
    | with_reducible refine defaultsAccepted_kept (hM.of rfl) ?_
    | with_reducible refine Block_authorised_kept (hM.of rfl) ?_ ?_)

theorem fwRevertCmd_kept (hM : Sub 411041792 m) {a0 : Cmd} {s : Block} (h : Kept m s0 s) :
    Kept m s0 (fwRevertCmd a0 s) := by
  unfold fwRevertCmd
  repeat' (first
    | with_reducible assumption
    | (extract_lets +onlyGivenNames r; clear_value r)
    | with_reducible refine Kept.ite ?_ ?_
    | with_reducible refine Block_respond_kept (hM.of rfl) ?_
    | with_reducible refine Block_hold_kept (hM.of rfl) ?_
    | with_reducible refine startRec_kept (hM.of rfl) ?_
    | split)

theorem crashClearStep_kept (hM : Sub 402653188 m) {s : Block} (h : Kept m s0 s) :
    Kept m s0 (crashClearStep s) := by
  unfold crashClearStep
  repeat' (first
    | with_reducible assumption
    | (extract_lets +onlyGivenNames r; clear_value r)
    | with_reducible refine Kept.ite ?_ ?_
    | with_reducible refine startRec_kept (hM.of rfl) ?_
    | with_reducible refine reachTime_kept (hM.of rfl) ?_)

theorem recordWritten_kept (hM : Sub 528482312 m) {a0 : ActRec} {a1 : Nat} {s : Block} (h : Kept m s0 s) :
    Kept m s0 (recordWritten a0 a1 s) := by
  unfold recordWritten
  repeat' (first
    | with_reducible assumption
    | (extract_lets +onlyGivenNames r; have hr : Kept m s0 r := ?_; clear_value r; rotate_left; subst r; rotate_right)
    | with_reducible refine Kept.ite ?_ ?_
    | with_reducible refine showRec_kept (hM.of rfl) ?_
    | with_reducible refine putRec_kept (hM.of rfl) ?_
    | with_reducible refine modNv_kept (hM.of rfl) (fun _ h => h) ?_
    | with_reducible refine Block_close_kept (hM.of rfl) ?_
    | with_reducible refine setFwState_kept (hM.of rfl) ?_
    | with_reducible refine Block_raise_kept (hM.of rfl) ?_
    | with_reducible refine Block_putB_kept (hM.of rfl) ?_
    | with_reducible refine restartFor_kept (hM.of rfl) ?_
    | with_reducible refine fwResult_kept (hM.of rfl) ?_
    | with_reducible refine fwConfirm_kept (hM.of rfl) ?_)

theorem takeRun_kept (hM : Sub 134217736 m) {a0 a1 : Nat} {s : Block} (h : Kept m s0 s) :
    Kept m s0 (takeRun a0 a1 s) := by
  unfold takeRun
  repeat' (first
    | with_reducible assumption
    | with_reducible refine modFwu_kept (hM.of rfl) ?_
    | with_reducible refine Block_putB_kept (hM.of rfl) ?_)

theorem runLockCmd_kept (hM : Sub 142606344 m) {a0 : Nat} {a1 : Cmd} {s : Block} (h : Kept m s0 s) :
    Kept m s0 (runLockCmd a0 a1 s) := by
  unfold runLockCmd
  repeat' (first
    | with_reducible assumption
    | with_reducible refine Kept.ite ?_ ?_
    | with_reducible refine Block_respond_kept (hM.of rfl) ?_
    | with_reducible refine takeRun_kept (hM.of rfl) ?_)

theorem runUnlockCmd_kept (hM : Sub 142606344 m) {a0 : Nat} {a1 : Cmd} {s : Block} (h : Kept m s0 s) :
    Kept m s0 (runUnlockCmd a0 a1 s) := by
  unfold runUnlockCmd
  repeat' (first
    | with_reducible assumption
    | intro _
    | with_reducible refine Kept.ite ?_ ?_
    | with_reducible refine Block_respond_kept (hM.of rfl) ?_
    | with_reducible refine forEach_kept (hM.of rfl) ?_ ?_
    | with_reducible refine releaseRun_kept (hM.of rfl) ?_)

theorem runLockExpiryStep_kept (hM : Sub 150994956 m) {a0 : Nat} {s : Block} (h : Kept m s0 s) :
    Kept m s0 (runLockExpiryStep a0 s) := by
  unfold runLockExpiryStep
  repeat' (first
    | with_reducible assumption
    | (extract_lets +onlyGivenNames r; have hr : Kept m s0 r := ?_; clear_value r; rotate_left; subst r; rotate_right)
    | with_reducible refine Kept.ite ?_ ?_
    | with_reducible refine reachTime_kept (hM.of rfl) ?_
    | with_reducible refine Block_raise_kept (hM.of rfl) ?_
    | with_reducible refine releaseRun_kept (hM.of rfl) ?_)

theorem svcAck_kept (hM : Sub 1 m) {a0 : List Nat} {a1 : Nat} {s : Block} (h : Kept m s0 s) :
    Kept m s0 (svcAck a0 a1 s) := by
  unfold svcAck
  repeat' (first
    | with_reducible assumption
    | with_reducible refine Block_emit_kept (hM.of rfl) ?_)

theorem svcFrame_kept (hM : Sub 16777225 m) {a0 : Nat} {a1 : List (BitVec 8)} {a2 : List Nat → Block → Block} {s : Block} (h2 : ∀ x0 s, Kept m s0 s → Kept m s0 (a2 x0 s)) (h : Kept m s0 s) :
    Kept m s0 (svcFrame a0 a1 a2 s) := by
  unfold svcFrame
  repeat' (first
    | with_reducible assumption
    | (extract_lets +onlyGivenNames r; clear_value r)
    | with_reducible refine Kept.ite ?_ ?_
    | with_reducible refine h2 _ _ ?_
    | with_reducible refine svcAck_kept (hM.of rfl) ?_
    | with_reducible refine Block_bump_kept (hM.of rfl) ?_)

theorem imageTaken_kept (hM : Sub 134217736 m) {a0 : List Nat} {a1 : Nat × Nat} {s : Block} (h : Kept m s0 s) :
    Kept m s0 (imageTaken a0 a1 s) := by
  unfold imageTaken
  repeat' (first
    | with_reducible assumption
    | with_reducible refine modFwu_kept (hM.of rfl) ?_
    | with_reducible refine Block_put_kept (hM.of rfl) ?_)

theorem svcImageAct_kept (hM : Sub 134217737 m) {a0 : List Nat} {s : Block} (h : Kept m s0 s) :
    Kept m s0 (svcImageAct a0 s) := by
  unfold svcImageAct
  repeat' (first
    | with_reducible assumption
    | (extract_lets +onlyGivenNames r; clear_value r)
    | with_reducible refine Kept.ite ?_ ?_
    | with_reducible refine svcAck_kept (hM.of rfl) ?_
    | with_reducible refine imageTaken_kept (hM.of rfl) ?_)

theorem execBootImageChoice_ran (hM : Sub 461373464 m) (s : State) : Ran m s (execBootImageChoice s) := by
  unfold execBootImageChoice
  refine live_ran (fun s0 s h => ?_) s
  repeat' (first
    | with_reducible assumption
    | with_reducible refine bootImageChoiceStep_kept (hM.of rfl) ?_)

theorem execFwStatus_ran (hM : Sub 8388608 m) (a0 : Hdr) (s : State) : Ran m s (execFwStatus a0 s) := by
  unfold execFwStatus
  refine live_ran (fun s0 s h => ?_) s
  repeat' (first
    | with_reducible assumption
    | intro _
    | with_reducible refine Block_command_kept (hM.of rfl) ?_ ?_
    | with_reducible refine fwStatusCmd_kept (hM.of rfl) ?_)

theorem execFwBegin_ran (hM : Sub 411041800 m) (a0 : Hdr) (a1 : Nat) (s : State) : Ran m s (execFwBegin a0 a1 s) := by
  unfold execFwBegin
  refine live_ran (fun s0 s h => ?_) s
  repeat' (first
    | with_reducible assumption
    | intro _
    | with_reducible refine Block_updateCommand_kept (hM.of rfl) ?_ ?_
    | with_reducible refine fwBeginCmd_kept (hM.of rfl) ?_)

theorem execFwEraseDone_ran (hM : Sub 427819016 m) (a0 : Bool) (s : State) : Ran m s (execFwEraseDone a0 s) := by
  unfold execFwEraseDone
  refine live_ran (fun s0 s h => ?_) s
  repeat' (first
    | with_reducible assumption
    | with_reducible refine fwEraseDoneStep_kept (hM.of rfl) ?_)

theorem execFwEnd_ran (hM : Sub 411041800 m) (a0 : Hdr) (a1 : BitVec 256) (s : State) : Ran m s (execFwEnd a0 a1 s) := by
  unfold execFwEnd
  refine live_ran (fun s0 s h => ?_) s
  repeat' (first
    | with_reducible assumption
    | intro _
    | with_reducible refine Block_updateCommand_kept (hM.of rfl) ?_ ?_
    | with_reducible refine fwEndCmd_kept (hM.of rfl) ?_)

theorem execFwVerify_ran (hM : Sub 142606336 m) (a0 : Hdr) (s : State) : Ran m s (execFwVerify a0 s) := by
  unfold execFwVerify
  refine live_ran (fun s0 s h => ?_) s
  repeat' (first
    | with_reducible assumption
    | intro _
    | with_reducible refine Block_updateCommand_kept (hM.of rfl) ?_ ?_
    | with_reducible refine fwVerifyCmd_kept (hM.of rfl) ?_)

theorem execFwReadbackDone_ran (hM : Sub 411041800 m) (a0 : Bool) (s : State) : Ran m s (execFwReadbackDone a0 s) := by
  unfold execFwReadbackDone
  refine live_ran (fun s0 s h => ?_) s
  repeat' (first
    | with_reducible assumption
    | with_reducible refine fwReadbackDoneStep_kept (hM.of rfl) ?_)

theorem execFwActivate_ran (hM : Sub 411041800 m) (a0 : Hdr) (a1 : Nat) (s : State) : Ran m s (execFwActivate a0 a1 s) := by
  unfold execFwActivate
  refine live_ran (fun s0 s h => ?_) s
  repeat' (first
    | with_reducible assumption
    | intro _
    | with_reducible refine Block_updateCommand_kept (hM.of rfl) ?_ ?_
    | with_reducible refine fwActivateCmd_kept (hM.of rfl) ?_)

theorem execFwArmedActivation_ran (hM : Sub 402653192 m) (s : State) : Ran m s (execFwArmedActivation s) := by
  unfold execFwArmedActivation
  refine live_ran (fun s0 s h => ?_) s
  repeat' (first
    | with_reducible assumption
    | with_reducible refine fwArmedActivationStep_kept (hM.of rfl) ?_)

theorem execFwAbort_ran (hM : Sub 411041800 m) (a0 : Hdr) (s : State) : Ran m s (execFwAbort a0 s) := by
  unfold execFwAbort
  refine live_ran (fun s0 s h => ?_) s
  repeat' (first
    | with_reducible assumption
    | intro _
    | with_reducible refine Block_updateCommand_kept (hM.of rfl) ?_ ?_
    | with_reducible refine fwAbortCmd_kept (hM.of rfl) ?_)

theorem execFwTrialCheck_ran (hM : Sub 452984836 m) (a0 : Bool) (s : State) : Ran m s (execFwTrialCheck a0 s) := by
  unfold execFwTrialCheck
  refine live_ran (fun s0 s h => ?_) s
  repeat' (first
    | with_reducible assumption
    | with_reducible refine fwTrialCheckStep_kept (hM.of rfl) ?_)

theorem execFwAcceptDefaults_ran (hM : Sub 226492426 m) (a0 : Hdr) (a1 : Nat) (a2 : Nat) (s : State) : Ran m s (execFwAcceptDefaults a0 a1 a2 s) := by
  unfold execFwAcceptDefaults
  refine live_ran (fun s0 s h => ?_) s
  repeat' (first
    | with_reducible assumption
    | intro _
    | with_reducible refine Block_command_kept (hM.of rfl) ?_ ?_
    | with_reducible refine fwAcceptDefaultsCmd_kept (hM.of rfl) ?_)

theorem execFwRevert_ran (hM : Sub 411041792 m) (a0 : Hdr) (s : State) : Ran m s (execFwRevert a0 s) := by
  unfold execFwRevert
  refine live_ran (fun s0 s h => ?_) s
  repeat' (first
    | with_reducible assumption
    | intro _
    | with_reducible refine Block_command_kept (hM.of rfl) ?_ ?_
    | with_reducible refine fwRevertCmd_kept (hM.of rfl) ?_)

theorem execCrashClear_ran (hM : Sub 402653188 m) (s : State) : Ran m s (execCrashClear s) := by
  unfold execCrashClear
  refine live_ran (fun s0 s h => ?_) s
  repeat' (first
    | with_reducible assumption
    | with_reducible refine crashClearStep_kept (hM.of rfl) ?_)

theorem execRunLock_ran (hM : Sub 142606344 m) (a0 : Hdr) (a1 : Nat) (s : State) : Ran m s (execRunLock a0 a1 s) := by
  unfold execRunLock
  refine live_ran (fun s0 s h => ?_) s
  repeat' (first
    | with_reducible assumption
    | intro _
    | with_reducible refine Block_command_kept (hM.of rfl) ?_ ?_
    | with_reducible refine runLockCmd_kept (hM.of rfl) ?_)

theorem execRunUnlock_ran (hM : Sub 142606344 m) (a0 : Hdr) (a1 : Nat) (s : State) : Ran m s (execRunUnlock a0 a1 s) := by
  unfold execRunUnlock
  refine live_ran (fun s0 s h => ?_) s
  repeat' (first
    | with_reducible assumption
    | intro _
    | with_reducible refine Block_command_kept (hM.of rfl) ?_ ?_
    | with_reducible refine runUnlockCmd_kept (hM.of rfl) ?_)

theorem execRunLockExpiry_ran (hM : Sub 150994956 m) (a0 : Port) (s : State) : Ran m s (execRunLockExpiry a0 s) := by
  unfold execRunLockExpiry
  refine live_ran (fun s0 s h => ?_) s
  repeat' (first
    | with_reducible assumption
    | with_reducible refine Kept.ite ?_ ?_
    | with_reducible refine runLockExpiryStep_kept (hM.of rfl) ?_)

theorem execSvcPing_ran (hM : Sub 16777225 m) (a0 : List (BitVec 8)) (s : State) : Ran m s (execSvcPing a0 s) := by
  unfold execSvcPing
  refine live_ran (fun s0 s h => ?_) s
  repeat' (first
    | with_reducible assumption
    | intro _
    | with_reducible refine svcFrame_kept (hM.of rfl) ?_ ?_
    | with_reducible refine svcAck_kept (hM.of rfl) ?_)

theorem execSvcImage_ran (hM : Sub 150994953 m) (a0 : List (BitVec 8)) (s : State) : Ran m s (execSvcImage a0 s) := by
  unfold execSvcImage
  refine live_ran (fun s0 s h => ?_) s
  repeat' (first
    | with_reducible assumption
    | intro _
    | with_reducible refine svcFrame_kept (hM.of rfl) ?_ ?_
    | with_reducible refine svcImageAct_kept (hM.of rfl) ?_)

end Sys2Proof.Laws
end

