-- ==== Sys2Proof/Laws/KeptTest.lean ====
section
/-! SUPPORT. What each named operation keeps (Laws/Kept.lean): pins, settings, test-pattern processors, fail capture and I/O banks. -/

namespace Sys2Proof.Laws

set_option Elab.async false
set_option linter.unusedTactic false
set_option linter.unreachableTactic false

open Machine

variable {m : Nat} {s0 : Block}

/-! ### Pins -/

theorem keepLevel_kept (hM : Sub 8194 m) {a0 a1 : Nat} {s : Block} (h : Kept m s0 s) :
    Kept m s0 (keepLevel a0 a1 s) := by
  unfold keepLevel
  repeat' (first
    | with_reducible assumption
    | (extract_lets +onlyGivenNames r; have hr : Kept m s0 r := ?_; clear_value r; rotate_left; subst r; rotate_right)
    | (extract_lets +onlyGivenNames r; have hr : Kept m s0 r.2 := ?_; clear_value r; rotate_left; subst r; rotate_right)
    | (extract_lets +onlyGivenNames r; clear_value r)
    | with_reducible refine Kept.ite ?_ ?_
    | with_reducible refine Block_draw_kept (hM.of rfl) ?_
    | with_reducible refine Kept.upd ?_ (h_io := .inr (hM.of rfl)))

theorem pinToSafe_kept (hM : Sub 8202 m) {a0 a1 : Nat} {s : Block} (h : Kept m s0 s) :
    Kept m s0 (pinToSafe a0 a1 s) := by
  unfold pinToSafe
  repeat' (first
    | with_reducible assumption
    | with_reducible refine Kept.ite ?_ ?_
    | with_reducible refine keepLevel_kept (hM.of rfl) ?_
    | with_reducible refine Block_putB_kept (hM.of rfl) ?_)

theorem pinFromSafe_kept (hM : Sub 8 m) {a0 a1 : Nat} {s : Block} (h : Kept m s0 s) :
    Kept m s0 (pinFromSafe a0 a1 s) := by
  unfold pinFromSafe
  repeat' (first
    | with_reducible assumption
    | with_reducible refine Block_putB_kept (hM.of rfl) ?_)

theorem vccoRefresh_kept (hM : Sub 8 m) {a0 a1 : Nat} {s : Block} (h : Kept m s0 s) :
    Kept m s0 (vccoRefresh a0 a1 s) := by
  unfold vccoRefresh
  repeat' (first
    | with_reducible assumption
    | with_reducible refine Block_putB_kept (hM.of rfl) ?_)

theorem safeWritten_kept (hM : Sub 8192 m) {a0 a1 : Nat} {s : Block} (h : Kept m s0 s) :
    Kept m s0 (safeWritten a0 a1 s) := by
  unfold safeWritten
  repeat' (first
    | with_reducible assumption
    | (extract_lets +onlyGivenNames r; clear_value r)
    | with_reducible refine Kept.ite ?_ ?_
    | with_reducible refine Kept.upd ?_ (h_io := .inr (hM.of rfl)))

theorem setSafe_kept (hM : Sub 8200 m) {a0 a1 a2 : Nat} {s : Block} (h : Kept m s0 s) :
    Kept m s0 (setSafe a0 a1 a2 s) := by
  unfold setSafe
  repeat' (first
    | with_reducible assumption
    | with_reducible refine safeWritten_kept (hM.of rfl) ?_
    | with_reducible refine Block_put_kept (hM.of rfl) ?_)

theorem safeMarker_kept (hM : Sub 8194 m) {s : Block} (h : Kept m s0 s) :
    Kept m s0 (safeMarker s) := by
  unfold safeMarker
  repeat' (first
    | with_reducible assumption
    | intro _
    | (extract_lets +onlyGivenNames r; have hr : Kept m s0 r := ?_; clear_value r; rotate_left; subst r; rotate_right)
    | (extract_lets +onlyGivenNames r; clear_value r)
    | with_reducible refine forEach_kept (hM.of rfl) ?_ ?_
    | with_reducible refine when_kept (hM.of rfl) ?_ ?_
    | with_reducible refine keepLevel_kept (hM.of rfl) ?_
    | with_reducible refine Kept.upd ?_ (h_io := .inr (hM.of rfl)))

/-! ### Settings -/

theorem applyLevels_kept (hM : Sub 8 m) {s : Block} (h : Kept m s0 s) :
    Kept m s0 (applyLevels s) := by
  unfold applyLevels
  repeat' (first
    | with_reducible assumption
    | intro _
    | (extract_lets +onlyGivenNames r; clear_value r)
    | with_reducible refine forEach_kept (hM.of rfl) ?_ ?_
    | with_reducible refine Block_put_kept (hM.of rfl) ?_)

theorem applyMailboxes_kept (hM : Sub 8 m) {s : Block} (h : Kept m s0 s) :
    Kept m s0 (applyMailboxes s) := by
  unfold applyMailboxes
  repeat' (first
    | with_reducible assumption
    | intro _
    | (extract_lets +onlyGivenNames r; have hr : Kept m s0 r := ?_; clear_value r; rotate_left; subst r; rotate_right)
    | with_reducible refine forEach_kept (hM.of rfl) ?_ ?_
    | with_reducible refine Block_putB_kept (hM.of rfl) ?_
    | with_reducible refine Block_setReg_kept (hM.of rfl) ?_)

theorem applyRingComp_kept (hM : Sub 8 m) {s : Block} (h : Kept m s0 s) :
    Kept m s0 (applyRingComp s) := by
  unfold applyRingComp
  repeat' (first
    | with_reducible assumption
    | with_reducible refine Block_put_kept (hM.of rfl) ?_)

theorem applyCommit_kept (hM : Sub 8 m) {s : Block} (h : Kept m s0 s) :
    Kept m s0 (applyCommit s) := by
  unfold applyCommit
  repeat' (first
    | with_reducible assumption
    | with_reducible refine Block_put_kept (hM.of rfl) ?_
    | with_reducible refine Block_putB_kept (hM.of rfl) ?_
    | with_reducible refine applyRingComp_kept (hM.of rfl) ?_)

theorem applyViews_kept (hM : Sub 8 m) {s : Block} (h : Kept m s0 s) :
    Kept m s0 (applyViews s) := by
  unfold applyViews
  repeat' (first
    | with_reducible assumption
    | intro _
    | with_reducible refine forEach_kept (hM.of rfl) ?_ ?_
    | with_reducible refine Block_put_kept (hM.of rfl) ?_)

theorem applyBankOrPin_kept (hM : Sub 8200 m) {a0 a1 : Nat} {s : Block} (h : Kept m s0 s) :
    Kept m s0 (applyBankOrPin a0 a1 s) := by
  unfold applyBankOrPin
  repeat' (first
    | with_reducible assumption
    | (extract_lets +onlyGivenNames r; clear_value r)
    | with_reducible refine Kept.ite ?_ ?_
    | with_reducible refine vccoRefresh_kept (hM.of rfl) ?_
    | with_reducible refine Block_put_kept (hM.of rfl) ?_
    | with_reducible refine setSafe_kept (hM.of rfl) ?_)

theorem applyStage1_kept (hM : Sub 8200 m) {s : Block} (h : Kept m s0 s) :
    Kept m s0 (applyStage1 s) := by
  unfold applyStage1
  repeat' (first
    | with_reducible assumption
    | intro _
    | (extract_lets +onlyGivenNames r; have hr : Kept m s0 r := ?_; clear_value r; rotate_left; subst r; rotate_right)
    | with_reducible refine Kept.foldl ?_ ?_
    | with_reducible refine Block_putB_kept (hM.of rfl) ?_
    | with_reducible refine Block_put_kept (hM.of rfl) ?_
    | with_reducible refine applyViews_kept (hM.of rfl) ?_
    | with_reducible refine applyBankOrPin_kept (hM.of rfl) ?_
    | with_reducible refine applyMailboxes_kept (hM.of rfl) ?_
    | with_reducible refine applyLevels_kept (hM.of rfl) ?_)

theorem takeBank_kept (hM : Sub 117440520 m) {a0 : Bool} {a1 : Option SetBank} {s : Block} (h : Kept m s0 s) :
    Kept m s0 (takeBank a0 a1 s) := by
  unfold takeBank
  repeat' (first
    | with_reducible assumption
    | (extract_lets +onlyGivenNames r; have hr : Kept m s0 r := ?_; clear_value r; rotate_left; subst r; rotate_right)
    | (extract_lets +onlyGivenNames r; clear_value r)
    | with_reducible refine Kept.ite ?_ ?_
    | with_reducible refine modSec_kept (hM.of rfl) ?_
    | with_reducible refine Block_putB_kept (hM.of rfl) ?_
    | with_reducible refine Block_raise_kept (hM.of rfl) ?_
    | split
    | with_reducible refine Kept.upd ?_ (h_gr := .inr (hM.of rfl)))

theorem loadSettings_kept (hM : Sub 117440520 m) {a0 : Bool} {s : Block} (h : Kept m s0 s) :
    Kept m s0 (loadSettings a0 s) := by
  unfold loadSettings
  repeat' (first
    | with_reducible assumption
    | (extract_lets +onlyGivenNames r; have hr : Kept m s0 r := ?_; clear_value r; rotate_left; subst r; rotate_right)
    | (extract_lets +onlyGivenNames r; clear_value r)
    | with_reducible refine Kept.ite ?_ ?_
    | with_reducible refine takeBank_kept (hM.of rfl) ?_
    | split
    | with_reducible refine Kept.upd ?_ (h_gr := .inr (hM.of rfl)))

theorem settingsReadCmd_kept (hM : Sub 8388608 m) {a0 : Nat} {a1 : Cmd} {s : Block} (h : Kept m s0 s) :
    Kept m s0 (settingsReadCmd a0 a1 s) := by
  unfold settingsReadCmd
  repeat' (first
    | with_reducible assumption
    | with_reducible refine Kept.ite ?_ ?_
    | with_reducible refine Block_respond_kept (hM.of rfl) ?_)

theorem stageValue_kept (hM : Sub 33554432 m) {a0 a1 : Nat} {s : Block} (h : Kept m s0 s) :
    Kept m s0 (stageValue a0 a1 s) := by
  unfold stageValue
  repeat' (first
    | with_reducible assumption
    | (extract_lets +onlyGivenNames r; clear_value r)
    | with_reducible refine Kept.upd ?_ (h_gr := .inr (hM.of rfl)))

theorem settingsWriteCmd_kept (hM : Sub 41943040 m) {a0 a1 : Nat} {a2 : Cmd} {s : Block} (h : Kept m s0 s) :
    Kept m s0 (settingsWriteCmd a0 a1 a2 s) := by
  unfold settingsWriteCmd
  repeat' (first
    | with_reducible assumption
    | with_reducible refine Kept.ite ?_ ?_
    | with_reducible refine Block_respond_kept (hM.of rfl) ?_
    | with_reducible refine stageValue_kept (hM.of rfl) ?_)

theorem commitStart_kept (hM : Sub 142606336 m) {a0 : Cmd} {s : Block} (h : Kept m s0 s) :
    Kept m s0 (commitStart a0 s) := by
  unfold commitStart
  repeat' (first
    | with_reducible assumption
    | (extract_lets +onlyGivenNames r; clear_value r)
    | with_reducible refine Block_hold_kept (hM.of rfl) ?_
    | with_reducible refine writeBank_kept (hM.of rfl) ?_)

theorem settingsCommitCmd_kept (hM : Sub 226492426 m) {a0 a1 : Nat} {a2 : Cmd} {s : Block} (h : Kept m s0 s) :
    Kept m s0 (settingsCommitCmd a0 a1 a2 s) := by
  unfold settingsCommitCmd
  repeat' (first
    | with_reducible assumption
    | intro _
    | with_reducible refine Kept.ite ?_ ?_
    | with_reducible refine Block_respond_kept (hM.of rfl) ?_
    | with_reducible refine Block_authorised_kept (hM.of rfl) ?_ ?_
    | with_reducible refine commitStart_kept (hM.of rfl) ?_)

theorem putBank_kept (hM : Sub 268435456 m) {a0 : Option SetBank} {s : Block} (h : Kept m s0 s) :
    Kept m s0 (putBank a0 s) := by
  unfold putBank
  repeat' (first
    | with_reducible assumption
    | with_reducible refine modNv_kept (hM.of rfl) (fun _ h => h) ?_
    | split)

theorem cutBankWrite_kept (hM : Sub 268435456 m) {s : Block} (h : Kept m s0 s) :
    Kept m s0 (cutBankWrite s) := by
  unfold cutBankWrite
  repeat' (first
    | with_reducible assumption
    | with_reducible refine putBank_kept (hM.of rfl) ?_
    | split)

theorem bankWritten_kept (hM : Sub 528482312 m) {a0 : SetBank} {a1 : Nat} {s : Block} (h : Kept m s0 s) :
    Kept m s0 (bankWritten a0 a1 s) := by
  unfold bankWritten
  repeat' (first
    | with_reducible assumption
    | (extract_lets +onlyGivenNames r; have hr : Kept m s0 r := ?_; clear_value r; rotate_left; subst r; rotate_right)
    | (extract_lets +onlyGivenNames r; clear_value r)
    | with_reducible refine Kept.ite ?_ ?_
    | with_reducible refine putBank_kept (hM.of rfl) ?_
    | with_reducible refine Block_closeFirst_kept (hM.of rfl) ?_
    | with_reducible refine applyCommit_kept (hM.of rfl) ?_
    | with_reducible refine Block_putB_kept (hM.of rfl) ?_
    | with_reducible refine modSec_kept (hM.of rfl) ?_
    | with_reducible refine updateHoldCheck_kept (hM.of rfl) ?_
    | with_reducible refine Kept.upd ?_ (h_gr := .inr (hM.of rfl)))

theorem programImage_kept (hM : Sub 402653184 m) {a0 : Bool} {s : Block} (h : Kept m s0 s) :
    Kept m s0 (programImage a0 s) := by
  unfold programImage
  repeat' (first
    | with_reducible assumption
    | (extract_lets +onlyGivenNames r; clear_value r)
    | with_reducible refine modFwu_kept (hM.of rfl) ?_
    | with_reducible refine flashProgram_kept (hM.of rfl) ?_)

theorem flashProgramDoneStep_kept (hM : Sub 528482312 m) {a0 : Bool} {s : Block} (h : Kept m s0 s) :
    Kept m s0 (flashProgramDoneStep a0 s) := by
  unfold flashProgramDoneStep
  repeat' (first
    | with_reducible assumption
    | (extract_lets +onlyGivenNames r; have hr : Kept m s0 r := ?_; clear_value r; rotate_left; subst r; rotate_right)
    | with_reducible refine Kept.ite ?_ ?_
    | with_reducible refine modFwu_kept (hM.of rfl) ?_
    | with_reducible refine recordWritten_kept (hM.of rfl) ?_
    | with_reducible refine Block_close_kept (hM.of rfl) ?_
    | with_reducible refine bankWritten_kept (hM.of rfl) ?_
    | with_reducible refine Block_closeFirst_kept (hM.of rfl) ?_
    | with_reducible refine putBank_kept (hM.of rfl) ?_
    | with_reducible refine programImage_kept (hM.of rfl) ?_
    | split)

theorem execSettingsRead_ran (hM : Sub 8388608 m) (a0 : Hdr) (a1 : Nat) (s : State) : Ran m s (execSettingsRead a0 a1 s) := by
  unfold execSettingsRead
  refine live_ran (fun s0 s h => ?_) s
  repeat' (first
    | with_reducible assumption
    | intro _
    | with_reducible refine Block_command_kept (hM.of rfl) ?_ ?_
    | with_reducible refine settingsReadCmd_kept (hM.of rfl) ?_)

theorem execSettingsWrite_ran (hM : Sub 41943040 m) (a0 : Hdr) (a1 : Nat) (a2 : Nat) (s : State) : Ran m s (execSettingsWrite a0 a1 a2 s) := by
  unfold execSettingsWrite
  refine live_ran (fun s0 s h => ?_) s
  repeat' (first
    | with_reducible assumption
    | intro _
    | with_reducible refine Block_command_kept (hM.of rfl) ?_ ?_
    | with_reducible refine settingsWriteCmd_kept (hM.of rfl) ?_)

theorem execSettingsCommit_ran (hM : Sub 226492426 m) (a0 : Hdr) (a1 : Nat) (a2 : Nat) (s : State) : Ran m s (execSettingsCommit a0 a1 a2 s) := by
  unfold execSettingsCommit
  refine live_ran (fun s0 s h => ?_) s
  repeat' (first
    | with_reducible assumption
    | intro _
    | with_reducible refine Block_command_kept (hM.of rfl) ?_ ?_
    | with_reducible refine settingsCommitCmd_kept (hM.of rfl) ?_)

theorem execFlashProgramDone_ran (hM : Sub 528482312 m) (a0 : Bool) (s : State) : Ran m s (execFlashProgramDone a0 s) := by
  unfold execFlashProgramDone
  refine live_ran (fun s0 s h => ?_) s
  repeat' (first
    | with_reducible assumption
    | with_reducible refine flashProgramDoneStep_kept (hM.of rfl) ?_)

/-! ### Tpp -/

theorem setTpp_kept (hM : Sub 16384 m) {a0 : Nat} {a1 : Tpp} {s : Block} (h : Kept m s0 s) :
    Kept m s0 (setTpp a0 a1 s) := by
  unfold setTpp
  repeat' (first
    | with_reducible assumption
    | ((with_reducible refine Kept.on_tpps ?_ (hM.of rfl) ?_); rotate_left; exact fun w => spWf_spSet _ _ _ _ w))

theorem modTpp_kept (hM : Sub 16384 m) {a0 : Nat} {a1 : Tpp → Tpp} {s : Block} (h : Kept m s0 s) :
    Kept m s0 (modTpp a0 a1 s) := by
  unfold modTpp
  repeat' (first
    | with_reducible assumption
    | with_reducible refine setTpp_kept (hM.of rfl) ?_)

theorem runFinish_kept (hM : Sub 16392 m) {a0 a1 : Nat} {s : Block} (h : Kept m s0 s) :
    Kept m s0 (runFinish a0 a1 s) := by
  unfold runFinish
  repeat' (first
    | with_reducible assumption
    | (extract_lets +onlyGivenNames r; have hr : Kept m s0 r := ?_; clear_value r; rotate_left; subst r; rotate_right)
    | (extract_lets +onlyGivenNames r; clear_value r)
    | with_reducible refine Block_putB_kept (hM.of rfl) ?_
    | with_reducible refine Block_put_kept (hM.of rfl) ?_
    | with_reducible refine modTpp_kept (hM.of rfl) ?_
    | with_reducible refine Block_eicEdge_kept (hM.of rfl) ?_)

theorem pinLetGo_kept (hM : Sub 8202 m) {a0 a1 : Nat} {a2 : Tpp} {s : Block} (h : Kept m s0 s) :
    Kept m s0 (pinLetGo a0 a1 a2 s) := by
  unfold pinLetGo
  repeat' (first
    | with_reducible assumption
    | intro _
    | (extract_lets +onlyGivenNames r; have hr : Kept m s0 r := ?_; clear_value r; rotate_left; subst r; rotate_right)
    | (extract_lets +onlyGivenNames r; clear_value r)
    | with_reducible refine pinToSafe_kept (hM.of rfl) ?_
    | with_reducible refine when_kept (hM.of rfl) ?_ ?_
    | with_reducible refine Kept.upd ?_ (h_io := .inr (hM.of rfl)))

theorem pinsSafe_kept (hM : Sub 24586 m) {a0 : Nat} {s : Block} (h : Kept m s0 s) :
    Kept m s0 (pinsSafe a0 s) := by
  unfold pinsSafe
  repeat' (first
    | with_reducible assumption
    | intro _
    | (extract_lets +onlyGivenNames r; have hr : Kept m s0 r := ?_; clear_value r; rotate_left; subst r; rotate_right)
    | (extract_lets +onlyGivenNames r; clear_value r)
    | with_reducible refine modTpp_kept (hM.of rfl) ?_
    | with_reducible refine forEach_kept (hM.of rfl) ?_ ?_
    | with_reducible refine when_kept (hM.of rfl) ?_ ?_
    | with_reducible refine pinLetGo_kept (hM.of rfl) ?_)

theorem runEnd_kept (hM : Sub 8413194 m) {a0 a1 : Nat} {s : Block} (h : Kept m s0 s) :
    Kept m s0 (runEnd a0 a1 s) := by
  unfold runEnd
  repeat' (first
    | with_reducible assumption
    | (extract_lets +onlyGivenNames r; have hr : Kept m s0 r := ?_; clear_value r; rotate_left; subst r; rotate_right)
    | with_reducible refine Kept.ite ?_ ?_
    | with_reducible refine Block_put_kept (hM.of rfl) ?_
    | with_reducible refine runFinish_kept (hM.of rfl) ?_
    | with_reducible refine Block_close_kept (hM.of rfl) ?_
    | with_reducible refine pinsSafe_kept (hM.of rfl) ?_
    | with_reducible refine modTpp_kept (hM.of rfl) ?_)

theorem runStopAt_kept (hM : Sub 8413194 m) {a0 a1 a2 : Nat} {s : Block} (h : Kept m s0 s) :
    Kept m s0 (runStopAt a0 a1 a2 s) := by
  unfold runStopAt
  repeat' (first
    | with_reducible assumption
    | (extract_lets +onlyGivenNames r; clear_value r)
    | with_reducible refine Kept.ite ?_ ?_
    | with_reducible refine runEnd_kept (hM.of rfl) ?_
    | with_reducible refine setTpp_kept (hM.of rfl) ?_)

theorem runReady_kept (hM : Sub 8405000 m) {a0 : Nat} {s : Block} (h : Kept m s0 s) :
    Kept m s0 (runReady a0 s) := by
  unfold runReady
  repeat' (first
    | with_reducible assumption
    | (extract_lets +onlyGivenNames r; have hr : Kept m s0 r := ?_; clear_value r; rotate_left; subst r; rotate_right)
    | (extract_lets +onlyGivenNames r; clear_value r)
    | with_reducible refine Kept.ite ?_ ?_
    | with_reducible refine Block_putB_kept (hM.of rfl) ?_
    | with_reducible refine Block_close_kept (hM.of rfl) ?_
    | with_reducible refine setTpp_kept (hM.of rfl) ?_)

theorem clearCounters_kept (hM : Sub 8 m) {a0 : Nat} {s : Block} (h : Kept m s0 s) :
    Kept m s0 (clearCounters a0 s) := by
  unfold clearCounters
  repeat' (first
    | with_reducible assumption
    | with_reducible refine Block_resetRange_kept (hM.of rfl) ?_)

theorem clearResults_kept (hM : Sub 8 m) {a0 : Nat} {s : Block} (h : Kept m s0 s) :
    Kept m s0 (clearResults a0 s) := by
  unfold clearResults
  repeat' (first
    | with_reducible assumption
    | intro _
    | (extract_lets +onlyGivenNames r; have hr : Kept m s0 r := ?_; clear_value r; rotate_left; subst r; rotate_right)
    | (extract_lets +onlyGivenNames r; clear_value r)
    | with_reducible refine forEach_kept (hM.of rfl) ?_ ?_
    | with_reducible refine Block_setReg_kept (hM.of rfl) ?_
    | with_reducible refine Block_put_kept (hM.of rfl) ?_)

theorem tppLoadCmd_kept (hM : Sub 25182218 m) {a0 a1 a2 a3 : Nat} {a4 : Cmd} {s : Block} (h : Kept m s0 s) :
    Kept m s0 (tppLoadCmd a0 a1 a2 a3 a4 s) := by
  unfold tppLoadCmd
  repeat' (first
    | with_reducible assumption
    | intro _
    | (extract_lets +onlyGivenNames r; have hr : Kept m s0 r := ?_; clear_value r; rotate_left; subst r; rotate_right)
    | (extract_lets +onlyGivenNames r; have hr : Kept m s0 r.2 := ?_; clear_value r; rotate_left; subst r; rotate_right)
    | (extract_lets +onlyGivenNames r; clear_value r)
    | with_reducible refine Kept.ite ?_ ?_
    | with_reducible refine Kept.foldl ?_ ?_
    | with_reducible refine Block_respond_kept (hM.of rfl) ?_
    | with_reducible refine readMem_kept (hM.of rfl) ?_
    | with_reducible refine modTpp_kept (hM.of rfl) ?_
    | with_reducible refine Block_draw_kept (hM.of rfl) ?_
    | split)

theorem loseWords_kept (hM : Sub 16386 m) {a0 a1 : Nat} {s : Block} (h : Kept m s0 s) :
    Kept m s0 (loseWords a0 a1 s) := by
  unfold loseWords
  repeat' (first
    | with_reducible assumption
    | (extract_lets +onlyGivenNames r; clear_value r)
    | with_reducible refine modTpp_kept (hM.of rfl) ?_
    | with_reducible refine Kept.upd ?_ (h_free := .inr (hM.of rfl)))

theorem tppArm_kept (hM : Sub 16394 m) {a0 : Nat} {a1 : List Nat} {s : Block} (h : Kept m s0 s) :
    Kept m s0 (tppArm a0 a1 s) := by
  unfold tppArm
  repeat' (first
    | with_reducible assumption
    | intro _
    | (extract_lets +onlyGivenNames r; have hr : Kept m s0 r := ?_; clear_value r; rotate_left; subst r; rotate_right)
    | (extract_lets +onlyGivenNames r; clear_value r)
    | with_reducible refine clearResults_kept (hM.of rfl) ?_
    | with_reducible refine when_kept (hM.of rfl) ?_ ?_
    | with_reducible refine clearCounters_kept (hM.of rfl) ?_
    | with_reducible refine Block_put_kept (hM.of rfl) ?_
    | with_reducible refine loseWords_kept (hM.of rfl) ?_
    | with_reducible refine setTpp_kept (hM.of rfl) ?_)

theorem tppRunCmd_kept (hM : Sub 25182218 m) {a0 a1 : Nat} {a2 : Cmd} {s : Block} (h : Kept m s0 s) :
    Kept m s0 (tppRunCmd a0 a1 a2 s) := by
  unfold tppRunCmd
  repeat' (first
    | with_reducible assumption
    | (extract_lets +onlyGivenNames r; have hr : Kept m s0 r := ?_; clear_value r; rotate_left; subst r; rotate_right)
    | (extract_lets +onlyGivenNames r; have hr : Kept m s0 r.2 := ?_; clear_value r; rotate_left; subst r; rotate_right)
    | (extract_lets +onlyGivenNames r; clear_value r)
    | with_reducible refine Kept.ite ?_ ?_
    | with_reducible refine Block_respond_kept (hM.of rfl) ?_
    | with_reducible refine readMem_kept (hM.of rfl) ?_
    | with_reducible refine Block_hold_kept (hM.of rfl) ?_
    | with_reducible refine tppArm_kept (hM.of rfl) ?_
    | with_reducible refine runReady_kept (hM.of rfl) ?_
    | split)

theorem tppAbortCmd_kept (hM : Sub 8413194 m) {a0 : Nat} {a1 : Cmd} {s : Block} (h : Kept m s0 s) :
    Kept m s0 (tppAbortCmd a0 a1 s) := by
  unfold tppAbortCmd
  repeat' (first
    | with_reducible assumption
    | intro _
    | (extract_lets +onlyGivenNames r; have hr : Kept m s0 r := ?_; clear_value r; rotate_left; subst r; rotate_right)
    | (extract_lets +onlyGivenNames r; clear_value r)
    | with_reducible refine Kept.ite ?_ ?_
    | with_reducible refine Block_respond_kept (hM.of rfl) ?_
    | with_reducible refine forEach_kept (hM.of rfl) ?_ ?_
    | with_reducible refine runStopAt_kept (hM.of rfl) ?_)

theorem tppStatusCmd_kept (hM : Sub 8388608 m) {a0 : Nat} {a1 : Cmd} {s : Block} (h : Kept m s0 s) :
    Kept m s0 (tppStatusCmd a0 a1 s) := by
  unfold tppStatusCmd
  repeat' (first
    | with_reducible assumption
    | with_reducible refine Kept.ite ?_ ?_
    | with_reducible refine Block_respond_kept (hM.of rfl) ?_)

theorem tppCalBegin_kept (hM : Sub 8 m) {a0 : Nat} {s : Block} (h : Kept m s0 s) :
    Kept m s0 (tppCalBegin a0 s) := by
  unfold tppCalBegin
  repeat' (first
    | with_reducible assumption
    | with_reducible refine Block_putB_kept (hM.of rfl) ?_
    | with_reducible refine Block_put_kept (hM.of rfl) ?_)

theorem tppCalibrateCmd_kept (hM : Sub 8388616 m) {a0 : Nat} {a1 : Cmd} {s : Block} (h : Kept m s0 s) :
    Kept m s0 (tppCalibrateCmd a0 a1 s) := by
  unfold tppCalibrateCmd
  repeat' (first
    | with_reducible assumption
    | intro _
    | with_reducible refine Kept.ite ?_ ?_
    | with_reducible refine Block_respond_kept (hM.of rfl) ?_
    | with_reducible refine Block_hold_kept (hM.of rfl) ?_
    | with_reducible refine forEach_kept (hM.of rfl) ?_ ?_
    | with_reducible refine tppCalBegin_kept (hM.of rfl) ?_)

theorem tppSiteCmd_kept (hM : Sub 8404992 m) {a0 a1 : Nat} {a2 : Cmd} {s : Block} (h : Kept m s0 s) :
    Kept m s0 (tppSiteCmd a0 a1 a2 s) := by
  unfold tppSiteCmd
  repeat' (first
    | with_reducible assumption
    | with_reducible refine Kept.ite ?_ ?_
    | with_reducible refine Block_respond_kept (hM.of rfl) ?_
    | with_reducible refine modTpp_kept (hM.of rfl) ?_)

theorem stageDoneCheck_kept (hM : Sub 8 m) {s : Block} (h : Kept m s0 s) :
    Kept m s0 (stageDoneCheck s) := by
  unfold stageDoneCheck
  repeat' (first
    | with_reducible assumption
    | intro _
    | with_reducible refine when_kept (hM.of rfl) ?_ ?_
    | with_reducible refine Block_putB_kept (hM.of rfl) ?_)

theorem tppCalibrated_kept (hM : Sub 8405002 m) {a0 : Nat} {a1 : List (BitVec 12 × BitVec 12 × Bool)} {a2 : BitVec 8} {s : Block} (h : Kept m s0 s) :
    Kept m s0 (tppCalibrated a0 a1 a2 s) := by
  unfold tppCalibrated
  repeat' (first
    | with_reducible assumption
    | intro _
    | (extract_lets +onlyGivenNames r; have hr : Kept m s0 r := ?_; clear_value r; rotate_left; subst r; rotate_right)
    | (extract_lets +onlyGivenNames r; have hr : Kept m s0 r.2 := ?_; clear_value r; rotate_left; subst r; rotate_right)
    | (extract_lets +onlyGivenNames r; clear_value r)
    | with_reducible refine Kept.ite ?_ ?_
    | with_reducible refine Kept.foldl ?_ ?_
    | with_reducible refine forEach_kept (hM.of rfl) ?_ ?_
    | with_reducible refine Block_put_kept (hM.of rfl) ?_
    | with_reducible refine Block_putB_kept (hM.of rfl) ?_
    | with_reducible refine Block_draw_kept (hM.of rfl) ?_
    | with_reducible refine modTpp_kept (hM.of rfl) ?_
    | with_reducible refine stageDoneCheck_kept (hM.of rfl) ?_
    | with_reducible refine Block_answer_kept (hM.of rfl) ?_)

theorem tppCalDoneStep_kept (hM : Sub 8405002 m) {a0 : Nat} {a1 : List (BitVec 12 × BitVec 12 × Bool)} {a2 : BitVec 8} {s : Block} (h : Kept m s0 s) :
    Kept m s0 (tppCalDoneStep a0 a1 a2 s) := by
  unfold tppCalDoneStep
  repeat' (first
    | with_reducible assumption
    | with_reducible refine Kept.ite ?_ ?_
    | with_reducible refine tppCalibrated_kept (hM.of rfl) ?_)

theorem tppCalStale_kept (hM : Sub 16777224 m) {a0 : Nat} {s : Block} (h : Kept m s0 s) :
    Kept m s0 (tppCalStale a0 s) := by
  unfold tppCalStale
  repeat' (first
    | with_reducible assumption
    | with_reducible refine Kept.ite ?_ ?_
    | with_reducible refine Block_raise_kept (hM.of rfl) ?_
    | with_reducible refine Block_putB_kept (hM.of rfl) ?_)

theorem apgPublish_kept (hM : Sub 8 m) {a0 : Nat} {s : Block} (h : Kept m s0 s) :
    Kept m s0 (apgPublish a0 s) := by
  unfold apgPublish
  repeat' (first
    | with_reducible assumption
    | (extract_lets +onlyGivenNames r; clear_value r)
    | with_reducible refine Block_put_kept (hM.of rfl) ?_
    | with_reducible refine Block_putB_kept (hM.of rfl) ?_)

theorem tppBegin_kept (hM : Sub 16392 m) {a0 : Nat} {a1 : Int} {s : Block} (h : Kept m s0 s) :
    Kept m s0 (tppBegin a0 a1 s) := by
  unfold tppBegin
  repeat' (first
    | with_reducible assumption
    | (extract_lets +onlyGivenNames r; clear_value r)
    | with_reducible refine Block_put_kept (hM.of rfl) ?_
    | with_reducible refine apgPublish_kept (hM.of rfl) ?_
    | with_reducible refine setTpp_kept (hM.of rfl) ?_)

theorem tppStartInstantStep_kept (hM : Sub 8413198 m) {a0 : Nat} {s : Block} (h : Kept m s0 s) :
    Kept m s0 (tppStartInstantStep a0 s) := by
  unfold tppStartInstantStep
  repeat' (first
    | with_reducible assumption
    | (extract_lets +onlyGivenNames r; have hr : Kept m s0 r := ?_; clear_value r; rotate_left; subst r; rotate_right)
    | with_reducible refine Kept.ite ?_ ?_
    | with_reducible refine reachTime_kept (hM.of rfl) ?_
    | with_reducible refine tppBegin_kept (hM.of rfl) ?_
    | with_reducible refine runEnd_kept (hM.of rfl) ?_
    | split)

theorem startFEdgeStep_kept (hM : Sub 16384 m) {a0 : Nat} {s : Block} (h : Kept m s0 s) :
    Kept m s0 (startFEdgeStep a0 s) := by
  unfold startFEdgeStep
  repeat' (first
    | with_reducible assumption
    | (extract_lets +onlyGivenNames r; clear_value r)
    | with_reducible refine Kept.ite ?_ ?_
    | with_reducible refine setTpp_kept (hM.of rfl) ?_)

theorem abortFEdgeStep_kept (hM : Sub 8413194 m) {a0 : Nat} {s : Block} (h : Kept m s0 s) :
    Kept m s0 (abortFEdgeStep a0 s) := by
  unfold abortFEdgeStep
  repeat' (first
    | with_reducible assumption
    | with_reducible refine Kept.ite ?_ ?_
    | with_reducible refine runStopAt_kept (hM.of rfl) ?_)

theorem tppTrigger_kept (hM : Sub 16384 m) {a0 : Nat} {a1 : Bool} {a2 : Nat} {a3 : Int} {s : Block} (h : Kept m s0 s) :
    Kept m s0 (tppTrigger a0 a1 a2 a3 s) := by
  unfold tppTrigger
  repeat' (first
    | with_reducible assumption
    | (extract_lets +onlyGivenNames r; clear_value r)
    | with_reducible refine Kept.ite ?_ ?_
    | with_reducible refine setTpp_kept (hM.of rfl) ?_)

theorem trigFEdgeStep_kept (hM : Sub 16384 m) {a0 a1 : Nat} {s : Block} (h : Kept m s0 s) :
    Kept m s0 (trigFEdgeStep a0 a1 s) := by
  unfold trigFEdgeStep
  repeat' (first
    | with_reducible assumption
    | with_reducible refine Kept.ite ?_ ?_
    | with_reducible refine tppTrigger_kept (hM.of rfl) ?_)

theorem siteOffChangeStep_kept (hM : Sub 16384 m) {a0 : Nat} {a1 : BitVec 8} {s : Block} (h : Kept m s0 s) :
    Kept m s0 (siteOffChangeStep a0 a1 s) := by
  unfold siteOffChangeStep
  repeat' (first
    | with_reducible assumption
    | (extract_lets +onlyGivenNames r; clear_value r)
    | with_reducible refine Kept.ite ?_ ?_
    | with_reducible refine setTpp_kept (hM.of rfl) ?_)

theorem streamRefillReadStep_kept (hM : Sub 16385 m) {a0 : Nat} {s : Block} (h : Kept m s0 s) :
    Kept m s0 (streamRefillReadStep a0 s) := by
  unfold streamRefillReadStep
  repeat' (first
    | with_reducible assumption
    | (extract_lets +onlyGivenNames r; clear_value r)
    | with_reducible refine Kept.ite ?_ ?_
    | with_reducible refine Block_emit_kept (hM.of rfl) ?_
    | with_reducible refine setTpp_kept (hM.of rfl) ?_)

theorem streamReadResponseStep_kept (hM : Sub 16384 m) {a0 a1 : Nat} {a2 : Bool} {a3 : BitVec 512} {s : Block} (h : Kept m s0 s) :
    Kept m s0 (streamReadResponseStep a0 a1 a2 a3 s) := by
  unfold streamReadResponseStep
  repeat' (first
    | with_reducible assumption
    | (extract_lets +onlyGivenNames r; clear_value r)
    | with_reducible refine Kept.ite ?_ ?_
    | with_reducible refine setTpp_kept (hM.of rfl) ?_)

theorem tppStreamReadyStep_kept (hM : Sub 8405000 m) {a0 : Nat} {s : Block} (h : Kept m s0 s) :
    Kept m s0 (tppStreamReadyStep a0 s) := by
  unfold tppStreamReadyStep
  repeat' (first
    | with_reducible assumption
    | (extract_lets +onlyGivenNames r; clear_value r)
    | with_reducible refine Kept.ite ?_ ?_
    | with_reducible refine runReady_kept (hM.of rfl) ?_)

theorem tppReset_kept (hM : Sub 8405000 m) {a0 : Nat} {s : Block} (h : Kept m s0 s) :
    Kept m s0 (tppReset a0 s) := by
  unfold tppReset
  repeat' (first
    | with_reducible assumption
    | intro _
    | (extract_lets +onlyGivenNames r; have hr : Kept m s0 r := ?_; clear_value r; rotate_left; subst r; rotate_right)
    | (extract_lets +onlyGivenNames r; clear_value r)
    | with_reducible refine Kept.foldl ?_ ?_
    | with_reducible refine Block_close_kept (hM.of rfl) ?_
    | with_reducible refine Block_answer_kept (hM.of rfl) ?_
    | with_reducible refine Block_resetWindows_kept (hM.of rfl) ?_
    | with_reducible refine setTpp_kept (hM.of rfl) ?_)

theorem tppPlates_kept (hM : Sub 8 m) {a0 : Nat} {s : Block} (h : Kept m s0 s) :
    Kept m s0 (tppPlates a0 s) := by
  unfold tppPlates
  repeat' (first
    | with_reducible assumption
    | (extract_lets +onlyGivenNames r; clear_value r)
    | with_reducible refine Kept.ite ?_ ?_
    | with_reducible refine Block_put_kept (hM.of rfl) ?_
    | with_reducible refine tppCalBegin_kept (hM.of rfl) ?_)

theorem execTppLoad_ran (hM : Sub 25182218 m) (a0 : Hdr) (a1 : Nat) (a2 : Nat) (a3 : Nat) (a4 : Nat) (s : State) : Ran m s (execTppLoad a0 a1 a2 a3 a4 s) := by
  unfold execTppLoad
  refine live_ran (fun s0 s h => ?_) s
  repeat' (first
    | with_reducible assumption
    | intro _
    | with_reducible refine Block_command_kept (hM.of rfl) ?_ ?_
    | with_reducible refine onDie_kept (hM.of rfl) ?_ ?_
    | with_reducible refine tppLoadCmd_kept (hM.of rfl) ?_)

theorem execTppRun_ran (hM : Sub 25182218 m) (a0 : Hdr) (a1 : Nat) (a2 : Nat) (s : State) : Ran m s (execTppRun a0 a1 a2 s) := by
  unfold execTppRun
  refine live_ran (fun s0 s h => ?_) s
  repeat' (first
    | with_reducible assumption
    | intro _
    | with_reducible refine Block_command_kept (hM.of rfl) ?_ ?_
    | with_reducible refine onDie_kept (hM.of rfl) ?_ ?_
    | with_reducible refine tppRunCmd_kept (hM.of rfl) ?_)

theorem execTppAbort_ran (hM : Sub 8413194 m) (a0 : Hdr) (a1 : Nat) (s : State) : Ran m s (execTppAbort a0 a1 s) := by
  unfold execTppAbort
  refine live_ran (fun s0 s h => ?_) s
  repeat' (first
    | with_reducible assumption
    | intro _
    | with_reducible refine Block_command_kept (hM.of rfl) ?_ ?_
    | with_reducible refine tppAbortCmd_kept (hM.of rfl) ?_)

theorem execTppStatus_ran (hM : Sub 8388608 m) (a0 : Hdr) (a1 : Nat) (s : State) : Ran m s (execTppStatus a0 a1 s) := by
  unfold execTppStatus
  refine live_ran (fun s0 s h => ?_) s
  repeat' (first
    | with_reducible assumption
    | intro _
    | with_reducible refine Block_command_kept (hM.of rfl) ?_ ?_
    | with_reducible refine onDie_kept (hM.of rfl) ?_ ?_
    | with_reducible refine tppStatusCmd_kept (hM.of rfl) ?_)

theorem execTppCalibrate_ran (hM : Sub 8388616 m) (a0 : Hdr) (a1 : Nat) (s : State) : Ran m s (execTppCalibrate a0 a1 s) := by
  unfold execTppCalibrate
  refine live_ran (fun s0 s h => ?_) s
  repeat' (first
    | with_reducible assumption
    | intro _
    | with_reducible refine Block_command_kept (hM.of rfl) ?_ ?_
    | with_reducible refine tppCalibrateCmd_kept (hM.of rfl) ?_)

theorem execTppSite_ran (hM : Sub 8404992 m) (a0 : Hdr) (a1 : Nat) (a2 : Nat) (s : State) : Ran m s (execTppSite a0 a1 a2 s) := by
  unfold execTppSite
  refine live_ran (fun s0 s h => ?_) s
  repeat' (first
    | with_reducible assumption
    | intro _
    | with_reducible refine Block_command_kept (hM.of rfl) ?_ ?_
    | with_reducible refine onDie_kept (hM.of rfl) ?_ ?_
    | with_reducible refine tppSiteCmd_kept (hM.of rfl) ?_)

theorem execTppCalDone_ran (hM : Sub 8405002 m) (a0 : Fin 24) (a1 : List (BitVec 12 × BitVec 12 × Bool)) (a2 : BitVec 8) (s : State) : Ran m s (execTppCalDone a0 a1 a2 s) := by
  unfold execTppCalDone
  refine clockedOn_ran (fun s0 s h => ?_) s
  repeat' (first
    | with_reducible assumption
    | with_reducible refine tppCalDoneStep_kept (hM.of rfl) ?_)

theorem execTppStartInstant_ran (hM : Sub 8413198 m) (a0 : Fin 24) (s : State) : Ran m s (execTppStartInstant a0 s) := by
  unfold execTppStartInstant
  refine clockedOn_ran (fun s0 s h => ?_) s
  repeat' (first
    | with_reducible assumption
    | with_reducible refine tppStartInstantStep_kept (hM.of rfl) ?_)

theorem execStartFEdge_ran (hM : Sub 16384 m) (a0 : Fin 24) (s : State) : Ran m s (execStartFEdge a0 s) := by
  unfold execStartFEdge
  refine clockedOn_ran (fun s0 s h => ?_) s
  repeat' (first
    | with_reducible assumption
    | with_reducible refine startFEdgeStep_kept (hM.of rfl) ?_)

theorem execAbortFEdge_ran (hM : Sub 8413194 m) (a0 : Fin 24) (s : State) : Ran m s (execAbortFEdge a0 s) := by
  unfold execAbortFEdge
  refine clockedOn_ran (fun s0 s h => ?_) s
  repeat' (first
    | with_reducible assumption
    | with_reducible refine abortFEdgeStep_kept (hM.of rfl) ?_)

theorem execTrigFEdge_ran (hM : Sub 16384 m) (a0 : Fin 24) (a1 : Fin 16) (s : State) : Ran m s (execTrigFEdge a0 a1 s) := by
  unfold execTrigFEdge
  refine clockedOn_ran (fun s0 s h => ?_) s
  repeat' (first
    | with_reducible assumption
    | with_reducible refine trigFEdgeStep_kept (hM.of rfl) ?_)

theorem execSiteOffChange_ran (hM : Sub 16384 m) (a0 : Fin 24) (a1 : BitVec 8) (s : State) : Ran m s (execSiteOffChange a0 a1 s) := by
  unfold execSiteOffChange
  refine clockedOn_ran (fun s0 s h => ?_) s
  repeat' (first
    | with_reducible assumption
    | with_reducible refine siteOffChangeStep_kept (hM.of rfl) ?_)

theorem execStreamRefillRead_ran (hM : Sub 16385 m) (a0 : Fin 24) (s : State) : Ran m s (execStreamRefillRead a0 s) := by
  unfold execStreamRefillRead
  refine clockedOn_ran (fun s0 s h => ?_) s
  repeat' (first
    | with_reducible assumption
    | with_reducible refine streamRefillReadStep_kept (hM.of rfl) ?_)

theorem execStreamReadResponse_ran (hM : Sub 16384 m) (a0 : Fin 24) (a1 : Nat) (a2 : Bool) (a3 : BitVec 512) (s : State) : Ran m s (execStreamReadResponse a0 a1 a2 a3 s) := by
  unfold execStreamReadResponse
  refine clockedOn_ran (fun s0 s h => ?_) s
  repeat' (first
    | with_reducible assumption
    | with_reducible refine streamReadResponseStep_kept (hM.of rfl) ?_)

theorem execTppStreamReady_ran (hM : Sub 8405000 m) (a0 : Fin 24) (s : State) : Ran m s (execTppStreamReady a0 s) := by
  unfold execTppStreamReady
  refine clockedOn_ran (fun s0 s h => ?_) s
  repeat' (first
    | with_reducible assumption
    | with_reducible refine tppStreamReadyStep_kept (hM.of rfl) ?_)

/-! ### FailCapture -/

theorem modSite_kept (hM : Sub 16384 m) {a0 a1 : Nat} {a2 : SiteRun → SiteRun} {s : Block} (h : Kept m s0 s) :
    Kept m s0 (modSite a0 a1 a2 s) := by
  unfold modSite
  repeat' (first
    | with_reducible assumption
    | with_reducible refine modTpp_kept (hM.of rfl) ?_)

theorem loseRecord_kept (hM : Sub 16793608 m) {a0 a1 a2 a3 : Nat} {s : Block} (h : Kept m s0 s) :
    Kept m s0 (loseRecord a0 a1 a2 a3 s) := by
  unfold loseRecord
  repeat' (first
    | with_reducible assumption
    | (extract_lets +onlyGivenNames r; have hr : Kept m s0 r := ?_; clear_value r; rotate_left; subst r; rotate_right)
    | with_reducible refine Kept.ite ?_ ?_
    | with_reducible refine Block_bumpBy_kept (hM.of rfl) ?_
    | with_reducible refine modSite_kept (hM.of rfl) ?_
    | with_reducible refine Block_raise_kept (hM.of rfl) ?_
    | with_reducible refine modTpp_kept (hM.of rfl) ?_)

theorem produceRecord_kept (hM : Sub 16793608 m) {a0 a1 a2 : Nat} {a3 : Nat → BitVec 256} {s : Block} (h : Kept m s0 s) :
    Kept m s0 (produceRecord a0 a1 a2 a3 s) := by
  unfold produceRecord
  repeat' (first
    | with_reducible assumption
    | (extract_lets +onlyGivenNames r; have hr : Kept m s0 r := ?_; clear_value r; rotate_left; subst r; rotate_right)
    | (extract_lets +onlyGivenNames r; clear_value r)
    | with_reducible refine Kept.ite ?_ ?_
    | with_reducible refine Block_put_kept (hM.of rfl) ?_
    | with_reducible refine modTpp_kept (hM.of rfl) ?_
    | with_reducible refine loseRecord_kept (hM.of rfl) ?_)

theorem writeMarkers_kept (hM : Sub 16384 m) {a0 : Nat} {s : Block} (h : Kept m s0 s) :
    Kept m s0 (writeMarkers a0 s) := by
  unfold writeMarkers
  repeat' (first
    | with_reducible assumption
    | intro _
    | (extract_lets +onlyGivenNames r; clear_value r)
    | with_reducible refine Kept.ite ?_ ?_
    | with_reducible refine forEach_kept (hM.of rfl) ?_ ?_
    | with_reducible refine modSite_kept (hM.of rfl) ?_
    | with_reducible refine modTpp_kept (hM.of rfl) ?_)

theorem recordsOut_kept (hM : Sub 16777225 m) {a0 a1 : Nat} {a2 : List (BitVec 256)} {s : Block} (h : Kept m s0 s) :
    Kept m s0 (recordsOut a0 a1 a2 s) := by
  unfold recordsOut
  repeat' (first
    | with_reducible assumption
    | with_reducible refine Kept.ite ?_ ?_
    | with_reducible refine Block_emit_kept (hM.of rfl) ?_
    | with_reducible refine bumpDiscard_kept (hM.of rfl) ?_)

theorem failRecordSendStep_kept (hM : Sub 16793609 m) {a0 : Nat} {s : Block} (h : Kept m s0 s) :
    Kept m s0 (failRecordSendStep a0 s) := by
  unfold failRecordSendStep
  repeat' (first
    | with_reducible assumption
    | with_reducible refine Kept.ite ?_ ?_
    | with_reducible refine writeMarkers_kept (hM.of rfl) ?_
    | with_reducible refine recordsOut_kept (hM.of rfl) ?_
    | with_reducible refine modTpp_kept (hM.of rfl) ?_
    | split)

theorem bitmapIncomplete_kept (hM : Sub 16793608 m) {a0 : Nat} {a1 : BitVec 8} {a2 : Bool} {s : Block} (h : Kept m s0 s) :
    Kept m s0 (bitmapIncomplete a0 a1 a2 s) := by
  unfold bitmapIncomplete
  repeat' (first
    | with_reducible assumption
    | intro _
    | (extract_lets +onlyGivenNames r; have hr : Kept m s0 r := ?_; clear_value r; rotate_left; subst r; rotate_right)
    | (extract_lets +onlyGivenNames r; clear_value r)
    | with_reducible refine Kept.ite ?_ ?_
    | with_reducible refine forEach_kept (hM.of rfl) ?_ ?_
    | with_reducible refine when_kept (hM.of rfl) ?_ ?_
    | with_reducible refine Block_putB_kept (hM.of rfl) ?_
    | with_reducible refine Block_raise_kept (hM.of rfl) ?_
    | with_reducible refine modTpp_kept (hM.of rfl) ?_)

theorem evictLine_kept (hM : Sub 16385 m) {a0 : Nat} {a1 : BmLine} {s : Block} (h : Kept m s0 s) :
    Kept m s0 (evictLine a0 a1 s) := by
  unfold evictLine
  repeat' (first
    | with_reducible assumption
    | with_reducible refine Block_emit_kept (hM.of rfl) ?_
    | with_reducible refine modTpp_kept (hM.of rfl) ?_)

theorem bitmapSet_kept (hM : Sub 16793609 m) {a0 a1 a2 : Nat} {s : Block} (h : Kept m s0 s) :
    Kept m s0 (bitmapSet a0 a1 a2 s) := by
  unfold bitmapSet
  repeat' (first
    | with_reducible assumption
    | (extract_lets +onlyGivenNames r; have hr := fun x => r x; subst r)
    | (extract_lets +onlyGivenNames r; clear_value r)
    | with_reducible refine Kept.ite ?_ ?_
    | with_reducible refine setTpp_kept (hM.of rfl) ?_
    | with_reducible refine modTpp_kept (hM.of rfl) ?_
    | with_reducible refine evictLine_kept (hM.of rfl) ?_
    | with_reducible refine bitmapIncomplete_kept (hM.of rfl) ?_
    | split)

theorem bitmapLineEvictStep_kept (hM : Sub 16385 m) {a0 a1 : Nat} {s : Block} (h : Kept m s0 s) :
    Kept m s0 (bitmapLineEvictStep a0 a1 s) := by
  unfold bitmapLineEvictStep
  repeat' (first
    | with_reducible assumption
    | (extract_lets +onlyGivenNames r; clear_value r)
    | with_reducible refine Kept.ite ?_ ?_
    | with_reducible refine evictLine_kept (hM.of rfl) ?_
    | split)

theorem aorAnswered_kept (hM : Sub 16859147 m) {a0 : Nat} {a1 : BmLine} {a2 : Bool} {s : Block} (h : Kept m s0 s) :
    Kept m s0 (aorAnswered a0 a1 a2 s) := by
  unfold aorAnswered
  repeat' (first
    | with_reducible assumption
    | (extract_lets +onlyGivenNames r; have hr : Kept m s0 r.2 := ?_; clear_value r; rotate_left; subst r; rotate_right)
    | (extract_lets +onlyGivenNames r; have hr := fun x => r x; subst r)
    | with_reducible refine Kept.ite ?_ ?_
    | with_reducible refine bitmapIncomplete_kept (hM.of rfl) ?_
    | with_reducible refine readMem_kept (hM.of rfl) ?_
    | with_reducible refine writeMem_kept (hM.of rfl) ?_
    | split)

theorem bitmapAorResponseStep_kept (hM : Sub 16859147 m) {a0 a1 : Nat} {a2 : Bool} {s : Block} (h : Kept m s0 s) :
    Kept m s0 (bitmapAorResponseStep a0 a1 a2 s) := by
  unfold bitmapAorResponseStep
  repeat' (first
    | with_reducible assumption
    | with_reducible refine aorAnswered_kept (hM.of rfl) ?_
    | with_reducible refine modTpp_kept (hM.of rfl) ?_
    | split)

theorem failCount_kept (hM : Sub 16793608 m) {a0 a1 a2 : Nat} {s : Block} (h : Kept m s0 s) :
    Kept m s0 (failCount a0 a1 a2 s) := by
  unfold failCount
  extract_lets +onlyGivenNames r
  have hr : Kept m s0 r := Block_bumpBy_kept (hM.of rfl) h
  clear_value r
  refine Kept.ite hr (Kept.ite ?_ (modTpp_kept (hM.of rfl) hr))
  exact Kept.upd hr (h_ev := .inr (hM.of rfl))

theorem failCounters_kept (hM : Sub 16793608 m) {a0 a1 a2 a3 : Nat} {s : Block} (h : Kept m s0 s) :
    Kept m s0 (failCounters a0 a1 a2 a3 s) := by
  unfold failCounters
  repeat' (first
    | with_reducible assumption
    | (extract_lets +onlyGivenNames r; clear_value r)
    | with_reducible refine Kept.ite ?_ ?_
    | with_reducible refine failCount_kept (hM.of rfl) ?_)

theorem siteResult_kept (hM : Sub 16793609 m) {a0 a1 a2 a3 : Nat} {a4 : AppBatch} {a5 : ApgSt} {a6 a7 a8 : Nat} {s : Block} (h : Kept m s0 s) :
    Kept m s0 (siteResult a0 a1 a2 a3 a4 a5 a6 a7 a8 s) := by
  unfold siteResult
  repeat' (first
    | with_reducible assumption
    | intro _
    | (extract_lets +onlyGivenNames r; have hr : Kept m s0 r := ?_; clear_value r; rotate_left; subst r; rotate_right)
    | (extract_lets +onlyGivenNames r; clear_value r)
    | with_reducible refine Kept.ite ?_ ?_
    | with_reducible refine Block_put_kept (hM.of rfl) ?_
    | with_reducible refine when_kept (hM.of rfl) ?_ ?_
    | with_reducible refine modSite_kept (hM.of rfl) ?_
    | with_reducible refine produceRecord_kept (hM.of rfl) ?_
    | with_reducible refine Block_putB_kept (hM.of rfl) ?_
    | with_reducible refine forEach_kept (hM.of rfl) ?_ ?_
    | with_reducible refine bitmapSet_kept (hM.of rfl) ?_
    | with_reducible refine failCounters_kept (hM.of rfl) ?_)

theorem applicationResult_kept (hM : Sub 16793611 m) {a0 a1 : Nat} {a2 : AppBatch} {a3 : List (Nat × Int)} {s : Block} (h : Kept m s0 s) :
    Kept m s0 (applicationResult a0 a1 a2 a3 s) := by
  unfold applicationResult
  repeat' (first
    | with_reducible assumption
    | intro _
    | (extract_lets +onlyGivenNames r; have hr : Kept m s0 r := ?_; clear_value r; rotate_left; subst r; rotate_right)
    | (extract_lets +onlyGivenNames r; have hr : Kept m s0 r.2 := ?_; clear_value r; rotate_left; subst r; rotate_right)
    | (extract_lets +onlyGivenNames r; have hr := fun x => r x; subst r)
    | (extract_lets +onlyGivenNames r; clear_value r)
    | with_reducible refine Block_draw_kept (hM.of rfl) ?_
    | with_reducible refine setTpp_kept (hM.of rfl) ?_
    | with_reducible refine forEach_kept (hM.of rfl) ?_ ?_
    | with_reducible refine siteResult_kept (hM.of rfl) ?_)

theorem compareResultStep_kept (hM : Sub 16793611 m) {a0 a1 : Nat} {a2 : List (Nat × Int)} {s : Block} (h : Kept m s0 s) :
    Kept m s0 (compareResultStep a0 a1 a2 s) := by
  unfold compareResultStep
  repeat' (first
    | with_reducible assumption
    | (extract_lets +onlyGivenNames r; clear_value r)
    | with_reducible refine Kept.ite ?_ ?_
    | with_reducible refine applicationResult_kept (hM.of rfl) ?_
    | split)

theorem tppDrainEndStep_kept (hM : Sub 16392 m) {a0 : Nat} {s : Block} (h : Kept m s0 s) :
    Kept m s0 (tppDrainEndStep a0 s) := by
  unfold tppDrainEndStep
  repeat' (first
    | with_reducible assumption
    | (extract_lets +onlyGivenNames r; clear_value r)
    | with_reducible refine Kept.ite ?_ ?_
    | with_reducible refine runFinish_kept (hM.of rfl) ?_
    | split)

theorem drainLost_kept (hM : Sub 16793608 m) {a0 : Nat} {s : Block} (h : Kept m s0 s) :
    Kept m s0 (drainLost a0 s) := by
  unfold drainLost
  repeat' (first
    | with_reducible assumption
    | intro _
    | (extract_lets +onlyGivenNames r; have hr : Kept m s0 r := ?_; clear_value r; rotate_left; subst r; rotate_right)
    | (extract_lets +onlyGivenNames r; clear_value r)
    | with_reducible refine Kept.ite ?_ ?_
    | with_reducible refine Kept.foldl ?_ ?_
    | with_reducible refine loseRecord_kept (hM.of rfl) ?_
    | with_reducible refine when_kept (hM.of rfl) ?_ ?_
    | with_reducible refine bitmapIncomplete_kept (hM.of rfl) ?_
    | with_reducible refine modTpp_kept (hM.of rfl) ?_)

theorem tppDrainTimeoutStep_kept (hM : Sub 16793612 m) {a0 : Nat} {s : Block} (h : Kept m s0 s) :
    Kept m s0 (tppDrainTimeoutStep a0 s) := by
  unfold tppDrainTimeoutStep
  repeat' (first
    | with_reducible assumption
    | (extract_lets +onlyGivenNames r; clear_value r)
    | with_reducible refine Kept.ite ?_ ?_
    | with_reducible refine runFinish_kept (hM.of rfl) ?_
    | with_reducible refine drainLost_kept (hM.of rfl) ?_
    | with_reducible refine reachTime_kept (hM.of rfl) ?_
    | split)

theorem cntClearStep_kept (hM : Sub 8 m) {a0 : Nat} {s : Block} (h : Kept m s0 s) :
    Kept m s0 (cntClearStep a0 s) := by
  unfold cntClearStep
  repeat' (first
    | with_reducible assumption
    | intro _
    | with_reducible refine when_kept (hM.of rfl) ?_ ?_
    | with_reducible refine clearCounters_kept (hM.of rfl) ?_)

theorem execFailRecordSend_ran (hM : Sub 16793609 m) (a0 : Fin 24) (s : State) : Ran m s (execFailRecordSend a0 s) := by
  unfold execFailRecordSend
  refine clockedOn_ran (fun s0 s h => ?_) s
  repeat' (first
    | with_reducible assumption
    | with_reducible refine failRecordSendStep_kept (hM.of rfl) ?_)

theorem execBitmapLineEvict_ran (hM : Sub 16385 m) (a0 : Fin 24) (a1 : Nat) (s : State) : Ran m s (execBitmapLineEvict a0 a1 s) := by
  unfold execBitmapLineEvict
  refine clockedOn_ran (fun s0 s h => ?_) s
  repeat' (first
    | with_reducible assumption
    | with_reducible refine bitmapLineEvictStep_kept (hM.of rfl) ?_)

theorem execBitmapAorResponse_ran (hM : Sub 16859147 m) (a0 : Fin 24) (a1 : Nat) (a2 : Bool) (s : State) : Ran m s (execBitmapAorResponse a0 a1 a2 s) := by
  unfold execBitmapAorResponse
  refine clockedOn_ran (fun s0 s h => ?_) s
  repeat' (first
    | with_reducible assumption
    | with_reducible refine bitmapAorResponseStep_kept (hM.of rfl) ?_)

theorem execCompareResult_ran (hM : Sub 16793611 m) (a0 : Fin 24) (a1 : BitVec 48) (a2 : List (Fin 48 × Int)) (s : State) : Ran m s (execCompareResult a0 a1 a2 s) := by
  unfold execCompareResult
  refine clockedOn_ran (fun s0 s h => ?_) s
  repeat' (first
    | with_reducible assumption
    | with_reducible refine compareResultStep_kept (hM.of rfl) ?_)

theorem execTppDrainEnd_ran (hM : Sub 16392 m) (a0 : Fin 24) (s : State) : Ran m s (execTppDrainEnd a0 s) := by
  unfold execTppDrainEnd
  refine clockedOn_ran (fun s0 s h => ?_) s
  repeat' (first
    | with_reducible assumption
    | with_reducible refine tppDrainEndStep_kept (hM.of rfl) ?_)

theorem execTppDrainTimeout_ran (hM : Sub 16793612 m) (a0 : Fin 24) (s : State) : Ran m s (execTppDrainTimeout a0 s) := by
  unfold execTppDrainTimeout
  refine clockedOn_ran (fun s0 s h => ?_) s
  repeat' (first
    | with_reducible assumption
    | with_reducible refine tppDrainTimeoutStep_kept (hM.of rfl) ?_)

theorem execCntClear_ran (hM : Sub 8 m) (a0 : Fin 24) (s : State) : Ran m s (execCntClear a0 s) := by
  unfold execCntClear
  refine clockedOn_ran (fun s0 s h => ?_) s
  repeat' (first
    | with_reducible assumption
    | with_reducible refine cntClearStep_kept (hM.of rfl) ?_)

/-! ### Sequencer -/

theorem pinApply_kept (hM : Sub 16392 m) {a0 a1 : Nat} {a2 : ApgSt} {a3 : BitVec 8} {a4 : Nat} {s : Block} (h : Kept m s0 s) :
    Kept m s0 (pinApply a0 a1 a2 a3 a4 s) := by
  unfold pinApply
  repeat' (first
    | with_reducible assumption
    | intro _
    | (extract_lets +onlyGivenNames r; have hr : Kept m s0 r := ?_; clear_value r; rotate_left; subst r; rotate_right)
    | (extract_lets +onlyGivenNames r; clear_value r)
    | with_reducible refine setTpp_kept (hM.of rfl) ?_
    | with_reducible refine when_kept (hM.of rfl) ?_ ?_
    | with_reducible refine Block_putB_kept (hM.of rfl) ?_)

theorem pinsApply_kept (hM : Sub 16392 m) {a0 a1 : Nat} {a2 : ApgSt} {a3 : BitVec 8} {s : Block} (h : Kept m s0 s) :
    Kept m s0 (pinsApply a0 a1 a2 a3 s) := by
  unfold pinsApply
  repeat' (first
    | with_reducible assumption
    | intro _
    | with_reducible refine forEach_kept (hM.of rfl) ?_ ?_
    | with_reducible refine pinApply_kept (hM.of rfl) ?_)

theorem applyRun_kept (hM : Sub 16393 m) {a0 a1 : Nat} {a2 : AppWord} {s : Block} (h : Kept m s0 s) :
    Kept m s0 (applyRun a0 a1 a2 s) := by
  unfold applyRun
  repeat' (first
    | with_reducible assumption
    | intro _
    | (extract_lets +onlyGivenNames r; have hr : Kept m s0 r := ?_; clear_value r; rotate_left; subst r; rotate_right)
    | (extract_lets +onlyGivenNames r; have hr := fun x => r x; subst r)
    | (extract_lets +onlyGivenNames r; clear_value r)
    | with_reducible refine Kept.ite ?_ ?_
    | with_reducible refine when_kept (hM.of rfl) ?_ ?_
    | with_reducible refine pinsApply_kept (hM.of rfl) ?_
    | with_reducible refine Block_emit_kept (hM.of rfl) ?_
    | with_reducible refine modTpp_kept (hM.of rfl) ?_
    | with_reducible refine Block_put_kept (hM.of rfl) ?_
    | with_reducible refine apgPublish_kept (hM.of rfl) ?_)

theorem applyN_kept (hM : Sub 8413195 m) {n : Nat} {w : AppWord} {a3 a4 : Nat} {s : Block} (h : Kept m s0 s) :
    Kept m s0 (applyN n w a3 a4 s) := by
  induction a3 generalizing a4 s with
  | zero => exact applyRun_kept (hM.of rfl) h
  | succ k ih =>
    unfold applyN
    split
    · exact runEnd_kept (hM.of rfl) h
    · have e : Kept m s0 (modTpp n applySites s) := modTpp_kept (hM.of rfl) h
      exact Kept.ite (applyRun_kept (hM.of rfl) e)
        (ih (applyRun_kept (hM.of rfl) e))

theorem showPc_kept (hM : Sub 8 m) {a0 : Nat} {s : Block} (h : Kept m s0 s) :
    Kept m s0 (showPc a0 s) := by
  unfold showPc
  repeat' (first
    | with_reducible assumption
    | with_reducible refine Block_put_kept (hM.of rfl) ?_)

theorem thenSeq_kept (hM : Sub 0 m) {a0 : Nat} {a1 : Block → Block} {s : Block} (h1 : ∀  s, Kept m s0 s → Kept m s0 (a1  s)) (h : Kept m s0 s) :
    Kept m s0 (thenSeq a0 a1 s) := by
  unfold thenSeq
  repeat' (first
    | with_reducible assumption
    | with_reducible refine when_kept (hM.of rfl) ?_ ?_)

theorem seqRow_kept (hM : Sub 8413199 m) {a0 a1 : Nat} {a2 : Bool} {a3 : Nat → Block → Block} {s : Block} (h3 : ∀ x0 s, Kept m s0 s → Kept m s0 (a3 x0 s)) (h : Kept m s0 s) :
    Kept m s0 (seqRow a0 a1 a2 a3 s) := by
  unfold seqRow
  repeat' (first
    | with_reducible assumption
    | intro _
    | (extract_lets +onlyGivenNames r; have hr : Kept m s0 r := ?_; clear_value r; rotate_left; subst r; rotate_right)
    | (extract_lets +onlyGivenNames r; clear_value r)
    | with_reducible refine Kept.ite ?_ ?_
    | with_reducible refine h3 _ _ ?_
    | with_reducible refine reachTime_kept (hM.of rfl) ?_
    | with_reducible refine showPc_kept (hM.of rfl) ?_
    | with_reducible refine runEnd_kept (hM.of rfl) ?_
    | with_reducible refine when_kept (hM.of rfl) ?_ ?_
    | with_reducible refine Block_emit_kept (hM.of rfl) ?_
    | split)

theorem applyWord_kept (hM : Sub 8413195 m) {a0 a1 : Nat} {a2 : AppWord} {s : Block} (h : Kept m s0 s) :
    Kept m s0 (applyWord a0 a1 a2 s) := by
  unfold applyWord
  repeat' (first
    | with_reducible assumption
    | with_reducible refine applyN_kept (hM.of rfl) ?_)

theorem seqOn_kept (hM : Sub 16384 m) {a0 : Nat} {s : Block} (h : Kept m s0 s) :
    Kept m s0 (seqOn a0 s) := by
  unfold seqOn
  repeat' (first
    | with_reducible assumption
    | intro _
    | with_reducible refine thenSeq_kept (hM.of rfl) ?_ ?_
    | with_reducible refine modTpp_kept (hM.of rfl) ?_)

theorem seqNextStep_kept (hM : Sub 8413195 m) {a0 a1 : Nat} {s : Block} (h : Kept m s0 s) :
    Kept m s0 (seqNextStep a0 a1 s) := by
  unfold seqNextStep
  repeat' (first
    | with_reducible assumption
    | with_reducible refine seqOn_kept (hM.of rfl) ?_
    | with_reducible refine applyWord_kept (hM.of rfl) ?_)

theorem seqRepeatStep_kept (hM : Sub 8413195 m) {a0 a1 : Nat} {s : Block} (h : Kept m s0 s) :
    Kept m s0 (seqRepeatStep a0 a1 s) := by
  unfold seqRepeatStep
  repeat' (first
    | with_reducible assumption
    | with_reducible refine seqOn_kept (hM.of rfl) ?_
    | with_reducible refine applyWord_kept (hM.of rfl) ?_)

theorem seqLoopStep_kept (hM : Sub 8413195 m) {a0 a1 : Nat} {s : Block} (h : Kept m s0 s) :
    Kept m s0 (seqLoopStep a0 a1 s) := by
  unfold seqLoopStep
  repeat' (first
    | with_reducible assumption
    | intro _
    | (extract_lets +onlyGivenNames r; clear_value r)
    | with_reducible refine thenSeq_kept (hM.of rfl) ?_ ?_
    | with_reducible refine modTpp_kept (hM.of rfl) ?_
    | with_reducible refine applyWord_kept (hM.of rfl) ?_)

theorem seqJumpStep_kept (hM : Sub 8413195 m) {a0 a1 : Nat} {s : Block} (h : Kept m s0 s) :
    Kept m s0 (seqJumpStep a0 a1 s) := by
  unfold seqJumpStep
  repeat' (first
    | with_reducible assumption
    | intro _
    | with_reducible refine thenSeq_kept (hM.of rfl) ?_ ?_
    | with_reducible refine modTpp_kept (hM.of rfl) ?_
    | with_reducible refine applyWord_kept (hM.of rfl) ?_)

theorem seqCallStep_kept (hM : Sub 8413195 m) {a0 a1 : Nat} {s : Block} (h : Kept m s0 s) :
    Kept m s0 (seqCallStep a0 a1 s) := by
  unfold seqCallStep
  repeat' (first
    | with_reducible assumption
    | intro _
    | with_reducible refine thenSeq_kept (hM.of rfl) ?_ ?_
    | with_reducible refine modTpp_kept (hM.of rfl) ?_
    | with_reducible refine applyWord_kept (hM.of rfl) ?_)

theorem seqRetStep_kept (hM : Sub 8413195 m) {a0 a1 : Nat} {s : Block} (h : Kept m s0 s) :
    Kept m s0 (seqRetStep a0 a1 s) := by
  unfold seqRetStep
  repeat' (first
    | with_reducible assumption
    | intro _
    | with_reducible refine thenSeq_kept (hM.of rfl) ?_ ?_
    | with_reducible refine modTpp_kept (hM.of rfl) ?_
    | with_reducible refine applyWord_kept (hM.of rfl) ?_)

theorem seqJofStep_kept (hM : Sub 8413195 m) {a0 a1 : Nat} {s : Block} (h : Kept m s0 s) :
    Kept m s0 (seqJofStep a0 a1 s) := by
  unfold seqJofStep
  repeat' (first
    | with_reducible assumption
    | intro _
    | (extract_lets +onlyGivenNames r; have hr : Kept m s0 r := ?_; clear_value r; rotate_left; subst r; rotate_right)
    | (extract_lets +onlyGivenNames r; clear_value r)
    | with_reducible refine Kept.ite ?_ ?_
    | with_reducible refine thenSeq_kept (hM.of rfl) ?_ ?_
    | with_reducible refine when_kept (hM.of rfl) ?_ ?_
    | with_reducible refine Block_put_kept (hM.of rfl) ?_
    | with_reducible refine modTpp_kept (hM.of rfl) ?_
    | with_reducible refine applyWord_kept (hM.of rfl) ?_)

theorem matchTimeout_kept (hM : Sub 16793608 m) {a0 a1 a2 a3 a4 : Nat} {s : Block} (h : Kept m s0 s) :
    Kept m s0 (matchTimeout a0 a1 a2 a3 a4 s) := by
  unfold matchTimeout
  repeat' (first
    | with_reducible assumption
    | intro _
    | (extract_lets +onlyGivenNames r; clear_value r)
    | with_reducible refine when_kept (hM.of rfl) ?_ ?_
    | with_reducible refine produceRecord_kept (hM.of rfl) ?_
    | with_reducible refine Block_put_kept (hM.of rfl) ?_)

theorem seqMatchStep_kept (hM : Sub 25190411 m) {a0 : Nat} {a1 : List (Nat × Nat)} {a2 a3 : Nat} {s : Block} (h : Kept m s0 s) :
    Kept m s0 (seqMatchStep a0 a1 a2 a3 s) := by
  unfold seqMatchStep
  repeat' (first
    | with_reducible assumption
    | intro _
    | (extract_lets +onlyGivenNames r; have hr := fun x => r x; subst r)
    | (extract_lets +onlyGivenNames r; clear_value r)
    | with_reducible refine Kept.ite ?_ ?_
    | with_reducible refine thenSeq_kept (hM.of rfl) ?_ ?_
    | with_reducible refine modTpp_kept (hM.of rfl) ?_
    | with_reducible refine forEach_kept (hM.of rfl) ?_ ?_
    | with_reducible refine matchTimeout_kept (hM.of rfl) ?_
    | with_reducible refine applyWord_kept (hM.of rfl) ?_
    | with_reducible refine seqOn_kept (hM.of rfl) ?_)

theorem seqApgStepStep_kept (hM : Sub 8413195 m) {a0 a1 : Nat} {s : Block} (h : Kept m s0 s) :
    Kept m s0 (seqApgStepStep a0 a1 s) := by
  unfold seqApgStepStep
  repeat' (first
    | with_reducible assumption
    | (extract_lets +onlyGivenNames r; clear_value r)
    | with_reducible refine seqOn_kept (hM.of rfl) ?_
    | with_reducible refine applyWord_kept (hM.of rfl) ?_)

theorem seqStreamStep_kept (hM : Sub 8413195 m) {a0 a1 : Nat} {s : Block} (h : Kept m s0 s) :
    Kept m s0 (seqStreamStep a0 a1 s) := by
  unfold seqStreamStep
  repeat' (first
    | with_reducible assumption
    | intro _
    | with_reducible refine thenSeq_kept (hM.of rfl) ?_ ?_
    | with_reducible refine modTpp_kept (hM.of rfl) ?_
    | with_reducible refine applyWord_kept (hM.of rfl) ?_)

theorem streamVector_kept (hM : Sub 8413195 m) {a0 a1 a2 a3 : Nat} {a4 : BitVec 512} {a5 : BitVec 512} {s : Block} (h : Kept m s0 s) :
    Kept m s0 (streamVector a0 a1 a2 a3 a4 a5 s) := by
  unfold streamVector
  repeat' (first
    | with_reducible assumption
    | intro _
    | (extract_lets +onlyGivenNames r; clear_value r)
    | with_reducible refine thenSeq_kept (hM.of rfl) ?_ ?_
    | with_reducible refine modTpp_kept (hM.of rfl) ?_
    | with_reducible refine applyWord_kept (hM.of rfl) ?_)

theorem seqStreamVectorStep_kept (hM : Sub 8413199 m) {a0 : Nat} {s : Block} (h : Kept m s0 s) :
    Kept m s0 (seqStreamVectorStep a0 s) := by
  unfold seqStreamVectorStep
  repeat' (first
    | with_reducible assumption
    | (extract_lets +onlyGivenNames r; have hr : Kept m s0 r := ?_; clear_value r; rotate_left; subst r; rotate_right)
    | (extract_lets +onlyGivenNames r; clear_value r)
    | with_reducible refine Kept.ite ?_ ?_
    | with_reducible refine reachTime_kept (hM.of rfl) ?_
    | with_reducible refine runEnd_kept (hM.of rfl) ?_
    | with_reducible refine streamVector_kept (hM.of rfl) ?_
    | split)

theorem seqWaitTrigStep_kept (hM : Sub 8413195 m) {a0 a1 : Nat} {s : Block} (h : Kept m s0 s) :
    Kept m s0 (seqWaitTrigStep a0 a1 s) := by
  unfold seqWaitTrigStep
  repeat' (first
    | with_reducible assumption
    | intro _
    | (extract_lets +onlyGivenNames r; have hr : Kept m s0 r := ?_; clear_value r; rotate_left; subst r; rotate_right)
    | (extract_lets +onlyGivenNames r; have hr := fun x => r x; subst r)
    | (extract_lets +onlyGivenNames r; clear_value r)
    | with_reducible refine Kept.ite ?_ ?_
    | with_reducible refine applyWord_kept (hM.of rfl) ?_
    | with_reducible refine thenSeq_kept (hM.of rfl) ?_ ?_
    | with_reducible refine setTpp_kept (hM.of rfl) ?_)

theorem seqStopStep_kept (hM : Sub 8413195 m) {a0 a1 : Nat} {s : Block} (h : Kept m s0 s) :
    Kept m s0 (seqStopStep a0 a1 s) := by
  unfold seqStopStep
  repeat' (first
    | with_reducible assumption
    | intro _
    | with_reducible refine thenSeq_kept (hM.of rfl) ?_ ?_
    | with_reducible refine runEnd_kept (hM.of rfl) ?_
    | with_reducible refine applyWord_kept (hM.of rfl) ?_)

theorem execSeqNext_ran (hM : Sub 8413199 m) (a0 : Fin 24) (a1 : Bool) (s : State) : Ran m s (execSeqNext a0 a1 s) := by
  unfold execSeqNext
  refine clockedOn_ran (fun s0 s h => ?_) s
  repeat' (first
    | with_reducible assumption
    | intro _
    | with_reducible refine seqRow_kept (hM.of rfl) ?_ ?_
    | with_reducible refine seqNextStep_kept (hM.of rfl) ?_)

theorem execSeqRepeat_ran (hM : Sub 8413199 m) (a0 : Fin 24) (a1 : Bool) (s : State) : Ran m s (execSeqRepeat a0 a1 s) := by
  unfold execSeqRepeat
  refine clockedOn_ran (fun s0 s h => ?_) s
  repeat' (first
    | with_reducible assumption
    | intro _
    | with_reducible refine seqRow_kept (hM.of rfl) ?_ ?_
    | with_reducible refine seqRepeatStep_kept (hM.of rfl) ?_)

theorem execSeqLoop_ran (hM : Sub 8413199 m) (a0 : Fin 24) (a1 : Bool) (s : State) : Ran m s (execSeqLoop a0 a1 s) := by
  unfold execSeqLoop
  refine clockedOn_ran (fun s0 s h => ?_) s
  repeat' (first
    | with_reducible assumption
    | intro _
    | with_reducible refine seqRow_kept (hM.of rfl) ?_ ?_
    | with_reducible refine seqLoopStep_kept (hM.of rfl) ?_)

theorem execSeqJump_ran (hM : Sub 8413199 m) (a0 : Fin 24) (a1 : Bool) (s : State) : Ran m s (execSeqJump a0 a1 s) := by
  unfold execSeqJump
  refine clockedOn_ran (fun s0 s h => ?_) s
  repeat' (first
    | with_reducible assumption
    | intro _
    | with_reducible refine seqRow_kept (hM.of rfl) ?_ ?_
    | with_reducible refine seqJumpStep_kept (hM.of rfl) ?_)

theorem execSeqCall_ran (hM : Sub 8413199 m) (a0 : Fin 24) (a1 : Bool) (s : State) : Ran m s (execSeqCall a0 a1 s) := by
  unfold execSeqCall
  refine clockedOn_ran (fun s0 s h => ?_) s
  repeat' (first
    | with_reducible assumption
    | intro _
    | with_reducible refine seqRow_kept (hM.of rfl) ?_ ?_
    | with_reducible refine seqCallStep_kept (hM.of rfl) ?_)

theorem execSeqRet_ran (hM : Sub 8413199 m) (a0 : Fin 24) (a1 : Bool) (s : State) : Ran m s (execSeqRet a0 a1 s) := by
  unfold execSeqRet
  refine clockedOn_ran (fun s0 s h => ?_) s
  repeat' (first
    | with_reducible assumption
    | intro _
    | with_reducible refine seqRow_kept (hM.of rfl) ?_ ?_
    | with_reducible refine seqRetStep_kept (hM.of rfl) ?_)

theorem execSeqJof_ran (hM : Sub 8413199 m) (a0 : Fin 24) (a1 : Bool) (s : State) : Ran m s (execSeqJof a0 a1 s) := by
  unfold execSeqJof
  refine clockedOn_ran (fun s0 s h => ?_) s
  repeat' (first
    | with_reducible assumption
    | intro _
    | with_reducible refine when_kept (hM.of rfl) ?_ ?_
    | with_reducible refine seqRow_kept (hM.of rfl) ?_ ?_
    | with_reducible refine seqJofStep_kept (hM.of rfl) ?_)

theorem execSeqMatch_ran (hM : Sub 25190415 m) (a0 : Fin 24) (a1 : Bool) (a2 : List (Fin 8 × Nat)) (a3 : BitVec 48) (s : State) : Ran m s (execSeqMatch a0 a1 a2 a3 s) := by
  unfold execSeqMatch
  refine clockedOn_ran (fun s0 s h => ?_) s
  repeat' (first
    | with_reducible assumption
    | intro _
    | with_reducible refine seqRow_kept (hM.of rfl) ?_ ?_
    | with_reducible refine seqMatchStep_kept (hM.of rfl) ?_)

theorem execSeqApgStep_ran (hM : Sub 8413199 m) (a0 : Fin 24) (a1 : Bool) (s : State) : Ran m s (execSeqApgStep a0 a1 s) := by
  unfold execSeqApgStep
  refine clockedOn_ran (fun s0 s h => ?_) s
  repeat' (first
    | with_reducible assumption
    | intro _
    | with_reducible refine seqRow_kept (hM.of rfl) ?_ ?_
    | with_reducible refine seqApgStepStep_kept (hM.of rfl) ?_)

theorem execSeqStream_ran (hM : Sub 8413199 m) (a0 : Fin 24) (a1 : Bool) (s : State) : Ran m s (execSeqStream a0 a1 s) := by
  unfold execSeqStream
  refine clockedOn_ran (fun s0 s h => ?_) s
  repeat' (first
    | with_reducible assumption
    | intro _
    | with_reducible refine seqRow_kept (hM.of rfl) ?_ ?_
    | with_reducible refine seqStreamStep_kept (hM.of rfl) ?_)

theorem execSeqStreamVector_ran (hM : Sub 8413199 m) (a0 : Fin 24) (s : State) : Ran m s (execSeqStreamVector a0 s) := by
  unfold execSeqStreamVector
  refine clockedOn_ran (fun s0 s h => ?_) s
  repeat' (first
    | with_reducible assumption
    | with_reducible refine showPc_kept (hM.of rfl) ?_
    | with_reducible refine seqStreamVectorStep_kept (hM.of rfl) ?_)

theorem execSeqWaitTrig_ran (hM : Sub 8413199 m) (a0 : Fin 24) (a1 : Bool) (s : State) : Ran m s (execSeqWaitTrig a0 a1 s) := by
  unfold execSeqWaitTrig
  refine clockedOn_ran (fun s0 s h => ?_) s
  repeat' (first
    | with_reducible assumption
    | intro _
    | with_reducible refine seqRow_kept (hM.of rfl) ?_ ?_
    | with_reducible refine seqWaitTrigStep_kept (hM.of rfl) ?_)

theorem execSeqStop_ran (hM : Sub 8413199 m) (a0 : Fin 24) (a1 : Bool) (s : State) : Ran m s (execSeqStop a0 a1 s) := by
  unfold execSeqStop
  refine clockedOn_ran (fun s0 s h => ?_) s
  repeat' (first
    | with_reducible assumption
    | intro _
    | with_reducible refine seqRow_kept (hM.of rfl) ?_ ?_
    | with_reducible refine seqStopStep_kept (hM.of rfl) ?_)

/-! ### IoBanks -/

theorem modIo_kept (hM : Sub 8192 m) {a0 : IoSt → IoSt} {s : Block} (h : Kept m s0 s) :
    Kept m s0 (modIo a0 s) := by
  unfold modIo
  repeat' (first
    | with_reducible assumption
    | with_reducible refine Kept.upd ?_ (h_io := .inr (hM.of rfl)))

theorem bankFault_kept (hM : Sub 25190410 m) {a0 a1 : Nat} {s : Block} (h : Kept m s0 s) :
    Kept m s0 (bankFault a0 a1 s) := by
  unfold bankFault
  repeat' (first
    | with_reducible assumption
    | intro _
    | (extract_lets +onlyGivenNames r; have hr : Kept m s0 r := ?_; clear_value r; rotate_left; subst r; rotate_right)
    | (extract_lets +onlyGivenNames r; clear_value r)
    | with_reducible refine modIo_kept (hM.of rfl) ?_
    | with_reducible refine Block_bumpBy_kept (hM.of rfl) ?_
    | with_reducible refine Block_putB_kept (hM.of rfl) ?_
    | with_reducible refine Block_eicEdge_kept (hM.of rfl) ?_
    | with_reducible refine Block_raise_kept (hM.of rfl) ?_
    | with_reducible refine when_kept (hM.of rfl) ?_ ?_
    | with_reducible refine runStopAt_kept (hM.of rfl) ?_)

theorem bankClears_kept (hM : Sub 8200 m) {a0 a1 : Nat} {s : Block} (h : Kept m s0 s) :
    Kept m s0 (bankClears a0 a1 s) := by
  unfold bankClears
  repeat' (first
    | with_reducible assumption
    | with_reducible refine vccoRefresh_kept (hM.of rfl) ?_
    | with_reducible refine modIo_kept (hM.of rfl) ?_)

theorem bankClass_kept (hM : Sub 25190410 m) {a0 a1 : Nat} {s : Block} (h : Kept m s0 s) :
    Kept m s0 (bankClass a0 a1 s) := by
  unfold bankClass
  repeat' (first
    | with_reducible assumption
    | (extract_lets +onlyGivenNames r; clear_value r)
    | with_reducible refine Kept.ite ?_ ?_
    | with_reducible refine bankClears_kept (hM.of rfl) ?_
    | with_reducible refine bankFault_kept (hM.of rfl) ?_
    | with_reducible refine vccoRefresh_kept (hM.of rfl) ?_)

theorem vccoNow_kept (hM : Sub 16785416 m) {a0 a1 a2 : Nat} {s : Block} (h : Kept m s0 s) :
    Kept m s0 (vccoNow a0 a1 a2 s) := by
  unfold vccoNow
  repeat' (first
    | with_reducible assumption
    | intro _
    | (extract_lets +onlyGivenNames r; have hr : Kept m s0 r := ?_; clear_value r; rotate_left; subst r; rotate_right)
    | with_reducible refine vccoRefresh_kept (hM.of rfl) ?_
    | with_reducible refine modIo_kept (hM.of rfl) ?_
    | with_reducible refine when_kept (hM.of rfl) ?_ ?_
    | with_reducible refine tppCalStale_kept (hM.of rfl) ?_)

theorem vccoFaultEnterStep_kept (hM : Sub 25190410 m) {a0 a1 a2 : Nat} {s : Block} (h : Kept m s0 s) :
    Kept m s0 (vccoFaultEnterStep a0 a1 a2 s) := by
  unfold vccoFaultEnterStep
  repeat' (first
    | with_reducible assumption
    | with_reducible refine Kept.ite ?_ ?_
    | with_reducible refine bankFault_kept (hM.of rfl) ?_
    | with_reducible refine vccoNow_kept (hM.of rfl) ?_)

theorem vccoFaultExitStep_kept (hM : Sub 16785416 m) {a0 a1 a2 : Nat} {s : Block} (h : Kept m s0 s) :
    Kept m s0 (vccoFaultExitStep a0 a1 a2 s) := by
  unfold vccoFaultExitStep
  repeat' (first
    | with_reducible assumption
    | with_reducible refine Kept.ite ?_ ?_
    | with_reducible refine bankClears_kept (hM.of rfl) ?_
    | with_reducible refine vccoNow_kept (hM.of rfl) ?_)

theorem ioCalibrated_kept (hM : Sub 16777736 m) {a0 : Nat} {a1 : Bool} {s : Block} (h : Kept m s0 s) :
    Kept m s0 (ioCalibrated a0 a1 s) := by
  unfold ioCalibrated
  repeat' (first
    | with_reducible assumption
    | intro _
    | (extract_lets +onlyGivenNames r; have hr : Kept m s0 r := ?_; clear_value r; rotate_left; subst r; rotate_right)
    | (extract_lets +onlyGivenNames r; clear_value r)
    | with_reducible refine forEach_kept (hM.of rfl) ?_ ?_
    | with_reducible refine Block_putB_kept (hM.of rfl) ?_
    | with_reducible refine when_kept (hM.of rfl) ?_ ?_
    | with_reducible refine Block_raise_kept (hM.of rfl) ?_
    | ((with_reducible refine Kept.on_once ?_ (hM.of rfl) ?_); rotate_left; exact fun w => spWf_spSet _ _ _ _ w))

theorem ioCalibrationStep_kept (hM : Sub 16777736 m) {a0 : Nat} {a1 : Bool} {s : Block} (h : Kept m s0 s) :
    Kept m s0 (ioCalibrationStep a0 a1 s) := by
  unfold ioCalibrationStep
  repeat' (first
    | with_reducible assumption
    | with_reducible refine Kept.ite ?_ ?_
    | with_reducible refine ioCalibrated_kept (hM.of rfl) ?_)

theorem ioPinWriteStep_kept (hM : Sub 8200 m) {a0 a1 : Nat} {a2 a3 : Bool} {a4 : Nat} {s : Block} (h : Kept m s0 s) :
    Kept m s0 (ioPinWriteStep a0 a1 a2 a3 a4 s) := by
  unfold ioPinWriteStep
  repeat' (first
    | with_reducible assumption
    | intro _
    | (extract_lets +onlyGivenNames r; clear_value r)
    | with_reducible refine Kept.ite ?_ ?_
    | with_reducible refine when_kept (hM.of rfl) ?_ ?_
    | with_reducible refine safeWritten_kept (hM.of rfl) ?_
    | with_reducible refine Block_plainWrite_kept (hM.of rfl) ?_)

theorem delayFabricStepStep_kept (hM : Sub 8 m) {a0 a1 : Nat} {a2 a3 : Bool} {s : Block} (h : Kept m s0 s) :
    Kept m s0 (delayFabricStepStep a0 a1 a2 a3 s) := by
  unfold delayFabricStepStep
  repeat' (first
    | with_reducible assumption
    | (extract_lets +onlyGivenNames r; clear_value r)
    | with_reducible refine Kept.ite ?_ ?_
    | with_reducible refine Block_put_kept (hM.of rfl) ?_)

theorem delayLineTapMoveStep_kept (hM : Sub 8 m) {a0 a1 : Nat} {s : Block} (h : Kept m s0 s) :
    Kept m s0 (delayLineTapMoveStep a0 a1 s) := by
  unfold delayLineTapMoveStep
  repeat' (first
    | with_reducible assumption
    | (extract_lets +onlyGivenNames r; clear_value r)
    | with_reducible refine Kept.ite ?_ ?_
    | with_reducible refine Block_put_kept (hM.of rfl) ?_)

theorem termEnChangeStep_kept (hM : Sub 8192 m) {a0 a1 : Nat} {a2 : Bool} {s : Block} (h : Kept m s0 s) :
    Kept m s0 (termEnChangeStep a0 a1 a2 s) := by
  unfold termEnChangeStep
  repeat' (first
    | with_reducible assumption
    | with_reducible refine Kept.ite ?_ ?_
    | with_reducible refine modIo_kept (hM.of rfl) ?_)

theorem execVccoFaultEnter_ran (hM : Sub 25190410 m) (a0 : Fin 4) (a1 : Fin 8) (a2 : BitVec 12) (s : State) : Ran m s (execVccoFaultEnter a0 a1 a2 s) := by
  unfold execVccoFaultEnter
  refine live_ran (fun s0 s h => ?_) s
  repeat' (first
    | with_reducible assumption
    | with_reducible refine vccoFaultEnterStep_kept (hM.of rfl) ?_)

theorem execVccoFaultExit_ran (hM : Sub 16785416 m) (a0 : Fin 4) (a1 : Fin 8) (a2 : BitVec 12) (s : State) : Ran m s (execVccoFaultExit a0 a1 a2 s) := by
  unfold execVccoFaultExit
  refine live_ran (fun s0 s h => ?_) s
  repeat' (first
    | with_reducible assumption
    | with_reducible refine vccoFaultExitStep_kept (hM.of rfl) ?_)

theorem execVccoLevelChange_ran (hM : Sub 16785416 m) (a0 : Fin 4) (a1 : Fin 8) (a2 : BitVec 12) (s : State) : Ran m s (execVccoLevelChange a0 a1 a2 s) := by
  unfold execVccoLevelChange
  refine live_ran (fun s0 s h => ?_) s
  repeat' (first
    | with_reducible assumption
    | with_reducible refine vccoNow_kept (hM.of rfl) ?_)

theorem execIoCalibration_ran (hM : Sub 16777736 m) (a0 : Fin 4) (a1 : Bool) (s : State) : Ran m s (execIoCalibration a0 a1 s) := by
  unfold execIoCalibration
  refine live_ran (fun s0 s h => ?_) s
  repeat' (first
    | with_reducible assumption
    | with_reducible refine ioCalibrationStep_kept (hM.of rfl) ?_)

theorem execIoPinWrite_ran (hM : Sub 8200 m) (a0 : Fin 4) (a1 : Fin 384) (a2 : Bool) (a3 : Bool) (a4 : BitVec 64) (s : State) : Ran m s (execIoPinWrite a0 a1 a2 a3 a4 s) := by
  unfold execIoPinWrite
  refine live_ran (fun s0 s h => ?_) s
  repeat' (first
    | with_reducible assumption
    | with_reducible refine ioPinWriteStep_kept (hM.of rfl) ?_)

theorem execDelayFabricStep_ran (hM : Sub 8 m) (a0 : Fin 4) (a1 : Fin 384) (a2 : Bool) (a3 : Bool) (s : State) : Ran m s (execDelayFabricStep a0 a1 a2 a3 s) := by
  unfold execDelayFabricStep
  refine clockedOn_ran (fun s0 s h => ?_) s
  repeat' (first
    | with_reducible assumption
    | with_reducible refine delayFabricStepStep_kept (hM.of rfl) ?_)

theorem execDelayLineTapMove_ran (hM : Sub 8 m) (a0 : Fin 4) (a1 : Fin 384) (s : State) : Ran m s (execDelayLineTapMove a0 a1 s) := by
  unfold execDelayLineTapMove
  refine clockedOn_ran (fun s0 s h => ?_) s
  repeat' (first
    | with_reducible assumption
    | with_reducible refine delayLineTapMoveStep_kept (hM.of rfl) ?_)

theorem execTermEnChange_ran (hM : Sub 8192 m) (a0 : Fin 4) (a1 : Fin 384) (a2 : Bool) (s : State) : Ran m s (execTermEnChange a0 a1 a2 s) := by
  unfold execTermEnChange
  refine clockedOn_ran (fun s0 s h => ?_) s
  repeat' (first
    | with_reducible assumption
    | with_reducible refine termEnChangeStep_kept (hM.of rfl) ?_)

end Sys2Proof.Laws
end

