-- ==== Sys2Proof/Laws/KeptLanes.lean ====
section
/-! SUPPORT. What each named operation keeps (Laws/Kept.lean): SerDes lanes, power, events and register access. -/

namespace Sys2Proof.Laws

set_option Elab.async false
set_option linter.unusedTactic false
set_option linter.unreachableTactic false

open Machine

variable {m : Nat} {s0 : Block}

/-! ### Lanes -/

theorem setLane_kept (hM : Sub 32768 m) {a0 : Nat} {a1 : LaneSt} {s : Block} (h : Kept m s0 s) :
    Kept m s0 (setLane a0 a1 s) := by
  unfold setLane
  repeat' (first
    | with_reducible assumption
    | ((with_reducible refine Kept.on_lanes ?_ (hM.of rfl) ?_); rotate_left; exact fun w => spWf_spSet _ _ _ _ w))

theorem modLane_kept (hM : Sub 32768 m) {a0 : Nat} {a1 : LaneSt → LaneSt} {s : Block} (h : Kept m s0 s) :
    Kept m s0 (modLane a0 a1 s) := by
  unfold modLane
  repeat' (first
    | with_reducible assumption
    | with_reducible refine setLane_kept (hM.of rfl) ?_)

theorem laneEvent_kept (hM : Sub 16777224 m) {a0 a1 : Nat} {s : Block} (h : Kept m s0 s) :
    Kept m s0 (laneEvent a0 a1 s) := by
  unfold laneEvent
  repeat' (first
    | with_reducible assumption
    | with_reducible refine Block_eicEdge_kept (hM.of rfl) ?_
    | with_reducible refine Block_raise_kept (hM.of rfl) ?_)

theorem laneLine_kept (hM : Sub 1 m) {a0 : Nat} {a1 : Option (BitVec 2)} {a2 : BitVec 64} {s : Block} (h : Kept m s0 s) :
    Kept m s0 (laneLine a0 a1 a2 s) := by
  unfold laneLine
  repeat' (first
    | with_reducible assumption
    | with_reducible refine Kept.ite ?_ ?_
    | with_reducible refine Block_emit_kept (hM.of rfl) ?_)

theorem laneSend_kept (hM : Sub 32769 m) {a0 : Nat} {a1 : Bool} {a2 : BitVec 64} {s : Block} (h : Kept m s0 s) :
    Kept m s0 (laneSend a0 a1 a2 s) := by
  unfold laneSend
  repeat' (first
    | with_reducible assumption
    | (extract_lets +onlyGivenNames r; clear_value r)
    | with_reducible refine laneLine_kept (hM.of rfl) ?_
    | with_reducible refine setLane_kept (hM.of rfl) ?_)

theorem laneMsg_kept (hM : Sub 32769 m) {a0 a1 a2 a3 a4 a5 : Nat} {s : Block} (h : Kept m s0 s) :
    Kept m s0 (laneMsg a0 a1 a2 a3 a4 a5 s) := by
  unfold laneMsg
  repeat' (first
    | with_reducible assumption
    | (extract_lets +onlyGivenNames r; clear_value r)
    | with_reducible refine laneSend_kept (hM.of rfl) ?_
    | with_reducible refine setLane_kept (hM.of rfl) ?_)

theorem laneQuiet_kept (hM : Sub 32768 m) {a0 : Nat} {s : Block} (h : Kept m s0 s) :
    Kept m s0 (laneQuiet a0 s) := by
  unfold laneQuiet
  repeat' (first
    | with_reducible assumption
    | with_reducible refine modLane_kept (hM.of rfl) ?_)

theorem lanePreset_kept (hM : Sub 8 m) {a0 a1 : Nat} {s : Block} (h : Kept m s0 s) :
    Kept m s0 (lanePreset a0 a1 s) := by
  unfold lanePreset
  repeat' (first
    | with_reducible assumption
    | with_reducible refine Block_put_kept (hM.of rfl) ?_)

theorem laneCaps_kept (hM : Sub 32769 m) {a0 : Nat} {s : Block} (h : Kept m s0 s) :
    Kept m s0 (laneCaps a0 s) := by
  unfold laneCaps
  repeat' (first
    | with_reducible assumption
    | with_reducible refine laneMsg_kept (hM.of rfl) ?_)

theorem laneBase_kept (hM : Sub 32779 m) {a0 : Nat} {s : Block} (h : Kept m s0 s) :
    Kept m s0 (laneBase a0 s) := by
  unfold laneBase
  repeat' (first
    | with_reducible assumption
    | (extract_lets +onlyGivenNames r; have hr : Kept m s0 r := ?_; clear_value r; rotate_left; subst r; rotate_right)
    | (extract_lets +onlyGivenNames r; have hr : Kept m s0 r.2 := ?_; clear_value r; rotate_left; subst r; rotate_right)
    | (extract_lets +onlyGivenNames r; clear_value r)
    | with_reducible refine Block_draw_kept (hM.of rfl) ?_
    | with_reducible refine Block_put_kept (hM.of rfl) ?_
    | with_reducible refine Block_putB_kept (hM.of rfl) ?_
    | with_reducible refine lanePreset_kept (hM.of rfl) ?_
    | with_reducible refine laneCaps_kept (hM.of rfl) ?_
    | with_reducible refine modLane_kept (hM.of rfl) ?_)

theorem laneStart_kept (hM : Sub 32779 m) {a0 : Nat} {s : Block} (h : Kept m s0 s) :
    Kept m s0 (laneStart a0 s) := by
  unfold laneStart
  repeat' (first
    | with_reducible assumption
    | (extract_lets +onlyGivenNames r; have hr : Kept m s0 r := ?_; clear_value r; rotate_left; subst r; rotate_right)
    | (extract_lets +onlyGivenNames r; clear_value r)
    | with_reducible refine Kept.ite ?_ ?_
    | with_reducible refine modLane_kept (hM.of rfl) ?_
    | with_reducible refine laneBase_kept (hM.of rfl) ?_
    | with_reducible refine lanePreset_kept (hM.of rfl) ?_
    | with_reducible refine Block_put_kept (hM.of rfl) ?_)

theorem laneFirst_kept (hM : Sub 32779 m) {a0 : Nat} {s : Block} (h : Kept m s0 s) :
    Kept m s0 (laneFirst a0 s) := by
  unfold laneFirst
  repeat' (first
    | with_reducible assumption
    | with_reducible refine laneStart_kept (hM.of rfl) ?_
    | with_reducible refine modLane_kept (hM.of rfl) ?_)

theorem laneUpDone_kept (hM : Sub 8388608 m) {s : Block} (h : Kept m s0 s) :
    Kept m s0 (laneUpDone s) := by
  unfold laneUpDone
  repeat' (first
    | with_reducible assumption
    | intro _
    | (extract_lets +onlyGivenNames r; clear_value r)
    | with_reducible refine Kept.foldl ?_ ?_
    | with_reducible refine Block_answer_kept (hM.of rfl) ?_)

theorem laneActive_kept (hM : Sub 8421384 m) {a0 : Nat} {s : Block} (h : Kept m s0 s) :
    Kept m s0 (laneActive a0 s) := by
  unfold laneActive
  repeat' (first
    | with_reducible assumption
    | with_reducible refine laneUpDone_kept (hM.of rfl) ?_
    | with_reducible refine laneQuiet_kept (hM.of rfl) ?_
    | with_reducible refine Block_put_kept (hM.of rfl) ?_)

theorem laneLimited_kept (hM : Sub 16777224 m) {a0 : Nat} {s : Block} (h : Kept m s0 s) :
    Kept m s0 (laneLimited a0 s) := by
  unfold laneLimited
  repeat' (first
    | with_reducible assumption
    | with_reducible refine laneEvent_kept (hM.of rfl) ?_
    | with_reducible refine Block_putB_kept (hM.of rfl) ?_)

theorem laneOff_kept (hM : Sub 8421384 m) {a0 : Nat} {s : Block} (h : Kept m s0 s) :
    Kept m s0 (laneOff a0 s) := by
  unfold laneOff
  repeat' (first
    | with_reducible assumption
    | intro _
    | (extract_lets +onlyGivenNames r; have hr : Kept m s0 r := ?_; clear_value r; rotate_left; subst r; rotate_right)
    | (extract_lets +onlyGivenNames r; clear_value r)
    | with_reducible refine Kept.ite ?_ ?_
    | with_reducible refine Kept.foldl ?_ ?_
    | with_reducible refine Block_answer_kept (hM.of rfl) ?_
    | with_reducible refine Block_putB_kept (hM.of rfl) ?_
    | with_reducible refine Block_put_kept (hM.of rfl) ?_
    | with_reducible refine modLane_kept (hM.of rfl) ?_)

theorem lanePassed_kept (hM : Sub 25198601 m) {a0 : Nat} {s : Block} (h : Kept m s0 s) :
    Kept m s0 (lanePassed a0 s) := by
  unfold lanePassed
  repeat' (first
    | with_reducible assumption
    | (extract_lets +onlyGivenNames r; have hr : Kept m s0 r := ?_; clear_value r; rotate_left; subst r; rotate_right)
    | (extract_lets +onlyGivenNames r; clear_value r)
    | with_reducible refine Kept.ite ?_ ?_
    | with_reducible refine modLane_kept (hM.of rfl) ?_
    | with_reducible refine laneActive_kept (hM.of rfl) ?_
    | with_reducible refine laneLimited_kept (hM.of rfl) ?_
    | with_reducible refine laneMsg_kept (hM.of rfl) ?_
    | split)

theorem laneFellBack_kept (hM : Sub 32779 m) {a0 : Nat} {s : Block} (h : Kept m s0 s) :
    Kept m s0 (laneFellBack a0 s) := by
  unfold laneFellBack
  repeat' (first
    | with_reducible assumption
    | (extract_lets +onlyGivenNames r; have hr : Kept m s0 r := ?_; clear_value r; rotate_left; subst r; rotate_right)
    | (extract_lets +onlyGivenNames r; clear_value r)
    | with_reducible refine Kept.ite ?_ ?_
    | with_reducible refine modLane_kept (hM.of rfl) ?_
    | with_reducible refine laneBase_kept (hM.of rfl) ?_
    | with_reducible refine Block_putB_kept (hM.of rfl) ?_
    | with_reducible refine Block_put_kept (hM.of rfl) ?_)

theorem groupSettle_kept (hM : Sub 25198603 m) {a0 : Nat} {s : Block} (h : Kept m s0 s) :
    Kept m s0 (groupSettle a0 s) := by
  unfold groupSettle
  repeat' (first
    | with_reducible assumption
    | intro _
    | (extract_lets +onlyGivenNames r; have hr : Kept m s0 r := ?_; clear_value r; rotate_left; subst r; rotate_right)
    | (extract_lets +onlyGivenNames r; clear_value r)
    | with_reducible refine Kept.ite ?_ ?_
    | with_reducible refine Kept.foldl ?_ ?_
    | with_reducible refine Block_putB_kept (hM.of rfl) ?_
    | with_reducible refine Block_put_kept (hM.of rfl) ?_
    | with_reducible refine forEach_kept (hM.of rfl) ?_ ?_
    | with_reducible refine lanePassed_kept (hM.of rfl) ?_
    | with_reducible refine laneFellBack_kept (hM.of rfl) ?_)

theorem laneResult_kept (hM : Sub 25198603 m) {a0 : Nat} {a1 : Bool} {s : Block} (h : Kept m s0 s) :
    Kept m s0 (laneResult a0 a1 s) := by
  unfold laneResult
  repeat' (first
    | with_reducible assumption
    | with_reducible refine Kept.ite ?_ ?_
    | with_reducible refine lanePassed_kept (hM.of rfl) ?_
    | with_reducible refine laneFellBack_kept (hM.of rfl) ?_
    | with_reducible refine groupSettle_kept (hM.of rfl) ?_
    | with_reducible refine modLane_kept (hM.of rfl) ?_)

theorem baseReady_kept (hM : Sub 32768 m) {a0 : Nat} {s : Block} (h : Kept m s0 s) :
    Kept m s0 (baseReady a0 s) := by
  unfold baseReady
  repeat' (first
    | with_reducible assumption
    | intro _
    | (extract_lets +onlyGivenNames r; clear_value r)
    | with_reducible refine when_kept (hM.of rfl) ?_ ?_
    | with_reducible refine modLane_kept (hM.of rfl) ?_)

theorem groupNumber_kept (hM : Sub 32776 m) {a0 a1 : Nat} {a2 : List Nat} {s : Block} (h : Kept m s0 s) :
    Kept m s0 (groupNumber a0 a1 a2 s) := by
  unfold groupNumber
  repeat' (first
    | with_reducible assumption
    | intro _
    | (extract_lets +onlyGivenNames r; clear_value r)
    | with_reducible refine Kept.foldl ?_ ?_
    | with_reducible refine modLane_kept (hM.of rfl) ?_
    | with_reducible refine Block_put_kept (hM.of rfl) ?_)

theorem laneUpCmd_kept (hM : Sub 8421387 m) {a0 a1 a2 a3 : Nat} {a4 : Cmd} {s : Block} (h : Kept m s0 s) :
    Kept m s0 (laneUpCmd a0 a1 a2 a3 a4 s) := by
  unfold laneUpCmd
  repeat' (first
    | with_reducible assumption
    | intro _
    | (extract_lets +onlyGivenNames r; have hr : Kept m s0 r := ?_; clear_value r; rotate_left; subst r; rotate_right)
    | (extract_lets +onlyGivenNames r; clear_value r)
    | with_reducible refine Kept.ite ?_ ?_
    | with_reducible refine Block_respond_kept (hM.of rfl) ?_
    | with_reducible refine groupNumber_kept (hM.of rfl) ?_
    | with_reducible refine forEach_kept (hM.of rfl) ?_ ?_
    | with_reducible refine laneFirst_kept (hM.of rfl) ?_
    | with_reducible refine Block_hold_kept (hM.of rfl) ?_)

theorem laneDownCmd_kept (hM : Sub 8421384 m) {a0 a1 : Nat} {a2 : Cmd} {s : Block} (h : Kept m s0 s) :
    Kept m s0 (laneDownCmd a0 a1 a2 s) := by
  unfold laneDownCmd
  repeat' (first
    | with_reducible assumption
    | intro _
    | with_reducible refine Kept.ite ?_ ?_
    | with_reducible refine Block_respond_kept (hM.of rfl) ?_
    | with_reducible refine forEach_kept (hM.of rfl) ?_ ?_
    | with_reducible refine laneOff_kept (hM.of rfl) ?_)

theorem laneQuiesceCmd_kept (hM : Sub 8388616 m) {a0 a1 : Nat} {a2 : Cmd} {s : Block} (h : Kept m s0 s) :
    Kept m s0 (laneQuiesceCmd a0 a1 a2 s) := by
  unfold laneQuiesceCmd
  repeat' (first
    | with_reducible assumption
    | intro _
    | with_reducible refine Kept.ite ?_ ?_
    | with_reducible refine Block_respond_kept (hM.of rfl) ?_
    | with_reducible refine forEach_kept (hM.of rfl) ?_ ?_
    | with_reducible refine Block_putB_kept (hM.of rfl) ?_)

theorem laneResumeCmd_kept (hM : Sub 8388616 m) {a0 a1 : Nat} {a2 : Cmd} {s : Block} (h : Kept m s0 s) :
    Kept m s0 (laneResumeCmd a0 a1 a2 s) := by
  unfold laneResumeCmd
  repeat' (first
    | with_reducible assumption
    | intro _
    | with_reducible refine Kept.ite ?_ ?_
    | with_reducible refine Block_respond_kept (hM.of rfl) ?_
    | with_reducible refine forEach_kept (hM.of rfl) ?_ ?_
    | with_reducible refine Block_putB_kept (hM.of rfl) ?_)

theorem laneTest_kept (hM : Sub 32776 m) {a0 : Nat} {s : Block} (h : Kept m s0 s) :
    Kept m s0 (laneTest a0 s) := by
  unfold laneTest
  repeat' (first
    | with_reducible assumption
    | (extract_lets +onlyGivenNames r; clear_value r)
    | with_reducible refine modLane_kept (hM.of rfl) ?_
    | with_reducible refine Block_putB_kept (hM.of rfl) ?_)

theorem laneLoopbackCmd_kept (hM : Sub 8421384 m) {a0 a1 a2 : Nat} {a3 : Cmd} {s : Block} (h : Kept m s0 s) :
    Kept m s0 (laneLoopbackCmd a0 a1 a2 a3 s) := by
  unfold laneLoopbackCmd
  repeat' (first
    | with_reducible assumption
    | with_reducible refine Kept.ite ?_ ?_
    | with_reducible refine Block_respond_kept (hM.of rfl) ?_
    | with_reducible refine laneTest_kept (hM.of rfl) ?_
    | with_reducible refine modLane_kept (hM.of rfl) ?_)

theorem lanePrbsCmd_kept (hM : Sub 8421384 m) {a0 a1 a2 a3 a4 : Nat} {a5 : Cmd} {s : Block} (h : Kept m s0 s) :
    Kept m s0 (lanePrbsCmd a0 a1 a2 a3 a4 a5 s) := by
  unfold lanePrbsCmd
  repeat' (first
    | with_reducible assumption
    | with_reducible refine Kept.ite ?_ ?_
    | with_reducible refine Block_respond_kept (hM.of rfl) ?_
    | with_reducible refine laneTest_kept (hM.of rfl) ?_
    | with_reducible refine modLane_kept (hM.of rfl) ?_)

theorem laneEyescanCmd_kept (hM : Sub 8421376 m) {a0 a1 a2 a3 a4 a5 a6 a7 a8 : Nat} {a9 : Cmd} {s : Block} (h : Kept m s0 s) :
    Kept m s0 (laneEyescanCmd a0 a1 a2 a3 a4 a5 a6 a7 a8 a9 s) := by
  unfold laneEyescanCmd
  repeat' (first
    | with_reducible assumption
    | with_reducible refine Kept.ite ?_ ?_
    | with_reducible refine Block_respond_kept (hM.of rfl) ?_
    | with_reducible refine Block_hold_kept (hM.of rfl) ?_
    | with_reducible refine modLane_kept (hM.of rfl) ?_
    | split)

theorem laneStatusCmd_kept (hM : Sub 8388608 m) {a0 : Nat} {a1 : Cmd} {s : Block} (h : Kept m s0 s) :
    Kept m s0 (laneStatusCmd a0 a1 s) := by
  unfold laneStatusCmd
  repeat' (first
    | with_reducible assumption
    | with_reducible refine Kept.ite ?_ ?_
    | with_reducible refine Block_respond_kept (hM.of rfl) ?_)

theorem laneUpTimeoutStep_kept (hM : Sub 8388612 m) {a0 a1 : Nat} {s : Block} (h : Kept m s0 s) :
    Kept m s0 (laneUpTimeoutStep a0 a1 s) := by
  unfold laneUpTimeoutStep
  repeat' (first
    | with_reducible assumption
    | with_reducible refine Block_close_kept (hM.of rfl) ?_
    | with_reducible refine reachTime_kept (hM.of rfl) ?_
    | split)

theorem laneDrain_kept (hM : Sub 32769 m) {a0 a1 : Nat} {s : Block} (h : Kept m s0 s) :
    Kept m s0 (laneDrain a0 a1 s) := by
  unfold laneDrain
  repeat' (first
    | with_reducible assumption
    | intro _
    | (extract_lets +onlyGivenNames r; have hr : Kept m s0 r := ?_; clear_value r; rotate_left; subst r; rotate_right)
    | (extract_lets +onlyGivenNames r; clear_value r)
    | with_reducible refine Kept.foldl ?_ ?_
    | with_reducible refine setLane_kept (hM.of rfl) ?_
    | with_reducible refine Block_emit_kept (hM.of rfl) ?_)

theorem laneDeliver_kept (hM : Sub 16809992 m) {a0 : Nat} {a1 a2 : Bool} {a3 : BitVec 64} {s : Block} (h : Kept m s0 s) :
    Kept m s0 (laneDeliver a0 a1 a2 a3 s) := by
  unfold laneDeliver
  repeat' (first
    | with_reducible assumption
    | (extract_lets +onlyGivenNames r; clear_value r)
    | with_reducible refine Kept.ite ?_ ?_
    | with_reducible refine setLane_kept (hM.of rfl) ?_
    | with_reducible refine Block_bumpBy_kept (hM.of rfl) ?_)

theorem rawWord_kept (hM : Sub 16809992 m) {a0 a1 : Nat} {s : Block} (h : Kept m s0 s) :
    Kept m s0 (rawWord a0 a1 s) := by
  unfold rawWord
  repeat' (first
    | with_reducible assumption
    | (extract_lets +onlyGivenNames r; clear_value r)
    | with_reducible refine laneDeliver_kept (hM.of rfl) ?_
    | with_reducible refine setLane_kept (hM.of rfl) ?_)

theorem lockGained_kept (hM : Sub 32776 m) {a0 : Nat} {s : Block} (h : Kept m s0 s) :
    Kept m s0 (lockGained a0 s) := by
  unfold lockGained
  repeat' (first
    | with_reducible assumption
    | with_reducible refine modLane_kept (hM.of rfl) ?_
    | with_reducible refine Block_putB_kept (hM.of rfl) ?_)

theorem lockDropped_kept (hM : Sub 16809992 m) {a0 : Nat} {s : Block} (h : Kept m s0 s) :
    Kept m s0 (lockDropped a0 s) := by
  unfold lockDropped
  repeat' (first
    | with_reducible assumption
    | with_reducible refine Block_bumpBy_kept (hM.of rfl) ?_
    | with_reducible refine modLane_kept (hM.of rfl) ?_
    | with_reducible refine Block_putB_kept (hM.of rfl) ?_)

theorem blockLockGainedStep_kept (hM : Sub 32776 m) {a0 : Nat} {s : Block} (h : Kept m s0 s) :
    Kept m s0 (blockLockGainedStep a0 s) := by
  unfold blockLockGainedStep
  repeat' (first
    | with_reducible assumption
    | (extract_lets +onlyGivenNames r; have hr : Kept m s0 r := ?_; clear_value r; rotate_left; subst r; rotate_right)
    | with_reducible refine Kept.ite ?_ ?_
    | with_reducible refine lockGained_kept (hM.of rfl) ?_
    | with_reducible refine Block_put_kept (hM.of rfl) ?_
    | with_reducible refine baseReady_kept (hM.of rfl) ?_)

theorem steerReq_kept (hM : Sub 32769 m) {a0 : Nat} {a1 : Bool} {s : Block} (h : Kept m s0 s) :
    Kept m s0 (steerReq a0 a1 s) := by
  unfold steerReq
  repeat' (first
    | with_reducible assumption
    | intro _
    | (extract_lets +onlyGivenNames r; clear_value r)
    | with_reducible refine forEach_kept (hM.of rfl) ?_ ?_
    | with_reducible refine laneMsg_kept (hM.of rfl) ?_)

theorem steerAbrupt_kept (hM : Sub 32776 m) {a0 : Nat} {s : Block} (h : Kept m s0 s) :
    Kept m s0 (steerAbrupt a0 s) := by
  unfold steerAbrupt
  repeat' (first
    | with_reducible assumption
    | with_reducible refine modLane_kept (hM.of rfl) ?_
    | with_reducible refine Block_putB_kept (hM.of rfl) ?_)

theorem laneLost_kept (hM : Sub 16809992 m) {a0 : Nat} {s : Block} (h : Kept m s0 s) :
    Kept m s0 (laneLost a0 s) := by
  unfold laneLost
  repeat' (first
    | with_reducible assumption
    | with_reducible refine laneEvent_kept (hM.of rfl) ?_
    | with_reducible refine modLane_kept (hM.of rfl) ?_)

theorem blockLockLostStep_kept (hM : Sub 16809993 m) {a0 : Nat} {s : Block} (h : Kept m s0 s) :
    Kept m s0 (blockLockLostStep a0 s) := by
  unfold blockLockLostStep
  repeat' (first
    | with_reducible assumption
    | (extract_lets +onlyGivenNames r; have hr : Kept m s0 r := ?_; clear_value r; rotate_left; subst r; rotate_right)
    | with_reducible refine Kept.ite ?_ ?_
    | with_reducible refine lockDropped_kept (hM.of rfl) ?_
    | with_reducible refine laneLost_kept (hM.of rfl) ?_
    | with_reducible refine steerReq_kept (hM.of rfl) ?_
    | with_reducible refine steerAbrupt_kept (hM.of rfl) ?_)

theorem headerSeen_kept (hM : Sub 16809993 m) {a0 : Nat} {a1 : Bool} {s : Block} (h : Kept m s0 s) :
    Kept m s0 (headerSeen a0 a1 s) := by
  unfold headerSeen
  repeat' (first
    | with_reducible assumption
    | (extract_lets +onlyGivenNames r; have hr : Kept m s0 r := ?_; clear_value r; rotate_left; subst r; rotate_right)
    | (extract_lets +onlyGivenNames r; clear_value r)
    | with_reducible refine Kept.ite ?_ ?_
    | with_reducible refine setLane_kept (hM.of rfl) ?_
    | with_reducible refine blockLockLostStep_kept (hM.of rfl) ?_
    | with_reducible refine blockLockGainedStep_kept (hM.of rfl) ?_)

theorem lnbBad_kept (hM : Sub 16809992 m) {a0 : Nat} {s : Block} (h : Kept m s0 s) :
    Kept m s0 (lnbBad a0 s) := by
  unfold lnbBad
  repeat' (first
    | with_reducible assumption
    | with_reducible refine Block_bumpBy_kept (hM.of rfl) ?_
    | with_reducible refine modLane_kept (hM.of rfl) ?_)

theorem blockToPort_kept (hM : Sub 16809992 m) {a0 : Nat} {a1 a2 : Bool} {a3 : Nat} {s : Block} (h : Kept m s0 s) :
    Kept m s0 (blockToPort a0 a1 a2 a3 s) := by
  unfold blockToPort
  repeat' (first
    | with_reducible assumption
    | with_reducible refine Kept.ite ?_ ?_
    | with_reducible refine laneDeliver_kept (hM.of rfl) ?_
    | with_reducible refine modLane_kept (hM.of rfl) ?_
    | split)

theorem codedBlock_kept (hM : Sub 16809993 m) {a0 a1 a2 : Nat} {s : Block} (h : Kept m s0 s) :
    Kept m s0 (codedBlock a0 a1 a2 s) := by
  unfold codedBlock
  repeat' (first
    | with_reducible assumption
    | intro _
    | (extract_lets +onlyGivenNames r; have hr : Kept m s0 r := ?_; clear_value r; rotate_left; subst r; rotate_right)
    | (extract_lets +onlyGivenNames r; clear_value r)
    | with_reducible refine Kept.ite ?_ ?_
    | with_reducible refine setLane_kept (hM.of rfl) ?_
    | with_reducible refine headerSeen_kept (hM.of rfl) ?_
    | with_reducible refine when_kept (hM.of rfl) ?_ ?_
    | with_reducible refine Block_bumpBy_kept (hM.of rfl) ?_
    | with_reducible refine laneSend_kept (hM.of rfl) ?_
    | with_reducible refine lnbBad_kept (hM.of rfl) ?_
    | with_reducible refine blockToPort_kept (hM.of rfl) ?_)

theorem laneTakes_kept (hM : Sub 16809993 m) {a0 a1 a2 : Nat} {s : Block} (h : Kept m s0 s) :
    Kept m s0 (laneTakes a0 a1 a2 s) := by
  unfold laneTakes
  repeat' (first
    | with_reducible assumption
    | (extract_lets +onlyGivenNames r; have hr : Kept m s0 r := ?_; clear_value r; rotate_left; subst r; rotate_right)
    | (extract_lets +onlyGivenNames r; clear_value r)
    | with_reducible refine Kept.ite ?_ ?_
    | with_reducible refine setLane_kept (hM.of rfl) ?_
    | with_reducible refine Block_bumpBy_kept (hM.of rfl) ?_
    | with_reducible refine rawWord_kept (hM.of rfl) ?_
    | with_reducible refine codedBlock_kept (hM.of rfl) ?_)

theorem laneRxBlockStep_kept (hM : Sub 16809993 m) {a0 a1 a2 a3 : Nat} {s : Block} (h : Kept m s0 s) :
    Kept m s0 (laneRxBlockStep a0 a1 a2 a3 s) := by
  unfold laneRxBlockStep
  repeat' (first
    | with_reducible assumption
    | intro _
    | (extract_lets +onlyGivenNames r; have hr : Kept m s0 r := ?_; clear_value r; rotate_left; subst r; rotate_right)
    | (extract_lets +onlyGivenNames r; clear_value r)
    | with_reducible refine Kept.ite ?_ ?_
    | with_reducible refine laneDrain_kept (hM.of rfl) ?_
    | with_reducible refine when_kept (hM.of rfl) ?_ ?_
    | with_reducible refine laneLine_kept (hM.of rfl) ?_
    | with_reducible refine laneTakes_kept (hM.of rfl) ?_
    | split)

theorem laneLooped_kept (hM : Sub 16809993 m) {a0 : Nat} {a1 : Option (BitVec 2)} {a2 : BitVec 64} {s : Block} (h : Kept m s0 s) :
    Kept m s0 (laneLooped a0 a1 a2 s) := by
  unfold laneLooped
  repeat' (first
    | with_reducible assumption
    | intro _
    | (extract_lets +onlyGivenNames r; clear_value r)
    | with_reducible refine laneTakes_kept (hM.of rfl) ?_
    | with_reducible refine when_kept (hM.of rfl) ?_ ?_
    | with_reducible refine laneLine_kept (hM.of rfl) ?_)

theorem laneOut_kept (hM : Sub 16809993 m) {a0 : Nat} {a1 : Option (BitVec 2)} {a2 : BitVec 64} {s : Block} (h : Kept m s0 s) :
    Kept m s0 (laneOut a0 a1 a2 s) := by
  unfold laneOut
  repeat' (first
    | with_reducible assumption
    | with_reducible refine Kept.ite ?_ ?_
    | with_reducible refine laneLooped_kept (hM.of rfl) ?_
    | with_reducible refine laneLine_kept (hM.of rfl) ?_)

theorem laneAround_kept (hM : Sub 16809993 m) {a0 : Nat} {a1 : Bool} {a2 : BitVec 64} {s : Block} (h : Kept m s0 s) :
    Kept m s0 (laneAround a0 a1 a2 s) := by
  unfold laneAround
  repeat' (first
    | with_reducible assumption
    | (extract_lets +onlyGivenNames r; clear_value r)
    | with_reducible refine laneLooped_kept (hM.of rfl) ?_
    | with_reducible refine setLane_kept (hM.of rfl) ?_)

theorem laneTxBlockStep_kept (hM : Sub 16809993 m) {a0 : Nat} {a1 : Bool} {a2 : BitVec 64} {s : Block} (h : Kept m s0 s) :
    Kept m s0 (laneTxBlockStep a0 a1 a2 s) := by
  unfold laneTxBlockStep
  repeat' (first
    | with_reducible assumption
    | intro _
    | (extract_lets +onlyGivenNames r; have hr : Kept m s0 r := ?_; clear_value r; rotate_left; subst r; rotate_right)
    | (extract_lets +onlyGivenNames r; clear_value r)
    | with_reducible refine Kept.ite ?_ ?_
    | with_reducible refine laneOut_kept (hM.of rfl) ?_
    | with_reducible refine setLane_kept (hM.of rfl) ?_
    | with_reducible refine when_kept (hM.of rfl) ?_ ?_
    | with_reducible refine Block_putB_kept (hM.of rfl) ?_
    | with_reducible refine laneAround_kept (hM.of rfl) ?_
    | with_reducible refine laneSend_kept (hM.of rfl) ?_
    | with_reducible refine forEach_kept (hM.of rfl) ?_ ?_)

theorem rxSlipStep_kept (hM : Sub 32768 m) {a0 : Nat} {s : Block} (h : Kept m s0 s) :
    Kept m s0 (rxSlipStep a0 s) := by
  unfold rxSlipStep
  repeat' (first
    | with_reducible assumption
    | intro _
    | with_reducible refine when_kept (hM.of rfl) ?_ ?_
    | with_reducible refine modLane_kept (hM.of rfl) ?_)

theorem execLaneUp_ran (hM : Sub 8421387 m) (a0 : Hdr) (a1 : Nat) (a2 : Nat) (a3 : Nat) (a4 : Nat) (s : State) : Ran m s (execLaneUp a0 a1 a2 a3 a4 s) := by
  unfold execLaneUp
  refine live_ran (fun s0 s h => ?_) s
  repeat' (first
    | with_reducible assumption
    | intro _
    | with_reducible refine Block_command_kept (hM.of rfl) ?_ ?_
    | with_reducible refine onDie_kept (hM.of rfl) ?_ ?_
    | with_reducible refine laneUpCmd_kept (hM.of rfl) ?_)

theorem execLaneDown_ran (hM : Sub 8421384 m) (a0 : Hdr) (a1 : Nat) (a2 : Nat) (s : State) : Ran m s (execLaneDown a0 a1 a2 s) := by
  unfold execLaneDown
  refine live_ran (fun s0 s h => ?_) s
  repeat' (first
    | with_reducible assumption
    | intro _
    | with_reducible refine Block_command_kept (hM.of rfl) ?_ ?_
    | with_reducible refine onDie_kept (hM.of rfl) ?_ ?_
    | with_reducible refine laneDownCmd_kept (hM.of rfl) ?_)

theorem execLaneQuiesce_ran (hM : Sub 8388616 m) (a0 : Hdr) (a1 : Nat) (a2 : Nat) (s : State) : Ran m s (execLaneQuiesce a0 a1 a2 s) := by
  unfold execLaneQuiesce
  refine live_ran (fun s0 s h => ?_) s
  repeat' (first
    | with_reducible assumption
    | intro _
    | with_reducible refine Block_command_kept (hM.of rfl) ?_ ?_
    | with_reducible refine onDie_kept (hM.of rfl) ?_ ?_
    | with_reducible refine laneQuiesceCmd_kept (hM.of rfl) ?_)

theorem execLaneResume_ran (hM : Sub 8388616 m) (a0 : Hdr) (a1 : Nat) (a2 : Nat) (s : State) : Ran m s (execLaneResume a0 a1 a2 s) := by
  unfold execLaneResume
  refine live_ran (fun s0 s h => ?_) s
  repeat' (first
    | with_reducible assumption
    | intro _
    | with_reducible refine Block_command_kept (hM.of rfl) ?_ ?_
    | with_reducible refine onDie_kept (hM.of rfl) ?_ ?_
    | with_reducible refine laneResumeCmd_kept (hM.of rfl) ?_)

theorem execLaneLoopback_ran (hM : Sub 8421384 m) (a0 : Hdr) (a1 : Nat) (a2 : Nat) (a3 : Nat) (s : State) : Ran m s (execLaneLoopback a0 a1 a2 a3 s) := by
  unfold execLaneLoopback
  refine live_ran (fun s0 s h => ?_) s
  repeat' (first
    | with_reducible assumption
    | intro _
    | with_reducible refine Block_command_kept (hM.of rfl) ?_ ?_
    | with_reducible refine onDie_kept (hM.of rfl) ?_ ?_
    | with_reducible refine laneLoopbackCmd_kept (hM.of rfl) ?_)

theorem execLanePrbs_ran (hM : Sub 8421384 m) (a0 : Hdr) (a1 : Nat) (a2 : Nat) (a3 : Nat) (a4 : Nat) (a5 : Nat) (s : State) : Ran m s (execLanePrbs a0 a1 a2 a3 a4 a5 s) := by
  unfold execLanePrbs
  refine live_ran (fun s0 s h => ?_) s
  repeat' (first
    | with_reducible assumption
    | intro _
    | with_reducible refine Block_command_kept (hM.of rfl) ?_ ?_
    | with_reducible refine onDie_kept (hM.of rfl) ?_ ?_
    | with_reducible refine lanePrbsCmd_kept (hM.of rfl) ?_)

theorem execLaneEyescan_ran (hM : Sub 8421376 m) (a0 : Hdr) (a1 : Nat) (a2 : Nat) (a3 : Nat) (a4 : Nat) (a5 : Nat) (a6 : Nat) (a7 : Nat) (a8 : Nat) (a9 : Nat) (s : State) : Ran m s (execLaneEyescan a0 a1 a2 a3 a4 a5 a6 a7 a8 a9 s) := by
  unfold execLaneEyescan
  refine live_ran (fun s0 s h => ?_) s
  repeat' (first
    | with_reducible assumption
    | intro _
    | with_reducible refine Block_command_kept (hM.of rfl) ?_ ?_
    | with_reducible refine onDie_kept (hM.of rfl) ?_ ?_
    | with_reducible refine laneEyescanCmd_kept (hM.of rfl) ?_)

theorem execLaneStatus_ran (hM : Sub 8388608 m) (a0 : Hdr) (a1 : Nat) (s : State) : Ran m s (execLaneStatus a0 a1 s) := by
  unfold execLaneStatus
  refine live_ran (fun s0 s h => ?_) s
  repeat' (first
    | with_reducible assumption
    | intro _
    | with_reducible refine Block_command_kept (hM.of rfl) ?_ ?_
    | with_reducible refine onDie_kept (hM.of rfl) ?_ ?_
    | with_reducible refine laneStatusCmd_kept (hM.of rfl) ?_)

theorem execLaneUpTimeout_ran (hM : Sub 8388612 m) (a0 : Fin 4) (a1 : BitVec 32) (s : State) : Ran m s (execLaneUpTimeout a0 a1 s) := by
  unfold execLaneUpTimeout
  refine clocked_ran (fun s0 s h => ?_) s
  repeat' (first
    | with_reducible assumption
    | with_reducible refine laneUpTimeoutStep_kept (hM.of rfl) ?_)

theorem execLaneRxBlock_ran (hM : Sub 16809993 m) (a0 : Fin 128) (a1 : BitVec 2) (a2 : BitVec 64) (a3 : Nat) (s : State) : Ran m s (execLaneRxBlock a0 a1 a2 a3 s) := by
  unfold execLaneRxBlock
  refine clockedOn_ran (fun s0 s h => ?_) s
  repeat' (first
    | with_reducible assumption
    | with_reducible refine laneRxBlockStep_kept (hM.of rfl) ?_)

theorem execLaneTxBlock_ran (hM : Sub 16809993 m) (a0 : Fin 128) (a1 : Bool) (a2 : BitVec 64) (s : State) : Ran m s (execLaneTxBlock a0 a1 a2 s) := by
  unfold execLaneTxBlock
  refine clockedOn_ran (fun s0 s h => ?_) s
  repeat' (first
    | with_reducible assumption
    | with_reducible refine laneTxBlockStep_kept (hM.of rfl) ?_)

theorem execRxSlip_ran (hM : Sub 32768 m) (a0 : Fin 128) (s : State) : Ran m s (execRxSlip a0 s) := by
  unfold execRxSlip
  refine clockedOn_ran (fun s0 s h => ?_) s
  repeat' (first
    | with_reducible assumption
    | with_reducible refine rxSlipStep_kept (hM.of rfl) ?_)

/-! ### LaneUp -/

theorem steerAsked_kept (hM : Sub 32776 m) {a0 : Nat} {s : Block} (h : Kept m s0 s) :
    Kept m s0 (steerAsked a0 s) := by
  unfold steerAsked
  repeat' (first
    | with_reducible assumption
    | with_reducible refine modLane_kept (hM.of rfl) ?_
    | with_reducible refine Block_putB_kept (hM.of rfl) ?_)

theorem laneRefuse_kept (hM : Sub 8421384 m) {a0 a1 : Nat} {s : Block} (h : Kept m s0 s) :
    Kept m s0 (laneRefuse a0 a1 s) := by
  unfold laneRefuse
  repeat' (first
    | with_reducible assumption
    | intro _
    | (extract_lets +onlyGivenNames r; have hr : Kept m s0 r := ?_; clear_value r; rotate_left; subst r; rotate_right)
    | (extract_lets +onlyGivenNames r; clear_value r)
    | with_reducible refine Kept.foldl ?_ ?_
    | with_reducible refine Block_answer_kept (hM.of rfl) ?_
    | with_reducible refine when_kept (hM.of rfl) ?_ ?_
    | with_reducible refine forEach_kept (hM.of rfl) ?_ ?_
    | with_reducible refine laneOff_kept (hM.of rfl) ?_)

theorem lnbCapsStep_kept (hM : Sub 8421387 m) {a0 : Nat} {a1 : BitVec 8} {a2 : BitVec 8} {a3 : Bool} {s : Block} (h : Kept m s0 s) :
    Kept m s0 (lnbCapsStep a0 a1 a2 a3 s) := by
  unfold lnbCapsStep
  repeat' (first
    | with_reducible assumption
    | intro _
    | (extract_lets +onlyGivenNames r; have hr : Kept m s0 r := ?_; clear_value r; rotate_left; subst r; rotate_right)
    | (extract_lets +onlyGivenNames r; have hr : Kept m s0 r.2 := ?_; clear_value r; rotate_left; subst r; rotate_right)
    | (extract_lets +onlyGivenNames r; clear_value r)
    | with_reducible refine Kept.ite ?_ ?_
    | with_reducible refine Kept.foldl ?_ ?_
    | with_reducible refine laneRefuse_kept (hM.of rfl) ?_
    | with_reducible refine Block_put_kept (hM.of rfl) ?_
    | with_reducible refine Block_answer_kept (hM.of rfl) ?_
    | with_reducible refine Block_draw_kept (hM.of rfl) ?_
    | with_reducible refine laneCaps_kept (hM.of rfl) ?_
    | with_reducible refine modLane_kept (hM.of rfl) ?_
    | with_reducible refine baseReady_kept (hM.of rfl) ?_)

theorem laneStepBegin_kept (hM : Sub 32776 m) {a0 a1 : Nat} {s : Block} (h : Kept m s0 s) :
    Kept m s0 (laneStepBegin a0 a1 s) := by
  unfold laneStepBegin
  repeat' (first
    | with_reducible assumption
    | with_reducible refine modLane_kept (hM.of rfl) ?_
    | with_reducible refine Block_put_kept (hM.of rfl) ?_)

theorem lnbStepReqStep_kept (hM : Sub 32777 m) {a0 a1 : Nat} {s : Block} (h : Kept m s0 s) :
    Kept m s0 (lnbStepReqStep a0 a1 s) := by
  unfold lnbStepReqStep
  repeat' (first
    | with_reducible assumption
    | (extract_lets +onlyGivenNames r; clear_value r)
    | with_reducible refine Kept.ite ?_ ?_
    | with_reducible refine laneStepBegin_kept (hM.of rfl) ?_
    | with_reducible refine laneMsg_kept (hM.of rfl) ?_)

theorem lnbStepAckStep_kept (hM : Sub 32776 m) {a0 a1 : Nat} {s : Block} (h : Kept m s0 s) :
    Kept m s0 (lnbStepAckStep a0 a1 s) := by
  unfold lnbStepAckStep
  repeat' (first
    | with_reducible assumption
    | intro _
    | with_reducible refine when_kept (hM.of rfl) ?_ ?_
    | with_reducible refine laneStepBegin_kept (hM.of rfl) ?_)

theorem rateSwitched_kept (hM : Sub 32776 m) {a0 a1 : Nat} {s : Block} (h : Kept m s0 s) :
    Kept m s0 (rateSwitched a0 a1 s) := by
  unfold rateSwitched
  repeat' (first
    | with_reducible assumption
    | with_reducible refine modLane_kept (hM.of rfl) ?_
    | with_reducible refine Block_putB_kept (hM.of rfl) ?_
    | with_reducible refine Block_put_kept (hM.of rfl) ?_)

theorem laneRateSwitchStep_kept (hM : Sub 32776 m) {a0 : Nat} {s : Block} (h : Kept m s0 s) :
    Kept m s0 (laneRateSwitchStep a0 s) := by
  unfold laneRateSwitchStep
  repeat' (first
    | with_reducible assumption
    | with_reducible refine Kept.ite ?_ ?_
    | with_reducible refine lanePreset_kept (hM.of rfl) ?_
    | with_reducible refine rateSwitched_kept (hM.of rfl) ?_
    | split)

theorem lnbCoeffStep_kept (hM : Sub 32777 m) {a0 a1 a2 a3 : Nat} {s : Block} (h : Kept m s0 s) :
    Kept m s0 (lnbCoeffStep a0 a1 a2 a3 s) := by
  unfold lnbCoeffStep
  repeat' (first
    | with_reducible assumption
    | (extract_lets +onlyGivenNames r; have hr : Kept m s0 r := ?_; clear_value r; rotate_left; subst r; rotate_right)
    | (extract_lets +onlyGivenNames r; clear_value r)
    | with_reducible refine Kept.ite ?_ ?_
    | with_reducible refine lanePreset_kept (hM.of rfl) ?_
    | with_reducible refine Block_put_kept (hM.of rfl) ?_
    | with_reducible refine laneMsg_kept (hM.of rfl) ?_
    | split)

theorem lnbCoeffAckStep_kept (hM : Sub 32768 m) {a0 : Nat} {s : Block} (h : Kept m s0 s) :
    Kept m s0 (lnbCoeffAckStep a0 s) := by
  unfold lnbCoeffAckStep
  repeat' (first
    | with_reducible assumption
    | with_reducible refine modLane_kept (hM.of rfl) ?_)

theorem eqFound_kept (hM : Sub 8 m) {a0 : Nat} {a1 : BitVec 4} {a2 : BitVec 8} {a3 : BitVec 8} {s : Block} (h : Kept m s0 s) :
    Kept m s0 (eqFound a0 a1 a2 a3 s) := by
  unfold eqFound
  repeat' (first
    | with_reducible assumption
    | with_reducible refine Block_put_kept (hM.of rfl) ?_)

theorem checkBegin_kept (hM : Sub 32768 m) {a0 : Nat} {s : Block} (h : Kept m s0 s) :
    Kept m s0 (checkBegin a0 s) := by
  unfold checkBegin
  repeat' (first
    | with_reducible assumption
    | with_reducible refine modLane_kept (hM.of rfl) ?_)

theorem laneEqEndStep_kept (hM : Sub 8421384 m) {a0 : Nat} {a1 : BitVec 4} {a2 : BitVec 8} {a3 : BitVec 8} {s : Block} (h : Kept m s0 s) :
    Kept m s0 (laneEqEndStep a0 a1 a2 a3 s) := by
  unfold laneEqEndStep
  repeat' (first
    | with_reducible assumption
    | (extract_lets +onlyGivenNames r; have hr : Kept m s0 r := ?_; clear_value r; rotate_left; subst r; rotate_right)
    | with_reducible refine Kept.ite ?_ ?_
    | with_reducible refine eqFound_kept (hM.of rfl) ?_
    | with_reducible refine laneActive_kept (hM.of rfl) ?_
    | with_reducible refine checkBegin_kept (hM.of rfl) ?_
    | with_reducible refine Block_put_kept (hM.of rfl) ?_)

theorem laneCheckEndStep_kept (hM : Sub 25198603 m) {a0 : Nat} {a1 : Bool} {s : Block} (h : Kept m s0 s) :
    Kept m s0 (laneCheckEndStep a0 a1 s) := by
  unfold laneCheckEndStep
  repeat' (first
    | with_reducible assumption
    | intro _
    | with_reducible refine when_kept (hM.of rfl) ?_ ?_
    | with_reducible refine laneResult_kept (hM.of rfl) ?_)

theorem laneLockTimeoutStep_kept (hM : Sub 25198603 m) {a0 : Nat} {s : Block} (h : Kept m s0 s) :
    Kept m s0 (laneLockTimeoutStep a0 s) := by
  unfold laneLockTimeoutStep
  repeat' (first
    | with_reducible assumption
    | intro _
    | with_reducible refine when_kept (hM.of rfl) ?_ ?_
    | with_reducible refine laneResult_kept (hM.of rfl) ?_)

theorem laneAgain_kept (hM : Sub 32773 m) {a0 : Nat} {s : Block} (h : Kept m s0 s) :
    Kept m s0 (laneAgain a0 s) := by
  unfold laneAgain
  repeat' (first
    | with_reducible assumption
    | (extract_lets +onlyGivenNames r; clear_value r)
    | with_reducible refine laneCaps_kept (hM.of rfl) ?_
    | with_reducible refine setLane_kept (hM.of rfl) ?_
    | with_reducible refine reachTime_kept (hM.of rfl) ?_)

theorem laneBaseRetryStep_kept (hM : Sub 16809997 m) {a0 : Nat} {s : Block} (h : Kept m s0 s) :
    Kept m s0 (laneBaseRetryStep a0 s) := by
  unfold laneBaseRetryStep
  repeat' (first
    | with_reducible assumption
    | intro _
    | (extract_lets +onlyGivenNames r; clear_value r)
    | with_reducible refine Kept.ite ?_ ?_
    | with_reducible refine when_kept (hM.of rfl) ?_ ?_
    | with_reducible refine laneEvent_kept (hM.of rfl) ?_
    | with_reducible refine baseReady_kept (hM.of rfl) ?_
    | with_reducible refine laneAgain_kept (hM.of rfl) ?_)

theorem laneRetrainStep_kept (hM : Sub 16809995 m) {a0 : Nat} {s : Block} (h : Kept m s0 s) :
    Kept m s0 (laneRetrainStep a0 s) := by
  unfold laneRetrainStep
  repeat' (first
    | with_reducible assumption
    | intro _
    | (extract_lets +onlyGivenNames r; have hr : Kept m s0 r := ?_; clear_value r; rotate_left; subst r; rotate_right)
    | with_reducible refine Kept.ite ?_ ?_
    | with_reducible refine laneEvent_kept (hM.of rfl) ?_
    | with_reducible refine laneBase_kept (hM.of rfl) ?_
    | with_reducible refine laneStart_kept (hM.of rfl) ?_
    | with_reducible refine forEach_kept (hM.of rfl) ?_ ?_)

theorem laneDegradingStep_kept (hM : Sub 32777 m) {a0 a1 : Nat} {a2 : BitVec 8} {s : Block} (h : Kept m s0 s) :
    Kept m s0 (laneDegradingStep a0 a1 a2 s) := by
  unfold laneDegradingStep
  repeat' (first
    | with_reducible assumption
    | (extract_lets +onlyGivenNames r; have hr : Kept m s0 r := ?_; clear_value r; rotate_left; subst r; rotate_right)
    | with_reducible refine Kept.ite ?_ ?_
    | with_reducible refine Block_put_kept (hM.of rfl) ?_
    | with_reducible refine steerReq_kept (hM.of rfl) ?_
    | with_reducible refine steerAsked_kept (hM.of rfl) ?_)

theorem lnbSteerReqStep_kept (hM : Sub 32768 m) {a0 a1 : Nat} {s : Block} (h : Kept m s0 s) :
    Kept m s0 (lnbSteerReqStep a0 a1 s) := by
  unfold lnbSteerReqStep
  repeat' (first
    | with_reducible assumption
    | intro _
    | with_reducible refine when_kept (hM.of rfl) ?_ ?_
    | with_reducible refine modLane_kept (hM.of rfl) ?_
    | split)

theorem lnbSteerAckStep_kept (hM : Sub 32768 m) {a0 a1 : Nat} {s : Block} (h : Kept m s0 s) :
    Kept m s0 (lnbSteerAckStep a0 a1 s) := by
  unfold lnbSteerAckStep
  repeat' (first
    | with_reducible assumption
    | intro _
    | with_reducible refine forEach_kept (hM.of rfl) ?_ ?_
    | with_reducible refine modLane_kept (hM.of rfl) ?_)

theorem steerMove_kept (hM : Sub 32776 m) {a0 a1 : Nat} {s : Block} (h : Kept m s0 s) :
    Kept m s0 (steerMove a0 a1 s) := by
  unfold steerMove
  repeat' (first
    | with_reducible assumption
    | (extract_lets +onlyGivenNames r; have hr : Kept m s0 r := ?_; clear_value r; rotate_left; subst r; rotate_right)
    | (extract_lets +onlyGivenNames r; clear_value r)
    | with_reducible refine Block_putB_kept (hM.of rfl) ?_
    | with_reducible refine Block_put_kept (hM.of rfl) ?_
    | with_reducible refine modLane_kept (hM.of rfl) ?_)

theorem lnbSteerDoneStep_kept (hM : Sub 32776 m) {a0 a1 : Nat} {s : Block} (h : Kept m s0 s) :
    Kept m s0 (lnbSteerDoneStep a0 a1 s) := by
  unfold lnbSteerDoneStep
  repeat' (first
    | with_reducible assumption
    | with_reducible refine steerMove_kept (hM.of rfl) ?_
    | split)

theorem steerTake_kept (hM : Sub 16809993 m) {a0 a1 : Nat} {a2 : Option (BitVec 64)} {a3 : Nat} {s : Block} (h : Kept m s0 s) :
    Kept m s0 (steerTake a0 a1 a2 a3 s) := by
  unfold steerTake
  repeat' (first
    | with_reducible assumption
    | (extract_lets +onlyGivenNames r; have hr : Kept m s0 r := ?_; clear_value r; rotate_left; subst r; rotate_right)
    | (extract_lets +onlyGivenNames r; clear_value r)
    | with_reducible refine laneMsg_kept (hM.of rfl) ?_
    | with_reducible refine steerMove_kept (hM.of rfl) ?_
    | with_reducible refine Block_eicEdge_kept (hM.of rfl) ?_
    | with_reducible refine Block_raiseAt_kept (hM.of rfl) ?_
    | with_reducible refine laneEvent_kept (hM.of rfl) ?_
    | split)

theorem groupMarkerStep_kept (hM : Sub 16809993 m) {a0 a1 : Nat} {a2 a3 : Bool} {s : Block} (h : Kept m s0 s) :
    Kept m s0 (groupMarkerStep a0 a1 a2 a3 s) := by
  unfold groupMarkerStep
  repeat' (first
    | with_reducible assumption
    | with_reducible refine Kept.ite ?_ ?_
    | with_reducible refine steerTake_kept (hM.of rfl) ?_
    | with_reducible refine modLane_kept (hM.of rfl) ?_
    | split)

theorem sendBmk_kept (hM : Sub 32769 m) {a0 a1 a2 : Nat} {a3 : Bool} {s : Block} (h : Kept m s0 s) :
    Kept m s0 (sendBmk a0 a1 a2 a3 s) := by
  unfold sendBmk
  repeat' (first
    | with_reducible assumption
    | (extract_lets +onlyGivenNames r; have hr : Kept m s0 r := ?_; clear_value r; rotate_left; subst r; rotate_right)
    | (extract_lets +onlyGivenNames r; clear_value r)
    | with_reducible refine laneSend_kept (hM.of rfl) ?_
    | with_reducible refine setLane_kept (hM.of rfl) ?_)

theorem steerStart_kept (hM : Sub 32769 m) {a0 a1 : Nat} {s : Block} (h : Kept m s0 s) :
    Kept m s0 (steerStart a0 a1 s) := by
  unfold steerStart
  repeat' (first
    | with_reducible assumption
    | with_reducible refine laneMsg_kept (hM.of rfl) ?_
    | with_reducible refine modLane_kept (hM.of rfl) ?_
    | split)

theorem bmkOne_kept (hM : Sub 32769 m) {a0 : List Nat} {a1 a2 : Nat} {s : Block} (h : Kept m s0 s) :
    Kept m s0 (bmkOne a0 a1 a2 s) := by
  unfold bmkOne
  repeat' (first
    | with_reducible assumption
    | with_reducible refine sendBmk_kept (hM.of rfl) ?_
    | split)

theorem bmkSendStep_kept (hM : Sub 32769 m) {a0 a1 : Nat} {s : Block} (h : Kept m s0 s) :
    Kept m s0 (bmkSendStep a0 a1 s) := by
  unfold bmkSendStep
  repeat' (first
    | with_reducible assumption
    | intro _
    | with_reducible refine forEach_kept (hM.of rfl) ?_ ?_
    | with_reducible refine bmkOne_kept (hM.of rfl) ?_
    | with_reducible refine steerStart_kept (hM.of rfl) ?_)

theorem lnbRepeatStep_kept (hM : Sub 32769 m) {a0 : Nat} {s : Block} (h : Kept m s0 s) :
    Kept m s0 (lnbRepeatStep a0 s) := by
  unfold lnbRepeatStep
  repeat' (first
    | with_reducible assumption
    | with_reducible refine laneSend_kept (hM.of rfl) ?_
    | split)

theorem eyescanDoneStep_kept (hM : Sub 25264137 m) {a0 : Nat} {a1 : List Nat} {s : Block} (h : Kept m s0 s) :
    Kept m s0 (eyescanDoneStep a0 a1 s) := by
  unfold eyescanDoneStep
  repeat' (first
    | with_reducible assumption
    | (extract_lets +onlyGivenNames r; have hr : Kept m s0 r := ?_; clear_value r; rotate_left; subst r; rotate_right)
    | with_reducible refine writeMem_kept (hM.of rfl) ?_
    | with_reducible refine modLane_kept (hM.of rfl) ?_
    | with_reducible refine Block_close_kept (hM.of rfl) ?_
    | split)

theorem snapLane_kept (hM : Sub 32768 m) {a0 : Nat} {s : Block} (h : Kept m s0 s) :
    Kept m s0 (snapLane a0 s) := by
  unfold snapLane
  repeat' (first
    | with_reducible assumption
    | (extract_lets +onlyGivenNames r; have hr := fun x => r x; subst r)
    | with_reducible refine modLane_kept (hM.of rfl) ?_)

theorem lanesReset_kept (hM : Sub 8421384 m) {a0 : Nat} {s : Block} (h : Kept m s0 s) :
    Kept m s0 (lanesReset a0 s) := by
  unfold lanesReset
  repeat' (first
    | with_reducible assumption
    | intro _
    | (extract_lets +onlyGivenNames r; have hr : Kept m s0 r := ?_; clear_value r; rotate_left; subst r; rotate_right)
    | with_reducible refine Kept.ite ?_ ?_
    | with_reducible refine Kept.foldl ?_ ?_
    | with_reducible refine Block_answer_kept (hM.of rfl) ?_
    | with_reducible refine Block_resetWindows_kept (hM.of rfl) ?_
    | ((with_reducible refine Kept.on_lanes ?_ (hM.of rfl) ?_); rotate_left; exact fun w => spWf_spClear _ _ _ w))

theorem execBlockLockGained_ran (hM : Sub 32776 m) (a0 : Fin 128) (s : State) : Ran m s (execBlockLockGained a0 s) := by
  unfold execBlockLockGained
  refine clockedOn_ran (fun s0 s h => ?_) s
  repeat' (first
    | with_reducible assumption
    | with_reducible refine blockLockGainedStep_kept (hM.of rfl) ?_)

theorem execBlockLockLost_ran (hM : Sub 16809993 m) (a0 : Fin 128) (s : State) : Ran m s (execBlockLockLost a0 s) := by
  unfold execBlockLockLost
  refine clockedOn_ran (fun s0 s h => ?_) s
  repeat' (first
    | with_reducible assumption
    | with_reducible refine blockLockLostStep_kept (hM.of rfl) ?_)

theorem execLnbCaps_ran (hM : Sub 8421387 m) (a0 : Fin 128) (a1 : BitVec 8) (a2 : BitVec 8) (a3 : Bool) (s : State) : Ran m s (execLnbCaps a0 a1 a2 a3 s) := by
  unfold execLnbCaps
  refine clockedOn_ran (fun s0 s h => ?_) s
  repeat' (first
    | with_reducible assumption
    | with_reducible refine lnbCapsStep_kept (hM.of rfl) ?_)

theorem execLnbStepReq_ran (hM : Sub 32777 m) (a0 : Fin 128) (a1 : Fin 8) (s : State) : Ran m s (execLnbStepReq a0 a1 s) := by
  unfold execLnbStepReq
  refine clockedOn_ran (fun s0 s h => ?_) s
  repeat' (first
    | with_reducible assumption
    | with_reducible refine lnbStepReqStep_kept (hM.of rfl) ?_)

theorem execLnbStepAck_ran (hM : Sub 32776 m) (a0 : Fin 128) (a1 : Fin 8) (s : State) : Ran m s (execLnbStepAck a0 a1 s) := by
  unfold execLnbStepAck
  refine clockedOn_ran (fun s0 s h => ?_) s
  repeat' (first
    | with_reducible assumption
    | with_reducible refine lnbStepAckStep_kept (hM.of rfl) ?_)

theorem execLaneRateSwitch_ran (hM : Sub 32776 m) (a0 : Fin 128) (s : State) : Ran m s (execLaneRateSwitch a0 s) := by
  unfold execLaneRateSwitch
  refine clockedOn_ran (fun s0 s h => ?_) s
  repeat' (first
    | with_reducible assumption
    | with_reducible refine laneRateSwitchStep_kept (hM.of rfl) ?_)

theorem execLnbCoeff_ran (hM : Sub 32777 m) (a0 : Fin 128) (a1 : BitVec 4) (a2 : BitVec 2) (a3 : BitVec 2) (s : State) : Ran m s (execLnbCoeff a0 a1 a2 a3 s) := by
  unfold execLnbCoeff
  refine clockedOn_ran (fun s0 s h => ?_) s
  repeat' (first
    | with_reducible assumption
    | with_reducible refine lnbCoeffStep_kept (hM.of rfl) ?_)

theorem execLnbCoeffAck_ran (hM : Sub 32768 m) (a0 : Fin 128) (s : State) : Ran m s (execLnbCoeffAck a0 s) := by
  unfold execLnbCoeffAck
  refine clockedOn_ran (fun s0 s h => ?_) s
  repeat' (first
    | with_reducible assumption
    | with_reducible refine lnbCoeffAckStep_kept (hM.of rfl) ?_)

theorem execLaneEqEnd_ran (hM : Sub 8421384 m) (a0 : Fin 128) (a1 : BitVec 4) (a2 : BitVec 8) (a3 : BitVec 8) (s : State) : Ran m s (execLaneEqEnd a0 a1 a2 a3 s) := by
  unfold execLaneEqEnd
  refine clockedOn_ran (fun s0 s h => ?_) s
  repeat' (first
    | with_reducible assumption
    | with_reducible refine laneEqEndStep_kept (hM.of rfl) ?_)

theorem execLaneCheckEnd_ran (hM : Sub 25198603 m) (a0 : Fin 128) (a1 : Bool) (s : State) : Ran m s (execLaneCheckEnd a0 a1 s) := by
  unfold execLaneCheckEnd
  refine clockedOn_ran (fun s0 s h => ?_) s
  repeat' (first
    | with_reducible assumption
    | with_reducible refine laneCheckEndStep_kept (hM.of rfl) ?_)

theorem execLaneLockTimeout_ran (hM : Sub 25198603 m) (a0 : Fin 128) (s : State) : Ran m s (execLaneLockTimeout a0 s) := by
  unfold execLaneLockTimeout
  refine clockedOn_ran (fun s0 s h => ?_) s
  repeat' (first
    | with_reducible assumption
    | with_reducible refine laneLockTimeoutStep_kept (hM.of rfl) ?_)

theorem execLaneBaseRetry_ran (hM : Sub 16809997 m) (a0 : Fin 128) (s : State) : Ran m s (execLaneBaseRetry a0 s) := by
  unfold execLaneBaseRetry
  refine clockedOn_ran (fun s0 s h => ?_) s
  repeat' (first
    | with_reducible assumption
    | with_reducible refine laneBaseRetryStep_kept (hM.of rfl) ?_)

theorem execLaneRetrain_ran (hM : Sub 16809995 m) (a0 : Fin 128) (s : State) : Ran m s (execLaneRetrain a0 s) := by
  unfold execLaneRetrain
  refine clockedOn_ran (fun s0 s h => ?_) s
  repeat' (first
    | with_reducible assumption
    | with_reducible refine laneRetrainStep_kept (hM.of rfl) ?_)

theorem execLaneDegrading_ran (hM : Sub 32777 m) (a0 : Fin 128) (a1 : BitVec 16) (a2 : BitVec 8) (s : State) : Ran m s (execLaneDegrading a0 a1 a2 s) := by
  unfold execLaneDegrading
  refine clockedOn_ran (fun s0 s h => ?_) s
  repeat' (first
    | with_reducible assumption
    | with_reducible refine laneDegradingStep_kept (hM.of rfl) ?_)

theorem execLnbSteerReq_ran (hM : Sub 32768 m) (a0 : Fin 128) (a1 : Fin 32) (a2 : Bool) (s : State) : Ran m s (execLnbSteerReq a0 a1 a2 s) := by
  unfold execLnbSteerReq
  refine clockedOn_ran (fun s0 s h => ?_) s
  repeat' (first
    | with_reducible assumption
    | with_reducible refine lnbSteerReqStep_kept (hM.of rfl) ?_)

theorem execLnbSteerAck_ran (hM : Sub 32768 m) (a0 : Fin 128) (a1 : Fin 32) (s : State) : Ran m s (execLnbSteerAck a0 a1 s) := by
  unfold execLnbSteerAck
  refine clockedOn_ran (fun s0 s h => ?_) s
  repeat' (first
    | with_reducible assumption
    | with_reducible refine lnbSteerAckStep_kept (hM.of rfl) ?_)

theorem execLnbSteerDone_ran (hM : Sub 32776 m) (a0 : Fin 128) (a1 : Fin 32) (s : State) : Ran m s (execLnbSteerDone a0 a1 s) := by
  unfold execLnbSteerDone
  refine clockedOn_ran (fun s0 s h => ?_) s
  repeat' (first
    | with_reducible assumption
    | with_reducible refine lnbSteerDoneStep_kept (hM.of rfl) ?_)

theorem execGroupMarker_ran (hM : Sub 16809993 m) (a0 : Fin 128) (a1 : Fin 32) (a2 : Bool) (a3 : Bool) (s : State) : Ran m s (execGroupMarker a0 a1 a2 a3 s) := by
  unfold execGroupMarker
  refine clockedOn_ran (fun s0 s h => ?_) s
  repeat' (first
    | with_reducible assumption
    | with_reducible refine groupMarkerStep_kept (hM.of rfl) ?_)

theorem execBmkSend_ran (hM : Sub 32769 m) (a0 : Fin 4) (a1 : BitVec 8) (s : State) : Ran m s (execBmkSend a0 a1 s) := by
  unfold execBmkSend
  refine clockedOn_ran (fun s0 s h => ?_) s
  repeat' (first
    | with_reducible assumption
    | with_reducible refine bmkSendStep_kept (hM.of rfl) ?_)

theorem execLnbRepeat_ran (hM : Sub 32769 m) (a0 : Fin 128) (s : State) : Ran m s (execLnbRepeat a0 s) := by
  unfold execLnbRepeat
  refine clockedOn_ran (fun s0 s h => ?_) s
  repeat' (first
    | with_reducible assumption
    | with_reducible refine lnbRepeatStep_kept (hM.of rfl) ?_)

theorem execEyescanDone_ran (hM : Sub 25264137 m) (a0 : Fin 128) (a1 : List Nat) (s : State) : Ran m s (execEyescanDone a0 a1 s) := by
  unfold execEyescanDone
  refine clockedOn_ran (fun s0 s h => ?_) s
  repeat' (first
    | with_reducible assumption
    | with_reducible refine eyescanDoneStep_kept (hM.of rfl) ?_)

theorem execLaneSnap_ran (hM : Sub 32768 m) (a0 : Fin 128) (s : State) : Ran m s (execLaneSnap a0 s) := by
  unfold execLaneSnap
  refine clockedOn_ran (fun s0 s h => ?_) s
  repeat' (first
    | with_reducible assumption
    | with_reducible refine snapLane_kept (hM.of rfl) ?_)

/-! ### Power -/

theorem ringClose_kept (hM : Sub 8388648 m) {s : Block} (h : Kept m s0 s) :
    Kept m s0 (ringClose s) := by
  unfold ringClose
  repeat' (first
    | with_reducible assumption
    | (extract_lets +onlyGivenNames r; have hr : Kept m s0 r := ?_; clear_value r; rotate_left; subst r; rotate_right)
    | (extract_lets +onlyGivenNames r; clear_value r)
    | with_reducible refine Block_putB_kept (hM.of rfl) ?_
    | with_reducible refine Block_put_kept (hM.of rfl) ?_
    | with_reducible refine Block_close_kept (hM.of rfl) ?_
    | with_reducible refine Kept.upd ?_ (h_ring := .inr (hM.of rfl)))

theorem allPinsSafe_kept (hM : Sub 24586 m) {s : Block} (h : Kept m s0 s) :
    Kept m s0 (allPinsSafe s) := by
  unfold allPinsSafe
  repeat' (first
    | with_reducible assumption
    | intro _
    | (extract_lets +onlyGivenNames r; have hr : Kept m s0 r := ?_; clear_value r; rotate_left; subst r; rotate_right)
    | with_reducible refine forEach_kept (hM.of rfl) ?_ ?_
    | with_reducible refine modTpp_kept (hM.of rfl) ?_
    | with_reducible refine pinToSafe_kept (hM.of rfl) ?_)

theorem clockFault_kept (hM : Sub 25223274 m) {s : Block} (h : Kept m s0 s) :
    Kept m s0 (clockFault s) := by
  unfold clockFault
  repeat' (first
    | with_reducible assumption
    | intro _
    | (extract_lets +onlyGivenNames r; have hr : Kept m s0 r := ?_; clear_value r; rotate_left; subst r; rotate_right)
    | (extract_lets +onlyGivenNames r; clear_value r)
    | with_reducible refine Kept.ite ?_ ?_
    | with_reducible refine forEach_kept (hM.of rfl) ?_ ?_
    | with_reducible refine laneOff_kept (hM.of rfl) ?_
    | with_reducible refine ringClose_kept (hM.of rfl) ?_
    | with_reducible refine allPinsSafe_kept (hM.of rfl) ?_
    | with_reducible refine Block_putB_kept (hM.of rfl) ?_
    | with_reducible refine Block_eicEdge_kept (hM.of rfl) ?_
    | with_reducible refine Block_raise_kept (hM.of rfl) ?_
    | with_reducible refine Kept.upd ?_ (h_clk := .inr (hM.of rfl)))

theorem rootPllUnlockStep_kept (hM : Sub 25223274 m) {s : Block} (h : Kept m s0 s) :
    Kept m s0 (rootPllUnlockStep s) := by
  unfold rootPllUnlockStep
  repeat' (first
    | with_reducible assumption
    | with_reducible refine Kept.ite ?_ ?_
    | with_reducible refine clockFault_kept (hM.of rfl) ?_
    | with_reducible refine Block_putB_kept (hM.of rfl) ?_)

theorem powerLost_kept (hM : Sub 427819016 m) {s : Block} (h : Kept m s0 s) :
    Kept m s0 (powerLost s) := by
  unfold powerLost
  repeat' (first
    | with_reducible assumption
    | with_reducible refine updateHoldCheck_kept (hM.of rfl) ?_
    | with_reducible refine cutBankWrite_kept (hM.of rfl) ?_)

theorem powerWarnStep_kept (hM : Sub 427819016 m) {s : Block} (h : Kept m s0 s) :
    Kept m s0 (powerWarnStep s) := by
  unfold powerWarnStep
  repeat' (first
    | with_reducible assumption
    | (extract_lets +onlyGivenNames r; have hr : Kept m s0 r := ?_; clear_value r; rotate_left; subst r; rotate_right)
    | with_reducible refine Kept.ite ?_ ?_
    | with_reducible refine Block_bumpBy_kept (hM.of rfl) ?_
    | with_reducible refine Block_putB_kept (hM.of rfl) ?_
    | with_reducible refine powerLost_kept (hM.of rfl) ?_
    | with_reducible refine Block_eicEdge_kept (hM.of rfl) ?_
    | with_reducible refine Block_raise_kept (hM.of rfl) ?_)

theorem holdupLostStep_kept (hM : Sub 427819016 m) {s : Block} (h : Kept m s0 s) :
    Kept m s0 (holdupLostStep s) := by
  unfold holdupLostStep
  repeat' (first
    | with_reducible assumption
    | with_reducible refine Kept.ite ?_ ?_
    | with_reducible refine powerLost_kept (hM.of rfl) ?_
    | with_reducible refine Block_eicEdge_kept (hM.of rfl) ?_
    | with_reducible refine Block_raise_kept (hM.of rfl) ?_
    | with_reducible refine Block_putB_kept (hM.of rfl) ?_)

theorem powerWarnClearStep_kept (hM : Sub 92274696 m) {s : Block} (h : Kept m s0 s) :
    Kept m s0 (powerWarnClearStep s) := by
  unfold powerWarnClearStep
  repeat' (first
    | with_reducible assumption
    | with_reducible refine Kept.ite ?_ ?_
    | with_reducible refine fuseStart_kept (hM.of rfl) ?_
    | with_reducible refine Block_eicEdge_kept (hM.of rfl) ?_
    | with_reducible refine Block_raise_kept (hM.of rfl) ?_
    | with_reducible refine Block_putB_kept (hM.of rfl) ?_)

theorem holdupGoodStep_kept (hM : Sub 92274696 m) {s : Block} (h : Kept m s0 s) :
    Kept m s0 (holdupGoodStep s) := by
  unfold holdupGoodStep
  repeat' (first
    | with_reducible assumption
    | with_reducible refine Kept.ite ?_ ?_
    | with_reducible refine fuseStart_kept (hM.of rfl) ?_
    | with_reducible refine Block_eicEdge_kept (hM.of rfl) ?_
    | with_reducible refine Block_raise_kept (hM.of rfl) ?_
    | with_reducible refine Block_putB_kept (hM.of rfl) ?_)

theorem modPwr_kept (hM : Sub 536870912 m) {a0 : PwrSt → PwrSt} {s : Block} (h : Kept m s0 s) :
    Kept m s0 (modPwr a0 s) := by
  unfold modPwr
  repeat' (first
    | with_reducible assumption
    | with_reducible refine Kept.upd ?_ (h_pwr := .inr (hM.of rfl)))

theorem thermTrip_kept (hM : Sub 25223275 m) {s : Block} (h : Kept m s0 s) :
    Kept m s0 (thermTrip s) := by
  unfold thermTrip
  repeat' (first
    | with_reducible assumption
    | with_reducible refine Kept.ite ?_ ?_
    | with_reducible refine Block_emit_kept (hM.of rfl) ?_
    | with_reducible refine Block_putB_kept (hM.of rfl) ?_
    | with_reducible refine clockFault_kept (hM.of rfl) ?_)

theorem calTempCheck_kept (hM : Sub 16777224 m) {a0 : Nat} {a1 : Int} {s : Block} (h : Kept m s0 s) :
    Kept m s0 (calTempCheck a0 a1 s) := by
  unfold calTempCheck
  repeat' (first
    | with_reducible assumption
    | intro _
    | (extract_lets +onlyGivenNames r; clear_value r)
    | with_reducible refine forEach_kept (hM.of rfl) ?_ ?_
    | with_reducible refine when_kept (hM.of rfl) ?_ ?_
    | with_reducible refine tppCalStale_kept (hM.of rfl) ?_
    | split)

theorem thermalOne_kept (hM : Sub 553648136 m) {a0 : Nat} {a1 : BitVec 12} {s : Block} (h : Kept m s0 s) :
    Kept m s0 (thermalOne a0 a1 s) := by
  unfold thermalOne
  repeat' (first
    | with_reducible assumption
    | intro _
    | (extract_lets +onlyGivenNames r; have hr : Kept m s0 r := ?_; clear_value r; rotate_left; subst r; rotate_right)
    | (extract_lets +onlyGivenNames r; clear_value r)
    | with_reducible refine Kept.ite ?_ ?_
    | with_reducible refine Block_put_kept (hM.of rfl) ?_
    | with_reducible refine when_kept (hM.of rfl) ?_ ?_
    | with_reducible refine Block_putB_kept (hM.of rfl) ?_
    | with_reducible refine Block_raise_kept (hM.of rfl) ?_
    | with_reducible refine modPwr_kept (hM.of rfl) ?_
    | with_reducible refine calTempCheck_kept (hM.of rfl) ?_)

theorem thermalSampleStep_kept (hM : Sub 562094187 m) {a0 : List (BitVec 12)} {s : Block} (h : Kept m s0 s) :
    Kept m s0 (thermalSampleStep a0 s) := by
  unfold thermalSampleStep
  repeat' (first
    | with_reducible assumption
    | intro _
    | (extract_lets +onlyGivenNames r; have hr : Kept m s0 r := ?_; clear_value r; rotate_left; subst r; rotate_right)
    | (extract_lets +onlyGivenNames r; clear_value r)
    | with_reducible refine forEach_kept (hM.of rfl) ?_ ?_
    | with_reducible refine thermalOne_kept (hM.of rfl) ?_
    | with_reducible refine modPwr_kept (hM.of rfl) ?_
    | with_reducible refine when_kept (hM.of rfl) ?_ ?_
    | with_reducible refine thermTrip_kept (hM.of rfl) ?_)

theorem railOne_kept (hM : Sub 553648136 m) {a0 a1 : Nat} {s : Block} (h : Kept m s0 s) :
    Kept m s0 (railOne a0 a1 s) := by
  unfold railOne
  repeat' (first
    | with_reducible assumption
    | (extract_lets +onlyGivenNames r; have hr : Kept m s0 r := ?_; clear_value r; rotate_left; subst r; rotate_right)
    | (extract_lets +onlyGivenNames r; have hr := fun x => r x; subst r)
    | (extract_lets +onlyGivenNames r; clear_value r)
    | with_reducible refine Kept.ite ?_ ?_
    | with_reducible refine Block_putB_kept (hM.of rfl) ?_
    | with_reducible refine modPwr_kept (hM.of rfl) ?_
    | with_reducible refine Block_raise_kept (hM.of rfl) ?_
    | split)

theorem railSampleStep_kept (hM : Sub 553648136 m) {a0 : List Nat} {s : Block} (h : Kept m s0 s) :
    Kept m s0 (railSampleStep a0 s) := by
  unfold railSampleStep
  repeat' (first
    | with_reducible assumption
    | intro _
    | with_reducible refine forEach_kept (hM.of rfl) ?_ ?_
    | with_reducible refine railOne_kept (hM.of rfl) ?_
    | split)

theorem pwrStatusCmd_kept (hM : Sub 8388608 m) {a0 : Cmd} {s : Block} (h : Kept m s0 s) :
    Kept m s0 (pwrStatusCmd a0 s) := by
  unfold pwrStatusCmd
  repeat' (first
    | with_reducible assumption
    | with_reducible refine Block_respond_kept (hM.of rfl) ?_)

theorem thermSetCmd_kept (hM : Sub 8388616 m) {a0 a1 : Nat} {a2 : Cmd} {s : Block} (h : Kept m s0 s) :
    Kept m s0 (thermSetCmd a0 a1 a2 s) := by
  unfold thermSetCmd
  repeat' (first
    | with_reducible assumption
    | with_reducible refine Kept.ite ?_ ?_
    | with_reducible refine Block_respond_kept (hM.of rfl) ?_
    | with_reducible refine Block_put_kept (hM.of rfl) ?_)

theorem execRootPllUnlock_ran (hM : Sub 25223274 m) (s : State) : Ran m s (execRootPllUnlock s) := by
  unfold execRootPllUnlock
  refine live_ran (fun s0 s h => ?_) s
  repeat' (first
    | with_reducible assumption
    | with_reducible refine rootPllUnlockStep_kept (hM.of rfl) ?_)

theorem execPowerWarn_ran (hM : Sub 427819016 m) (s : State) : Ran m s (execPowerWarn s) := by
  unfold execPowerWarn
  refine live_ran (fun s0 s h => ?_) s
  repeat' (first
    | with_reducible assumption
    | with_reducible refine powerWarnStep_kept (hM.of rfl) ?_)

theorem execHoldupLost_ran (hM : Sub 427819016 m) (s : State) : Ran m s (execHoldupLost s) := by
  unfold execHoldupLost
  refine live_ran (fun s0 s h => ?_) s
  repeat' (first
    | with_reducible assumption
    | with_reducible refine holdupLostStep_kept (hM.of rfl) ?_)

theorem execPowerWarnClear_ran (hM : Sub 92274696 m) (s : State) : Ran m s (execPowerWarnClear s) := by
  unfold execPowerWarnClear
  refine live_ran (fun s0 s h => ?_) s
  repeat' (first
    | with_reducible assumption
    | with_reducible refine powerWarnClearStep_kept (hM.of rfl) ?_)

theorem execHoldupGood_ran (hM : Sub 92274696 m) (s : State) : Ran m s (execHoldupGood s) := by
  unfold execHoldupGood
  refine live_ran (fun s0 s h => ?_) s
  repeat' (first
    | with_reducible assumption
    | with_reducible refine holdupGoodStep_kept (hM.of rfl) ?_)

theorem execThermalSample_ran (hM : Sub 562094187 m) (a0 : List (BitVec 12)) (s : State) : Ran m s (execThermalSample a0 s) := by
  unfold execThermalSample
  refine live_ran (fun s0 s h => ?_) s
  repeat' (first
    | with_reducible assumption
    | with_reducible refine thermalSampleStep_kept (hM.of rfl) ?_)

theorem execRailSample_ran (hM : Sub 553648136 m) (a0 : List Nat) (s : State) : Ran m s (execRailSample a0 s) := by
  unfold execRailSample
  refine live_ran (fun s0 s h => ?_) s
  repeat' (first
    | with_reducible assumption
    | with_reducible refine railSampleStep_kept (hM.of rfl) ?_)

theorem execPwrStatus_ran (hM : Sub 8388608 m) (a0 : Hdr) (s : State) : Ran m s (execPwrStatus a0 s) := by
  unfold execPwrStatus
  refine live_ran (fun s0 s h => ?_) s
  repeat' (first
    | with_reducible assumption
    | intro _
    | with_reducible refine Block_command_kept (hM.of rfl) ?_ ?_
    | with_reducible refine pwrStatusCmd_kept (hM.of rfl) ?_)

theorem execThermSet_ran (hM : Sub 8388616 m) (a0 : Hdr) (a1 : Nat) (a2 : Nat) (s : State) : Ran m s (execThermSet a0 a1 a2 s) := by
  unfold execThermSet
  refine live_ran (fun s0 s h => ?_) s
  repeat' (first
    | with_reducible assumption
    | intro _
    | with_reducible refine Block_command_kept (hM.of rfl) ?_ ?_
    | with_reducible refine thermSetCmd_kept (hM.of rfl) ?_)

/-! ### Events -/

theorem modEv_kept (hM : Sub 16777216 m) {a0 : EvSt → EvSt} {s : Block} (h : Kept m s0 s) :
    Kept m s0 (modEv a0 s) := by
  unfold modEv
  repeat' (first
    | with_reducible assumption
    | with_reducible refine Kept.upd ?_ (h_ev := .inr (hM.of rfl)))

theorem eventFrameStep_kept (hM : Sub 16777216 m) {s : Block} (h : Kept m s0 s) :
    Kept m s0 (eventFrameStep s) := by
  unfold eventFrameStep
  repeat' (first
    | with_reducible assumption
    | with_reducible refine Kept.ite ?_ ?_
    | with_reducible refine modEv_kept (hM.of rfl) ?_
    | split)

theorem fifoPop_kept (hM : Sub 16777216 m) {s : Block} (h : Kept m s0 s) :
    Kept m s0 (fifoPop s) := by
  unfold fifoPop
  repeat' (first
    | with_reducible assumption
    | (extract_lets +onlyGivenNames r; have hr : Kept m s0 r := ?_; clear_value r; rotate_left; subst r; rotate_right)
    | with_reducible refine Kept.ite ?_ ?_
    | with_reducible refine modEv_kept (hM.of rfl) ?_)

theorem eventPush_kept (hM : Sub 18874376 m) {a0 : EvEntry} {s : Block} (h : Kept m s0 s) :
    Kept m s0 (eventPush a0 s) := by
  unfold eventPush
  repeat' (first
    | with_reducible assumption
    | with_reducible refine Kept.ite ?_ ?_
    | with_reducible refine qePushArrive_kept (hM.of rfl) ?_
    | split)

theorem logFrame_kept (hM : Sub 18874376 m) {a0 : EvFrame} {s : Block} (h : Kept m s0 s) :
    Kept m s0 (logFrame a0 s) := by
  unfold logFrame
  repeat' (first
    | with_reducible assumption
    | (extract_lets +onlyGivenNames r; have hr : Kept m s0 r := ?_; clear_value r; rotate_left; subst r; rotate_right)
    | (extract_lets +onlyGivenNames r; clear_value r)
    | with_reducible refine fifoPop_kept (hM.of rfl) ?_
    | with_reducible refine modEv_kept (hM.of rfl) ?_
    | with_reducible refine Block_eicEdge_kept (hM.of rfl) ?_
    | with_reducible refine eventPush_kept (hM.of rfl) ?_)

theorem eventLogWriteStep_kept (hM : Sub 18874376 m) {s : Block} (h : Kept m s0 s) :
    Kept m s0 (eventLogWriteStep s) := by
  unfold eventLogWriteStep
  repeat' (first
    | with_reducible assumption
    | with_reducible refine Kept.ite ?_ ?_
    | with_reducible refine logFrame_kept (hM.of rfl) ?_
    | split)

theorem eventReadCmd_kept (hM : Sub 8388608 m) {a0 : Nat} {a1 : Cmd} {s : Block} (h : Kept m s0 s) :
    Kept m s0 (eventReadCmd a0 a1 s) := by
  unfold eventReadCmd
  repeat' (first
    | with_reducible assumption
    | with_reducible refine Block_respond_kept (hM.of rfl) ?_
    | split)

theorem eventQueueCmd_kept (hM : Sub 25165824 m) {a0 a1 : Nat} {a2 : Cmd} {s : Block} (h : Kept m s0 s) :
    Kept m s0 (eventQueueCmd a0 a1 a2 s) := by
  unfold eventQueueCmd
  repeat' (first
    | with_reducible assumption
    | with_reducible refine Kept.ite ?_ ?_
    | with_reducible refine Block_respond_kept (hM.of rfl) ?_
    | with_reducible refine modEv_kept (hM.of rfl) ?_)

theorem execEventFrame_ran (hM : Sub 16777216 m) (s : State) : Ran m s (execEventFrame s) := by
  unfold execEventFrame
  refine live_ran (fun s0 s h => ?_) s
  repeat' (first
    | with_reducible assumption
    | with_reducible refine eventFrameStep_kept (hM.of rfl) ?_)

theorem execEventLogWrite_ran (hM : Sub 18874376 m) (s : State) : Ran m s (execEventLogWrite s) := by
  unfold execEventLogWrite
  refine live_ran (fun s0 s h => ?_) s
  repeat' (first
    | with_reducible assumption
    | with_reducible refine eventLogWriteStep_kept (hM.of rfl) ?_)

theorem execEventRead_ran (hM : Sub 8388608 m) (a0 : Hdr) (a1 : Nat) (s : State) : Ran m s (execEventRead a0 a1 s) := by
  unfold execEventRead
  refine live_ran (fun s0 s h => ?_) s
  repeat' (first
    | with_reducible assumption
    | intro _
    | with_reducible refine Block_command_kept (hM.of rfl) ?_ ?_
    | with_reducible refine eventReadCmd_kept (hM.of rfl) ?_)

theorem execEventQueue_ran (hM : Sub 25165824 m) (a0 : Hdr) (a1 : Nat) (a2 : Nat) (s : State) : Ran m s (execEventQueue a0 a1 a2 s) := by
  unfold execEventQueue
  refine live_ran (fun s0 s h => ?_) s
  repeat' (first
    | with_reducible assumption
    | intro _
    | with_reducible refine Block_command_kept (hM.of rfl) ?_ ?_
    | with_reducible refine eventQueueCmd_kept (hM.of rfl) ?_)

/-! ### Access -/

theorem mbxDoorbellStep_kept (hM : Sub 16777224 m) {a0 a1 : Nat} {s : Block} (h : Kept m s0 s) :
    Kept m s0 (mbxDoorbellStep a0 a1 s) := by
  unfold mbxDoorbellStep
  repeat' (first
    | with_reducible assumption
    | (extract_lets +onlyGivenNames r; clear_value r)
    | with_reducible refine Kept.ite ?_ ?_
    | with_reducible refine Block_put_kept (hM.of rfl) ?_
    | with_reducible refine Block_bump_kept (hM.of rfl) ?_)

theorem mbxRspReleaseStep_kept (hM : Sub 8 m) {a0 a1 : Nat} {s : Block} (h : Kept m s0 s) :
    Kept m s0 (mbxRspReleaseStep a0 a1 s) := by
  unfold mbxRspReleaseStep
  repeat' (first
    | with_reducible assumption
    | (extract_lets +onlyGivenNames r; clear_value r)
    | with_reducible refine Kept.ite ?_ ?_
    | with_reducible refine Block_put_kept (hM.of rfl) ?_)

theorem writeNoc_kept (hM : Sub 8 m) {a0 a1 a2 : Nat} {a3 : Bool} {a4 : Nat} {s : Block} (h : Kept m s0 s) :
    Kept m s0 (writeNoc a0 a1 a2 a3 a4 s) := by
  unfold writeNoc
  repeat' (first
    | with_reducible assumption
    | (extract_lets +onlyGivenNames r; have hr : Kept m s0 r := ?_; clear_value r; rotate_left; subst r; rotate_right)
    | (extract_lets +onlyGivenNames r; clear_value r)
    | with_reducible refine Kept.ite ?_ ?_
    | with_reducible refine Block_plainWrite_kept (hM.of rfl) ?_
    | with_reducible refine Block_setReg_kept (hM.of rfl) ?_)

theorem readReg8_kept (hM : Sub 10 m) {a0 : Nat} {s : Block} (h : Kept m s0 s) :
    Kept m s0 (readReg8 a0 s).2 := by
  unfold readReg8
  repeat' (first
    | with_reducible assumption
    | (extract_lets +onlyGivenNames r; have hr : Kept m s0 r.2 := ?_; clear_value r; rotate_left; subst r; rotate_right)
    | with_reducible refine eicClaimRead_kept (hM.of rfl) ?_
    | with_reducible refine Block_draw_kept (hM.of rfl) ?_
    | split)

theorem readReg_kept (hM : Sub 10 m) {a0 : Nat} {a1 : Bool} {s : Block} (h : Kept m s0 s) :
    Kept m s0 (readReg a0 a1 s).2 := by
  unfold readReg
  repeat' (first
    | with_reducible assumption
    | (extract_lets +onlyGivenNames r; clear_value r)
    | with_reducible refine Kept.ite2 ?_ ?_
    | with_reducible refine readReg8_kept (hM.of rfl) ?_)

theorem writeTargetPage_kept (hM : Sub 16777224 m) {a0 a1 : Nat} {a2 : Bool} {a3 : Nat} {a4 : Bool} {a5 : Nat} {s : Block} (h : Kept m s0 s) :
    Kept m s0 (writeTargetPage a0 a1 a2 a3 a4 a5 s) := by
  unfold writeTargetPage
  repeat' (first
    | with_reducible assumption
    | with_reducible refine Kept.ite ?_ ?_
    | with_reducible refine eicCompleteStep_kept (hM.of rfl) ?_
    | with_reducible refine settleNotified_kept (hM.of rfl) ?_
    | with_reducible refine Block_plainWrite_kept (hM.of rfl) ?_)

theorem writeTpp_kept (hM : Sub 8 m) {a0 a1 a2 : Nat} {a3 : Bool} {a4 : Nat} {s : Block} (h : Kept m s0 s) :
    Kept m s0 (writeTpp a0 a1 a2 a3 a4 s) := by
  unfold writeTpp
  repeat' (first
    | with_reducible assumption
    | (extract_lets +onlyGivenNames r; have hr : Kept m s0 r := ?_; clear_value r; rotate_left; subst r; rotate_right)
    | with_reducible refine Kept.ite ?_ ?_
    | with_reducible refine Block_putB_kept (hM.of rfl) ?_
    | with_reducible refine Block_plainWrite_kept (hM.of rfl) ?_
    | with_reducible refine cntClearStep_kept (hM.of rfl) ?_)

theorem writeDie_kept (hM : Sub 303112 m) {a0 a1 a2 a3 : Nat} {a4 : Bool} {a5 : Nat} {s : Block} (h : Kept m s0 s) :
    Kept m s0 (writeDie a0 a1 a2 a3 a4 a5 s) := by
  unfold writeDie
  repeat' (first
    | with_reducible assumption
    | (extract_lets +onlyGivenNames r; have hr : Kept m s0 r := ?_; clear_value r; rotate_left; subst r; rotate_right)
    | with_reducible refine Kept.ite ?_ ?_
    | with_reducible refine writeNoc_kept (hM.of rfl) ?_
    | with_reducible refine lsuKeyWrite_kept (hM.of rfl) ?_
    | with_reducible refine ioPinWriteStep_kept (hM.of rfl) ?_
    | with_reducible refine writeTpp_kept (hM.of rfl) ?_
    | with_reducible refine Block_plainWrite_kept (hM.of rfl) ?_
    | with_reducible refine bracketGoStep_kept (hM.of rfl) ?_
    | with_reducible refine snapLane_kept (hM.of rfl) ?_)

theorem writeMbx_kept (hM : Sub 16777224 m) {a0 a1 : Nat} {a2 : Bool} {a3 : Nat} {s : Block} (h : Kept m s0 s) :
    Kept m s0 (writeMbx a0 a1 a2 a3 s) := by
  unfold writeMbx
  repeat' (first
    | with_reducible assumption
    | (extract_lets +onlyGivenNames r; clear_value r)
    | with_reducible refine Kept.ite ?_ ?_
    | with_reducible refine writeTargetPage_kept (hM.of rfl) ?_
    | with_reducible refine mbxDoorbellStep_kept (hM.of rfl) ?_
    | with_reducible refine mbxRspReleaseStep_kept (hM.of rfl) ?_
    | with_reducible refine Block_plainWrite_kept (hM.of rfl) ?_
    | split)

theorem writeReg_kept (hM : Sub 19177481 m) {a0 : Nat} {a1 : Bool} {a2 : Nat} {s : Block} (h : Kept m s0 s) :
    Kept m s0 (writeReg a0 a1 a2 s) := by
  unfold writeReg
  repeat' (first
    | with_reducible assumption
    | (extract_lets +onlyGivenNames r; have hr : Kept m s0 r := ?_; clear_value r; rotate_left; subst r; rotate_right)
    | (extract_lets +onlyGivenNames r; clear_value r)
    | with_reducible refine Kept.ite ?_ ?_
    | with_reducible refine writeMbx_kept (hM.of rfl) ?_
    | with_reducible refine writeTargetPage_kept (hM.of rfl) ?_
    | with_reducible refine Block_plainWrite_kept (hM.of rfl) ?_
    | with_reducible refine sourceChanged_kept (hM.of rfl) ?_
    | with_reducible refine vecChanged_kept (hM.of rfl) ?_
    | with_reducible refine writeNoc_kept (hM.of rfl) ?_
    | with_reducible refine writeDie_kept (hM.of rfl) ?_)

theorem counterClearWriteStep_kept (hM : Sub 19177481 m) {a0 : Nat} {a1 : Bool} {a2 : Nat} {s : Block} (h : Kept m s0 s) :
    Kept m s0 (counterClearWriteStep a0 a1 a2 s) := by
  unfold counterClearWriteStep
  repeat' (first
    | with_reducible assumption
    | with_reducible refine Kept.ite ?_ ?_
    | with_reducible refine writeReg_kept (hM.of rfl) ?_)

theorem regReadCmd_kept (hM : Sub 8388618 m) {a0 a1 : Nat} {a2 : Cmd} {s : Block} (h : Kept m s0 s) :
    Kept m s0 (regReadCmd a0 a1 a2 s) := by
  unfold regReadCmd
  repeat' (first
    | with_reducible assumption
    | (extract_lets +onlyGivenNames r; have hr : Kept m s0 r.2 := ?_; clear_value r; rotate_left; subst r; rotate_right)
    | with_reducible refine Kept.ite ?_ ?_
    | with_reducible refine Block_respond_kept (hM.of rfl) ?_
    | with_reducible refine readReg_kept (hM.of rfl) ?_
    | split)

theorem regWriteCmd_kept (hM : Sub 27566089 m) {a0 a1 a2 : Nat} {a3 : Cmd} {s : Block} (h : Kept m s0 s) :
    Kept m s0 (regWriteCmd a0 a1 a2 a3 s) := by
  unfold regWriteCmd
  repeat' (first
    | with_reducible assumption
    | with_reducible refine Kept.ite ?_ ?_
    | with_reducible refine Block_respond_kept (hM.of rfl) ?_
    | with_reducible refine writeReg_kept (hM.of rfl) ?_
    | split)

theorem execMbxDoorbell_ran (hM : Sub 16777224 m) (a0 : Port) (a1 : BitVec 7) (s : State) : Ran m s (execMbxDoorbell a0 a1 s) := by
  unfold execMbxDoorbell
  refine live_ran (fun s0 s h => ?_) s
  repeat' (first
    | with_reducible assumption
    | with_reducible refine mbxDoorbellStep_kept (hM.of rfl) ?_)

theorem execMbxRspRelease_ran (hM : Sub 8 m) (a0 : Port) (a1 : BitVec 7) (s : State) : Ran m s (execMbxRspRelease a0 a1 s) := by
  unfold execMbxRspRelease
  refine live_ran (fun s0 s h => ?_) s
  repeat' (first
    | with_reducible assumption
    | with_reducible refine mbxRspReleaseStep_kept (hM.of rfl) ?_)

theorem execCounterClearWrite_ran (hM : Sub 19177481 m) (a0 : BitVec 32) (a1 : Bool) (a2 : BitVec 64) (s : State) : Ran m s (execCounterClearWrite a0 a1 a2 s) := by
  unfold execCounterClearWrite
  refine live_ran (fun s0 s h => ?_) s
  repeat' (first
    | with_reducible assumption
    | with_reducible refine counterClearWriteStep_kept (hM.of rfl) ?_)

theorem execRegisterWrite_ran (hM : Sub 19177481 m) (a0 : BitVec 32) (a1 : Bool) (a2 : BitVec 64) (s : State) : Ran m s (execRegisterWrite a0 a1 a2 s) := by
  unfold execRegisterWrite
  refine live_ran (fun s0 s h => ?_) s
  repeat' (first
    | with_reducible assumption
    | with_reducible refine writeReg_kept (hM.of rfl) ?_)

theorem execRegRead_ran (hM : Sub 8388618 m) (a0 : Hdr) (a1 : Nat) (a2 : Nat) (s : State) : Ran m s (execRegRead a0 a1 a2 s) := by
  unfold execRegRead
  refine live_ran (fun s0 s h => ?_) s
  repeat' (first
    | with_reducible assumption
    | intro _
    | with_reducible refine Block_command_kept (hM.of rfl) ?_ ?_
    | with_reducible refine regReadCmd_kept (hM.of rfl) ?_)

theorem execRegWrite_ran (hM : Sub 27566089 m) (a0 : Hdr) (a1 : Nat) (a2 : Nat) (a3 : Nat) (s : State) : Ran m s (execRegWrite a0 a1 a2 a3 s) := by
  unfold execRegWrite
  refine live_ran (fun s0 s h => ?_) s
  repeat' (first
    | with_reducible assumption
    | intro _
    | with_reducible refine Block_command_kept (hM.of rfl) ?_ ?_
    | with_reducible refine regWriteCmd_kept (hM.of rfl) ?_)

theorem execRegRd_ran (hM : Sub 8388618 m) (a0 : Hdr) (a1 : Nat) (s : State) : Ran m s (execRegRd a0 a1 s) := by
  unfold execRegRd
  refine live_ran (fun s0 s h => ?_) s
  repeat' (first
    | with_reducible assumption
    | intro _
    | with_reducible refine Block_commandV1_kept (hM.of rfl) ?_ ?_
    | with_reducible refine regReadCmd_kept (hM.of rfl) ?_)

theorem execRegWr_ran (hM : Sub 27566089 m) (a0 : Hdr) (a1 : Nat) (a2 : Nat) (s : State) : Ran m s (execRegWr a0 a1 a2 s) := by
  unfold execRegWr
  refine live_ran (fun s0 s h => ?_) s
  repeat' (first
    | with_reducible assumption
    | intro _
    | with_reducible refine Block_commandV1_kept (hM.of rfl) ?_ ?_
    | with_reducible refine regWriteCmd_kept (hM.of rfl) ?_)

end Sys2Proof.Laws
end

