-- ==== Sys2Proof/Laws/KeptNoc.lean ====
section
/-! SUPPORT. What each named operation keeps (Laws/Kept.lean): the network, plates and self-tests. -/

namespace Sys2Proof.Laws

set_option Elab.async false
set_option linter.unusedTactic false
set_option linter.unreachableTactic false

open Machine

variable {m : Nat} {s0 : Block}

/-! ### Noc -/

theorem partAnswer_kept (hM : Sub 134742017 m) {a0 a1 a2 a3 a4 a5 a6 : Nat} {s : Block} (h : Kept m s0 s) :
    Kept m s0 (partAnswer a0 a1 a2 a3 a4 a5 a6 s) := by
  unfold partAnswer
  repeat' (first
    | with_reducible assumption
    | intro _
    | (extract_lets +onlyGivenNames r; have hr : Kept m s0 r := ?_; clear_value r; rotate_left; subst r; rotate_right)
    | with_reducible refine when_kept (hM.of rfl) ?_ ?_
    | with_reducible refine netData_kept (hM.of rfl) ?_
    | with_reducible refine reqPart_kept (hM.of rfl) ?_)

theorem addPosted_kept (hM : Sub 524288 m) {a0 a1 : Nat} {s : Block} (h : Kept m s0 s) :
    Kept m s0 (addPosted a0 a1 s) := by
  unfold addPosted
  repeat' (first
    | with_reducible assumption
    | (extract_lets +onlyGivenNames r; clear_value r)
    | with_reducible refine Kept.ite ?_ ?_
    | with_reducible refine Kept.upd ?_ (h_net := .inr (hM.of rfl)))

theorem partSend_kept (hM : Sub 524289 m) {a0 a1 a2 : Nat} {a3 : Option Nat} {a4 : Bool} {a5 : NetSeg} {a6 : List Nat} {s : Block} (h : Kept m s0 s) :
    Kept m s0 (partSend a0 a1 a2 a3 a4 a5 a6 s) := by
  unfold partSend
  repeat' (first
    | with_reducible assumption
    | (extract_lets +onlyGivenNames r; have hr : Kept m s0 r := ?_; clear_value r; rotate_left; subst r; rotate_right)
    | (extract_lets +onlyGivenNames r; clear_value r)
    | with_reducible refine Block_emit_kept (hM.of rfl) ?_
    | with_reducible refine addPosted_kept (hM.of rfl) ?_
    | with_reducible refine passWaiting_kept (hM.of rfl) ?_
    | split
    | with_reducible refine Kept.upd ?_ (h_net := .inr (hM.of rfl)))

theorem partIssue_kept (hM : Sub 153919499 m) {a0 a1 a2 a3 a4 : Nat} {a5 : Option Nat} {a6 : Bool} {a7 : NetSeg} {a8 : List Nat} {s : Block} (h : Kept m s0 s) :
    Kept m s0 (partIssue a0 a1 a2 a3 a4 a5 a6 a7 a8 s) := by
  unfold partIssue
  repeat' (first
    | with_reducible assumption
    | (extract_lets +onlyGivenNames r; have hr : Kept m s0 r.2 := ?_; clear_value r; rotate_left; subst r; rotate_right)
    | (extract_lets +onlyGivenNames r; have hr := fun x => r x; subst r)
    | (extract_lets +onlyGivenNames r; clear_value r)
    | with_reducible refine Kept.ite ?_ ?_
    | with_reducible refine partAnswer_kept (hM.of rfl) ?_
    | with_reducible refine bumpDiscard_kept (hM.of rfl) ?_
    | with_reducible refine readReg_kept (hM.of rfl) ?_
    | with_reducible refine writeReg_kept (hM.of rfl) ?_
    | with_reducible refine addPosted_kept (hM.of rfl) ?_
    | with_reducible refine Block_emit_kept (hM.of rfl) ?_
    | with_reducible refine rejectPush_kept (hM.of rfl) ?_
    | with_reducible refine badDoorbell_kept (hM.of rfl) ?_
    | with_reducible refine partSend_kept (hM.of rfl) ?_)

theorem countErrors_kept (hM : Sub 16777224 m) {a0 a1 : Nat} {a2 : List NetSeg} {s : Block} (h : Kept m s0 s) :
    Kept m s0 (countErrors a0 a1 a2 s) := by
  unfold countErrors
  repeat' (first
    | with_reducible assumption
    | intro _
    | (extract_lets +onlyGivenNames r; clear_value r)
    | with_reducible refine when_kept (hM.of rfl) ?_ ?_
    | with_reducible refine Block_bump_kept (hM.of rfl) ?_)

theorem issueParts_kept (hM : Sub 153919499 m) {a0 a1 a2 a3 a4 a5 : Nat} {a6 : Bool} {a7 : List Nat} {a8 : List Nat} {s : Block} (h : Kept m s0 s) :
    Kept m s0 (issueParts a0 a1 a2 a3 a4 a5 a6 a7 a8 s) := by
  unfold issueParts
  repeat' (first
    | with_reducible assumption
    | intro _
    | (extract_lets +onlyGivenNames r; have hr : Kept m s0 r := ?_; clear_value r; rotate_left; subst r; rotate_right)
    | (extract_lets +onlyGivenNames r; clear_value r)
    | with_reducible refine Kept.ite ?_ ?_
    | with_reducible refine Kept.ite2 ?_ ?_
    | with_reducible refine Kept.foldl2 ?_ ?_
    | with_reducible refine countErrors_kept (hM.of rfl) ?_
    | with_reducible refine partIssue_kept (hM.of rfl) ?_
    | with_reducible refine Kept.upd ?_ (h_net := .inr (hM.of rfl)))

theorem nocIssue_kept (hM : Sub 153919499 m) {a0 a1 a2 a3 a4 a5 : Nat} {a6 : Bool} {a7 : List Nat} {s : Block} (h : Kept m s0 s) :
    Kept m s0 (nocIssue a0 a1 a2 a3 a4 a5 a6 a7 s) := by
  unfold nocIssue
  repeat' (first
    | with_reducible assumption
    | (extract_lets +onlyGivenNames r; clear_value r)
    | with_reducible refine Kept.ite ?_ ?_
    | with_reducible refine issueParts_kept (hM.of rfl) ?_)

theorem responseTaken_kept (hM : Sub 159907849 m) {a0 : NetPart} {a1 : Nat} {a2 : List (Nat × Bool × BitVec 512)} {a3 : Bool} {s : Block} (h : Kept m s0 s) :
    Kept m s0 (responseTaken a0 a1 a2 a3 s) := by
  unfold responseTaken
  repeat' (first
    | with_reducible assumption
    | intro _
    | (extract_lets +onlyGivenNames r; have hr : Kept m s0 r := ?_; clear_value r; rotate_left; subst r; rotate_right)
    | (extract_lets +onlyGivenNames r; clear_value r)
    | with_reducible refine Kept.foldl ?_ ?_
    | with_reducible refine when_kept (hM.of rfl) ?_ ?_
    | with_reducible refine bumpRspDrop_kept (hM.of rfl) ?_
    | with_reducible refine Block_raise_kept (hM.of rfl) ?_
    | with_reducible refine netData_kept (hM.of rfl) ?_
    | with_reducible refine partDone_kept (hM.of rfl) ?_)

theorem nocResponseArriveStep_kept (hM : Sub 159907849 m) {a0 a1 a2 : Nat} {a3 : List (Nat × Bool × BitVec 512)} {a4 : Bool} {s : Block} (h : Kept m s0 s) :
    Kept m s0 (nocResponseArriveStep a0 a1 a2 a3 a4 s) := by
  unfold nocResponseArriveStep
  repeat' (first
    | with_reducible assumption
    | with_reducible refine responseTaken_kept (hM.of rfl) ?_
    | split)

theorem apTargetRequestStep_kept (hM : Sub 159907849 m) {a0 a1 a2 a3 a4 a5 a6 : Nat} {a7 : List Nat} {s : Block} (h : Kept m s0 s) :
    Kept m s0 (apTargetRequestStep a0 a1 a2 a3 a4 a5 a6 a7 s) := by
  unfold apTargetRequestStep
  repeat' (first
    | with_reducible assumption
    | (extract_lets +onlyGivenNames r; clear_value r)
    | with_reducible refine Kept.ite ?_ ?_
    | with_reducible refine bumpDiscard_kept (hM.of rfl) ?_
    | with_reducible refine Block_emit_kept (hM.of rfl) ?_
    | with_reducible refine partFail_kept (hM.of rfl) ?_
    | split)

theorem apAnswered_kept (hM : Sub 524289 m) {a0 a1 a2 : Nat} {a3 : NetPart} {a4 : Bool} {a5 : List Nat} {s : Block} (h : Kept m s0 s) :
    Kept m s0 (apAnswered a0 a1 a2 a3 a4 a5 s) := by
  unfold apAnswered
  repeat' (first
    | with_reducible assumption
    | (extract_lets +onlyGivenNames r; have hr : Kept m s0 r := ?_; clear_value r; rotate_left; subst r; rotate_right)
    | (extract_lets +onlyGivenNames r; clear_value r)
    | with_reducible refine passWaiting_kept (hM.of rfl) ?_
    | with_reducible refine Block_emit_kept (hM.of rfl) ?_
    | with_reducible refine Kept.upd ?_ (h_net := .inr (hM.of rfl)))

theorem apTargetResponseStep_kept (hM : Sub 17301513 m) {a0 a1 a2 : Nat} {a3 : Bool} {a4 : List Nat} {s : Block} (h : Kept m s0 s) :
    Kept m s0 (apTargetResponseStep a0 a1 a2 a3 a4 s) := by
  unfold apTargetResponseStep
  repeat' (first
    | with_reducible assumption
    | (extract_lets +onlyGivenNames r; clear_value r)
    | with_reducible refine Kept.ite ?_ ?_
    | with_reducible refine bumpRspDrop_kept (hM.of rfl) ?_
    | with_reducible refine apAnswered_kept (hM.of rfl) ?_
    | split)

theorem fencePoint_kept (hM : Sub 524289 m) {a0 : Nat} {a1 : FenceFor} {a2 : Nat} {a3 : List Nat} {s : Block} (h : Kept m s0 s) :
    Kept m s0 (fencePoint a0 a1 a2 a3 s) := by
  unfold fencePoint
  repeat' (first
    | with_reducible assumption
    | intro _
    | (extract_lets +onlyGivenNames r; have hr : Kept m s0 r := ?_; clear_value r; rotate_left; subst r; rotate_right)
    | (extract_lets +onlyGivenNames r; clear_value r)
    | with_reducible refine Kept.foldl ?_ ?_
    | with_reducible refine Block_emit_kept (hM.of rfl) ?_
    | with_reducible refine markSent_kept (hM.of rfl) ?_
    | with_reducible refine Kept.upd ?_ (h_net := .inr (hM.of rfl)))

theorem nocFenceStep_kept (hM : Sub 143130625 m) {a0 a1 : Nat} {s : Block} (h : Kept m s0 s) :
    Kept m s0 (nocFenceStep a0 a1 s) := by
  unfold nocFenceStep
  repeat' (first
    | with_reducible assumption
    | (extract_lets +onlyGivenNames r; clear_value r)
    | with_reducible refine Kept.ite ?_ ?_
    | with_reducible refine settleFences_kept (hM.of rfl) ?_
    | with_reducible refine fencePoint_kept (hM.of rfl) ?_)

theorem fenceMarkStep_kept (hM : Sub 1 m) {a0 a1 : Nat} {s : Block} (h : Kept m s0 s) :
    Kept m s0 (fenceMarkStep a0 a1 s) := by
  unfold fenceMarkStep
  repeat' (first
    | with_reducible assumption
    | with_reducible refine Kept.ite ?_ ?_
    | with_reducible refine Block_emit_kept (hM.of rfl) ?_)

theorem globalFenceMarker_kept (hM : Sub 143130625 m) {s : Block} (h : Kept m s0 s) :
    Kept m s0 (globalFenceMarker s) := by
  unfold globalFenceMarker
  repeat' (first
    | with_reducible assumption
    | intro _
    | (extract_lets +onlyGivenNames r; have hr : Kept m s0 r := ?_; clear_value r; rotate_left; subst r; rotate_right)
    | (extract_lets +onlyGivenNames r; clear_value r)
    | with_reducible refine Kept.ite ?_ ?_
    | with_reducible refine Kept.foldl ?_ ?_
    | with_reducible refine fencePoint_kept (hM.of rfl) ?_
    | with_reducible refine settleFences_kept (hM.of rfl) ?_
    | with_reducible refine Block_close_kept (hM.of rfl) ?_
    | with_reducible refine Kept.upd ?_ (h_net := .inr (hM.of rfl)))

theorem globalFenceRestart_kept (hM : Sub 8912896 m) {s : Block} (h : Kept m s0 s) :
    Kept m s0 (globalFenceRestart s) := by
  unfold globalFenceRestart
  repeat' (first
    | with_reducible assumption
    | (extract_lets +onlyGivenNames r; clear_value r)
    | with_reducible refine Kept.upd ?_ (h_net := .inr (hM.of rfl)) (h_mbx := .inr (hM.of rfl)))

theorem flitOut_kept (hM : Sub 1572865 m) {a0 a1 : Nat} {a2 : BitVec 128} {a3 : BitVec 512} {s : Block} (h : Kept m s0 s) :
    Kept m s0 (flitOut a0 a1 a2 a3 s) := by
  unfold flitOut
  repeat' (first
    | with_reducible assumption
    | (extract_lets +onlyGivenNames r; have hr : Kept m s0 r := ?_; clear_value r; rotate_left; subst r; rotate_right)
    | (extract_lets +onlyGivenNames r; clear_value r)
    | with_reducible refine bridgeTake_kept (hM.of rfl) ?_
    | with_reducible refine Block_emit_kept (hM.of rfl) ?_
    | split
    | with_reducible refine Kept.upd ?_ (h_net := .inr (hM.of rfl)))

theorem pumpFlits_kept (hM : Sub 1572865 m) {s : Block} (h : Kept m s0 s) :
    Kept m s0 (pumpFlits s) := by
  unfold pumpFlits
  repeat' (first
    | with_reducible assumption
    | intro _
    | (extract_lets +onlyGivenNames r; have hr : Kept m s0 r := ?_; clear_value r; rotate_left; subst r; rotate_right)
    | (extract_lets +onlyGivenNames r; have hr : Kept m s0 r.2 := ?_; clear_value r; rotate_left; subst r; rotate_right)
    | (extract_lets +onlyGivenNames r; clear_value r)
    | with_reducible refine Kept.ite2 ?_ ?_
    | with_reducible refine Kept.foldl2 ?_ ?_
    | with_reducible refine flitOut_kept (hM.of rfl) ?_
    | with_reducible refine Kept.upd ?_ (h_net := .inr (hM.of rfl)))

theorem routerFlitStep_kept (hM : Sub 18350089 m) {a0 : Nat} {a1 : BitVec 128} {a2 : BitVec 512} {a3 : Nat} {s : Block} (h : Kept m s0 s) :
    Kept m s0 (routerFlitStep a0 a1 a2 a3 s) := by
  unfold routerFlitStep
  repeat' (first
    | with_reducible assumption
    | (extract_lets +onlyGivenNames r; clear_value r)
    | with_reducible refine Kept.ite ?_ ?_
    | with_reducible refine Block_eicEdge_kept (hM.of rfl) ?_
    | with_reducible refine Block_raise_kept (hM.of rfl) ?_
    | with_reducible refine Block_emit_kept (hM.of rfl) ?_
    | with_reducible refine pumpFlits_kept (hM.of rfl) ?_
    | split
    | with_reducible refine Kept.upd ?_ (h_net := .inr (hM.of rfl)))

theorem nocCreditReturnStep_kept (hM : Sub 1572865 m) {a0 a1 a2 : Nat} {s : Block} (h : Kept m s0 s) :
    Kept m s0 (nocCreditReturnStep a0 a1 a2 s) := by
  unfold nocCreditReturnStep
  repeat' (first
    | with_reducible assumption
    | (extract_lets +onlyGivenNames r; clear_value r)
    | with_reducible refine pumpFlits_kept (hM.of rfl) ?_
    | with_reducible refine Kept.upd ?_ (h_net := .inr (hM.of rfl)))

theorem writeTables_kept (hM : Sub 524296 m) {a0 : TableSet} {s : Block} (h : Kept m s0 s) :
    Kept m s0 (writeTables a0 s) := by
  unfold writeTables
  repeat' (first
    | with_reducible assumption
    | intro _
    | (extract_lets +onlyGivenNames r; clear_value r)
    | with_reducible refine Kept.foldl ?_ ?_
    | with_reducible refine Block_putB_kept (hM.of rfl) ?_
    | with_reducible refine Block_resetRange_kept (hM.of rfl) ?_
    | with_reducible refine Kept.upd ?_ (h_net := .inr (hM.of rfl)))

theorem rerouteBegin_kept (hM : Sub 524297 m) {s : Block} (h : Kept m s0 s) :
    Kept m s0 (rerouteBegin s) := by
  unfold rerouteBegin
  repeat' (first
    | with_reducible assumption
    | intro _
    | (extract_lets +onlyGivenNames r; have hr : Kept m s0 r := ?_; clear_value r; rotate_left; subst r; rotate_right)
    | (extract_lets +onlyGivenNames r; clear_value r)
    | with_reducible refine Kept.ite ?_ ?_
    | with_reducible refine Kept.foldl ?_ ?_
    | with_reducible refine Block_emit_kept (hM.of rfl) ?_
    | with_reducible refine writeTables_kept (hM.of rfl) ?_
    | split
    | with_reducible refine Kept.upd ?_ (h_net := .inr (hM.of rfl)))

theorem rerouteAsked_kept (hM : Sub 524288 m) {a0 : TableSet} {a1 : List Nat} {s : Block} (h : Kept m s0 s) :
    Kept m s0 (rerouteAsked a0 a1 s) := by
  unfold rerouteAsked
  repeat' (first
    | with_reducible assumption
    | (extract_lets +onlyGivenNames r; clear_value r)
    | with_reducible refine Kept.upd ?_ (h_net := .inr (hM.of rfl)))

theorem rerouteStartStep_kept (hM : Sub 524297 m) {a0 : BitVec 4} {a1 : List Nat} {a2 : List Nat} {a3 : List Nat} {s : Block} (h : Kept m s0 s) :
    Kept m s0 (rerouteStartStep a0 a1 a2 a3 s) := by
  unfold rerouteStartStep
  repeat' (first
    | with_reducible assumption
    | with_reducible refine Kept.ite ?_ ?_
    | with_reducible refine rerouteBegin_kept (hM.of rfl) ?_
    | with_reducible refine rerouteAsked_kept (hM.of rfl) ?_)

theorem modReroute_kept (hM : Sub 524288 m) {a0 : Reroute → Reroute} {s : Block} (h : Kept m s0 s) :
    Kept m s0 (modReroute a0 s) := by
  unfold modReroute
  repeat' (first
    | with_reducible assumption
    | (extract_lets +onlyGivenNames r; clear_value r)
    | split
    | with_reducible refine Kept.upd ?_ (h_net := .inr (hM.of rfl)))

theorem rerouteMarker_kept (hM : Sub 524297 m) {s : Block} (h : Kept m s0 s) :
    Kept m s0 (rerouteMarker s) := by
  unfold rerouteMarker
  repeat' (first
    | with_reducible assumption
    | intro _
    | (extract_lets +onlyGivenNames r; have hr : Kept m s0 r := ?_; clear_value r; rotate_left; subst r; rotate_right)
    | (extract_lets +onlyGivenNames r; clear_value r)
    | with_reducible refine Kept.ite ?_ ?_
    | with_reducible refine Kept.foldl ?_ ?_
    | with_reducible refine modReroute_kept (hM.of rfl) ?_
    | with_reducible refine Block_putB_kept (hM.of rfl) ?_
    | with_reducible refine Block_put_kept (hM.of rfl) ?_
    | with_reducible refine fencePoint_kept (hM.of rfl) ?_
    | split)

theorem tableRetired_kept (hM : Sub 8 m) {a0 : Nat} {s : Block} (h : Kept m s0 s) :
    Kept m s0 (tableRetired a0 s) := by
  unfold tableRetired
  repeat' (first
    | with_reducible assumption
    | (extract_lets +onlyGivenNames r; clear_value r)
    | with_reducible refine Block_putB_kept (hM.of rfl) ?_)

theorem rerouteComplete_kept (hM : Sub 160956425 m) {s : Block} (h : Kept m s0 s) :
    Kept m s0 (rerouteComplete s) := by
  unfold rerouteComplete
  repeat' (first
    | with_reducible assumption
    | intro _
    | (extract_lets +onlyGivenNames r; have hr : Kept m s0 r := ?_; clear_value r; rotate_left; subst r; rotate_right)
    | (extract_lets +onlyGivenNames r; clear_value r)
    | with_reducible refine Kept.foldl ?_ ?_
    | with_reducible refine Block_eicEdge_kept (hM.of rfl) ?_
    | with_reducible refine Block_raise_kept (hM.of rfl) ?_
    | with_reducible refine rerouteBegin_kept (hM.of rfl) ?_
    | with_reducible refine dlDownDone_kept (hM.of rfl) ?_
    | with_reducible refine Kept.upd ?_ (h_net := .inr (hM.of rfl)))

theorem routerTableRetireStep_kept (hM : Sub 160956425 m) {a0 : Nat} {s : Block} (h : Kept m s0 s) :
    Kept m s0 (routerTableRetireStep a0 s) := by
  unfold routerTableRetireStep
  repeat' (first
    | with_reducible assumption
    | with_reducible refine Kept.ite ?_ ?_
    | with_reducible refine tableRetired_kept (hM.of rfl) ?_
    | with_reducible refine rerouteComplete_kept (hM.of rfl) ?_
    | split)

theorem rerouteSlowStep_kept (hM : Sub 17301516 m) {s : Block} (h : Kept m s0 s) :
    Kept m s0 (rerouteSlowStep s) := by
  unfold rerouteSlowStep
  repeat' (first
    | with_reducible assumption
    | (extract_lets +onlyGivenNames r; have hr : Kept m s0 r := ?_; clear_value r; rotate_left; subst r; rotate_right)
    | with_reducible refine Kept.ite ?_ ?_
    | with_reducible refine reachTime_kept (hM.of rfl) ?_
    | with_reducible refine Block_eicEdge_kept (hM.of rfl) ?_
    | with_reducible refine modReroute_kept (hM.of rfl) ?_
    | with_reducible refine Block_raise_kept (hM.of rfl) ?_
    | split)

theorem rerouteRestart_kept (hM : Sub 524297 m) {s : Block} (h : Kept m s0 s) :
    Kept m s0 (rerouteRestart s) := by
  unfold rerouteRestart
  repeat' (first
    | with_reducible assumption
    | with_reducible refine rerouteBegin_kept (hM.of rfl) ?_
    | with_reducible refine modReroute_kept (hM.of rfl) ?_)

theorem targetTimeoutStep_kept (hM : Sub 159973385 m) {a0 : Nat} {s : Block} (h : Kept m s0 s) :
    Kept m s0 (targetTimeoutStep a0 s) := by
  unfold targetTimeoutStep
  repeat' (first
    | with_reducible assumption
    | with_reducible refine Kept.ite ?_ ?_
    | with_reducible refine Block_putB_kept (hM.of rfl) ?_
    | with_reducible refine channelError_kept (hM.of rfl) ?_
    | with_reducible refine isolatePort_kept (hM.of rfl) ?_)

theorem nocIsolateCmd_kept (hM : Sub 159907849 m) {a0 : Nat} {a1 : Cmd} {s : Block} (h : Kept m s0 s) :
    Kept m s0 (nocIsolateCmd a0 a1 s) := by
  unfold nocIsolateCmd
  repeat' (first
    | with_reducible assumption
    | with_reducible refine Kept.ite ?_ ?_
    | with_reducible refine Block_respond_kept (hM.of rfl) ?_
    | with_reducible refine isolatePort_kept (hM.of rfl) ?_)

theorem portReleased_kept (hM : Sub 524296 m) {a0 : Nat} {s : Block} (h : Kept m s0 s) :
    Kept m s0 (portReleased a0 s) := by
  unfold portReleased
  repeat' (first
    | with_reducible assumption
    | intro _
    | with_reducible refine when_kept (hM.of rfl) ?_ ?_
    | with_reducible refine Block_putB_kept (hM.of rfl) ?_
    | with_reducible refine setPort_kept (hM.of rfl) ?_)

theorem nocReleaseCmd_kept (hM : Sub 8912904 m) {a0 : Nat} {a1 : Cmd} {s : Block} (h : Kept m s0 s) :
    Kept m s0 (nocReleaseCmd a0 a1 s) := by
  unfold nocReleaseCmd
  repeat' (first
    | with_reducible assumption
    | with_reducible refine Kept.ite ?_ ?_
    | with_reducible refine Block_respond_kept (hM.of rfl) ?_
    | with_reducible refine portReleased_kept (hM.of rfl) ?_)

theorem nocStatusCmd_kept (hM : Sub 8388608 m) {a0 a1 a2 : Nat} {a3 : Cmd} {s : Block} (h : Kept m s0 s) :
    Kept m s0 (nocStatusCmd a0 a1 a2 a3 s) := by
  unfold nocStatusCmd
  repeat' (first
    | with_reducible assumption
    | with_reducible refine Kept.ite ?_ ?_
    | with_reducible refine Block_respond_kept (hM.of rfl) ?_)

theorem domDrainStart_kept (hM : Sub 524296 m) {a0 : Nat} {s : Block} (h : Kept m s0 s) :
    Kept m s0 (domDrainStart a0 s) := by
  unfold domDrainStart
  repeat' (first
    | with_reducible assumption
    | intro _
    | (extract_lets +onlyGivenNames r; have hr : Kept m s0 r := ?_; clear_value r; rotate_left; subst r; rotate_right)
    | (extract_lets +onlyGivenNames r; clear_value r)
    | with_reducible refine forEach_kept (hM.of rfl) ?_ ?_
    | with_reducible refine drainPort_kept (hM.of rfl) ?_
    | with_reducible refine Kept.upd ?_ (h_net := .inr (hM.of rfl)))

theorem sitePowerOff_kept (hM : Sub 135266312 m) {a0 : Nat} {s : Block} (h : Kept m s0 s) :
    Kept m s0 (sitePowerOff a0 s) := by
  unfold sitePowerOff
  repeat' (first
    | with_reducible assumption
    | intro _
    | (extract_lets +onlyGivenNames r; have hr : Kept m s0 r := ?_; clear_value r; rotate_left; subst r; rotate_right)
    | (extract_lets +onlyGivenNames r; clear_value r)
    | with_reducible refine Kept.foldl ?_ ?_
    | with_reducible refine forEach_kept (hM.of rfl) ?_ ?_
    | with_reducible refine Block_put_kept (hM.of rfl) ?_
    | with_reducible refine eicSiteGone_kept (hM.of rfl) ?_
    | with_reducible refine releaseRun_kept (hM.of rfl) ?_
    | with_reducible refine Kept.upd ?_ (h_dl := .inr (hM.of rfl)))

theorem drainEnded_kept (hM : Sub 143130633 m) {a0 : Nat} {s : Block} (h : Kept m s0 s) :
    Kept m s0 (drainEnded a0 s) := by
  unfold drainEnded
  repeat' (first
    | with_reducible assumption
    | intro _
    | (extract_lets +onlyGivenNames r; have hr : Kept m s0 r := ?_; clear_value r; rotate_left; subst r; rotate_right)
    | (extract_lets +onlyGivenNames r; clear_value r)
    | with_reducible refine forEach_kept (hM.of rfl) ?_ ?_
    | with_reducible refine closePort_kept (hM.of rfl) ?_
    | with_reducible refine Kept.upd ?_ (h_net := .inr (hM.of rfl)))

theorem domainOff_kept (hM : Sub 135790600 m) {a0 : Nat} {s : Block} (h : Kept m s0 s) :
    Kept m s0 (domainOff a0 s) := by
  unfold domainOff
  repeat' (first
    | with_reducible assumption
    | intro _
    | (extract_lets +onlyGivenNames r; clear_value r)
    | with_reducible refine when_kept (hM.of rfl) ?_ ?_
    | with_reducible refine sitePowerOff_kept (hM.of rfl) ?_
    | with_reducible refine Kept.upd ?_ (h_net := .inr (hM.of rfl)))

theorem domainDrainEndStep_kept (hM : Sub 144179209 m) {a0 : Nat} {s : Block} (h : Kept m s0 s) :
    Kept m s0 (domainDrainEndStep a0 s) := by
  unfold domainDrainEndStep
  repeat' (first
    | with_reducible assumption
    | with_reducible refine Kept.ite ?_ ?_
    | with_reducible refine drainEnded_kept (hM.of rfl) ?_
    | with_reducible refine Block_close_kept (hM.of rfl) ?_
    | with_reducible refine domainOff_kept (hM.of rfl) ?_)

theorem drainAtOnce_kept (hM : Sub 144179209 m) {a0 : Nat} {s : Block} (h : Kept m s0 s) :
    Kept m s0 (drainAtOnce a0 s) := by
  unfold drainAtOnce
  repeat' (first
    | with_reducible assumption
    | intro _
    | with_reducible refine when_kept (hM.of rfl) ?_ ?_
    | with_reducible refine domainDrainEndStep_kept (hM.of rfl) ?_)

theorem nocDomainOffCmd_kept (hM : Sub 144179209 m) {a0 : Nat} {a1 : Cmd} {s : Block} (h : Kept m s0 s) :
    Kept m s0 (nocDomainOffCmd a0 a1 s) := by
  unfold nocDomainOffCmd
  repeat' (first
    | with_reducible assumption
    | with_reducible refine Kept.ite ?_ ?_
    | with_reducible refine Block_respond_kept (hM.of rfl) ?_
    | with_reducible refine drainAtOnce_kept (hM.of rfl) ?_
    | with_reducible refine Block_hold_kept (hM.of rfl) ?_
    | with_reducible refine domDrainStart_kept (hM.of rfl) ?_)

theorem domainOn_kept (hM : Sub 1572872 m) {a0 : Nat} {s : Block} (h : Kept m s0 s) :
    Kept m s0 (domainOn a0 s) := by
  unfold domainOn
  repeat' (first
    | with_reducible assumption
    | intro _
    | (extract_lets +onlyGivenNames r; have hr : Kept m s0 r := ?_; clear_value r; rotate_left; subst r; rotate_right)
    | (extract_lets +onlyGivenNames r; clear_value r)
    | with_reducible refine Kept.ite ?_ ?_
    | with_reducible refine Kept.foldl ?_ ?_
    | with_reducible refine forEach_kept (hM.of rfl) ?_ ?_
    | with_reducible refine setPort_kept (hM.of rfl) ?_
    | with_reducible refine when_kept (hM.of rfl) ?_ ?_
    | with_reducible refine discover_kept (hM.of rfl) ?_
    | with_reducible refine Kept.upd ?_ (h_net := .inr (hM.of rfl)))

theorem nocDomainOnCmd_kept (hM : Sub 9961480 m) {a0 : Nat} {a1 : Cmd} {s : Block} (h : Kept m s0 s) :
    Kept m s0 (nocDomainOnCmd a0 a1 s) := by
  unfold nocDomainOnCmd
  repeat' (first
    | with_reducible assumption
    | with_reducible refine Kept.ite ?_ ?_
    | with_reducible refine Block_respond_kept (hM.of rfl) ?_
    | with_reducible refine domainOn_kept (hM.of rfl) ?_)

theorem domainOpenedStep_kept (hM : Sub 524296 m) {a0 : Nat} {s : Block} (h : Kept m s0 s) :
    Kept m s0 (domainOpenedStep a0 s) := by
  unfold domainOpenedStep
  repeat' (first
    | with_reducible assumption
    | intro _
    | (extract_lets +onlyGivenNames r; have hr : Kept m s0 r := ?_; clear_value r; rotate_left; subst r; rotate_right)
    | with_reducible refine Kept.ite ?_ ?_
    | with_reducible refine forEach_kept (hM.of rfl) ?_ ?_
    | with_reducible refine setPort_kept (hM.of rfl) ?_
    | with_reducible refine when_kept (hM.of rfl) ?_ ?_
    | with_reducible refine tppPlates_kept (hM.of rfl) ?_)

theorem netDieReset_kept (hM : Sub 143130625 m) {a0 : Nat} {s : Block} (h : Kept m s0 s) :
    Kept m s0 (netDieReset a0 s) := by
  unfold netDieReset
  repeat' (first
    | with_reducible assumption
    | intro _
    | (extract_lets +onlyGivenNames r; have hr : Kept m s0 r := ?_; clear_value r; rotate_left; subst r; rotate_right)
    | (extract_lets +onlyGivenNames r; clear_value r)
    | with_reducible refine Kept.foldl ?_ ?_
    | with_reducible refine partFail_kept (hM.of rfl) ?_
    | with_reducible refine settleFences_kept (hM.of rfl) ?_
    | with_reducible refine Kept.upd ?_ (h_net := .inr (hM.of rfl)))

theorem openDie_kept (hM : Sub 524296 m) {a0 : Nat} {s : Block} (h : Kept m s0 s) :
    Kept m s0 (openDie a0 s) := by
  unfold openDie
  repeat' (first
    | with_reducible assumption
    | intro _
    | (extract_lets +onlyGivenNames r; have hr : Kept m s0 r := ?_; clear_value r; rotate_left; subst r; rotate_right)
    | (extract_lets +onlyGivenNames r; clear_value r)
    | with_reducible refine forEach_kept (hM.of rfl) ?_ ?_
    | with_reducible refine setPort_kept (hM.of rfl) ?_
    | with_reducible refine Block_putB_kept (hM.of rfl) ?_
    | with_reducible refine Block_put_kept (hM.of rfl) ?_)

theorem openHub_kept (hM : Sub 524296 m) {s : Block} (h : Kept m s0 s) :
    Kept m s0 (openHub s) := by
  unfold openHub
  repeat' (first
    | with_reducible assumption
    | intro _
    | with_reducible refine forEach_kept (hM.of rfl) ?_ ?_
    | with_reducible refine setPort_kept (hM.of rfl) ?_)

theorem loadBursts_kept (hM : Sub 8 m) {s : Block} (h : Kept m s0 s) :
    Kept m s0 (loadBursts s) := by
  unfold loadBursts
  repeat' (first
    | with_reducible assumption
    | intro _
    | with_reducible refine forEach_kept (hM.of rfl) ?_ ?_
    | with_reducible refine Block_put_kept (hM.of rfl) ?_)

theorem execNocRequestIssue_ran (hM : Sub 153919499 m) (a0 : BitVec 12) (a1 : Fin 5) (a2 : Fin 5) (a3 : BitVec 48) (a4 : Fin 4096) (a5 : BitVec 12) (a6 : Bool) (a7 : List (BitVec 8)) (s : State) : Ran m s (execNocRequestIssue a0 a1 a2 a3 a4 a5 a6 a7 s) := by
  unfold execNocRequestIssue
  refine live_ran (fun s0 s h => ?_) s
  repeat' (first
    | with_reducible assumption
    | with_reducible refine nocIssue_kept (hM.of rfl) ?_)

theorem execNocResponseArrive_ran (hM : Sub 159907849 m) (a0 : BitVec 12) (a1 : BitVec 12) (a2 : Fin 7) (a3 : List (BitVec 6 × Bool × BitVec 512)) (a4 : Bool) (s : State) : Ran m s (execNocResponseArrive a0 a1 a2 a3 a4 s) := by
  unfold execNocResponseArrive
  refine clocked_ran (fun s0 s h => ?_) s
  repeat' (first
    | with_reducible assumption
    | with_reducible refine nocResponseArriveStep_kept (hM.of rfl) ?_)

theorem execApTargetRequest_ran (hM : Sub 159907849 m) (a0 : Fin 4) (a1 : Fin 96) (a2 : BitVec 12) (a3 : BitVec 12) (a4 : Fin 3) (a5 : BitVec 31) (a6 : Fin 4096) (a7 : List (BitVec 8)) (s : State) : Ran m s (execApTargetRequest a0 a1 a2 a3 a4 a5 a6 a7 s) := by
  unfold execApTargetRequest
  refine clockedOn_ran (fun s0 s h => ?_) s
  repeat' (first
    | with_reducible assumption
    | with_reducible refine apTargetRequestStep_kept (hM.of rfl) ?_)

theorem execApTargetResponse_ran (hM : Sub 17301513 m) (a0 : Fin 4) (a1 : Fin 96) (a2 : BitVec 24) (a3 : Bool) (a4 : List (BitVec 8)) (s : State) : Ran m s (execApTargetResponse a0 a1 a2 a3 a4 s) := by
  unfold execApTargetResponse
  refine clockedOn_ran (fun s0 s h => ?_) s
  repeat' (first
    | with_reducible assumption
    | with_reducible refine apTargetResponseStep_kept (hM.of rfl) ?_)

theorem execNocFence_ran (hM : Sub 143130625 m) (a0 : BitVec 12) (a1 : BitVec 12) (s : State) : Ran m s (execNocFence a0 a1 s) := by
  unfold execNocFence
  refine clocked_ran (fun s0 s h => ?_) s
  repeat' (first
    | with_reducible assumption
    | with_reducible refine nocFenceStep_kept (hM.of rfl) ?_)

theorem execFenceMark_ran (hM : Sub 1 m) (a0 : BitVec 12) (a1 : BitVec 12) (s : State) : Ran m s (execFenceMark a0 a1 s) := by
  unfold execFenceMark
  refine clocked_ran (fun s0 s h => ?_) s
  repeat' (first
    | with_reducible assumption
    | with_reducible refine fenceMarkStep_kept (hM.of rfl) ?_)

theorem execFenceAck_ran (hM : Sub 143130625 m) (a0 : BitVec 12) (a1 : BitVec 12) (s : State) : Ran m s (execFenceAck a0 a1 s) := by
  unfold execFenceAck
  refine clocked_ran (fun s0 s h => ?_) s
  repeat' (first
    | with_reducible assumption
    | with_reducible refine markAcked_kept (hM.of rfl) ?_)

theorem execNocGlobalFence_ran (hM : Sub 8388608 m) (a0 : Hdr) (s : State) : Ran m s (execNocGlobalFence a0 s) := by
  unfold execNocGlobalFence
  refine live_ran (fun s0 s h => ?_) s
  repeat' (first
    | with_reducible assumption
    | intro _
    | with_reducible refine Block_command_kept (hM.of rfl) ?_ ?_
    | with_reducible refine Block_hold_kept (hM.of rfl) ?_)

theorem execRouterFlit_ran (hM : Sub 18350089 m) (a0 : Fin 100) (a1 : BitVec 128) (a2 : BitVec 512) (a3 : Fin 3) (s : State) : Ran m s (execRouterFlit a0 a1 a2 a3 s) := by
  unfold execRouterFlit
  refine clockedOn_ran (fun s0 s h => ?_) s
  repeat' (first
    | with_reducible assumption
    | with_reducible refine routerFlitStep_kept (hM.of rfl) ?_)

theorem execNocCreditReturn_ran (hM : Sub 1572865 m) (a0 : Fin 100) (a1 : Fin 16) (a2 : Fin 4) (s : State) : Ran m s (execNocCreditReturn a0 a1 a2 s) := by
  unfold execNocCreditReturn
  refine clockedOn_ran (fun s0 s h => ?_) s
  repeat' (first
    | with_reducible assumption
    | with_reducible refine nocCreditReturnStep_kept (hM.of rfl) ?_)

theorem execRerouteStart_ran (hM : Sub 524297 m) (a0 : BitVec 4) (a1 : List (Fin 34)) (a2 : List (Fin 34)) (a3 : List (Fin 3)) (s : State) : Ran m s (execRerouteStart a0 a1 a2 a3 s) := by
  unfold execRerouteStart
  refine clocked_ran (fun s0 s h => ?_) s
  repeat' (first
    | with_reducible assumption
    | with_reducible refine rerouteStartStep_kept (hM.of rfl) ?_)

theorem execRerouteTablesConfirmed_ran (hM : Sub 524288 m) (s : State) : Ran m s (execRerouteTablesConfirmed s) := by
  unfold execRerouteTablesConfirmed
  refine clocked_ran (fun s0 s h => ?_) s
  repeat' (first
    | with_reducible assumption
    | with_reducible refine modReroute_kept (hM.of rfl) ?_)

theorem execSitePortMoveConfirm_ran (hM : Sub 524288 m) (a0 : Fin 3) (s : State) : Ran m s (execSitePortMoveConfirm a0 s) := by
  unfold execSitePortMoveConfirm
  refine clocked_ran (fun s0 s h => ?_) s
  repeat' (first
    | with_reducible assumption
    | with_reducible refine modReroute_kept (hM.of rfl) ?_)

theorem execRouterTableRetire_ran (hM : Sub 160956425 m) (a0 : Fin 100) (s : State) : Ran m s (execRouterTableRetire a0 s) := by
  unfold execRouterTableRetire
  refine clockedOn_ran (fun s0 s h => ?_) s
  repeat' (first
    | with_reducible assumption
    | with_reducible refine routerTableRetireStep_kept (hM.of rfl) ?_)

theorem execRerouteSlow_ran (hM : Sub 17301516 m) (s : State) : Ran m s (execRerouteSlow s) := by
  unfold execRerouteSlow
  refine clocked_ran (fun s0 s h => ?_) s
  repeat' (first
    | with_reducible assumption
    | with_reducible refine rerouteSlowStep_kept (hM.of rfl) ?_)

theorem execTargetTimeout_ran (hM : Sub 159973385 m) (a0 : BitVec 12) (s : State) : Ran m s (execTargetTimeout a0 s) := by
  unfold execTargetTimeout
  refine clocked_ran (fun s0 s h => ?_) s
  repeat' (first
    | with_reducible assumption
    | with_reducible refine targetTimeoutStep_kept (hM.of rfl) ?_)

theorem execNocIsolate_ran (hM : Sub 159907849 m) (a0 : Hdr) (a1 : Nat) (s : State) : Ran m s (execNocIsolate a0 a1 s) := by
  unfold execNocIsolate
  refine live_ran (fun s0 s h => ?_) s
  repeat' (first
    | with_reducible assumption
    | intro _
    | with_reducible refine Block_command_kept (hM.of rfl) ?_ ?_
    | with_reducible refine onDie_kept (hM.of rfl) ?_ ?_
    | with_reducible refine nocIsolateCmd_kept (hM.of rfl) ?_)

theorem execNocRelease_ran (hM : Sub 8912904 m) (a0 : Hdr) (a1 : Nat) (s : State) : Ran m s (execNocRelease a0 a1 s) := by
  unfold execNocRelease
  refine live_ran (fun s0 s h => ?_) s
  repeat' (first
    | with_reducible assumption
    | intro _
    | with_reducible refine Block_command_kept (hM.of rfl) ?_ ?_
    | with_reducible refine onDie_kept (hM.of rfl) ?_ ?_
    | with_reducible refine nocReleaseCmd_kept (hM.of rfl) ?_)

theorem execNocStatus_ran (hM : Sub 8388608 m) (a0 : Hdr) (a1 : Nat) (a2 : Nat) (a3 : Nat) (s : State) : Ran m s (execNocStatus a0 a1 a2 a3 s) := by
  unfold execNocStatus
  refine live_ran (fun s0 s h => ?_) s
  repeat' (first
    | with_reducible assumption
    | intro _
    | with_reducible refine Block_command_kept (hM.of rfl) ?_ ?_
    | with_reducible refine onDie_kept (hM.of rfl) ?_ ?_
    | with_reducible refine nocStatusCmd_kept (hM.of rfl) ?_)

theorem execNocDomainOff_ran (hM : Sub 144179209 m) (a0 : Hdr) (a1 : Nat) (s : State) : Ran m s (execNocDomainOff a0 a1 s) := by
  unfold execNocDomainOff
  refine live_ran (fun s0 s h => ?_) s
  repeat' (first
    | with_reducible assumption
    | intro _
    | with_reducible refine Block_command_kept (hM.of rfl) ?_ ?_
    | with_reducible refine onDie_kept (hM.of rfl) ?_ ?_
    | with_reducible refine nocDomainOffCmd_kept (hM.of rfl) ?_)

theorem execDomainDrainEnd_ran (hM : Sub 144179209 m) (a0 : Fin 75) (s : State) : Ran m s (execDomainDrainEnd a0 s) := by
  unfold execDomainDrainEnd
  refine clocked_ran (fun s0 s h => ?_) s
  repeat' (first
    | with_reducible assumption
    | with_reducible refine domainDrainEndStep_kept (hM.of rfl) ?_)

theorem execNocDomainOn_ran (hM : Sub 9961480 m) (a0 : Hdr) (a1 : Nat) (s : State) : Ran m s (execNocDomainOn a0 a1 s) := by
  unfold execNocDomainOn
  refine live_ran (fun s0 s h => ?_) s
  repeat' (first
    | with_reducible assumption
    | intro _
    | with_reducible refine Block_command_kept (hM.of rfl) ?_ ?_
    | with_reducible refine onDie_kept (hM.of rfl) ?_ ?_
    | with_reducible refine nocDomainOnCmd_kept (hM.of rfl) ?_)

theorem execDomainOpened_ran (hM : Sub 524296 m) (a0 : Fin 75) (s : State) : Ran m s (execDomainOpened a0 s) := by
  unfold execDomainOpened
  refine clocked_ran (fun s0 s h => ?_) s
  repeat' (first
    | with_reducible assumption
    | with_reducible refine domainOpenedStep_kept (hM.of rfl) ?_)

/-! ### PlateFormat -/

theorem plateRead_kept (hM : Sub 16777226 m) {a0 : Bool} {a1 a2 : Nat} {s : Block} (h : Kept m s0 s) :
    Kept m s0 (plateRead a0 a1 a2 s).2 := by
  unfold plateRead
  repeat' (first
    | with_reducible assumption
    | with_reducible refine Kept.ite2 ?_ ?_
    | with_reducible refine readMem_kept (hM.of rfl) ?_)

theorem readSections_kept (hM : Sub 16777226 m) {a0 : Load} {s : Block} (h : Kept m s0 s) :
    Kept m s0 (readSections a0 s).2 := by
  unfold readSections
  repeat' (first
    | with_reducible assumption
    | intro _
    | (extract_lets +onlyGivenNames r; have hr : Kept m s0 r.2 := ?_; clear_value r; rotate_left; subst r; rotate_right)
    | (extract_lets +onlyGivenNames r; have hr := fun x => r x; subst r)
    | with_reducible refine Kept.foldl2 ?_ ?_
    | with_reducible refine plateRead_kept (hM.of rfl) ?_
    | split)

theorem checkPlate_kept (hM : Sub 16777226 m) {a0 : LoadAsk} {s : Block} (h : Kept m s0 s) :
    Kept m s0 (checkPlate a0 s).2 := by
  unfold checkPlate
  repeat' (first
    | with_reducible assumption
    | (extract_lets +onlyGivenNames r; have hr : Kept m s0 r.2 := ?_; clear_value r; rotate_left; subst r; rotate_right)
    | (extract_lets +onlyGivenNames r; clear_value r)
    | with_reducible refine Kept.ite2 ?_ ?_
    | with_reducible refine plateRead_kept (hM.of rfl) ?_
    | split)

theorem plateSigned_kept (hM : Sub 16777226 m) {a0 : Load} {s : Block} (h : Kept m s0 s) :
    Kept m s0 (plateSigned a0 s).2 := by
  unfold plateSigned
  repeat' (first
    | with_reducible assumption
    | (extract_lets +onlyGivenNames r; have hr : Kept m s0 r.2 := ?_; clear_value r; rotate_left; subst r; rotate_right)
    | with_reducible refine plateRead_kept (hM.of rfl) ?_)

theorem digestsMatch_kept (hM : Sub 16777226 m) {a0 : Bool} {a1 : Nat} {a2 : List (Nat × Nat × BitVec 256)} {s : Block} (h : Kept m s0 s) :
    Kept m s0 (digestsMatch a0 a1 a2 s).2 := by
  unfold digestsMatch
  repeat' (first
    | with_reducible assumption
    | intro _
    | (extract_lets +onlyGivenNames r; have hr : Kept m s0 r.2 := ?_; clear_value r; rotate_left; subst r; rotate_right)
    | with_reducible refine Kept.foldl2 ?_ ?_
    | with_reducible refine plateRead_kept (hM.of rfl) ?_)

/-! ### Plates -/

theorem seamTouch_kept (hM : Sub 25165960 m) {a0 : List Nat} {s : Block} (h : Kept m s0 s) :
    Kept m s0 (seamTouch a0 s) := by
  unfold seamTouch
  repeat' (first
    | with_reducible assumption
    | intro _
    | with_reducible refine Kept.foldl ?_ ?_
    | with_reducible refine seamRefresh_kept (hM.of rfl) ?_)

theorem fabGone_kept (hM : Sub 134217736 m) {a0 : Bool} {s : Block} (h : Kept m s0 s) :
    Kept m s0 (fabGone a0 s) := by
  unfold fabGone
  repeat' (first
    | with_reducible assumption
    | intro _
    | with_reducible refine when_kept (hM.of rfl) ?_ ?_
    | with_reducible refine releaseRun_kept (hM.of rfl) ?_)

theorem clearSector_kept (hM : Sub 2172657544 m) {a0 : Nat} {s : Block} (h : Kept m s0 s) :
    Kept m s0 (clearSector a0 s) := by
  unfold clearSector
  repeat' (first
    | with_reducible assumption
    | intro _
    | (extract_lets +onlyGivenNames r; have hr : Kept m s0 r := ?_; clear_value r; rotate_left; subst r; rotate_right)
    | (extract_lets +onlyGivenNames r; have hr := fun x => r x; subst r)
    | (extract_lets +onlyGivenNames r; clear_value r)
    | with_reducible refine Kept.foldl ?_ ?_
    | with_reducible refine clearStarved_kept (hM.of rfl) ?_
    | with_reducible refine shutterStale_kept (hM.of rfl) ?_
    | with_reducible refine modCfg_kept (hM.of rfl) ?_
    | with_reducible refine rewriteRoutes_kept (hM.of rfl) ?_
    | with_reducible refine fabricInit_kept (hM.of rfl) ?_
    | with_reducible refine clearFields_kept (hM.of rfl) ?_
    | with_reducible refine seamRefresh_kept (hM.of rfl) ?_
    | ((with_reducible refine Kept.on_engines ?_ (hM.of rfl) ?_); rotate_left; exact fun w => spWf_spClear _ _ _ w)
    | ((with_reducible refine Kept.on_rams ?_ (hM.of rfl) ?_); rotate_left; exact fun w => ⟨spWf_spClear _ _ _ w.1, all_spClear _ _ (fun r : Ram => spWf (fun _ => (0 : BitVec 72)) r.words) w.2⟩))

theorem dropRegion_kept (hM : Sub 143140875 m) {a0 : Nat} {s : Block} (h : Kept m s0 s) :
    Kept m s0 (dropRegion a0 s) := by
  unfold dropRegion
  repeat' (first
    | with_reducible assumption
    | intro _
    | (extract_lets +onlyGivenNames r; have hr : Kept m s0 r := ?_; clear_value r; rotate_left; subst r; rotate_right)
    | (extract_lets +onlyGivenNames r; clear_value r)
    | with_reducible refine Kept.ite ?_ ?_
    | with_reducible refine Kept.foldl ?_ ?_
    | with_reducible refine Block_put_kept (hM.of rfl) ?_
    | with_reducible refine pinToSafe_kept (hM.of rfl) ?_
    | with_reducible refine closePort_kept (hM.of rfl) ?_
    | with_reducible refine Block_putB_kept (hM.of rfl) ?_
    | with_reducible refine modCfg_kept (hM.of rfl) ?_
    | with_reducible refine setRegion_kept (hM.of rfl) ?_)

theorem emptySector_kept (hM : Sub 2311602059 m) {a0 : Nat} {s : Block} (h : Kept m s0 s) :
    Kept m s0 (emptySector a0 s) := by
  unfold emptySector
  repeat' (first
    | with_reducible assumption
    | (extract_lets +onlyGivenNames r; clear_value r)
    | with_reducible refine dropRegion_kept (hM.of rfl) ?_
    | with_reducible refine clearSector_kept (hM.of rfl) ?_
    | with_reducible refine Block_putB_kept (hM.of rfl) ?_
    | with_reducible refine Block_put_kept (hM.of rfl) ?_
    | with_reducible refine tapsFall_kept (hM.of rfl) ?_)

theorem tppsFollow_kept (hM : Sub 8 m) {a0 : List Nat} {s : Block} (h : Kept m s0 s) :
    Kept m s0 (tppsFollow a0 s) := by
  unfold tppsFollow
  repeat' (first
    | with_reducible assumption
    | intro _
    | with_reducible refine forEach_kept (hM.of rfl) ?_ ?_
    | with_reducible refine tppPlates_kept (hM.of rfl) ?_)

theorem emptySectors_kept (hM : Sub 2311602059 m) {a0 : List Nat} {s : Block} (h : Kept m s0 s) :
    Kept m s0 (emptySectors a0 s) := by
  unfold emptySectors
  repeat' (first
    | with_reducible assumption
    | intro _
    | (extract_lets +onlyGivenNames r; clear_value r)
    | with_reducible refine fabGone_kept (hM.of rfl) ?_
    | with_reducible refine tppsFollow_kept (hM.of rfl) ?_
    | with_reducible refine forEach_kept (hM.of rfl) ?_ ?_
    | with_reducible refine emptySector_kept (hM.of rfl) ?_)

theorem freezeStart_kept (hM : Sub 526344 m) {a0 : Nat} {s : Block} (h : Kept m s0 s) :
    Kept m s0 (freezeStart a0 s) := by
  unfold freezeStart
  repeat' (first
    | with_reducible assumption
    | intro _
    | with_reducible refine Kept.ite ?_ ?_
    | with_reducible refine modCfg_kept (hM.of rfl) ?_
    | with_reducible refine forEach_kept (hM.of rfl) ?_ ?_
    | with_reducible refine drainPort_kept (hM.of rfl) ?_)

theorem releaseAsk_kept (hM : Sub 2048 m) {a0 : List Nat} {s : Block} (h : Kept m s0 s) :
    Kept m s0 (releaseAsk a0 s) := by
  unfold releaseAsk
  repeat' (first
    | with_reducible assumption
    | with_reducible refine modCfg_kept (hM.of rfl) ?_)

theorem goLive_kept (hM : Sub 2173194376 m) {a0 : Nat} {s : Block} (h : Kept m s0 s) :
    Kept m s0 (goLive a0 s) := by
  unfold goLive
  repeat' (first
    | with_reducible assumption
    | intro _
    | (extract_lets +onlyGivenNames r; have hr : Kept m s0 r := ?_; clear_value r; rotate_left; subst r; rotate_right)
    | (extract_lets +onlyGivenNames r; clear_value r)
    | with_reducible refine Kept.ite ?_ ?_
    | with_reducible refine Kept.foldl ?_ ?_
    | with_reducible refine shutterRelease_kept (hM.of rfl) ?_
    | with_reducible refine forEach_kept (hM.of rfl) ?_ ?_
    | with_reducible refine fabricInit_kept (hM.of rfl) ?_
    | with_reducible refine Block_put_kept (hM.of rfl) ?_
    | with_reducible refine pinFromSafe_kept (hM.of rfl) ?_
    | with_reducible refine setPort_kept (hM.of rfl) ?_
    | with_reducible refine modTpp_kept (hM.of rfl) ?_
    | with_reducible refine seamTouch_kept (hM.of rfl) ?_)

theorem releaseOne_kept (hM : Sub 2240303256 m) {a0 : Release} {s : Block} (h : Kept m s0 s) :
    Kept m s0 (releaseOne a0 s) := by
  unfold releaseOne
  repeat' (first
    | with_reducible assumption
    | intro _
    | (extract_lets +onlyGivenNames r; have hr : Kept m s0 r := ?_; clear_value r; rotate_left; subst r; rotate_right)
    | (extract_lets +onlyGivenNames r; have hr : StartSt := r; subst r)
    | (extract_lets +onlyGivenNames r; clear_value r)
    | with_reducible refine Kept.ite ?_ ?_
    | with_reducible refine Kept.foldl ?_ ?_
    | with_reducible refine goLive_kept (hM.of rfl) ?_
    | with_reducible refine plateAdvance_kept (hM.of rfl) ?_
    | with_reducible refine forEach_kept (hM.of rfl) ?_ ?_
    | with_reducible refine tppPlates_kept (hM.of rfl) ?_
    | with_reducible refine stageDoneCheck_kept (hM.of rfl) ?_
    | with_reducible refine Block_close_kept (hM.of rfl) ?_
    | with_reducible refine Kept.upd ?_ (h_start := .inr (hM.of rfl)))

theorem goFrozen_kept (hM : Sub 164111755 m) {a0 : Nat} {s : Block} (h : Kept m s0 s) :
    Kept m s0 (goFrozen a0 s) := by
  unfold goFrozen
  repeat' (first
    | with_reducible assumption
    | intro _
    | (extract_lets +onlyGivenNames r; have hr : Kept m s0 r := ?_; clear_value r; rotate_left; subst r; rotate_right)
    | (extract_lets +onlyGivenNames r; clear_value r)
    | with_reducible refine Kept.ite ?_ ?_
    | with_reducible refine Kept.foldl ?_ ?_
    | with_reducible refine forEach_kept (hM.of rfl) ?_ ?_
    | with_reducible refine eachEngine_kept (hM.of rfl) ?_ ?_
    | with_reducible refine engResetAt_kept (hM.of rfl) ?_
    | with_reducible refine eachRam_kept (hM.of rfl) ?_ ?_
    | with_reducible refine ramHold_kept (hM.of rfl) ?_
    | with_reducible refine Block_put_kept (hM.of rfl) ?_
    | with_reducible refine pinToSafe_kept (hM.of rfl) ?_
    | with_reducible refine closePort_kept (hM.of rfl) ?_
    | with_reducible refine fabGone_kept (hM.of rfl) ?_
    | with_reducible refine tppsFollow_kept (hM.of rfl) ?_
    | with_reducible refine seamTouch_kept (hM.of rfl) ?_
    | with_reducible refine tapsFall_kept (hM.of rfl) ?_)

theorem modLoad_kept (hM : Sub 2048 m) {a0 : Nat} {a1 : Load → Load} {s : Block} (h : Kept m s0 s) :
    Kept m s0 (modLoad a0 a1 s) := by
  unfold modLoad
  repeat' (first
    | with_reducible assumption
    | with_reducible refine modCfg_kept (hM.of rfl) ?_)

theorem dropLoad_kept (hM : Sub 2048 m) {a0 : Nat} {s : Block} (h : Kept m s0 s) :
    Kept m s0 (dropLoad a0 s) := by
  unfold dropLoad
  repeat' (first
    | with_reducible assumption
    | with_reducible refine modCfg_kept (hM.of rfl) ?_)

theorem loadAnswer_kept (hM : Sub 8390656 m) {a0 : Load} {a1 a2 : Nat} {s : Block} (h : Kept m s0 s) :
    Kept m s0 (loadAnswer a0 a1 a2 s) := by
  unfold loadAnswer
  repeat' (first
    | with_reducible assumption
    | intro _
    | (extract_lets +onlyGivenNames r; have hr : Kept m s0 r := ?_; clear_value r; rotate_left; subst r; rotate_right)
    | (extract_lets +onlyGivenNames r; clear_value r)
    | with_reducible refine Kept.ite ?_ ?_
    | with_reducible refine Kept.foldl ?_ ?_
    | with_reducible refine setRegion_kept (hM.of rfl) ?_
    | with_reducible refine Block_close_kept (hM.of rfl) ?_)

theorem loadFail_kept (hM : Sub 2311602059 m) {a0 : Load} {a1 a2 : Nat} {s : Block} (h : Kept m s0 s) :
    Kept m s0 (loadFail a0 a1 a2 s) := by
  unfold loadFail
  repeat' (first
    | with_reducible assumption
    | with_reducible refine loadAnswer_kept (hM.of rfl) ?_
    | with_reducible refine emptySectors_kept (hM.of rfl) ?_
    | with_reducible refine dropLoad_kept (hM.of rfl) ?_)

theorem streamStart_kept (hM : Sub 2311602059 m) {a0 : Load} {s : Block} (h : Kept m s0 s) :
    Kept m s0 (streamStart a0 s) := by
  unfold streamStart
  repeat' (first
    | with_reducible assumption
    | intro _
    | (extract_lets +onlyGivenNames r; have hr : Kept m s0 r := ?_; clear_value r; rotate_left; subst r; rotate_right)
    | (extract_lets +onlyGivenNames r; have hr : Kept m s0 r.2 := ?_; clear_value r; rotate_left; subst r; rotate_right)
    | (extract_lets +onlyGivenNames r; clear_value r)
    | with_reducible refine Kept.foldl ?_ ?_
    | with_reducible refine clearSector_kept (hM.of rfl) ?_
    | with_reducible refine Block_putB_kept (hM.of rfl) ?_
    | with_reducible refine Block_put_kept (hM.of rfl) ?_
    | with_reducible refine modCfg_kept (hM.of rfl) ?_
    | with_reducible refine dropRegion_kept (hM.of rfl) ?_
    | with_reducible refine tppsFollow_kept (hM.of rfl) ?_
    | with_reducible refine readSections_kept (hM.of rfl) ?_
    | with_reducible refine loadFail_kept (hM.of rfl) ?_
    | with_reducible refine modLoad_kept (hM.of rfl) ?_
    | split)

theorem loadReady_kept (hM : Sub 2311602059 m) {a0 : Nat} {s : Block} (h : Kept m s0 s) :
    Kept m s0 (loadReady a0 s) := by
  unfold loadReady
  repeat' (first
    | with_reducible assumption
    | with_reducible refine Kept.ite ?_ ?_
    | with_reducible refine streamStart_kept (hM.of rfl) ?_
    | split)

theorem loadBegin_kept (hM : Sub 2311602059 m) {a0 : Load} {s : Block} (h : Kept m s0 s) :
    Kept m s0 (loadBegin a0 s) := by
  unfold loadBegin
  repeat' (first
    | with_reducible assumption
    | intro _
    | (extract_lets +onlyGivenNames r; have hr : Kept m s0 r := ?_; clear_value r; rotate_left; subst r; rotate_right)
    | (extract_lets +onlyGivenNames r; clear_value r)
    | with_reducible refine modCfg_kept (hM.of rfl) ?_
    | with_reducible refine loadReady_kept (hM.of rfl) ?_
    | with_reducible refine forEach_kept (hM.of rfl) ?_ ?_
    | with_reducible refine freezeStart_kept (hM.of rfl) ?_)

theorem loadAsk_kept (hM : Sub 2311602059 m) {a0 : LoadAsk} {a1 : Option Cmd} {s : Block} (h : Kept m s0 s) :
    Kept m s0 (loadAsk a0 a1 s) := by
  unfold loadAsk
  repeat' (first
    | with_reducible assumption
    | (extract_lets +onlyGivenNames r; have hr : Kept m s0 r.2 := ?_; clear_value r; rotate_left; subst r; rotate_right)
    | with_reducible refine checkPlate_kept (hM.of rfl) ?_
    | with_reducible refine Block_respond_kept (hM.of rfl) ?_
    | with_reducible refine loadBegin_kept (hM.of rfl) ?_
    | with_reducible refine Block_hold_kept (hM.of rfl) ?_
    | split)

theorem plateLoadCmd_kept (hM : Sub 2311602059 m) {a0 a1 a2 a3 a4 a5 a6 a7 : Nat} {a8 : Cmd} {s : Block} (h : Kept m s0 s) :
    Kept m s0 (plateLoadCmd a0 a1 a2 a3 a4 a5 a6 a7 a8 s) := by
  unfold plateLoadCmd
  repeat' (first
    | with_reducible assumption
    | with_reducible refine Kept.ite ?_ ?_
    | with_reducible refine Block_respond_kept (hM.of rfl) ?_
    | with_reducible refine loadAsk_kept (hM.of rfl) ?_)

theorem cfgLoadCmd_kept (hM : Sub 2311602059 m) {a0 a1 : Nat} {a2 : Cmd} {s : Block} (h : Kept m s0 s) :
    Kept m s0 (cfgLoadCmd a0 a1 a2 s) := by
  unfold cfgLoadCmd
  repeat' (first
    | with_reducible assumption
    | (extract_lets +onlyGivenNames r; have hr : Kept m s0 r.2 := ?_; clear_value r; rotate_left; subst r; rotate_right)
    | with_reducible refine Kept.ite ?_ ?_
    | with_reducible refine plateRead_kept (hM.of rfl) ?_
    | with_reducible refine Block_respond_kept (hM.of rfl) ?_
    | with_reducible refine plateLoadCmd_kept (hM.of rfl) ?_)

theorem hardFault_kept (hM : Sub 16777224 m) {a0 : Nat} {s : Block} (h : Kept m s0 s) :
    Kept m s0 (hardFault a0 s) := by
  unfold hardFault
  repeat' (first
    | with_reducible assumption
    | with_reducible refine Kept.ite ?_ ?_
    | with_reducible refine sectorEvent_kept (hM.of rfl) ?_
    | with_reducible refine Block_raise_kept (hM.of rfl) ?_
    | with_reducible refine Block_putB_kept (hM.of rfl) ?_)

theorem writeRecord_kept (hM : Sub 2311602059 m) {a0 : Load} {a1 : PlateSec} {a2 : List Nat} {a3 : List (Nat × Nat)} {a4 : Bool} {s : Block} (h : Kept m s0 s) :
    Kept m s0 (writeRecord a0 a1 a2 a3 a4 s) := by
  unfold writeRecord
  repeat' (first
    | with_reducible assumption
    | (extract_lets +onlyGivenNames r; have hr : Kept m s0 r := ?_; clear_value r; rotate_left; subst r; rotate_right)
    | (extract_lets +onlyGivenNames r; clear_value r)
    | with_reducible refine Kept.ite ?_ ?_
    | with_reducible refine modCfg_kept (hM.of rfl) ?_
    | with_reducible refine frameFields_kept (hM.of rfl) ?_
    | with_reducible refine modLoad_kept (hM.of rfl) ?_
    | with_reducible refine hardFault_kept (hM.of rfl) ?_
    | with_reducible refine loadFail_kept (hM.of rfl) ?_)

theorem takeRecord_kept (hM : Sub 2311602059 m) {a0 : Load} {a1 : PlateSec} {a2 : List Nat} {a3 : List (Nat × Nat)} {a4 : Bool} {s : Block} (h : Kept m s0 s) :
    Kept m s0 (takeRecord a0 a1 a2 a3 a4 s) := by
  unfold takeRecord
  repeat' (first
    | with_reducible assumption
    | (extract_lets +onlyGivenNames r; clear_value r)
    | with_reducible refine Kept.ite ?_ ?_
    | with_reducible refine loadFail_kept (hM.of rfl) ?_
    | with_reducible refine writeRecord_kept (hM.of rfl) ?_)

theorem frameRecordWriteStep_kept (hM : Sub 2311602059 m) {a0 : Nat} {a1 : Bool} {s : Block} (h : Kept m s0 s) :
    Kept m s0 (frameRecordWriteStep a0 a1 s) := by
  unfold frameRecordWriteStep
  repeat' (first
    | with_reducible assumption
    | with_reducible refine Kept.ite ?_ ?_
    | with_reducible refine loadFail_kept (hM.of rfl) ?_
    | with_reducible refine takeRecord_kept (hM.of rfl) ?_
    | split)

theorem putRams_kept (hM : Sub 1280 m) {a0 : List Nat} {a1 : List (Nat × List RamRec)} {s : Block} (h : Kept m s0 s) :
    Kept m s0 (putRams a0 a1 s) := by
  unfold putRams
  repeat' (first
    | with_reducible assumption
    | intro _
    | (extract_lets +onlyGivenNames r; have hr : Kept m s0 r := ?_; clear_value r; rotate_left; subst r; rotate_right)
    | (extract_lets +onlyGivenNames r; have hr : Ram := r; subst r)
    | (extract_lets +onlyGivenNames r; clear_value r)
    | with_reducible refine Kept.ite ?_ ?_
    | with_reducible refine Kept.foldl ?_ ?_
    | with_reducible refine forEach_kept (hM.of rfl) ?_ ?_
    | with_reducible refine eachEngine_kept (hM.of rfl) ?_ ?_
    | with_reducible refine engResetAt_kept (hM.of rfl) ?_
    | with_reducible refine eachRam_kept (hM.of rfl) ?_ ?_
    | with_reducible refine ramHold_kept (hM.of rfl) ?_
    | ((with_reducible refine setRam_kept (hM.of rfl) ?_ ?_); rotate_left; first | exact fun _ => rfl | exact fun _ => ramWords_wf _ | exact fun w => getRam_words _ _ w | exact fun w => spWf_spSet _ _ _ _ (getRam_words _ _ w))
    | with_reducible refine setEng_kept (hM.of rfl) ?_)

theorem setLogic_kept (hM : Sub 8192 m) {a0 a1 : Nat} {a2 : PinIo} {s : Block} (h : Kept m s0 s) :
    Kept m s0 (setLogic a0 a1 a2 s) := by
  unfold setLogic
  repeat' (first
    | with_reducible assumption
    | (extract_lets +onlyGivenNames r; clear_value r)
    | with_reducible refine Kept.upd ?_ (h_io := .inr (hM.of rfl)))

theorem putSettings_kept (hM : Sub 25192458 m) {a0 : DieSettings} {s : Block} (h : Kept m s0 s) :
    Kept m s0 (putSettings a0 s) := by
  unfold putSettings
  repeat' (first
    | with_reducible assumption
    | intro _
    | (extract_lets +onlyGivenNames r; have hr : Kept m s0 r := ?_; clear_value r; rotate_left; subst r; rotate_right)
    | (extract_lets +onlyGivenNames r; clear_value r)
    | with_reducible refine Kept.ite ?_ ?_
    | with_reducible refine Kept.foldl ?_ ?_
    | with_reducible refine modCfg_kept (hM.of rfl) ?_
    | with_reducible refine Block_putB_kept (hM.of rfl) ?_
    | with_reducible refine bankClass_kept (hM.of rfl) ?_
    | with_reducible refine Block_put_kept (hM.of rfl) ?_
    | with_reducible refine pinToSafe_kept (hM.of rfl) ?_
    | with_reducible refine setLogic_kept (hM.of rfl) ?_
    | with_reducible refine setSafe_kept (hM.of rfl) ?_)

theorem streamWritten_kept (hM : Sub 25193738 m) {a0 : Load} {a1 : List DieSettings} {a2 : List (Nat × List RamRec)} {s : Block} (h : Kept m s0 s) :
    Kept m s0 (streamWritten a0 a1 a2 s) := by
  unfold streamWritten
  repeat' (first
    | with_reducible assumption
    | intro _
    | with_reducible refine Kept.foldl ?_ ?_
    | with_reducible refine putSettings_kept (hM.of rfl) ?_
    | with_reducible refine putRams_kept (hM.of rfl) ?_)

theorem routeAll_kept (hM : Sub 25168008 m) {l : Load} {routes : List LinkRoute} {s : Block} (h : Kept m s0 s) {r : List (Nat × Link) × Block}
    (e : routeAll l routes s = some r) : Kept m s0 r.2 := by
  suffices ∀ (xs : List (Nat × Link)) (acc : Option (List (Nat × Link) × Block)), (∀ a, acc = some a → Kept m s0 a.2) →
      ∀ r, xs.foldl (fun acc x => acc.bind (fun a => (routed l routes x a.2).map (fun y => (a.1 ++ [(x.1, y)], setLink x.1 y a.2)))) acc = some r →
        Kept m s0 r.2 from this l.links _ (fun a ha => by cases ha; exact h) r e
  intro xs
  induction xs with
  | nil => exact fun acc ha r e => ha r e
  | cons x xs ih =>
    refine fun acc ha r e => ih _ (fun a e => ?_) r e
    obtain ⟨b, hb, e⟩ := Option.bind_eq_some_iff.1 e
    obtain ⟨y, -, e⟩ := Option.map_eq_some_iff.1 e
    rw [← e]
    exact setLink_kept (hM.of rfl) (ha b hb)

theorem streamEnd_kept (hM : Sub 2311602059 m) {a0 : Load} {a1 : List DieSettings} {a2 : List LinkRoute} {s : Block} (h : Kept m s0 s) :
    Kept m s0 (streamEnd a0 a1 a2 s) := by
  unfold streamEnd
  refine Kept.ite (loadFail_kept (hM.of rfl) h) (Kept.ite (loadFail_kept (hM.of rfl) h) (Kept.ite (loadFail_kept (hM.of rfl) h) ?_))
  split
  · exact loadFail_kept (hM.of rfl) h
  · rename_i e
    exact modLoad_kept (hM.of rfl) (Kept.ite h (routeAll_kept (hM.of rfl) h e))

theorem loadStreamDoneStep_kept (hM : Sub 2311618443 m) {a0 : Nat} {a1 : List DieSettings} {a2 : List LinkRoute} {s : Block} (h : Kept m s0 s) :
    Kept m s0 (loadStreamDoneStep a0 a1 a2 s) := by
  unfold loadStreamDoneStep
  repeat' (first
    | with_reducible assumption
    | (extract_lets +onlyGivenNames r; clear_value r)
    | with_reducible refine Kept.ite ?_ ?_
    | with_reducible refine loadFail_kept (hM.of rfl) ?_
    | with_reducible refine streamEnd_kept (hM.of rfl) ?_
    | with_reducible refine streamWritten_kept (hM.of rfl) ?_
    | split)

theorem seamsReloaded_kept (hM : Sub 25165960 m) {a0 : List SeamFault} {a1 : Nat} {s : Block} (h : Kept m s0 s) :
    Kept m s0 (seamsReloaded a0 a1 s) := by
  unfold seamsReloaded
  repeat' (first
    | with_reducible assumption
    | intro _
    | (extract_lets +onlyGivenNames r; have hr : Kept m s0 r := ?_; clear_value r; rotate_left; subst r; rotate_right)
    | (extract_lets +onlyGivenNames r; clear_value r)
    | with_reducible refine Kept.ite ?_ ?_
    | with_reducible refine forEach_kept (hM.of rfl) ?_ ?_
    | with_reducible refine seamRefresh_kept (hM.of rfl) ?_
    | with_reducible refine seamFirstSet_kept (hM.of rfl) ?_
    | split
    | with_reducible refine Kept.upd ?_ (h_seam := .inr (hM.of rfl)))

theorem putSeams_kept (hM : Sub 25165960 m) {a0 : List (Nat × Nat × Bool)} {a1 : List Nat} {a2 : List SeamFault} {s : Block} (h : Kept m s0 s) :
    Kept m s0 (putSeams a0 a1 a2 s) := by
  unfold putSeams
  repeat' (first
    | with_reducible assumption
    | intro _
    | (extract_lets +onlyGivenNames r; have hr : Kept m s0 r := ?_; clear_value r; rotate_left; subst r; rotate_right)
    | with_reducible refine Kept.foldl ?_ ?_
    | with_reducible refine seamRefresh_kept (hM.of rfl) ?_
    | with_reducible refine when_kept (hM.of rfl) ?_ ?_
    | with_reducible refine seamFirstSet_kept (hM.of rfl) ?_
    | with_reducible refine forEach_kept (hM.of rfl) ?_ ?_
    | with_reducible refine seamsReloaded_kept (hM.of rfl) ?_)

theorem putRegion_kept (hM : Sub 2048 m) {a0 : Load} {a1 : BitVec 256} {s : Block} (h : Kept m s0 s) :
    Kept m s0 (putRegion a0 a1 s) := by
  unfold putRegion
  repeat' (first
    | with_reducible assumption
    | intro _
    | (extract_lets +onlyGivenNames r; clear_value r)
    | with_reducible refine Kept.foldl ?_ ?_
    | with_reducible refine setRegion_kept (hM.of rfl) ?_)

theorem loadPassed_kept (hM : Sub 2311602059 m) {a0 : Load} {a1 : BitVec 256} {a2 : List SeamFault} {s : Block} (h : Kept m s0 s) :
    Kept m s0 (loadPassed a0 a1 a2 s) := by
  unfold loadPassed
  repeat' (first
    | with_reducible assumption
    | intro _
    | (extract_lets +onlyGivenNames r; have hr : Kept m s0 r := ?_; clear_value r; rotate_left; subst r; rotate_right)
    | (extract_lets +onlyGivenNames r; clear_value r)
    | with_reducible refine Kept.ite ?_ ?_
    | with_reducible refine Kept.foldl ?_ ?_
    | with_reducible refine forEach_kept (hM.of rfl) ?_ ?_
    | with_reducible refine Block_put_kept (hM.of rfl) ?_
    | with_reducible refine putRegion_kept (hM.of rfl) ?_
    | with_reducible refine dropLoad_kept (hM.of rfl) ?_
    | with_reducible refine putSeams_kept (hM.of rfl) ?_
    | with_reducible refine loadAnswer_kept (hM.of rfl) ?_
    | with_reducible refine when_kept (hM.of rfl) ?_ ?_
    | with_reducible refine releaseAsk_kept (hM.of rfl) ?_
    | with_reducible refine modCfg_kept (hM.of rfl) ?_
    | with_reducible refine emptySectors_kept (hM.of rfl) ?_
    | with_reducible refine setLink_kept (hM.of rfl) ?_
    | split)

theorem loadVerifyDoneStep_kept (hM : Sub 2311602059 m) {a0 : Nat} {a1 : List SeamFault} {s : Block} (h : Kept m s0 s) :
    Kept m s0 (loadVerifyDoneStep a0 a1 s) := by
  unfold loadVerifyDoneStep
  repeat' (first
    | with_reducible assumption
    | (extract_lets +onlyGivenNames r; have hr : Kept m s0 r.2 := ?_; clear_value r; rotate_left; subst r; rotate_right)
    | (extract_lets +onlyGivenNames r; clear_value r)
    | with_reducible refine Kept.ite ?_ ?_
    | with_reducible refine plateSigned_kept (hM.of rfl) ?_
    | with_reducible refine loadFail_kept (hM.of rfl) ?_
    | with_reducible refine loadPassed_kept (hM.of rfl) ?_
    | split)

theorem regionFreezeCmd_kept (hM : Sub 8914952 m) {a0 : Nat} {a1 : Cmd} {s : Block} (h : Kept m s0 s) :
    Kept m s0 (regionFreezeCmd a0 a1 s) := by
  unfold regionFreezeCmd
  repeat' (first
    | with_reducible assumption
    | with_reducible refine Kept.ite ?_ ?_
    | with_reducible refine Block_respond_kept (hM.of rfl) ?_
    | with_reducible refine Block_hold_kept (hM.of rfl) ?_
    | with_reducible refine freezeStart_kept (hM.of rfl) ?_)

theorem regionReleaseCmd_kept (hM : Sub 8390656 m) {a0 : BitVec 256} {a1 : Cmd} {s : Block} (h : Kept m s0 s) :
    Kept m s0 (regionReleaseCmd a0 a1 s) := by
  unfold regionReleaseCmd
  repeat' (first
    | with_reducible assumption
    | (extract_lets +onlyGivenNames r; clear_value r)
    | with_reducible refine Kept.ite ?_ ?_
    | with_reducible refine Block_respond_kept (hM.of rfl) ?_
    | with_reducible refine Block_hold_kept (hM.of rfl) ?_
    | with_reducible refine releaseAsk_kept (hM.of rfl) ?_)

theorem regionResetCmd_kept (hM : Sub 8390656 m) {a0 : Nat} {a1 : Cmd} {s : Block} (h : Kept m s0 s) :
    Kept m s0 (regionResetCmd a0 a1 s) := by
  unfold regionResetCmd
  repeat' (first
    | with_reducible assumption
    | with_reducible refine Kept.ite ?_ ?_
    | with_reducible refine Block_respond_kept (hM.of rfl) ?_
    | with_reducible refine Block_hold_kept (hM.of rfl) ?_
    | with_reducible refine modCfg_kept (hM.of rfl) ?_)

theorem regionClearCmd_kept (hM : Sub 2311602059 m) {a0 : Nat} {a1 : Cmd} {s : Block} (h : Kept m s0 s) :
    Kept m s0 (regionClearCmd a0 a1 s) := by
  unfold regionClearCmd
  repeat' (first
    | with_reducible assumption
    | (extract_lets +onlyGivenNames r; clear_value r)
    | with_reducible refine Kept.ite ?_ ?_
    | with_reducible refine Block_respond_kept (hM.of rfl) ?_
    | with_reducible refine portsReset_kept (hM.of rfl) ?_
    | with_reducible refine emptySectors_kept (hM.of rfl) ?_)

theorem plateSparesCmd_kept (hM : Sub 8388616 m) {a0 : BitVec 320} {a1 : Cmd} {s : Block} (h : Kept m s0 s) :
    Kept m s0 (plateSparesCmd a0 a1 s) := by
  unfold plateSparesCmd
  repeat' (first
    | with_reducible assumption
    | intro _
    | with_reducible refine Block_respond_kept (hM.of rfl) ?_
    | with_reducible refine forEach_kept (hM.of rfl) ?_ ?_
    | with_reducible refine Block_putB_kept (hM.of rfl) ?_)

theorem plateUnretainCmd_kept (hM : Sub 8390656 m) {a0 : Nat} {a1 : Cmd} {s : Block} (h : Kept m s0 s) :
    Kept m s0 (plateUnretainCmd a0 a1 s) := by
  unfold plateUnretainCmd
  repeat' (first
    | with_reducible assumption
    | (extract_lets +onlyGivenNames r; clear_value r)
    | with_reducible refine Kept.ite ?_ ?_
    | with_reducible refine Block_respond_kept (hM.of rfl) ?_
    | with_reducible refine setRegion_kept (hM.of rfl) ?_)

theorem plateStatusCmd_kept (hM : Sub 8388608 m) {a0 : Nat} {a1 : Cmd} {s : Block} (h : Kept m s0 s) :
    Kept m s0 (plateStatusCmd a0 a1 s) := by
  unfold plateStatusCmd
  repeat' (first
    | with_reducible assumption
    | (extract_lets +onlyGivenNames r; clear_value r)
    | with_reducible refine Kept.ite ?_ ?_
    | with_reducible refine Block_respond_kept (hM.of rfl) ?_)

theorem freezeDrainEndStep_kept (hM : Sub 2048 m) {a0 : Nat} {s : Block} (h : Kept m s0 s) :
    Kept m s0 (freezeDrainEndStep a0 s) := by
  unfold freezeDrainEndStep
  repeat' (first
    | with_reducible assumption
    | with_reducible refine modCfg_kept (hM.of rfl) ?_)

theorem retainedOk_kept (hM : Sub 16777226 m) {a1 : Nat} {s : Block} (h : Kept m s0 s) :
    Kept m s0 (retainedOk s a1).2 := by
  unfold retainedOk
  repeat' (first
    | with_reducible assumption
    | with_reducible refine digestsMatch_kept (hM.of rfl) ?_
    | split)

theorem plateRelocateCmd_kept (hM : Sub 2311602059 m) {a0 a1 : Nat} {a2 : Cmd} {s : Block} (h : Kept m s0 s) :
    Kept m s0 (plateRelocateCmd a0 a1 a2 s) := by
  unfold plateRelocateCmd
  repeat' (first
    | with_reducible assumption
    | (extract_lets +onlyGivenNames r; have hr : Kept m s0 r.2 := ?_; clear_value r; rotate_left; subst r; rotate_right)
    | (extract_lets +onlyGivenNames r; clear_value r)
    | with_reducible refine Kept.ite ?_ ?_
    | with_reducible refine Block_respond_kept (hM.of rfl) ?_
    | with_reducible refine retainedOk_kept (hM.of rfl) ?_
    | with_reducible refine loadAsk_kept (hM.of rfl) ?_
    | with_reducible refine setRegion_kept (hM.of rfl) ?_
    | split)

theorem autoRelocateStep_kept (hM : Sub 2311602059 m) {a0 a1 : Nat} {s : Block} (h : Kept m s0 s) :
    Kept m s0 (autoRelocateStep a0 a1 s) := by
  unfold autoRelocateStep
  repeat' (first
    | with_reducible assumption
    | (extract_lets +onlyGivenNames r; have hr : Kept m s0 r.2 := ?_; clear_value r; rotate_left; subst r; rotate_right)
    | (extract_lets +onlyGivenNames r; clear_value r)
    | with_reducible refine Kept.ite ?_ ?_
    | with_reducible refine Block_raise_kept (hM.of rfl) ?_
    | with_reducible refine retainedOk_kept (hM.of rfl) ?_
    | with_reducible refine loadAsk_kept (hM.of rfl) ?_
    | with_reducible refine setRegion_kept (hM.of rfl) ?_
    | split)

theorem relocateCutoverStep_kept (hM : Sub 526344 m) {a0 : Nat} {s : Block} (h : Kept m s0 s) :
    Kept m s0 (relocateCutoverStep a0 s) := by
  unfold relocateCutoverStep
  repeat' (first
    | with_reducible assumption
    | intro _
    | (extract_lets +onlyGivenNames r; have hr : Kept m s0 r := ?_; clear_value r; rotate_left; subst r; rotate_right)
    | with_reducible refine Kept.ite ?_ ?_
    | with_reducible refine Kept.foldl ?_ ?_
    | with_reducible refine writeTaps_kept (hM.of rfl) ?_
    | with_reducible refine freezeStart_kept (hM.of rfl) ?_
    | with_reducible refine modCfg_kept (hM.of rfl) ?_
    | split)

theorem cutoverDone_kept (hM : Sub 2311618443 m) {a0 : Cutover} {s : Block} (h : Kept m s0 s) :
    Kept m s0 (cutoverDone a0 s) := by
  unfold cutoverDone
  repeat' (first
    | with_reducible assumption
    | intro _
    | (extract_lets +onlyGivenNames r; have hr : Kept m s0 r := ?_; clear_value r; rotate_left; subst r; rotate_right)
    | with_reducible refine modCfg_kept (hM.of rfl) ?_
    | with_reducible refine emptySectors_kept (hM.of rfl) ?_
    | with_reducible refine tppsFollow_kept (hM.of rfl) ?_
    | with_reducible refine goLive_kept (hM.of rfl) ?_
    | with_reducible refine when_kept (hM.of rfl) ?_ ?_
    | with_reducible refine Block_raise_kept (hM.of rfl) ?_
    | with_reducible refine Block_close_kept (hM.of rfl) ?_)

theorem configUpsetStep_kept (hM : Sub 2048 m) {a0 a1 : Nat} {a2 : List Nat} {s : Block} (h : Kept m s0 s) :
    Kept m s0 (configUpsetStep a0 a1 a2 s) := by
  unfold configUpsetStep
  repeat' (first
    | with_reducible assumption
    | intro _
    | (extract_lets +onlyGivenNames r; clear_value r)
    | with_reducible refine Kept.foldl ?_ ?_
    | with_reducible refine flipFrameBit_kept (hM.of rfl) ?_
    | with_reducible refine modCfg_kept (hM.of rfl) ?_)

theorem repairFrame_kept (hM : Sub 2048 m) {a0 : Nat} {s : Block} (h : Kept m s0 s) :
    Kept m s0 (repairFrame a0 s) := by
  unfold repairFrame
  repeat' (first
    | with_reducible assumption
    | (extract_lets +onlyGivenNames r; have hr : Kept m s0 r := ?_; clear_value r; rotate_left; subst r; rotate_right)
    | (extract_lets +onlyGivenNames r; clear_value r)
    | with_reducible refine Kept.ite ?_ ?_
    | with_reducible refine modCfg_kept (hM.of rfl) ?_
    | with_reducible refine frameFields_kept (hM.of rfl) ?_
    | with_reducible refine rewriteRoutes_kept (hM.of rfl) ?_)

theorem scrubSbe_kept (hM : Sub 16779272 m) {a0 a1 a2 : Nat} {s : Block} (h : Kept m s0 s) :
    Kept m s0 (scrubSbe a0 a1 a2 s) := by
  unfold scrubSbe
  repeat' (first
    | with_reducible assumption
    | intro _
    | (extract_lets +onlyGivenNames r; have hr : Kept m s0 r := ?_; clear_value r; rotate_left; subst r; rotate_right)
    | (extract_lets +onlyGivenNames r; clear_value r)
    | with_reducible refine repairFrame_kept (hM.of rfl) ?_
    | with_reducible refine Block_bump_kept (hM.of rfl) ?_
    | with_reducible refine modCfg_kept (hM.of rfl) ?_
    | with_reducible refine when_kept (hM.of rfl) ?_ ?_
    | with_reducible refine hardFault_kept (hM.of rfl) ?_)

theorem scrubMbe_kept (hM : Sub 17303560 m) {a0 a1 : Nat} {s : Block} (h : Kept m s0 s) :
    Kept m s0 (scrubMbe a0 a1 s) := by
  unfold scrubMbe
  repeat' (first
    | with_reducible assumption
    | intro _
    | (extract_lets +onlyGivenNames r; have hr : Kept m s0 r := ?_; clear_value r; rotate_left; subst r; rotate_right)
    | (extract_lets +onlyGivenNames r; clear_value r)
    | with_reducible refine Kept.ite ?_ ?_
    | with_reducible refine Block_bump_kept (hM.of rfl) ?_
    | with_reducible refine sectorEvent_kept (hM.of rfl) ?_
    | with_reducible refine Block_raise_kept (hM.of rfl) ?_
    | with_reducible refine Block_put_kept (hM.of rfl) ?_
    | with_reducible refine modCfg_kept (hM.of rfl) ?_
    | with_reducible refine when_kept (hM.of rfl) ?_ ?_
    | with_reducible refine hardFault_kept (hM.of rfl) ?_
    | with_reducible refine repairFrame_kept (hM.of rfl) ?_
    | with_reducible refine freezeStart_kept (hM.of rfl) ?_)

theorem configScrubFrameStep_kept (hM : Sub 17303560 m) {a0 : Nat} {s : Block} (h : Kept m s0 s) :
    Kept m s0 (configScrubFrameStep a0 s) := by
  unfold configScrubFrameStep
  repeat' (first
    | with_reducible assumption
    | (extract_lets +onlyGivenNames r; have hr : Kept m s0 r := ?_; clear_value r; rotate_left; subst r; rotate_right)
    | (extract_lets +onlyGivenNames r; have hr := fun x => r x; subst r)
    | (extract_lets +onlyGivenNames r; clear_value r)
    | with_reducible refine Kept.ite ?_ ?_
    | with_reducible refine modCfg_kept (hM.of rfl) ?_
    | with_reducible refine scrubSbe_kept (hM.of rfl) ?_
    | with_reducible refine scrubMbe_kept (hM.of rfl) ?_
    | split)

theorem rewriteFrames_kept (hM : Sub 2048 m) {a0 : Nat} {s : Block} (h : Kept m s0 s) :
    Kept m s0 (rewriteFrames a0 s) := by
  unfold rewriteFrames
  repeat' (first
    | with_reducible assumption
    | intro _
    | (extract_lets +onlyGivenNames r; have hr : Kept m s0 r := ?_; clear_value r; rotate_left; subst r; rotate_right)
    | (extract_lets +onlyGivenNames r; have hr := fun x => r x; subst r)
    | with_reducible refine Kept.foldl ?_ ?_
    | with_reducible refine clearFields_kept (hM.of rfl) ?_
    | with_reducible refine modCfg_kept (hM.of rfl) ?_
    | with_reducible refine frameFields_kept (hM.of rfl) ?_
    | with_reducible refine rewriteRoutes_kept (hM.of rfl) ?_)

theorem mbeReloadStep_kept (hM : Sub 16779274 m) {a0 : Nat} {s : Block} (h : Kept m s0 s) :
    Kept m s0 (mbeReloadStep a0 s) := by
  unfold mbeReloadStep
  repeat' (first
    | with_reducible assumption
    | (extract_lets +onlyGivenNames r; have hr : Kept m s0 r := ?_; clear_value r; rotate_left; subst r; rotate_right)
    | (extract_lets +onlyGivenNames r; have hr : Kept m s0 r.2 := ?_; clear_value r; rotate_left; subst r; rotate_right)
    | (extract_lets +onlyGivenNames r; clear_value r)
    | with_reducible refine Kept.ite ?_ ?_
    | with_reducible refine modCfg_kept (hM.of rfl) ?_
    | with_reducible refine retainedOk_kept (hM.of rfl) ?_
    | with_reducible refine setRegion_kept (hM.of rfl) ?_
    | with_reducible refine rewriteFrames_kept (hM.of rfl) ?_
    | with_reducible refine Block_putB_kept (hM.of rfl) ?_
    | with_reducible refine releaseAsk_kept (hM.of rfl) ?_)

theorem resetMarker_kept (hM : Sub 2156399872 m) {s : Block} (h : Kept m s0 s) :
    Kept m s0 (resetMarker s) := by
  unfold resetMarker
  repeat' (first
    | with_reducible assumption
    | intro _
    | (extract_lets +onlyGivenNames r; have hr : Kept m s0 r := ?_; clear_value r; rotate_left; subst r; rotate_right)
    | (extract_lets +onlyGivenNames r; clear_value r)
    | with_reducible refine Kept.ite ?_ ?_
    | with_reducible refine Kept.foldl ?_ ?_
    | with_reducible refine modCfg_kept (hM.of rfl) ?_
    | with_reducible refine Block_close_kept (hM.of rfl) ?_
    | with_reducible refine portsReset_kept (hM.of rfl) ?_
    | with_reducible refine forEach_kept (hM.of rfl) ?_ ?_
    | with_reducible refine fabricInit_kept (hM.of rfl) ?_
    | with_reducible refine eachEngine_kept (hM.of rfl) ?_ ?_
    | with_reducible refine engResetAt_kept (hM.of rfl) ?_
    | with_reducible refine eachRam_kept (hM.of rfl) ?_ ?_
    | with_reducible refine ramRegionReset_kept (hM.of rfl) ?_)

theorem freezeMarker_kept (hM : Sub 2311602059 m) {s : Block} (h : Kept m s0 s) :
    Kept m s0 (freezeMarker s) := by
  unfold freezeMarker
  repeat' (first
    | with_reducible assumption
    | intro _
    | (extract_lets +onlyGivenNames r; have hr : Kept m s0 r := ?_; clear_value r; rotate_left; subst r; rotate_right)
    | (extract_lets +onlyGivenNames r; have hr := fun x => r x; subst r)
    | (extract_lets +onlyGivenNames r; clear_value r)
    | with_reducible refine Kept.foldl ?_ ?_
    | with_reducible refine modCfg_kept (hM.of rfl) ?_
    | with_reducible refine Block_close_kept (hM.of rfl) ?_
    | with_reducible refine goFrozen_kept (hM.of rfl) ?_
    | with_reducible refine loadReady_kept (hM.of rfl) ?_)

theorem cutoverMarker_kept (hM : Sub 2311618443 m) {s : Block} (h : Kept m s0 s) :
    Kept m s0 (cutoverMarker s) := by
  unfold cutoverMarker
  repeat' (first
    | with_reducible assumption
    | intro _
    | with_reducible refine Kept.ite ?_ ?_
    | with_reducible refine Kept.foldl ?_ ?_
    | with_reducible refine setLink_kept (hM.of rfl) ?_
    | with_reducible refine modCfg_kept (hM.of rfl) ?_
    | with_reducible refine cutoverDone_kept (hM.of rfl) ?_)

theorem platesMarker_kept (hM : Sub 2378727323 m) {s : Block} (h : Kept m s0 s) :
    Kept m s0 (platesMarker s) := by
  unfold platesMarker
  repeat' (first
    | with_reducible assumption
    | intro _
    | (extract_lets +onlyGivenNames r; have hr : Kept m s0 r := ?_; clear_value r; rotate_left; subst r; rotate_right)
    | (extract_lets +onlyGivenNames r; clear_value r)
    | with_reducible refine Kept.foldl ?_ ?_
    | with_reducible refine modCfg_kept (hM.of rfl) ?_
    | with_reducible refine releaseOne_kept (hM.of rfl) ?_
    | with_reducible refine freezeMarker_kept (hM.of rfl) ?_
    | with_reducible refine cutoverMarker_kept (hM.of rfl) ?_
    | with_reducible refine resetMarker_kept (hM.of rfl) ?_)

theorem platesDieReset_kept (hM : Sub 2311602059 m) {a0 : Nat} {s : Block} (h : Kept m s0 s) :
    Kept m s0 (platesDieReset a0 s) := by
  unfold platesDieReset
  repeat' (first
    | with_reducible assumption
    | intro _
    | (extract_lets +onlyGivenNames r; have hr : Kept m s0 r := ?_; clear_value r; rotate_left; subst r; rotate_right)
    | (extract_lets +onlyGivenNames r; have hr := fun x => r x; subst r)
    | (extract_lets +onlyGivenNames r; clear_value r)
    | with_reducible refine Kept.ite ?_ ?_
    | with_reducible refine Kept.foldl ?_ ?_
    | with_reducible refine loadFail_kept (hM.of rfl) ?_
    | with_reducible refine emptySectors_kept (hM.of rfl) ?_
    | with_reducible refine modCfg_kept (hM.of rfl) ?_
    | with_reducible refine Block_close_kept (hM.of rfl) ?_)

theorem platesRestart_kept (hM : Sub 2311602059 m) {s : Block} (h : Kept m s0 s) :
    Kept m s0 (platesRestart s) := by
  unfold platesRestart
  repeat' (first
    | with_reducible assumption
    | intro _
    | with_reducible refine Kept.ite ?_ ?_
    | with_reducible refine Kept.foldl ?_ ?_
    | with_reducible refine dropLoad_kept (hM.of rfl) ?_
    | with_reducible refine Block_raise_kept (hM.of rfl) ?_
    | with_reducible refine loadFail_kept (hM.of rfl) ?_)

theorem execPlateLoad_ran (hM : Sub 2311602059 m) (a0 : Hdr) (a1 : Nat) (a2 : Nat) (a3 : Nat) (a4 : Nat) (a5 : Nat) (a6 : Nat) (a7 : Nat) (a8 : Nat) (s : State) : Ran m s (execPlateLoad a0 a1 a2 a3 a4 a5 a6 a7 a8 s) := by
  unfold execPlateLoad
  refine live_ran (fun s0 s h => ?_) s
  repeat' (first
    | with_reducible assumption
    | intro _
    | with_reducible refine Block_command_kept (hM.of rfl) ?_ ?_
    | with_reducible refine plateLoadCmd_kept (hM.of rfl) ?_)

theorem execCfgLoad_ran (hM : Sub 2311602059 m) (a0 : Hdr) (a1 : Nat) (a2 : Nat) (a3 : Nat) (s : State) : Ran m s (execCfgLoad a0 a1 a2 a3 s) := by
  unfold execCfgLoad
  refine live_ran (fun s0 s h => ?_) s
  repeat' (first
    | with_reducible assumption
    | intro _
    | with_reducible refine Block_commandV1_kept (hM.of rfl) ?_ ?_
    | with_reducible refine cfgLoadCmd_kept (hM.of rfl) ?_)

theorem execFrameRecordWrite_ran (hM : Sub 2311602059 m) (a0 : Nat) (a1 : Bool) (s : State) : Ran m s (execFrameRecordWrite a0 a1 s) := by
  unfold execFrameRecordWrite
  refine clocked_ran (fun s0 s h => ?_) s
  repeat' (first
    | with_reducible assumption
    | with_reducible refine frameRecordWriteStep_kept (hM.of rfl) ?_)

theorem execLoadStreamDone_ran (hM : Sub 2311618443 m) (a0 : Nat) (a1 : List DieSettings) (a2 : List LinkRoute) (s : State) : Ran m s (execLoadStreamDone a0 a1 a2 s) := by
  unfold execLoadStreamDone
  refine clocked_ran (fun s0 s h => ?_) s
  repeat' (first
    | with_reducible assumption
    | with_reducible refine loadStreamDoneStep_kept (hM.of rfl) ?_)

theorem execLoadVerifyDone_ran (hM : Sub 2311602059 m) (a0 : Nat) (a1 : List SeamFault) (s : State) : Ran m s (execLoadVerifyDone a0 a1 s) := by
  unfold execLoadVerifyDone
  refine clocked_ran (fun s0 s h => ?_) s
  repeat' (first
    | with_reducible assumption
    | with_reducible refine loadVerifyDoneStep_kept (hM.of rfl) ?_)

theorem execRegionFreeze_ran (hM : Sub 8914952 m) (a0 : Hdr) (a1 : Nat) (s : State) : Ran m s (execRegionFreeze a0 a1 s) := by
  unfold execRegionFreeze
  refine live_ran (fun s0 s h => ?_) s
  repeat' (first
    | with_reducible assumption
    | intro _
    | with_reducible refine Block_command_kept (hM.of rfl) ?_ ?_
    | with_reducible refine regionFreezeCmd_kept (hM.of rfl) ?_)

theorem execRegionRelease_ran (hM : Sub 8390656 m) (a0 : Hdr) (a1 : BitVec 256) (s : State) : Ran m s (execRegionRelease a0 a1 s) := by
  unfold execRegionRelease
  refine live_ran (fun s0 s h => ?_) s
  repeat' (first
    | with_reducible assumption
    | intro _
    | with_reducible refine Block_command_kept (hM.of rfl) ?_ ?_
    | with_reducible refine regionReleaseCmd_kept (hM.of rfl) ?_)

theorem execRegionReset_ran (hM : Sub 8390656 m) (a0 : Hdr) (a1 : Nat) (s : State) : Ran m s (execRegionReset a0 a1 s) := by
  unfold execRegionReset
  refine live_ran (fun s0 s h => ?_) s
  repeat' (first
    | with_reducible assumption
    | intro _
    | with_reducible refine Block_command_kept (hM.of rfl) ?_ ?_
    | with_reducible refine regionResetCmd_kept (hM.of rfl) ?_)

theorem execRegionClear_ran (hM : Sub 2311602059 m) (a0 : Hdr) (a1 : Nat) (s : State) : Ran m s (execRegionClear a0 a1 s) := by
  unfold execRegionClear
  refine live_ran (fun s0 s h => ?_) s
  repeat' (first
    | with_reducible assumption
    | intro _
    | with_reducible refine Block_command_kept (hM.of rfl) ?_ ?_
    | with_reducible refine regionClearCmd_kept (hM.of rfl) ?_)

theorem execPlateSpares_ran (hM : Sub 8388616 m) (a0 : Hdr) (a1 : BitVec 320) (s : State) : Ran m s (execPlateSpares a0 a1 s) := by
  unfold execPlateSpares
  refine live_ran (fun s0 s h => ?_) s
  repeat' (first
    | with_reducible assumption
    | intro _
    | with_reducible refine Block_command_kept (hM.of rfl) ?_ ?_
    | with_reducible refine plateSparesCmd_kept (hM.of rfl) ?_)

theorem execPlateUnretain_ran (hM : Sub 8390656 m) (a0 : Hdr) (a1 : Nat) (s : State) : Ran m s (execPlateUnretain a0 a1 s) := by
  unfold execPlateUnretain
  refine live_ran (fun s0 s h => ?_) s
  repeat' (first
    | with_reducible assumption
    | intro _
    | with_reducible refine Block_command_kept (hM.of rfl) ?_ ?_
    | with_reducible refine plateUnretainCmd_kept (hM.of rfl) ?_)

theorem execPlateStatus_ran (hM : Sub 8388608 m) (a0 : Hdr) (a1 : Nat) (s : State) : Ran m s (execPlateStatus a0 a1 s) := by
  unfold execPlateStatus
  refine live_ran (fun s0 s h => ?_) s
  repeat' (first
    | with_reducible assumption
    | intro _
    | with_reducible refine Block_command_kept (hM.of rfl) ?_ ?_
    | with_reducible refine plateStatusCmd_kept (hM.of rfl) ?_)

theorem execCfgStatus_ran (hM : Sub 8388608 m) (a0 : Hdr) (a1 : Nat) (s : State) : Ran m s (execCfgStatus a0 a1 s) := by
  unfold execCfgStatus
  refine live_ran (fun s0 s h => ?_) s
  repeat' (first
    | with_reducible assumption
    | intro _
    | with_reducible refine Block_commandV1_kept (hM.of rfl) ?_ ?_
    | with_reducible refine plateStatusCmd_kept (hM.of rfl) ?_)

theorem execFreezeDrainEnd_ran (hM : Sub 2048 m) (a0 : Nat) (s : State) : Ran m s (execFreezeDrainEnd a0 s) := by
  unfold execFreezeDrainEnd
  refine clocked_ran (fun s0 s h => ?_) s
  repeat' (first
    | with_reducible assumption
    | with_reducible refine freezeDrainEndStep_kept (hM.of rfl) ?_)

theorem execLinkReroute_ran (hM : Sub 25168008 m) (a0 : Nat) (a1 : Option (List Hop)) (s : State) : Ran m s (execLinkReroute a0 a1 s) := by
  unfold execLinkReroute
  refine clocked_ran (fun s0 s h => ?_) s
  repeat' (first
    | with_reducible assumption
    | with_reducible refine Kept.ite ?_ ?_
    | with_reducible refine linkRerouteStep_kept (hM.of rfl) ?_)

theorem execPlateRelocate_ran (hM : Sub 2311602059 m) (a0 : Hdr) (a1 : Nat) (a2 : Nat) (s : State) : Ran m s (execPlateRelocate a0 a1 a2 s) := by
  unfold execPlateRelocate
  refine live_ran (fun s0 s h => ?_) s
  repeat' (first
    | with_reducible assumption
    | intro _
    | with_reducible refine Block_command_kept (hM.of rfl) ?_ ?_
    | with_reducible refine plateRelocateCmd_kept (hM.of rfl) ?_)

theorem execAutoRelocate_ran (hM : Sub 2311602059 m) (a0 : Nat) (a1 : Nat) (s : State) : Ran m s (execAutoRelocate a0 a1 s) := by
  unfold execAutoRelocate
  refine clocked_ran (fun s0 s h => ?_) s
  repeat' (first
    | with_reducible assumption
    | with_reducible refine autoRelocateStep_kept (hM.of rfl) ?_)

theorem execRelocateCutover_ran (hM : Sub 526344 m) (a0 : Nat) (s : State) : Ran m s (execRelocateCutover a0 s) := by
  unfold execRelocateCutover
  refine clocked_ran (fun s0 s h => ?_) s
  repeat' (first
    | with_reducible assumption
    | with_reducible refine relocateCutoverStep_kept (hM.of rfl) ?_)

theorem execConfigUpset_ran (hM : Sub 2048 m) (a0 : Fin 320) (a1 : Fin 6656) (a2 : List (Fin 2093)) (s : State) : Ran m s (execConfigUpset a0 a1 a2 s) := by
  unfold execConfigUpset
  refine live_ran (fun s0 s h => ?_) s
  repeat' (first
    | with_reducible assumption
    | with_reducible refine configUpsetStep_kept (hM.of rfl) ?_)

theorem execConfigScrubFrame_ran (hM : Sub 17303560 m) (a0 : Fin 4) (s : State) : Ran m s (execConfigScrubFrame a0 s) := by
  unfold execConfigScrubFrame
  refine clockedOn_ran (fun s0 s h => ?_) s
  repeat' (first
    | with_reducible assumption
    | with_reducible refine configScrubFrameStep_kept (hM.of rfl) ?_)

theorem execMbeReload_ran (hM : Sub 16779274 m) (a0 : Fin 320) (s : State) : Ran m s (execMbeReload a0 s) := by
  unfold execMbeReload
  refine clocked_ran (fun s0 s h => ?_) s
  repeat' (first
    | with_reducible assumption
    | with_reducible refine mbeReloadStep_kept (hM.of rfl) ?_)

/-! ### SelfTest -/

theorem modGr_kept (hM : Sub 33554432 m) {a0 : GreoneSt → GreoneSt} {s : Block} (h : Kept m s0 s) :
    Kept m s0 (modGr a0 s) := by
  unfold modGr
  repeat' (first
    | with_reducible assumption
    | with_reducible refine Kept.upd ?_ (h_gr := .inr (hM.of rfl)))

theorem scrubSector_kept (hM : Sub 17303560 m) {a0 : Nat} {s : Block} (h : Kept m s0 s) :
    Kept m s0 (scrubSector a0 s) := by
  unfold scrubSector
  repeat' (first
    | with_reducible assumption
    | intro _
    | (extract_lets +onlyGivenNames r; have hr : Kept m s0 r := ?_; clear_value r; rotate_left; subst r; rotate_right)
    | (extract_lets +onlyGivenNames r; clear_value r)
    | with_reducible refine modCfg_kept (hM.of rfl) ?_
    | with_reducible refine forEach_kept (hM.of rfl) ?_ ?_
    | with_reducible refine scrubSbe_kept (hM.of rfl) ?_
    | with_reducible refine scrubMbe_kept (hM.of rfl) ?_
    | split)

theorem blurEngines_kept (hM : Sub 1026 m) {a0 : Nat} {s : Block} (h : Kept m s0 s) :
    Kept m s0 (blurEngines a0 s) := by
  unfold blurEngines
  repeat' (first
    | with_reducible assumption
    | intro _
    | (extract_lets +onlyGivenNames r; clear_value r)
    | with_reducible refine forEach_kept (hM.of rfl) ?_ ?_
    | with_reducible refine setEng_kept (hM.of rfl) ?_
    | with_reducible refine Kept.upd ?_ (h_free := .inr (hM.of rfl)))

theorem testBegin_kept (hM : Sub 194612235 m) {a0 a1 a2 : Nat} {s : Block} (h : Kept m s0 s) :
    Kept m s0 (testBegin a0 a1 a2 s) := by
  unfold testBegin
  repeat' (first
    | with_reducible assumption
    | with_reducible refine Kept.ite ?_ ?_
    | with_reducible refine modLane_kept (hM.of rfl) ?_
    | with_reducible refine Block_putB_kept (hM.of rfl) ?_
    | with_reducible refine marchRange_kept (hM.of rfl) ?_
    | with_reducible refine trainStart_kept (hM.of rfl) ?_
    | with_reducible refine scrubSector_kept (hM.of rfl) ?_
    | with_reducible refine blurEngines_kept (hM.of rfl) ?_
    | with_reducible refine tppCalBegin_kept (hM.of rfl) ?_
    | with_reducible refine discover_kept (hM.of rfl) ?_
    | with_reducible refine enterRetrain_kept (hM.of rfl) ?_
    | with_reducible refine restartFor_kept (hM.of rfl) ?_)

theorem testAdd_kept (hM : Sub 33554432 m) {a0 : TestRun} {s : Block} (h : Kept m s0 s) :
    Kept m s0 (testAdd a0 s) := by
  unfold testAdd
  repeat' (first
    | with_reducible assumption
    | with_reducible refine modGr_kept (hM.of rfl) ?_)

theorem slotEnd_kept (hM : Sub 50331648 m) {a0 a1 : Nat} {s : Block} (h : Kept m s0 s) :
    Kept m s0 (slotEnd a0 a1 s) := by
  unfold slotEnd
  repeat' (first
    | with_reducible assumption
    | with_reducible refine Block_raise_kept (hM.of rfl) ?_
    | with_reducible refine modGr_kept (hM.of rfl) ?_)

theorem testResume_kept (hM : Sub 160006153 m) {a0 : TestRun} {s : Block} (h : Kept m s0 s) :
    Kept m s0 (testResume a0 s) := by
  unfold testResume
  repeat' (first
    | with_reducible assumption
    | intro _
    | (extract_lets +onlyGivenNames r; have hr : Kept m s0 r := ?_; clear_value r; rotate_left; subst r; rotate_right)
    | with_reducible refine Kept.ite ?_ ?_
    | with_reducible refine laneTest_kept (hM.of rfl) ?_
    | with_reducible refine when_kept (hM.of rfl) ?_ ?_
    | with_reducible refine Block_putB_kept (hM.of rfl) ?_
    | with_reducible refine modDc_kept (hM.of rfl) (by first | exact fun _ h => h | exact fun c h => storeLine_lines _ _ _ h | exact fun c h => spSorted_spClear _ _ h | (intro c h; dsimp only; split <;> exact h)) ?_
    | with_reducible refine enterDc_kept (hM.of rfl) ?_)

theorem testEnd_kept (hM : Sub 193560585 m) {a0 : TestRun} {a1 : Nat} {a2 : List (Nat × Nat)} {s : Block} (h : Kept m s0 s) :
    Kept m s0 (testEnd a0 a1 a2 s) := by
  unfold testEnd
  repeat' (first
    | with_reducible assumption
    | (extract_lets +onlyGivenNames r; have hr : Kept m s0 r := ?_; clear_value r; rotate_left; subst r; rotate_right)
    | with_reducible refine Kept.ite ?_ ?_
    | with_reducible refine testResume_kept (hM.of rfl) ?_
    | with_reducible refine modGr_kept (hM.of rfl) ?_
    | with_reducible refine slotEnd_kept (hM.of rfl) ?_
    | with_reducible refine Block_close_kept (hM.of rfl) ?_
    | split)

theorem testsDieReset_kept (hM : Sub 193560585 m) {a0 : Nat} {s : Block} (h : Kept m s0 s) :
    Kept m s0 (testsDieReset a0 s) := by
  unfold testsDieReset
  repeat' (first
    | with_reducible assumption
    | intro _
    | with_reducible refine Kept.foldl ?_ ?_
    | with_reducible refine testEnd_kept (hM.of rfl) ?_)

theorem testRunCmd_kept (hM : Sub 194612235 m) {a0 a1 a2 : Nat} {a3 : Cmd} {s : Block} (h : Kept m s0 s) :
    Kept m s0 (testRunCmd a0 a1 a2 a3 s) := by
  unfold testRunCmd
  repeat' (first
    | with_reducible assumption
    | (extract_lets +onlyGivenNames r; clear_value r)
    | with_reducible refine Kept.ite ?_ ?_
    | with_reducible refine Block_respond_kept (hM.of rfl) ?_
    | with_reducible refine Block_hold_kept (hM.of rfl) ?_
    | with_reducible refine testAdd_kept (hM.of rfl) ?_
    | with_reducible refine testBegin_kept (hM.of rfl) ?_
    | split)

theorem slotPut_kept (hM : Sub 33554432 m) {a0 : Nat} {a1 : Option TestEntry} {a2 : Nat} {s : Block} (h : Kept m s0 s) :
    Kept m s0 (slotPut a0 a1 a2 s) := by
  unfold slotPut
  repeat' (first
    | with_reducible assumption
    | with_reducible refine modGr_kept (hM.of rfl) ?_)

theorem testScheduleCmd_kept (hM : Sub 41943040 m) {a0 a1 a2 a3 a4 : Nat} {a5 : Cmd} {s : Block} (h : Kept m s0 s) :
    Kept m s0 (testScheduleCmd a0 a1 a2 a3 a4 a5 s) := by
  unfold testScheduleCmd
  repeat' (first
    | with_reducible assumption
    | (extract_lets +onlyGivenNames r; clear_value r)
    | with_reducible refine Kept.ite ?_ ?_
    | with_reducible refine Block_respond_kept (hM.of rfl) ?_
    | with_reducible refine slotPut_kept (hM.of rfl) ?_
    | split)

theorem testCancelCmd_kept (hM : Sub 41943040 m) {a0 : Nat} {a1 : Cmd} {s : Block} (h : Kept m s0 s) :
    Kept m s0 (testCancelCmd a0 a1 s) := by
  unfold testCancelCmd
  repeat' (first
    | with_reducible assumption
    | with_reducible refine Kept.ite ?_ ?_
    | with_reducible refine Block_respond_kept (hM.of rfl) ?_
    | with_reducible refine slotPut_kept (hM.of rfl) ?_)

theorem testStatusCmd_kept (hM : Sub 8388608 m) {a0 : Nat} {a1 : Cmd} {s : Block} (h : Kept m s0 s) :
    Kept m s0 (testStatusCmd a0 a1 s) := by
  unfold testStatusCmd
  repeat' (first
    | with_reducible assumption
    | (extract_lets +onlyGivenNames r; clear_value r)
    | with_reducible refine Kept.ite ?_ ?_
    | with_reducible refine Block_respond_kept (hM.of rfl) ?_)

theorem slotBegin_kept (hM : Sub 194612235 m) {a0 : Nat} {a1 : TestEntry} {a2 : Bool} {s : Block} (h : Kept m s0 s) :
    Kept m s0 (slotBegin a0 a1 a2 s) := by
  unfold slotBegin
  repeat' (first
    | with_reducible assumption
    | with_reducible refine testAdd_kept (hM.of rfl) ?_
    | with_reducible refine testBegin_kept (hM.of rfl) ?_)

theorem quietQuiesce_kept (hM : Sub 194612235 m) {a0 : Nat} {a1 : TestEntry} {s : Block} (h : Kept m s0 s) :
    Kept m s0 (quietQuiesce a0 a1 s) := by
  unfold quietQuiesce
  repeat' (first
    | with_reducible assumption
    | (extract_lets +onlyGivenNames r; clear_value r)
    | with_reducible refine Kept.ite ?_ ?_
    | with_reducible refine slotBegin_kept (hM.of rfl) ?_
    | with_reducible refine Block_putB_kept (hM.of rfl) ?_
    | with_reducible refine slotEnd_kept (hM.of rfl) ?_
    | with_reducible refine testAdd_kept (hM.of rfl) ?_
    | with_reducible refine enterDc_kept (hM.of rfl) ?_
    | with_reducible refine moduleDown_kept (hM.of rfl) ?_)

theorem testQuietPointStep_kept (hM : Sub 194612239 m) {a0 : Nat} {s : Block} (h : Kept m s0 s) :
    Kept m s0 (testQuietPointStep a0 s) := by
  unfold testQuietPointStep
  repeat' (first
    | with_reducible assumption
    | intro _
    | (extract_lets +onlyGivenNames r; have hr : Kept m s0 r := ?_; clear_value r; rotate_left; subst r; rotate_right)
    | with_reducible refine Kept.ite ?_ ?_
    | with_reducible refine slotBegin_kept (hM.of rfl) ?_
    | with_reducible refine modGr_kept (hM.of rfl) ?_
    | with_reducible refine testEnd_kept (hM.of rfl) ?_
    | with_reducible refine when_kept (hM.of rfl) ?_ ?_
    | with_reducible refine reachTime_kept (hM.of rfl) ?_
    | with_reducible refine slotEnd_kept (hM.of rfl) ?_
    | with_reducible refine quietQuiesce_kept (hM.of rfl) ?_
    | split)

theorem selfTestCompleteStep_kept (hM : Sub 193560585 m) {a0 a1 : Nat} {a2 : Bool} {a3 : List Nat} {s : Block} (h : Kept m s0 s) :
    Kept m s0 (selfTestCompleteStep a0 a1 a2 a3 s) := by
  unfold selfTestCompleteStep
  repeat' (first
    | with_reducible assumption
    | with_reducible refine Kept.ite ?_ ?_
    | with_reducible refine testEnd_kept (hM.of rfl) ?_
    | split)

theorem execTestRun_ran (hM : Sub 194612235 m) (a0 : Hdr) (a1 : Nat) (a2 : Nat) (a3 : Nat) (s : State) : Ran m s (execTestRun a0 a1 a2 a3 s) := by
  unfold execTestRun
  refine live_ran (fun s0 s h => ?_) s
  repeat' (first
    | with_reducible assumption
    | intro _
    | with_reducible refine Block_command_kept (hM.of rfl) ?_ ?_
    | with_reducible refine testRunCmd_kept (hM.of rfl) ?_)

theorem execTestSchedule_ran (hM : Sub 41943040 m) (a0 : Hdr) (a1 : Nat) (a2 : Nat) (a3 : Nat) (a4 : Nat) (a5 : Nat) (s : State) : Ran m s (execTestSchedule a0 a1 a2 a3 a4 a5 s) := by
  unfold execTestSchedule
  refine live_ran (fun s0 s h => ?_) s
  repeat' (first
    | with_reducible assumption
    | intro _
    | with_reducible refine Block_command_kept (hM.of rfl) ?_ ?_
    | with_reducible refine testScheduleCmd_kept (hM.of rfl) ?_)

theorem execTestCancel_ran (hM : Sub 41943040 m) (a0 : Hdr) (a1 : Nat) (s : State) : Ran m s (execTestCancel a0 a1 s) := by
  unfold execTestCancel
  refine live_ran (fun s0 s h => ?_) s
  repeat' (first
    | with_reducible assumption
    | intro _
    | with_reducible refine Block_command_kept (hM.of rfl) ?_ ?_
    | with_reducible refine testCancelCmd_kept (hM.of rfl) ?_)

theorem execTestStatus_ran (hM : Sub 8388608 m) (a0 : Hdr) (a1 : Nat) (s : State) : Ran m s (execTestStatus a0 a1 s) := by
  unfold execTestStatus
  refine live_ran (fun s0 s h => ?_) s
  repeat' (first
    | with_reducible assumption
    | intro _
    | with_reducible refine Block_command_kept (hM.of rfl) ?_ ?_
    | with_reducible refine testStatusCmd_kept (hM.of rfl) ?_)

theorem execTestQuietPoint_ran (hM : Sub 194612239 m) (a0 : Fin 16) (s : State) : Ran m s (execTestQuietPoint a0 s) := by
  unfold execTestQuietPoint
  refine clocked_ran (fun s0 s h => ?_) s
  repeat' (first
    | with_reducible assumption
    | with_reducible refine testQuietPointStep_kept (hM.of rfl) ?_)

theorem execSelfTestComplete_ran (hM : Sub 193560585 m) (a0 : Fin 256) (a1 : Fin 65536) (a2 : Bool) (a3 : List Nat) (s : State) : Ran m s (execSelfTestComplete a0 a1 a2 a3 s) := by
  unfold execSelfTestComplete
  refine clocked_ran (fun s0 s h => ?_) s
  repeat' (first
    | with_reducible assumption
    | with_reducible refine selfTestCompleteStep_kept (hM.of rfl) ?_)

end Sys2Proof.Laws
end

