-- ==== Sys2Proof/Laws/KeptDevice.lean ====
section
/-! SUPPORT. What each named operation keeps (Laws/Kept.lean): the ring, resets, Greone, markers and mailboxes. -/

namespace Sys2Proof.Laws

set_option Elab.async false
set_option linter.unusedTactic false
set_option linter.unreachableTactic false

open Machine

variable {m : Nat} {s0 : Block}

/-! ### Ring -/

theorem setRingSt_kept (hM : Sub 8 m) {a0 : Nat} {s : Block} (h : Kept m s0 s) :
    Kept m s0 (setRingSt a0 s) := by
  unfold setRingSt
  repeat' (first
    | with_reducible assumption
    | with_reducible refine Block_put_kept (hM.of rfl) ?_)

theorem modRing_kept (hM : Sub 32 m) {a0 : RingSt → RingSt} {s : Block} (h : Kept m s0 s) :
    Kept m s0 (modRing a0 s) := by
  unfold modRing
  repeat' (first
    | with_reducible assumption
    | with_reducible refine Kept.upd ?_ (h_ring := .inr (hM.of rfl)))

theorem ringForward_kept (hM : Sub 1 m) {a0 : BitVec 64} {s : Block} (h : Kept m s0 s) :
    Kept m s0 (ringForward a0 s) := by
  unfold ringForward
  repeat' (first
    | with_reducible assumption
    | intro _
    | with_reducible refine when_kept (hM.of rfl) ?_ ?_
    | with_reducible refine Block_emit_kept (hM.of rfl) ?_)

theorem ringListen_kept (hM : Sub 40 m) {s : Block} (h : Kept m s0 s) :
    Kept m s0 (ringListen s) := by
  unfold ringListen
  repeat' (first
    | with_reducible assumption
    | with_reducible refine modRing_kept (hM.of rfl) ?_
    | with_reducible refine setRingSt_kept (hM.of rfl) ?_)

theorem ringLockAcquiredStep_kept (hM : Sub 72 m) {s : Block} (h : Kept m s0 s) :
    Kept m s0 (ringLockAcquiredStep s) := by
  unfold ringLockAcquiredStep
  repeat' (first
    | with_reducible assumption
    | intro _
    | (extract_lets +onlyGivenNames r; have hr : Kept m s0 r := ?_; clear_value r; rotate_left; subst r; rotate_right)
    | (extract_lets +onlyGivenNames r; clear_value r)
    | with_reducible refine Kept.ite ?_ ?_
    | with_reducible refine Block_putB_kept (hM.of rfl) ?_
    | with_reducible refine when_kept (hM.of rfl) ?_ ?_
    | with_reducible refine setRingSt_kept (hM.of rfl) ?_
    | with_reducible refine startSlew_kept (hM.of rfl) ?_)

theorem ringLockLostStep_kept (hM : Sub 16777321 m) {s : Block} (h : Kept m s0 s) :
    Kept m s0 (ringLockLostStep s) := by
  unfold ringLockLostStep
  repeat' (first
    | with_reducible assumption
    | intro _
    | (extract_lets +onlyGivenNames r; have hr : Kept m s0 r := ?_; clear_value r; rotate_left; subst r; rotate_right)
    | with_reducible refine Kept.ite ?_ ?_
    | with_reducible refine ringRefLost_kept (hM.of rfl) ?_
    | with_reducible refine Block_putB_kept (hM.of rfl) ?_
    | with_reducible refine ringListen_kept (hM.of rfl) ?_
    | with_reducible refine modRing_kept (hM.of rfl) ?_
    | with_reducible refine when_kept (hM.of rfl) ?_ ?_
    | with_reducible refine Block_emit_kept (hM.of rfl) ?_
    | with_reducible refine Block_eicEdge_kept (hM.of rfl) ?_
    | with_reducible refine Block_raise_kept (hM.of rfl) ?_)

theorem ringWindowStep_kept (hM : Sub 33 m) {a0 : BitVec 16} {a1 : BitVec 16} {s : Block} (h : Kept m s0 s) :
    Kept m s0 (ringWindowStep a0 a1 s) := by
  unfold ringWindowStep
  repeat' (first
    | with_reducible assumption
    | (extract_lets +onlyGivenNames r; have hr : Kept m s0 r := ?_; clear_value r; rotate_left; subst r; rotate_right)
    | with_reducible refine Kept.ite ?_ ?_
    | with_reducible refine ringForward_kept (hM.of rfl) ?_
    | with_reducible refine modRing_kept (hM.of rfl) ?_)

theorem ringWindowStartStep_kept (hM : Sub 25165929 m) {s : Block} (h : Kept m s0 s) :
    Kept m s0 (ringWindowStartStep s) := by
  unfold ringWindowStartStep
  repeat' (first
    | with_reducible assumption
    | intro _
    | (extract_lets +onlyGivenNames r; have hr : Kept m s0 r := ?_; clear_value r; rotate_left; subst r; rotate_right)
    | with_reducible refine Kept.ite ?_ ?_
    | with_reducible refine modRing_kept (hM.of rfl) ?_
    | with_reducible refine Block_putB_kept (hM.of rfl) ?_
    | with_reducible refine setRingSt_kept (hM.of rfl) ?_
    | with_reducible refine when_kept (hM.of rfl) ?_ ?_
    | with_reducible refine Block_emit_kept (hM.of rfl) ?_
    | with_reducible refine Block_close_kept (hM.of rfl) ?_
    | with_reducible refine ringRefLost_kept (hM.of rfl) ?_)

theorem ringCensusStep_kept (hM : Sub 8388649 m) {a0 : Nat} {a1 : Bool} {s : Block} (h : Kept m s0 s) :
    Kept m s0 (ringCensusStep a0 a1 s) := by
  unfold ringCensusStep
  repeat' (first
    | with_reducible assumption
    | intro _
    | (extract_lets +onlyGivenNames r; have hr : Kept m s0 r := ?_; clear_value r; rotate_left; subst r; rotate_right)
    | (extract_lets +onlyGivenNames r; clear_value r)
    | with_reducible refine Kept.ite ?_ ?_
    | with_reducible refine ringForward_kept (hM.of rfl) ?_
    | with_reducible refine modRing_kept (hM.of rfl) ?_
    | with_reducible refine Block_put_kept (hM.of rfl) ?_
    | with_reducible refine setRingSt_kept (hM.of rfl) ?_
    | with_reducible refine Block_putB_kept (hM.of rfl) ?_
    | with_reducible refine when_kept (hM.of rfl) ?_ ?_
    | with_reducible refine Block_close_kept (hM.of rfl) ?_)

theorem ringStartPacketStep_kept (hM : Sub 8413195 m) {a0 a1 : Nat} {s : Block} (h : Kept m s0 s) :
    Kept m s0 (ringStartPacketStep a0 a1 s) := by
  unfold ringStartPacketStep
  repeat' (first
    | with_reducible assumption
    | intro _
    | (extract_lets +onlyGivenNames r; have hr : Kept m s0 r := ?_; clear_value r; rotate_left; subst r; rotate_right)
    | (extract_lets +onlyGivenNames r; clear_value r)
    | with_reducible refine Kept.ite ?_ ?_
    | with_reducible refine ringForward_kept (hM.of rfl) ?_
    | with_reducible refine forEach_kept (hM.of rfl) ?_ ?_
    | with_reducible refine runEnd_kept (hM.of rfl) ?_
    | with_reducible refine setTpp_kept (hM.of rfl) ?_)

theorem ringTriggerPacketStep_kept (hM : Sub 16793609 m) {a0 a1 a2 : Nat} {s : Block} (h : Kept m s0 s) :
    Kept m s0 (ringTriggerPacketStep a0 a1 a2 s) := by
  unfold ringTriggerPacketStep
  repeat' (first
    | with_reducible assumption
    | intro _
    | (extract_lets +onlyGivenNames r; have hr : Kept m s0 r := ?_; clear_value r; rotate_left; subst r; rotate_right)
    | (extract_lets +onlyGivenNames r; have hr := fun x => r x; subst r)
    | (extract_lets +onlyGivenNames r; clear_value r)
    | with_reducible refine Kept.ite ?_ ?_
    | with_reducible refine ringForward_kept (hM.of rfl) ?_
    | with_reducible refine forEach_kept (hM.of rfl) ?_ ?_
    | with_reducible refine tppTrigger_kept (hM.of rfl) ?_
    | with_reducible refine when_kept (hM.of rfl) ?_ ?_
    | with_reducible refine Block_bump_kept (hM.of rfl) ?_)

theorem ringAbortPacketStep_kept (hM : Sub 8413195 m) {a0 : Nat} {s : Block} (h : Kept m s0 s) :
    Kept m s0 (ringAbortPacketStep a0 s) := by
  unfold ringAbortPacketStep
  repeat' (first
    | with_reducible assumption
    | intro _
    | (extract_lets +onlyGivenNames r; have hr : Kept m s0 r := ?_; clear_value r; rotate_left; subst r; rotate_right)
    | with_reducible refine Kept.ite ?_ ?_
    | with_reducible refine ringForward_kept (hM.of rfl) ?_
    | with_reducible refine forEach_kept (hM.of rfl) ?_ ?_
    | with_reducible refine runStopAt_kept (hM.of rfl) ?_)

theorem ringPacketForwardStep_kept (hM : Sub 16777225 m) {a0 : BitVec 64} {s : Block} (h : Kept m s0 s) :
    Kept m s0 (ringPacketForwardStep a0 s) := by
  unfold ringPacketForwardStep
  repeat' (first
    | with_reducible assumption
    | intro _
    | with_reducible refine Kept.ite ?_ ?_
    | with_reducible refine when_kept (hM.of rfl) ?_ ?_
    | with_reducible refine Block_bump_kept (hM.of rfl) ?_
    | with_reducible refine ringForward_kept (hM.of rfl) ?_)

theorem ringJoinTimeoutStep_kept (hM : Sub 25165864 m) {s : Block} (h : Kept m s0 s) :
    Kept m s0 (ringJoinTimeoutStep s) := by
  unfold ringJoinTimeoutStep
  repeat' (first
    | with_reducible assumption
    | (extract_lets +onlyGivenNames r; have hr : Kept m s0 r := ?_; clear_value r; rotate_left; subst r; rotate_right)
    | with_reducible refine Kept.ite ?_ ?_
    | with_reducible refine modRing_kept (hM.of rfl) ?_
    | with_reducible refine Block_eicEdge_kept (hM.of rfl) ?_
    | with_reducible refine Block_raise_kept (hM.of rfl) ?_
    | with_reducible refine Block_close_kept (hM.of rfl) ?_)

theorem ringJoinCmd_kept (hM : Sub 8388648 m) {a0 : Cmd} {s : Block} (h : Kept m s0 s) :
    Kept m s0 (ringJoinCmd a0 s) := by
  unfold ringJoinCmd
  repeat' (first
    | with_reducible assumption
    | with_reducible refine Kept.ite ?_ ?_
    | with_reducible refine Block_hold_kept (hM.of rfl) ?_
    | with_reducible refine ringListen_kept (hM.of rfl) ?_
    | with_reducible refine Block_respond_kept (hM.of rfl) ?_)

theorem ringLeaveCmd_kept (hM : Sub 8388616 m) {a0 : Cmd} {s : Block} (h : Kept m s0 s) :
    Kept m s0 (ringLeaveCmd a0 s) := by
  unfold ringLeaveCmd
  repeat' (first
    | with_reducible assumption
    | with_reducible refine Kept.ite ?_ ?_
    | with_reducible refine Block_hold_kept (hM.of rfl) ?_
    | with_reducible refine Block_putB_kept (hM.of rfl) ?_
    | with_reducible refine setRingSt_kept (hM.of rfl) ?_
    | with_reducible refine Block_respond_kept (hM.of rfl) ?_)

theorem vccauxLossStep_kept (hM : Sub 40 m) {s : Block} (h : Kept m s0 s) :
    Kept m s0 (vccauxLossStep s) := by
  unfold vccauxLossStep
  repeat' (first
    | with_reducible assumption
    | with_reducible refine Block_putB_kept (hM.of rfl) ?_
    | with_reducible refine modRing_kept (hM.of rfl) ?_)

theorem execRingLockAcquired_ran (hM : Sub 72 m) (s : State) : Ran m s (execRingLockAcquired s) := by
  unfold execRingLockAcquired
  refine clocked_ran (fun s0 s h => ?_) s
  repeat' (first
    | with_reducible assumption
    | with_reducible refine ringLockAcquiredStep_kept (hM.of rfl) ?_)

theorem execRingLockLost_ran (hM : Sub 16777321 m) (s : State) : Ran m s (execRingLockLost s) := by
  unfold execRingLockLost
  refine clocked_ran (fun s0 s h => ?_) s
  repeat' (first
    | with_reducible assumption
    | with_reducible refine ringLockLostStep_kept (hM.of rfl) ?_)

theorem execRingWindow_ran (hM : Sub 33 m) (a0 : BitVec 16) (a1 : BitVec 16) (s : State) : Ran m s (execRingWindow a0 a1 s) := by
  unfold execRingWindow
  refine clocked_ran (fun s0 s h => ?_) s
  repeat' (first
    | with_reducible assumption
    | with_reducible refine ringWindowStep_kept (hM.of rfl) ?_)

theorem execRingWindowStart_ran (hM : Sub 25165929 m) (s : State) : Ran m s (execRingWindowStart s) := by
  unfold execRingWindowStart
  refine clocked_ran (fun s0 s h => ?_) s
  repeat' (first
    | with_reducible assumption
    | with_reducible refine ringWindowStartStep_kept (hM.of rfl) ?_)

theorem execRingCensus_ran (hM : Sub 8388649 m) (a0 : BitVec 8) (a1 : Bool) (s : State) : Ran m s (execRingCensus a0 a1 s) := by
  unfold execRingCensus
  refine clocked_ran (fun s0 s h => ?_) s
  repeat' (first
    | with_reducible assumption
    | with_reducible refine ringCensusStep_kept (hM.of rfl) ?_)

theorem execRingStartPacket_ran (hM : Sub 8413195 m) (a0 : BitVec 16) (a1 : BitVec 8) (s : State) : Ran m s (execRingStartPacket a0 a1 s) := by
  unfold execRingStartPacket
  refine clocked_ran (fun s0 s h => ?_) s
  repeat' (first
    | with_reducible assumption
    | with_reducible refine ringStartPacketStep_kept (hM.of rfl) ?_)

theorem execRingTriggerPacket_ran (hM : Sub 16793609 m) (a0 : BitVec 16) (a1 : BitVec 4) (a2 : BitVec 8) (s : State) : Ran m s (execRingTriggerPacket a0 a1 a2 s) := by
  unfold execRingTriggerPacket
  refine clocked_ran (fun s0 s h => ?_) s
  repeat' (first
    | with_reducible assumption
    | with_reducible refine ringTriggerPacketStep_kept (hM.of rfl) ?_)

theorem execRingAbortPacket_ran (hM : Sub 8413195 m) (a0 : BitVec 16) (s : State) : Ran m s (execRingAbortPacket a0 s) := by
  unfold execRingAbortPacket
  refine clocked_ran (fun s0 s h => ?_) s
  repeat' (first
    | with_reducible assumption
    | with_reducible refine ringAbortPacketStep_kept (hM.of rfl) ?_)

theorem execRingPacketForward_ran (hM : Sub 16777225 m) (a0 : BitVec 64) (s : State) : Ran m s (execRingPacketForward a0 s) := by
  unfold execRingPacketForward
  refine clocked_ran (fun s0 s h => ?_) s
  repeat' (first
    | with_reducible assumption
    | with_reducible refine ringPacketForwardStep_kept (hM.of rfl) ?_)

theorem execRingJoinTimeout_ran (hM : Sub 25165864 m) (s : State) : Ran m s (execRingJoinTimeout s) := by
  unfold execRingJoinTimeout
  refine clocked_ran (fun s0 s h => ?_) s
  repeat' (first
    | with_reducible assumption
    | with_reducible refine ringJoinTimeoutStep_kept (hM.of rfl) ?_)

theorem execRingJoin_ran (hM : Sub 8388648 m) (a0 : Hdr) (s : State) : Ran m s (execRingJoin a0 s) := by
  unfold execRingJoin
  refine live_ran (fun s0 s h => ?_) s
  repeat' (first
    | with_reducible assumption
    | intro _
    | with_reducible refine Block_command_kept (hM.of rfl) ?_ ?_
    | with_reducible refine ringJoinCmd_kept (hM.of rfl) ?_)

theorem execRingLeave_ran (hM : Sub 8388616 m) (a0 : Hdr) (s : State) : Ran m s (execRingLeave a0 s) := by
  unfold execRingLeave
  refine live_ran (fun s0 s h => ?_) s
  repeat' (first
    | with_reducible assumption
    | intro _
    | with_reducible refine Block_command_kept (hM.of rfl) ?_ ?_
    | with_reducible refine ringLeaveCmd_kept (hM.of rfl) ?_)

theorem execVccauxLoss_ran (hM : Sub 40 m) (s : State) : Ran m s (execVccauxLoss s) := by
  unfold execVccauxLoss
  refine live_ran (fun s0 s h => ?_) s
  repeat' (first
    | with_reducible assumption
    | with_reducible refine vccauxLossStep_kept (hM.of rfl) ?_)

/-! ### Device -/

theorem modStart_kept (hM : Sub 16 m) {s : Block} {f : StartSt → StartSt}
    (hf : ∀ x, (f x).inReset = true → x.inReset = true) (h : Kept m s0 s) : Kept m s0 (modStart f s) := by
  unfold modStart
  exact Kept.upd h (h_start := .inr (hM.of rfl)) (h_in := hf _)

theorem deviceReset_kept (hM : Sub 8589934591 m) {s : Block} (h : Kept m s0 s) :
    Kept m s0 (deviceReset s) := by
  unfold deviceReset
  extract_lets +onlyGivenNames r
  have hr : Kept m s0 r := cutBankWrite_kept (hM.of rfl) h
  clear_value r
  extract_lets +onlyGivenNames x y
  have hx : Kept m s0 x := Kept.foldl (fun _ _ h => Block_emit_kept (hM.of rfl) h) hr
  have hy : Kept m s0 y := when_kept (hM.of rfl)
    (fun _ h => Block_emit_kept (hM.of rfl) h) hx
  clear_value y
  refine hy.trans ⟨fun p hp => ?_, fun w => ?_, fun _ => .inr (hM.of rfl)⟩
  · have z : ∀ i, Nat.testBit 8589934591 i = true → i = p.idx → False := fun i a e => by
      have b := Sub.bit hM a
      rw [e, hp] at b
      cases b
    cases p <;> first | rfl | exact (z _ (by decide) rfl).elim
  · simp only [BlockWf, Bool.and_eq_true] at w ⊢
    exact ⟨by decide, w.2⟩

theorem porstNAssertStep_kept (hM : Sub 8589934591 m) {a0 : Nat} {a1 : Bool} {s : Block} (h : Kept m s0 s) :
    Kept m s0 (porstNAssertStep a0 a1 s) := by
  unfold porstNAssertStep
  repeat' (first
    | with_reducible assumption
    | with_reducible refine Kept.ite ?_ ?_
    | with_reducible refine deviceReset_kept (hM.of rfl) ?_)

theorem stage0Begin_kept (hM : Sub 101187643 m) {s : Block} (h : Kept m s0 s) :
    Kept m s0 (stage0Begin s) := by
  unfold stage0Begin
  repeat' (first
    | with_reducible assumption
    | (extract_lets +onlyGivenNames r; have hr : Kept m s0 r := ?_; clear_value r; rotate_left; subst r; rotate_right)
    | (extract_lets +onlyGivenNames r; have hr : Kept m s0 r.2 := ?_; clear_value r; rotate_left; subst r; rotate_right)
    | (extract_lets +onlyGivenNames r; clear_value r)
    | with_reducible refine Block_draw_kept (hM.of rfl) ?_
    | with_reducible refine modStart_kept (hM.of rfl) (by first | exact fun _ h => h | exact fun _ h => Bool.noConfusion h) ?_
    | with_reducible refine Block_putB_kept (hM.of rfl) ?_
    | with_reducible refine Block_emit_kept (hM.of rfl) ?_
    | with_reducible refine openHub_kept (hM.of rfl) ?_
    | with_reducible refine fuseToRegs_kept (hM.of rfl) ?_
    | with_reducible refine Kept.upd ?_ (h_ring := .inr (hM.of rfl)) (h_gr := .inr (hM.of rfl)) (h_sec := .inr (hM.of rfl)))

theorem porstNReleaseStep_kept (hM : Sub 101187643 m) {s : Block} (h : Kept m s0 s) :
    Kept m s0 (porstNReleaseStep s) := by
  unfold porstNReleaseStep
  repeat' (first
    | with_reducible assumption
    | with_reducible refine Kept.ite ?_ ?_
    | with_reducible refine stage0Begin_kept (hM.of rfl) ?_)

theorem stage1EnterStep_kept (hM : Sub 528490648 m) {a0 : List SeamFault} {s : Block} (h : Kept m s0 s) :
    Kept m s0 (stage1EnterStep a0 s) := by
  unfold stage1EnterStep
  repeat' (first
    | with_reducible assumption
    | (extract_lets +onlyGivenNames r; have hr : Kept m s0 r := ?_; clear_value r; rotate_left; subst r; rotate_right)
    | with_reducible refine Kept.ite ?_ ?_
    | with_reducible refine applyStage1_kept (hM.of rfl) ?_
    | with_reducible refine loadSettings_kept (hM.of rfl) ?_
    | with_reducible refine Block_put_kept (hM.of rfl) ?_
    | with_reducible refine modStart_kept (hM.of rfl) (by first | exact fun _ h => h | exact fun _ h => Bool.noConfusion h) ?_
    | with_reducible refine seamDeskew_kept (hM.of rfl) ?_
    | with_reducible refine fwRebuild_kept (hM.of rfl) ?_
    | with_reducible refine rollbackCheck_kept (hM.of rfl) ?_
    | with_reducible refine checkOwnerKeys_kept (hM.of rfl) ?_)

theorem stage2EnterStep_kept (hM : Sub 1572921 m) {s : Block} (h : Kept m s0 s) :
    Kept m s0 (stage2EnterStep s) := by
  unfold stage2EnterStep
  repeat' (first
    | with_reducible assumption
    | intro _
    | (extract_lets +onlyGivenNames r; have hr : Kept m s0 r := ?_; clear_value r; rotate_left; subst r; rotate_right)
    | with_reducible refine Kept.ite ?_ ?_
    | with_reducible refine loadBursts_kept (hM.of rfl) ?_
    | with_reducible refine forEach_kept (hM.of rfl) ?_ ?_
    | with_reducible refine openDie_kept (hM.of rfl) ?_
    | with_reducible refine Block_put_kept (hM.of rfl) ?_
    | with_reducible refine Block_emit_kept (hM.of rfl) ?_
    | with_reducible refine modStart_kept (hM.of rfl) (by first | exact fun _ h => h | exact fun _ h => Bool.noConfusion h) ?_
    | with_reducible refine discover_kept (hM.of rfl) ?_
    | with_reducible refine applyRingComp_kept (hM.of rfl) ?_
    | with_reducible refine when_kept (hM.of rfl) ?_ ?_
    | with_reducible refine ringListen_kept (hM.of rfl) ?_)

theorem stage3Begin_kept (hM : Sub 160137243 m) {a0 : BitVec 8} {s : Block} (h : Kept m s0 s) :
    Kept m s0 (stage3Begin a0 s) := by
  unfold stage3Begin
  repeat' (first
    | with_reducible assumption
    | intro _
    | (extract_lets +onlyGivenNames r; have hr : Kept m s0 r := ?_; clear_value r; rotate_left; subst r; rotate_right)
    | with_reducible refine Block_put_kept (hM.of rfl) ?_
    | with_reducible refine modStart_kept (hM.of rfl) (by first | exact fun _ h => h | exact fun _ h => Bool.noConfusion h) ?_
    | with_reducible refine forEach_kept (hM.of rfl) ?_ ?_
    | with_reducible refine trainStart_kept (hM.of rfl) ?_
    | with_reducible refine modDc_kept (hM.of rfl) (by first | exact fun _ h => h | exact fun c h => storeLine_lines _ _ _ h | exact fun c h => spSorted_spClear _ _ h | (intro c h; dsimp only; split <;> exact h)) ?_
    | with_reducible refine trainingDone_kept (hM.of rfl) ?_
    | with_reducible refine laneFirst_kept (hM.of rfl) ?_
    | with_reducible refine Kept.upd ?_ (h_dmap := .inr (hM.of rfl)))

theorem stage3EnterStep_kept (hM : Sub 160137243 m) {a0 : BitVec 8} {s : Block} (h : Kept m s0 s) :
    Kept m s0 (stage3EnterStep a0 s) := by
  unfold stage3EnterStep
  repeat' (first
    | with_reducible assumption
    | with_reducible refine Kept.ite ?_ ?_
    | with_reducible refine stage3Begin_kept (hM.of rfl) ?_)

theorem bootPlateLoadStep_kept (hM : Sub 2311602059 m) {s : Block} (h : Kept m s0 s) :
    Kept m s0 (bootPlateLoadStep s) := by
  unfold bootPlateLoadStep
  repeat' (first
    | with_reducible assumption
    | with_reducible refine Kept.ite ?_ ?_
    | with_reducible refine Block_putB_kept (hM.of rfl) ?_
    | with_reducible refine loadAsk_kept (hM.of rfl) ?_)

theorem dieDrainStart_kept (hM : Sub 2345254795 m) {a0 : Nat} {s : Block} (h : Kept m s0 s) :
    Kept m s0 (dieDrainStart a0 s) := by
  unfold dieDrainStart
  repeat' (first
    | with_reducible assumption
    | intro _
    | (extract_lets +onlyGivenNames r; have hr : Kept m s0 r := ?_; clear_value r; rotate_left; subst r; rotate_right)
    | with_reducible refine Kept.ite ?_ ?_
    | with_reducible refine Kept.foldl ?_ ?_
    | with_reducible refine loadFail_kept (hM.of rfl) ?_
    | with_reducible refine testsDieReset_kept (hM.of rfl) ?_
    | with_reducible refine shutterDieReset_kept (hM.of rfl) ?_
    | with_reducible refine forEach_kept (hM.of rfl) ?_ ?_
    | with_reducible refine domDrainStart_kept (hM.of rfl) ?_
    | with_reducible refine Block_close_kept (hM.of rfl) ?_
    | with_reducible refine enterDc_kept (hM.of rfl) ?_)

theorem dieResetCmd_kept (hM : Sub 2345254795 m) {a0 : Nat} {a1 : Cmd} {s : Block} (h : Kept m s0 s) :
    Kept m s0 (dieResetCmd a0 a1 s) := by
  unfold dieResetCmd
  repeat' (first
    | with_reducible assumption
    | with_reducible refine Kept.ite ?_ ?_
    | with_reducible refine Block_respond_kept (hM.of rfl) ?_
    | with_reducible refine dieDrainStart_kept (hM.of rfl) ?_
    | with_reducible refine Block_hold_kept (hM.of rfl) ?_
    | with_reducible refine Block_putB_kept (hM.of rfl) ?_)

theorem dcDieReset_kept (hM : Sub 8716296 m) {a0 : Nat} {s : Block} (h : Kept m s0 s) :
    Kept m s0 (dcDieReset a0 s) := by
  unfold dcDieReset
  repeat' (first
    | with_reducible assumption
    | intro _
    | (extract_lets +onlyGivenNames r; have hr : Kept m s0 r := ?_; clear_value r; rotate_left; subst r; rotate_right)
    | (extract_lets +onlyGivenNames r; have hr : DcSt := r; subst r)
    | (extract_lets +onlyGivenNames r; clear_value r)
    | with_reducible refine Kept.foldl ?_ ?_
    | with_reducible refine Block_close_kept (hM.of rfl) ?_
    | with_reducible refine dropReads_kept (hM.of rfl) ?_
    | with_reducible refine Block_resetWindows_kept (hM.of rfl) ?_
    | with_reducible refine Block_put_kept (hM.of rfl) ?_
    | with_reducible refine lsuDieReset_kept (hM.of rfl) ?_
    | with_reducible refine modDc_kept (hM.of rfl) (by first | exact fun _ h => h | exact fun c h => storeLine_lines _ _ _ h | exact fun c h => spSorted_spClear _ _ h | (intro c h; dsimp only; split <;> exact h)) ?_)

theorem linksDieReset_kept (hM : Sub 160956425 m) {a0 : Nat} {s : Block} (h : Kept m s0 s) :
    Kept m s0 (linksDieReset a0 s) := by
  unfold linksDieReset
  repeat' (first
    | with_reducible assumption
    | intro _
    | (extract_lets +onlyGivenNames r; have hr : Kept m s0 r := ?_; clear_value r; rotate_left; subst r; rotate_right)
    | (extract_lets +onlyGivenNames r; clear_value r)
    | with_reducible refine Kept.ite ?_ ?_
    | with_reducible refine Kept.foldl ?_ ?_
    | with_reducible refine Block_resetWindows_kept (hM.of rfl) ?_
    | with_reducible refine forEach_kept (hM.of rfl) ?_ ?_
    | with_reducible refine Block_put_kept (hM.of rfl) ?_
    | with_reducible refine Block_close_kept (hM.of rfl) ?_
    | with_reducible refine setEnd_kept (hM.of rfl) ?_
    | with_reducible refine siteDown_kept (hM.of rfl) ?_)

theorem pinsDieReset_kept (hM : Sub 8202 m) {a0 : Nat} {s : Block} (h : Kept m s0 s) :
    Kept m s0 (pinsDieReset a0 s) := by
  unfold pinsDieReset
  repeat' (first
    | with_reducible assumption
    | intro _
    | (extract_lets +onlyGivenNames r; have hr : Kept m s0 r := ?_; clear_value r; rotate_left; subst r; rotate_right)
    | (extract_lets +onlyGivenNames r; clear_value r)
    | with_reducible refine forEach_kept (hM.of rfl) ?_ ?_
    | with_reducible refine pinToSafe_kept (hM.of rfl) ?_
    | with_reducible refine when_kept (hM.of rfl) ?_ ?_
    | with_reducible refine Block_put_kept (hM.of rfl) ?_)

theorem seamDieReset_kept (hM : Sub 2155872384 m) {a0 : Nat} {s : Block} (h : Kept m s0 s) :
    Kept m s0 (seamDieReset a0 s) := by
  unfold seamDieReset
  repeat' (first
    | with_reducible assumption
    | intro _
    | (extract_lets +onlyGivenNames r; have hr : Kept m s0 r := ?_; clear_value r; rotate_left; subst r; rotate_right)
    | (extract_lets +onlyGivenNames r; have hr := fun x => r x; subst r)
    | (extract_lets +onlyGivenNames r; clear_value r)
    | with_reducible refine Kept.foldl ?_ ?_
    | with_reducible refine Block_close_kept (hM.of rfl) ?_
    | with_reducible refine Kept.upd ?_ (h_seam := .inr (hM.of rfl)) (h_fab := .inr (hM.of rfl)))

theorem dieBlocksReset_kept (hM : Sub 2313027531 m) {a0 : Nat} {s : Block} (h : Kept m s0 s) :
    Kept m s0 (dieBlocksReset a0 s) := by
  unfold dieBlocksReset
  repeat' (first
    | with_reducible assumption
    | intro _
    | (extract_lets +onlyGivenNames r; have hr : Kept m s0 r := ?_; clear_value r; rotate_left; subst r; rotate_right)
    | (extract_lets +onlyGivenNames r; clear_value r)
    | with_reducible refine seamDieReset_kept (hM.of rfl) ?_
    | with_reducible refine platesDieReset_kept (hM.of rfl) ?_
    | with_reducible refine forEach_kept (hM.of rfl) ?_ ?_
    | with_reducible refine tppReset_kept (hM.of rfl) ?_
    | with_reducible refine linksDieReset_kept (hM.of rfl) ?_
    | with_reducible refine netDieReset_kept (hM.of rfl) ?_
    | with_reducible refine lanesReset_kept (hM.of rfl) ?_
    | with_reducible refine dcDieReset_kept (hM.of rfl) ?_
    | with_reducible refine pinsDieReset_kept (hM.of rfl) ?_
    | with_reducible refine Block_resetWindows_kept (hM.of rfl) ?_
    | with_reducible refine eicDieLines_kept (hM.of rfl) ?_
    | ((with_reducible refine Kept.on_once ?_ (hM.of rfl) ?_); rotate_left; exact fun w => spWf_spClear _ _ _ w)
    | with_reducible refine Kept.upd ?_ (h_clk := .inr (hM.of rfl)) (h_io := .inr (hM.of rfl)))

theorem dieResetTakeEffectStep_kept (hM : Sub 2313027547 m) {a0 : Nat} {s : Block} (h : Kept m s0 s) :
    Kept m s0 (dieResetTakeEffectStep a0 s) := by
  unfold dieResetTakeEffectStep
  repeat' (first
    | with_reducible assumption
    | (extract_lets +onlyGivenNames r; have hr : Kept m s0 r := ?_; clear_value r; rotate_left; subst r; rotate_right)
    | with_reducible refine Kept.ite ?_ ?_
    | with_reducible refine modStart_kept (hM.of rfl) (by first | exact fun _ h => h | exact fun _ h => Bool.noConfusion h) ?_
    | with_reducible refine Block_putB_kept (hM.of rfl) ?_
    | with_reducible refine dieBlocksReset_kept (hM.of rfl) ?_
    | with_reducible refine Block_close_kept (hM.of rfl) ?_)

theorem dieResetReleaseStep_kept (hM : Sub 26740888 m) {a0 : Nat} {a1 : List SeamFault} {s : Block} (h : Kept m s0 s) :
    Kept m s0 (dieResetReleaseStep a0 a1 s) := by
  unfold dieResetReleaseStep
  repeat' (first
    | with_reducible assumption
    | intro _
    | (extract_lets +onlyGivenNames r; have hr : Kept m s0 r := ?_; clear_value r; rotate_left; subst r; rotate_right)
    | with_reducible refine Kept.ite ?_ ?_
    | with_reducible refine modStart_kept (hM.of rfl) (by first | exact fun _ h => h | exact fun _ h => Bool.noConfusion h) ?_
    | with_reducible refine rewriteRoutes_kept (hM.of rfl) ?_
    | with_reducible refine seamDeskew_kept (hM.of rfl) ?_
    | with_reducible refine Block_putB_kept (hM.of rfl) ?_
    | with_reducible refine loadBursts_kept (hM.of rfl) ?_
    | with_reducible refine openDie_kept (hM.of rfl) ?_
    | with_reducible refine forEach_kept (hM.of rfl) ?_ ?_
    | with_reducible refine discover_kept (hM.of rfl) ?_
    | with_reducible refine sectorEvent_kept (hM.of rfl) ?_)

theorem dcReturn_kept (hM : Sub 160235529 m) {a0 : Nat} {s : Block} (h : Kept m s0 s) :
    Kept m s0 (dcReturn a0 s) := by
  unfold dcReturn
  repeat' (first
    | with_reducible assumption
    | (extract_lets +onlyGivenNames r; have hr : Kept m s0 r := ?_; clear_value r; rotate_left; subst r; rotate_right)
    | with_reducible refine Kept.ite ?_ ?_
    | with_reducible refine lsuReload_kept (hM.of rfl) ?_
    | with_reducible refine trainStart_kept (hM.of rfl) ?_)

theorem dieAligned_kept (hM : Sub 160235545 m) {a0 : Nat} {s : Block} (h : Kept m s0 s) :
    Kept m s0 (dieAligned a0 s) := by
  unfold dieAligned
  repeat' (first
    | with_reducible assumption
    | intro _
    | (extract_lets +onlyGivenNames r; have hr : Kept m s0 r := ?_; clear_value r; rotate_left; subst r; rotate_right)
    | (extract_lets +onlyGivenNames r; clear_value r)
    | with_reducible refine modStart_kept (hM.of rfl) (by first | exact fun _ h => h | exact fun _ h => Bool.noConfusion h) ?_
    | with_reducible refine when_kept (hM.of rfl) ?_ ?_
    | with_reducible refine dcReturn_kept (hM.of rfl) ?_
    | with_reducible refine dieReadyCheck_kept (hM.of rfl) ?_)

theorem dieMarker_kept (hM : Sub 160235545 m) {s : Block} (h : Kept m s0 s) :
    Kept m s0 (dieMarker s) := by
  unfold dieMarker
  repeat' (first
    | with_reducible assumption
    | intro _
    | with_reducible refine forEach_kept (hM.of rfl) ?_ ?_
    | with_reducible refine dieAligned_kept (hM.of rfl) ?_)

theorem siteModulesDown_kept (hM : Sub 8388616 m) {a0 : Nat} {s : Block} (h : Kept m s0 s) :
    Kept m s0 (siteModulesDown a0 s) := by
  unfold siteModulesDown
  repeat' (first
    | with_reducible assumption
    | intro _
    | (extract_lets +onlyGivenNames r; have hr : Kept m s0 r := ?_; clear_value r; rotate_left; subst r; rotate_right)
    | with_reducible refine Kept.foldl ?_ ?_
    | with_reducible refine forEach_kept (hM.of rfl) ?_ ?_
    | with_reducible refine Block_put_kept (hM.of rfl) ?_
    | with_reducible refine Block_close_kept (hM.of rfl) ?_)

theorem siteResetBegin_kept (hM : Sub 145227801 m) {a0 : Nat} {s : Block} (h : Kept m s0 s) :
    Kept m s0 (siteResetBegin a0 s) := by
  unfold siteResetBegin
  repeat' (first
    | with_reducible assumption
    | intro _
    | (extract_lets +onlyGivenNames r; have hr : Kept m s0 r := ?_; clear_value r; rotate_left; subst r; rotate_right)
    | (extract_lets +onlyGivenNames r; clear_value r)
    | with_reducible refine Kept.ite ?_ ?_
    | with_reducible refine modStart_kept (hM.of rfl) (by first | exact fun _ h => h | exact fun _ h => Bool.noConfusion h) ?_
    | with_reducible refine Block_emit_kept (hM.of rfl) ?_
    | with_reducible refine siteModulesDown_kept (hM.of rfl) ?_
    | with_reducible refine portsReset_kept (hM.of rfl) ?_
    | with_reducible refine flushPort_kept (hM.of rfl) ?_
    | with_reducible refine setPort_kept (hM.of rfl) ?_
    | with_reducible refine eicSiteGone_kept (hM.of rfl) ?_
    | with_reducible refine releaseRun_kept (hM.of rfl) ?_
    | with_reducible refine when_kept (hM.of rfl) ?_ ?_
    | with_reducible refine qeHostReset_kept (hM.of rfl) ?_)

theorem siteResetCmd_kept (hM : Sub 145227801 m) {a0 : Nat} {a1 : Cmd} {s : Block} (h : Kept m s0 s) :
    Kept m s0 (siteResetCmd a0 a1 s) := by
  unfold siteResetCmd
  repeat' (first
    | with_reducible assumption
    | with_reducible refine Kept.ite ?_ ?_
    | with_reducible refine Block_respond_kept (hM.of rfl) ?_
    | with_reducible refine siteResetBegin_kept (hM.of rfl) ?_)

theorem siteResetReleaseStep_kept (hM : Sub 1048601 m) {a0 : Nat} {s : Block} (h : Kept m s0 s) :
    Kept m s0 (siteResetReleaseStep a0 s) := by
  unfold siteResetReleaseStep
  repeat' (first
    | with_reducible assumption
    | intro _
    | (extract_lets +onlyGivenNames r; have hr : Kept m s0 r := ?_; clear_value r; rotate_left; subst r; rotate_right)
    | with_reducible refine Kept.ite ?_ ?_
    | with_reducible refine Kept.foldl ?_ ?_
    | with_reducible refine Block_emit_kept (hM.of rfl) ?_
    | with_reducible refine modStart_kept (hM.of rfl) (by first | exact fun _ h => h | exact fun _ h => Bool.noConfusion h) ?_
    | with_reducible refine discover_kept (hM.of rfl) ?_)

theorem execPorstNAssert_ran (hM : Sub 8589934591 m) (a0 : Nat) (a1 : Bool) (s : State) : Ran m s (execPorstNAssert a0 a1 s) := by
  unfold execPorstNAssert
  refine always_ran (fun s0 s h => ?_) s
  repeat' (first
    | with_reducible assumption
    | with_reducible refine porstNAssertStep_kept (hM.of rfl) ?_)

theorem execPorstNRelease_ran (hM : Sub 101187643 m) (s : State) : Ran m s (execPorstNRelease s) := by
  unfold execPorstNRelease
  refine always_ran (fun s0 s h => ?_) s
  repeat' (first
    | with_reducible assumption
    | with_reducible refine porstNReleaseStep_kept (hM.of rfl) ?_)

theorem execStage1Enter_ran (hM : Sub 528490648 m) (a0 : List SeamFault) (s : State) : Ran m s (execStage1Enter a0 s) := by
  unfold execStage1Enter
  refine clocked_ran (fun s0 s h => ?_) s
  repeat' (first
    | with_reducible assumption
    | with_reducible refine stage1EnterStep_kept (hM.of rfl) ?_)

theorem execStage2Enter_ran (hM : Sub 1572921 m) (s : State) : Ran m s (execStage2Enter s) := by
  unfold execStage2Enter
  refine clocked_ran (fun s0 s h => ?_) s
  repeat' (first
    | with_reducible assumption
    | with_reducible refine stage2EnterStep_kept (hM.of rfl) ?_)

theorem execStage3Enter_ran (hM : Sub 160137243 m) (a0 : BitVec 8) (s : State) : Ran m s (execStage3Enter a0 s) := by
  unfold execStage3Enter
  refine clocked_ran (fun s0 s h => ?_) s
  repeat' (first
    | with_reducible assumption
    | with_reducible refine stage3EnterStep_kept (hM.of rfl) ?_)

theorem execBootPlateLoad_ran (hM : Sub 2311602059 m) (s : State) : Ran m s (execBootPlateLoad s) := by
  unfold execBootPlateLoad
  refine clocked_ran (fun s0 s h => ?_) s
  repeat' (first
    | with_reducible assumption
    | with_reducible refine bootPlateLoadStep_kept (hM.of rfl) ?_)

theorem execDieReset_ran (hM : Sub 2345254795 m) (a0 : Hdr) (a1 : Nat) (s : State) : Ran m s (execDieReset a0 a1 s) := by
  unfold execDieReset
  refine live_ran (fun s0 s h => ?_) s
  repeat' (first
    | with_reducible assumption
    | intro _
    | with_reducible refine Block_command_kept (hM.of rfl) ?_ ?_
    | with_reducible refine dieResetCmd_kept (hM.of rfl) ?_)

theorem execDieResetTakeEffect_ran (hM : Sub 2313027547 m) (a0 : Fin 4) (s : State) : Ran m s (execDieResetTakeEffect a0 s) := by
  unfold execDieResetTakeEffect
  refine clocked_ran (fun s0 s h => ?_) s
  repeat' (first
    | with_reducible assumption
    | with_reducible refine dieResetTakeEffectStep_kept (hM.of rfl) ?_)

theorem execDieResetRelease_ran (hM : Sub 26740888 m) (a0 : Fin 4) (a1 : List SeamFault) (s : State) : Ran m s (execDieResetRelease a0 a1 s) := by
  unfold execDieResetRelease
  refine clocked_ran (fun s0 s h => ?_) s
  repeat' (first
    | with_reducible assumption
    | with_reducible refine dieResetReleaseStep_kept (hM.of rfl) ?_)

theorem execSiteReset_ran (hM : Sub 145227801 m) (a0 : Hdr) (a1 : Nat) (s : State) : Ran m s (execSiteReset a0 a1 s) := by
  unfold execSiteReset
  refine live_ran (fun s0 s h => ?_) s
  repeat' (first
    | with_reducible assumption
    | intro _
    | with_reducible refine Block_command_kept (hM.of rfl) ?_ ?_
    | with_reducible refine siteResetCmd_kept (hM.of rfl) ?_)

theorem execSiteResetRelease_ran (hM : Sub 1048601 m) (a0 : Fin 3) (s : State) : Ran m s (execSiteResetRelease a0 s) := by
  unfold execSiteResetRelease
  refine live_ran (fun s0 s h => ?_) s
  repeat' (first
    | with_reducible assumption
    | with_reducible refine siteResetReleaseStep_kept (hM.of rfl) ?_)

/-! ### Greone -/

theorem interruptOpens_kept (hM : Sub 8388608 m) {s : Block} (h : Kept m s0 s) :
    Kept m s0 (interruptOpens s) := by
  unfold interruptOpens
  repeat' (first
    | with_reducible assumption
    | (extract_lets +onlyGivenNames r; have hr := fun x => r x; subst r)
    | (extract_lets +onlyGivenNames r; clear_value r)
    | with_reducible refine Kept.upd ?_ (h_mbx := .inr (hM.of rfl)))

theorem dramRestart_kept (hM : Sub 193658905 m) {s : Block} (h : Kept m s0 s) :
    Kept m s0 (dramRestart s) := by
  unfold dramRestart
  repeat' (first
    | with_reducible assumption
    | intro _
    | (extract_lets +onlyGivenNames r; have hr : Kept m s0 r := ?_; clear_value r; rotate_left; subst r; rotate_right)
    | with_reducible refine Kept.ite ?_ ?_
    | with_reducible refine forEach_kept (hM.of rfl) ?_ ?_
    | with_reducible refine modDc_kept (hM.of rfl) (by first | exact fun _ h => h | exact fun c h => storeLine_lines _ _ _ h | exact fun c h => spSorted_spClear _ _ h | (intro c h; dsimp only; split <;> exact h)) ?_
    | with_reducible refine enterDc_kept (hM.of rfl) ?_
    | with_reducible refine when_kept (hM.of rfl) ?_ ?_
    | with_reducible refine stage3Trained_kept (hM.of rfl) ?_
    | with_reducible refine modGr_kept (hM.of rfl) ?_
    | split)

theorem clearSram_kept (hM : Sub 520126472 m) {s : Block} (h : Kept m s0 s) :
    Kept m s0 (clearSram s) := by
  unfold clearSram
  repeat' (first
    | with_reducible assumption
    | intro _
    | (extract_lets +onlyGivenNames r; have hr : Kept m s0 r := ?_; clear_value r; rotate_left; subst r; rotate_right)
    | (extract_lets +onlyGivenNames r; clear_value r)
    | with_reducible refine modGr_kept (hM.of rfl) ?_
    | with_reducible refine forEach_kept (hM.of rfl) ?_ ?_
    | with_reducible refine laneTest_kept (hM.of rfl) ?_
    | with_reducible refine modFwu_kept (hM.of rfl) ?_
    | with_reducible refine cutBankWrite_kept (hM.of rfl) ?_
    | with_reducible refine modSec_kept (hM.of rfl) ?_
    | with_reducible refine Kept.upd ?_ (h_ev := .inr (hM.of rfl)))

theorem restartBegin_kept (hM : Sub 529240089 m) {a0 : Nat} {s : Block} (h : Kept m s0 s) :
    Kept m s0 (restartBegin a0 s) := by
  unfold restartBegin
  repeat' (first
    | with_reducible assumption
    | (extract_lets +onlyGivenNames r; have hr : Kept m s0 r := ?_; clear_value r; rotate_left; subst r; rotate_right)
    | with_reducible refine completeAll_kept (hM.of rfl) ?_
    | with_reducible refine shutterRestart_kept (hM.of rfl) ?_
    | with_reducible refine Block_putB_kept (hM.of rfl) ?_
    | with_reducible refine clearSram_kept (hM.of rfl) ?_
    | with_reducible refine dramRestart_kept (hM.of rfl) ?_
    | with_reducible refine interruptOpens_kept (hM.of rfl) ?_
    | with_reducible refine modReroute_kept (hM.of rfl) ?_
    | with_reducible refine modStart_kept (hM.of rfl) (by first | exact fun _ h => h | exact fun _ h => Bool.noConfusion h) ?_
    | with_reducible refine modGr_kept (hM.of rfl) ?_)

theorem crashStep_kept (hM : Sub 529240089 m) {a0 : Nat} {s : Block} (h : Kept m s0 s) :
    Kept m s0 (crashStep a0 s) := by
  unfold crashStep
  repeat' (first
    | with_reducible assumption
    | with_reducible refine Kept.ite ?_ ?_
    | with_reducible refine restartBegin_kept (hM.of rfl) ?_
    | with_reducible refine modGr_kept (hM.of rfl) ?_)

theorem greoneRestartBeginStep_kept (hM : Sub 529240089 m) {s : Block} (h : Kept m s0 s) :
    Kept m s0 (greoneRestartBeginStep s) := by
  unfold greoneRestartBeginStep
  repeat' (first
    | with_reducible assumption
    | with_reducible refine Kept.ite ?_ ?_
    | with_reducible refine restartBegin_kept (hM.of rfl) ?_
    | split)

theorem testsRestart_kept (hM : Sub 193560585 m) {s : Block} (h : Kept m s0 s) :
    Kept m s0 (testsRestart s) := by
  unfold testsRestart
  repeat' (first
    | with_reducible assumption
    | intro _
    | with_reducible refine Kept.foldl ?_ ?_
    | with_reducible refine testEnd_kept (hM.of rfl) ?_
    | with_reducible refine modGr_kept (hM.of rfl) ?_)

theorem abortedRestart_kept (hM : Sub 50331648 m) {s : Block} (h : Kept m s0 s) :
    Kept m s0 (abortedRestart s) := by
  unfold abortedRestart
  repeat' (first
    | with_reducible assumption
    | intro _
    | with_reducible refine Kept.foldl ?_ ?_
    | with_reducible refine modGr_kept (hM.of rfl) ?_
    | with_reducible refine Block_raise_kept (hM.of rfl) ?_)

theorem restartedFirmware_kept (hM : Sub 2680799115 m) {a0 : Nat} {s : Block} (h : Kept m s0 s) :
    Kept m s0 (restartedFirmware a0 s) := by
  unfold restartedFirmware
  repeat' (first
    | with_reducible assumption
    | (extract_lets +onlyGivenNames r; have hr : Kept m s0 r := ?_; clear_value r; rotate_left; subst r; rotate_right)
    | with_reducible refine applyCommit_kept (hM.of rfl) ?_
    | with_reducible refine applyMailboxes_kept (hM.of rfl) ?_
    | with_reducible refine applyLevels_kept (hM.of rfl) ?_
    | with_reducible refine loadSettings_kept (hM.of rfl) ?_
    | with_reducible refine abortedRestart_kept (hM.of rfl) ?_
    | with_reducible refine platesRestart_kept (hM.of rfl) ?_
    | with_reducible refine fwRebuild_kept (hM.of rfl) ?_
    | with_reducible refine globalFenceRestart_kept (hM.of rfl) ?_
    | with_reducible refine rerouteRestart_kept (hM.of rfl) ?_
    | with_reducible refine testsRestart_kept (hM.of rfl) ?_
    | with_reducible refine Block_raise_kept (hM.of rfl) ?_)

theorem greoneReadyStep_kept (hM : Sub 2680799115 m) {s : Block} (h : Kept m s0 s) :
    Kept m s0 (greoneReadyStep s) := by
  unfold greoneReadyStep
  repeat' (first
    | with_reducible assumption
    | (extract_lets +onlyGivenNames r; have hr : Kept m s0 r := ?_; clear_value r; rotate_left; subst r; rotate_right)
    | (extract_lets +onlyGivenNames r; clear_value r)
    | with_reducible refine Kept.ite ?_ ?_
    | with_reducible refine modGr_kept (hM.of rfl) ?_
    | with_reducible refine restartedFirmware_kept (hM.of rfl) ?_)

theorem safelightReply_kept (hM : Sub 33554432 m) {a0 a1 : Nat} {a2 : BitVec 64} {s : Block} (h : Kept m s0 s) :
    Kept m s0 (safelightReply a0 a1 a2 s) := by
  unfold safelightReply
  repeat' (first
    | with_reducible assumption
    | with_reducible refine modGr_kept (hM.of rfl) ?_)

theorem safelightAccess_kept (hM : Sub 52731915 m) {a0 a1 a2 a3 a4 a5 : Nat} {s : Block} (h : Kept m s0 s) :
    Kept m s0 (safelightAccess a0 a1 a2 a3 a4 a5 s) := by
  unfold safelightAccess
  repeat' (first
    | with_reducible assumption
    | (extract_lets +onlyGivenNames r; have hr : Kept m s0 r.2 := ?_; clear_value r; rotate_left; subst r; rotate_right)
    | with_reducible refine Kept.ite ?_ ?_
    | with_reducible refine safelightReply_kept (hM.of rfl) ?_
    | with_reducible refine readReg_kept (hM.of rfl) ?_
    | with_reducible refine writeReg_kept (hM.of rfl) ?_)

theorem safelightFrameStep_kept (hM : Sub 52731915 m) {a0 : BitVec 160} {s : Block} (h : Kept m s0 s) :
    Kept m s0 (safelightFrameStep a0 s) := by
  unfold safelightFrameStep
  repeat' (first
    | with_reducible assumption
    | (extract_lets +onlyGivenNames r; clear_value r)
    | with_reducible refine Kept.ite ?_ ?_
    | with_reducible refine safelightAccess_kept (hM.of rfl) ?_
    | with_reducible refine modGr_kept (hM.of rfl) ?_
    | with_reducible refine eventFrameStep_kept (hM.of rfl) ?_
    | split)

theorem segmentFailed_kept (hM : Sub 50331648 m) {a0 : Nat} {a1 : Bool} {s : Block} (h : Kept m s0 s) :
    Kept m s0 (segmentFailed a0 a1 s) := by
  unfold segmentFailed
  repeat' (first
    | with_reducible assumption
    | with_reducible refine Block_raise_kept (hM.of rfl) ?_
    | with_reducible refine modGr_kept (hM.of rfl) ?_)

theorem safelightSegmentFailStep_kept (hM : Sub 50331648 m) {a0 : Nat} {a1 : Bool} {s : Block} (h : Kept m s0 s) :
    Kept m s0 (safelightSegmentFailStep a0 a1 s) := by
  unfold safelightSegmentFailStep
  repeat' (first
    | with_reducible assumption
    | with_reducible refine Kept.ite ?_ ?_
    | with_reducible refine segmentFailed_kept (hM.of rfl) ?_)

theorem devInfoCmd_kept (hM : Sub 8388608 m) {a0 : Cmd} {s : Block} (h : Kept m s0 s) :
    Kept m s0 (devInfoCmd a0 s) := by
  unfold devInfoCmd
  repeat' (first
    | with_reducible assumption
    | with_reducible refine Block_respond_kept (hM.of rfl) ?_)

theorem devStatusCmd_kept (hM : Sub 8388608 m) {a0 : Cmd} {s : Block} (h : Kept m s0 s) :
    Kept m s0 (devStatusCmd a0 s) := by
  unfold devStatusCmd
  repeat' (first
    | with_reducible assumption
    | with_reducible refine Block_respond_kept (hM.of rfl) ?_)

theorem mbxBarrierCmd_kept (hM : Sub 8388608 m) {a0 : Cmd} {s : Block} (h : Kept m s0 s) :
    Kept m s0 (mbxBarrierCmd a0 s) := by
  unfold mbxBarrierCmd
  repeat' (first
    | with_reducible assumption
    | with_reducible refine settleBarrier_kept (hM.of rfl) ?_
    | with_reducible refine Block_hold_kept (hM.of rfl) ?_)

theorem greoneRestartCmd_kept (hM : Sub 41943040 m) {a0 : Cmd} {s : Block} (h : Kept m s0 s) :
    Kept m s0 (greoneRestartCmd a0 s) := by
  unfold greoneRestartCmd
  repeat' (first
    | with_reducible assumption
    | with_reducible refine restartFor_kept (hM.of rfl) ?_
    | with_reducible refine Block_respond_kept (hM.of rfl) ?_)

theorem levelDrop_kept (hM : Sub 8388616 m) {a0 : Port} {a1 : Nat} {s : Block} (h : Kept m s0 s) :
    Kept m s0 (levelDrop a0 a1 s) := by
  unfold levelDrop
  repeat' (first
    | with_reducible assumption
    | (extract_lets +onlyGivenNames r; have hr : Kept m s0 r := ?_; clear_value r; rotate_left; subst r; rotate_right)
    | (extract_lets +onlyGivenNames r; clear_value r)
    | with_reducible refine Block_put_kept (hM.of rfl) ?_
    | with_reducible refine Kept.upd ?_ (h_mbx := .inr (hM.of rfl)))

theorem expertDropCmd_kept (hM : Sub 8388616 m) {a0 : Nat} {a1 : Cmd} {s : Block} (h : Kept m s0 s) :
    Kept m s0 (expertDropCmd a0 a1 s) := by
  unfold expertDropCmd
  repeat' (first
    | with_reducible assumption
    | with_reducible refine Kept.ite ?_ ?_
    | with_reducible refine Block_respond_kept (hM.of rfl) ?_
    | with_reducible refine levelDrop_kept (hM.of rfl) ?_)

theorem svcNetwork_kept (hM : Sub 1 m) {a0 a1 : Nat} {a2 : List Nat} {s : Block} (h : Kept m s0 s) :
    Kept m s0 (svcNetwork a0 a1 a2 s) := by
  unfold svcNetwork
  repeat' (first
    | with_reducible assumption
    | with_reducible refine Block_emit_kept (hM.of rfl) ?_)

theorem svcWriteAct_kept (hM : Sub 153919499 m) {a0 : List Nat} {s : Block} (h : Kept m s0 s) :
    Kept m s0 (svcWriteAct a0 s) := by
  unfold svcWriteAct
  repeat' (first
    | with_reducible assumption
    | (extract_lets +onlyGivenNames r; clear_value r)
    | with_reducible refine Kept.ite ?_ ?_
    | with_reducible refine svcNetwork_kept (hM.of rfl) ?_
    | with_reducible refine svcAck_kept (hM.of rfl) ?_
    | with_reducible refine nocIssue_kept (hM.of rfl) ?_)

theorem svcReadAct_kept (hM : Sub 153919499 m) {a0 : List Nat} {s : Block} (h : Kept m s0 s) :
    Kept m s0 (svcReadAct a0 s) := by
  unfold svcReadAct
  repeat' (first
    | with_reducible assumption
    | (extract_lets +onlyGivenNames r; clear_value r)
    | with_reducible refine Kept.ite ?_ ?_
    | with_reducible refine svcNetwork_kept (hM.of rfl) ?_
    | with_reducible refine svcAck_kept (hM.of rfl) ?_
    | with_reducible refine nocIssue_kept (hM.of rfl) ?_
    | with_reducible refine modFwu_kept (hM.of rfl) ?_)

theorem execLockstepMismatch_ran (hM : Sub 529240089 m) (s : State) : Ran m s (execLockstepMismatch s) := by
  unfold execLockstepMismatch
  refine live_ran (fun s0 s h => ?_) s
  repeat' (first
    | with_reducible assumption
    | with_reducible refine crashStep_kept (hM.of rfl) ?_)

theorem execWatchdogExpiry_ran (hM : Sub 529240089 m) (s : State) : Ran m s (execWatchdogExpiry s) := by
  unfold execWatchdogExpiry
  refine live_ran (fun s0 s h => ?_) s
  repeat' (first
    | with_reducible assumption
    | with_reducible refine crashStep_kept (hM.of rfl) ?_)

theorem execGreoneRestartBegin_ran (hM : Sub 529240089 m) (s : State) : Ran m s (execGreoneRestartBegin s) := by
  unfold execGreoneRestartBegin
  refine live_ran (fun s0 s h => ?_) s
  repeat' (first
    | with_reducible assumption
    | with_reducible refine greoneRestartBeginStep_kept (hM.of rfl) ?_)

theorem execGreoneReady_ran (hM : Sub 2680799115 m) (s : State) : Ran m s (execGreoneReady s) := by
  unfold execGreoneReady
  refine live_ran (fun s0 s h => ?_) s
  repeat' (first
    | with_reducible assumption
    | with_reducible refine greoneReadyStep_kept (hM.of rfl) ?_)

theorem execSafelightFrame_ran (hM : Sub 52731915 m) (a0 : BitVec 160) (s : State) : Ran m s (execSafelightFrame a0 s) := by
  unfold execSafelightFrame
  refine live_ran (fun s0 s h => ?_) s
  repeat' (first
    | with_reducible assumption
    | with_reducible refine safelightFrameStep_kept (hM.of rfl) ?_)

theorem execSafelightSegmentFail_ran (hM : Sub 50331648 m) (a0 : Fin 5) (a1 : Bool) (s : State) : Ran m s (execSafelightSegmentFail a0 a1 s) := by
  unfold execSafelightSegmentFail
  refine live_ran (fun s0 s h => ?_) s
  repeat' (first
    | with_reducible assumption
    | with_reducible refine safelightSegmentFailStep_kept (hM.of rfl) ?_)

theorem execDevInfo_ran (hM : Sub 8388608 m) (a0 : Hdr) (s : State) : Ran m s (execDevInfo a0 s) := by
  unfold execDevInfo
  refine live_ran (fun s0 s h => ?_) s
  repeat' (first
    | with_reducible assumption
    | intro _
    | with_reducible refine Block_command_kept (hM.of rfl) ?_ ?_
    | with_reducible refine devInfoCmd_kept (hM.of rfl) ?_)

theorem execDevStatus_ran (hM : Sub 8388608 m) (a0 : Hdr) (s : State) : Ran m s (execDevStatus a0 s) := by
  unfold execDevStatus
  refine live_ran (fun s0 s h => ?_) s
  repeat' (first
    | with_reducible assumption
    | intro _
    | with_reducible refine Block_command_kept (hM.of rfl) ?_ ?_
    | with_reducible refine devStatusCmd_kept (hM.of rfl) ?_)

theorem execMbxBarrier_ran (hM : Sub 8388608 m) (a0 : Hdr) (s : State) : Ran m s (execMbxBarrier a0 s) := by
  unfold execMbxBarrier
  refine live_ran (fun s0 s h => ?_) s
  repeat' (first
    | with_reducible assumption
    | intro _
    | with_reducible refine Block_command_kept (hM.of rfl) ?_ ?_
    | with_reducible refine mbxBarrierCmd_kept (hM.of rfl) ?_)

theorem execGreoneRestart_ran (hM : Sub 41943040 m) (a0 : Hdr) (s : State) : Ran m s (execGreoneRestart a0 s) := by
  unfold execGreoneRestart
  refine live_ran (fun s0 s h => ?_) s
  repeat' (first
    | with_reducible assumption
    | intro _
    | with_reducible refine Block_command_kept (hM.of rfl) ?_ ?_
    | with_reducible refine greoneRestartCmd_kept (hM.of rfl) ?_)

theorem execExpertDrop_ran (hM : Sub 8388616 m) (a0 : Hdr) (a1 : Nat) (s : State) : Ran m s (execExpertDrop a0 a1 s) := by
  unfold execExpertDrop
  refine live_ran (fun s0 s h => ?_) s
  repeat' (first
    | with_reducible assumption
    | intro _
    | with_reducible refine Block_command_kept (hM.of rfl) ?_ ?_
    | with_reducible refine expertDropCmd_kept (hM.of rfl) ?_)

theorem execV1Info_ran (hM : Sub 8388608 m) (a0 : Hdr) (s : State) : Ran m s (execV1Info a0 s) := by
  unfold execV1Info
  refine live_ran (fun s0 s h => ?_) s
  repeat' (first
    | with_reducible assumption
    | intro _
    | with_reducible refine Block_commandV1_kept (hM.of rfl) ?_ ?_
    | with_reducible refine devInfoCmd_kept (hM.of rfl) ?_)

theorem execV1Status_ran (hM : Sub 8388608 m) (a0 : Hdr) (s : State) : Ran m s (execV1Status a0 s) := by
  unfold execV1Status
  refine live_ran (fun s0 s h => ?_) s
  repeat' (first
    | with_reducible assumption
    | intro _
    | with_reducible refine Block_commandV1_kept (hM.of rfl) ?_ ?_
    | with_reducible refine devStatusCmd_kept (hM.of rfl) ?_)

theorem execV1Barrier_ran (hM : Sub 8388608 m) (a0 : Hdr) (s : State) : Ran m s (execV1Barrier a0 s) := by
  unfold execV1Barrier
  refine live_ran (fun s0 s h => ?_) s
  repeat' (first
    | with_reducible assumption
    | intro _
    | with_reducible refine Block_commandV1_kept (hM.of rfl) ?_ ?_
    | with_reducible refine mbxBarrierCmd_kept (hM.of rfl) ?_)

theorem execMemTrain_ran (hM : Sub 159973385 m) (a0 : Hdr) (a1 : Nat) (s : State) : Ran m s (execMemTrain a0 a1 s) := by
  unfold execMemTrain
  refine live_ran (fun s0 s h => ?_) s
  repeat' (first
    | with_reducible assumption
    | intro _
    | with_reducible refine Block_commandV1_kept (hM.of rfl) ?_ ?_
    | with_reducible refine onDie_kept (hM.of rfl) ?_ ?_
    | with_reducible refine dramTrainCmd_kept (hM.of rfl) ?_)

theorem execMemStatus_ran (hM : Sub 8388608 m) (a0 : Hdr) (a1 : Nat) (s : State) : Ran m s (execMemStatus a0 a1 s) := by
  unfold execMemStatus
  refine live_ran (fun s0 s h => ?_) s
  repeat' (first
    | with_reducible assumption
    | intro _
    | with_reducible refine Block_commandV1_kept (hM.of rfl) ?_ ?_
    | with_reducible refine onDie_kept (hM.of rfl) ?_ ?_
    | with_reducible refine dramStatusCmd_kept (hM.of rfl) ?_)

theorem execLinkUp_ran (hM : Sub 8421387 m) (a0 : Hdr) (a1 : Nat) (a2 : Nat) (s : State) : Ran m s (execLinkUp a0 a1 a2 s) := by
  unfold execLinkUp
  refine live_ran (fun s0 s h => ?_) s
  repeat' (first
    | with_reducible assumption
    | intro _
    | with_reducible refine Block_commandV1_kept (hM.of rfl) ?_ ?_
    | with_reducible refine onDie_kept (hM.of rfl) ?_ ?_
    | with_reducible refine laneUpCmd_kept (hM.of rfl) ?_)

theorem execLinkDown_ran (hM : Sub 8421384 m) (a0 : Hdr) (a1 : Nat) (a2 : Nat) (s : State) : Ran m s (execLinkDown a0 a1 a2 s) := by
  unfold execLinkDown
  refine live_ran (fun s0 s h => ?_) s
  repeat' (first
    | with_reducible assumption
    | intro _
    | with_reducible refine Block_commandV1_kept (hM.of rfl) ?_ ?_
    | with_reducible refine onDie_kept (hM.of rfl) ?_ ?_
    | with_reducible refine laneDownCmd_kept (hM.of rfl) ?_)

theorem execSvcWrite_ran (hM : Sub 153919499 m) (a0 : List (BitVec 8)) (s : State) : Ran m s (execSvcWrite a0 s) := by
  unfold execSvcWrite
  refine live_ran (fun s0 s h => ?_) s
  repeat' (first
    | with_reducible assumption
    | intro _
    | with_reducible refine svcFrame_kept (hM.of rfl) ?_ ?_
    | with_reducible refine svcWriteAct_kept (hM.of rfl) ?_)

theorem execSvcRead_ran (hM : Sub 153919499 m) (a0 : List (BitVec 8)) (s : State) : Ran m s (execSvcRead a0 s) := by
  unfold execSvcRead
  refine live_ran (fun s0 s h => ?_) s
  repeat' (first
    | with_reducible assumption
    | intro _
    | with_reducible refine svcFrame_kept (hM.of rfl) ?_ ?_
    | with_reducible refine svcReadAct_kept (hM.of rfl) ?_)

/-! ### Marker -/

theorem alignmentMarkerStep_kept (hM : Sub 2380103583 m) {s : Block} (h : Kept m s0 s) :
    Kept m s0 (alignmentMarkerStep s) := by
  unfold alignmentMarkerStep
  repeat' (first
    | with_reducible assumption
    | (extract_lets +onlyGivenNames r; have hr : Kept m s0 r := ?_; clear_value r; rotate_left; subst r; rotate_right)
    | with_reducible refine fabricCatchUp_kept (hM.of rfl) ?_
    | with_reducible refine advanceTime_kept (hM.of rfl) ?_
    | with_reducible refine clockMarker_kept (hM.of rfl) ?_
    | with_reducible refine shutterMarker_kept (hM.of rfl) ?_
    | with_reducible refine safeMarker_kept (hM.of rfl) ?_
    | with_reducible refine seamMarker_kept (hM.of rfl) ?_
    | with_reducible refine dieMarker_kept (hM.of rfl) ?_
    | with_reducible refine globalFenceMarker_kept (hM.of rfl) ?_
    | with_reducible refine rerouteMarker_kept (hM.of rfl) ?_
    | with_reducible refine platesMarker_kept (hM.of rfl) ?_)

theorem execAlignmentMarker_ran (hM : Sub 2380103583 m) (s : State) : Ran m s (execAlignmentMarker s) := by
  unfold execAlignmentMarker
  refine clocked_ran (fun s0 s h => ?_) s
  repeat' (first
    | with_reducible assumption
    | with_reducible refine alignmentMarkerStep_kept (hM.of rfl) ?_)

/-! ### Mailbox -/

theorem deviceRows_ran (hM : Sub 2684223419 m) {r : CmdRow} (hr : r ∈ deviceRows) (h : Hdr) (a : Nat → Nat) (s : State) : Ran m s (r.run h a s) := by
  simp only [deviceRows, List.mem_cons, List.not_mem_nil, or_false] at hr
  rcases hr with rfl | rfl | rfl | rfl | rfl | rfl | rfl | rfl | rfl | rfl | rfl | rfl | rfl | rfl | rfl | rfl
  · exact execDevInfo_ran (hM.of rfl) h s
  · exact execDevStatus_ran (hM.of rfl) h s
  · exact execMbxBarrier_ran (hM.of rfl) h s
  · exact execRegRead_ran (hM.of rfl) h (a 0) (a 1) s
  · exact execRegWrite_ran (hM.of rfl) h (a 0) (a 1) (a 2) s
  · exact execDieReset_ran (hM.of rfl) h (a 0) s
  · exact execSiteReset_ran (hM.of rfl) h (a 0) s
  · exact execGreoneRestart_ran (hM.of rfl) h s
  · exact execExpertDrop_ran (hM.of rfl) h (a 0) s
  · exact execEventRead_ran (hM.of rfl) h (a 0) s
  · exact execEventQueue_ran (hM.of rfl) h (a 0) (a 1) s
  · exact execSettingsRead_ran (hM.of rfl) h (a 0) s
  · exact execSettingsWrite_ran (hM.of rfl) h (a 0) (a 1) s
  · exact execSettingsCommit_ran (hM.of rfl) h (a 0) (a 1) s
  · exact execRingJoin_ran (hM.of rfl) h s
  · exact execRingLeave_ran (hM.of rfl) h s

theorem plateRows_ran (hM : Sub 2684223419 m) {r : CmdRow} (hr : r ∈ plateRows) (h : Hdr) (a : Nat → Nat) (s : State) : Ran m s (r.run h a s) := by
  simp only [plateRows, List.mem_cons, List.not_mem_nil, or_false] at hr
  rcases hr with rfl | rfl | rfl | rfl | rfl | rfl | rfl | rfl | rfl | rfl | rfl | rfl | rfl
  · exact execPlateLoad_ran (hM.of rfl) h (a 0) (a 1) (a 2) (a 3) (a 4) (a 5) (a 6) (a 7) s
  · exact execPlateRelocate_ran (hM.of rfl) h (a 0) (a 1) s
  · exact execRegionFreeze_ran (hM.of rfl) h (a 0) s
  · exact execRegionRelease_ran (hM.of rfl) h (BitVec.ofNat 256 (a 0)) s
  · exact execRegionReset_ran (hM.of rfl) h (a 0) s
  · exact execRegionClear_ran (hM.of rfl) h (a 0) s
  · exact execPlateSpares_ran (hM.of rfl) h (BitVec.ofNat 320 (a 0)) s
  · exact execPlateUnretain_ran (hM.of rfl) h (a 0) s
  · exact execPlateStatus_ran (hM.of rfl) h (a 0) s
  · exact execShutter_ran (hM.of rfl) h (a 0) s
  · exact execShutterResume_ran (hM.of rfl) h s
  · exact execShutterCancel_ran (hM.of rfl) h s
  · exact execShutterStatus_ran (hM.of rfl) h s

theorem unitRows_ran (hM : Sub 2684223419 m) {r : CmdRow} (hr : r ∈ unitRows) (h : Hdr) (a : Nat → Nat) (s : State) : Ran m s (r.run h a s) := by
  simp only [unitRows, List.mem_cons, List.not_mem_nil, or_false] at hr
  rcases hr with rfl | rfl | rfl | rfl | rfl | rfl | rfl | rfl | rfl | rfl | rfl | rfl | rfl | rfl
  · exact execTppLoad_ran (hM.of rfl) h (a 0) (a 1) (a 2) (a 3) s
  · exact execTppRun_ran (hM.of rfl) h (a 0) (a 1) s
  · exact execTppAbort_ran (hM.of rfl) h (a 0) s
  · exact execTppStatus_ran (hM.of rfl) h (a 0) s
  · exact execTppCalibrate_ran (hM.of rfl) h (a 0) s
  · exact execTppSite_ran (hM.of rfl) h (a 0) (a 1) s
  · exact execLaneUp_ran (hM.of rfl) h (a 0) (a 1) (a 2) (a 3) s
  · exact execLaneDown_ran (hM.of rfl) h (a 0) (a 1) s
  · exact execLaneQuiesce_ran (hM.of rfl) h (a 0) (a 1) s
  · exact execLaneResume_ran (hM.of rfl) h (a 0) (a 1) s
  · exact execLaneLoopback_ran (hM.of rfl) h (a 0) (a 1) (a 2) s
  · exact execLanePrbs_ran (hM.of rfl) h (a 0) (a 1) (a 2) (a 3) (a 4) s
  · exact execLaneEyescan_ran (hM.of rfl) h (a 0) (a 1) (a 2) (a 3) (a 4) (a 5) (a 6) (a 7) (a 8) s
  · exact execLaneStatus_ran (hM.of rfl) h (a 0) s

theorem memoryRows_ran (hM : Sub 2684223419 m) {r : CmdRow} (hr : r ∈ memoryRows) (h : Hdr) (a : Nat → Nat) (s : State) : Ran m s (r.run h a s) := by
  simp only [memoryRows, List.mem_cons, List.not_mem_nil, or_false] at hr
  rcases hr with rfl | rfl | rfl | rfl | rfl | rfl | rfl | rfl | rfl | rfl | rfl | rfl | rfl | rfl
  · exact execDramTrain_ran (hM.of rfl) h (a 0) (a 1) s
  · exact execDramStatus_ran (hM.of rfl) h (a 0) s
  · exact execDramQuiesce_ran (hM.of rfl) h (a 0) s
  · exact execDramResume_ran (hM.of rfl) h (a 0) s
  · exact execDramOffline_ran (hM.of rfl) h (a 0) s
  · exact execDramOnline_ran (hM.of rfl) h (a 0) s
  · exact execDramSelftest_ran (hM.of rfl) h (a 0) (a 1) (a 2) (a 3) s
  · exact execDramBracket_ran (hM.of rfl) h (a 0) (BitVec.ofNat 64 (a 1)) s
  · exact execDramRecover_ran (hM.of rfl) h (a 0) s
  · exact execLsuKeyLoad_ran (hM.of rfl) h (a 0) (a 1) s
  · exact execLsuKeyClear_ran (hM.of rfl) h (a 0) s
  · exact execLsuRegionSet_ran (hM.of rfl) h (a 0) (a 1) (a 2) (a 3) s
  · exact execLsuRekey_ran (hM.of rfl) h (a 0) (a 1) (a 2) s
  · exact execLsuStatus_ran (hM.of rfl) h (a 0) s

theorem networkRows_ran (hM : Sub 2684223419 m) {r : CmdRow} (hr : r ∈ networkRows) (h : Hdr) (a : Nat → Nat) (s : State) : Ran m s (r.run h a s) := by
  simp only [networkRows, List.mem_cons, List.not_mem_nil, or_false] at hr
  rcases hr with rfl | rfl | rfl | rfl | rfl | rfl | rfl | rfl | rfl | rfl | rfl | rfl
  · exact execNocGlobalFence_ran (hM.of rfl) h s
  · exact execNocStatus_ran (hM.of rfl) h (a 0) (a 1) (a 2) s
  · exact execNocIsolate_ran (hM.of rfl) h (a 0) s
  · exact execNocRelease_ran (hM.of rfl) h (a 0) s
  · exact execNocDomainOff_ran (hM.of rfl) h (a 0) s
  · exact execNocDomainOn_ran (hM.of rfl) h (a 0) s
  · exact execDlStatus_ran (hM.of rfl) h (a 0) s
  · exact execDlRetrain_ran (hM.of rfl) h (a 0) s
  · exact execDlDown_ran (hM.of rfl) h (a 0) s
  · exact execDlUp_ran (hM.of rfl) h (a 0) s
  · exact execDlClearDegrade_ran (hM.of rfl) h (a 0) s
  · exact execSeamSteer_ran (hM.of rfl) h (a 0) (a 1) (a 2) s

theorem queueRows_ran (hM : Sub 2684223419 m) {n : Nat} {r : CmdRow} (hr : r ∈ queueRows n) (h : Hdr) (a : Nat → Nat) (s : State) : Ran m s (r.run h a s) := by
  simp only [queueRows, List.mem_cons, List.not_mem_nil, or_false] at hr
  rcases hr with rfl | rfl | rfl | rfl | rfl | rfl | rfl | rfl | rfl | rfl
  · exact execQeGroupAssign_ran (hM.of rfl) h (a 0) (a 1) s
  · by_cases e : (n == 1) = true
    · simp only [e, if_true]; exact execQeQueueCreate_ran (hM.of rfl) _ _ _ _ _ _ _ _ _ _ _ _ _ _ _
    · simp only [e]; exact execQeQueueCreate_ran (hM.of rfl) _ _ _ _ _ _ _ _ _ _ _ _ _ _ _
  · exact execQeQueueDestroy_ran (hM.of rfl) h (a 0) s
  · exact execQeQueueReset_ran (hM.of rfl) h (a 0) s
  · exact execQeQueueStatus_ran (hM.of rfl) h (a 0) s
  · exact execQeVectorSet_ran (hM.of rfl) h (a 0) (a 1) (a 2) (a 3) (a 4) (a 5) s
  · exact execQeStatus_ran (hM.of rfl) h s
  · exact execEicSourceSet_ran (hM.of rfl) h (a 0) (a 1) (a 2) (a 3) s
  · exact execEicTargetSet_ran (hM.of rfl) h (a 0) (a 1) (a 2) s
  · exact execEicStatus_ran (hM.of rfl) h s

theorem securityRows_ran (hM : Sub 2684223419 m) {r : CmdRow} (hr : r ∈ securityRows) (h : Hdr) (a : Nat → Nat) (s : State) : Ran m s (r.run h a s) := by
  simp only [securityRows, List.mem_cons, List.not_mem_nil, or_false] at hr
  rcases hr with rfl | rfl | rfl | rfl | rfl | rfl | rfl | rfl | rfl | rfl | rfl | rfl | rfl | rfl | rfl | rfl | rfl | rfl | rfl | rfl | rfl | rfl | rfl
  · exact execSecStatus_ran (hM.of rfl) h s
  · exact execSecNonce_ran (hM.of rfl) h s
  · exact execSecIdCert_ran (hM.of rfl) h (a 0) (a 1) (a 2) s
  · exact execSecQuote_ran (hM.of rfl) h (a 0) (a 1) (BitVec.ofNat 256 (a 2)) s
  · exact execSecOwnerKeyPut_ran (hM.of rfl) h (a 0) (a 1) s
  · exact execSecOwnerProgram_ran (hM.of rfl) h (a 0) (a 1) s
  · exact execSecOwnerRevoke_ran (hM.of rfl) h (a 0) (a 1) s
  · exact execSecFuseLock_ran (hM.of rfl) h (a 0) (a 1) s
  · exact execSecSvnAdvance_ran (hM.of rfl) h (a 0) (a 1) s
  · exact execSecSealKeySet_ran (hM.of rfl) h (a 0) (a 1) s
  · exact execSecPolicySet_ran (hM.of rfl) h (a 0) (a 1) s
  · exact execFwStatus_ran (hM.of rfl) h s
  · exact execFwBegin_ran (hM.of rfl) h (a 0) s
  · exact execFwEnd_ran (hM.of rfl) h (BitVec.ofNat 256 (a 0)) s
  · exact execFwVerify_ran (hM.of rfl) h s
  · exact execFwActivate_ran (hM.of rfl) h (a 0) s
  · exact execFwAbort_ran (hM.of rfl) h s
  · exact execFwAcceptDefaults_ran (hM.of rfl) h (a 0) (a 1) s
  · exact execFwRevert_ran (hM.of rfl) h s
  · exact execRunLock_ran (hM.of rfl) h (a 0) s
  · exact execRunUnlock_ran (hM.of rfl) h (a 0) s
  · exact execPwrStatus_ran (hM.of rfl) h s
  · exact execThermSet_ran (hM.of rfl) h (a 0) (a 1) s

theorem testRows_ran (hM : Sub 2684223419 m) {n : Nat} {r : CmdRow} (hr : r ∈ testRows n) (h : Hdr) (a : Nat → Nat) (s : State) : Ran m s (r.run h a s) := by
  simp only [testRows, List.mem_cons, List.not_mem_nil, or_false] at hr
  rcases hr with rfl | rfl | rfl | rfl
  · exact execTestRun_ran (hM.of rfl) h (a 0) (a 1) (testArgs a 2 (testSizes n).length) s
  · exact execTestSchedule_ran (hM.of rfl) h (a 0) (a 1) (a 2) (a 3) (testArgs a 4 (testSizes n).length) s
  · exact execTestCancel_ran (hM.of rfl) h (a 0) s
  · exact execTestStatus_ran (hM.of rfl) h (a 0) s

theorem cmdRows_ran (hM : Sub 2684223419 m) {bs : List Nat} {r : CmdRow} (hr : r ∈ cmdRows bs) (h : Hdr) (a : Nat → Nat) (s : State) :
    Ran m s (r.run h a s) := by
  simp only [cmdRows, List.mem_append] at hr
  rcases hr with ((((((hr | hr) | hr) | hr) | hr) | hr) | hr) | hr
  · exact deviceRows_ran hM hr h a s
  · exact plateRows_ran hM hr h a s
  · exact unitRows_ran hM hr h a s
  · exact memoryRows_ran hM hr h a s
  · exact networkRows_ran hM hr h a s
  · exact queueRows_ran hM hr h a s
  · exact securityRows_ran hM hr h a s
  · exact testRows_ran hM hr h a s

theorem runEntry_kept (hM : Sub 2684223419 m) {a0 : Port} {a1 : List Nat} {s : Block} (h : Kept m s0 s) :
    Kept m s0 (runEntry a0 a1 s) := by
  unfold runEntry
  extract_lets +onlyGivenNames x op
  split
  · exact Block_respond_kept (hM.of rfl) h
  · next r e =>
    exact Kept.ite (Block_respond_kept (hM.of rfl) h)
      (nextOf_kept (fun s => cmdRows_ran hM (List.mem_of_find?_eq_some e) _ _ s) h)

theorem runEntryV1_kept (hM : Sub 2684223419 m) {a0 : Port} {a1 : List Nat} {s : Block} (h : Kept m s0 s) :
    Kept m s0 (runEntryV1 a0 a1 s) := by
  unfold runEntryV1
  dsimp only
  split
  · exact nextOf_kept (fun s => execV1Info_ran (hM.of rfl) _ _) h
  · exact nextOf_kept (fun s => execV1Status_ran (hM.of rfl) _ _) h
  · exact nextOf_kept (fun s => execV1Barrier_ran (hM.of rfl) _ _) h
  · exact nextOf_kept (fun s => execCfgLoad_ran (hM.of rfl) _ _ _ _ _) h
  · exact nextOf_kept (fun s => execCfgStatus_ran (hM.of rfl) _ _ _) h
  · exact nextOf_kept (fun s => execMemTrain_ran (hM.of rfl) _ _ _) h
  · exact nextOf_kept (fun s => execMemStatus_ran (hM.of rfl) _ _ _) h
  · exact nextOf_kept (fun s => execLinkUp_ran (hM.of rfl) _ _ _ _) h
  · exact nextOf_kept (fun s => execLinkDown_ran (hM.of rfl) _ _ _ _) h
  · exact nextOf_kept (fun s => execRegRd_ran (hM.of rfl) _ _ _) h
  · exact nextOf_kept (fun s => execRegWr_ran (hM.of rfl) _ _ _ _) h
  · exact Block_respond_kept (hM.of rfl) h

theorem takeEntry_kept (hM : Sub 2684223419 m) {a0 : Port} {a1 : Bool} {s : Block} (h : Kept m s0 s) :
    Kept m s0 (takeEntry a0 a1 s) := by
  unfold takeEntry
  repeat' (first
    | with_reducible assumption
    | (extract_lets +onlyGivenNames r; have hr : Kept m s0 r := ?_; clear_value r; rotate_left; subst r; rotate_right)
    | (extract_lets +onlyGivenNames r; clear_value r)
    | with_reducible refine Kept.ite ?_ ?_
    | with_reducible refine Block_put_kept (hM.of rfl) ?_
    | with_reducible refine runEntryV1_kept (hM.of rfl) ?_
    | with_reducible refine runEntry_kept (hM.of rfl) ?_)

theorem mbxCommandTakeStep_kept (hM : Sub 2684223419 m) {a0 : Port} {s : Block} (h : Kept m s0 s) :
    Kept m s0 (mbxCommandTakeStep a0 s) := by
  unfold mbxCommandTakeStep
  repeat' (first
    | with_reducible assumption
    | (extract_lets +onlyGivenNames r; clear_value r)
    | with_reducible refine Kept.ite ?_ ?_
    | with_reducible refine takeEntry_kept (hM.of rfl) ?_)

theorem putPage_kept (hM : Sub 8 m) {a0 a1 : Nat} {a2 : List Nat} {s : Block} (h : Kept m s0 s) :
    Kept m s0 (putPage a0 a1 a2 s) := by
  unfold putPage
  repeat' (first
    | with_reducible assumption
    | intro _
    | with_reducible refine forEach_kept (hM.of rfl) ?_ ?_
    | with_reducible refine Block_setReg_kept (hM.of rfl) ?_)

theorem writeResponse_kept (hM : Sub 8388616 m) {a0 : Port} {a1 : Rsp} {s : Block} (h : Kept m s0 s) :
    Kept m s0 (writeResponse a0 a1 s) := by
  unfold writeResponse
  repeat' (first
    | with_reducible assumption
    | (extract_lets +onlyGivenNames r; have hr : Kept m s0 r := ?_; clear_value r; rotate_left; subst r; rotate_right)
    | (extract_lets +onlyGivenNames r; clear_value r)
    | with_reducible refine putPage_kept (hM.of rfl) ?_
    | with_reducible refine Block_eicEdge_kept (hM.of rfl) ?_
    | with_reducible refine Block_put_kept (hM.of rfl) ?_
    | with_reducible refine Kept.upd ?_ (h_mbx := .inr (hM.of rfl)))

theorem mbxResponseWriteStep_kept (hM : Sub 8388616 m) {a0 : Port} {s : Block} (h : Kept m s0 s) :
    Kept m s0 (mbxResponseWriteStep a0 s) := by
  unfold mbxResponseWriteStep
  repeat' (first
    | with_reducible assumption
    | with_reducible refine Kept.ite ?_ ?_
    | with_reducible refine writeResponse_kept (hM.of rfl) ?_
    | split)

theorem execMbxCommandTake_ran (hM : Sub 2684223419 m) (a0 : Port) (s : State) : Ran m s (execMbxCommandTake a0 s) := by
  unfold execMbxCommandTake
  refine live_ran (fun s0 s h => ?_) s
  repeat' (first
    | with_reducible assumption
    | with_reducible refine mbxCommandTakeStep_kept (hM.of rfl) ?_)

theorem execMbxResponseWrite_ran (hM : Sub 8388616 m) (a0 : Port) (s : State) : Ran m s (execMbxResponseWrite a0 s) := by
  unfold execMbxResponseWrite
  refine live_ran (fun s0 s h => ?_) s
  repeat' (first
    | with_reducible assumption
    | with_reducible refine mbxResponseWriteStep_kept (hM.of rfl) ?_)

end Sys2Proof.Laws
end

