-- ==== Sys2Proof/Laws/Regs.lean ====
section
/-! SUPPORT. Registers and their fields: a read after a write, and what a write leaves alone. -/

namespace Sys2Proof.Laws

open Machine

/-! ### Fields of a number -/

theorem fldSet_split (x lo w v : Nat) :
    fldSet x lo w v = (x / 2 ^ (lo + w) * 2 ^ w + v % 2 ^ w) * 2 ^ lo + x % 2 ^ lo := by
  unfold fldSet; rw [Nat.pow_add]; ring

theorem fldSet_div (x lo w v : Nat) : fldSet x lo w v / 2 ^ lo = x / 2 ^ (lo + w) * 2 ^ w + v % 2 ^ w := by
  rw [fldSet_split, Nat.add_comm, Nat.add_mul_div_right _ _ (Nat.two_pow_pos lo),
    Nat.div_eq_of_lt (Nat.mod_lt _ (Nat.two_pow_pos lo)), Nat.zero_add]

/-- A field that was written reads as the value written, cut to its width. -/
theorem fldGet_fldSet_same (x lo w v : Nat) : fldGet (fldSet x lo w v) lo w = v % 2 ^ w := by
  unfold fldGet
  rw [fldSet_div, Nat.add_comm, Nat.add_mul_mod_self_right, Nat.mod_mod]

/-- A field below the one written reads as before. -/
theorem fldGet_fldSet_below (x lo w v l' w' : Nat) (h : l' + w' ≤ lo) : fldGet (fldSet x lo w v) l' w' = fldGet x l' w' := by
  obtain ⟨k, rfl⟩ := Nat.exists_eq_add_of_le h
  have hm : fldSet x (l' + w' + k) w v % 2 ^ (l' + w') = x % 2 ^ (l' + w') := by
    rw [fldSet_split, Nat.pow_add _ (l' + w') k,
      show ∀ A : Nat, A * (2 ^ (l' + w') * 2 ^ k) = 2 ^ (l' + w') * (A * 2 ^ k) from fun A => by ring,
      Nat.mul_add_mod, Nat.mod_mul_right_mod]
  have key : ∀ y : Nat, y / 2 ^ l' % 2 ^ w' = y % 2 ^ (l' + w') / 2 ^ l' := fun y => by
    rw [Nat.pow_add, Nat.mod_mul_right_div_self]
  unfold fldGet
  rw [key, key x, hm]

/-- A field above the one written reads as before. -/
theorem fldGet_fldSet_above (x lo w v l' w' : Nat) (h : lo + w ≤ l') : fldGet (fldSet x lo w v) l' w' = fldGet x l' w' := by
  obtain ⟨k, rfl⟩ := Nat.exists_eq_add_of_le h
  have hd : fldSet x lo w v / 2 ^ (lo + w) = x / 2 ^ (lo + w) := by
    rw [Nat.pow_add, ← Nat.div_div_eq_div_mul, fldSet_div, Nat.add_comm, Nat.add_mul_div_right _ _ (Nat.two_pow_pos w),
      Nat.div_eq_of_lt (Nat.mod_lt _ (Nat.two_pow_pos w)), Nat.zero_add, Nat.pow_add]
  unfold fldGet
  rw [Nat.pow_add _ (lo + w) k, ← Nat.div_div_eq_div_mul, hd, Nat.div_div_eq_div_mul]

theorem fldSet_lt (x lo w v : Nat) (hx : x < 2 ^ 64) (h : lo + w ≤ 64) : fldSet x lo w v < 2 ^ 64 := by
  obtain ⟨k, hk⟩ := Nat.exists_eq_add_of_le h
  have h64 : (2 : Nat) ^ 64 = 2 ^ k * 2 ^ w * 2 ^ lo := by rw [hk, Nat.pow_add, Nat.pow_add]; ring
  have hA : x / 2 ^ (lo + w) < 2 ^ k := by
    rw [Nat.div_lt_iff_lt_mul (Nat.two_pow_pos _), ← Nat.pow_add, Nat.add_comm k, ← hk]; exact hx
  rw [fldSet_split, h64]
  have hB := Nat.mod_lt v (Nat.two_pow_pos w)
  have hC := Nat.mod_lt x (Nat.two_pow_pos lo)
  have h1 : x / 2 ^ (lo + w) * 2 ^ w + v % 2 ^ w + 1 ≤ 2 ^ k * 2 ^ w := by
    calc _ ≤ x / 2 ^ (lo + w) * 2 ^ w + 2 ^ w := by omega
      _ = (x / 2 ^ (lo + w) + 1) * 2 ^ w := by ring
      _ ≤ 2 ^ k * 2 ^ w := Nat.mul_le_mul_right _ hA
  calc _ < (x / 2 ^ (lo + w) * 2 ^ w + v % 2 ^ w) * 2 ^ lo + 2 ^ lo := by omega
    _ = (x / 2 ^ (lo + w) * 2 ^ w + v % 2 ^ w + 1) * 2 ^ lo := by ring
    _ ≤ _ := Nat.mul_le_mul_right _ h1

/-! ### Registers -/

@[simp] theorem reg_setReg_same (s : Block) (a : Nat) (v : BitVec 64) : (s.setReg a v).reg a = v :=
  spGet_spSet_same _ _ _ _

theorem reg_setReg_ne (s : Block) {a c : Nat} (v : BitVec 64) (h : c ≠ a) : (s.setReg a v).reg c = s.reg c :=
  spGet_spSet_ne _ _ _ h

/-- A write of a field leaves every register but its own alone. -/
theorem reg_put_ne (s : Block) (b : Nat) (fl : Fld) (v : Nat) {c : Nat} (h : c ≠ b + fl.off) : (s.put b fl v).reg c = s.reg c :=
  reg_setReg_ne s _ h

theorem reg_putB_ne (s : Block) (b : Nat) (fl : Fld) (v : Bool) {c : Nat} (h : c ≠ b + fl.off) :
    (s.putB b fl v).reg c = s.reg c := reg_put_ne s b fl _ h

/-- A field that was written reads as the value written, cut to its width. -/
theorem f_put_same (s : Block) (b : Nat) (fl : Fld) (v : Nat) (h : fl.lo + fl.w ≤ 64) : (s.put b fl v).f b fl = v % 2 ^ fl.w := by
  unfold Block.f Block.put
  rw [reg_setReg_same, BitVec.toNat_ofNat, Nat.mod_eq_of_lt (fldSet_lt _ _ _ _ (BitVec.isLt _) h), fldGet_fldSet_same]

/-- A field of another register reads as before. -/
theorem f_put_ne (s : Block) (b c : Nat) (fl gl : Fld) (v : Nat) (h : c + gl.off ≠ b + fl.off) :
    (s.put b fl v).f c gl = s.f c gl := by
  unfold Block.f; rw [reg_put_ne s b fl v h]

/-- A field of the same register that does not overlap the one written reads as before. -/
theorem f_put_apart (s : Block) (b : Nat) (fl gl : Fld) (v : Nat) (ho : gl.off = fl.off) (h : fl.lo + fl.w ≤ 64)
    (hd : gl.lo + gl.w ≤ fl.lo ∨ fl.lo + fl.w ≤ gl.lo) : (s.put b fl v).f b gl = s.f b gl := by
  unfold Block.f Block.put
  rw [ho, reg_setReg_same, BitVec.toNat_ofNat, Nat.mod_eq_of_lt (fldSet_lt _ _ _ _ (BitVec.isLt _) h)]
  rcases hd with hd | hd
  · exact fldGet_fldSet_below _ _ _ _ _ _ hd
  · exact fldGet_fldSet_above _ _ _ _ _ _ hd

theorem flag_putB_same (s : Block) (b : Nat) (fl : Fld) (v : Bool) (h : fl.lo + fl.w ≤ 64) (hw : fl.w = 1) :
    (s.putB b fl v).flag b fl = v := by
  unfold Block.flag Block.putB
  rw [f_put_same s b fl _ h, hw]
  cases v <;> rfl

end Sys2Proof.Laws
end

