-- ==== Sys2Proof/Laws/Routing.lean ====
section
/-! SUPPORT. The sets of routing tables that the device holds have no cycle of channels between dies (R465). Within a die a packet goes along
x and then y, which closes no cycle. -/

namespace Sys2Proof.Machine

/-- The dies that a packet crosses from die a on its way to die b, at most k of them. -/
def dieWay (gone : Nat → Bool) (b : Nat) : Nat → Nat → List Nat
  | 0, a => [a]
  | k + 1, a =>
    match nextDie gone a b with
    | none => [a]
    | some n => if a == b then [a] else a :: dieWay gone b k n

/-- The ways of packets from every die in service to every such die and to every site that one reaches. -/
def allWays (gone : Nat → Bool) : List (List Nat) :=
  let live := (upto 5).filter (fun d => !gone d)
  live.flatMap (fun a => live.map (fun b => dieWay gone b 5 a) ++
    (upto 3).filterMap (fun n => (siteVia gone a n).map (fun b => dieWay gone b 5 a)))

/-- Channels between dies that follow one another on some way. -/
def channelPairs (gone : Nat → Bool) : List ((Nat × Nat) × (Nat × Nat)) :=
  (allWays gone).flatMap (fun w => (upto 4).filterMap (fun i =>
    match w[i]?, w[i + 1]?, w[i + 2]? with
    | some a, some b, some c => some ((a, b), (b, c))
    | _, _, _ => none))

/-- Dependencies that remain once those out of a channel on which nothing depends have been taken away k times. -/
def peeled : Nat → List ((Nat × Nat) × (Nat × Nat)) → List ((Nat × Nat) × (Nat × Nat))
  | 0, l => l
  | k + 1, l => peeled k (l.filter (fun x => l.any (fun y => y.2 == x.1)))

/-- Every set of tables that the device holds, with any dies gone that it may have gone, has no cycle of channels between dies (R465). -/
theorem table_sets_acyclic (gone : BitVec 4) (h : setHeld gone [] = true) : peeled 6 (channelPairs (fun d => gone.getLsbD d)) = [] := by
  revert gone
  decide +kernel

end Sys2Proof.Machine
end

