-- ==== Sys2Proof/Laws/State.lean ====
section
/-! SUPPORT. What each named update of the block leaves alone: one lemma per field per update. -/

namespace Sys2Proof.Laws

open Machine

/-! ### setReg -/

@[simp] theorem setReg_out (s : Block) (a : Nat) (v : BitVec 64) : (s.setReg a v).out = s.out := rfl
@[simp] theorem setReg_free (s : Block) (a : Nat) (v : BitVec 64) : (s.setReg a v).free = s.free := rfl
@[simp] theorem setReg_devTime (s : Block) (a : Nat) (v : BitVec 64) : (s.setReg a v).devTime = s.devTime := rfl
@[simp] theorem setReg_start (s : Block) (a : Nat) (v : BitVec 64) : (s.setReg a v).start = s.start := rfl
@[simp] theorem setReg_ring (s : Block) (a : Nat) (v : BitVec 64) : (s.setReg a v).ring = s.ring := rfl
@[simp] theorem setReg_clk (s : Block) (a : Nat) (v : BitVec 64) : (s.setReg a v).clk = s.clk := rfl
@[simp] theorem setReg_seam (s : Block) (a : Nat) (v : BitVec 64) : (s.setReg a v).seam = s.seam := rfl
@[simp] theorem setReg_fab (s : Block) (a : Nat) (v : BitVec 64) : (s.setReg a v).fab = s.fab := rfl
@[simp] theorem setReg_rams (s : Block) (a : Nat) (v : BitVec 64) : (s.setReg a v).rams = s.rams := rfl
@[simp] theorem setReg_once (s : Block) (a : Nat) (v : BitVec 64) : (s.setReg a v).once = s.once := rfl
@[simp] theorem setReg_engines (s : Block) (a : Nat) (v : BitVec 64) : (s.setReg a v).engines = s.engines := rfl
@[simp] theorem setReg_cfg (s : Block) (a : Nat) (v : BitVec 64) : (s.setReg a v).cfg = s.cfg := rfl
@[simp] theorem setReg_shut (s : Block) (a : Nat) (v : BitVec 64) : (s.setReg a v).shut = s.shut := rfl
@[simp] theorem setReg_io (s : Block) (a : Nat) (v : BitVec 64) : (s.setReg a v).io = s.io := rfl
@[simp] theorem setReg_tpps (s : Block) (a : Nat) (v : BitVec 64) : (s.setReg a v).tpps = s.tpps := rfl
@[simp] theorem setReg_lanes (s : Block) (a : Nat) (v : BitVec 64) : (s.setReg a v).lanes = s.lanes := rfl
@[simp] theorem setReg_dcs (s : Block) (a : Nat) (v : BitVec 64) : (s.setReg a v).dcs = s.dcs := rfl
@[simp] theorem setReg_dmap (s : Block) (a : Nat) (v : BitVec 64) : (s.setReg a v).dmap = s.dmap := rfl
@[simp] theorem setReg_lsu (s : Block) (a : Nat) (v : BitVec 64) : (s.setReg a v).lsu = s.lsu := rfl
@[simp] theorem setReg_net (s : Block) (a : Nat) (v : BitVec 64) : (s.setReg a v).net = s.net := rfl
@[simp] theorem setReg_dl (s : Block) (a : Nat) (v : BitVec 64) : (s.setReg a v).dl = s.dl := rfl
@[simp] theorem setReg_qe (s : Block) (a : Nat) (v : BitVec 64) : (s.setReg a v).qe = s.qe := rfl
@[simp] theorem setReg_eic (s : Block) (a : Nat) (v : BitVec 64) : (s.setReg a v).eic = s.eic := rfl
@[simp] theorem setReg_mbx (s : Block) (a : Nat) (v : BitVec 64) : (s.setReg a v).mbx = s.mbx := rfl
@[simp] theorem setReg_ev (s : Block) (a : Nat) (v : BitVec 64) : (s.setReg a v).ev = s.ev := rfl
@[simp] theorem setReg_gr (s : Block) (a : Nat) (v : BitVec 64) : (s.setReg a v).gr = s.gr := rfl
@[simp] theorem setReg_sec (s : Block) (a : Nat) (v : BitVec 64) : (s.setReg a v).sec = s.sec := rfl
@[simp] theorem setReg_fwu (s : Block) (a : Nat) (v : BitVec 64) : (s.setReg a v).fwu = s.fwu := rfl
@[simp] theorem setReg_nv (s : Block) (a : Nat) (v : BitVec 64) : (s.setReg a v).nv = s.nv := rfl
@[simp] theorem setReg_pwr (s : Block) (a : Nat) (v : BitVec 64) : (s.setReg a v).pwr = s.pwr := rfl
@[simp] theorem setReg_tap (s : Block) (a : Nat) (v : BitVec 64) : (s.setReg a v).tap = s.tap := rfl

/-! ### put -/

@[simp] theorem put_out (s : Block) (b : Nat) (fl : Fld) (v : Nat) : (s.put b fl v).out = s.out := rfl
@[simp] theorem put_free (s : Block) (b : Nat) (fl : Fld) (v : Nat) : (s.put b fl v).free = s.free := rfl
@[simp] theorem put_devTime (s : Block) (b : Nat) (fl : Fld) (v : Nat) : (s.put b fl v).devTime = s.devTime := rfl
@[simp] theorem put_start (s : Block) (b : Nat) (fl : Fld) (v : Nat) : (s.put b fl v).start = s.start := rfl
@[simp] theorem put_ring (s : Block) (b : Nat) (fl : Fld) (v : Nat) : (s.put b fl v).ring = s.ring := rfl
@[simp] theorem put_clk (s : Block) (b : Nat) (fl : Fld) (v : Nat) : (s.put b fl v).clk = s.clk := rfl
@[simp] theorem put_seam (s : Block) (b : Nat) (fl : Fld) (v : Nat) : (s.put b fl v).seam = s.seam := rfl
@[simp] theorem put_fab (s : Block) (b : Nat) (fl : Fld) (v : Nat) : (s.put b fl v).fab = s.fab := rfl
@[simp] theorem put_rams (s : Block) (b : Nat) (fl : Fld) (v : Nat) : (s.put b fl v).rams = s.rams := rfl
@[simp] theorem put_once (s : Block) (b : Nat) (fl : Fld) (v : Nat) : (s.put b fl v).once = s.once := rfl
@[simp] theorem put_engines (s : Block) (b : Nat) (fl : Fld) (v : Nat) : (s.put b fl v).engines = s.engines := rfl
@[simp] theorem put_cfg (s : Block) (b : Nat) (fl : Fld) (v : Nat) : (s.put b fl v).cfg = s.cfg := rfl
@[simp] theorem put_shut (s : Block) (b : Nat) (fl : Fld) (v : Nat) : (s.put b fl v).shut = s.shut := rfl
@[simp] theorem put_io (s : Block) (b : Nat) (fl : Fld) (v : Nat) : (s.put b fl v).io = s.io := rfl
@[simp] theorem put_tpps (s : Block) (b : Nat) (fl : Fld) (v : Nat) : (s.put b fl v).tpps = s.tpps := rfl
@[simp] theorem put_lanes (s : Block) (b : Nat) (fl : Fld) (v : Nat) : (s.put b fl v).lanes = s.lanes := rfl
@[simp] theorem put_dcs (s : Block) (b : Nat) (fl : Fld) (v : Nat) : (s.put b fl v).dcs = s.dcs := rfl
@[simp] theorem put_dmap (s : Block) (b : Nat) (fl : Fld) (v : Nat) : (s.put b fl v).dmap = s.dmap := rfl
@[simp] theorem put_lsu (s : Block) (b : Nat) (fl : Fld) (v : Nat) : (s.put b fl v).lsu = s.lsu := rfl
@[simp] theorem put_net (s : Block) (b : Nat) (fl : Fld) (v : Nat) : (s.put b fl v).net = s.net := rfl
@[simp] theorem put_dl (s : Block) (b : Nat) (fl : Fld) (v : Nat) : (s.put b fl v).dl = s.dl := rfl
@[simp] theorem put_qe (s : Block) (b : Nat) (fl : Fld) (v : Nat) : (s.put b fl v).qe = s.qe := rfl
@[simp] theorem put_eic (s : Block) (b : Nat) (fl : Fld) (v : Nat) : (s.put b fl v).eic = s.eic := rfl
@[simp] theorem put_mbx (s : Block) (b : Nat) (fl : Fld) (v : Nat) : (s.put b fl v).mbx = s.mbx := rfl
@[simp] theorem put_ev (s : Block) (b : Nat) (fl : Fld) (v : Nat) : (s.put b fl v).ev = s.ev := rfl
@[simp] theorem put_gr (s : Block) (b : Nat) (fl : Fld) (v : Nat) : (s.put b fl v).gr = s.gr := rfl
@[simp] theorem put_sec (s : Block) (b : Nat) (fl : Fld) (v : Nat) : (s.put b fl v).sec = s.sec := rfl
@[simp] theorem put_fwu (s : Block) (b : Nat) (fl : Fld) (v : Nat) : (s.put b fl v).fwu = s.fwu := rfl
@[simp] theorem put_nv (s : Block) (b : Nat) (fl : Fld) (v : Nat) : (s.put b fl v).nv = s.nv := rfl
@[simp] theorem put_pwr (s : Block) (b : Nat) (fl : Fld) (v : Nat) : (s.put b fl v).pwr = s.pwr := rfl
@[simp] theorem put_tap (s : Block) (b : Nat) (fl : Fld) (v : Nat) : (s.put b fl v).tap = s.tap := rfl

/-! ### putB -/

@[simp] theorem putB_out (s : Block) (b : Nat) (fl : Fld) (v : Bool) : (s.putB b fl v).out = s.out := rfl
@[simp] theorem putB_free (s : Block) (b : Nat) (fl : Fld) (v : Bool) : (s.putB b fl v).free = s.free := rfl
@[simp] theorem putB_devTime (s : Block) (b : Nat) (fl : Fld) (v : Bool) : (s.putB b fl v).devTime = s.devTime := rfl
@[simp] theorem putB_start (s : Block) (b : Nat) (fl : Fld) (v : Bool) : (s.putB b fl v).start = s.start := rfl
@[simp] theorem putB_ring (s : Block) (b : Nat) (fl : Fld) (v : Bool) : (s.putB b fl v).ring = s.ring := rfl
@[simp] theorem putB_clk (s : Block) (b : Nat) (fl : Fld) (v : Bool) : (s.putB b fl v).clk = s.clk := rfl
@[simp] theorem putB_seam (s : Block) (b : Nat) (fl : Fld) (v : Bool) : (s.putB b fl v).seam = s.seam := rfl
@[simp] theorem putB_fab (s : Block) (b : Nat) (fl : Fld) (v : Bool) : (s.putB b fl v).fab = s.fab := rfl
@[simp] theorem putB_rams (s : Block) (b : Nat) (fl : Fld) (v : Bool) : (s.putB b fl v).rams = s.rams := rfl
@[simp] theorem putB_once (s : Block) (b : Nat) (fl : Fld) (v : Bool) : (s.putB b fl v).once = s.once := rfl
@[simp] theorem putB_engines (s : Block) (b : Nat) (fl : Fld) (v : Bool) : (s.putB b fl v).engines = s.engines := rfl
@[simp] theorem putB_cfg (s : Block) (b : Nat) (fl : Fld) (v : Bool) : (s.putB b fl v).cfg = s.cfg := rfl
@[simp] theorem putB_shut (s : Block) (b : Nat) (fl : Fld) (v : Bool) : (s.putB b fl v).shut = s.shut := rfl
@[simp] theorem putB_io (s : Block) (b : Nat) (fl : Fld) (v : Bool) : (s.putB b fl v).io = s.io := rfl
@[simp] theorem putB_tpps (s : Block) (b : Nat) (fl : Fld) (v : Bool) : (s.putB b fl v).tpps = s.tpps := rfl
@[simp] theorem putB_lanes (s : Block) (b : Nat) (fl : Fld) (v : Bool) : (s.putB b fl v).lanes = s.lanes := rfl
@[simp] theorem putB_dcs (s : Block) (b : Nat) (fl : Fld) (v : Bool) : (s.putB b fl v).dcs = s.dcs := rfl
@[simp] theorem putB_dmap (s : Block) (b : Nat) (fl : Fld) (v : Bool) : (s.putB b fl v).dmap = s.dmap := rfl
@[simp] theorem putB_lsu (s : Block) (b : Nat) (fl : Fld) (v : Bool) : (s.putB b fl v).lsu = s.lsu := rfl
@[simp] theorem putB_net (s : Block) (b : Nat) (fl : Fld) (v : Bool) : (s.putB b fl v).net = s.net := rfl
@[simp] theorem putB_dl (s : Block) (b : Nat) (fl : Fld) (v : Bool) : (s.putB b fl v).dl = s.dl := rfl
@[simp] theorem putB_qe (s : Block) (b : Nat) (fl : Fld) (v : Bool) : (s.putB b fl v).qe = s.qe := rfl
@[simp] theorem putB_eic (s : Block) (b : Nat) (fl : Fld) (v : Bool) : (s.putB b fl v).eic = s.eic := rfl
@[simp] theorem putB_mbx (s : Block) (b : Nat) (fl : Fld) (v : Bool) : (s.putB b fl v).mbx = s.mbx := rfl
@[simp] theorem putB_ev (s : Block) (b : Nat) (fl : Fld) (v : Bool) : (s.putB b fl v).ev = s.ev := rfl
@[simp] theorem putB_gr (s : Block) (b : Nat) (fl : Fld) (v : Bool) : (s.putB b fl v).gr = s.gr := rfl
@[simp] theorem putB_sec (s : Block) (b : Nat) (fl : Fld) (v : Bool) : (s.putB b fl v).sec = s.sec := rfl
@[simp] theorem putB_fwu (s : Block) (b : Nat) (fl : Fld) (v : Bool) : (s.putB b fl v).fwu = s.fwu := rfl
@[simp] theorem putB_nv (s : Block) (b : Nat) (fl : Fld) (v : Bool) : (s.putB b fl v).nv = s.nv := rfl
@[simp] theorem putB_pwr (s : Block) (b : Nat) (fl : Fld) (v : Bool) : (s.putB b fl v).pwr = s.pwr := rfl
@[simp] theorem putB_tap (s : Block) (b : Nat) (fl : Fld) (v : Bool) : (s.putB b fl v).tap = s.tap := rfl

/-! ### resetWindows -/

@[simp] theorem resetWindows_out (s : Block) (lo hi : Nat) : (s.resetWindows lo hi).out = s.out := rfl
@[simp] theorem resetWindows_free (s : Block) (lo hi : Nat) : (s.resetWindows lo hi).free = s.free := rfl
@[simp] theorem resetWindows_devTime (s : Block) (lo hi : Nat) : (s.resetWindows lo hi).devTime = s.devTime := rfl
@[simp] theorem resetWindows_start (s : Block) (lo hi : Nat) : (s.resetWindows lo hi).start = s.start := rfl
@[simp] theorem resetWindows_ring (s : Block) (lo hi : Nat) : (s.resetWindows lo hi).ring = s.ring := rfl
@[simp] theorem resetWindows_clk (s : Block) (lo hi : Nat) : (s.resetWindows lo hi).clk = s.clk := rfl
@[simp] theorem resetWindows_seam (s : Block) (lo hi : Nat) : (s.resetWindows lo hi).seam = s.seam := rfl
@[simp] theorem resetWindows_fab (s : Block) (lo hi : Nat) : (s.resetWindows lo hi).fab = s.fab := rfl
@[simp] theorem resetWindows_rams (s : Block) (lo hi : Nat) : (s.resetWindows lo hi).rams = s.rams := rfl
@[simp] theorem resetWindows_once (s : Block) (lo hi : Nat) : (s.resetWindows lo hi).once = s.once := rfl
@[simp] theorem resetWindows_engines (s : Block) (lo hi : Nat) : (s.resetWindows lo hi).engines = s.engines := rfl
@[simp] theorem resetWindows_cfg (s : Block) (lo hi : Nat) : (s.resetWindows lo hi).cfg = s.cfg := rfl
@[simp] theorem resetWindows_shut (s : Block) (lo hi : Nat) : (s.resetWindows lo hi).shut = s.shut := rfl
@[simp] theorem resetWindows_io (s : Block) (lo hi : Nat) : (s.resetWindows lo hi).io = s.io := rfl
@[simp] theorem resetWindows_tpps (s : Block) (lo hi : Nat) : (s.resetWindows lo hi).tpps = s.tpps := rfl
@[simp] theorem resetWindows_lanes (s : Block) (lo hi : Nat) : (s.resetWindows lo hi).lanes = s.lanes := rfl
@[simp] theorem resetWindows_dcs (s : Block) (lo hi : Nat) : (s.resetWindows lo hi).dcs = s.dcs := rfl
@[simp] theorem resetWindows_dmap (s : Block) (lo hi : Nat) : (s.resetWindows lo hi).dmap = s.dmap := rfl
@[simp] theorem resetWindows_lsu (s : Block) (lo hi : Nat) : (s.resetWindows lo hi).lsu = s.lsu := rfl
@[simp] theorem resetWindows_net (s : Block) (lo hi : Nat) : (s.resetWindows lo hi).net = s.net := rfl
@[simp] theorem resetWindows_dl (s : Block) (lo hi : Nat) : (s.resetWindows lo hi).dl = s.dl := rfl
@[simp] theorem resetWindows_qe (s : Block) (lo hi : Nat) : (s.resetWindows lo hi).qe = s.qe := rfl
@[simp] theorem resetWindows_eic (s : Block) (lo hi : Nat) : (s.resetWindows lo hi).eic = s.eic := rfl
@[simp] theorem resetWindows_mbx (s : Block) (lo hi : Nat) : (s.resetWindows lo hi).mbx = s.mbx := rfl
@[simp] theorem resetWindows_ev (s : Block) (lo hi : Nat) : (s.resetWindows lo hi).ev = s.ev := rfl
@[simp] theorem resetWindows_gr (s : Block) (lo hi : Nat) : (s.resetWindows lo hi).gr = s.gr := rfl
@[simp] theorem resetWindows_sec (s : Block) (lo hi : Nat) : (s.resetWindows lo hi).sec = s.sec := rfl
@[simp] theorem resetWindows_fwu (s : Block) (lo hi : Nat) : (s.resetWindows lo hi).fwu = s.fwu := rfl
@[simp] theorem resetWindows_nv (s : Block) (lo hi : Nat) : (s.resetWindows lo hi).nv = s.nv := rfl
@[simp] theorem resetWindows_pwr (s : Block) (lo hi : Nat) : (s.resetWindows lo hi).pwr = s.pwr := rfl
@[simp] theorem resetWindows_tap (s : Block) (lo hi : Nat) : (s.resetWindows lo hi).tap = s.tap := rfl

/-! ### resetRange -/

@[simp] theorem resetRange_out (s : Block) (lo hi : Nat) : (s.resetRange lo hi).out = s.out := rfl
@[simp] theorem resetRange_free (s : Block) (lo hi : Nat) : (s.resetRange lo hi).free = s.free := rfl
@[simp] theorem resetRange_devTime (s : Block) (lo hi : Nat) : (s.resetRange lo hi).devTime = s.devTime := rfl
@[simp] theorem resetRange_start (s : Block) (lo hi : Nat) : (s.resetRange lo hi).start = s.start := rfl
@[simp] theorem resetRange_ring (s : Block) (lo hi : Nat) : (s.resetRange lo hi).ring = s.ring := rfl
@[simp] theorem resetRange_clk (s : Block) (lo hi : Nat) : (s.resetRange lo hi).clk = s.clk := rfl
@[simp] theorem resetRange_seam (s : Block) (lo hi : Nat) : (s.resetRange lo hi).seam = s.seam := rfl
@[simp] theorem resetRange_fab (s : Block) (lo hi : Nat) : (s.resetRange lo hi).fab = s.fab := rfl
@[simp] theorem resetRange_rams (s : Block) (lo hi : Nat) : (s.resetRange lo hi).rams = s.rams := rfl
@[simp] theorem resetRange_once (s : Block) (lo hi : Nat) : (s.resetRange lo hi).once = s.once := rfl
@[simp] theorem resetRange_engines (s : Block) (lo hi : Nat) : (s.resetRange lo hi).engines = s.engines := rfl
@[simp] theorem resetRange_cfg (s : Block) (lo hi : Nat) : (s.resetRange lo hi).cfg = s.cfg := rfl
@[simp] theorem resetRange_shut (s : Block) (lo hi : Nat) : (s.resetRange lo hi).shut = s.shut := rfl
@[simp] theorem resetRange_io (s : Block) (lo hi : Nat) : (s.resetRange lo hi).io = s.io := rfl
@[simp] theorem resetRange_tpps (s : Block) (lo hi : Nat) : (s.resetRange lo hi).tpps = s.tpps := rfl
@[simp] theorem resetRange_lanes (s : Block) (lo hi : Nat) : (s.resetRange lo hi).lanes = s.lanes := rfl
@[simp] theorem resetRange_dcs (s : Block) (lo hi : Nat) : (s.resetRange lo hi).dcs = s.dcs := rfl
@[simp] theorem resetRange_dmap (s : Block) (lo hi : Nat) : (s.resetRange lo hi).dmap = s.dmap := rfl
@[simp] theorem resetRange_lsu (s : Block) (lo hi : Nat) : (s.resetRange lo hi).lsu = s.lsu := rfl
@[simp] theorem resetRange_net (s : Block) (lo hi : Nat) : (s.resetRange lo hi).net = s.net := rfl
@[simp] theorem resetRange_dl (s : Block) (lo hi : Nat) : (s.resetRange lo hi).dl = s.dl := rfl
@[simp] theorem resetRange_qe (s : Block) (lo hi : Nat) : (s.resetRange lo hi).qe = s.qe := rfl
@[simp] theorem resetRange_eic (s : Block) (lo hi : Nat) : (s.resetRange lo hi).eic = s.eic := rfl
@[simp] theorem resetRange_mbx (s : Block) (lo hi : Nat) : (s.resetRange lo hi).mbx = s.mbx := rfl
@[simp] theorem resetRange_ev (s : Block) (lo hi : Nat) : (s.resetRange lo hi).ev = s.ev := rfl
@[simp] theorem resetRange_gr (s : Block) (lo hi : Nat) : (s.resetRange lo hi).gr = s.gr := rfl
@[simp] theorem resetRange_sec (s : Block) (lo hi : Nat) : (s.resetRange lo hi).sec = s.sec := rfl
@[simp] theorem resetRange_fwu (s : Block) (lo hi : Nat) : (s.resetRange lo hi).fwu = s.fwu := rfl
@[simp] theorem resetRange_nv (s : Block) (lo hi : Nat) : (s.resetRange lo hi).nv = s.nv := rfl
@[simp] theorem resetRange_pwr (s : Block) (lo hi : Nat) : (s.resetRange lo hi).pwr = s.pwr := rfl
@[simp] theorem resetRange_tap (s : Block) (lo hi : Nat) : (s.resetRange lo hi).tap = s.tap := rfl

/-! ### emit -/

@[simp] theorem emit_free (s : Block) (o : Out) : (s.emit o).free = s.free := rfl
@[simp] theorem emit_devTime (s : Block) (o : Out) : (s.emit o).devTime = s.devTime := rfl
@[simp] theorem emit_regs (s : Block) (o : Out) : (s.emit o).regs = s.regs := rfl
@[simp] theorem emit_start (s : Block) (o : Out) : (s.emit o).start = s.start := rfl
@[simp] theorem emit_ring (s : Block) (o : Out) : (s.emit o).ring = s.ring := rfl
@[simp] theorem emit_clk (s : Block) (o : Out) : (s.emit o).clk = s.clk := rfl
@[simp] theorem emit_seam (s : Block) (o : Out) : (s.emit o).seam = s.seam := rfl
@[simp] theorem emit_fab (s : Block) (o : Out) : (s.emit o).fab = s.fab := rfl
@[simp] theorem emit_rams (s : Block) (o : Out) : (s.emit o).rams = s.rams := rfl
@[simp] theorem emit_once (s : Block) (o : Out) : (s.emit o).once = s.once := rfl
@[simp] theorem emit_engines (s : Block) (o : Out) : (s.emit o).engines = s.engines := rfl
@[simp] theorem emit_cfg (s : Block) (o : Out) : (s.emit o).cfg = s.cfg := rfl
@[simp] theorem emit_shut (s : Block) (o : Out) : (s.emit o).shut = s.shut := rfl
@[simp] theorem emit_io (s : Block) (o : Out) : (s.emit o).io = s.io := rfl
@[simp] theorem emit_tpps (s : Block) (o : Out) : (s.emit o).tpps = s.tpps := rfl
@[simp] theorem emit_lanes (s : Block) (o : Out) : (s.emit o).lanes = s.lanes := rfl
@[simp] theorem emit_dcs (s : Block) (o : Out) : (s.emit o).dcs = s.dcs := rfl
@[simp] theorem emit_dmap (s : Block) (o : Out) : (s.emit o).dmap = s.dmap := rfl
@[simp] theorem emit_lsu (s : Block) (o : Out) : (s.emit o).lsu = s.lsu := rfl
@[simp] theorem emit_net (s : Block) (o : Out) : (s.emit o).net = s.net := rfl
@[simp] theorem emit_dl (s : Block) (o : Out) : (s.emit o).dl = s.dl := rfl
@[simp] theorem emit_qe (s : Block) (o : Out) : (s.emit o).qe = s.qe := rfl
@[simp] theorem emit_eic (s : Block) (o : Out) : (s.emit o).eic = s.eic := rfl
@[simp] theorem emit_mbx (s : Block) (o : Out) : (s.emit o).mbx = s.mbx := rfl
@[simp] theorem emit_ev (s : Block) (o : Out) : (s.emit o).ev = s.ev := rfl
@[simp] theorem emit_gr (s : Block) (o : Out) : (s.emit o).gr = s.gr := rfl
@[simp] theorem emit_sec (s : Block) (o : Out) : (s.emit o).sec = s.sec := rfl
@[simp] theorem emit_fwu (s : Block) (o : Out) : (s.emit o).fwu = s.fwu := rfl
@[simp] theorem emit_nv (s : Block) (o : Out) : (s.emit o).nv = s.nv := rfl
@[simp] theorem emit_pwr (s : Block) (o : Out) : (s.emit o).pwr = s.pwr := rfl
@[simp] theorem emit_tap (s : Block) (o : Out) : (s.emit o).tap = s.tap := rfl

/-! ### raiseAt -/

@[simp] theorem raiseAt_out (s : Block) (t : BitVec 64) (c o d e : Nat) : (s.raiseAt t c o d e).out = s.out := rfl
@[simp] theorem raiseAt_free (s : Block) (t : BitVec 64) (c o d e : Nat) : (s.raiseAt t c o d e).free = s.free := rfl
@[simp] theorem raiseAt_devTime (s : Block) (t : BitVec 64) (c o d e : Nat) : (s.raiseAt t c o d e).devTime = s.devTime := rfl
@[simp] theorem raiseAt_regs (s : Block) (t : BitVec 64) (c o d e : Nat) : (s.raiseAt t c o d e).regs = s.regs := rfl
@[simp] theorem raiseAt_start (s : Block) (t : BitVec 64) (c o d e : Nat) : (s.raiseAt t c o d e).start = s.start := rfl
@[simp] theorem raiseAt_ring (s : Block) (t : BitVec 64) (c o d e : Nat) : (s.raiseAt t c o d e).ring = s.ring := rfl
@[simp] theorem raiseAt_clk (s : Block) (t : BitVec 64) (c o d e : Nat) : (s.raiseAt t c o d e).clk = s.clk := rfl
@[simp] theorem raiseAt_seam (s : Block) (t : BitVec 64) (c o d e : Nat) : (s.raiseAt t c o d e).seam = s.seam := rfl
@[simp] theorem raiseAt_fab (s : Block) (t : BitVec 64) (c o d e : Nat) : (s.raiseAt t c o d e).fab = s.fab := rfl
@[simp] theorem raiseAt_rams (s : Block) (t : BitVec 64) (c o d e : Nat) : (s.raiseAt t c o d e).rams = s.rams := rfl
@[simp] theorem raiseAt_once (s : Block) (t : BitVec 64) (c o d e : Nat) : (s.raiseAt t c o d e).once = s.once := rfl
@[simp] theorem raiseAt_engines (s : Block) (t : BitVec 64) (c o d e : Nat) : (s.raiseAt t c o d e).engines = s.engines := rfl
@[simp] theorem raiseAt_cfg (s : Block) (t : BitVec 64) (c o d e : Nat) : (s.raiseAt t c o d e).cfg = s.cfg := rfl
@[simp] theorem raiseAt_shut (s : Block) (t : BitVec 64) (c o d e : Nat) : (s.raiseAt t c o d e).shut = s.shut := rfl
@[simp] theorem raiseAt_io (s : Block) (t : BitVec 64) (c o d e : Nat) : (s.raiseAt t c o d e).io = s.io := rfl
@[simp] theorem raiseAt_tpps (s : Block) (t : BitVec 64) (c o d e : Nat) : (s.raiseAt t c o d e).tpps = s.tpps := rfl
@[simp] theorem raiseAt_lanes (s : Block) (t : BitVec 64) (c o d e : Nat) : (s.raiseAt t c o d e).lanes = s.lanes := rfl
@[simp] theorem raiseAt_dcs (s : Block) (t : BitVec 64) (c o d e : Nat) : (s.raiseAt t c o d e).dcs = s.dcs := rfl
@[simp] theorem raiseAt_dmap (s : Block) (t : BitVec 64) (c o d e : Nat) : (s.raiseAt t c o d e).dmap = s.dmap := rfl
@[simp] theorem raiseAt_lsu (s : Block) (t : BitVec 64) (c o d e : Nat) : (s.raiseAt t c o d e).lsu = s.lsu := rfl
@[simp] theorem raiseAt_net (s : Block) (t : BitVec 64) (c o d e : Nat) : (s.raiseAt t c o d e).net = s.net := rfl
@[simp] theorem raiseAt_dl (s : Block) (t : BitVec 64) (c o d e : Nat) : (s.raiseAt t c o d e).dl = s.dl := rfl
@[simp] theorem raiseAt_qe (s : Block) (t : BitVec 64) (c o d e : Nat) : (s.raiseAt t c o d e).qe = s.qe := rfl
@[simp] theorem raiseAt_eic (s : Block) (t : BitVec 64) (c o d e : Nat) : (s.raiseAt t c o d e).eic = s.eic := rfl
@[simp] theorem raiseAt_mbx (s : Block) (t : BitVec 64) (c o d e : Nat) : (s.raiseAt t c o d e).mbx = s.mbx := rfl
@[simp] theorem raiseAt_gr (s : Block) (t : BitVec 64) (c o d e : Nat) : (s.raiseAt t c o d e).gr = s.gr := rfl
@[simp] theorem raiseAt_sec (s : Block) (t : BitVec 64) (c o d e : Nat) : (s.raiseAt t c o d e).sec = s.sec := rfl
@[simp] theorem raiseAt_fwu (s : Block) (t : BitVec 64) (c o d e : Nat) : (s.raiseAt t c o d e).fwu = s.fwu := rfl
@[simp] theorem raiseAt_nv (s : Block) (t : BitVec 64) (c o d e : Nat) : (s.raiseAt t c o d e).nv = s.nv := rfl
@[simp] theorem raiseAt_pwr (s : Block) (t : BitVec 64) (c o d e : Nat) : (s.raiseAt t c o d e).pwr = s.pwr := rfl
@[simp] theorem raiseAt_tap (s : Block) (t : BitVec 64) (c o d e : Nat) : (s.raiseAt t c o d e).tap = s.tap := rfl

/-! ### raise -/

@[simp] theorem raise_out (s : Block) (c o d e : Nat) : (s.raise c o d e).out = s.out := rfl
@[simp] theorem raise_free (s : Block) (c o d e : Nat) : (s.raise c o d e).free = s.free := rfl
@[simp] theorem raise_devTime (s : Block) (c o d e : Nat) : (s.raise c o d e).devTime = s.devTime := rfl
@[simp] theorem raise_regs (s : Block) (c o d e : Nat) : (s.raise c o d e).regs = s.regs := rfl
@[simp] theorem raise_start (s : Block) (c o d e : Nat) : (s.raise c o d e).start = s.start := rfl
@[simp] theorem raise_ring (s : Block) (c o d e : Nat) : (s.raise c o d e).ring = s.ring := rfl
@[simp] theorem raise_clk (s : Block) (c o d e : Nat) : (s.raise c o d e).clk = s.clk := rfl
@[simp] theorem raise_seam (s : Block) (c o d e : Nat) : (s.raise c o d e).seam = s.seam := rfl
@[simp] theorem raise_fab (s : Block) (c o d e : Nat) : (s.raise c o d e).fab = s.fab := rfl
@[simp] theorem raise_rams (s : Block) (c o d e : Nat) : (s.raise c o d e).rams = s.rams := rfl
@[simp] theorem raise_once (s : Block) (c o d e : Nat) : (s.raise c o d e).once = s.once := rfl
@[simp] theorem raise_engines (s : Block) (c o d e : Nat) : (s.raise c o d e).engines = s.engines := rfl
@[simp] theorem raise_cfg (s : Block) (c o d e : Nat) : (s.raise c o d e).cfg = s.cfg := rfl
@[simp] theorem raise_shut (s : Block) (c o d e : Nat) : (s.raise c o d e).shut = s.shut := rfl
@[simp] theorem raise_io (s : Block) (c o d e : Nat) : (s.raise c o d e).io = s.io := rfl
@[simp] theorem raise_tpps (s : Block) (c o d e : Nat) : (s.raise c o d e).tpps = s.tpps := rfl
@[simp] theorem raise_lanes (s : Block) (c o d e : Nat) : (s.raise c o d e).lanes = s.lanes := rfl
@[simp] theorem raise_dcs (s : Block) (c o d e : Nat) : (s.raise c o d e).dcs = s.dcs := rfl
@[simp] theorem raise_dmap (s : Block) (c o d e : Nat) : (s.raise c o d e).dmap = s.dmap := rfl
@[simp] theorem raise_lsu (s : Block) (c o d e : Nat) : (s.raise c o d e).lsu = s.lsu := rfl
@[simp] theorem raise_net (s : Block) (c o d e : Nat) : (s.raise c o d e).net = s.net := rfl
@[simp] theorem raise_dl (s : Block) (c o d e : Nat) : (s.raise c o d e).dl = s.dl := rfl
@[simp] theorem raise_qe (s : Block) (c o d e : Nat) : (s.raise c o d e).qe = s.qe := rfl
@[simp] theorem raise_eic (s : Block) (c o d e : Nat) : (s.raise c o d e).eic = s.eic := rfl
@[simp] theorem raise_mbx (s : Block) (c o d e : Nat) : (s.raise c o d e).mbx = s.mbx := rfl
@[simp] theorem raise_gr (s : Block) (c o d e : Nat) : (s.raise c o d e).gr = s.gr := rfl
@[simp] theorem raise_sec (s : Block) (c o d e : Nat) : (s.raise c o d e).sec = s.sec := rfl
@[simp] theorem raise_fwu (s : Block) (c o d e : Nat) : (s.raise c o d e).fwu = s.fwu := rfl
@[simp] theorem raise_nv (s : Block) (c o d e : Nat) : (s.raise c o d e).nv = s.nv := rfl
@[simp] theorem raise_pwr (s : Block) (c o d e : Nat) : (s.raise c o d e).pwr = s.pwr := rfl
@[simp] theorem raise_tap (s : Block) (c o d e : Nat) : (s.raise c o d e).tap = s.tap := rfl

/-! ### hold -/

@[simp] theorem hold_out (s : Block) (c : Cmd) (op obj : Nat) : (s.hold c op obj).out = s.out := rfl
@[simp] theorem hold_free (s : Block) (c : Cmd) (op obj : Nat) : (s.hold c op obj).free = s.free := rfl
@[simp] theorem hold_devTime (s : Block) (c : Cmd) (op obj : Nat) : (s.hold c op obj).devTime = s.devTime := rfl
@[simp] theorem hold_regs (s : Block) (c : Cmd) (op obj : Nat) : (s.hold c op obj).regs = s.regs := rfl
@[simp] theorem hold_start (s : Block) (c : Cmd) (op obj : Nat) : (s.hold c op obj).start = s.start := rfl
@[simp] theorem hold_ring (s : Block) (c : Cmd) (op obj : Nat) : (s.hold c op obj).ring = s.ring := rfl
@[simp] theorem hold_clk (s : Block) (c : Cmd) (op obj : Nat) : (s.hold c op obj).clk = s.clk := rfl
@[simp] theorem hold_seam (s : Block) (c : Cmd) (op obj : Nat) : (s.hold c op obj).seam = s.seam := rfl
@[simp] theorem hold_fab (s : Block) (c : Cmd) (op obj : Nat) : (s.hold c op obj).fab = s.fab := rfl
@[simp] theorem hold_rams (s : Block) (c : Cmd) (op obj : Nat) : (s.hold c op obj).rams = s.rams := rfl
@[simp] theorem hold_once (s : Block) (c : Cmd) (op obj : Nat) : (s.hold c op obj).once = s.once := rfl
@[simp] theorem hold_engines (s : Block) (c : Cmd) (op obj : Nat) : (s.hold c op obj).engines = s.engines := rfl
@[simp] theorem hold_cfg (s : Block) (c : Cmd) (op obj : Nat) : (s.hold c op obj).cfg = s.cfg := rfl
@[simp] theorem hold_shut (s : Block) (c : Cmd) (op obj : Nat) : (s.hold c op obj).shut = s.shut := rfl
@[simp] theorem hold_io (s : Block) (c : Cmd) (op obj : Nat) : (s.hold c op obj).io = s.io := rfl
@[simp] theorem hold_tpps (s : Block) (c : Cmd) (op obj : Nat) : (s.hold c op obj).tpps = s.tpps := rfl
@[simp] theorem hold_lanes (s : Block) (c : Cmd) (op obj : Nat) : (s.hold c op obj).lanes = s.lanes := rfl
@[simp] theorem hold_dcs (s : Block) (c : Cmd) (op obj : Nat) : (s.hold c op obj).dcs = s.dcs := rfl
@[simp] theorem hold_dmap (s : Block) (c : Cmd) (op obj : Nat) : (s.hold c op obj).dmap = s.dmap := rfl
@[simp] theorem hold_lsu (s : Block) (c : Cmd) (op obj : Nat) : (s.hold c op obj).lsu = s.lsu := rfl
@[simp] theorem hold_net (s : Block) (c : Cmd) (op obj : Nat) : (s.hold c op obj).net = s.net := rfl
@[simp] theorem hold_dl (s : Block) (c : Cmd) (op obj : Nat) : (s.hold c op obj).dl = s.dl := rfl
@[simp] theorem hold_qe (s : Block) (c : Cmd) (op obj : Nat) : (s.hold c op obj).qe = s.qe := rfl
@[simp] theorem hold_eic (s : Block) (c : Cmd) (op obj : Nat) : (s.hold c op obj).eic = s.eic := rfl
@[simp] theorem hold_ev (s : Block) (c : Cmd) (op obj : Nat) : (s.hold c op obj).ev = s.ev := rfl
@[simp] theorem hold_gr (s : Block) (c : Cmd) (op obj : Nat) : (s.hold c op obj).gr = s.gr := rfl
@[simp] theorem hold_sec (s : Block) (c : Cmd) (op obj : Nat) : (s.hold c op obj).sec = s.sec := rfl
@[simp] theorem hold_fwu (s : Block) (c : Cmd) (op obj : Nat) : (s.hold c op obj).fwu = s.fwu := rfl
@[simp] theorem hold_nv (s : Block) (c : Cmd) (op obj : Nat) : (s.hold c op obj).nv = s.nv := rfl
@[simp] theorem hold_pwr (s : Block) (c : Cmd) (op obj : Nat) : (s.hold c op obj).pwr = s.pwr := rfl
@[simp] theorem hold_tap (s : Block) (c : Cmd) (op obj : Nat) : (s.hold c op obj).tap = s.tap := rfl

/-! ### eicEdge -/

@[simp] theorem eicEdge_out (s : Block) (n : Nat) : (s.eicEdge n).out = s.out := by unfold Block.eicEdge; split <;> rfl
@[simp] theorem eicEdge_free (s : Block) (n : Nat) : (s.eicEdge n).free = s.free := by unfold Block.eicEdge; split <;> rfl
@[simp] theorem eicEdge_devTime (s : Block) (n : Nat) : (s.eicEdge n).devTime = s.devTime := by unfold Block.eicEdge; split <;> rfl
@[simp] theorem eicEdge_start (s : Block) (n : Nat) : (s.eicEdge n).start = s.start := by unfold Block.eicEdge; split <;> rfl
@[simp] theorem eicEdge_ring (s : Block) (n : Nat) : (s.eicEdge n).ring = s.ring := by unfold Block.eicEdge; split <;> rfl
@[simp] theorem eicEdge_clk (s : Block) (n : Nat) : (s.eicEdge n).clk = s.clk := by unfold Block.eicEdge; split <;> rfl
@[simp] theorem eicEdge_seam (s : Block) (n : Nat) : (s.eicEdge n).seam = s.seam := by unfold Block.eicEdge; split <;> rfl
@[simp] theorem eicEdge_fab (s : Block) (n : Nat) : (s.eicEdge n).fab = s.fab := by unfold Block.eicEdge; split <;> rfl
@[simp] theorem eicEdge_rams (s : Block) (n : Nat) : (s.eicEdge n).rams = s.rams := by unfold Block.eicEdge; split <;> rfl
@[simp] theorem eicEdge_once (s : Block) (n : Nat) : (s.eicEdge n).once = s.once := by unfold Block.eicEdge; split <;> rfl
@[simp] theorem eicEdge_engines (s : Block) (n : Nat) : (s.eicEdge n).engines = s.engines := by unfold Block.eicEdge; split <;> rfl
@[simp] theorem eicEdge_cfg (s : Block) (n : Nat) : (s.eicEdge n).cfg = s.cfg := by unfold Block.eicEdge; split <;> rfl
@[simp] theorem eicEdge_shut (s : Block) (n : Nat) : (s.eicEdge n).shut = s.shut := by unfold Block.eicEdge; split <;> rfl
@[simp] theorem eicEdge_io (s : Block) (n : Nat) : (s.eicEdge n).io = s.io := by unfold Block.eicEdge; split <;> rfl
@[simp] theorem eicEdge_tpps (s : Block) (n : Nat) : (s.eicEdge n).tpps = s.tpps := by unfold Block.eicEdge; split <;> rfl
@[simp] theorem eicEdge_lanes (s : Block) (n : Nat) : (s.eicEdge n).lanes = s.lanes := by unfold Block.eicEdge; split <;> rfl
@[simp] theorem eicEdge_dcs (s : Block) (n : Nat) : (s.eicEdge n).dcs = s.dcs := by unfold Block.eicEdge; split <;> rfl
@[simp] theorem eicEdge_dmap (s : Block) (n : Nat) : (s.eicEdge n).dmap = s.dmap := by unfold Block.eicEdge; split <;> rfl
@[simp] theorem eicEdge_lsu (s : Block) (n : Nat) : (s.eicEdge n).lsu = s.lsu := by unfold Block.eicEdge; split <;> rfl
@[simp] theorem eicEdge_net (s : Block) (n : Nat) : (s.eicEdge n).net = s.net := by unfold Block.eicEdge; split <;> rfl
@[simp] theorem eicEdge_dl (s : Block) (n : Nat) : (s.eicEdge n).dl = s.dl := by unfold Block.eicEdge; split <;> rfl
@[simp] theorem eicEdge_qe (s : Block) (n : Nat) : (s.eicEdge n).qe = s.qe := by unfold Block.eicEdge; split <;> rfl
@[simp] theorem eicEdge_eic (s : Block) (n : Nat) : (s.eicEdge n).eic = s.eic := by unfold Block.eicEdge; split <;> rfl
@[simp] theorem eicEdge_mbx (s : Block) (n : Nat) : (s.eicEdge n).mbx = s.mbx := by unfold Block.eicEdge; split <;> rfl
@[simp] theorem eicEdge_ev (s : Block) (n : Nat) : (s.eicEdge n).ev = s.ev := by unfold Block.eicEdge; split <;> rfl
@[simp] theorem eicEdge_gr (s : Block) (n : Nat) : (s.eicEdge n).gr = s.gr := by unfold Block.eicEdge; split <;> rfl
@[simp] theorem eicEdge_sec (s : Block) (n : Nat) : (s.eicEdge n).sec = s.sec := by unfold Block.eicEdge; split <;> rfl
@[simp] theorem eicEdge_fwu (s : Block) (n : Nat) : (s.eicEdge n).fwu = s.fwu := by unfold Block.eicEdge; split <;> rfl
@[simp] theorem eicEdge_nv (s : Block) (n : Nat) : (s.eicEdge n).nv = s.nv := by unfold Block.eicEdge; split <;> rfl
@[simp] theorem eicEdge_pwr (s : Block) (n : Nat) : (s.eicEdge n).pwr = s.pwr := by unfold Block.eicEdge; split <;> rfl
@[simp] theorem eicEdge_tap (s : Block) (n : Nat) : (s.eicEdge n).tap = s.tap := by unfold Block.eicEdge; split <;> rfl

/-! ### settleBarrier -/

@[simp] theorem settleBarrier_out (s : Block) (p : Port) : (settleBarrier p s).out = s.out := by unfold settleBarrier; split <;> (try split) <;> rfl
@[simp] theorem settleBarrier_free (s : Block) (p : Port) : (settleBarrier p s).free = s.free := by unfold settleBarrier; split <;> (try split) <;> rfl
@[simp] theorem settleBarrier_devTime (s : Block) (p : Port) : (settleBarrier p s).devTime = s.devTime := by unfold settleBarrier; split <;> (try split) <;> rfl
@[simp] theorem settleBarrier_regs (s : Block) (p : Port) : (settleBarrier p s).regs = s.regs := by unfold settleBarrier; split <;> (try split) <;> rfl
@[simp] theorem settleBarrier_start (s : Block) (p : Port) : (settleBarrier p s).start = s.start := by unfold settleBarrier; split <;> (try split) <;> rfl
@[simp] theorem settleBarrier_ring (s : Block) (p : Port) : (settleBarrier p s).ring = s.ring := by unfold settleBarrier; split <;> (try split) <;> rfl
@[simp] theorem settleBarrier_clk (s : Block) (p : Port) : (settleBarrier p s).clk = s.clk := by unfold settleBarrier; split <;> (try split) <;> rfl
@[simp] theorem settleBarrier_seam (s : Block) (p : Port) : (settleBarrier p s).seam = s.seam := by unfold settleBarrier; split <;> (try split) <;> rfl
@[simp] theorem settleBarrier_fab (s : Block) (p : Port) : (settleBarrier p s).fab = s.fab := by unfold settleBarrier; split <;> (try split) <;> rfl
@[simp] theorem settleBarrier_rams (s : Block) (p : Port) : (settleBarrier p s).rams = s.rams := by unfold settleBarrier; split <;> (try split) <;> rfl
@[simp] theorem settleBarrier_once (s : Block) (p : Port) : (settleBarrier p s).once = s.once := by unfold settleBarrier; split <;> (try split) <;> rfl
@[simp] theorem settleBarrier_engines (s : Block) (p : Port) : (settleBarrier p s).engines = s.engines := by unfold settleBarrier; split <;> (try split) <;> rfl
@[simp] theorem settleBarrier_cfg (s : Block) (p : Port) : (settleBarrier p s).cfg = s.cfg := by unfold settleBarrier; split <;> (try split) <;> rfl
@[simp] theorem settleBarrier_shut (s : Block) (p : Port) : (settleBarrier p s).shut = s.shut := by unfold settleBarrier; split <;> (try split) <;> rfl
@[simp] theorem settleBarrier_io (s : Block) (p : Port) : (settleBarrier p s).io = s.io := by unfold settleBarrier; split <;> (try split) <;> rfl
@[simp] theorem settleBarrier_tpps (s : Block) (p : Port) : (settleBarrier p s).tpps = s.tpps := by unfold settleBarrier; split <;> (try split) <;> rfl
@[simp] theorem settleBarrier_lanes (s : Block) (p : Port) : (settleBarrier p s).lanes = s.lanes := by unfold settleBarrier; split <;> (try split) <;> rfl
@[simp] theorem settleBarrier_dcs (s : Block) (p : Port) : (settleBarrier p s).dcs = s.dcs := by unfold settleBarrier; split <;> (try split) <;> rfl
@[simp] theorem settleBarrier_dmap (s : Block) (p : Port) : (settleBarrier p s).dmap = s.dmap := by unfold settleBarrier; split <;> (try split) <;> rfl
@[simp] theorem settleBarrier_lsu (s : Block) (p : Port) : (settleBarrier p s).lsu = s.lsu := by unfold settleBarrier; split <;> (try split) <;> rfl
@[simp] theorem settleBarrier_net (s : Block) (p : Port) : (settleBarrier p s).net = s.net := by unfold settleBarrier; split <;> (try split) <;> rfl
@[simp] theorem settleBarrier_dl (s : Block) (p : Port) : (settleBarrier p s).dl = s.dl := by unfold settleBarrier; split <;> (try split) <;> rfl
@[simp] theorem settleBarrier_qe (s : Block) (p : Port) : (settleBarrier p s).qe = s.qe := by unfold settleBarrier; split <;> (try split) <;> rfl
@[simp] theorem settleBarrier_eic (s : Block) (p : Port) : (settleBarrier p s).eic = s.eic := by unfold settleBarrier; split <;> (try split) <;> rfl
@[simp] theorem settleBarrier_ev (s : Block) (p : Port) : (settleBarrier p s).ev = s.ev := by unfold settleBarrier; split <;> (try split) <;> rfl
@[simp] theorem settleBarrier_gr (s : Block) (p : Port) : (settleBarrier p s).gr = s.gr := by unfold settleBarrier; split <;> (try split) <;> rfl
@[simp] theorem settleBarrier_sec (s : Block) (p : Port) : (settleBarrier p s).sec = s.sec := by unfold settleBarrier; split <;> (try split) <;> rfl
@[simp] theorem settleBarrier_fwu (s : Block) (p : Port) : (settleBarrier p s).fwu = s.fwu := by unfold settleBarrier; split <;> (try split) <;> rfl
@[simp] theorem settleBarrier_nv (s : Block) (p : Port) : (settleBarrier p s).nv = s.nv := by unfold settleBarrier; split <;> (try split) <;> rfl
@[simp] theorem settleBarrier_pwr (s : Block) (p : Port) : (settleBarrier p s).pwr = s.pwr := by unfold settleBarrier; split <;> (try split) <;> rfl
@[simp] theorem settleBarrier_tap (s : Block) (p : Port) : (settleBarrier p s).tap = s.tap := by unfold settleBarrier; split <;> (try split) <;> rfl

/-! ### respond -/

@[simp] theorem respond_out (s : Block) (c : Cmd) (st : Nat) (r : List (Nat × Nat)) : (s.respond c st r).out = s.out := by unfold Block.respond; simp
@[simp] theorem respond_free (s : Block) (c : Cmd) (st : Nat) (r : List (Nat × Nat)) : (s.respond c st r).free = s.free := by unfold Block.respond; simp
@[simp] theorem respond_devTime (s : Block) (c : Cmd) (st : Nat) (r : List (Nat × Nat)) : (s.respond c st r).devTime = s.devTime := by unfold Block.respond; simp
@[simp] theorem respond_regs (s : Block) (c : Cmd) (st : Nat) (r : List (Nat × Nat)) : (s.respond c st r).regs = s.regs := by unfold Block.respond; simp
@[simp] theorem respond_start (s : Block) (c : Cmd) (st : Nat) (r : List (Nat × Nat)) : (s.respond c st r).start = s.start := by unfold Block.respond; simp
@[simp] theorem respond_ring (s : Block) (c : Cmd) (st : Nat) (r : List (Nat × Nat)) : (s.respond c st r).ring = s.ring := by unfold Block.respond; simp
@[simp] theorem respond_clk (s : Block) (c : Cmd) (st : Nat) (r : List (Nat × Nat)) : (s.respond c st r).clk = s.clk := by unfold Block.respond; simp
@[simp] theorem respond_seam (s : Block) (c : Cmd) (st : Nat) (r : List (Nat × Nat)) : (s.respond c st r).seam = s.seam := by unfold Block.respond; simp
@[simp] theorem respond_fab (s : Block) (c : Cmd) (st : Nat) (r : List (Nat × Nat)) : (s.respond c st r).fab = s.fab := by unfold Block.respond; simp
@[simp] theorem respond_rams (s : Block) (c : Cmd) (st : Nat) (r : List (Nat × Nat)) : (s.respond c st r).rams = s.rams := by unfold Block.respond; simp
@[simp] theorem respond_once (s : Block) (c : Cmd) (st : Nat) (r : List (Nat × Nat)) : (s.respond c st r).once = s.once := by unfold Block.respond; simp
@[simp] theorem respond_engines (s : Block) (c : Cmd) (st : Nat) (r : List (Nat × Nat)) : (s.respond c st r).engines = s.engines := by unfold Block.respond; simp
@[simp] theorem respond_cfg (s : Block) (c : Cmd) (st : Nat) (r : List (Nat × Nat)) : (s.respond c st r).cfg = s.cfg := by unfold Block.respond; simp
@[simp] theorem respond_shut (s : Block) (c : Cmd) (st : Nat) (r : List (Nat × Nat)) : (s.respond c st r).shut = s.shut := by unfold Block.respond; simp
@[simp] theorem respond_io (s : Block) (c : Cmd) (st : Nat) (r : List (Nat × Nat)) : (s.respond c st r).io = s.io := by unfold Block.respond; simp
@[simp] theorem respond_tpps (s : Block) (c : Cmd) (st : Nat) (r : List (Nat × Nat)) : (s.respond c st r).tpps = s.tpps := by unfold Block.respond; simp
@[simp] theorem respond_lanes (s : Block) (c : Cmd) (st : Nat) (r : List (Nat × Nat)) : (s.respond c st r).lanes = s.lanes := by unfold Block.respond; simp
@[simp] theorem respond_dcs (s : Block) (c : Cmd) (st : Nat) (r : List (Nat × Nat)) : (s.respond c st r).dcs = s.dcs := by unfold Block.respond; simp
@[simp] theorem respond_dmap (s : Block) (c : Cmd) (st : Nat) (r : List (Nat × Nat)) : (s.respond c st r).dmap = s.dmap := by unfold Block.respond; simp
@[simp] theorem respond_lsu (s : Block) (c : Cmd) (st : Nat) (r : List (Nat × Nat)) : (s.respond c st r).lsu = s.lsu := by unfold Block.respond; simp
@[simp] theorem respond_net (s : Block) (c : Cmd) (st : Nat) (r : List (Nat × Nat)) : (s.respond c st r).net = s.net := by unfold Block.respond; simp
@[simp] theorem respond_dl (s : Block) (c : Cmd) (st : Nat) (r : List (Nat × Nat)) : (s.respond c st r).dl = s.dl := by unfold Block.respond; simp
@[simp] theorem respond_qe (s : Block) (c : Cmd) (st : Nat) (r : List (Nat × Nat)) : (s.respond c st r).qe = s.qe := by unfold Block.respond; simp
@[simp] theorem respond_eic (s : Block) (c : Cmd) (st : Nat) (r : List (Nat × Nat)) : (s.respond c st r).eic = s.eic := by unfold Block.respond; simp
@[simp] theorem respond_ev (s : Block) (c : Cmd) (st : Nat) (r : List (Nat × Nat)) : (s.respond c st r).ev = s.ev := by unfold Block.respond; simp
@[simp] theorem respond_gr (s : Block) (c : Cmd) (st : Nat) (r : List (Nat × Nat)) : (s.respond c st r).gr = s.gr := by unfold Block.respond; simp
@[simp] theorem respond_sec (s : Block) (c : Cmd) (st : Nat) (r : List (Nat × Nat)) : (s.respond c st r).sec = s.sec := by unfold Block.respond; simp
@[simp] theorem respond_fwu (s : Block) (c : Cmd) (st : Nat) (r : List (Nat × Nat)) : (s.respond c st r).fwu = s.fwu := by unfold Block.respond; simp
@[simp] theorem respond_nv (s : Block) (c : Cmd) (st : Nat) (r : List (Nat × Nat)) : (s.respond c st r).nv = s.nv := by unfold Block.respond; simp
@[simp] theorem respond_pwr (s : Block) (c : Cmd) (st : Nat) (r : List (Nat × Nat)) : (s.respond c st r).pwr = s.pwr := by unfold Block.respond; simp
@[simp] theorem respond_tap (s : Block) (c : Cmd) (st : Nat) (r : List (Nat × Nat)) : (s.respond c st r).tap = s.tap := by unfold Block.respond; simp

/-! ### answer -/

@[simp] theorem answer_out (s : Block) (o : OpenCmd) (st : Nat) (r : List (Nat × Nat)) : (s.answer o st r).out = s.out := by unfold Block.answer; simp
@[simp] theorem answer_free (s : Block) (o : OpenCmd) (st : Nat) (r : List (Nat × Nat)) : (s.answer o st r).free = s.free := by unfold Block.answer; simp
@[simp] theorem answer_devTime (s : Block) (o : OpenCmd) (st : Nat) (r : List (Nat × Nat)) : (s.answer o st r).devTime = s.devTime := by unfold Block.answer; simp
@[simp] theorem answer_regs (s : Block) (o : OpenCmd) (st : Nat) (r : List (Nat × Nat)) : (s.answer o st r).regs = s.regs := by unfold Block.answer; simp
@[simp] theorem answer_start (s : Block) (o : OpenCmd) (st : Nat) (r : List (Nat × Nat)) : (s.answer o st r).start = s.start := by unfold Block.answer; simp
@[simp] theorem answer_ring (s : Block) (o : OpenCmd) (st : Nat) (r : List (Nat × Nat)) : (s.answer o st r).ring = s.ring := by unfold Block.answer; simp
@[simp] theorem answer_clk (s : Block) (o : OpenCmd) (st : Nat) (r : List (Nat × Nat)) : (s.answer o st r).clk = s.clk := by unfold Block.answer; simp
@[simp] theorem answer_seam (s : Block) (o : OpenCmd) (st : Nat) (r : List (Nat × Nat)) : (s.answer o st r).seam = s.seam := by unfold Block.answer; simp
@[simp] theorem answer_fab (s : Block) (o : OpenCmd) (st : Nat) (r : List (Nat × Nat)) : (s.answer o st r).fab = s.fab := by unfold Block.answer; simp
@[simp] theorem answer_rams (s : Block) (o : OpenCmd) (st : Nat) (r : List (Nat × Nat)) : (s.answer o st r).rams = s.rams := by unfold Block.answer; simp
@[simp] theorem answer_once (s : Block) (o : OpenCmd) (st : Nat) (r : List (Nat × Nat)) : (s.answer o st r).once = s.once := by unfold Block.answer; simp
@[simp] theorem answer_engines (s : Block) (o : OpenCmd) (st : Nat) (r : List (Nat × Nat)) : (s.answer o st r).engines = s.engines := by unfold Block.answer; simp
@[simp] theorem answer_cfg (s : Block) (o : OpenCmd) (st : Nat) (r : List (Nat × Nat)) : (s.answer o st r).cfg = s.cfg := by unfold Block.answer; simp
@[simp] theorem answer_shut (s : Block) (o : OpenCmd) (st : Nat) (r : List (Nat × Nat)) : (s.answer o st r).shut = s.shut := by unfold Block.answer; simp
@[simp] theorem answer_io (s : Block) (o : OpenCmd) (st : Nat) (r : List (Nat × Nat)) : (s.answer o st r).io = s.io := by unfold Block.answer; simp
@[simp] theorem answer_tpps (s : Block) (o : OpenCmd) (st : Nat) (r : List (Nat × Nat)) : (s.answer o st r).tpps = s.tpps := by unfold Block.answer; simp
@[simp] theorem answer_lanes (s : Block) (o : OpenCmd) (st : Nat) (r : List (Nat × Nat)) : (s.answer o st r).lanes = s.lanes := by unfold Block.answer; simp
@[simp] theorem answer_dcs (s : Block) (o : OpenCmd) (st : Nat) (r : List (Nat × Nat)) : (s.answer o st r).dcs = s.dcs := by unfold Block.answer; simp
@[simp] theorem answer_dmap (s : Block) (o : OpenCmd) (st : Nat) (r : List (Nat × Nat)) : (s.answer o st r).dmap = s.dmap := by unfold Block.answer; simp
@[simp] theorem answer_lsu (s : Block) (o : OpenCmd) (st : Nat) (r : List (Nat × Nat)) : (s.answer o st r).lsu = s.lsu := by unfold Block.answer; simp
@[simp] theorem answer_net (s : Block) (o : OpenCmd) (st : Nat) (r : List (Nat × Nat)) : (s.answer o st r).net = s.net := by unfold Block.answer; simp
@[simp] theorem answer_dl (s : Block) (o : OpenCmd) (st : Nat) (r : List (Nat × Nat)) : (s.answer o st r).dl = s.dl := by unfold Block.answer; simp
@[simp] theorem answer_qe (s : Block) (o : OpenCmd) (st : Nat) (r : List (Nat × Nat)) : (s.answer o st r).qe = s.qe := by unfold Block.answer; simp
@[simp] theorem answer_eic (s : Block) (o : OpenCmd) (st : Nat) (r : List (Nat × Nat)) : (s.answer o st r).eic = s.eic := by unfold Block.answer; simp
@[simp] theorem answer_ev (s : Block) (o : OpenCmd) (st : Nat) (r : List (Nat × Nat)) : (s.answer o st r).ev = s.ev := by unfold Block.answer; simp
@[simp] theorem answer_gr (s : Block) (o : OpenCmd) (st : Nat) (r : List (Nat × Nat)) : (s.answer o st r).gr = s.gr := by unfold Block.answer; simp
@[simp] theorem answer_sec (s : Block) (o : OpenCmd) (st : Nat) (r : List (Nat × Nat)) : (s.answer o st r).sec = s.sec := by unfold Block.answer; simp
@[simp] theorem answer_fwu (s : Block) (o : OpenCmd) (st : Nat) (r : List (Nat × Nat)) : (s.answer o st r).fwu = s.fwu := by unfold Block.answer; simp
@[simp] theorem answer_nv (s : Block) (o : OpenCmd) (st : Nat) (r : List (Nat × Nat)) : (s.answer o st r).nv = s.nv := by unfold Block.answer; simp
@[simp] theorem answer_pwr (s : Block) (o : OpenCmd) (st : Nat) (r : List (Nat × Nat)) : (s.answer o st r).pwr = s.pwr := by unfold Block.answer; simp
@[simp] theorem answer_tap (s : Block) (o : OpenCmd) (st : Nat) (r : List (Nat × Nat)) : (s.answer o st r).tap = s.tap := by unfold Block.answer; simp

/-! ### bumpBy -/

@[simp] theorem bumpBy_out (s : Block) (a : Nat) (c : CntL) (n code : Nat) : (s.bumpBy a c n code).out = s.out := by unfold Block.bumpBy; dsimp only; split <;> (try split) <;> rfl
@[simp] theorem bumpBy_free (s : Block) (a : Nat) (c : CntL) (n code : Nat) : (s.bumpBy a c n code).free = s.free := by unfold Block.bumpBy; dsimp only; split <;> (try split) <;> rfl
@[simp] theorem bumpBy_devTime (s : Block) (a : Nat) (c : CntL) (n code : Nat) : (s.bumpBy a c n code).devTime = s.devTime := by unfold Block.bumpBy; dsimp only; split <;> (try split) <;> rfl
@[simp] theorem bumpBy_start (s : Block) (a : Nat) (c : CntL) (n code : Nat) : (s.bumpBy a c n code).start = s.start := by unfold Block.bumpBy; dsimp only; split <;> (try split) <;> rfl
@[simp] theorem bumpBy_ring (s : Block) (a : Nat) (c : CntL) (n code : Nat) : (s.bumpBy a c n code).ring = s.ring := by unfold Block.bumpBy; dsimp only; split <;> (try split) <;> rfl
@[simp] theorem bumpBy_clk (s : Block) (a : Nat) (c : CntL) (n code : Nat) : (s.bumpBy a c n code).clk = s.clk := by unfold Block.bumpBy; dsimp only; split <;> (try split) <;> rfl
@[simp] theorem bumpBy_seam (s : Block) (a : Nat) (c : CntL) (n code : Nat) : (s.bumpBy a c n code).seam = s.seam := by unfold Block.bumpBy; dsimp only; split <;> (try split) <;> rfl
@[simp] theorem bumpBy_fab (s : Block) (a : Nat) (c : CntL) (n code : Nat) : (s.bumpBy a c n code).fab = s.fab := by unfold Block.bumpBy; dsimp only; split <;> (try split) <;> rfl
@[simp] theorem bumpBy_rams (s : Block) (a : Nat) (c : CntL) (n code : Nat) : (s.bumpBy a c n code).rams = s.rams := by unfold Block.bumpBy; dsimp only; split <;> (try split) <;> rfl
@[simp] theorem bumpBy_once (s : Block) (a : Nat) (c : CntL) (n code : Nat) : (s.bumpBy a c n code).once = s.once := by unfold Block.bumpBy; dsimp only; split <;> (try split) <;> rfl
@[simp] theorem bumpBy_engines (s : Block) (a : Nat) (c : CntL) (n code : Nat) : (s.bumpBy a c n code).engines = s.engines := by unfold Block.bumpBy; dsimp only; split <;> (try split) <;> rfl
@[simp] theorem bumpBy_cfg (s : Block) (a : Nat) (c : CntL) (n code : Nat) : (s.bumpBy a c n code).cfg = s.cfg := by unfold Block.bumpBy; dsimp only; split <;> (try split) <;> rfl
@[simp] theorem bumpBy_shut (s : Block) (a : Nat) (c : CntL) (n code : Nat) : (s.bumpBy a c n code).shut = s.shut := by unfold Block.bumpBy; dsimp only; split <;> (try split) <;> rfl
@[simp] theorem bumpBy_io (s : Block) (a : Nat) (c : CntL) (n code : Nat) : (s.bumpBy a c n code).io = s.io := by unfold Block.bumpBy; dsimp only; split <;> (try split) <;> rfl
@[simp] theorem bumpBy_tpps (s : Block) (a : Nat) (c : CntL) (n code : Nat) : (s.bumpBy a c n code).tpps = s.tpps := by unfold Block.bumpBy; dsimp only; split <;> (try split) <;> rfl
@[simp] theorem bumpBy_lanes (s : Block) (a : Nat) (c : CntL) (n code : Nat) : (s.bumpBy a c n code).lanes = s.lanes := by unfold Block.bumpBy; dsimp only; split <;> (try split) <;> rfl
@[simp] theorem bumpBy_dcs (s : Block) (a : Nat) (c : CntL) (n code : Nat) : (s.bumpBy a c n code).dcs = s.dcs := by unfold Block.bumpBy; dsimp only; split <;> (try split) <;> rfl
@[simp] theorem bumpBy_dmap (s : Block) (a : Nat) (c : CntL) (n code : Nat) : (s.bumpBy a c n code).dmap = s.dmap := by unfold Block.bumpBy; dsimp only; split <;> (try split) <;> rfl
@[simp] theorem bumpBy_lsu (s : Block) (a : Nat) (c : CntL) (n code : Nat) : (s.bumpBy a c n code).lsu = s.lsu := by unfold Block.bumpBy; dsimp only; split <;> (try split) <;> rfl
@[simp] theorem bumpBy_net (s : Block) (a : Nat) (c : CntL) (n code : Nat) : (s.bumpBy a c n code).net = s.net := by unfold Block.bumpBy; dsimp only; split <;> (try split) <;> rfl
@[simp] theorem bumpBy_dl (s : Block) (a : Nat) (c : CntL) (n code : Nat) : (s.bumpBy a c n code).dl = s.dl := by unfold Block.bumpBy; dsimp only; split <;> (try split) <;> rfl
@[simp] theorem bumpBy_qe (s : Block) (a : Nat) (c : CntL) (n code : Nat) : (s.bumpBy a c n code).qe = s.qe := by unfold Block.bumpBy; dsimp only; split <;> (try split) <;> rfl
@[simp] theorem bumpBy_eic (s : Block) (a : Nat) (c : CntL) (n code : Nat) : (s.bumpBy a c n code).eic = s.eic := by unfold Block.bumpBy; dsimp only; split <;> (try split) <;> rfl
@[simp] theorem bumpBy_mbx (s : Block) (a : Nat) (c : CntL) (n code : Nat) : (s.bumpBy a c n code).mbx = s.mbx := by unfold Block.bumpBy; dsimp only; split <;> (try split) <;> rfl
@[simp] theorem bumpBy_gr (s : Block) (a : Nat) (c : CntL) (n code : Nat) : (s.bumpBy a c n code).gr = s.gr := by unfold Block.bumpBy; dsimp only; split <;> (try split) <;> rfl
@[simp] theorem bumpBy_sec (s : Block) (a : Nat) (c : CntL) (n code : Nat) : (s.bumpBy a c n code).sec = s.sec := by unfold Block.bumpBy; dsimp only; split <;> (try split) <;> rfl
@[simp] theorem bumpBy_fwu (s : Block) (a : Nat) (c : CntL) (n code : Nat) : (s.bumpBy a c n code).fwu = s.fwu := by unfold Block.bumpBy; dsimp only; split <;> (try split) <;> rfl
@[simp] theorem bumpBy_nv (s : Block) (a : Nat) (c : CntL) (n code : Nat) : (s.bumpBy a c n code).nv = s.nv := by unfold Block.bumpBy; dsimp only; split <;> (try split) <;> rfl
@[simp] theorem bumpBy_pwr (s : Block) (a : Nat) (c : CntL) (n code : Nat) : (s.bumpBy a c n code).pwr = s.pwr := by unfold Block.bumpBy; dsimp only; split <;> (try split) <;> rfl
@[simp] theorem bumpBy_tap (s : Block) (a : Nat) (c : CntL) (n code : Nat) : (s.bumpBy a c n code).tap = s.tap := by unfold Block.bumpBy; dsimp only; split <;> (try split) <;> rfl

/-! ### bump -/

@[simp] theorem bump_out (s : Block) (a : Nat) : (s.bump a).out = s.out := by unfold Block.bump; simp
@[simp] theorem bump_free (s : Block) (a : Nat) : (s.bump a).free = s.free := by unfold Block.bump; simp
@[simp] theorem bump_devTime (s : Block) (a : Nat) : (s.bump a).devTime = s.devTime := by unfold Block.bump; simp
@[simp] theorem bump_start (s : Block) (a : Nat) : (s.bump a).start = s.start := by unfold Block.bump; simp
@[simp] theorem bump_ring (s : Block) (a : Nat) : (s.bump a).ring = s.ring := by unfold Block.bump; simp
@[simp] theorem bump_clk (s : Block) (a : Nat) : (s.bump a).clk = s.clk := by unfold Block.bump; simp
@[simp] theorem bump_seam (s : Block) (a : Nat) : (s.bump a).seam = s.seam := by unfold Block.bump; simp
@[simp] theorem bump_fab (s : Block) (a : Nat) : (s.bump a).fab = s.fab := by unfold Block.bump; simp
@[simp] theorem bump_rams (s : Block) (a : Nat) : (s.bump a).rams = s.rams := by unfold Block.bump; simp
@[simp] theorem bump_once (s : Block) (a : Nat) : (s.bump a).once = s.once := by unfold Block.bump; simp
@[simp] theorem bump_engines (s : Block) (a : Nat) : (s.bump a).engines = s.engines := by unfold Block.bump; simp
@[simp] theorem bump_cfg (s : Block) (a : Nat) : (s.bump a).cfg = s.cfg := by unfold Block.bump; simp
@[simp] theorem bump_shut (s : Block) (a : Nat) : (s.bump a).shut = s.shut := by unfold Block.bump; simp
@[simp] theorem bump_io (s : Block) (a : Nat) : (s.bump a).io = s.io := by unfold Block.bump; simp
@[simp] theorem bump_tpps (s : Block) (a : Nat) : (s.bump a).tpps = s.tpps := by unfold Block.bump; simp
@[simp] theorem bump_lanes (s : Block) (a : Nat) : (s.bump a).lanes = s.lanes := by unfold Block.bump; simp
@[simp] theorem bump_dcs (s : Block) (a : Nat) : (s.bump a).dcs = s.dcs := by unfold Block.bump; simp
@[simp] theorem bump_dmap (s : Block) (a : Nat) : (s.bump a).dmap = s.dmap := by unfold Block.bump; simp
@[simp] theorem bump_lsu (s : Block) (a : Nat) : (s.bump a).lsu = s.lsu := by unfold Block.bump; simp
@[simp] theorem bump_net (s : Block) (a : Nat) : (s.bump a).net = s.net := by unfold Block.bump; simp
@[simp] theorem bump_dl (s : Block) (a : Nat) : (s.bump a).dl = s.dl := by unfold Block.bump; simp
@[simp] theorem bump_qe (s : Block) (a : Nat) : (s.bump a).qe = s.qe := by unfold Block.bump; simp
@[simp] theorem bump_eic (s : Block) (a : Nat) : (s.bump a).eic = s.eic := by unfold Block.bump; simp
@[simp] theorem bump_mbx (s : Block) (a : Nat) : (s.bump a).mbx = s.mbx := by unfold Block.bump; simp
@[simp] theorem bump_gr (s : Block) (a : Nat) : (s.bump a).gr = s.gr := by unfold Block.bump; simp
@[simp] theorem bump_sec (s : Block) (a : Nat) : (s.bump a).sec = s.sec := by unfold Block.bump; simp
@[simp] theorem bump_fwu (s : Block) (a : Nat) : (s.bump a).fwu = s.fwu := by unfold Block.bump; simp
@[simp] theorem bump_nv (s : Block) (a : Nat) : (s.bump a).nv = s.nv := by unfold Block.bump; simp
@[simp] theorem bump_pwr (s : Block) (a : Nat) : (s.bump a).pwr = s.pwr := by unfold Block.bump; simp
@[simp] theorem bump_tap (s : Block) (a : Nat) : (s.bump a).tap = s.tap := by unfold Block.bump; simp

/-! ### logWrite -/

@[simp] theorem logWrite_out (s : Block) (a w c : Nat) : (s.logWrite a w c).out = s.out := by unfold Block.logWrite; split <;> (try split) <;> rfl
@[simp] theorem logWrite_free (s : Block) (a w c : Nat) : (s.logWrite a w c).free = s.free := by unfold Block.logWrite; split <;> (try split) <;> rfl
@[simp] theorem logWrite_devTime (s : Block) (a w c : Nat) : (s.logWrite a w c).devTime = s.devTime := by unfold Block.logWrite; split <;> (try split) <;> rfl
@[simp] theorem logWrite_start (s : Block) (a w c : Nat) : (s.logWrite a w c).start = s.start := by unfold Block.logWrite; split <;> (try split) <;> rfl
@[simp] theorem logWrite_ring (s : Block) (a w c : Nat) : (s.logWrite a w c).ring = s.ring := by unfold Block.logWrite; split <;> (try split) <;> rfl
@[simp] theorem logWrite_clk (s : Block) (a w c : Nat) : (s.logWrite a w c).clk = s.clk := by unfold Block.logWrite; split <;> (try split) <;> rfl
@[simp] theorem logWrite_seam (s : Block) (a w c : Nat) : (s.logWrite a w c).seam = s.seam := by unfold Block.logWrite; split <;> (try split) <;> rfl
@[simp] theorem logWrite_fab (s : Block) (a w c : Nat) : (s.logWrite a w c).fab = s.fab := by unfold Block.logWrite; split <;> (try split) <;> rfl
@[simp] theorem logWrite_rams (s : Block) (a w c : Nat) : (s.logWrite a w c).rams = s.rams := by unfold Block.logWrite; split <;> (try split) <;> rfl
@[simp] theorem logWrite_engines (s : Block) (a w c : Nat) : (s.logWrite a w c).engines = s.engines := by unfold Block.logWrite; split <;> (try split) <;> rfl
@[simp] theorem logWrite_cfg (s : Block) (a w c : Nat) : (s.logWrite a w c).cfg = s.cfg := by unfold Block.logWrite; split <;> (try split) <;> rfl
@[simp] theorem logWrite_shut (s : Block) (a w c : Nat) : (s.logWrite a w c).shut = s.shut := by unfold Block.logWrite; split <;> (try split) <;> rfl
@[simp] theorem logWrite_io (s : Block) (a w c : Nat) : (s.logWrite a w c).io = s.io := by unfold Block.logWrite; split <;> (try split) <;> rfl
@[simp] theorem logWrite_tpps (s : Block) (a w c : Nat) : (s.logWrite a w c).tpps = s.tpps := by unfold Block.logWrite; split <;> (try split) <;> rfl
@[simp] theorem logWrite_lanes (s : Block) (a w c : Nat) : (s.logWrite a w c).lanes = s.lanes := by unfold Block.logWrite; split <;> (try split) <;> rfl
@[simp] theorem logWrite_dcs (s : Block) (a w c : Nat) : (s.logWrite a w c).dcs = s.dcs := by unfold Block.logWrite; split <;> (try split) <;> rfl
@[simp] theorem logWrite_dmap (s : Block) (a w c : Nat) : (s.logWrite a w c).dmap = s.dmap := by unfold Block.logWrite; split <;> (try split) <;> rfl
@[simp] theorem logWrite_lsu (s : Block) (a w c : Nat) : (s.logWrite a w c).lsu = s.lsu := by unfold Block.logWrite; split <;> (try split) <;> rfl
@[simp] theorem logWrite_net (s : Block) (a w c : Nat) : (s.logWrite a w c).net = s.net := by unfold Block.logWrite; split <;> (try split) <;> rfl
@[simp] theorem logWrite_dl (s : Block) (a w c : Nat) : (s.logWrite a w c).dl = s.dl := by unfold Block.logWrite; split <;> (try split) <;> rfl
@[simp] theorem logWrite_qe (s : Block) (a w c : Nat) : (s.logWrite a w c).qe = s.qe := by unfold Block.logWrite; split <;> (try split) <;> rfl
@[simp] theorem logWrite_eic (s : Block) (a w c : Nat) : (s.logWrite a w c).eic = s.eic := by unfold Block.logWrite; split <;> (try split) <;> rfl
@[simp] theorem logWrite_mbx (s : Block) (a w c : Nat) : (s.logWrite a w c).mbx = s.mbx := by unfold Block.logWrite; split <;> (try split) <;> rfl
@[simp] theorem logWrite_gr (s : Block) (a w c : Nat) : (s.logWrite a w c).gr = s.gr := by unfold Block.logWrite; split <;> (try split) <;> rfl
@[simp] theorem logWrite_sec (s : Block) (a w c : Nat) : (s.logWrite a w c).sec = s.sec := by unfold Block.logWrite; split <;> (try split) <;> rfl
@[simp] theorem logWrite_fwu (s : Block) (a w c : Nat) : (s.logWrite a w c).fwu = s.fwu := by unfold Block.logWrite; split <;> (try split) <;> rfl
@[simp] theorem logWrite_nv (s : Block) (a w c : Nat) : (s.logWrite a w c).nv = s.nv := by unfold Block.logWrite; split <;> (try split) <;> rfl
@[simp] theorem logWrite_pwr (s : Block) (a w c : Nat) : (s.logWrite a w c).pwr = s.pwr := by unfold Block.logWrite; split <;> (try split) <;> rfl
@[simp] theorem logWrite_tap (s : Block) (a w c : Nat) : (s.logWrite a w c).tap = s.tap := by unfold Block.logWrite; split <;> (try split) <;> rfl

end Sys2Proof.Laws
end

