-- ==== Sys2Proof/Machine/Package.lean ====
section
/-! DEFINITION. The package's ball field (23): where balls stand, their names, their groups and the quadrant of each die. No command
reaches it. -/

namespace Sys2Proof.Machine

/-- Row positions and columns, each from 1 to 68, that hold a ball (R659). -/
def hasBall (row col : Nat) : Bool :=
  decide (1 ≤ row ∧ row ≤ 68 ∧ 1 ≤ col ∧ col ≤ 68) && !decide (27 ≤ row ∧ row ≤ 42 ∧ 28 ≤ col ∧ col ≤ 41)

def ballLetters : List Char := "ABCDEFGHJKLMNPTUVWY".toList

/-- The name of a row position (R660). -/
def rowName (p : Nat) : List Char :=
  if p ≤ 19 then [ballLetters.getD (p - 1) 'A']
  else [ballLetters.getD ((p - 20) / 19) 'A', ballLetters.getD ((p - 20) % 19) 'A']

/-- The fabric die in whose quadrant a position lies (R662). -/
def ballDie (row col : Nat) : Nat := (if row ≤ 34 then 0 else 2) + (if col ≤ 34 then 0 else 1)

inductive BallGroup where
  | hpIo | hvIo | lanes | dram | siteIo | control | sense | vccintFd | vccintHd | vccaux | vcco | vddq | avcc | avtt | vccUc | siteSupply | gnd
deriving DecidableEq, Repr

/-- The balls of each group (R661). -/
def ballCount : BallGroup → Nat
  | .hpIo => 1152 | .hvIo => 192 | .lanes => 512 | .dram => 8 * 161 + 8 | .siteIo => 96 | .control => 36 | .sense => 10
  | .vccintFd => 4 * 85 | .vccintHd => 12 | .vccaux => 16 | .vcco => 24 * 3 + 8 * 2 | .vddq => 4 * 6 | .avcc => 24 | .avtt => 12
  | .vccUc => 12 | .siteSupply => 72 + 18 + 18 | .gnd => 470

/-- The ball that carries data line k of a DDR4 channel's 72-bit bus (R667): the subchannel, false for A, and its DQ. -/
def ddr4Line (k : Nat) : Bool × Nat := if k < 36 then (false, k) else (true, k - 36)

end Sys2Proof.Machine
end

