-- ==== Sys2Proof/Machine/StagePins.lean ====
section
/-! DEFINITION. The pin groups of the part in each stage (R45): what a group's pins do, from the state of the block. -/

namespace Sys2Proof.Machine

/-- The pin groups of R45: an HP or HV pin of a die, a DRAM channel, a serial lane, the Ring Port, the Service Port, JTAG, the configuration
flash, the reference clock. -/
inductive PinGroup where
  | user (die pin : Nat)
  | dram (ch : Nat)
  | lane (n : Nat)
  | ring
  | service
  | jtag
  | flash
  | refclk
deriving DecidableEq, Repr

/-- What the pins of a group do. -/
inductive PinDo where
  /-- User pins: high impedance with the weak pull-down; the bank's safe state, a code of R259; the fabric or the TPP that owns the pin; unpowered
  (R257). -/
  | pullDown | safe (code : Nat) | owned (tpp : Bool) | unpowered
  /-- A DRAM channel: RESET_N low and the rest high impedance; driven by its controller. -/
  | dramHeld | dramDriven
  /-- A lane: transmitter electrical idle, receiver termination off or on; under lane control. -/
  | laneIdle (termination : Bool) | laneRuns
  /-- The Ring Port: bypass closed and transmitter off; bypass open. -/
  | bypassClosed | bypassOpen
  /-- Service Port, JTAG and flash: high impedance, held in test-logic reset, or chip select high; active, or driven by the boot ROM or by Greone
  firmware. -/
  | highZ | testLogicReset | deselected | active | bootRom | firmware
  /-- The reference clock: an input; the root PLL's reference; one of the references that the settings choose among. -/
  | input | rootReference | selectable
deriving DecidableEq, Repr

/-- A user pin: its safe state from the settings in Stage 1, its owner's in Stage 3 (R45, R257, R260). -/
def userPin (s : Block) (d n : Nat) : PinDo :=
  if s.start.inReset || stageOf s == 0 || stageOf s == 7 then .pullDown
  else if pinUnpowered s d n then .unpowered
  else if s.flag (Rg.ioPin d n) Rg.pinInSafe then .safe (safeInForce s d n)
  else .owned (s.f (Rg.ioPin d n) Rg.pinOwner == 2)

/-- The pins of a group (R45). RECOVERY is Stage 0's row: its boot ROM runs and nothing above it has begun. -/
def pinGroup (s : Block) (g : PinGroup) : PinDo :=
  let boot := stageOf s == 0 || stageOf s == 7
  match g with
  | .user d n => userPin s d n
  | .dram ch => if s.start.inReset || stageOf s != 3 || dcState s ch == 7 || dcState s ch == 0 && (getDc s ch).training.isNone then .dramHeld else .dramDriven
  | .lane n =>
    if s.start.inReset || boot || stageOf s == 1 then .laneIdle false
    else if stageOf s == 2 || s.f (Rg.lane n) Rg.lState == 0 then .laneIdle true
    else .laneRuns
  | .ring => if s.flag Rg.ring Rg.ringBypassOpen then .bypassOpen else .bypassClosed
  | .service => if s.start.inReset then .highZ else .active
  | .jtag => if s.start.inReset then .testLogicReset else .active
  | .flash => if s.start.inReset then .deselected else if boot then .bootRom else .firmware
  | .refclk => if s.start.inReset then .input else if boot then .rootReference else .selectable

end Sys2Proof.Machine
end

