-- ==== Sys2Proof/Tests/Slice0.lean ====
section
/-! SUPPORT. Tests: what the WellFormed check refuses, values that the manual works out or that standards it names publish, and, for each
statement of Certificates/Slice0/Obligations.lean, states and operands that meet what its clauses suppose (`test_meets_<statement>`, one part
a clause, in the order of the clauses). Device, sector, lane and other numbers are the last of their ranges where a clause takes any. -/

namespace Sys2Proof.Tests

open Machine

set_option maxRecDepth 100000
set_option Elab.async false

def stOf (b : Block) : State := { State.reset with blk := b }

def H : Hdr := { port := .h0, tag := 7 }

/-- Sector k is in a state, in a region. -/
def inState (st r k : Nat) (b : Block) : Block := (b.put (Rg.sector k) Rg.secState st).put (Rg.sector k) Rg.secRegion r

def dimm0 : Dimm :=
  { ddr4 := false, rdimms := 1, devWidth := 4, redundX8 := false, ranks := 1, sameRanks := true, bgBits := 3, bankBits := 2, colBits := 11,
    rowBits := 16, alertNs := 10, rfm := false }

/-- Registers of the device out of RESET in Stage 3, whose H0 mailbox is at level 1, PLL 63 and every DRAM channel up, module 24 ACTIVE, sector 319
LIVE in region 255 and sector 318 FROZEN in region 254. -/
def stage3Regs : Sp (BitVec 64) :=
  let s := (((Block.reset.put Rg.rst Rg.stage 3).put (Rg.mbx 0) Rg.mbxLevel 1).putB (Rg.fpll 3 15) Rg.fpllLocked true).put (Rg.dl 4 24) Rg.mState 4
  (inState 4 254 318 (inState 3 255 319 ((List.range 8).foldl (fun s n => setDcState n 2 s) s))).regs

/-- The same, evaluated: each proof below evaluates the state it is about. -/
def stage3List : Sp (BitVec 64) :=
  [(8224, 4#64), (83886080, 3#64), (180379648, 4#64), (567282944, 0#64), (567282976, 0#64), (805306368, 2#64), (822083584, 2#64), (1104153856, 0#64),
   (1104153888, 0#64), (1342177280, 2#64), (1358954496, 2#64), (1641024768, 0#64), (1641024800, 0#64), (1879048192, 2#64), (1895825408, 2#64),
   (2147488368, 65028#64), (2147488376, 65283#64), (2177895680, 0#64), (2177895712, 0#64), (2197815672, 1#64), (2415919104, 2#64), (2432696320, 2#64)]

theorem stage3_list : stage3List = stage3Regs := by decide +kernel

/-- Channel n online with 1 MiB. -/
def dc0 (n : Nat) : Nat × DcSt := (n, { DcSt.reset with dimm := some dimm0, cap := 0x100000, initBelow := 1 })

/-- Out of RESET, in Stage 3, with Greone running an image. -/
def W : Block :=
  { Block.reset with
    regs := stage3List,
    start := { Block.reset.start with inReset := false, porstLow := false, imageChosen := true, fabricCleared := true,
                                      trainingEnded := true, siteHeld := 0, siteWindow := 0 },
    gr := { Block.reset.gr with up := true },
    fwu := { Block.reset.fwu with running := some { version := 1, svn := 0, schema := 1, minSch := 1, digest := 0, descr := 0 } },
    dmap := { mode := 2, gran := 2, caps := [0x100000, 0x100000, 0x100000, 0x100000, 0x100000, 0x100000, 0x100000, 0x100000] },
    cfg := { Block.reset.cfg with fplls := [(63, some { pll := 15, region := 255, d := 1, m := 12, o := [8], phase := [0], freeRun := false })],
                                  nets := [(127, some (15, 0))] },
    dcs := [dc0 0, dc0 1, dc0 2, dc0 3, dc0 4, dc0 5, dc0 6, dc0 7] }

def stg (n : Nat) (b : Block) : Block := b.put Rg.rst Rg.stage n

def gatedW : Block := { W with clk := { W.clk with gated := true } }
def siteW : Block := modStart (fun x => { x with siteHeld := 7 }) W
def heldW : Block := modStart (fun x => { x with dieHeld := 15 }) W

/-- Region 0 of channel 0's line scrambler is its first 64 KiB, in the clear. -/
def clearW : Block :=
  ((W.put (Rg.lsu 0) (Rg.rgLimit 0) 0x10000).put (Rg.lsu 0) (Rg.rgKeyClear 0) 1).put (Rg.lsu 0) (Rg.rgValid 0) 1

/-- The bytes bs at address 0 of device memory. -/
def memW (bs : List Nat) : Block := (writeMem srcGreone 0 bs clearW).2

/-- Configuration fields of sector 319, and global clock network 31 as its sector clock 0. -/
def fieldsW (l : List (CfgKind × Nat × Nat × Nat)) (b : Block := W) : Block :=
  ((CfgKind.net, 0, 0, 32) :: l).foldl (fun b x => cfgPut (cfgKey 319 x.1 x.2.1 x.2.2.1) x.2.2.2 b) b

/-- RAM i of sector 319 in a mode, ×72, both ports on sector clock 0, with what it holds. -/
def ramW (i mode : Nat) (f : Ram → Ram := id) (l : List (CfgKind × Nat × Nat × Nat) := []) : Block :=
  { fieldsW ([(.ramMode, i, 0, mode), (.ramWidth, i, 0, 72), (.ramWidth, i, 1, 72), (.ramClk, i, 0, 2), (.ramClk, i, 1, 2)] ++ l) with
    rams := [(ramKey 319 i, f Ram.cleared)] }

/-- Engine 15,359, in sector 319, running at the word w, its core and its FIFOs clocked. -/
def engW (w : Nat) (f : Engine → Engine := id) : Block :=
  { fieldsW [(.eclk, 47, 0, 4), (.fifoClk, 47, 0, 2), (.fifoClk, 47, 1, 2), (.fifoClk, 47, 2, 2), (.store, 47, 0, w)] with
    engines := [(15359, f { Engine.cleared with mode := .running })] }

/-- What a result holds on its right side. -/
def rightOr {α β : Type} (d : β) : α ⊕ β → β
  | .inr b => b
  | .inl _ => d

theorem right_of {α β : Type} (d : β) {x : α ⊕ β} (h : x.isRight = true) : x = .inr (rightOr d x) := by
  cases x with
  | inl a => exact absurd h (by simp)
  | inr b => rfl

theorem pair_of {α β : Type} {x : α × β} {a : α} (h : x.1 = a) : x = (a, x.2) := by rw [← h]

theorem runs_of {b : Block} (h : (!b.start.inReset && !b.clk.gated) = true) : Running b := by
  simpa [Running] using h

theorem adm_of {b : Block} {h : Hdr} {n : Need}
    (e : (!b.start.inReset && canTake b h.port false && n.ports.contains h.port && (h.port != .jtag || jtagAllows b n.op) &&
      (!n.expert || portLevel b h.port != 0) && stageOk b n.stage) = true) : Admitted b h n := by
  simp only [Bool.and_eq_true, Bool.not_eq_true', Bool.or_eq_true, bne_iff_ne] at e
  obtain ⟨⟨⟨⟨⟨a, b⟩, c⟩, d⟩, e⟩, f⟩ := e
  exact ⟨a, b, c, fun h => d.resolve_left (· h), fun h => e.resolve_left (by simp [h]), f⟩

theorem admV1_of {b : Block} {h : Hdr} {n : Need}
    (e : (!b.start.inReset && canTake b h.port true && n.ports.contains h.port && (h.port != .jtag || jtagAllows b n.op) &&
      (!n.expert || portLevel b h.port != 0) && stageOk b n.stage) = true) : AdmittedV1 b h n := by
  simp only [Bool.and_eq_true, Bool.not_eq_true', Bool.or_eq_true, bne_iff_ne] at e
  obtain ⟨⟨⟨⟨⟨a, b⟩, c⟩, d⟩, e⟩, f⟩ := e
  exact ⟨a, b, c, fun h => d.resolve_left (· h), fun h => e.resolve_left (by simp [h]), f⟩

theorem engineAt_of {b : Block} {e op w : Nat}
    (h : (engUp b e = true ∧ (engSettle (getEng b e)).mode = .running ∧ engWord (engReady e b) e = w ∧ ifld w 63 60 = op ∧
      legalHere (engSettle (getEng b e)) w = true)) : EngineAt b e op w := h

theorem runsOn_of {b : Block} {d : Nat} (h : (!b.start.inReset && !b.clk.gated && !dieOff b d) = true) : RunsOn b d := by
  simp only [Bool.and_eq_true, Bool.not_eq_true'] at h
  exact ⟨⟨h.1.1, h.1.2⟩, h.2⟩

theorem seqAt_of {b : Block} {n op w : Nat}
    (h : (applying b n = true ∧ (getTpp b n).streaming = none ∧ (getTpp b n).waited = 0 ∧ stopNow (getTpp b n) = none ∧
  wordFault (reachTime (BitVec.ofNat 64 ((getTpp b n).time / 1000)) b) n false = none ∧
  (spGet (fun _ => 0) (getTpp b n).cache (getTpp b n).word).toNat = w ∧ wordOp w = op)) : SeqAt b n op w := h

/-- A descriptor of a Shutter session: network 127 of sector 319, at address 0x1000. -/
def shutDesc : List Nat :=
  leBytes 16 0 ++ leBytes 16 (2 ^ 127) ++ leBytes 40 (2 ^ 319) ++ leBytes 8 0x1000 ++ leBytes 8 0x40000000 ++ List.replicate 40 0

/-- The header of a relocatable Type B plate without sections (R195). -/
def plate : List Nat :=
  let h := leBytes 4 0x544C5056 ++ leBytes 2 2 ++ leBytes 2 2 ++ leBytes 2 0x9480 ++ [0, 0xB0, 1, 0, 0, 0] ++ leBytes 8 0x300 ++ leBytes 4 0 ++
    leBytes 4 0x100 ++ List.replicate 0x20 0 ++ leBytes 40 1
  let h := h ++ List.replicate (0xFC - h.length) 0
  h ++ leBytes 4 (crc32 h)

/-- The bytes of a flash from address i on: what is listed of them. -/
def flashOf : Nat → List Nat → Sp (BitVec 8)
  | _, [] => []
  | i, b :: bs => if b == 255 then flashOf (i + 1) bs else (i, BitVec.ofNat 8 b) :: flashOf (i + 1) bs

/-- The bytes bs in the configuration flash, from address 0. -/
def plateW (bs : List Nat) : Block :=
  { W with nv := { W.nv with flash := flashOf 0 bs } }

/-- Region 255 was relocated from a plate in flash. -/
def relocW : Block :=
  setRegion 255 { Region.none with
    policy := 4, relocatable := true, retained := some { flash := true, addr := 0, hdr := headerOf plate, digests := [] } } (plateW plate)

def hdr0 : PlateHdr := headerOf plate

def load0 : Load :=
  { id := 7, op2 := 0, state := 1, flash := true, addr := 0, hdr := hdr0, secs := [], targets := [], regions := [], policies := [], retain := false,
    moveFrom := none, auto := false, boot := false, records := [], keys := [], signed := [], bytes := [], links := [], plls := [] }

/-- A section of one frame record, and the record of frame 6,655 of sector 319. -/
def sec0 : PlateSec :=
  { index := 3, typ := 2, die := 3, sector := 79, sealed := false, count := 1, off := 0, len := 264, tag := 0, digest := 0, aad := [] }
def record : List Nat :=
  let r := leBytes 4 (frameAddr 319 6655) ++ List.replicate 256 0
  r ++ leBytes 4 (crc32 r)

/-- A link from sector 151 over group 767 to sector 304, and another route for it. -/
def hops0 (group : Nat) : List Hop :=
  [{ sector := 151, line := 386, exit := 1, mask := 0, group := group }, { sector := 304, line := 2, exit := 1, mask := 0, group := 0xFFFF }]
def link0 : Link :=
  { clock := 0, latency := 5, sendSec := 151, sendLine := 386, recvSec := 304, recvLine := 2, recvTap := 1, freeze := false, hops := hops0 767,
    writing := false }

/-- Link 65,535 stands, and group 767 of its Seam edge is LOST. -/
def lostLinkW : Block := ({ W with cfg := { W.cfg with links := [(65535, some link0)] } }).putB (seamEnd 3 767 0) Rg.sgLost true

/-- The load runs alone. -/
def loadW (l : Load) (b : Block := W) : Block := { b with cfg := { b.cfg with loads := [l] } }

/-- A load that streams the records of frame 6,655 of sector 319. -/
def stream0 (r : List Nat) : Load := { load0 with records := [(3, 0)], secs := [sec0], bytes := [(3, r)], targets := [319] }

def retRegion : Region := { Region.none with retained := some { flash := true, addr := 0, hdr := hdr0, digests := [] } }

theorem frame_allowed (h : ∀ b, Config.frameBit 1 6655 b = none) (l : Load) (k : Nat) (data : BitVec 2048) (s : Block) (hk : sectorType k = 1) :
    frameAllowed l k 6655 data s = true := by
  have n : (upto 2048).filterMap (fun _ => (none : Option Nat)) = [] := List.filterMap_eq_nil_iff.2 (fun _ _ => rfl)
  have e : frameKeys k 6655 = [] := by simp [frameKeys, frameBit, hk, h, n]
  simp [frameAllowed, frameOneHot, e]

/-- A key of 3,072 bits, as modulus and as primes: it stands for the identity key, for owner slot 3's and for a firmware signing key. -/
def keyP : BitVec 1536 := 0xda970668e833c6807d3832dd8539f97e9581980c394fa222df61c1197c707cc15c7e6ad7949d6dfda9ac923e359b56e34fde8f7837fc721925d268a09ffc648c5fdf68d3b7b3f5d385b6440e8f3a0726a16d5fc18c5ad9c73109452cf0746309e81376f8adc1382d00f56e88301911ed12c6082496b4ea2ed08a00666ccdaf1eba612d1a4028c79d1088ebcf0d8f8c43953512bbe959921fa55cebe6e0f6c433c89beebd22047648aad39e701ac0c41bfe0fcc7a422e68eaf70833d634865f05
def keyQ : BitVec 1536 := 0xbfc63ff5c32d6e36cc951f5b4dee843185bbcf84150f9a1ab04e05b49cdc33115013350c16705bc14ad46df0d84fca06ded6f4db44830bed6d25bd5b43859b094afb04efc661b8a8628b4f2ff91edfcc1c94ca928ddab5e3559a94c4712cc72318383cc0f831fa5810d72c756b3b127bde8c6e067d26d9be5523c1017b3c0c5f973cc50cfffaea3ff9702dcd14b284fd1ab8154a9aca579516d80ee589134f2f4dfcc245547e3576240d98f2bd8bcce449d465eba38f6b330deb4bc333ab1ebd
def keyN : BitVec 3072 := 0xa3bff5343e27013a14d0bc30db50de3dd3401f63d924d8cd6be70c63777fa3ad51aae742369a78bfad2721e86c101393f2c67cca6a1a890767b944dfb9fde82398090637ec46001490056f9a199ea238ab88d9381bc7ab844fb2d031cc8a287e7df78d3e35f5148cee9cd33d5e69ece8620a6f81b7c6cdb083472db5c9d09f8aa54360c156bd2441c0d6cb7d547dd29a00beaa9673c563f75de2df872c498961df0f75643ffc71d3c4fe6d5e656a8e7100ecbc0cd6758da929412556078705433f5aa01621be46cf10f0dd2739beb9320a0ddf81de20e2a4d03d545036cb7b0ae6a2736d6284bdd253ffe9dab6c1491312de4ba6ff716361dafd46390f6d2b17dcbf8e41c84d798020d3e25954e1830ae6c4e7662a1fe9380bb248a7f09f8ef59b98ea01ad60f098dd70ac79324224615c25bfe2eb34af056accc822df642b9908ca7644187b3daf0062ce8403e00247f09b203ce5eb00211fab4f48bda1a349670cc14d3e6f2837695aa44fed3b7100f12ca2351cbbeff27e7511cafdadbcb1

/-- Its hash (R594). -/
def keyNHash : BitVec 256 := 0x1edb2487f1ce83ff7196cd716a5cd268497ba0a893c7a1b129641cdff46a931d

theorem keyN_hash : keyHash keyN = keyNHash := by decide +kernel

/-- The part that holds this identity, with the key in owner slot 3. -/
def keyNv : NvSt :=
  { W.nv with ownerKeys := [(3, some keyN)], romKeys := [keyNHash],
              fuses := { W.nv.fuses with primeP := keyP, primeQ := keyQ, owners := [(3, { hash := keyNHash, prog := true, rev := false })] } }

theorem keyNv_identity {b : Block} (h : b.nv = keyNv) : identityKey b = keyN := by
  have e : BitVec.ofNat 3072 (keyNv.fuses.primeP.toNat * keyNv.fuses.primeQ.toNat) = keyN := by decide +kernel
  rw [identityKey, h, e]

theorem keyNv_device {b : Block} (h : b.nv = keyNv) : deviceId b = 0x29641cdff46a931d := by
  rw [deviceId, keyNv_identity h, keyN_hash]
  decide +kernel

theorem keyNv_matches {b : Block} (h : b.nv = keyNv) : keyMatches b 3 = true := by
  have e : spGet (fun _ => none) keyNv.ownerKeys 3 = some keyN := rfl
  have e2 : (spGet (fun _ => OwnerFuse.blank) keyNv.fuses.owners 3).hash = keyNHash := rfl
  simp only [keyMatches, ownerFuse, h, e, e2, keyN_hash, beq_self_eq_true]

theorem keyNv_active {b : Block} (h : b.nv = keyNv) : slotReading (ownerFuse b 3) = 1 := by
  rw [ownerFuse, h]; rfl

theorem keyNv_key {b : Block} (h : b.nv = keyNv) : spGet (fun _ => none) b.nv.ownerKeys 3 = some keyN := by
  rw [h]; rfl

/-- The signature of owner slot 3 over no bytes, at the end of a plate that has nothing else. -/
def signature0 : List Nat := beBytes 384 0x2b9cd26c7f2b9628c08c800755b223da0d42c7a30826ca6f2b8f90286d0472c1a8fa4b27520639fc9f07f00c309ab545a3632642cb935263b97d7262284711dc749e3e2543745a179b78a49c154315f83ab844feacc735278801d92940a88f64ead2fd9d1a08509c9dbe70fdd2dbb7cecfe086bf0d9965a943bc7dbb2e9683024f49e9a8b3022fabc49f32dcefcecc426bbdf6157b75b690da614c463eec6ea36234c5d2effe1272b699683e8123747964b5830882a88c96d7438784a0b92697670aebd9c08a8d7220e42de6d9a5530f8facd553174c1c91a20b7ea4c4e54f579185f85d36f38f2f6e3ad026f449364359cbe1057c7449d92acf888a086c55ca4fa46303e51a74b2e9a6ae6a7565f4412ce9302d8411f123578552145e3777a93e957b746813daa96688bc11429a9a198f2274ec0e2fa7282a8e61294a526977c6fcffe138b914d5b63e5de6199d5d773113142e55acacdd338683e489d1de34b15ee5fb37aae2352efbff0d651d89ab264de77aa1a41d6058fe04e201a329e3 ++ List.replicate 128 0
def verify0 : Load := { load0 with state := 2, flash := false, hdr := { hdr0 with owner := 3, totalLen := 512 } }
def verifyW : Block := { loadW verify0 (memW signature0) with nv := keyNv }

/-- TPP 23 in a state, its fabric port in a LIVE region, and timing set 0 valid. -/
def tppW (st : Nat) (f : Tpp → Tpp := id) (b : Block := W) : Block :=
  let b := { b with tpps := [(23, f Tpp.reset)] }
  ((inState 3 255 317 b).put (Rg.tpp 23) Rg.tState st).putB (Rg.tpp 23) (Rg.tsValid 0) true

/-- TPP 23 runs at word 0, which is w. -/
def seqW (w : Nat) (f : Tpp → Tpp := id) : Block := tppW 4 (fun t => f { t with cache := [(0, BitVec.ofNat 256 w)] })

def batch0 : AppBatch :=
  { first := 281474976710655, count := 1, start := 0, period := 1250, tset := 0, pec := 0, apg := ApgSt.zero, instr := none, sites := 255 }

/-- Lane n in a state and a mode, and what it holds beside its registers. -/
def laneIn (n st mode : Nat) (f : LaneSt → LaneSt) (b : Block) : Block :=
  let b := (b.put (Rg.lane n) Rg.lMode mode).put (Rg.lane n) Rg.lMaxRate 7
  modLane n (fun x => f { x with cfg := b.reg (Rg.lane n) }) (b.put (Rg.lane n) Rg.lState st)

/-- Lane 127 alone. -/
def laneW (st mode : Nat) (f : LaneSt → LaneSt := id) : Block := laneIn 127 st mode f W

/-- Lanes 126 and 127 in group 255: lane 127 carries logical lane 15, and lane 126 is spare 16. -/
def groupW (f : LaneSt → LaneSt := id) : Block :=
  let b := laneIn 126 5 0 id (laneIn 127 5 0 f W)
  (((b.put (Rg.lane 127) Rg.lGroup 255).put (Rg.lane 127) Rg.lLogical 15).put (Rg.lane 126) Rg.lGroup 255).put (Rg.lane 126) Rg.lLogical 16

/-- Channel 7 in a state, and what it holds beside its registers. -/
def dcW (st : Nat) (f : DcSt → DcSt := id) : Block := modDc 7 f (setDcState 7 st W)

def dreq (k : DKind) : DReq :=
  { id := 5, kind := k, line := 0, scr := false, form := lineForm W 7 0, stream := false, time := 0, issued := none,
    merge := some { aor := true, mask := 1, data := 1 } }
def dret (k : DKind) : DRet := { req := dreq k, data := 0, tag := 0, bad := false }

def sweep0 : Sweep := { region := 63, cmd := { port := .h0, tag := 0, op := 0x603, v1 := false } }

/-- A sweep of region 63 runs; channel 7 holds these reads that have returned. -/
def sweepW (rets : List DRet) : Block :=
  let b := dcW 2 (fun c => { c with rets := rets })
  let b := (List.range 8).foldl (fun b n => ((b.put (Rg.lsu n) (Rg.rgValid 63) 1).put (Rg.lsu n) (Rg.rgBase 63) (2 ^ 38 * 7)).put (Rg.lsu n)
    (Rg.rgBound 63) (2 ^ 38 * 7)) b
  let b := (List.range 8).foldl (fun b n => b.put (Rg.lsu n) (Rg.rgLimit 63) (2 ^ 38 * 7 + 0x10000)) b
  { b with lsu := { b.lsu with sweeps := [sweep0] } }

/-- The end of module 33 in a state, with what it holds beside its registers. -/
def linkW (st : Nat) (f : LinkEnd → LinkEnd := id) : Block := modEnd 3 33 f (W.put (Rg.dl 3 33) Rg.mState st)

def reroute0 : Reroute := { set := TableSet.default, sites := [], step := 3, flipped := 0, slow := false }

def netW (f : NetSt → NetSt) (b : Block := W) : Block := { b with net := f b.net }

def part0 (src dst : Nat) : NetPart := { src := src, tag := 4095, req := 0, dst := dst, phase := 1, kind := 0 }

theorem pick_one {mask src dst p : Nat} (h : bitsOf 16 mask = [p]) : pickPort mask src dst = some p := by
  simp [pickPort, h, Nat.mod_one]

def port (p : Port) : Hdr := { port := p, tag := 65535 }

def qctx : QCtx :=
  { base := 0, valid := true, sub := false, es64 := false, irq := false, greone := false, wb := false, pin := false, log2 := 6, vector := 0,
    tail := 0, head := 0, pushSrc := 0x400, error := false, full := false, wbAddr := 0, deliv := 0, window := 1, credit := 0, dropped := 0,
    ovf := false }

/-- The queue engine is enabled; the last queue group is H0's, and the last queue's context is cached. -/
def qeW (c : QCtx := qctx) (f : QeSt → QeSt := id) : Block :=
  modQe (fun x => f { x with cache := [(1048575, some { ctx := c, dirty := true })], owners := [(65535, some .h0)], made := [1048575] })
    (W.putB Rg.qe Rg.qeEnable true)

def ringWrite0 : RingWrite := { q := 1048575, pos := 0, n := 1, addr := 0, bytes := [], time := 0, live := true }

def sleepW (n : Nat) (f : QeSt → QeSt := id) : Block := (qeW qctx f).put Rg.qe Rg.qeSleep n

def ev0 : EvFrame := { time := 0, code := 0x0100, origin := 0, detail := 0, detail2 := 0 }

def rsp0 : Rsp := { cmd := { port := .jtag, tag := 7, op := 0, v1 := false }, status := 0, res := [] }

/-- Slot 15 holds an entry, and a self-test runs. -/
def testW (e : TestEntry) (l : List TestRun := []) (b : Block := W) : Block := modGr (fun g => { g with schedule := [(15, some e)], tests := l }) b

def entry0 : TestEntry := { test := 0xD, quiet := 1, target := 23, time := 0, args := 0, port := .h0 }
def run0 : TestRun := { test := 8, target := 319, slot := some 14, resume := false, begun := true }


/-- A full plate's header and its one descriptor, of a REGIONS section at 0x180 (R195 to R197). -/
def plateHead (map : Nat) : List Nat :=
  let h := leBytes 4 0x544C5056 ++ leBytes 2 2 ++ leBytes 2 1 ++ leBytes 2 0x9480 ++ [0, 0xB0, 0, 0, 0, 0] ++ leBytes 8 2240 ++ leBytes 4 1 ++
    leBytes 4 0x100 ++ List.replicate 0x20 0 ++ leBytes 40 map
  let h := h ++ List.replicate (0xFC - h.length) 0
  let d := [1, 0xFF, 0xFF, 0] ++ leBytes 4 0 ++ leBytes 8 384 ++ leBytes 8 1344 ++ List.replicate 72 0
  h ++ leBytes 4 (crc32 h) ++ d

/-- A plate of sector 0 in region 1. -/
def fullPlate : List Nat := plateHead 1 ++ List.replicate 32 0 ++ [1] ++ List.replicate 63 0

/-- No sector is loaded, and the flash holds a plate of all sectors in region 255 at 0, the boot plate. -/
def bootW : Block :=
  let b := inState 0 0 318 (inState 0 0 319 (plateW (plateHead (2 ^ 320 - 1))))
  { b with gr := { b.gr with applied := [(3, 1), (4, 0)] } }

/-- An authorised request of owner slot 3 for an opcode (R598), with its payload and a signature, for the nonce 0. -/
def request (op : Nat) (p : List Nat) (sig : Nat) : List Nat :=
  leBytes 4 0x51554152 ++ leBytes 2 op ++ [3, 0] ++ leBytes 8 0x29641cdff46a931d ++ leBytes 16 0 ++ leBytes 4 p.length ++ List.replicate 28 0 ++ p ++
    beBytes 384 sig

/-- The bytes bs at address 0 of device memory, and the port's nonce 0 valid. -/
def ownedW (p : Port) (bs : List Nat) (f : Block → Block := id) : Block :=
  let b := f (memW bs)
  { b with nv := keyNv, sec := { b.sec with nonces := [(portNum p, some (0, 0))] } }

theorem readMem_nv (src a n : Nat) (b : Block) : (readMem src a n b).2.nv = b.nv :=
  (Laws.readMem_kept (m := 16777226) (s0 := b) rfl (Laws.Kept.refl _ b)).1 .nv rfl

theorem accepted_of {b : Block} {p : Port} {op n : Nat} {bs : List Nat} (hm : (readMem srcGreone 0 (Nat.min (448 + n) 4544) b).1 = some bs)
    (hn : nonceOf b p = some (0, 0)) (hb : b.nv = keyNv)
    (h : (BitVec.ofNat 128 (fieldAt bs 0x10 16) == 0 && requestForm 0x29641cdff46a931d op (448 + n) bs && fieldAt bs 0x20 4 == n &&
      fieldAt bs 6 1 == 3) = true)
    (hr : rsaOk keyN (bs.take (0x40 + n)) ((bs.drop (0x40 + n)).take 384) = true) :
    authRequest (cmdOf (port p) op) op 0 (448 + n) b =
      (.accepted 3 ((bs.drop 0x40).take n), setNonce p none (readMem srcGreone 0 (Nat.min (448 + n) 4544) b).2) := by
  have hv : (readMem srcGreone 0 (Nat.min (448 + n) 4544) b).2.nv = keyNv := (readMem_nv _ _ _ _).trans hb
  simp only [Bool.and_eq_true, beq_iff_eq] at h
  obtain ⟨⟨⟨h1, h2⟩, h3⟩, h4⟩ := h
  have h2' : requestForm (deviceId (setNonce p none (readMem srcGreone 0 (Nat.min (448 + n) 4544) b).2)) op (448 + n) bs = true := by
    rw [keyNv_device (b := setNonce p none (readMem srcGreone 0 (Nat.min (448 + n) 4544) b).2) hv]; exact h2
  have hv' : (setNonce p none (readMem srcGreone 0 (Nat.min (448 + n) 4544) b).2).nv = keyNv := hv
  have e : (cmdOf (port p) op).port = p := rfl
  have hs : requestSigned (setNonce p none (readMem srcGreone 0 (Nat.min (448 + n) 4544) b).2) bs = true := by
    simpa [requestSigned, h4, h3, keyNv_active hv', keyNv_matches hv', keyNv_key hv'] using hr
  simp [authRequest, hm, e, hn, h1, h2', hs, h4, h3]

/-- A Service Port frame of a type with an address, a length field and a payload (R604). -/
def svcFrameOf (typ seq addr len : Nat) (p : List Nat) : List (BitVec 8) :=
  let f := [typ, 0] ++ leBytes 2 seq ++ leBytes 8 addr ++ leBytes 4 len ++ p
  (165 :: f ++ leBytes 4 (crc32 f)).map (BitVec.ofNat 8)

def fwW (st : Nat) (f : FwSt → FwSt := id) (b : Block := W) : Block :=
  let b := (((b.put Rg.fw Rg.fwState st).putB Rg.pwr Rg.pHoldup true).putB Rg.pwr Rg.pWarn false)
  { b with fwu := f b.fwu }

def rec0 : ActRec := { seq := 1, slotB := false, trial := false, trials := 0, crashes := 2 }

def quote0 : Machine.Quote := { id := 0, addr := 0, len := 0, nonce := 0, bytes := some [1] }
def bank0 : SetBank := { schema := 1, seq := 1, recs := [], policy := none, keyNow := none, keyOld := none }


def allReadyW : Block := fwW 5

/-- The key as R594 lays it out. -/
def keyBytesN : List Nat := keyBytes keyN


/-! ### What the WellFormed check refuses: for each check a term that it fails -/

def sf0 : SeamFault := { edge := 0, group := 0, wire := 0 }
def die0 : DieSettings := { die := 0, fplls := [], nets := [], pins := [], banks := [], aps := [] }
def pin0 (n : Fin 384) : PinSet :=
  { pin := n, tpp := false, region := 0, standard := 0, drive := 0, term := 0, idelay := 0, odelay := 0, safe := 0, io := { PinIo.plain with ser := 4 } }

theorem test_refuses_1 :
    ([.stage1Enter [sf0, sf0], .dieReset H (256 ^ 1), .dieResetRelease 0 [sf0, sf0], .siteReset H (256 ^ 1), .configUpset 0 0 [],
      .plateLoad H (256 ^ 1) 0 0 0 0 0 0 0, .plateRelocate H (256 ^ 1) 0, .regionFreeze H (256 ^ 1), .regionReset H (256 ^ 1),
      .regionClear H (256 ^ 1), .plateUnretain H (256 ^ 1), .plateStatus H (256 ^ 1), .loadStreamDone 0 [die0, die0] [],
      .loadVerifyDone 0 [sf0, sf0], .shutter H (256 ^ 8), .tppLoad H (256 ^ 1) 0 0 0, .tppRun H (256 ^ 1) 0, .tppAbort H (256 ^ 4),
      .tppStatus H (256 ^ 1), .tppCalibrate H (256 ^ 4), .tppSite H (256 ^ 1) 0, .tppCalDone 0 [] 0, .seqMatch 0 false [(0, 0)] 0,
      .streamReadResponse 0 (2 ^ 42) false 0] : List Instr).all (fun c => !c.wf) = true := by
  decide +kernel

theorem test_refuses_2 :
    ([.compareResult 0 0 [(0, 0), (0, 0)], .bitmapLineEvict 0 (2 ^ 42), .bitmapAorResponse 0 (2 ^ 42) false, .laneUp H (256 ^ 1) 0 0 0,
      .laneDown H (256 ^ 1) 0, .laneQuiesce H (256 ^ 1) 0, .laneResume H (256 ^ 1) 0, .laneLoopback H (256 ^ 1) 0 0,
      .lanePrbs H (256 ^ 1) 0 0 0 0, .laneEyescan H (256 ^ 1) 0 0 0 0 0 0 0 0, .laneStatus H (256 ^ 1), .eyescanDone 0 [2 ^ 40],
      .dramTrain H (256 ^ 1) 0, .dramStatus H (256 ^ 1), .dramQuiesce H (256 ^ 1), .dramResume H (256 ^ 1), .dramOffline H (256 ^ 1),
      .dramOnline H (256 ^ 1), .dramSelftest H (256 ^ 1) 0 0 0, .dramBracket H (256 ^ 1) 0, .dramRecover H (256 ^ 1),
      .dramTrainDone 0 (some { dimm0 with ranks := 0 }) none none false, .bracketDone 0 [], .dramLineRead 0 0 (2 ^ 42) 0 false] : List Instr).all (fun c => !c.wf) = true := by
  decide +kernel

theorem test_refuses_3 :
    ([.dramLineWrite 0 none (2 ^ 42) 0 0, .dramLockedPair 0 0 (2 ^ 42) 0 { aor := true, mask := 0, data := 0 },
      .dramBurstComplete 0 0 [(0, 0), (0, 0)], .dramPatrolRead 0 [(0, 0), (0, 0)] false, .dramDriftTrack 0 0 [(0, false), (0, true)],
      .lsuKeyLoad H (256 ^ 1) 0, .lsuKeyClear H (256 ^ 1), .lsuRegionSet H (256 ^ 1) 0 0 0, .lsuRekey H (256 ^ 1) 0 0, .lsuStatus H (256 ^ 1),
      .nocRequestIssue 0 0 1 0 0 0 false [], .nocResponseArrive 0 0 0 (List.replicate 65 (0, false, 0)) false, .apTargetRequest 0 0 0 0 1 0 0 [],
      .apTargetResponse 0 0 0 false (List.replicate 4097 0), .rerouteStart 0 [0, 0] [] [], .nocStatus H (256 ^ 1) 0 0, .nocIsolate H (256 ^ 2),
      .nocRelease H (256 ^ 2), .nocDomainOff H (256 ^ 1), .nocDomainOn H (256 ^ 1), .dlStatus H (256 ^ 1), .dlRetrain H (256 ^ 1),
      .dlDown H (256 ^ 1), .dlUp H (256 ^ 1)] : List Instr).all (fun c => !c.wf) = true := by
  decide +kernel

theorem test_refuses_4 :
    ([.dlClearDegrade H (256 ^ 1), .seamSteer H (256 ^ 1) 0 0, .qeGroupAssign H (256 ^ 2) 0, .qeQueueCreate H (256 ^ 4) 0 0 0 0 0 0 0 0 0 0 0 0,
      .qeQueueDestroy H (256 ^ 4), .qeQueueReset H (256 ^ 4), .qeQueueStatus H (256 ^ 4), .qeVectorSet H (256 ^ 2) 0 0 0 0 0,
      .eicSourceSet H (256 ^ 2) 0 0 0, .eicTargetSet H (256 ^ 1) 0 0, .regRead H (256 ^ 8) 0, .regWrite H (256 ^ 8) 0 0, .expertDrop H (256 ^ 1),
      .eventRead H (256 ^ 4), .eventQueue H (256 ^ 4) 0, .settingsRead H (256 ^ 2), .settingsWrite H (256 ^ 2) 0, .settingsCommit H (256 ^ 8) 0,
      .testRun H (256 ^ 1) 0 0, .testSchedule H (256 ^ 1) 0 0 0 0, .testCancel H (256 ^ 1), .testStatus H (256 ^ 1),
      .selfTestComplete 0 0 false [2 ^ 64], .cfgLoad H (256 ^ 2) 0 0] : List Instr).all (fun c => !c.wf) = true := by
  decide +kernel

theorem test_refuses_5 :
    ([.cfgStatus H (256 ^ 2), .memTrain H (256 ^ 2), .memStatus H (256 ^ 2), .linkUp H (256 ^ 2) 0, .linkDown H (256 ^ 2) 0, .regRd H (256 ^ 8),
      .regWr H (256 ^ 4) 0, .secIdCert H (256 ^ 1) 0 0, .secQuote H (256 ^ 8) 0 0, .secOwnerKeyPut H (256 ^ 1) 0, .secOwnerProgram H (256 ^ 8) 0,
      .secOwnerRevoke H (256 ^ 8) 0, .secFuseLock H (256 ^ 8) 0, .secSvnAdvance H (256 ^ 8) 0, .secSealKeySet H (256 ^ 8) 0,
      .secPolicySet H (256 ^ 8) 0, .svcWrite (List.replicate 4118 0), .svcRead (List.replicate 4118 0), .svcImage (List.replicate 4118 0),
      .svcPing (List.replicate 4118 0), .fwBegin H (256 ^ 4), .fwActivate H (256 ^ 1), .fwAcceptDefaults H (256 ^ 8) 0, .runLock H (256 ^ 4)] : List Instr).all (fun c => !c.wf) = true := by
  decide +kernel

theorem test_refuses_6 :
    ([.runUnlock H (256 ^ 1), .thermalSample [], .railSample [], .thermSet H (256 ^ 1) 0, .qeQueueCreate H 0 0 0 1 0 0 0 0 0 1 0 0 0,
      .loadStreamDone 0 [{ die0 with fplls := [{ pll := 0, region := 0, d := 0, m := 4, o := [], phase := [], freeRun := false }] }] [],
      .loadStreamDone 0 [{ die0 with pins := [pin0 288] }] [], .loadStreamDone 0 [{ die0 with banks := [(6, 4, 0)] }] [], .testRun H 7 0 256] : List Instr).all (fun c => !c.wf) = true := by
  decide +kernel

theorem test_well_formed : (Instr.plateLoad H 1 0 0 0xFFFF 255 0 (2 ^ 64 - 1) (2 ^ 64 - 1)).wf = true := by decide +kernel

/-! ### Values that the manual works out, or that the standards it names publish -/

/-- R56: the CRC-16 of "123456789". R194: its CRC-32. -/
theorem test_crc : crc16 [49, 50, 51, 52, 53, 54, 55, 56, 57] = 0x29B1 ∧ crc32 [49, 50, 51, 52, 53, 54, 55, 56, 57] = 0xCBF43926 := by decide +kernel

/-- FIPS 180-4: SHA-256 of "abc" (R194, R203). -/
theorem test_sha256 :
    shaBytes [97, 98, 99] = beBytes 32 0xba7816bf8f01cfea414140de5dae2223b00361a396177a9cb410ff61f20015ad := by decide +kernel

/-- RFC 5869, test case 1: HKDF with SHA-256. -/
theorem test_hkdf :
    hkdf16 (List.replicate 22 0x0b) (upto 13) ((upto 10).map (fun i => 0xf0 + i)) = beBytes 16 0x3cb25f25faacd57a90434f64d0362f2a := by decide +kernel

/-- AES-256-GCM of sixteen zero bytes under the zero key and IV (R204): the block opens under its tag, and under no other. -/
theorem test_gcm :
    gcmOpen (List.replicate 32 0) (List.replicate 12 0) [] (beBytes 16 0xcea7403d4d606b6e074ec5d3baf39d18) (beBytes 16 0xd0d1c8a799996bf0265b98b5d48ab919)
      = some (List.replicate 16 0) ∧
    gcmOpen (List.replicate 32 0) (List.replicate 12 0) [] (beBytes 16 0xcea7403d4d606b6e074ec5d3baf39d18) (beBytes 16 0) = none := by decide +kernel

/-- R28: 0x0000_1234_5678 at granule 4 KiB in modes 0, 1 and 2. -/
theorem test_interleave :
    (List.map (fun m => dramSplit { mode := m, gran := 2, caps := [] } 0x12345678) [0, 1, 2]) = [(5, 0x2468678), (1, 0x48D1678), (0, 0x12345678)] := by
  decide +kernel

/-- R37: TPP_17's window is at 0x7F00_6D00_0000, DC_5's at 0x7F00_7100_0000. -/
theorem test_windows : Rg.tpp 17 = 0x6D000000 ∧ Rg.dc 5 = 0x71000000 := by decide +kernel

/-- R89, R90: a + b with INIT 0x6666_6666_8888_8888, a on input A and b on input B: 0b0101 + 0b0110 = 0b1011, and 0b1111 + 0b0001 carries out. -/
theorem test_adder :
    arith [(0x6666666688888888, 1), (0x6666666688888888, 2), (0x6666666688888888, 3), (0x6666666688888888, 0)] false =
      ([true, true, false, true], [false, false, true, false]) ∧
    (arith [(0x6666666688888888, 3), (0x6666666688888888, 1), (0x6666666688888888, 1), (0x6666666688888888, 1)] false).1 =
      [false, false, false, false] := by decide +kernel

/-- R170: the third and fourth rows of its worked values. -/
theorem test_index_steps :
    let a : AddrGen := { base := 0x1F8, step := -3, mod := 10, bitrev := false, ri := 1, wi := 0 }
    (List.map (agAddr a) [1, agStep a 1, agStep a 8, agStep a 5, agStep a 2], agStep a 2) = ([0x1F9, 0x000, 0x1FD, 0x1FA, 0x001], 9) ∧
    (upto 8).map (agAddr { base := 0x100, step := 1, mod := 16, bitrev := true, ri := 0, wi := 0 }) =
      [0x100, 0x108, 0x104, 0x10C, 0x102, 0x10A, 0x106, 0x10E] := by decide +kernel

/-- The butterfly of 06: a and b in IA and IB, W at 0x042 of OM_A. -/
def butterfly (w acc : Nat) : Block :=
  engW w (fun g => { g with
    ia := [0x100008000], ib := [0xE00010000], omA := [(0x42, 0xA57D96A0A)], ag0 := { g.ag0 with base := 0x40, step := 2, mod := 8, ri := 2 },
    accR := BitVec.ofNat 56 acc })

/-- R158 to R166: its two outputs and its first accumulator. -/
theorem test_butterfly :
    (getEng (engineMacStep 15359 0 0 (butterfly 0x17090C1592000000 0)) 15359).oq = [0xFF983C006D41] ∧
    (getEng (engineMacStep 15359 0 0 (butterfly 0x17090C1592000000 0)) 15359).accR.toInt = 7331971072 ∧
    (getEng (engineMacStep 15359 0 0 (butterfly 0x1709179592000000 0)) 15359).oq = [0x00A7C40012BF] := by decide +kernel

/-- R424 to R426: the table of the test vector beside R427. After its last row the second word is 0x57F4_E829, the sum of that row's
RK_6,1 0x3B5D_831D and the word before it, 0x1C97_650C; the table prints 0x57F4_E82B there (log entry 43). -/
theorem test_line_mix :
    let k : BitVec 128 := 0x00000003000000020000000100000000
    let x : Lane := { w0 := 0x11111111, w1 := 0x22222222, w2 := 0x33333333, w3 := 0x44444444 }
    let st (n : Nat) : Lane := (upto n).foldl (mixRound k (tweak0 1) (tweak1 1 true 2 false)) x
    (upto 4).map (roundKey k (tweak0 1) (tweak1 1 true 2 false) 6) = [0x3B5DA71D, 0x3B5D831D, 0x3B5DA71F, 0x3B5D831F] ∧
    st 1 = { w0 := 0xDADFE551, w1 := 0x92A1003B, w2 := 0xA7E47334, w3 := 0xEEA6F080 } ∧
    st 2 = { w0 := 0x087C7FD7, w1 := 0x7FA2C156, w2 := 0xA7963B6B, w3 := 0x3A639FF3 } ∧
    st 3 = { w0 := 0x61AC945F, w1 := 0x10B748EF, w2 := 0x6F7A0F13, w3 := 0xF1FB9746 } ∧
    st 4 = { w0 := 0x5ED404DC, w1 := 0x588BBDB6, w2 := 0x494A83B5, w3 := 0xC843A732 } ∧
    st 5 = { w0 := 0x28D2A124, w1 := 0x09348355, w2 := 0xBA383EF4, w3 := 0x47530726 } ∧
    st 6 = { w0 := 0x0D7CF816, w1 := 0x1C97650C, w2 := 0xE609B379, w3 := 0x9879326E } ∧
    mix k (tweak0 1) (tweak1 1 true 2 false) x = { w0 := 0x48DA9F33, w1 := 0x57F4E829, w2 := 0x21675A98, w3 := 0xD3D6B58D } := by decide +kernel

/-- The settings of 11's worked scramble, on TPP 7. -/
def scrambleW : Block :=
  let b := Rg.tpp 7
  let s := (upto 37).foldl (fun s i => s.put b (Rg.apgPerm i) (if i == 1 then 2 else if i == 2 then 1 else i)) W
  let s := (upto 10).foldl (fun s j => s.put b (Rg.apgXtSel j) (if j < 2 then j else 63)) s
  let s := (((s.put b (Rg.apgXtDinv 1) 1).put b (Rg.apgXtDinv 2) 1).put b (Rg.apgXtAxor 3) (2 ^ 20)).put b Rg.apgXtEn 1
  (s.put b Rg.apgBg 1).put b Rg.apgDqInv 0xAA

/-- R319 to R321: PX, PY and D[7:0] of its four rows. -/
theorem test_scramble :
    (upto 4).map (fun i =>
      let a : ApgSt := { ApgSt.zero with x := BitVec.ofNat 16 (0x120 + i), y := 0x45, b := 3, bg := 1 }
      let p := (physAddr scrambleW (Rg.tpp 7) (logicalAddr a)).1
      (physX p, physY p, physB p, apgData scrambleW (Rg.tpp 7) a % 256)) =
    [(0x120, 0x45, 3, 0x55), (0x121, 0x45, 3, 0x55), (0x124, 0x45, 3, 0xAA), (0x125, 0x55, 3, 0xAA)] := by decide +kernel

/-- R564: the entry of 19's worked TEST_SCHEDULE. -/
theorem test_entry :
    let bs := leBytes 8 0x00000002002A0E01 ++ leBytes 8 0x0000000000050007 ++ leBytes 8 0xFFFFFFFFFFFFFFFF ++ leBytes 8 0xFF ++ List.replicate 32 0
    fieldAt bs 0 2 = 0x0E01 ∧ fieldAt bs 2 2 = 0x2A ∧ bs.getD 4 0 = 2 ∧
      (argsFrom bs 8 [1, 1, 2, 8, 1]).1 = [7, 0, 5, 2 ^ 64 - 1, 255] ∧ zeroFrom bs (argsFrom bs 8 [1, 1, 2, 8, 1]).2 64 = true := by decide +kernel

/-- R662: ball rows 33 and 34 are AP and AT. -/
theorem test_rows : rowName 33 = ['A', 'P'] ∧ rowName 34 = ['A', 'T'] := by decide +kernel

/-- No row of the table has bits, so a word spells no command. -/
theorem test_no_words (n w : Nat) : decodeTableWord n w = none := rfl


/-! ### What the statements suppose -/

/-- What the clauses of StepRunsFront suppose is met. -/
theorem test_meets_StepRunsFront :
    (∃ (s : State), s.pending = [] ∧ (s.blk.start.inReset = true ∨ s.blk.clk.gated = true)) ∧
    (∃ (s : State), s.pending = [] ∧ Running s.blk) :=
  ⟨⟨State.reset, by decide +kernel⟩,
   ⟨stOf W, by decide +kernel, runs_of (by decide +kernel)⟩⟩

/-- What the clauses of CommandsKeepOtherParts suppose is met. -/
theorem test_meets_CommandsKeepOtherParts :
    (∃ (c : Instr) (s : State) (t : Machine.State) (p : Part), exec c s = Host.Outcome.next t ∧ ¬p ∈ partsOf c) :=
  ⟨.powerWarn, State.reset, State.reset, .lanes, rfl, by decide +kernel⟩

/-- What the clauses of StepKeepsCanonicalForm suppose is met. -/
theorem test_meets_StepKeepsCanonicalForm :
    (∃ (s : State) (t : Machine.State), BlockWf s.blk = true ∧ step s = Host.Outcome.next t) :=
  ⟨State.reset, State.reset, by decide +kernel, rfl⟩

/-- What the clauses of InReset suppose is met. -/
theorem test_meets_InReset :
    (∃ (c : Instr) (s : State), actsOf c ≠ Acts.always ∧ s.blk.start.inReset = true) :=
  ⟨.powerWarn, State.reset, by decide +kernel⟩

/-- What the clauses of OnlyPorstResets suppose is met. -/
theorem test_meets_OnlyPorstResets :
    (∃ (c : Instr) (s : State) (t : Machine.State), exec c s = Host.Outcome.next t ∧ s.blk.start.inReset = false ∧ t.blk.start.inReset = true) :=
  ⟨.porstNAssert 10000 false, stOf W, _, rfl, by decide +kernel⟩

/-- What the clauses of GatedRows suppose is met. -/
theorem test_meets_GatedRows :
    (∃ (c : Instr) (s : State), actsOf c = Acts.clocked ∧ s.blk.clk.gated = true) ∧
    (∃ (c : Instr) (d : Nat) (s : State), dieOf c = some d ∧ dieOff s.blk d = true) :=
  ⟨⟨.alignmentMarker, stOf gatedW, by decide +kernel⟩,
   ⟨.fpllUnlock 3 0, 3, stOf heldW, rfl, by decide +kernel⟩⟩

/-- What the clauses of MailboxEntries suppose is met. -/
theorem test_meets_MailboxEntries :
    (∃ (tag : BitVec 16) (r : CmdRow) (vals : List Nat), r ∈ cmdRows (entryOf r.op tag.toNat (r.args.zip vals)) ∧ vals.length = r.args.length ∧ (∀ (x
    : Nat × Nat), x ∈ r.args.zip vals → x.snd < 2 ^ (8 * x.fst))) ∧
    (∃ (bs : List Nat) (r : CmdRow), r ∈ cmdRows bs) :=
  ⟨⟨65535, ⟨0x0003, [8, 1], fun h a => execRegRead h (a 0) (a 1)⟩, [18446744073709551615, 255], by simp [cmdRows, deviceRows], by decide +kernel⟩,
   ⟨[], ⟨0, [], fun h _ => execDevInfo h⟩, by simp [cmdRows, deviceRows]⟩⟩

/-- What the clauses of EntryChecks suppose is met. -/
theorem test_meets_EntryChecks :
    (∃ (bs : List Nat), (∀ (r : CmdRow), r ∈ cmdRows bs → r.op ≠ fieldAt bs 0 2)) ∧
    (∃ (bs : List Nat) (r : CmdRow), r ∈ cmdRows bs ∧ r.op = fieldAt bs 0 2 ∧ (bs.getD 4 0 ≠ 2 ∨ zeroFrom bs 5 8 = false ∨ zeroFrom bs (argsFrom bs 8
    r.args).snd 64 = false)) :=
  ⟨⟨[255, 255], by decide +kernel⟩,
   ⟨[0, 0, 0, 0, 1], ⟨0, [], fun h _ => execDevInfo h⟩, by simp [cmdRows, deviceRows], by decide +kernel⟩⟩

/-- What the clauses of CommandChecks suppose is met. -/
theorem test_meets_CommandChecks :
    (∃ (c : Instr) (h : Hdr) (n : Need) (s : State), needOf c = some (h, n) ∧ s.blk.start.inReset = false ∧ canTake s.blk h.port false = false) ∧
    (∃ (c : Instr) (h : Hdr) (n : Need) (s : State), needOf c = some (h, n) ∧ s.blk.start.inReset = false ∧ canTake s.blk h.port false = true ∧
    (¬(n.ports.contains h.port = true ∧ (h.port = Port.jtag → jtagAllows s.blk n.op = true)))) ∧
    (∃ (c : Instr) (h : Hdr) (n : Need) (s : State), needOf c = some (h, n) ∧ s.blk.start.inReset = false ∧ canTake s.blk h.port false = true ∧
    (n.ports.contains h.port = true ∧ (h.port = Port.jtag → jtagAllows s.blk n.op = true)) ∧ n.expert = true ∧ portLevel s.blk h.port = 0) ∧
    (∃ (c : Instr) (h : Hdr) (n : Need) (s : State), needOf c = some (h, n) ∧ s.blk.start.inReset = false ∧ canTake s.blk h.port false = true ∧
    (n.ports.contains h.port = true ∧ (h.port = Port.jtag → jtagAllows s.blk n.op = true)) ∧ (n.expert = true → portLevel s.blk h.port ≠ 0) ∧
    stagePermits s.blk c n = false) ∧
    (∃ (c : Instr) (h : Hdr) (op1 : Nat) (n : Need) (s : State), needOfV1 c = some (h, op1, n) ∧ s.blk.start.inReset = false ∧ canTake s.blk h.port
    true = false) ∧
    (∃ (c : Instr) (h : Hdr) (op1 : Nat) (n : Need) (s : State), needOfV1 c = some (h, op1, n) ∧ s.blk.start.inReset = false ∧ canTake s.blk h.port
    true = true ∧ (¬(n.ports.contains h.port = true ∧ (h.port = Port.jtag → jtagAllows s.blk n.op = true)))) ∧
    (∃ (c : Instr) (h : Hdr) (op1 : Nat) (n : Need) (s : State), needOfV1 c = some (h, op1, n) ∧ s.blk.start.inReset = false ∧ canTake s.blk h.port
    true = true ∧ (n.ports.contains h.port = true ∧ (h.port = Port.jtag → jtagAllows s.blk n.op = true)) ∧ n.expert = true ∧ portLevel s.blk h.port =
    0) ∧
    (∃ (c : Instr) (h : Hdr) (op1 : Nat) (n : Need) (s : State), needOfV1 c = some (h, op1, n) ∧ s.blk.start.inReset = false ∧ canTake s.blk h.port
    true = true ∧ (n.ports.contains h.port = true ∧ (h.port = Port.jtag → jtagAllows s.blk n.op = true)) ∧ (n.expert = true → portLevel s.blk h.port ≠
    0) ∧ stageOk s.blk n.stage = false) :=
  ⟨⟨.devInfo H, H, _, stOf (W.putB (Rg.mbx 0) Rg.mbxProto true), rfl, by decide +kernel⟩,
   ⟨.plateStatus ({ port := .jtag, tag := 0 }) 1, _, _, stOf W, rfl, by decide +kernel⟩,
   ⟨.dlClearDegrade { port := .svc, tag := 0 } 0, _, _, stOf W, rfl, by decide +kernel⟩,
   ⟨.plateStatus H 1, _, _, stOf (stg 2 W), rfl, by decide +kernel⟩,
   ⟨.v1Info H, _, _, _, stOf W, rfl, by decide +kernel⟩,
   ⟨.cfgStatus ({ port := .jtag, tag := 0 }) 1, _, _, _, stOf (W.putB (Rg.mbx 4) Rg.mbxProto true), rfl, by decide +kernel⟩,
   ⟨.regWr { port := .svc, tag := 0 } 0 0, _, _, _, stOf (W.putB (Rg.mbx 3) Rg.mbxProto true), rfl, by decide +kernel⟩,
   ⟨.cfgStatus H 1, _, _, _, stOf (stg 2 (W.putB (Rg.mbx 0) Rg.mbxProto true)), rfl, by decide +kernel⟩⟩

/-- What the clauses of DramSets suppose is met. -/
theorem test_meets_DramSets :
    (∃ (s : Block) (a : Nat), s.dmap.caps.length = 8 ∧ (∀ (c : Nat), c ∈ s.dmap.caps → c ≤ 274877906944 ∧ c % granBytes s.dmap.gran = 0) ∧ a <
    2199023255552 ∧ s.dmap.mode = 0) ∧
    (∃ (s : Block) (a : Nat) (ch : Nat) (off : Nat), s.dmap.caps.length = 8 ∧ (∀ (c : Nat), c ∈ s.dmap.caps → c ≤ 274877906944 ∧ c % granBytes
    s.dmap.gran = 0) ∧ a < 2199023255552 ∧ s.dmap.mode = 0 ∧ destOf s a = Dest.dram ch off) ∧
    (∃ (s : Block) (a : Nat), s.dmap.caps.length = 8 ∧ (∀ (c : Nat), c ∈ s.dmap.caps → c ≤ 274877906944 ∧ c % granBytes s.dmap.gran = 0) ∧ a <
    2199023255552 ∧ s.dmap.mode = 0 ∧ 8 * minCap s.dmap.caps ≤ a) ∧
    (∃ (s : Block) (a : Nat), s.dmap.caps.length = 8 ∧ (∀ (c : Nat), c ∈ s.dmap.caps → c ≤ 274877906944 ∧ c % granBytes s.dmap.gran = 0) ∧ a <
    2199023255552 ∧ s.dmap.mode = 1) ∧
    (∃ (s : Block) (a : Nat) (ch : Nat) (off : Nat), s.dmap.caps.length = 8 ∧ (∀ (c : Nat), c ∈ s.dmap.caps → c ≤ 274877906944 ∧ c % granBytes
    s.dmap.gran = 0) ∧ a < 2199023255552 ∧ s.dmap.mode = 1 ∧ destOf s a = Dest.dram ch off) ∧
    (∃ (s : Block) (a : Nat), s.dmap.caps.length = 8 ∧ (∀ (c : Nat), c ∈ s.dmap.caps → c ≤ 274877906944 ∧ c % granBytes s.dmap.gran = 0) ∧ a <
    2199023255552 ∧ s.dmap.mode = 1 ∧ 4 * minCap (List.take 4 (List.drop (4 * (a / 1099511627776)) s.dmap.caps)) ≤ a % 1099511627776) ∧
    (∃ (s : Block) (a : Nat), s.dmap.caps.length = 8 ∧ (∀ (c : Nat), c ∈ s.dmap.caps → c ≤ 274877906944 ∧ c % granBytes s.dmap.gran = 0) ∧ a <
    2199023255552 ∧ s.dmap.mode = 2) :=
  ⟨⟨{ W with dmap := { mode := 0, gran := 2, caps := [8192, 4096, 4096, 4096, 4096, 4096, 4096, 274877906944] } }, 32767, by decide +kernel⟩,
   ⟨{ W with dmap := { mode := 0, gran := 2, caps := [8192, 4096, 4096, 4096, 4096, 4096, 4096, 274877906944] } }, 32767, 7, 4095, by decide +kernel⟩,
   ⟨{ W with dmap := { mode := 0, gran := 2, caps := [8192, 4096, 4096, 4096, 4096, 4096, 4096, 274877906944] } }, 32768, by decide +kernel⟩,
   ⟨{ W with dmap := { mode := 1, gran := 2, caps := [8192, 4096, 4096, 4096, 4096, 4096, 4096, 274877906944] } }, 2199023255551, by decide +kernel⟩,
   ⟨{ W with dmap := { mode := 1, gran := 2, caps := [8192, 4096, 4096, 4096, 4096, 4096, 4096, 274877906944] } }, 1099511627776, 4, 0,
   by decide +kernel⟩,
   ⟨{ W with dmap := { mode := 1, gran := 2, caps := [8192, 4096, 4096, 4096, 4096, 4096, 4096, 274877906944] } }, 1099511644160, by decide +kernel⟩,
   ⟨{ W with dmap := { mode := 2, gran := 2, caps := [8192, 4096, 4096, 4096, 4096, 4096, 4096, 274877906944] } }, 2199023255551, by decide +kernel⟩⟩

/-- What the clauses of DramHome suppose is met. -/
theorem test_meets_DramHome :
    (∃ (s : Block) (ch : Nat) (off : Nat) (a : Nat), (s.dmap.mode = 0 ∨ s.dmap.mode = 1 ∨ s.dmap.mode = 2) ∧ destOf s a = Dest.dram ch off) ∧
    (∃ (s : Block) (ch : Nat) (off : Nat), (s.dmap.mode = 0 ∨ s.dmap.mode = 1 ∨ s.dmap.mode = 2) ∧ ch < 8 ∧ off < mappedCap s.dmap ch ∧ off <
    274877906944) :=
  ⟨⟨{ W with dmap := { mode := 0, gran := 2, caps := [8192, 4096, 4096, 4096, 4096, 4096, 4096, 274877906944] } }, 7, 4095, 32767, by decide +kernel⟩,
   ⟨{ W with dmap := { mode := 2, gran := 2, caps := [8192, 4096, 4096, 4096, 4096, 4096, 4096, 274877906944] } }, 7, 274877906943, by decide +kernel⟩⟩

/-- What the clauses of PulseFilter suppose is met. -/
theorem test_meets_PulseFilter :
    (∃ (lowNs : Nat), lowNs < 1000) ∧
    (∃ (lowNs : Nat), 1000 ≤ lowNs ∧ lowNs < 10000) :=
  ⟨⟨999, by decide +kernel⟩,
   ⟨9999, by decide +kernel⟩⟩

/-- What the clauses of StartEvents suppose is met. -/
theorem test_meets_StartEvents :
    (∃ (lowNs : Nat), 10000 ≤ lowNs) ∧
    (∃ (s : State), s.blk.start.inReset = true) ∧
    (∃ (s : State), Running s.blk ∧ stageOf s.blk = 0 ∧ s.blk.gr.up = true ∧ s.blk.start.imageChosen = true) ∧
    (∃ (s : State), Running s.blk ∧ stageOf s.blk = 1 ∧ s.blk.start.fabricCleared = true ∧ linksSettled s.blk = true) ∧
    (∃ (s : State), Running s.blk ∧ stageOf s.blk = 2) ∧
    (∃ (s : State), Running s.blk ∧ stageOf s.blk = 3 ∧ s.blk.start.trainingEnded = true ∧ firmwareRuns s.blk = true ∧ setting s.blk 3 = 0) ∧
    (∃ (s : State) (l : Load) (b : Block), Running s.blk ∧ stageOf s.blk = 3 ∧ s.blk.start.trainingEnded = true ∧ firmwareRuns s.blk = true ∧ setting
    s.blk 3 = 1 ∧ s.blk.start.bootReleased = false ∧ ((s.blk.cfg.loads.any fun l => l.boot) = false) ∧ checkPlate
    { op2 := 0, flash := true, addr := setting s.blk 4, len := none, freeze := false, retain := false, target := 0, region := 0, policy := 0, moveFrom := none, auto := false, boot := true }
    s.blk = (Sum.inr l, b)) :=
  ⟨⟨10000, by decide +kernel⟩,
   ⟨State.reset, by decide +kernel⟩,
   ⟨stOf (stg 0 W), runs_of (by decide +kernel), by decide +kernel⟩,
   ⟨stOf (stg 1 W), runs_of (by decide +kernel), by decide +kernel⟩,
   ⟨stOf (stg 2 W), runs_of (by decide +kernel), by decide +kernel⟩,
   ⟨stOf (W), runs_of (by decide +kernel), by decide +kernel⟩,
   ⟨stOf bootW, rightOr load0 _, _, runs_of (by decide +kernel), by decide +kernel, by decide +kernel, by decide +kernel, by decide +kernel,
   by decide +kernel, by decide +kernel, pair_of (right_of load0 (by decide +kernel))⟩⟩

/-- What the clauses of ResetCommands suppose is met. -/
theorem test_meets_ResetCommands :
    (∃ (s : State) (h : Hdr) (d : Nat), Admitted s.blk h { op := 5, ports := [Port.h0, Port.svc], stage := 2 } ∧ d < 4 ∧ s.blk.flag Rg.rst
    (Rg.dieInReset d) = false ∧ ((List.filter (fun x => s.blk.flag Rg.rst (Rg.dieInReset x)) (List.range 4)).length < 2) ∧ (cutsDie s.blk (fun _ _ =>
    true) d = false) ∧ cutsDie s.blk (edgeUp s.blk) d = false) ∧
    (∃ (s : State) (h : Hdr) (n : Nat), Admitted s.blk h { op := 6, ports := [Port.h0, Port.svc], stage := 1 } ∧ n < 3 ∧ s.blk.start.siteHeld.getLsbD
    n = false) ∧
    (∃ (s : State) (n : Fin 3), s.blk.start.inReset = false ∧ s.blk.start.siteHeld.getLsbD n.val = true ∧ 2 ≤ stageOf s.blk ∧ stageOf s.blk ≠ 7) ∧
    (∃ (s : State), s.blk.start.inReset = false ∧ s.blk.start.siteHeld.getLsbD 0 = true ∧ (stageOf s.blk < 2 ∨ stageOf s.blk = 7)) ∧
    (∃ (s : State) (d : Fin 4), Running s.blk ∧ s.blk.flag Rg.rst (Rg.dieInReset d.val) = true ∧ s.blk.start.dieHeld.getLsbD d.val = false ∧
    dieDraining s.blk d.val = false ∧ routedAround s.blk d.val = true) ∧
    (∃ (s : State) (d : Fin 4), Running s.blk ∧ s.blk.start.dieHeld.getLsbD d.val = true) :=
  ⟨⟨stOf W, H, 3, adm_of (by decide +kernel), by decide +kernel⟩,
   ⟨stOf W, H, 2, adm_of (by decide +kernel), by decide +kernel⟩,
   ⟨stOf (siteW), 2, by decide +kernel⟩,
   ⟨stOf (stg 1 siteW), by decide +kernel⟩,
   ⟨stOf (setDcState 6 0 (setDcState 7 0 (netW (fun n => { n with tables := [(0, { TableSet.default with gone := 8 })] }) (W.putB Rg.rst
   (Rg.dieInReset 3) true)))), 3, runs_of (by decide +kernel), by decide +kernel⟩,
   ⟨stOf (heldW), 3, runs_of (by decide +kernel), by decide +kernel⟩⟩

/-- What the clauses of RingPort suppose is met. -/
theorem test_meets_RingPort :
    (∃ (s : State), s.blk.start.inReset = false) ∧
    (∃ (s : State) (h : Hdr), s.blk.start.inReset = false ∧ Admitted s.blk h { op := 14, ports := [Port.h0, Port.svc], stage := 2 } ∧ ringSt s.blk = 0
    ∧ s.blk.clk.gated = false) ∧
    (∃ (s : State) (h : Hdr), s.blk.start.inReset = false ∧ Admitted s.blk h { op := 15, ports := [Port.h0, Port.svc], stage := 2 } ∧ ringSt s.blk =
    4) ∧
    (∃ (s : State), s.blk.start.inReset = false ∧ s.blk.clk.gated = false ∧ ringSt s.blk = 1 ∧ ringHears s.blk = false) ∧
    (∃ (s : State), s.blk.start.inReset = false ∧ s.blk.clk.gated = false ∧ ringHears s.blk = true ∧ ringSt (ringRefLost (s.blk.putB Rg.ring
    Rg.ringLocked false)) = 2) ∧
    (∃ (s : State) (length : BitVec 16), s.blk.start.inReset = false ∧ s.blk.clk.gated = false ∧ ringHears s.blk = true ∧ s.blk.flag Rg.ring
    Rg.ringBypassOpen = false ∧ 10 ≤ length.toNat ∧ (ringSt s.blk = 2 ∨ ringSt s.blk = 4 ∨ ringSt s.blk = 5)) ∧
    (∃ (s : State), s.blk.start.inReset = false ∧ s.blk.clk.gated = false ∧ s.blk.ring.window.isSome = true ∧ ringSt s.blk = 2 ∧ s.blk.ring.vccaux =
    true) ∧
    (∃ (s : State), s.blk.start.inReset = false ∧ s.blk.clk.gated = false ∧ s.blk.ring.window.isSome = true ∧ ringSt s.blk = 5) ∧
    (∃ (s : State), s.blk.start.inReset = false ∧ s.blk.clk.gated = false ∧ ringThrough s.blk = true ∧ ringSt s.blk = 3) ∧
    (∃ (s : State), s.blk.start.inReset = false ∧ s.blk.clk.gated = false ∧ ringActs s.blk = true) ∧
    (∃ (s : State), s.blk.start.inReset = false ∧ s.blk.clk.gated = false ∧ ringSt s.blk = 4 ∧ ringThrough s.blk = true) ∧
    (∃ (s : State) (p : BitVec 64), s.blk.start.inReset = false ∧ s.blk.clk.gated = false ∧ ringThrough s.blk = true ∧ ringHears s.blk = true ∧
    ringCrcOk p = false) ∧
    (∃ (s : State) (p : BitVec 64), s.blk.start.inReset = false ∧ s.blk.clk.gated = false ∧ ringThrough s.blk = true ∧ ringHears s.blk = true ∧
    ringCrcOk p = true ∧ [1, 2, 16, 17, 18].contains (pktByte p 1) = false) ∧
    (∃ (s : State), s.blk.start.inReset = false ∧ s.blk.clk.gated = false ∧ ringSt s.blk = 2 ∧ s.blk.ring.timeoutRaised = false) :=
  ⟨⟨stOf W, by decide +kernel⟩,
   ⟨stOf W, H, by decide +kernel, adm_of (by decide +kernel), by decide +kernel⟩,
   ⟨stOf (W.put Rg.ring Rg.ringState 4), H, by decide +kernel, adm_of (by decide +kernel), by decide +kernel⟩,
   ⟨stOf (W.put Rg.ring Rg.ringState 1), by decide +kernel⟩,
   ⟨stOf ((W.put Rg.ring Rg.ringState 2).putB Rg.ring Rg.ringLocked true), by decide +kernel⟩,
   ⟨stOf ((W.put Rg.ring Rg.ringState 2).putB Rg.ring Rg.ringLocked true), 10, by decide +kernel⟩,
   ⟨stOf (modRing (fun r => { r with window := some (0, 10) }) (W.put Rg.ring Rg.ringState 2)), by decide +kernel⟩,
   ⟨stOf (modRing (fun r => { r with window := some (0, 10) }) (W.put Rg.ring Rg.ringState 5)), by decide +kernel⟩,
   ⟨stOf (((W.put Rg.ring Rg.ringState 3).putB Rg.ring Rg.ringLocked true).putB Rg.ring Rg.ringBypassOpen true), by decide +kernel⟩,
   ⟨stOf (((W.put Rg.ring Rg.ringState 4).putB Rg.ring Rg.ringLocked true).putB Rg.ring Rg.ringBypassOpen true), by decide +kernel⟩,
   ⟨stOf (((W.put Rg.ring Rg.ringState 4).putB Rg.ring Rg.ringLocked true).putB Rg.ring Rg.ringBypassOpen true), by decide +kernel⟩,
   ⟨stOf (((W.put Rg.ring Rg.ringState 4).putB Rg.ring Rg.ringLocked true).putB Rg.ring Rg.ringBypassOpen true), 0, by decide +kernel⟩,
   ⟨stOf (((W.put Rg.ring Rg.ringState 4).putB Rg.ring Rg.ringLocked true).putB Rg.ring Rg.ringBypassOpen true), 0x4ba300000000ffbc,
   by decide +kernel⟩,
   ⟨stOf (W.put Rg.ring Rg.ringState 2), by decide +kernel⟩⟩

/-- What the clauses of ClockEvents suppose is met. -/
theorem test_meets_ClockEvents :
    (∃ (s : State), Running s.blk) ∧
    (∃ (s : State), Running s.blk ∧ s.blk.flag Rg.clk Rg.clkClockFault = false) ∧
    (∃ (s : State), Running s.blk ∧ s.blk.flag Rg.clk Rg.clkClockFault = false ∧ s.blk.flag Rg.ring Rg.ringLocked = true) ∧
    (∃ (s : State), Running s.blk ∧ s.blk.flag Rg.clk Rg.clkLocked = true) ∧
    (∃ (s : State) (d : Fin 4) (p : Fin 16), Running s.blk ∧ dieOff s.blk d.val = false ∧ s.blk.flag (Rg.fpll d.val p.val) Rg.fpllLocked = true) ∧
    (∃ (s : State) (d : Fin 4) (p : Fin 16), Running s.blk ∧ dieOff s.blk d.val = false ∧ s.blk.flag (Rg.fpll d.val p.val) Rg.fpllInUse = true) :=
  ⟨⟨stOf W, runs_of (by decide +kernel)⟩,
   ⟨stOf W, runs_of (by decide +kernel), by decide +kernel⟩,
   ⟨stOf ((W.putB Rg.clk Rg.clkPrimary true).putB Rg.ring Rg.ringLocked true), runs_of (by decide +kernel), by decide +kernel⟩,
   ⟨stOf (W.putB Rg.clk Rg.clkLocked true), runs_of (by decide +kernel), by decide +kernel⟩,
   ⟨stOf (W.putB (Rg.fpll 3 15) Rg.fpllLocked true), 3, 15, runs_of (by decide +kernel), by decide +kernel⟩,
   ⟨stOf (W.putB (Rg.fpll 3 15) Rg.fpllInUse true), 3, 15, runs_of (by decide +kernel), by decide +kernel⟩⟩

/-- What the clauses of FabricEvents suppose is met. -/
theorem test_meets_FabricEvents :
    (∃ (s : State) (e : Fin 4) (g : Fin 768) (w : Fin 34) (k : Nat) (side : Nat) (margin : BitVec 6), Running s.blk ∧ seamSender s.blk e.val g.val =
    some side ∧ seamLogical s.blk e.val g.val w.val = some k ∧ s.blk.flag (seamEnd e.val g.val 0) Rg.sgLost = false ∧ seamSteerOf s.blk e.val g.val k
    = none ∧ margin.toNat < s.blk.f (Rg.seam (seamDie e.val (1 - side))) Rg.seamMarginMin) ∧
    (∃ (s : State) (e : Fin 4) (g : Fin 768) (w : Fin 34) (k : Nat) (side : Nat), Running s.blk ∧ seamSender s.blk e.val g.val = some side ∧
    seamLogical s.blk e.val g.val w.val = some k ∧ s.blk.flag (seamEnd e.val g.val 0) Rg.sgLost = false) ∧
    (∃ (s : State), s.blk.start.inReset = false) :=
  ⟨⟨stOf ((cfgPut (cfgKey 151 .seamDir 95 0) 1 (inState 3 255 151 W)).put (Rg.seam 3) Rg.seamMarginMin 8), 3, 767, 31, 31, 0, 0, runs_of
   (by decide +kernel), by decide +kernel⟩,
   ⟨stOf ((cfgPut (cfgKey 151 .seamDir 95 0) 1 (inState 3 255 151 W)).put (Rg.seam 3) Rg.seamMarginMin 8), 3, 767, 31, 31, 0, runs_of
   (by decide +kernel), by decide +kernel⟩,
   ⟨stOf W, by decide +kernel⟩⟩

/-- What the clauses of FabricRamCycles suppose is met. -/
theorem test_meets_FabricRamCycles :
    (∃ (s : State) (k : Fin 320) (i : Fin 68), RunsOn s.blk (k.val / 80) ∧ (ramSet s.blk k.val i.val).mode ≠ RamMode.queue ∧ portRuns s.blk k.val
    i.val false = true) ∧
    (∃ (s : State) (k : Fin 320) (i : Fin 68), RunsOn s.blk (k.val / 80) ∧ (ramSet s.blk k.val i.val).mode ≠ RamMode.queue ∧ portRuns s.blk k.val
    i.val true = true) ∧
    (∃ (s : State) (k : Fin 320) (i : Fin 68), RunsOn s.blk (k.val / 80) ∧ (ramSet s.blk k.val i.val).mode ≠ RamMode.queue ∧ portRuns s.blk k.val
    i.val false = true ∧ portRuns s.blk k.val i.val true = true) ∧
    (∃ (s : State) (k : Fin 320) (t : Fin 8), RunsOn s.blk (k.val / 80) ∧ (ramSet s.blk k.val (60 + t.val)).mode = RamMode.queue ∧ portRuns s.blk
    k.val (60 + t.val) false = true) ∧
    (∃ (s : State) (k : Fin 320) (t : Fin 8), RunsOn s.blk (k.val / 80) ∧ (ramSet s.blk k.val (60 + t.val)).mode = RamMode.queue ∧ portRuns s.blk
    k.val (60 + t.val) true = true) ∧
    (∃ (s : State) (k : Fin 320) (i : Fin 68), RunsOn s.blk (k.val / 80) ∧ scrubs s.blk k.val i.val = true) ∧
    (∃ (s : State) (k : Fin 320) (i : Fin 68) (w : Nat), RunsOn s.blk (k.val / 80) ∧ (getRam s.blk k.val i.val).scrubBack = some w ∧ scrubs s.blk
    k.val (cascadeHead s.blk k.val i.val) = true) ∧
    (∃ (s : State) (k : Fin 320) (i : Fin 68), RunsOn s.blk (k.val / 80) ∧ scrubs s.blk k.val i.val = true ∧ (spGet (fun _ => false) s.blk.once
    (starvedKey k.val i.val) = false)) :=
  ⟨⟨stOf (ramW 67 1 id []), 319, 67, runsOn_of (by decide +kernel), by decide +kernel⟩,
   ⟨stOf (ramW 67 1 id []), 319, 67, runsOn_of (by decide +kernel), by decide +kernel⟩,
   ⟨stOf (ramW 67 1 id []), 319, 67, runsOn_of (by decide +kernel), by decide +kernel⟩,
   ⟨stOf (ramW 67 5 id []), 319, 7, runsOn_of (by decide +kernel), by decide +kernel⟩,
   ⟨stOf (ramW 67 5 id []), 319, 7, runsOn_of (by decide +kernel), by decide +kernel⟩,
   ⟨stOf ((ramW 67 1 (fun r => { r with scrubBack := some 511 }) [(.ramEcc, 67, 0, 1), (.ramScrub, 67, 0, 1)]).putB (Rg.fram 3) Rg.scrubGlobalEn
   true), 319, 67, runsOn_of (by decide +kernel), by decide +kernel⟩,
   ⟨stOf ((ramW 67 1 (fun r => { r with scrubBack := some 511 }) [(.ramEcc, 67, 0, 1), (.ramScrub, 67, 0, 1)]).putB (Rg.fram 3) Rg.scrubGlobalEn
   true), 319, 67, 511, runsOn_of (by decide +kernel), by decide +kernel⟩,
   ⟨stOf ((ramW 67 1 (fun r => { r with scrubBack := some 511 }) [(.ramEcc, 67, 0, 1), (.ramScrub, 67, 0, 1)]).putB (Rg.fram 3) Rg.scrubGlobalEn
   true), 319, 67, runsOn_of (by decide +kernel), by decide +kernel⟩⟩

/-- What the clauses of EngineInstructions suppose is met. -/
theorem test_meets_EngineInstructions :
    (∃ (s : State) (e : Fin 15360) (w : Nat), RunsOn s.blk (e.val / 3840) ∧ EngineAt s.blk e.val 0 w) ∧
    (∃ (s : State) (e : Fin 15360) (w : Nat), RunsOn s.blk (e.val / 3840) ∧ EngineAt s.blk e.val 1 w ∧ stallsIn (engSettle (getEng s.blk e.val))
    [ifld w 59 57, ifld w 56 54, ifld w 53 51] = false ∧ stallsOut (engSettle (getEng s.blk e.val)) (ifld w 37 36) = false) ∧
    (∃ (s : State) (e : Fin 15360) (w : Nat), RunsOn s.blk (e.val / 3840) ∧ EngineAt s.blk e.val 2 w ∧ stallsIn (engSettle (getEng s.blk e.val))
    [ifld w 59 57, ifld w 56 54, ifld w 53 51] = false ∧ stallsOut (engSettle (getEng s.blk e.val)) (ifld w 37 36) = false) ∧
    (∃ (s : State) (e : Fin 15360) (w : Nat), RunsOn s.blk (e.val / 3840) ∧ EngineAt s.blk e.val 3 w) ∧
    (∃ (s : State) (e : Fin 15360) (w : Nat), RunsOn s.blk (e.val / 3840) ∧ EngineAt s.blk e.val 4 w) ∧
    (∃ (s : State) (e : Fin 15360) (w : Nat), RunsOn s.blk (e.val / 3840) ∧ EngineAt s.blk e.val 5 w ∧ ifld w 59 59 = 0) ∧
    (∃ (s : State) (e : Fin 15360) (w : Nat), RunsOn s.blk (e.val / 3840) ∧ EngineAt s.blk e.val 5 w ∧ ifld w 59 59 = 1 ∧ stallsIn (engSettle (getEng
    s.blk e.val)) [ifld w 56 54] = false) ∧
    (∃ (s : State) (e : Fin 15360) (w : Nat), RunsOn s.blk (e.val / 3840) ∧ EngineAt s.blk e.val 8 w) ∧
    (∃ (s : State) (e : Fin 15360) (w : Nat), RunsOn s.blk (e.val / 3840) ∧ EngineAt s.blk e.val 9 w) ∧
    (∃ (s : State) (e : Fin 15360) (w : Nat), RunsOn s.blk (e.val / 3840) ∧ EngineAt s.blk e.val 10 w) ∧
    (∃ (s : State) (e : Fin 15360) (w : Nat), RunsOn s.blk (e.val / 3840) ∧ EngineAt s.blk e.val 11 w ∧ engCond (engSettle (getEng s.blk e.val)) (ifld
    w 59 57) = true) ∧
    (∃ (s : State) (e : Fin 15360) (w : Nat), RunsOn s.blk (e.val / 3840) ∧ EngineAt s.blk e.val 12 w) ∧
    (∃ (s : State) (e : Fin 15360) (w : Nat), RunsOn s.blk (e.val / 3840) ∧ EngineAt s.blk e.val 15 w) :=
  ⟨⟨stOf (engW 0x0), 15359, 0x0, runsOn_of (by decide +kernel), engineAt_of (by decide +kernel)⟩,
   ⟨stOf (engW 0x12a8001000000000), 15359, 0x12a8001000000000, runsOn_of (by decide +kernel), engineAt_of (by decide +kernel), by decide +kernel⟩,
   ⟨stOf (engW 0x2288000000000000), 15359, 0x2288000000000000, runsOn_of (by decide +kernel), engineAt_of (by decide +kernel), by decide +kernel⟩,
   ⟨stOf (engW 0x3000000000000000), 15359, 0x3000000000000000, runsOn_of (by decide +kernel), engineAt_of (by decide +kernel)⟩,
   ⟨stOf (engW 0x4000000000100800), 15359, 0x4000000000100800, runsOn_of (by decide +kernel), engineAt_of (by decide +kernel)⟩,
   ⟨stOf (engW 0x5000000000000000), 15359, 0x5000000000000000, runsOn_of (by decide +kernel), engineAt_of (by decide +kernel), by decide +kernel⟩,
   ⟨stOf (engW 0x5900000000000000 (fun g => { g with ib := [1] })), 15359, 0x5900000000000000, runsOn_of (by decide +kernel), engineAt_of
   (by decide +kernel), by decide +kernel⟩,
   ⟨stOf (engW 0x8000000000000000), 15359, 0x8000000000000000, runsOn_of (by decide +kernel), engineAt_of (by decide +kernel)⟩,
   ⟨stOf (engW 0x9000f80000000000), 15359, 0x9000f80000000000, runsOn_of (by decide +kernel), engineAt_of (by decide +kernel)⟩,
   ⟨stOf (engW 0xac00f80000000000 ), 15359, 0xac00f80000000000, runsOn_of (by decide +kernel), engineAt_of (by decide +kernel)⟩,
   ⟨stOf (engW 0xbc00000000000000 (fun g => { g with flags := 1 })), 15359, 0xbc00000000000000, runsOn_of (by decide +kernel), engineAt_of
   (by decide +kernel), by decide +kernel⟩,
   ⟨stOf (engW 0xce00000000000000), 15359, 0xce00000000000000, runsOn_of (by decide +kernel), engineAt_of (by decide +kernel)⟩,
   ⟨stOf (engW 0xf000000000000000), 15359, 0xf000000000000000, runsOn_of (by decide +kernel), engineAt_of (by decide +kernel)⟩⟩

/-- What the clauses of EnginePorts suppose is met. -/
theorem test_meets_EnginePorts :
    (∃ (s : State) (e : Fin 15360), RunsOn s.blk (e.val / 3840) ∧ engInReset s.blk e.val = false ∧ (getEng s.blk e.val).mode = EngMode.idle) ∧
    (∃ (s : State) (e : Fin 15360), RunsOn s.blk (e.val / 3840) ∧ engUp s.blk e.val = true ∧ (getEng s.blk e.val).mode = EngMode.running ∧ (getEng
    s.blk e.val).rep = none ∧ (getEng s.blk e.val).inProgress = false) ∧
    (∃ (s : State) (e : Fin 15360), RunsOn s.blk (e.val / 3840) ∧ (getEng s.blk e.val).mode = EngMode.running ∧ ((getEng s.blk e.val).rep.isSome ||
    (getEng s.blk e.val).inProgress) = true) ∧
    (∃ (s : State) (e : Fin 15360), RunsOn s.blk (e.val / 3840) ∧ engUp s.blk e.val = true ∧ (getEng s.blk e.val).mode = EngMode.halted) ∧
    (∃ (s : State) (e : Fin 15360), RunsOn s.blk (e.val / 3840) ∧ engUp s.blk e.val = true ∧ (getEng s.blk e.val).mode = EngMode.idle ∧ (getEng s.blk
    e.val).startReq = true) ∧
    (∃ (s : State) (e : Fin 15360), RunsOn s.blk (e.val / 3840) ∧ fifoUp s.blk e.val 1 = true ∧ (getEng s.blk e.val).ib.length < 16) ∧
    (∃ (s : State) (e : Fin 15360), RunsOn s.blk (e.val / 3840) ∧ fifoUp s.blk e.val 0 = true ∧ (getEng s.blk e.val).ia.length < 16) ∧
    (∃ (s : State) (e : Fin 15360), RunsOn s.blk (e.val / 3840) ∧ fifoUp s.blk e.val 2 = true) ∧
    (∃ (s : State) (e : Fin 15360), RunsOn s.blk (e.val / 3840) ∧ engUp s.blk e.val = true ∧ (getEng s.blk e.val).mode = EngMode.draining) ∧
    (∃ (s : State) (e : Fin 15360), RunsOn s.blk (e.val / 3840)) :=
  ⟨⟨stOf (engW 0 (fun g => { g with mode := .idle })), 15359, runsOn_of (by decide +kernel), by decide +kernel⟩,
   ⟨stOf (engW 0 (fun g => { g with rep := none })), 15359, runsOn_of (by decide +kernel), by decide +kernel⟩,
   ⟨stOf (engW 0 (fun g => { g with rep := some 1 })), 15359, runsOn_of (by decide +kernel), by decide +kernel⟩,
   ⟨stOf (engW 0 (fun g => { g with mode := .halted })), 15359, runsOn_of (by decide +kernel), by decide +kernel⟩,
   ⟨stOf (engW 0 (fun g => { g with mode := .idle, startReq := true })), 15359, runsOn_of (by decide +kernel), by decide +kernel⟩,
   ⟨stOf (engW 0 (fun g => { g with ib := List.replicate 15 0 })), 15359, runsOn_of (by decide +kernel), by decide +kernel⟩,
   ⟨stOf (engW 0 (fun g => { g with ia := List.replicate 15 0 })), 15359, runsOn_of (by decide +kernel), by decide +kernel⟩,
   ⟨stOf (engW 0 (fun g => { g with rep := none })), 15359, runsOn_of (by decide +kernel), by decide +kernel⟩,
   ⟨stOf (engW 0 (fun g => { g with mode := .draining })), 15359, runsOn_of (by decide +kernel), by decide +kernel⟩,
   ⟨stOf (engW 0 (fun g => { g with rep := none })), 15359, runsOn_of (by decide +kernel)⟩⟩

/-- What the clauses of PlateCommands suppose is met. -/
theorem test_meets_PlateCommands :
    (∃ (s : State) (h : Hdr) (src : Nat) (fr : Nat) (ret : Nat) (target : Nat) (region : Nat) (policy : Nat) (addr : Nat) (len : Nat) (l : Load) (b :
    Block), Admitted s.blk h { op := 256, ports := [Port.h0, Port.p1, Port.p2, Port.svc, Port.fab], stage := 3 } ∧ s.blk.start.trainingEnded = true ∧
    src < 2 ∧ fr < 2 ∧ ret < 2 ∧ checkPlate
    { op2 := 256, flash := src == 1, addr := addr, len := some len, freeze := fr == 1, retain := ret == 1, target := target, region := region % 256, policy := BitVec.ofNat 32 policy, moveFrom := none, auto := false, boot := false }
    s.blk = (Sum.inr l, b)) ∧
    (∃ (s : State) (h : Hdr) (r : Nat) (target : Nat) (q : LoadAsk) (b : Block) (b' : Block) (l : Load), Admitted s.blk h
    { op := 257, ports := [Port.h0, Port.p1, Port.p2, Port.svc, Port.fab], stage := 3 } ∧ 1 ≤ r ∧ r < 256 ∧ relocAsk s.blk r (if target = 65535 then
    (suitableSpares s.blk r).headD 65535 else target) 257 false = some q ∧ ((s.blk.cfg.loads.any fun x => x.regions.contains r) = false) ∧ inCutover
    s.blk r = false ∧ retainedOk s.blk r = (true, b) ∧ checkPlate q b = (Sum.inr l, b')) ∧
    (∃ (s : State) (h : Hdr) (r : Nat), 1 ≤ r ∧ r < 256 ∧ Admitted s.blk h
    { op := 258, ports := [Port.h0, Port.p1, Port.p2, Port.svc, Port.fab], stage := 3 } ∧ regionLive s.blk r = true ∧ held s.blk [258] r = false ∧
    ((s.blk.cfg.freezes.any fun f => f.region == r) = false)) ∧
    (∃ (s : State) (h : Hdr) (r : Nat), 1 ≤ r ∧ r < 256 ∧ Admitted s.blk h
    { op := 260, ports := [Port.h0, Port.p1, Port.p2, Port.svc, Port.fab], stage := 3 } ∧ regionLive s.blk r = true ∧ held s.blk [260] r = false) ∧
    (∃ (s : State) (h : Hdr) (r : Nat), 1 ≤ r ∧ r < 256 ∧ Admitted s.blk h
    { op := 261, ports := [Port.h0, Port.p1, Port.p2, Port.svc, Port.fab], stage := 3 } ∧ (regionState s.blk r = 2 ∨ regionState s.blk r = 4) ∧
    ((s.blk.cfg.loads.any fun l => l.regions.contains r) = false) ∧ inCutover s.blk r = false) ∧
    (∃ (s : State) (h : Hdr) (r : Nat), 1 ≤ r ∧ r < 256 ∧ Admitted s.blk h
    { op := 263, ports := [Port.h0, Port.p1, Port.p2, Port.svc, Port.fab], stage := 3 }) ∧
    (∃ (s : State) (h : Hdr) (r : Nat), 1 ≤ r ∧ r < 256 ∧ Admitted s.blk h
    { op := 264, ports := [Port.h0, Port.p1, Port.p2, Port.svc, Port.fab], stage := 3 }) ∧
    (∃ (s : State) (h : Hdr) (m : BitVec 256), Admitted s.blk h { op := 259, ports := [Port.h0, Port.p1, Port.p2, Port.svc, Port.fab], stage := 3 } ∧
    bitsOf 256 m.toNat ≠ [] ∧ ¬0 ∈ bitsOf 256 m.toNat ∧ (∀ (r : Nat), r ∈ withFull s.blk (bitsOf 256 m.toNat) → releasable s.blk r = true)) ∧
    (∃ (s : State) (h : Hdr), Admitted s.blk h { op := 262, ports := [Port.h0, Port.p1, Port.p2, Port.svc, Port.fab], stage := 3 }) :=
  ⟨⟨stOf (plateW plate), H, 1, 1, 1, 0, 1, 0, 0, 0x300, rightOr load0 _, _, adm_of (by decide +kernel), by decide +kernel, by decide +kernel,
   by decide +kernel, by decide +kernel, pair_of (right_of load0 (by decide +kernel))⟩,
   ⟨stOf (relocW), H, 255, 0, _, _, _, rightOr load0 _, adm_of (by decide +kernel), by decide +kernel, by decide +kernel, rfl, by decide +kernel,
   by decide +kernel, pair_of (by decide +kernel), pair_of (right_of load0 (by decide +kernel))⟩,
   ⟨stOf W, H, 255, by decide +kernel, by decide +kernel, adm_of (by decide +kernel), by decide +kernel⟩,
   ⟨stOf W, H, 255, by decide +kernel, by decide +kernel, adm_of (by decide +kernel), by decide +kernel⟩,
   ⟨stOf W, H, 254, by decide +kernel, by decide +kernel, adm_of (by decide +kernel), by decide +kernel⟩,
   ⟨stOf W, H, 255, by decide +kernel, by decide +kernel, adm_of (by decide +kernel)⟩,
   ⟨stOf W, H, 1, by decide +kernel, by decide +kernel, adm_of (by decide +kernel)⟩,
   ⟨stOf W, H, 2 ^ 254, adm_of (by decide +kernel), by decide +kernel, by decide +kernel, by decide +kernel⟩,
   ⟨stOf W, H, adm_of (by decide +kernel)⟩⟩

/-- What the clauses of PlateEvents suppose is met. -/
theorem test_meets_PlateEvents :
    (∃ (s : State) (id : Nat) (i : Nat) (n : Nat) (l : Load) (rest : List (Nat × Nat)) (d : PlateSec) (bs : List Nat), Running s.blk ∧
    s.blk.gr.restarting = false ∧ (List.find? (fun x => x.id == id) s.blk.cfg.loads = some l) ∧ l.state = 1 ∧ l.records = (i, n) :: rest ∧ (List.find?
    (fun x => x.index == i) l.secs = some d) ∧ sectionBytes l d = Sum.inr bs ∧ fieldAt (frameRecord bs n) 260 4 ≠ crc32 (List.take 260 (frameRecord bs
    n))) ∧
    (∃ (s : State) (id : Nat) (i : Nat) (n : Nat) (l : Load) (rest : List (Nat × Nat)) (d : PlateSec) (bs : List Nat), Running s.blk ∧
    s.blk.gr.restarting = false ∧ (List.find? (fun x => x.id == id) s.blk.cfg.loads = some l) ∧ l.state = 1 ∧ l.records = (i, n) :: rest ∧ (List.find?
    (fun x => x.index == i) l.secs = some d) ∧ sectionBytes l d = Sum.inr bs ∧ fieldAt (frameRecord bs n) 260 4 = crc32 (List.take 260 (frameRecord bs
    n)) ∧ (frameNames d (fieldAt (frameRecord bs n) 0 4) && frameAllowed l (recordSector l d) (recordFrame (frameRecord bs n)) (frameData (frameRecord
    bs n)) s.blk) = false) ∧
    ((∀ b, Config.frameBit 1 6655 b = none) → (∃ (s : State) (id : Nat) (i : Nat) (n : Nat) (l : Load) (rest : List (Nat × Nat)) (d : PlateSec) (bs :
    List Nat), Running s.blk ∧ s.blk.gr.restarting = false ∧ (List.find? (fun x => x.id == id) s.blk.cfg.loads = some l) ∧ l.state = 1 ∧ l.records =
    (i, n) :: rest ∧ (List.find? (fun x => x.index == i) l.secs = some d) ∧ sectionBytes l d = Sum.inr bs ∧ fieldAt (frameRecord bs n) 260 4 = crc32
    (List.take 260 (frameRecord bs n)) ∧ frameNames d (fieldAt (frameRecord bs n) 0 4) = true ∧ frameAllowed l (recordSector l d) (recordFrame
    (frameRecord bs n)) (frameData (frameRecord bs n)) s.blk = true)) ∧
    (∃ (s : State) (id : Nat) (l : Load) (dies : List DieSettings) (rs : List (Nat × List RamRec)), Running s.blk ∧ s.blk.gr.restarting = false ∧
    (List.find? (fun x => x.id == id) s.blk.cfg.loads = some l) ∧ l.state = 1 ∧ l.records = [] ∧ sectionsBad l = none ∧ loadRams l = Sum.inr rs ∧
    List.findSome? (settingsConflict s.blk l) (if l.hdr.kind = 2 then [] else dies) = none) ∧
    (∃ (s : State) (id : Nat) (l : Load) (sig : Bool) (b : Block), Running s.blk ∧ s.blk.gr.restarting = false ∧ (List.find? (fun x => x.id == id)
    s.blk.cfg.loads = some l) ∧ l.state = 2 ∧ pllsLocked s.blk l.plls = true ∧ plateSigned l s.blk = (some sig, b) ∧ digestsOk l = true ∧ (sig = true
    ∨ l.moveFrom.isSome = true) ∧ (counterReading b 1 ≤ l.hdr.svn ∨ l.moveFrom.isSome = true)) ∧
    (∃ (s : State), Running s.blk ∧ s.blk.gr.restarting = false) ∧
    (∃ (s : State) (r : Nat) (y : Cutover), Running s.blk ∧ s.blk.gr.restarting = false ∧ (List.find? (fun x => x.region == r && x.step == 0)
    s.blk.cfg.cutovers = some y)) ∧
    (∃ (s : State) (i : Nat) (x : Link) (r : List Hop), Running s.blk ∧ s.blk.gr.restarting = false ∧ getLink s.blk i = some x ∧ x.hops.any (hopLost
    s.blk) = true ∧ routeOk s.blk i x (timedHops x.latency r) = true) ∧
    (∃ (s : State) (i : Nat) (x : Link), Running s.blk ∧ s.blk.gr.restarting = false ∧ getLink s.blk i = some x ∧ x.hops.any (hopLost s.blk) = true) ∧
    (∃ (s : State) (d : Fin 4), Running s.blk ∧ s.blk.gr.restarting = false ∧ dieOff s.blk d.val = false ∧ (secState s.blk (80 * d.val + spGet (fun _
    => 0) s.blk.cfg.scrubPos d.val / 6656) ≠ 1) ∧ (spGet (fun _ => []) s.blk.cfg.upsets (6656 * (80 * d.val + spGet (fun _ => 0) s.blk.cfg.scrubPos
    d.val / 6656) + spGet (fun _ => 0) s.blk.cfg.scrubPos d.val % 6656) = [])) ∧
    (∃ (s : State) (d : Fin 4) (x : Nat), Running s.blk ∧ s.blk.gr.restarting = false ∧ dieOff s.blk d.val = false ∧ (secState s.blk (80 * d.val +
    spGet (fun _ => 0) s.blk.cfg.scrubPos d.val / 6656) ≠ 1) ∧ (spGet (fun _ => []) s.blk.cfg.upsets (6656 * (80 * d.val + spGet (fun _ => 0)
    s.blk.cfg.scrubPos d.val / 6656) + spGet (fun _ => 0) s.blk.cfg.scrubPos d.val % 6656) = [x])) ∧
    (∃ (s : State) (d : Fin 4) (x : Nat) (y : Nat) (l : List Nat), Running s.blk ∧ s.blk.gr.restarting = false ∧ dieOff s.blk d.val = false ∧
    (secState s.blk (80 * d.val + spGet (fun _ => 0) s.blk.cfg.scrubPos d.val / 6656) ≠ 1) ∧ (spGet (fun _ => []) s.blk.cfg.upsets (6656 * (80 * d.val
    + spGet (fun _ => 0) s.blk.cfg.scrubPos d.val / 6656) + spGet (fun _ => 0) s.blk.cfg.scrubPos d.val % 6656) = x :: y :: l)) ∧
    (∃ (s : State) (k : Fin 320) (b : Block), Running s.blk ∧ s.blk.gr.restarting = false ∧ k.val ∈ s.blk.cfg.mbeWait ∧ secState s.blk k.val = 4 ∧
    (retainedOk (modCfg (fun c =>
    { frames := c.frames, fields := c.fields, transit := c.transit, upsets := c.upsets, fixes := c.fixes, lastMbe := c.lastMbe, scrubPos := c.scrubPos, regions := c.regions, loads := c.loads, nextLoad := c.nextLoad, freezes := c.freezes, releases := c.releases, resets := c.resets, cutovers := c.cutovers, links := c.links, apOwner := c.apOwner, pinOwner := c.pinOwner, fplls := c.fplls, nets := c.nets, mbeWait := List.filter (fun x => x != k.val) c.mbeWait })
    s.blk) (secRegion s.blk k.val) = (true, b))) ∧
    (∃ (s : State) (r : Nat) (spare : Nat) (q : LoadAsk) (old : Nat) (b : Block) (b' : Block) (l : Load), Running s.blk ∧ s.blk.gr.restarting = false
    ∧ relocAsk s.blk r spare 0 true = some q ∧ q.moveFrom = some old ∧ (getRegion s.blk r).policy.getLsbD 2 = true ∧ s.blk.flag (Rg.sector old)
    Rg.secHardFault = true ∧ (secState s.blk old = 3 ∨ secState s.blk old = 4) ∧ ((s.blk.cfg.loads.any fun x => x.regions.contains r) = false) ∧
    inCutover s.blk r = false ∧ spare ∈ suitableSpares s.blk r ∧ retainedOk s.blk r = (true, b) ∧ checkPlate q b = (Sum.inr l, b')) :=
  ⟨⟨stOf (loadW (stream0 (List.replicate 264 255))), 7, 3, 0, stream0 (List.replicate 264 255), [], sec0, (List.replicate 264 255), runs_of
   (by decide +kernel), by decide +kernel⟩,
   ⟨stOf (loadW (stream0 (leBytes 4 (frameAddr 318 6655) ++ List.replicate 256 0 ++ leBytes 4 (crc32 (leBytes 4 (frameAddr 318 6655) ++ List.replicate
   256 0))))), 7, 3, 0, stream0 (leBytes 4 (frameAddr 318 6655) ++ List.replicate 256 0 ++ leBytes 4 (crc32 (leBytes 4 (frameAddr 318 6655) ++
   List.replicate 256 0))), [], sec0, (leBytes 4 (frameAddr 318 6655) ++ List.replicate 256 0 ++ leBytes 4 (crc32 (leBytes 4 (frameAddr 318 6655) ++
   List.replicate 256 0))), runs_of (by decide +kernel), by decide +kernel⟩,
   fun ha => ⟨stOf (loadW (stream0 record)), 7, 3, 0, stream0 record, [], sec0, record, runs_of (by decide +kernel), by decide +kernel,
   by decide +kernel, by decide +kernel, by decide +kernel, by decide +kernel, by decide +kernel, by decide +kernel, by decide +kernel, frame_allowed
   ha _ _ _ _ rfl⟩,
   ⟨stOf (loadW { load0 with hdr := { hdr0 with kind := 1 } }), 7, { load0 with hdr := { hdr0 with kind := 1 } }, [], [], runs_of (by decide +kernel),
   by decide +kernel⟩,
   ⟨stOf (verifyW), 7, verify0, true, _, runs_of (by decide +kernel), by decide +kernel, by decide +kernel, by decide +kernel, by decide +kernel,
   pair_of (by decide +kernel), by decide +kernel⟩,
   ⟨stOf W, runs_of (by decide +kernel), by decide +kernel⟩,
   ⟨stOf ({ W with cfg := { W.cfg with cutovers := [{ id := 0, region := 255, old := 318, new := 319, step := 0, auto := false, links := [] }] } }),
   255, { id := 0, region := 255, old := 318, new := 319, step := 0, auto := false, links := [] }, runs_of (by decide +kernel), by decide +kernel⟩,
   ⟨stOf (lostLinkW), 65535, link0, hops0 766, runs_of (by decide +kernel), by decide +kernel⟩,
   ⟨stOf (lostLinkW), 65535, link0, runs_of (by decide +kernel), by decide +kernel⟩,
   ⟨stOf ({ W with cfg := { W.cfg with scrubPos := [(3, 532479)] } }), 3, runs_of (by decide +kernel), by decide +kernel⟩,
   ⟨stOf ({ W with cfg := { W.cfg with scrubPos := [(3, 532479)], upsets := [(2129919, [2047])] } }), 3, 2047, runs_of (by decide +kernel),
   by decide +kernel⟩,
   ⟨stOf ({ W with cfg := { W.cfg with scrubPos := [(3, 532479)], upsets := [(2129919, [2047, 0])] } }), 3, 2047, 0, [], runs_of (by decide +kernel),
   by decide +kernel⟩,
   ⟨stOf (modCfg (fun c => { c with mbeWait := [318] }) (setRegion 254 retRegion W)), 318, _, runs_of (by decide +kernel), by decide +kernel,
   by decide +kernel, by decide +kernel, pair_of (by decide +kernel)⟩,
   ⟨stOf ((relocW.putB (Rg.sector 319) Rg.secHardFault true).putB (Rg.sector 0) Rg.secSpare true), 255, 0, _, 319, _, _, rightOr load0 _, runs_of
   (by decide +kernel), by decide +kernel, rfl, rfl, by decide +kernel, by decide +kernel, by decide +kernel, by decide +kernel, by decide +kernel,
   by decide +kernel, pair_of (by decide +kernel), pair_of (right_of load0 (by decide +kernel))⟩⟩

/-- What the clauses of ShutterCommands suppose is met. -/
theorem test_meets_ShutterCommands :
    (∃ (s : State) (h : Hdr) (addr : Nat) (bs : List Nat) (b : Block) (x : ShutSt), Admitted s.blk h
    { op := 512, ports := [Port.h0, Port.p1, Port.p2, Port.svc, Port.fab], stage := 3 } ∧ s.blk.shut.state = 0 ∧ readMem srcGreone addr 128 s.blk =
    (some bs, b) ∧ shutParse b bs (cmdOf h 512) = Sum.inr x) ∧
    (∃ (s : State) (h : Hdr), Admitted s.blk h { op := 513, ports := [Port.h0, Port.p1, Port.p2, Port.svc, Port.fab], stage := 3 } ∧ s.blk.shut.state
    = 4 ∧ s.blk.shut.resume = none) ∧
    (∃ (s : State) (h : Hdr), Admitted s.blk h { op := 514, ports := [Port.h0, Port.p1, Port.p2, Port.svc, Port.fab], stage := 3 } ∧ (s.blk.shut.state
    = 1 ∨ s.blk.shut.state = 3)) ∧
    (∃ (s : State) (h : Hdr), Admitted s.blk h { op := 515, ports := [Port.h0, Port.p1, Port.p2, Port.svc, Port.fab], stage := 3 }) ∧
    (∃ (s : State) (l : Fin 8), Running s.blk ∧ s.blk.shut.state = 1 ∧ s.blk.shut.kind = 2 ∧ s.blk.shut.line = l.val ∧ s.blk.shut.time = none) ∧
    (∃ (s : State) (t : BitVec 64), Running s.blk ∧ s.blk.shut.time = some t ∧ (s.blk.shut.state = 1 ∨ s.blk.shut.state = 2)) ∧
    (∃ (s : State), Running s.blk ∧ s.blk.shut.state = 2) ∧
    (∃ (s : State), Running s.blk ∧ s.blk.shut.state = 3 ∧ s.blk.shut.next < shutTotal s.blk.shut ∧ s.blk.shut.next < shutClusters s.blk.shut) ∧
    (∃ (s : State), Running s.blk ∧ s.blk.shut.state = 3 ∧ s.blk.shut.next < shutTotal s.blk.shut ∧ shutClusters s.blk.shut ≤ s.blk.shut.next) ∧
    (∃ (s : State), Running s.blk ∧ s.blk.shut.state = 3 ∧ shutTotal s.blk.shut ≤ s.blk.shut.next) :=
  ⟨⟨stOf (memW shutDesc), H, 0, shutDesc, _, rightOr ShutSt.idle _, adm_of (by decide +kernel), by decide +kernel, pair_of (by decide +kernel),
   right_of ShutSt.idle (by decide +kernel)⟩,
   ⟨stOf ({ W with shut := { W.shut with state := 4 } }), H, adm_of (by decide +kernel), by decide +kernel⟩,
   ⟨stOf ({ W with shut := { W.shut with state := 3 } }), H, adm_of (by decide +kernel), by decide +kernel⟩,
   ⟨stOf W, H, adm_of (by decide +kernel)⟩,
   ⟨stOf ({ W with shut := { W.shut with state := 1, kind := 2, line := 7 } }), 7, runs_of (by decide +kernel), by decide +kernel⟩,
   ⟨stOf ({ W with shut := { W.shut with state := 2, time := some 5 } }), 5, runs_of (by decide +kernel), by decide +kernel⟩,
   ⟨stOf ({ W with shut := { W.shut with state := 2 } }), runs_of (by decide +kernel), by decide +kernel⟩,
   ⟨stOf ({ W with shut := { W.shut with state := 3, next := 479, map := 2 ^ 319 } }), runs_of (by decide +kernel), by decide +kernel⟩,
   ⟨stOf ({ W with shut := { W.shut with state := 3, next := 480, ram := true, map := 2 ^ 319 } }), runs_of (by decide +kernel), by decide +kernel⟩,
   ⟨stOf ({ W with shut := { W.shut with state := 3, next := 480, map := 2 ^ 319 } }), runs_of (by decide +kernel), by decide +kernel⟩⟩

/-- What the clauses of IoEvents suppose is met. -/
theorem test_meets_IoEvents :
    (∃ (s : State) (d : Fin 4) (b : Fin 8) (mv : BitVec 12), s.blk.start.inReset = false ∧ classMv s.blk d.val b.val ≠ 0 ∧ ¬8 * d.val + b.val ∈
    s.blk.io.faulted ∧ within 8 (classMv s.blk d.val b.val) mv.toNat = false) ∧
    (∃ (s : State) (d : Fin 4) (b : Fin 8) (mv : BitVec 12), s.blk.start.inReset = false ∧ classMv s.blk d.val b.val ≠ 0 ∧ 8 * d.val + b.val ∈
    s.blk.io.faulted ∧ within 5 (classMv s.blk d.val b.val) mv.toNat = true) ∧
    (∃ (s : State), s.blk.start.inReset = false) ∧
    (∃ (s : State), s.blk.start.inReset = false ∧ stageOf s.blk ≠ 0 ∧ stageOf s.blk ≠ 7) ∧
    (∃ (s : State) (n : Fin 384), s.blk.start.inReset = false ∧ pinExists n.val = true) ∧
    (∃ (s : State) (d : Fin 4) (n : Fin 384), s.blk.start.inReset = false ∧ s.blk.clk.gated = false ∧ dieOff s.blk d.val = false ∧ n.val < 288 ∧
    pinFabric s.blk d.val n.val = true ∧ (pinLogic s.blk d.val n.val).dlyEn = true) ∧
    (∃ (s : State) (d : Fin 4) (n : Fin 384), s.blk.start.inReset = false ∧ s.blk.clk.gated = false ∧ dieOff s.blk d.val = false ∧ n.val < 288 ∧
    s.blk.f (Rg.ioPin d.val n.val) Rg.pinOwner = 1) ∧
    (∃ (s : State) (d : Fin 4) (n : Fin 384), s.blk.start.inReset = false ∧ s.blk.clk.gated = false ∧ dieOff s.blk d.val = false ∧ pinFabric s.blk
    d.val n.val = true ∧ (pinLogic s.blk d.val n.val).termEn = true) :=
  ⟨⟨stOf (W.put (Rg.ioBank 3 7) Rg.vccoClass 1), 3, 7, 0, by decide +kernel⟩,
   ⟨stOf (({ W with io := { W.io with faulted := [31] } }).put (Rg.ioBank 3 7) Rg.vccoClass 3), 3, 7, 3300, by decide +kernel⟩,
   ⟨stOf W, by decide +kernel⟩,
   ⟨stOf W, by decide +kernel⟩,
   ⟨stOf W, 359, by decide +kernel⟩,
   ⟨stOf
   (({ inState 3 255 317 W with io := { W.io with logic := [(1439, { PinIo.plain with dlyEn := true, termEn := true })] }, cfg := { W.cfg with pinOwner := [(ioKey 3 287, 255)] } }).put
   (Rg.ioPin 3 287) Rg.pinOwner 1), 3, 287, by decide +kernel⟩,
   ⟨stOf (({ W with cfg := { W.cfg with pinOwner := [(ioKey 3 287, 255)] } }).put (Rg.ioPin 3 287) Rg.pinOwner 1), 3, 287, by decide +kernel⟩,
   ⟨stOf
   (({ inState 3 255 317 W with io := { W.io with logic := [(1439, { PinIo.plain with dlyEn := true, termEn := true })] }, cfg := { W.cfg with pinOwner := [(ioKey 3 287, 255)] } }).put
   (Rg.ioPin 3 287) Rg.pinOwner 1), 3, 287, by decide +kernel⟩⟩

/-- What the clauses of TppCommands suppose is met. -/
theorem test_meets_TppCommands :
    (∃ (s : State) (h : Hdr) (n : Nat) (addr : Nat) (first : Nat) (count : Nat) (bs : List Nat) (b : Block), Admitted s.blk h
    { op := 768, ports := [Port.h0, Port.p1, Port.p2, Port.svc, Port.fab], stage := 3 } ∧ dieOff s.blk (n / 6) = false ∧ n < 24 ∧ first + count ≤
    32768 ∧ addr % 32 = 0 ∧ tppState s.blk n = 2 ∧ readMem (srcTpp n) addr (32 * count) s.blk = (some bs, b)) ∧
    (∃ (s : State) (h : Hdr) (n : Nat) (addr : Nat) (bs : List Nat) (b : Block), Admitted s.blk h
    { op := 769, ports := [Port.h0, Port.p1, Port.p2, Port.svc, Port.fab], stage := 3 } ∧ dieOff s.blk (n / 6) = false ∧ n < 24 ∧ tppState s.blk n = 2
    ∧ readMem (srcTpp n) addr 320 s.blk = (some bs, b) ∧ tppRunCheck b n bs = none) ∧
    (∃ (s : State) (h : Hdr) (mask : Nat), Admitted s.blk h { op := 770, ports := [Port.h0, Port.p1, Port.p2, Port.svc, Port.fab], stage := 3 } ∧ mask
    < 2 ^ 24) ∧
    (∃ (s : State) (h : Hdr) (n : Nat), Admitted s.blk h { op := 771, ports := [Port.h0, Port.p1, Port.p2, Port.svc, Port.fab], stage := 3 } ∧ dieOff
    s.blk (n / 6) = false ∧ n < 24) ∧
    (∃ (s : State) (h : Hdr) (mask : Nat), Admitted s.blk h { op := 772, ports := [Port.h0, Port.p1, Port.p2, Port.svc, Port.fab], stage := 3 } ∧ mask
    ≠ 0 ∧ mask < 2 ^ 24 ∧ (((bitsOf 24 mask).all fun n => tppState s.blk n == 2) = true)) ∧
    (∃ (s : State) (h : Hdr) (n : Nat) (en : Nat), Admitted s.blk h
    { op := 773, ports := [Port.h0, Port.p1, Port.p2, Port.svc, Port.fab], stage := 3 } ∧ dieOff s.blk (n / 6) = false ∧ n < 24 ∧ en < 256 ∧ (tppState
    s.blk n = 3 ∨ tppState s.blk n = 4)) :=
  ⟨⟨stOf (tppW 2), H, 23, 32, 32767, 1, (lineBytes 0).take 32, _, adm_of (by decide +kernel), by decide +kernel, by decide +kernel, by decide +kernel,
   by decide +kernel, by decide +kernel, pair_of (by decide +kernel)⟩,
   ⟨stOf (tppW 2), H, 23, 0, List.replicate 320 0, _, adm_of (by decide +kernel), by decide +kernel, by decide +kernel, by decide +kernel, pair_of
   (by decide +kernel), by decide +kernel⟩,
   ⟨stOf W, H, 16777215, adm_of (by decide +kernel), by decide +kernel⟩,
   ⟨stOf W, H, 23, adm_of (by decide +kernel), by decide +kernel⟩,
   ⟨stOf (tppW 2), H, 8388608, adm_of (by decide +kernel), by decide +kernel⟩,
   ⟨stOf (tppW 4), H, 23, 255, adm_of (by decide +kernel), by decide +kernel⟩⟩

/-- What the clauses of TppEvents suppose is met. -/
theorem test_meets_TppEvents :
    (∃ (s : State) (n : Fin 24), RunsOn s.blk (n.val / 6) ∧ tppState s.blk n.val = 1) ∧
    (∃ (s : State) (n : Fin 24) (at' : Int), RunsOn s.blk (n.val / 6) ∧ (getTpp s.blk n.val).startAt = some at' ∧ tppState s.blk n.val = 3) ∧
    (∃ (s : State) (n : Fin 24), RunsOn s.blk (n.val / 6) ∧ tppPortLive s.blk n.val = true ∧ tppState s.blk n.val = 3 ∧ (getTpp s.blk n.val).startSrc
    = 2 ∧ (getTpp s.blk n.val).startAt = none ∧ s.blk.flag (Rg.tpp n.val) Rg.tReady = false) ∧
    (∃ (s : State) (n : Fin 24), RunsOn s.blk (n.val / 6) ∧ tppPortLive s.blk n.val = true ∧ tppState s.blk n.val = 3 ∧ (getTpp s.blk n.val).startSrc
    = 2 ∧ (getTpp s.blk n.val).startAt = none ∧ s.blk.flag (Rg.tpp n.val) Rg.tReady = true) ∧
    (∃ (s : State) (n : Fin 24), RunsOn s.blk (n.val / 6) ∧ tppPortLive s.blk n.val = true) ∧
    (∃ (s : State) (n : Fin 24), RunsOn s.blk (n.val / 6) ∧ tppPortLive s.blk n.val = true ∧ tppState s.blk n.val = 3 ∧ (getTpp s.blk n.val).ended =
    none) ∧
    (∃ (s : State) (n : Fin 24), RunsOn s.blk (n.val / 6) ∧ tppPortLive s.blk n.val = true ∧ (tppState s.blk n.val = 3 ∨ tppState s.blk n.val = 4)) ∧
    (∃ (s : State) (n : Fin 24), RunsOn s.blk (n.val / 6) ∧ (tppState s.blk n.val = 3 ∨ tppState s.blk n.val = 4) ∧ (getTpp s.blk n.val).ended = none
    ∧ (getTpp s.blk n.val).sNext < streamTotal (getTpp s.blk n.val) ∧ (getTpp s.blk n.val).sAsked.length < 1024 ∧ (getTpp s.blk n.val).sNext <
    streamBase (getTpp s.blk n.val) + bufLines (getTpp s.blk n.val).buf) ∧
    (∃ (s : State) (n : Fin 24) (line : Nat), RunsOn s.blk (n.val / 6) ∧ line ∈ (getTpp s.blk n.val).sAsked) ∧
    (∃ (s : State) (n : Fin 24), RunsOn s.blk (n.val / 6) ∧ tppState s.blk n.val = 3 ∧ s.blk.flag (Rg.tpp n.val) Rg.tReady = false ∧ (getTpp s.blk
    n.val).sAsked = [] ∧ min (streamTotal (getTpp s.blk n.val)) (bufLines (getTpp s.blk n.val).buf) ≤ (getTpp s.blk n.val).sNext) :=
  ⟨⟨stOf (tppW 1), 23, runsOn_of (by decide +kernel), by decide +kernel⟩,
   ⟨stOf ((tppW 3 (fun t => { t with startAt := some 5000 })).putB (Rg.tpp 23) Rg.tReady true), 23, 5000, runsOn_of (by decide +kernel),
   by decide +kernel⟩,
   ⟨stOf (tppW 3 (fun t => { t with startSrc := 2 })), 23, runsOn_of (by decide +kernel), by decide +kernel⟩,
   ⟨stOf ((tppW 3 (fun t => { t with startSrc := 2, offset := -1 })).putB (Rg.tpp 23) Rg.tReady true), 23, runsOn_of (by decide +kernel),
   by decide +kernel⟩,
   ⟨stOf (tppW 0), 23, runsOn_of (by decide +kernel), by decide +kernel⟩,
   ⟨stOf (tppW 3), 23, runsOn_of (by decide +kernel), by decide +kernel⟩,
   ⟨stOf (tppW 3), 23, runsOn_of (by decide +kernel), by decide +kernel⟩,
   ⟨stOf (tppW 3 (fun t => { t with segs := [(0, 8)], buf := 3, sNext := 2 })), 23, runsOn_of (by decide +kernel), by decide +kernel⟩,
   ⟨stOf (tppW 3 (fun t => { t with sAsked := [2] })), 23, 2, runsOn_of (by decide +kernel), by decide +kernel⟩,
   ⟨stOf (tppW 3), 23, runsOn_of (by decide +kernel), by decide +kernel⟩⟩

/-- What the clauses of SequencerWords suppose is met. -/
theorem test_meets_SequencerWords :
    (∃ (s : State) (n : Fin 24) (w : Nat), RunsOn s.blk (n.val / 6) ∧ SeqAt s.blk n.val 0 w) ∧
    (∃ (s : State) (n : Fin 24) (w : Nat), RunsOn s.blk (n.val / 6) ∧ SeqAt s.blk n.val 1 w) ∧
    (∃ (s : State) (n : Fin 24) (w : Nat), RunsOn s.blk (n.val / 6) ∧ SeqAt s.blk n.val 2 w) ∧
    (∃ (s : State) (n : Fin 24) (w : Nat), RunsOn s.blk (n.val / 6) ∧ SeqAt s.blk n.val 3 w) ∧
    (∃ (s : State) (n : Fin 24) (w : Nat), RunsOn s.blk (n.val / 6) ∧ SeqAt s.blk n.val 4 w) ∧
    (∃ (s : State) (n : Fin 24) (w : Nat), RunsOn s.blk (n.val / 6) ∧ SeqAt s.blk n.val 5 w) ∧
    (∃ (s : State) (n : Fin 24) (w : Nat), RunsOn s.blk (n.val / 6) ∧ SeqAt s.blk n.val 6 w ∧ (getTpp s.blk n.val).batches = []) ∧
    (∃ (s : State) (n : Fin 24) (w : Nat), RunsOn s.blk (n.val / 6) ∧ SeqAt s.blk n.val 7 w) ∧
    (∃ (s : State) (n : Fin 24) (w : Nat), RunsOn s.blk (n.val / 6) ∧ SeqAt s.blk n.val 8 w) ∧
    (∃ (s : State) (n : Fin 24) (w : Nat), RunsOn s.blk (n.val / 6) ∧ SeqAt s.blk n.val 9 w) ∧
    (∃ (s : State) (n : Fin 24) (w : Nat), RunsOn s.blk (n.val / 6) ∧ SeqAt s.blk n.val 10 w) ∧
    (∃ (s : State) (n : Fin 24) (w : Nat), RunsOn s.blk (n.val / 6) ∧ SeqAt s.blk n.val 15 w) ∧
    (∃ (s : State) (n : Fin 24) (dbe : Bool) (hits : List (Fin 8 × Nat)) (fails : BitVec 48) (code : Nat) (c : Instr), RunsOn s.blk (n.val / 6) ∧
    applying s.blk n.val = true ∧ (getTpp s.blk n.val).streaming = none ∧ (stopNow (getTpp s.blk n.val) = some code ∨ stopNow (getTpp s.blk n.val) =
    none ∧ (getTpp s.blk n.val).waited = 0 ∧ wordFault (reachTime (BitVec.ofNat 64 ((getTpp s.blk n.val).time / 1000)) s.blk) n.val dbe = some code) ∧
    c ∈
    [Instr.seqNext n dbe, Instr.seqRepeat n dbe, Instr.seqLoop n dbe, Instr.seqJump n dbe, Instr.seqCall n dbe, Instr.seqRet n dbe, Instr.seqMatch n dbe hits fails, Instr.seqApgStep n dbe, Instr.seqStream n dbe, Instr.seqWaitTrig n dbe, Instr.seqStop n dbe]) ∧
    (∃ (s : State) (n : Fin 24) (c : Nat) (g : Nat) (v : Nat) (x : BitVec 512) (y : BitVec 512), RunsOn s.blk (n.val / 6) ∧ applying s.blk n.val =
    true ∧ (getTpp s.blk n.val).streaming = some c ∧ stopNow (getTpp s.blk n.val) = none ∧ streamAt (getTpp s.blk n.val).segs (getTpp s.blk
    n.val).sSeg (getTpp s.blk n.val).sVec = some (g, v) ∧ (spGet (fun _ => none) (getTpp s.blk n.val).sLines (segFirst (getTpp s.blk n.val) g + 24 * v
    / 64) = some (some x)) ∧ (spGet (fun _ => none) (getTpp s.blk n.val).sLines (segFirst (getTpp s.blk n.val) g + (24 * v + 23) / 64) = some (some
    y))) :=
  ⟨⟨stOf (seqW (2 ^ 198 * 0)), 23, 2 ^ 198 * 0, runsOn_of (by decide +kernel), seqAt_of (by decide +kernel)⟩,
   ⟨stOf (seqW (2 ^ 198 * 1)), 23, 2 ^ 198 * 1, runsOn_of (by decide +kernel), seqAt_of (by decide +kernel)⟩,
   ⟨stOf (seqW (2 ^ 198 * 2)), 23, 2 ^ 198 * 2, runsOn_of (by decide +kernel), seqAt_of (by decide +kernel)⟩,
   ⟨stOf (seqW (2 ^ 198 * 3)), 23, 2 ^ 198 * 3, runsOn_of (by decide +kernel), seqAt_of (by decide +kernel)⟩,
   ⟨stOf (seqW (2 ^ 198 * 4)), 23, 2 ^ 198 * 4, runsOn_of (by decide +kernel), seqAt_of (by decide +kernel)⟩,
   ⟨stOf (seqW (2 ^ 198 * 5) (fun t => { t with calls := [(3, 0)] })), 23, 2 ^ 198 * 5, runsOn_of (by decide +kernel), seqAt_of (by decide +kernel)⟩,
   ⟨stOf (seqW (2 ^ 198 * 6)), 23, 2 ^ 198 * 6, runsOn_of (by decide +kernel), seqAt_of (by decide +kernel), by decide +kernel⟩,
   ⟨stOf (seqW (2 ^ 198 * 7)), 23, 2 ^ 198 * 7, runsOn_of (by decide +kernel), seqAt_of (by decide +kernel)⟩,
   ⟨stOf (seqW (2 ^ 198 * 8)), 23, 2 ^ 198 * 8, runsOn_of (by decide +kernel), seqAt_of (by decide +kernel)⟩,
   ⟨stOf (seqW (2 ^ 198 * 9) (fun t => { t with buf := 1, segs := [(0, 8)] })), 23, 2 ^ 198 * 9, runsOn_of (by decide +kernel), seqAt_of
   (by decide +kernel)⟩,
   ⟨stOf (seqW (2 ^ 198 * 10)), 23, 2 ^ 198 * 10, runsOn_of (by decide +kernel), seqAt_of (by decide +kernel)⟩,
   ⟨stOf (seqW (2 ^ 198 * 15)), 23, 2 ^ 198 * 15, runsOn_of (by decide +kernel), seqAt_of (by decide +kernel)⟩,
   ⟨stOf (tppW 4), 23, true, [], 0, 780, .seqStop 23 true, runsOn_of (by decide +kernel), by decide +kernel⟩,
   ⟨stOf (tppW 4 (fun t => { t with streaming := some 1, segs := [(0, 8)], sVec := 7, sLines := [(2, some (some 1))] })), 23, 1, 0, 7, 1, 1, runsOn_of
   (by decide +kernel), by decide +kernel⟩⟩

/-- What the clauses of FailCaptureEvents suppose is met. -/
theorem test_meets_FailCaptureEvents :
    (∃ (s : State) (n : Fin 24) (v : BitVec 48) (b : AppBatch), RunsOn s.blk (n.val / 6) ∧ tppState s.blk n.val = 4 ∧ (List.find? (fun x => decide
    (x.first ≤ v.toNat) && decide (v.toNat < x.first + x.count)) (getTpp s.blk n.val).batches = some b) ∧ (batchesBefore (getTpp s.blk n.val)
    v.toNat).any (owesCapture s.blk n.val) = false ∧ (owesCapture s.blk n.val b = false ∨ b.first = v.toNat)) ∧
    (∃ (s : State) (n : Fin 24) (a : FailRec) (b : FailRec) (l : List FailRec), RunsOn s.blk (n.val / 6) ∧ (getTpp s.blk n.val).fifo = a :: b :: l ∧
    a.queue = b.queue) ∧
    (∃ (s : State) (n : Fin 24) (a : FailRec) (b : FailRec) (l : List FailRec), RunsOn s.blk (n.val / 6) ∧ (getTpp s.blk n.val).fifo = a :: b :: l ∧
    a.queue ≠ b.queue) ∧
    (∃ (s : State) (n : Fin 24) (a : FailRec), RunsOn s.blk (n.val / 6) ∧ (getTpp s.blk n.val).fifo = [a]) ∧
    (∃ (s : State) (n : Fin 24) (i : Nat) (l : BmLine), RunsOn s.blk (n.val / 6) ∧ (getTpp s.blk n.val).bmLines[i]? = some l ∧ (getTpp s.blk
    n.val).bmOut.length < 512) ∧
    (∃ (s : State) (n : Fin 24) (i : Nat) (l : BmLine), RunsOn s.blk (n.val / 6) ∧ (getTpp s.blk n.val).bmOut[i]? = some l) ∧
    (∃ (s : State) (n : Fin 24) (code : Nat) (at' : Nat), RunsOn s.blk (n.val / 6) ∧ (getTpp s.blk n.val).ended = some (code, at') ∧ drained (getTpp
    s.blk n.val) = true) ∧
    (∃ (s : State) (n : Fin 24) (code : Nat) (at' : Nat), RunsOn s.blk (n.val / 6) ∧ (getTpp s.blk n.val).ended = some (code, at') ∧ drained (getTpp
    s.blk n.val) = false) ∧
    (∃ (s : State) (n : Fin 24), RunsOn s.blk (n.val / 6) ∧ tppState s.blk n.val = 2) :=
  ⟨⟨stOf (tppW 4 (fun t => { t with batches := [batch0] })), 23, 281474976710655, batch0, runsOn_of (by decide +kernel), by decide +kernel⟩,
   ⟨stOf (tppW 4 (fun t => { t with fifo := [{ queue := 1, word := 0 }, { queue := 1, word := 0 }] })), 23, { queue := 1, word := 0 }, _, [],
   runsOn_of (by decide +kernel), rfl, rfl⟩,
   ⟨stOf (tppW 4 (fun t => { t with fifo := [{ queue := 1, word := 0 }, { queue := 2, word := 0 }] })), 23, { queue := 1, word := 0 },
   { queue := 2, word := 0 }, [], runsOn_of (by decide +kernel), by decide +kernel⟩,
   ⟨stOf (tppW 4 (fun t => { t with fifo := [{ queue := 1, word := 0 }] })), 23, { queue := 1, word := 0 }, runsOn_of (by decide +kernel),
   by decide +kernel⟩,
   ⟨stOf (tppW 4 (fun t => { t with bmLines := [{ addr := 64, mask := 1, sites := 1 }] })), 23, 0, { addr := 64, mask := 1, sites := 1 }, runsOn_of
   (by decide +kernel), by decide +kernel⟩,
   ⟨stOf (tppW 4 (fun t => { t with bmOut := [{ addr := 64, mask := 1, sites := 1 }] })), 23, 0, { addr := 64, mask := 1, sites := 1 }, runsOn_of
   (by decide +kernel), by decide +kernel⟩,
   ⟨stOf (tppW 4 (fun t => { t with ended := some (0x0300, 0) })), 23, 0x0300, 0, runsOn_of (by decide +kernel), by decide +kernel⟩,
   ⟨stOf (tppW 4 (fun t => { t with ended := some (0x0300, 0), batches := [batch0] })), 23, 0x0300, 0, runsOn_of (by decide +kernel),
   by decide +kernel⟩,
   ⟨stOf (tppW 2), 23, runsOn_of (by decide +kernel), by decide +kernel⟩⟩

/-- What the clauses of LaneCommands suppose is met. -/
theorem test_meets_LaneCommands :
    (∃ (s : State) (h : Hdr) (die : Nat) (mask : Nat) (n : Nat) (spares : Nat), 0 < mask ∧ mask < 2 ^ 32 ∧ die < 4 ∧ n < 128 ∧ dieOff s.blk die =
    false ∧ Admitted s.blk h { op := 1024, ports := [Port.h0, Port.p1, Port.p2, Port.svc, Port.fab], stage := 3 } ∧ (∀ (m : Nat), m ∈ maskLanes die
    mask → laneMode s.blk m ≠ 3 ∧ laneState s.blk m = 0) ∧ spares < 256) ∧
    (∃ (s : State) (h : Hdr) (die : Nat) (mask : Nat) (n : Nat) (group : Nat) (spares : Nat), 0 < mask ∧ mask < 2 ^ 32 ∧ die < 4 ∧ n < 128 ∧ dieOff
    s.blk die = false ∧ Admitted s.blk h { op := 1024, ports := [Port.h0, Port.p1, Port.p2, Port.svc, Port.fab], stage := 3 } ∧ (∀ (m : Nat), m ∈
    maskLanes die mask → laneMode s.blk m ≠ 3 ∧ laneState s.blk m = 0) ∧ 0 < group ∧ group < 256 ∧ spares ≤ 2 ∧ spares < (maskLanes die mask).length ∧
    (maskLanes die mask).length ≤ 16 + spares ∧ (∀ (m : Nat), m ∈ maskLanes die mask → laneMode s.blk m = 0)) ∧
    (∃ (s : State) (h : Hdr) (die : Nat) (mask : Nat) (n : Nat), 0 < mask ∧ mask < 2 ^ 32 ∧ die < 4 ∧ n < 128 ∧ dieOff s.blk die = false ∧ Admitted
    s.blk h { op := 1025, ports := [Port.h0, Port.p1, Port.p2, Port.svc, Port.fab], stage := 3 }) ∧
    (∃ (s : State) (h : Hdr) (die : Nat) (mask : Nat) (n : Nat), 0 < mask ∧ mask < 2 ^ 32 ∧ die < 4 ∧ n < 128 ∧ dieOff s.blk die = false ∧ Admitted
    s.blk h { op := 1026, ports := [Port.h0, Port.p1, Port.p2, Port.svc, Port.fab], stage := 3 } ∧ (∀ (m : Nat), m ∈ maskLanes die mask → laneState
    s.blk m = 5)) ∧
    (∃ (s : State) (h : Hdr) (die : Nat) (mask : Nat) (n : Nat), 0 < mask ∧ mask < 2 ^ 32 ∧ die < 4 ∧ n < 128 ∧ dieOff s.blk die = false ∧ Admitted
    s.blk h { op := 1027, ports := [Port.h0, Port.p1, Port.p2, Port.svc, Port.fab], stage := 3 } ∧ (∀ (m : Nat), m ∈ maskLanes die mask → s.blk.flag
    (Rg.lane m) Rg.lQuiesced = true)) ∧
    (∃ (s : State) (h : Hdr) (die : Nat) (mask : Nat) (n : Nat) (kind : Nat), 0 < mask ∧ mask < 2 ^ 32 ∧ die < 4 ∧ n < 128 ∧ dieOff s.blk (n / 32) =
    false ∧ (laneState s.blk n = 0 ∨ s.blk.flag (Rg.lane n) Rg.lQuiesced = true) ∧ kind ≤ 4 ∧ (kind = 2 ∨ kind = 4 → laneMode s.blk n ≠ 2) ∧ Admitted
    s.blk h { op := 1028, ports := [Port.h0, Port.p1, Port.p2, Port.svc, Port.fab], stage := 3 }) ∧
    (∃ (s : State) (h : Hdr) (die : Nat) (mask : Nat) (n : Nat) (poly : Nat), 0 < mask ∧ mask < 2 ^ 32 ∧ die < 4 ∧ n < 128 ∧ dieOff s.blk (n / 32) =
    false ∧ (laneState s.blk n = 0 ∨ s.blk.flag (Rg.lane n) Rg.lQuiesced = true) ∧ poly ≤ 3 ∧ Admitted s.blk h
    { op := 1029, ports := [Port.h0, Port.p1, Port.p2, Port.svc, Port.fab], stage := 3 }) ∧
    (∃ (s : State) (h : Hdr) (die : Nat) (mask : Nat) (n : Nat) (h0 : Nat) (hl : Nat) (hs : Nat) (v0 : Nat) (vl : Nat) (vs : Nat) (dwell : Nat) (addr
    : Nat) (scan : EyeScan), 0 < mask ∧ mask < 2 ^ 32 ∧ die < 4 ∧ n < 128 ∧ dieOff s.blk (n / 32) = false ∧ Admitted s.blk h
    { op := 1030, ports := [Port.h0, Port.p1, Port.p2, Port.svc, Port.fab], stage := 3 } ∧ laneState s.blk n = 5 ∧ (getLane s.blk n).scan = none ∧
    eyeScanOf h0 hl hs v0 vl vs dwell addr = some scan) ∧
    (∃ (s : State) (h : Hdr) (die : Nat) (mask : Nat) (n : Nat), 0 < mask ∧ mask < 2 ^ 32 ∧ die < 4 ∧ n < 128 ∧ dieOff s.blk (n / 32) = false ∧
    Admitted s.blk h { op := 1031, ports := [Port.h0, Port.p1, Port.p2, Port.svc, Port.fab], stage := 3 }) :=
  ⟨⟨stOf W, H, 3, 2 ^ 31, 127, 255, by decide +kernel, by decide +kernel, by decide +kernel, by decide +kernel, by decide +kernel, adm_of
   (by decide +kernel), by decide +kernel⟩,
   ⟨stOf W, H, 3, 2 ^ 32 - 2 ^ 14, 127, 255, 2, by decide +kernel, by decide +kernel, by decide +kernel, by decide +kernel, by decide +kernel, adm_of
   (by decide +kernel), by decide +kernel⟩,
   ⟨stOf W, H, 3, 2 ^ 31, 127, by decide +kernel, by decide +kernel, by decide +kernel, by decide +kernel, by decide +kernel, adm_of
   (by decide +kernel)⟩,
   ⟨stOf (laneW 5 0), H, 3, 2 ^ 31, 127, by decide +kernel, by decide +kernel, by decide +kernel, by decide +kernel, by decide +kernel, adm_of
   (by decide +kernel), by decide +kernel⟩,
   ⟨stOf (W.putB (Rg.lane 127) Rg.lQuiesced true), H, 3, 2 ^ 31, 127, by decide +kernel, by decide +kernel, by decide +kernel, by decide +kernel,
   by decide +kernel, adm_of (by decide +kernel), by decide +kernel⟩,
   ⟨stOf W, H, 3, 2 ^ 31, 127, 4, by decide +kernel, by decide +kernel, by decide +kernel, by decide +kernel, by decide +kernel, by decide +kernel,
   by decide +kernel, by decide +kernel, adm_of (by decide +kernel)⟩,
   ⟨stOf W, H, 3, 2 ^ 31, 127, 3, by decide +kernel, by decide +kernel, by decide +kernel, by decide +kernel, by decide +kernel, by decide +kernel,
   by decide +kernel, adm_of (by decide +kernel)⟩,
   ⟨stOf (laneW 5 0), H, 3, 2 ^ 31, 127, 0, 1, 1, 0, 1, 1, 20, 0, _, by decide +kernel, by decide +kernel, by decide +kernel, by decide +kernel,
   by decide +kernel, adm_of (by decide +kernel), by decide +kernel, by decide +kernel, rfl⟩,
   ⟨stOf W, H, 3, 2 ^ 31, 127, by decide +kernel, by decide +kernel, by decide +kernel, by decide +kernel, by decide +kernel, adm_of
   (by decide +kernel)⟩⟩

/-- What the clauses of LaneBlocks suppose is met. -/
theorem test_meets_LaneBlocks :
    (∃ (s : State) (n : Fin 128), RunsOn s.blk (n.val / 32) ∧ (getLane s.blk n.val).gen = true) ∧
    (∃ (s : State) (n : Fin 128), RunsOn s.blk (n.val / 32) ∧ (getLane s.blk n.val).gen = false ∧ laneOpen s.blk n.val = true ∧ (getLane s.blk
    n.val).loop ≤ 2 ∧ laneMode s.blk n.val = 2) ∧
    (∃ (s : State) (n : Fin 128), RunsOn s.blk (n.val / 32) ∧ (getLane s.blk n.val).gen = false ∧ laneOpen s.blk n.val = true ∧ (getLane s.blk
    n.val).loop ≤ 2 ∧ laneMode s.blk n.val ≠ 2 ∧ 1 ≤ (getLane s.blk n.val).loop) ∧
    (∃ (s : State) (n : Fin 128) (ctrl : Bool) (payload : BitVec 64), RunsOn s.blk (n.val / 32) ∧ (getLane s.blk n.val).gen = false ∧ laneOpen s.blk
    n.val = true ∧ (getLane s.blk n.val).loop ≤ 2 ∧ laneMode s.blk n.val ≠ 2 ∧ (getLane s.blk n.val).loop = 0 ∧ (laneGroup ((fun b => if (ctrl &&
    payload.toNat / 16 % 16 == 10) = true then b.putB (Rg.lane n.val) Rg.lTxReject true else b) s.blk) n.val = 0)) ∧
    (∃ (s : State) (n : Fin 128) (ctrl : Bool) (payload : BitVec 64), RunsOn s.blk (n.val / 32) ∧ (getLane s.blk n.val).gen = false ∧ laneOpen s.blk
    n.val = true ∧ (getLane s.blk n.val).loop ≤ 2 ∧ laneMode s.blk n.val ≠ 2 ∧ (getLane s.blk n.val).loop = 0 ∧ (laneGroup ((fun b => if (ctrl &&
    payload.toNat / 16 % 16 == 10) = true then b.putB (Rg.lane n.val) Rg.lTxReject true else b) s.blk) n.val ≠ 0) ∧ (getLane s.blk n.val).port < 16) ∧
    (∃ (s : State) (n : Fin 128), RunsOn s.blk (n.val / 32) ∧ (getLane s.blk n.val).loop ≠ 1 ∧ (getLane s.blk n.val).loop ≠ 2 ∧ (laneState s.blk n.val
    ≠ 0 ∨ (getLane s.blk n.val).loop ≠ 0 ∨ (getLane s.blk n.val).chk = true) ∧ (getLane s.blk n.val).loop ≠ 3) ∧
    (∃ (s : State) (n : Fin 128), RunsOn s.blk (n.val / 32) ∧ (getLane s.blk n.val).loop ≠ 1 ∧ (getLane s.blk n.val).loop ≠ 2 ∧ (laneState s.blk n.val
    ≠ 0 ∨ (getLane s.blk n.val).loop ≠ 0 ∨ (getLane s.blk n.val).chk = true) ∧ (getLane s.blk n.val).loop = 3) ∧
    (∃ (s : State) (n : Fin 128), RunsOn s.blk (n.val / 32) ∧ laneMode s.blk n.val = 2 ∧ laneOpen s.blk n.val = true) ∧
    (∃ (s : State) (n : Fin 128), RunsOn s.blk (n.val / 32) ∧ laneMode s.blk n.val ≠ 2 ∧ laneState s.blk n.val ≠ 0 ∧ s.blk.flag (Rg.lane n.val)
    Rg.lBlockLock = false) ∧
    (∃ (s : State) (n : Fin 128) (b : Block), RunsOn s.blk (n.val / 32) ∧ s.blk.flag (Rg.lane n.val) Rg.lBlockLock = true ∧ b = lockDropped n.val
    s.blk ∧ laneState b n.val = 5 ∧ laneGroup b n.val ≠ 0 ∧ logicalOf b n.val < 16 ∧ laneFailed b n.val = false ∧ idleSpares b n.val = []) ∧
    (∃ (s : State) (n : Fin 128) (b : Block), RunsOn s.blk (n.val / 32) ∧ s.blk.flag (Rg.lane n.val) Rg.lBlockLock = true ∧ b = lockDropped n.val
    s.blk ∧ laneState b n.val = 5 ∧ laneGroup b n.val ≠ 0 ∧ logicalOf b n.val < 16 ∧ laneFailed b n.val = false ∧ idleSpares b n.val ≠ []) ∧
    (∃ (s : State) (n : Fin 128) (b : Block), RunsOn s.blk (n.val / 32) ∧ s.blk.flag (Rg.lane n.val) Rg.lBlockLock = true ∧ b = lockDropped n.val
    s.blk ∧ (laneState b n.val ≠ 5 ∨ laneGroup b n.val = 0)) :=
  ⟨⟨stOf (laneW 5 2 (fun x => { x with gen := true })), 127, runsOn_of (by decide +kernel), by decide +kernel⟩,
   ⟨stOf (laneW 5 2), 127, runsOn_of (by decide +kernel), by decide +kernel⟩,
   ⟨stOf (laneW 5 0 (fun x => { x with loop := 1 })), 127, runsOn_of (by decide +kernel), by decide +kernel⟩,
   ⟨stOf (laneW 5 0), 127, false, 0, runsOn_of (by decide +kernel), by decide +kernel⟩,
   ⟨stOf ((groupW (fun x => { x with port := 15 }))), 127, false, 0, runsOn_of (by decide +kernel), by decide +kernel⟩,
   ⟨stOf (laneW 5 2), 127, runsOn_of (by decide +kernel), by decide +kernel⟩,
   ⟨stOf (laneW 5 0 (fun x => { x with loop := 3 })), 127, runsOn_of (by decide +kernel), by decide +kernel⟩,
   ⟨stOf (laneW 5 2), 127, runsOn_of (by decide +kernel), by decide +kernel⟩,
   ⟨stOf (laneW 2 0), 127, runsOn_of (by decide +kernel), by decide +kernel⟩,
   ⟨stOf ((groupW.putB (Rg.lane 126) Rg.lFailed true).putB (Rg.lane 127) Rg.lBlockLock true), 127, _, runsOn_of (by decide +kernel),
   by decide +kernel, rfl, by decide +kernel⟩,
   ⟨stOf ((groupW).putB (Rg.lane 127) Rg.lBlockLock true), 127, _, runsOn_of (by decide +kernel), by decide +kernel, rfl, by decide +kernel⟩,
   ⟨stOf ((laneW 5 0).putB (Rg.lane 127) Rg.lBlockLock true), 127, _, runsOn_of (by decide +kernel), by decide +kernel, rfl, by decide +kernel⟩⟩

/-- What the clauses of LaneMessages suppose is met. -/
theorem test_meets_LaneMessages :
    (∃ (s : State) (n : Fin 128) (map : BitVec 8) (nonce : BitVec 8) (b : Block), RunsOn s.blk (n.val / 32) ∧ laneState s.blk n.val = 1 ∧ laneGroup
    s.blk n.val = 0 ∧ b = s.blk.put (Rg.lane n.val) Rg.lFarMap map.toNat ∧ map.toNat.land (localMap b n.val) ≠ 0 ∧ nonce ≠ (getLane s.blk
    n.val).nonce) ∧
    (∃ (s : State) (n : Fin 128) (code : Fin 8), RunsOn s.blk (n.val / 32) ∧ laneMode s.blk n.val = 0 ∧ (getLane s.blk n.val).phase = 3 ∧ laneState
    s.blk n.val ≠ 5 ∧ nextCode s.blk n.val = some code.val ∧ (getLane s.blk n.val).nonce.toNat < ((getLane s.blk n.val).farNonce.getD 0).toNat) ∧
    (∃ (s : State) (n : Fin 128) (code : Fin 8), RunsOn s.blk (n.val / 32) ∧ (getLane s.blk n.val).asked = some code.val) ∧
    (∃ (s : State) (n : Fin 128) (preset : BitVec 4), RunsOn s.blk (n.val / 32) ∧ laneMode s.blk n.val = 0 ∧ laneState s.blk n.val = 3 ∧ preset.toNat
    < 8) ∧
    (∃ (s : State) (n : Fin 128) (pre : BitVec 2) (post : BitVec 2) (x : Nat) (y : Nat), RunsOn s.blk (n.val / 32) ∧ laneMode s.blk n.val = 0 ∧
    laneState s.blk n.val = 3 ∧ coeffStep (s.blk.f (Rg.lane n.val) Rg.lCPre) pre.toNat 12 = some x ∧ coeffStep (s.blk.f (Rg.lane n.val) Rg.lCPost)
    post.toNat 24 = some y) ∧
    (∃ (s : State) (n : Fin 128), RunsOn s.blk (n.val / 32)) ∧
    (∃ (s : State) (n : Fin 128) (k : Fin 32) (m : Nat) (sp : Nat) (rest : List Nat), RunsOn s.blk (n.val / 32) ∧ carrier s.blk n.val k.val = some m ∧
    idleSpares s.blk n.val = sp :: rest ∧ (getLane s.blk m).sendOn = none ∧ k.val < 16) ∧
    (∃ (s : State) (n : Fin 128) (k : Fin 32) (m : Nat) (sp : Nat), RunsOn s.blk (n.val / 32) ∧ carrier s.blk n.val k.val = some m ∧ (getLane s.blk
    m).sendOn = some (sp, true)) ∧
    (∃ (s : State) (n : Fin 128) (p : BitVec 64), RunsOn s.blk (n.val / 32) ∧ (getLane s.blk n.val).msg = some p) :=
  ⟨⟨stOf (laneW 1 0), 127, 255, 255, _, runsOn_of (by decide +kernel), by decide +kernel, by decide +kernel, rfl, by decide +kernel⟩,
   ⟨stOf ((laneW 1 0 (fun x => { x with phase := 3, farNonce := some 255 })).put (Rg.lane 127) Rg.lFarMap 3), 127, 1, runsOn_of (by decide +kernel),
   by decide +kernel⟩,
   ⟨stOf (laneW 5 0 (fun x => { x with asked := some 7 })), 127, 7, runsOn_of (by decide +kernel), by decide +kernel⟩,
   ⟨stOf (laneW 3 0), 127, 7, runsOn_of (by decide +kernel), by decide +kernel⟩,
   ⟨stOf (laneW 3 0), 127, 1, 0, _, _, runsOn_of (by decide +kernel), by decide +kernel, by decide +kernel, rfl, rfl⟩,
   ⟨stOf W, 0, runsOn_of (by decide +kernel)⟩,
   ⟨stOf ((groupW)), 127, 15, 127, 126, [], runsOn_of (by decide +kernel), by decide +kernel⟩,
   ⟨stOf ((groupW (fun x => { x with sendOn := some (126, true) }))), 127, 15, 127, 126, runsOn_of (by decide +kernel), by decide +kernel⟩,
   ⟨stOf (laneW 5 0 (fun x => { x with msg := some 5 })), 127, 5, runsOn_of (by decide +kernel), by decide +kernel⟩⟩

/-- What clauses, part 1 of 2, of LaneEvents suppose is met. -/
theorem test_meets_LaneEvents_1 :
    (∃ (s : State) (n : Fin 128) (code : Nat), RunsOn s.blk (n.val / 32) ∧ (getLane s.blk n.val).stepTo = some code ∧ laneState s.blk n.val = 2) ∧
    (∃ (s : State) (n : Fin 128) (ctle : BitVec 4) (tap1 : BitVec 8) (margin : BitVec 8) (b : Block), RunsOn s.blk (n.val / 32) ∧ laneInEq s.blk n.val
    = true ∧ b = eqFound n.val ctle tap1 margin s.blk ∧ laneMode b n.val ≠ 0) ∧
    (∃ (s : State) (n : Fin 128) (ctle : BitVec 4) (tap1 : BitVec 8) (margin : BitVec 8) (b : Block), RunsOn s.blk (n.val / 32) ∧ laneInEq s.blk n.val
    = true ∧ b = eqFound n.val ctle tap1 margin s.blk ∧ laneMode b n.val = 0) ∧
    (∃ (s : State) (n : Fin 128), RunsOn s.blk (n.val / 32) ∧ laneMode s.blk n.val = 0 ∧ (getLane s.blk n.val).phase = 2 ∧ (laneState s.blk n.val = 4
    ∨ laneState s.blk n.val = 1)) ∧
    (∃ (s : State) (n : Fin 128), RunsOn s.blk (n.val / 32) ∧ laneState s.blk n.val = 2 ∧ (getLane s.blk n.val).stepTo = none ∧ s.blk.flag (Rg.lane
    n.val) Rg.lBlockLock = false) ∧
    (∃ (s : State) (n : Fin 128), RunsOn s.blk (n.val / 32) ∧ laneState s.blk n.val = 1) ∧
    (∃ (s : State) (n : Fin 128), RunsOn s.blk (n.val / 32) ∧ laneState s.blk n.val = 5 ∧ s.blk.flag (Rg.lane n.val) Rg.lBlockLock = false ∧
    s.blk.flag (Rg.lane n.val) Rg.lTest = false ∧ laneMode s.blk n.val ≠ 2 ∧ laneGroup s.blk n.val = 0) ∧
    (∃ (s : State) (n : Fin 128), RunsOn s.blk (n.val / 32) ∧ laneState s.blk n.val = 5 ∧ s.blk.flag (Rg.lane n.val) Rg.lBlockLock = false ∧
    s.blk.flag (Rg.lane n.val) Rg.lTest = false ∧ laneMode s.blk n.val ≠ 2 ∧ laneGroup s.blk n.val ≠ 0 ∧ (getLane s.blk n.val).tested = true) ∧
    (∃ (s : State) (n : Fin 128) (errs : BitVec 16) (margin : BitVec 8) (b : Block), RunsOn s.blk (n.val / 32) ∧ b = s.blk.put (Rg.lane n.val)
    Rg.lMargin margin.toNat ∧ (laneCfg b n.val Rg.lDegradeThresh ≤ errs.toNat ∨ margin.toNat < laneCfg b n.val Rg.lMarginMin) ∧ laneState b n.val = 5
    ∧ laneGroup b n.val ≠ 0 ∧ logicalOf b n.val < 16 ∧ laneFailed b n.val = false ∧ b.flag (Rg.lane n.val) Rg.lSteering = false ∧ idleSpares b n.val ≠
    []) ∧
    (∃ (s : State) (n : Fin 128) (errs : BitVec 16) (margin : BitVec 8) (b : Block), RunsOn s.blk (n.val / 32) ∧ b = s.blk.put (Rg.lane n.val)
    Rg.lMargin margin.toNat ∧ errs.toNat < laneCfg b n.val Rg.lDegradeThresh ∧ laneCfg b n.val Rg.lMarginMin ≤ margin.toNat) ∧
    (∃ (s : State) (n : Fin 128) (k : Fin 32) (old : Nat) (flagged : Nat) (t : BitVec 64) (seen : Option Nat), RunsOn s.blk (n.val / 32) ∧ idleSpare
    s.blk n.val = true ∧ carrier s.blk n.val k.val = some old ∧ (getLane s.blk old).steer = some (some t, flagged, seen)) ∧
    (∃ (s : State) (n : Fin 128) (k : Fin 32) (old : Nat) (flagged : Nat), RunsOn s.blk (n.val / 32) ∧ idleSpare s.blk n.val = true ∧ carrier s.blk
    n.val k.val = some old ∧ (getLane s.blk old).steer = some (none, flagged, none)) :=
  ⟨⟨stOf (laneW 2 0 (fun x => { x with stepTo := some 7 })), 127, 7, runsOn_of (by decide +kernel), by decide +kernel⟩,
   ⟨stOf (laneW 3 1), 127, 0, 0, 0, _, runsOn_of (by decide +kernel), by decide +kernel, rfl, by decide +kernel⟩,
   ⟨stOf (laneW 3 0), 127, 0, 0, 0, _, runsOn_of (by decide +kernel), by decide +kernel, rfl, by decide +kernel⟩,
   ⟨stOf (laneW 4 0 (fun x => { x with phase := 2 })), 127, runsOn_of (by decide +kernel), by decide +kernel⟩,
   ⟨stOf (laneW 2 0), 127, runsOn_of (by decide +kernel), by decide +kernel⟩,
   ⟨stOf (laneW 1 0 (fun x => { x with retries := 98 })), 127, runsOn_of (by decide +kernel), by decide +kernel⟩,
   ⟨stOf (laneW 5 0), 127, runsOn_of (by decide +kernel), by decide +kernel⟩,
   ⟨stOf ((groupW (fun x => { x with tested := true }))), 127, runsOn_of (by decide +kernel), by decide +kernel⟩,
   ⟨stOf ((groupW)), 127, 0, 0, _, runsOn_of (by decide +kernel), rfl, by decide +kernel⟩,
   ⟨stOf ((laneW 0 0).put (Rg.lane 127) Rg.lDegradeThresh 1), 127, 0, 255, _, runsOn_of (by decide +kernel), rfl, by decide +kernel⟩,
   ⟨stOf ((groupW (fun x => { x with steer := some (some 5, 1, none) }))), 126, 15, 127, 1, 5, none, runsOn_of (by decide +kernel), by decide +kernel⟩,
   ⟨stOf ((groupW (fun x => { x with steer := some (none, 1, none) }))), 126, 15, 127, 1, runsOn_of (by decide +kernel), by decide +kernel⟩⟩

/-- What clauses, part 2 of 2, of LaneEvents suppose is met. -/
theorem test_meets_LaneEvents_2 :
    (∃ (s : State) (n : Fin 128) (k : Fin 32) (old : Nat) (flagged : Nat), RunsOn s.blk (n.val / 32) ∧ idleSpare s.blk n.val = true ∧ carrier s.blk
    n.val k.val = some old ∧ (getLane s.blk old).steer = some (none, flagged, some n.val)) ∧
    (∃ (s : State) (n : Fin 128) (d : Fin 4), RunsOn s.blk (n.val / 32) ∧ RunsOn s.blk d.val) ∧
    (∃ (s : State) (n : Fin 128) (x : EyeScan), RunsOn s.blk (n.val / 32) ∧ (getLane s.blk n.val).scan = some x) ∧
    (∃ (s : State) (n : Fin 128), RunsOn s.blk (n.val / 32)) ∧
    (∃ (s : State) (n : Fin 128) (d : Fin 4) (mask : BitVec 32), RunsOn s.blk (n.val / 32) ∧ openOf s.blk 1024 (d.val * 2 ^ 32 + mask.toNat) ≠ []) :=
  ⟨⟨stOf ((groupW (fun x => { x with steer := some (none, 1, some 126) }))), 126, 15, 127, 1, runsOn_of (by decide +kernel), by decide +kernel⟩,
   ⟨stOf W, 0, 0, runsOn_of (by decide +kernel), runsOn_of (by decide +kernel)⟩,
   ⟨stOf (laneW 5 0 (fun x => { x with scan := some { h0 := 0, hs := 1, hStep := 1, v0 := 0, vs := 1, vStep := 1, dwell := 1, addr := 0 } })), 127, _,
   runsOn_of (by decide +kernel), rfl⟩,
   ⟨stOf W, 0, runsOn_of (by decide +kernel)⟩,
   ⟨stOf
   { W with mbx := { W.mbx with opens := [{ cmd := { port := .h0, tag := 0, op := 1024, v1 := false }, op2 := 1024, obj := 3 * 2 ^ 32 + 2 ^ 31 }] } },
   0, 3, 0x80000000, runsOn_of (by decide +kernel), by decide +kernel⟩⟩

/-- What the clauses of DramCommands suppose is met. -/
theorem test_meets_DramCommands :
    (∃ (s : State) (h : Hdr) (n : Nat) (rate : Nat), n < 8 ∧ dieOff s.blk (n / 2) = false ∧ Admitted s.blk h
    { op := 1280, ports := [Port.h0, Port.p1, Port.p2, Port.svc, Port.fab], stage := 3 } ∧ dcTesting s.blk n = false ∧ (dcState s.blk n = 0 ∨ dcState
    s.blk n = 4 ∨ dcState s.blk n = 6) ∧ rate < 4) ∧
    (∃ (s : State) (h : Hdr) (n : Nat), n < 8 ∧ dieOff s.blk (n / 2) = false ∧ Admitted s.blk h
    { op := 1280, ports := [Port.h0, Port.p1, Port.p2, Port.svc, Port.fab], stage := 3 } ∧ dcTesting s.blk n = false ∧ (dcState s.blk n = 0 ∨ dcState
    s.blk n = 4 ∨ dcState s.blk n = 6)) ∧
    (∃ (s : State) (h : Hdr) (n : Nat), n < 8 ∧ dieOff s.blk (n / 2) = false ∧ Admitted s.blk h
    { op := 1281, ports := [Port.h0, Port.p1, Port.p2, Port.svc, Port.fab], stage := 3 }) ∧
    (∃ (s : State) (h : Hdr) (n : Nat), n < 8 ∧ dieOff s.blk (n / 2) = false ∧ Admitted s.blk h
    { op := 1282, ports := [Port.h0, Port.p1, Port.p2, Port.svc, Port.fab], stage := 3 } ∧ dcState s.blk n = 2) ∧
    (∃ (s : State) (h : Hdr) (n : Nat), n < 8 ∧ dieOff s.blk (n / 2) = false ∧ Admitted s.blk h
    { op := 1283, ports := [Port.h0, Port.p1, Port.p2, Port.svc, Port.fab], stage := 3 } ∧ dcState s.blk n = 4 ∧ dcTesting s.blk n = false) ∧
    (∃ (s : State) (h : Hdr) (n : Nat), n < 8 ∧ dieOff s.blk (n / 2) = false ∧ Admitted s.blk h
    { op := 1284, ports := [Port.h0, Port.p1, Port.p2, Port.svc, Port.fab], stage := 3 } ∧ (dcState s.blk n = 4 ∨ dcState s.blk n = 5 ∨ dcState s.blk
    n = 6) ∧ dcTesting s.blk n = false) ∧
    (∃ (s : State) (h : Hdr) (n : Nat), n < 8 ∧ dieOff s.blk (n / 2) = false ∧ Admitted s.blk h
    { op := 1285, ports := [Port.h0, Port.p1, Port.p2, Port.svc, Port.fab], stage := 3 } ∧ ¬40 + n ∈ s.blk.net.domOff ∧ dcState s.blk n = 7) ∧
    (∃ (s : State) (h : Hdr) (n : Nat) (off : Nat) (len : Nat), n < 8 ∧ dieOff s.blk (n / 2) = false ∧ Admitted s.blk h
    { op := 1286, ports := [Port.h0, Port.p1, Port.p2, Port.svc, Port.fab], stage := 3 } ∧ off + len ≤ (getDc s.blk n).cap ∧ 0 < len ∧ dcState s.blk n
    = 4 ∧ dcTesting s.blk n = false) ∧
    (∃ (s : State) (h : Hdr) (n : Nat) (ctrl : BitVec 64), n < 8 ∧ dieOff s.blk (n / 2) = false ∧ Admitted s.blk h
    { op := 1287, ports := [Port.h0, Port.p1, Port.p2, Port.svc, Port.fab], stage := 3, expert := true } ∧ (dcState s.blk n = 1 ∨ dcState s.blk n = 4)
    ∧ dcTesting s.blk n = false ∧ bracketInRange ctrl.toNat = true) ∧
    (∃ (s : State) (h : Hdr) (n : Nat), n < 8 ∧ dieOff s.blk (n / 2) = false ∧ Admitted s.blk h
    { op := 1288, ports := [Port.h0, Port.p1, Port.p2, Port.svc, Port.fab], stage := 3 } ∧ dcState s.blk n = 5) :=
  ⟨⟨stOf (dcW 0), H, 7, 3, by decide +kernel, by decide +kernel, adm_of (by decide +kernel), by decide +kernel⟩,
   ⟨stOf (dcW 6), H, 7, by decide +kernel, by decide +kernel, adm_of (by decide +kernel), by decide +kernel⟩,
   ⟨stOf (dcW 2), H, 7, by decide +kernel, by decide +kernel, adm_of (by decide +kernel)⟩,
   ⟨stOf (dcW 2), H, 7, by decide +kernel, by decide +kernel, adm_of (by decide +kernel), by decide +kernel⟩,
   ⟨stOf (dcW 4), H, 7, by decide +kernel, by decide +kernel, adm_of (by decide +kernel), by decide +kernel⟩,
   ⟨stOf (dcW 5), H, 7, by decide +kernel, by decide +kernel, adm_of (by decide +kernel), by decide +kernel⟩,
   ⟨stOf (dcW 7), H, 7, by decide +kernel, by decide +kernel, adm_of (by decide +kernel), by decide +kernel⟩,
   ⟨stOf (dcW 4), H, 7, 0xFFFFF, 1, by decide +kernel, by decide +kernel, adm_of (by decide +kernel), by decide +kernel⟩,
   ⟨stOf (dcW 1), H, 7, 511 * 2 ^ 8 + 2 ^ 17 + 2 ^ 22, by decide +kernel, by decide +kernel, adm_of (by decide +kernel), by decide +kernel⟩,
   ⟨stOf (dcW 5), H, 7, by decide +kernel, by decide +kernel, adm_of (by decide +kernel), by decide +kernel⟩⟩

/-- What the clauses of DramRequests suppose is met. -/
theorem test_meets_DramRequests :
    (∃ (s : State) (n : Fin 8), RunsOn s.blk (n.val / 2) ∧ dcTakes s.blk n.val = false) ∧
    (∃ (s : State) (n : Fin 8) (line : Nat), RunsOn s.blk (n.val / 2) ∧ dcState s.blk n.val = 2 ∧ portState s.blk (dcPortId n.val) = 0 ∧ 64 * line <
    (getDc s.blk n.val).cap ∧ (getDc s.blk n.val).lock.contains line = false ∧ (getDc s.blk n.val).rq.length < 256 ∧ blockDone (getDc s.blk n.val)
    (blockOf line) = false) ∧
    (∃ (s : State) (n : Fin 8) (line : Nat), RunsOn s.blk (n.val / 2) ∧ dcState s.blk n.val = 2 ∧ portState s.blk (dcPortId n.val) = 0 ∧ 64 * line <
    (getDc s.blk n.val).cap ∧ (getDc s.blk n.val).lock.contains line = false ∧ (getDc s.blk n.val).rq.length < 256 ∧ blockDone (getDc s.blk n.val)
    (blockOf line) = true) ∧
    (∃ (s : State) (n : Fin 8) (line : Nat), RunsOn s.blk (n.val / 2) ∧ dcState s.blk n.val = 2 ∧ portState s.blk (dcPortId n.val) = 0 ∧ 64 * line <
    (getDc s.blk n.val).cap ∧ (getDc s.blk n.val).lock.contains line = false ∧ (getDc s.blk n.val).wq.length < 128) ∧
    (∃ (s : State) (n : Fin 8) (line : Nat) (src : BitVec 12), RunsOn s.blk (n.val / 2) ∧ dcState s.blk n.val = 2 ∧ portState s.blk (dcPortId n.val) =
    0 ∧ 64 * line < (getDc s.blk n.val).cap ∧ (getDc s.blk n.val).lock.contains line = false ∧ viewScr s.blk n.val src.toNat = true ∧ (lineForm s.blk
    n.val line).key.isSome = true) ∧
    (∃ (s : State) (n : Fin 8) (line : Nat) (src : BitVec 12), RunsOn s.blk (n.val / 2) ∧ dcState s.blk n.val = 2 ∧ portState s.blk (dcPortId n.val) =
    0 ∧ 64 * line < (getDc s.blk n.val).cap ∧ (getDc s.blk n.val).lock.contains line = false ∧ (viewScr s.blk n.val src.toNat = false ∨ (lineForm
    s.blk n.val line).key = none) ∧ (getDc s.blk n.val).rq.length < 256) :=
  ⟨⟨stOf (dcW 0), 7, runsOn_of (by decide +kernel), by decide +kernel⟩,
   ⟨stOf (dcW 2 (fun c => { c with initBelow := 0 })), 7, 0x3FFF, runsOn_of (by decide +kernel), by decide +kernel⟩,
   ⟨stOf (dcW 2), 7, 0x3FFF, runsOn_of (by decide +kernel), by decide +kernel⟩,
   ⟨stOf (dcW 2), 7, 0x3FFF, runsOn_of (by decide +kernel), by decide +kernel⟩,
   ⟨stOf (let b := (((sweepW []).put (Rg.lsu 7) (Rg.rgKey 63) 15).put (Rg.lsu 7) (Rg.rgKeyClear 63) 0).put (Rg.lsu 7) Rg.lsuViews 0;
   { b with lsu := { b.lsu with slots := [(127, some 1)] } }), 7, 0, 0x700, runsOn_of (by decide +kernel), by decide +kernel⟩,
   ⟨stOf (dcW 2), 7, 0x3FFF, 5, runsOn_of (by decide +kernel), by decide +kernel⟩⟩

/-- What the clauses of DramEvents suppose is met. -/
theorem test_meets_DramEvents :
    (∃ (s : State) (n : Fin 8) (w : TrainWhy) (d : Dimm) (pair : Option Bool) (r : Fin 4), RunsOn s.blk (n.val / 2) ∧ (getDc s.blk n.val).training =
    some w ∧ dimmSupported d = true ∧ d.sameRanks = true ∧ pair ≠ some !d.ddr4 ∧ (¬(w = TrainWhy.online ∧ dimmCapacity d < mappedCap s.blk.dmap
    n.val)) ∧ (dimmRates d).contains ((getDc s.blk n.val).rateAsked.getD ((dimmRates d).headD 0)) = true ∧ (dimmRates d).contains r.val = true ∧
    (getDc s.blk n.val).rateAsked.getD ((dimmRates d).headD 0) ≤ r.val) ∧
    (∃ (s : State) (n : Fin 8), RunsOn s.blk (n.val / 2) ∧ dcState s.blk n.val = 3 ∧ (getDc s.blk n.val).rq = [] ∧ (getDc s.blk n.val).issued = [] ∧
    (getDc s.blk n.val).rets = [] ∧ (getDc s.blk n.val).wq = [] ∧ (getDc s.blk n.val).lock = []) ∧
    (∃ (s : State) (n : Fin 8) (sub : Fin 2) (rank : Fin 4) (d : Dimm), RunsOn s.blk (n.val / 2) ∧ dcRuns s.blk n.val = true ∧ (getDc s.blk
    n.val).dimm = some d ∧ rank.val < d.ranks ∧ (sub.val = 0 ∨ s.blk.flag (Rg.dc n.val) Rg.dcDdr4 = false)) ∧
    (∃ (s : State) (n : Fin 8) (sub : Fin 2), RunsOn s.blk (n.val / 2) ∧ dcRuns s.blk n.val = true ∧ alertOn (getDc s.blk n.val) sub.val = none ∧
    (cmdsWithin s.blk n.val sub.val s.blk.devTime).length + 7 ≤ 64) ∧
    (∃ (s : State) (n : Fin 8) (w : DWrite) (l : List DWrite), RunsOn s.blk (n.val / 2) ∧ (getDc s.blk n.val).wq = w :: l ∧ (getDc s.blk n.val).drain
    = false ∧ dcRuns s.blk n.val = true) ∧
    (∃ (s : State) (n : Fin 8), RunsOn s.blk (n.val / 2) ∧ dcRuns s.blk n.val = true) ∧
    (∃ (s : State) (n : Fin 8) (i : Nat) (r : DReq), RunsOn s.blk (n.val / 2) ∧ (getDc s.blk n.val).issued[i]? = some r ∧ alertOn (getDc s.blk n.val)
    (coordOf (getDc s.blk n.val) r.line).sub = none) ∧
    (∃ (s : State) (n : Fin 8), RunsOn s.blk (n.val / 2) ∧ dcState s.blk n.val = 2 ∧ alertOn (getDc s.blk n.val) (coordOf (getDc s.blk n.val) (getDc
    s.blk n.val).patrolPos).sub = none ∧ (getDc s.blk n.val).lock.contains (getDc s.blk n.val).patrolPos = false) ∧
    (∃ (s : State) (n : Fin 8), RunsOn s.blk (n.val / 2)) ∧
    (∃ (s : State) (n : Fin 8) (sub : Fin 2), RunsOn s.blk (n.val / 2) ∧ dcRuns s.blk n.val = true ∧ alertOn (getDc s.blk n.val) sub.val = none) ∧
    (∃ (s : State) (n : Fin 8) (sub : Fin 2) (a : DAlert), RunsOn s.blk (n.val / 2) ∧ alertOn (getDc s.blk n.val) sub.val = some a ∧ dcRuns s.blk
    n.val = true ∧ a.asserted = false) ∧
    (∃ (s : State) (n : Fin 8) (sub : Fin 2) (a : DAlert), RunsOn s.blk (n.val / 2) ∧ alertOn (getDc s.blk n.val) sub.val = some a ∧ a.asserted =
    true) ∧
    (∃ (s : State) (n : Fin 8) (sub : Fin 2) (a : DAlert), RunsOn s.blk (n.val / 2) ∧ alertOn (getDc s.blk n.val) sub.val = some a ∧ a.asserted =
    false) ∧
    (∃ (s : State) (n : Fin 8), RunsOn s.blk (n.val / 2) ∧ dcState s.blk n.val = 2 ∧ (getDc s.blk n.val).initBelow < dcBlocks (getDc s.blk n.val)) ∧
    (∃ (s : State) (n : Fin 8), RunsOn s.blk (n.val / 2) ∧ s.blk.flag (Rg.dc n.val) Rg.bkBusy = false ∧ (dcState s.blk n.val = 1 ∨ dcState s.blk n.val
    = 4) ∧ bracketInRange (s.blk.reg (Rg.dc n.val + 4096)).toNat = true) ∧
    (∃ (s : State) (n : Fin 8), RunsOn s.blk (n.val / 2) ∧ s.blk.flag (Rg.dc n.val) Rg.bkBusy = true) :=
  ⟨⟨stOf (dcW 1 (fun c => { c with training := some .command, rateAsked := some 3 })), 7, .command, dimm0, none, 3, runsOn_of (by decide +kernel),
   by decide +kernel⟩,
   ⟨stOf (dcW 3), 7, runsOn_of (by decide +kernel), by decide +kernel⟩,
   ⟨stOf (dcW 2), 7, 1, 0, dimm0, runsOn_of (by decide +kernel), by decide +kernel⟩,
   ⟨stOf (dcW 2), 7, 1, runsOn_of (by decide +kernel), by decide +kernel⟩,
   ⟨stOf (dcW 2 (fun c => { c with wq := [{ line := 1, data := 2, tag := 0, time := 0 }] })), 7, { line := 1, data := 2, tag := 0, time := 0 }, [],
   runsOn_of (by decide +kernel), by decide +kernel⟩,
   ⟨stOf (dcW 3), 7, runsOn_of (by decide +kernel), by decide +kernel⟩,
   ⟨stOf (dcW 2 (fun c => { c with issued := [dreq .read] })), 7, 0, dreq .read, runsOn_of (by decide +kernel), by decide +kernel⟩,
   ⟨stOf (dcW 2), 7, runsOn_of (by decide +kernel), by decide +kernel⟩,
   ⟨stOf W, 0, runsOn_of (by decide +kernel)⟩,
   ⟨stOf W, 0, 0, runsOn_of (by decide +kernel), by decide +kernel⟩,
   ⟨stOf (dcW 2 (fun c => { c with alerts := [(1, some { replays := 4, asserted := false, time := 0 })] })), 7, 1,
   { replays := 4, asserted := false, time := 0 }, runsOn_of (by decide +kernel), by decide +kernel⟩,
   ⟨stOf (dcW 2 (fun c => { c with alerts := [(1, some { replays := 0, asserted := true, time := 0 })] })), 7, 1,
   { replays := 0, asserted := true, time := 0 }, runsOn_of (by decide +kernel), by decide +kernel⟩,
   ⟨stOf (dcW 2 (fun c => { c with alerts := [(1, some { replays := 4, asserted := false, time := 0 })] })), 7, 1,
   { replays := 4, asserted := false, time := 0 }, runsOn_of (by decide +kernel), by decide +kernel⟩,
   ⟨stOf (dcW 2 (fun c => { c with initBelow := 0 })), 7, runsOn_of (by decide +kernel), by decide +kernel⟩,
   ⟨stOf (dcW 4), 7, runsOn_of (by decide +kernel), by decide +kernel⟩,
   ⟨stOf ((dcW 4).putB (Rg.dc 7) Rg.bkBusy true), 7, runsOn_of (by decide +kernel), by decide +kernel⟩⟩

/-- What the clauses of LsuCommands suppose is met. -/
theorem test_meets_LsuCommands :
    (∃ (s : State) (h : Hdr) (k : Nat), k < 16 ∧ slotInUse s.blk k = false ∧ Admitted s.blk h
    { op := 1536, ports := [Port.h0, Port.svc], stage := 3 }) ∧
    (∃ (s : State) (h : Hdr) (k : Nat), k < 16 ∧ slotInUse s.blk k = false ∧ Admitted s.blk h { op := 1536, ports := [Port.h0, Port.svc], stage := 3 }
    ∧ (spGet (fun _ => 0) s.blk.lsu.gens k ≠ 0)) ∧
    (∃ (s : State) (h : Hdr) (k : Nat), k < 16 ∧ slotInUse s.blk k = false ∧ Admitted s.blk h
    { op := 1537, ports := [Port.h0, Port.svc], stage := 3 }) ∧
    (∃ (s : State) (h : Hdr) (r : Nat) (base : Nat) (limit : Nat) (valid : Nat), Admitted s.blk h
    { op := 1538, ports := [Port.h0, Port.p1, Port.p2, Port.svc, Port.fab], stage := 3 } ∧ r < 64 ∧ base % 65536 = 0 ∧ limit % 65536 = 0 ∧ base ≤
    limit ∧ valid < 2 ∧ (s.blk.flag (Rg.lsu (lsuRef s.blk)) (Rg.rgKeyClear r) = true ∧ s.blk.flag (Rg.lsu (lsuRef s.blk)) (Rg.rgSweep r) = false ∨
    regionChanges s.blk r base limit valid = false) ∧ (valid = 1 → regionOverlaps s.blk r base limit = false)) ∧
    (∃ (s : State) (h : Hdr) (r : Nat) (slot : Nat) (tagEn : Nat), Admitted s.blk h
    { op := 1539, ports := [Port.h0, Port.p1, Port.p2, Port.svc, Port.fab], stage := 3 } ∧ r < 64 ∧ slot ≤ 16 ∧ tagEn < 2 ∧ s.blk.flag (Rg.lsu (lsuRef
    s.blk)) (Rg.rgSweep r) = false ∧ (slot < 16 → heldKey s.blk slot ≠ none) ∧ (tagEn = 1 → slot < 16 ∧ ∀ (n : Nat), n < 8 → s.blk.flag (Rg.dc n)
    Rg.dcDdr4 = false)) ∧
    (∃ (s : State) (h : Hdr) (r : Nat), Admitted s.blk h { op := 1540, ports := [Port.h0, Port.p1, Port.p2, Port.svc, Port.fab], stage := 3 } ∧ r <
    64) :=
  ⟨⟨stOf W, H, 15, by decide +kernel, by decide +kernel, adm_of (by decide +kernel)⟩,
   ⟨stOf ({ W with lsu := { W.lsu with gens := [(15, 1)] } }), H, 15, by decide +kernel, by decide +kernel, adm_of (by decide +kernel),
   by decide +kernel⟩,
   ⟨stOf W, H, 15, by decide +kernel, by decide +kernel, adm_of (by decide +kernel)⟩,
   ⟨stOf W, H, 63, 0, 2 ^ 41, 1, adm_of (by decide +kernel), by decide +kernel⟩,
   ⟨stOf ({ W with lsu := { W.lsu with keys := [(15, some 1)] } }), H, 63, 15, 1, adm_of (by decide +kernel), by decide +kernel⟩,
   ⟨stOf W, H, 63, adm_of (by decide +kernel), by decide +kernel⟩⟩

/-- What the clauses of LsuEvents suppose is met. -/
theorem test_meets_LsuEvents :
    (∃ (s : State) (n : Fin 8) (i : Nat) (r : DRet), RunsOn s.blk (n.val / 2) ∧ (getDc s.blk n.val).rets[i]? = some r ∧ r.req.kind = DKind.read) ∧
    (∃ (s : State) (n : Fin 8) (i : Nat) (r : DRet) (m : Merge), RunsOn s.blk (n.val / 2) ∧ (getDc s.blk n.val).rets[i]? = some r ∧ r.req.kind =
    DKind.pair ∧ r.req.merge = some m ∧ (getDc s.blk n.val).wq.length < 128) ∧
    (∃ (s : State) (n : Fin 8) (w : Sweep) (rest : List Sweep) (a : Nat) (line : Nat), RunsOn s.blk (n.val / 2) ∧ s.blk.lsu.sweeps = w :: rest ∧
    dcTakes s.blk n.val = true ∧ sweeping (getDc s.blk n.val) = false ∧ (getDc s.blk n.val).rq.length < 256 ∧ sweepNext s.blk n.val w.region
    (regionBound s.blk n.val w.region) = some (a, line) ∧ (getDc s.blk n.val).lock.contains line = false) ∧
    (∃ (s : State) (n : Fin 8) (w : Sweep) (rest : List Sweep), RunsOn s.blk (n.val / 2) ∧ s.blk.lsu.sweeps = w :: rest ∧ dcTakes s.blk n.val = true ∧
    sweeping (getDc s.blk n.val) = false ∧ (getDc s.blk n.val).rq.length < 256 ∧ sweepNext s.blk n.val w.region (regionBound s.blk n.val w.region) =
    none) ∧
    (∃ (s : State) (n : Fin 8) (w : Sweep) (rest : List Sweep) (r : DRet), RunsOn s.blk (n.val / 2) ∧ s.blk.lsu.sweeps = w :: rest ∧ (List.find? (fun
    x => x.req.kind == DKind.sweep) (getDc s.blk n.val).rets = some r) ∧ (getDc s.blk n.val).wq.length < 128) ∧
    (∃ (s : State) (n : Fin 8) (w : Sweep) (rest : List Sweep) (r : Fin 64), RunsOn s.blk (n.val / 2) ∧ s.blk.lsu.sweeps = w :: rest ∧
    s.blk.gr.restarting = false ∧ w.region = r.val ∧ (∀ (m : Nat), m < 8 → regionBound s.blk m r.val = regionLimit s.blk (lsuRef s.blk) r.val ∧
    sweeping (getDc s.blk m) = false)) :=
  ⟨⟨stOf (dcW 2 (fun c => { c with rets := [dret .read] })), 7, 0, dret .read, runsOn_of (by decide +kernel), by decide +kernel⟩,
   ⟨stOf (dcW 2 (fun c => { c with rets := [dret .pair] })), 7, 0, dret .pair, { aor := true, mask := 1, data := 1 }, runsOn_of (by decide +kernel),
   by decide +kernel⟩,
   ⟨stOf (sweepW []), 7, sweep0, [], 2 ^ 38 * 7, 0, runsOn_of (by decide +kernel), by decide +kernel⟩,
   ⟨stOf ({ W with lsu := { W.lsu with sweeps := [sweep0] } }), 7, sweep0, [], runsOn_of (by decide +kernel), by decide +kernel⟩,
   ⟨stOf (sweepW [dret .sweep]), 7, sweep0, [], dret .sweep, runsOn_of (by decide +kernel), by decide +kernel⟩,
   ⟨stOf ({ W with lsu := { W.lsu with sweeps := [sweep0] } }), 0, sweep0, [], 63, runsOn_of (by decide +kernel), by decide +kernel, by decide +kernel, by decide +kernel, by
        intro m hm
        have : m = 0 ∨ m = 1 ∨ m = 2 ∨ m = 3 ∨ m = 4 ∨ m = 5 ∨ m = 6 ∨ m = 7 := by omega
        rcases this with rfl | rfl | rfl | rfl | rfl | rfl | rfl | rfl <;> decide +kernel⟩⟩

/-- What the clauses of NocCommands suppose is met. -/
theorem test_meets_NocCommands :
    (∃ (s : State) (h : Hdr), Admitted s.blk h { op := 1792, ports := [Port.h0, Port.p1, Port.p2, Port.svc, Port.fab], stage := 2 }) ∧
    (∃ (s : State) (h : Hdr) (die : Nat) (number : Nat), Admitted s.blk h
    { op := 1793, ports := [Port.h0, Port.p1, Port.p2, Port.svc, Port.fab], stage := 2 } ∧ die < 5 ∧ dieOff s.blk die = false ∧ number < if die < 4
    then 24 else 4) ∧
    (∃ (s : State) (h : Hdr) (die : Nat) (number : Nat), Admitted s.blk h
    { op := 1793, ports := [Port.h0, Port.p1, Port.p2, Port.svc, Port.fab], stage := 2 } ∧ die < 5 ∧ dieOff s.blk die = false ∧ number < 256) ∧
    (∃ (s : State) (h : Hdr) (p : Nat), isTarget s.blk p = true ∧ dieOff s.blk (p / 256) = false ∧ Admitted s.blk h
    { op := 1794, ports := [Port.h0, Port.p1, Port.p2, Port.svc, Port.fab], stage := 2, expert := true } ∧ portState s.blk p ≠ 3) ∧
    (∃ (s : State) (h : Hdr) (p : Nat), isTarget s.blk p = true ∧ dieOff s.blk (p / 256) = false ∧ Admitted s.blk h
    { op := 1795, ports := [Port.h0, Port.p1, Port.p2, Port.svc, Port.fab], stage := 2 } ∧ portState s.blk p = 3 ∧ s.blk.net.unreset.contains p =
    false) ∧
    (∃ (s : State) (h : Hdr) (m : Nat), m < 75 ∧ dieOff s.blk (domainDie m) = false ∧ Admitted s.blk h
    { op := 1796, ports := [Port.h0, Port.p1, Port.p2, Port.svc, Port.fab], stage := 2 } ∧ (72 ≤ m → s.blk.start.sitePresent.getLsbD (m - 72) = true)
    ∧ s.blk.net.domOff.contains m = false ∧ s.blk.net.domDrain.contains m = false ∧ domFree s.blk m = true) ∧
    (∃ (s : State) (h : Hdr) (m : Nat), m < 75 ∧ dieOff s.blk (domainDie m) = false ∧ Admitted s.blk h
    { op := 1797, ports := [Port.h0, Port.p1, Port.p2, Port.svc, Port.fab], stage := 2 } ∧ s.blk.net.domOff.contains m = true ∧ (72 ≤ m → siteCut
    s.blk (m - 72) = false)) :=
  ⟨⟨stOf W, H, adm_of (by decide +kernel)⟩,
   ⟨stOf W, H, 4, 3, adm_of (by decide +kernel), by decide +kernel⟩,
   ⟨stOf W, H, 3, 255, adm_of (by decide +kernel), by decide +kernel⟩,
   ⟨stOf W, H, 0x402, by decide +kernel, by decide +kernel, adm_of (by decide +kernel), by decide +kernel⟩,
   ⟨stOf (setPort 0x369 3 W), H, 0x369, by decide +kernel, by decide +kernel, adm_of (by decide +kernel), by decide +kernel⟩,
   ⟨stOf W, H, 71, by decide +kernel, by decide +kernel, adm_of (by decide +kernel), by decide +kernel⟩,
   ⟨stOf (netW (fun n => { n with domOff := [73] })), H, 73, by decide +kernel, by decide +kernel, adm_of (by decide +kernel), by decide +kernel⟩⟩

/-- What the clauses of NocTraffic suppose is met. -/
theorem test_meets_NocTraffic :
    (∃ (s : State) (src : BitVec 12) (via : Fin 5) (kind : Fin 5) (addr : BitVec 48) (len : Fin 4096) (data : List (BitVec 8)), Running s.blk ∧
    mayIssue s.blk src.toNat via.val addr.toNat = true ∧ nocRequestForm kind.val addr.toNat (len.val + 1) (bytesOf data) = true ∧ fenceBusy s.blk
    src.toNat = false ∧ (kindPosted kind.val = true → flipHeld s.blk src.toNat = false) ∧ tagsNeeded s.blk src.toNat kind.val addr.toNat (len.val + 1)
    ≤ (freeTags s.blk src.toNat (tagsNeeded s.blk src.toNat kind.val addr.toNat (len.val + 1))).length) ∧
    (∃ (s : State) (dst : BitVec 12) (tag : BitVec 12) (p : NetPart), Running s.blk ∧ (List.find? (fun p => p.src == dst.toNat && p.tag == tag.toNat
    && p.phase != 0) s.blk.net.parts = some p)) ∧
    (∃ (s : State) (d : Fin 4), Running s.blk ∧ dieOff s.blk d.val = false) ∧
    (∃ (s : State) (src : BitVec 12) (tag : BitVec 12) (d : Fin 4) (k : Fin 96) (kind : Fin 3) (x : NetPart), Running s.blk ∧ dieOff s.blk d.val =
    false ∧ kind.val ≠ 2 ∧ (List.find? (fun x => x.src == src.toNat && x.tag == tag.toNat && x.dst == 256 * d.val + k.val && x.phase == 1)
    s.blk.net.parts = some x)) ∧
    (∃ (s : State) (d : Fin 4) (k : Fin 96) (id : BitVec 24) (x : NetPart), Running s.blk ∧ dieOff s.blk d.val = false ∧ (List.find? (fun x => x.src
    == id.toNat / 4096 && x.tag == id.toNat % 4096 && x.dst == 256 * d.val + k.val && x.phase == 1) s.blk.net.parts = some x)) ∧
    (∃ (s : State) (src : BitVec 12), Running s.blk ∧ isInitiator src.toNat = true ∧ dieOff s.blk (src.toNat / 256) = false ∧ (∀ (d k : Nat), apOf
    src.toNat = some (d, k) → apLive s.blk d k = true ∧ apHeld s.blk d k = false) ∧ fenceBusy s.blk src.toNat = false ∧ 2 ≤ stageOf s.blk ∧ stageOf
    s.blk ≠ 7) ∧
    (∃ (s : State) (src : BitVec 12) (dst : BitVec 12), Running s.blk ∧ ((s.blk.net.fences.any fun f => f.src == src.toNat && f.dsts.contains
    dst.toNat) = true) ∧ (isSitePort dst.toNat = true → targetStatus s.blk dst.toNat ≠ 0)) ∧
    (∃ (s : State), Running s.blk) :=
  ⟨⟨stOf W, 0x400, 0, 0, 0x5F, 0, [], runs_of (by decide +kernel), by decide +kernel⟩,
   ⟨stOf (netW (fun n => { n with parts := [part0 0x701 0x368] })), 0x701, 4095, part0 0x701 0x368, runs_of (by decide +kernel), by decide +kernel⟩,
   ⟨stOf (setPort 0x35F 0 W), 3, runs_of (by decide +kernel), by decide +kernel⟩,
   ⟨stOf (netW (fun n => { n with parts := [part0 0x701 0x35F] }) (setPort 0x35F 0 W)), 0x701, 4095, 3, 95, 1, part0 0x701 0x35F, runs_of
   (by decide +kernel), by decide +kernel⟩,
   ⟨stOf (netW (fun n => { n with parts := [part0 0x701 0x35F] }) (inState 3 255 (apSector 3 95) (setPort 0x35F 0 W))), 3, 95, 0x701FFF, part0 0x701
   0x35F, runs_of (by decide +kernel), by decide +kernel⟩,
   ⟨stOf W, 0x377, runs_of (by decide +kernel), by decide +kernel, by decide +kernel, by
        intro d k h
        have e : apOf (BitVec.toNat (0x377 : BitVec 12)) = none := by decide +kernel
        exact absurd (e.symm.trans h) (by simp), by decide +kernel⟩,
   ⟨stOf (netW (fun n => { n with fences := [{ src := 0x377, what := .own 5, tags := [], dsts := [0x402] }] })), 0x377, 0x402, runs_of
   (by decide +kernel), by decide +kernel⟩,
   ⟨stOf W, runs_of (by decide +kernel)⟩⟩

/-- What the clauses of NocEvents suppose is met. -/
theorem test_meets_NocEvents :
    (∃ (s : State) (r : Fin 100) (err : Fin 3), RunsOn s.blk (r.val / 24) ∧ err.val = 2) ∧
    (∃ (s : State) (r : Fin 100) (hd : BitVec 128) (err : Fin 3), RunsOn s.blk (r.val / 24) ∧ err.val ≠ 2 ∧ routerOf (hdrDst hd.toNat) = r.val) ∧
    (∃ (s : State) (r : Fin 100) (hd : BitVec 128) (err : Fin 3) (port : Nat) (e : Nat), RunsOn s.blk (r.val / 24) ∧ err.val ≠ 2 ∧ routerOf (hdrDst
    hd.toNat) ≠ r.val ∧ e = routeEntry s.blk (routerDie r.val) (r.val % 24) (fldGet hd.toNat 6 1) (routerOf (hdrDst hd.toNat)) ∧ fldGet e 16 2 ≠ 1 ∧
    fldGet e 16 2 ≠ 2 ∧ pickPort (e % 2 ^ 16) (hdrSrc hd.toNat) (hdrDst hd.toNat) = some port) ∧
    (∃ (s : State) (r : Fin 100) (hd : BitVec 128) (err : Fin 3) (e : Nat), RunsOn s.blk (r.val / 24) ∧ err.val ≠ 2 ∧ routerOf (hdrDst hd.toNat) ≠
    r.val ∧ e = routeEntry s.blk (routerDie r.val) (r.val % 24) (fldGet hd.toNat 6 1) (routerOf (hdrDst hd.toNat)) ∧ (fldGet e 16 2 = 1 ∨ fldGet e 16
    2 = 2)) ∧
    (∃ (s : State) (r : Fin 100), RunsOn s.blk (r.val / 24)) ∧
    (∃ (s : State) (r : Fin 100) (gone : BitVec 4) (spared : List (Fin 34)), RunsOn s.blk (r.val / 24) ∧ 2 ≤ stageOf s.blk ∧ stageOf s.blk ≠ 7 ∧
    s.blk.gr.up = true ∧ s.blk.gr.restarting = false ∧ (setFits s.blk gone (List.map (fun x => x.val) spared) = true)) ∧
    (∃ (s : State) (r : Fin 100) (x : Reroute) (rest : List Reroute), RunsOn s.blk (r.val / 24) ∧ s.blk.net.reroutes = x :: rest ∧ x.step = 1) ∧
    (∃ (s : State) (r : Fin 100) (x : Reroute) (rest : List Reroute), RunsOn s.blk (r.val / 24) ∧ s.blk.net.reroutes = x :: rest) ∧
    (∃ (s : State) (r : Fin 100) (x : Reroute) (rest : List Reroute), RunsOn s.blk (r.val / 24) ∧ s.blk.net.reroutes = x :: rest ∧ x.step = 3 ∧
    s.blk.flag (Rg.router (routerDie r.val) (r.val % 24)) Rg.rtFlipSeen = true ∧ oldCount s.blk r.val = 0 ∧ ((s.blk.net.fences.any fun f => f.what ==
    FenceFor.flip) = false) ∧ flipsLeft (tableRetired r.val s.blk) = true) ∧
    (∃ (s : State) (r : Fin 100) (x : Reroute) (rest : List Reroute), RunsOn s.blk (r.val / 24) ∧ s.blk.net.reroutes = x :: rest ∧ x.step = 3 ∧
    s.blk.flag (Rg.router (routerDie r.val) (r.val % 24)) Rg.rtFlipSeen = true ∧ oldCount s.blk r.val = 0 ∧ ((s.blk.net.fences.any fun f => f.what ==
    FenceFor.flip) = false) ∧ flipsLeft (tableRetired r.val s.blk) = false) ∧
    (∃ (s : State) (r : Fin 100) (x : Reroute) (rest : List Reroute), RunsOn s.blk (r.val / 24) ∧ s.blk.net.reroutes = x :: rest ∧ x.step = 3 ∧ x.slow
    = false) ∧
    (∃ (s : State) (r : Fin 100) (p : BitVec 12), RunsOn s.blk (r.val / 24) ∧ isTarget s.blk p.toNat = true ∧ portState s.blk p.toNat ≠ 3 ∧ (¬(p.toNat
    / 256 < 4 ∧ (p.toNat % 256 = 104 ∨ p.toNat % 256 = 105)))) ∧
    (∃ (s : State) (r : Fin 100) (p : BitVec 12), RunsOn s.blk (r.val / 24) ∧ isTarget s.blk p.toNat = true ∧ portState s.blk p.toNat ≠ 3 ∧ p.toNat /
    256 < 4 ∧ (p.toNat % 256 = 104 ∨ p.toNat % 256 = 105)) ∧
    (∃ (s : State) (r : Fin 100) (m : Fin 75), RunsOn s.blk (r.val / 24) ∧ s.blk.net.domDrain.contains m.val = true ∧ openOf (drainEnded m.val s.blk)
    1796 m.val ≠ []) ∧
    (∃ (s : State) (r : Fin 100) (m : Fin 75), RunsOn s.blk (r.val / 24) ∧ s.blk.net.domDrain.contains m.val = true ∧ openOf (drainEnded m.val s.blk)
    1796 m.val = []) :=
  ⟨⟨stOf W, 95, 2, runsOn_of (by decide +kernel), by decide +kernel⟩,
   ⟨stOf W, 95, 0x369000000, 1, runsOn_of (by decide +kernel), by decide +kernel⟩,
   ⟨stOf W, 95, 0x360000000, 1, 3, _, runsOn_of (by decide +kernel), by decide +kernel, by decide +kernel, rfl, by decide +kernel, by decide +kernel,
   pick_one (by decide +kernel)⟩,
   ⟨stOf (netW (fun n => { n with tables := [(0, { TableSet.default with gone := 8 })] })), 0, 0x360000000, 0, _, runsOn_of (by decide +kernel),
   by decide +kernel, by decide +kernel, rfl, by decide +kernel⟩,
   ⟨stOf W, 95, runsOn_of (by decide +kernel)⟩,
   ⟨stOf (W.putB Rg.rst (Rg.dieInReset 3) true), 95, 8, [], runsOn_of (by decide +kernel), by decide +kernel⟩,
   ⟨stOf (netW (fun n => { n with reroutes := [{ reroute0 with step := 1 }] })), 95, { reroute0 with step := 1 }, [], runsOn_of (by decide +kernel),
   by decide +kernel⟩,
   ⟨stOf (netW (fun n => { n with reroutes := [reroute0] })), 95, reroute0, [], runsOn_of (by decide +kernel), by decide +kernel⟩,
   ⟨stOf (((netW (fun n => { n with reroutes := [reroute0] })).putB (Rg.router 0 0) Rg.rtFlipSeen true).putB (Rg.router 3 23) Rg.rtFlipSeen true), 95,
   reroute0, [], runsOn_of (by decide +kernel), by decide +kernel⟩,
   ⟨stOf ((netW (fun n => { n with reroutes := [reroute0] })).putB (Rg.router 3 23) Rg.rtFlipSeen true), 95, reroute0, [], runsOn_of
   (by decide +kernel), by decide +kernel⟩,
   ⟨stOf (netW (fun n => { n with reroutes := [reroute0] })), 95, reroute0, [], runsOn_of (by decide +kernel), by decide +kernel⟩,
   ⟨stOf W, 95, 0x402, runsOn_of (by decide +kernel), by decide +kernel⟩,
   ⟨stOf W, 95, 0x369, runsOn_of (by decide +kernel), by decide +kernel⟩,
   ⟨stOf
   ({ netW (fun n => { n with domDrain := [74] }) with mbx := { W.mbx with opens := [{ cmd := { port := .h0, tag := 0, op := 1796, v1 := false }, op2 := 1796, obj := 74 }] } }),
   95, 74, runsOn_of (by decide +kernel), by decide +kernel⟩,
   ⟨stOf (netW (fun n => { n with domDrain := [74] })), 95, 74, runsOn_of (by decide +kernel), by decide +kernel⟩⟩

/-- What the clauses of DieLinkCommands suppose is met. -/
theorem test_meets_DieLinkCommands :
    (∃ (s : State) (h : Hdr) (m : Nat), m < 34 ∧ (∀ (d : Nat), d ∈ linkEnds m → s.blk.start.dieHeld.getLsbD d = false) ∧ Admitted s.blk h
    { op := 2048, ports := [Port.h0, Port.p1, Port.p2, Port.svc, Port.fab], stage := 2 }) ∧
    (∃ (s : State) (h : Hdr) (m : Nat), m < 34 ∧ (∀ (d : Nat), d ∈ linkEnds m → s.blk.start.dieHeld.getLsbD d = false) ∧ Admitted s.blk h
    { op := 2049, ports := [Port.h0, Port.p1, Port.p2, Port.svc, Port.fab], stage := 2 } ∧ (moduleState s.blk m = 4 ∨ moduleState s.blk m = 5)) ∧
    (∃ (s : State) (h : Hdr) (m : Nat), m < 34 ∧ (∀ (d : Nat), d ∈ linkEnds m → s.blk.start.dieHeld.getLsbD d = false) ∧ Admitted s.blk h
    { op := 2049, ports := [Port.h0, Port.p1, Port.p2, Port.svc, Port.fab], stage := 2 } ∧ moduleState s.blk m = 6) ∧
    (∃ (s : State) (h : Hdr) (m : Nat), m < 34 ∧ (∀ (d : Nat), d ∈ linkEnds m → s.blk.start.dieHeld.getLsbD d = false) ∧ Admitted s.blk h
    { op := 2050, ports := [Port.h0, Port.p1, Port.p2, Port.svc, Port.fab], stage := 2 } ∧ (moduleState s.blk m = 4 ∨ moduleState s.blk m = 5 ∨
    moduleState s.blk m = 6) ∧ held s.blk [2050] m = false ∧ lastPath s.blk m = false) ∧
    (∃ (s : State) (h : Hdr) (m : Nat), m < 34 ∧ (∀ (d : Nat), d ∈ linkEnds m → s.blk.start.dieHeld.getLsbD d = false) ∧ Admitted s.blk h
    { op := 2050, ports := [Port.h0, Port.p1, Port.p2, Port.svc, Port.fab], stage := 2 } ∧ moduleState s.blk m = 4 ∧ m < 24 ∧ held s.blk [2050] m =
    false ∧ (∀ (b : Nat), b ∈ siblings m → b ≠ m → moduleState s.blk b ≠ 4 ∧ moduleState s.blk b ≠ 5)) ∧
    (∃ (s : State) (h : Hdr) (m : Nat), m < 34 ∧ (∀ (d : Nat), d ∈ linkEnds m → s.blk.start.dieHeld.getLsbD d = false) ∧ Admitted s.blk h
    { op := 2051, ports := [Port.h0, Port.p1, Port.p2, Port.svc, Port.fab], stage := 2 } ∧ moduleState s.blk m = 0) ∧
    (∃ (s : State) (h : Hdr) (m : Nat) (d : Nat), m < 34 ∧ (∀ (d : Nat), d ∈ linkEnds m → s.blk.start.dieHeld.getLsbD d = false) ∧ d ∈ linkEnds m ∧
    Admitted s.blk h { op := 2052, ports := [Port.h0, Port.p1, Port.p2, Port.svc, Port.fab], stage := 2, expert := true } ∧ s.blk.flag (Rg.dl d m)
    Rg.mWidthHeld = true) ∧
    (∃ (s : State) (h : Hdr) (m : Nat) (die : Nat) (group : Nat) (wire : Nat), m < 34 ∧ (∀ (d : Nat), d ∈ linkEnds m → s.blk.start.dieHeld.getLsbD d =
    false) ∧ Admitted s.blk h { op := 2053, ports := [Port.h0, Port.p1, Port.p2, Port.svc, Port.fab], stage := 2 } ∧ die < 4 ∧ group < 1536 ∧ wire <
    32 ∧ dieOff s.blk die = false ∧ s.blk.flag (seamEnd (seamOfDie die group).fst (seamOfDie die group).snd 0) Rg.sgLost = false ∧ seamCarried s.blk
    (seamOfDie die group).fst (seamOfDie die group).snd wire = false ∧ seamIdle? s.blk (seamOfDie die group).fst (seamOfDie die group).snd ≠ none) :=
  ⟨⟨stOf W, H, 33, by decide +kernel, by decide +kernel, adm_of (by decide +kernel)⟩,
   ⟨stOf (linkW 5), H, 33, by decide +kernel, by decide +kernel, adm_of (by decide +kernel), by decide +kernel⟩,
   ⟨stOf (linkW 6), H, 33, by decide +kernel, by decide +kernel, adm_of (by decide +kernel), by decide +kernel⟩,
   ⟨stOf (List.foldl (fun b m => (linkEnds m).foldl (fun b d => b.put (Rg.dl d m) Rg.mState 4) b) W [24, 25]), H, 24, by decide +kernel,
   by decide +kernel, adm_of (by decide +kernel), by decide +kernel⟩,
   ⟨stOf (List.foldl (fun b m => (linkEnds m).foldl (fun b d => b.put (Rg.dl d m) Rg.mState 4) b) W [23]), H, 23, by decide +kernel,
   by decide +kernel, adm_of (by decide +kernel), by decide +kernel⟩,
   ⟨stOf W, H, 33, by decide +kernel, by decide +kernel, adm_of (by decide +kernel), by decide +kernel⟩,
   ⟨stOf (W.putB (Rg.dl 3 33) Rg.mWidthHeld true), H, 33, 3, by decide +kernel, by decide +kernel, by decide +kernel, adm_of (by decide +kernel),
   by decide +kernel⟩,
   ⟨stOf W, H, 0, 0, 0, 0, by decide +kernel, by decide +kernel, adm_of (by decide +kernel), by decide +kernel⟩⟩

/-- What clauses, part 1 of 2, of DieLinkEvents suppose is met. -/
theorem test_meets_DieLinkEvents_1 :
    (∃ (s : State) (d : Fin 5) (m : Fin 34), Running s.blk ∧ hasEnd d.val m.val = true ∧ linkState s.blk d.val m.val = 1) ∧
    (∃ (s : State) (d : Fin 5) (m : Fin 34) (r : BitVec 384), Running s.blk ∧ hasEnd d.val m.val = true ∧ linkState s.blk d.val m.val = 1 ∧ recGood
    (recBytes r) = false) ∧
    (∃ (s : State) (d : Fin 5) (m : Fin 34) (r : BitVec 384), Running s.blk ∧ hasEnd d.val m.val = true ∧ linkState s.blk d.val m.val = 1 ∧ recGood
    (recBytes r) = true) ∧
    (∃ (s : State) (d : Fin 5) (m : Fin 34) (r : BitVec 384), Running s.blk ∧ hasEnd d.val m.val = true ∧ dieOff s.blk d.val = false ∧ (linkState
    s.blk d.val m.val = 3 ∨ linkState s.blk d.val m.val = 6) ∧ recGood (recBytes r) = true) ∧
    (∃ (s : State) (d : Fin 5) (m : Fin 34), Running s.blk ∧ hasEnd d.val m.val = true ∧ linkState s.blk d.val m.val = 3) ∧
    (∃ (s : State) (d : Fin 5) (m : Fin 34), Running s.blk ∧ hasEnd d.val m.val = true ∧ linkState s.blk d.val m.val = 6) ∧
    (∃ (s : State) (d : Fin 5) (m : Fin 34), Running s.blk ∧ hasEnd d.val m.val = true ∧ dieOff s.blk d.val = false ∧ linkUp s.blk d.val m.val = true) ∧
    (∃ (s : State) (d : Fin 5) (m : Fin 34) (flit : BitVec 2048), Running s.blk ∧ hasEnd d.val m.val = true ∧ dieOff s.blk d.val = false ∧ linkUp
    s.blk d.val m.val = true ∧ flitGood (flitOf (linkV2 s.blk d.val m.val) flit.toNat) = true) ∧
    (∃ (s : State) (d : Fin 5) (m : Fin 34) (flit : BitVec 2048), Running s.blk ∧ hasEnd d.val m.val = true ∧ dieOff s.blk d.val = false ∧ linkUp
    s.blk d.val m.val = true ∧ flitGood (flitOf (linkV2 s.blk d.val m.val) flit.toNat) = false) ∧
    (∃ (s : State) (d : Fin 5) (m : Fin 34) (seq : BitVec 16), Running s.blk ∧ hasEnd d.val m.val = true ∧ dieOff s.blk d.val = false ∧ linkUp s.blk
    d.val m.val = true ∧ (((unacked (ackHeld ((seq.toNat + 65535) % 65536) (getEnd s.blk d.val m.val))).any fun x => x.fst == seq.toNat) = true)) ∧
    (∃ (s : State) (d : Fin 5) (m : Fin 34) (x : Nat × List Nat) (l : List (Nat × List Nat)), Running s.blk ∧ hasEnd d.val m.val = true ∧ dieOff s.blk
    d.val = false ∧ linkUp s.blk d.val m.val = true ∧ unacked (getEnd s.blk d.val m.val) = x :: l) ∧
    (∃ (s : State) (d : Fin 5) (m : Fin 34) (k : Fin 4), Running s.blk ∧ hasEnd d.val m.val = true ∧ dieOff s.blk d.val = false ∧ linkUp s.blk d.val
    m.val = true ∧ sibling m.val k.val ≠ m.val ∧ k.val < (siblings m.val).length) :=
  ⟨⟨stOf (linkW 1), 3, 33, runs_of (by decide +kernel), by decide +kernel⟩,
   ⟨stOf (linkW 1), 3, 33, 1, runs_of (by decide +kernel), by decide +kernel⟩,
   ⟨stOf (linkW 1), 3, 33, 0x8324661c0000000000000000000000000000000000000000000000000000000000000000000000000000000000000000, runs_of
   (by decide +kernel), by decide +kernel⟩,
   ⟨stOf (linkW 6), 3, 33, 0x8324661c0000000000000000000000000000000000000000000000000000000000000000000000000000000000000000, runs_of
   (by decide +kernel), by decide +kernel⟩,
   ⟨stOf (linkW 3), 3, 33, runs_of (by decide +kernel), by decide +kernel⟩,
   ⟨stOf (linkW 6), 3, 33, runs_of (by decide +kernel), by decide +kernel⟩,
   ⟨stOf (linkW 5), 3, 33, runs_of (by decide +kernel), by decide +kernel⟩,
   ⟨stOf (linkW 4), 3, 33,
   0x15d70e0c00000000000000000000000000000000000000000000000000000000000000000000000000000000000000000000000000000000000000000000000000000000000000000000000000000000000000000000000000000000000000000000000000000000000000000000000000000000000000000000000000000000,
   runs_of (by decide +kernel), by decide +kernel⟩,
   ⟨stOf (linkW 4), 3, 33, 1, runs_of (by decide +kernel), by decide +kernel⟩,
   ⟨stOf (linkW 4 (fun e => { e with held := [(65535, [])] })), 3, 33, 65535, runs_of (by decide +kernel), by decide +kernel⟩,
   ⟨stOf (linkW 4 (fun e => { e with held := [(65535, [])] })), 3, 33, (65535, []), [], runs_of (by decide +kernel), by decide +kernel⟩,
   ⟨stOf (linkW 4), 3, 33, 0, runs_of (by decide +kernel), by decide +kernel⟩⟩

/-- What clauses, part 2 of 2, of DieLinkEvents suppose is met. -/
theorem test_meets_DieLinkEvents_2 :
    (∃ (s : State) (d : Fin 5) (m : Fin 34) (count : BitVec 32), Running s.blk ∧ hasEnd d.val m.val = true ∧ dieOff s.blk d.val = false ∧ linkUp s.blk
    d.val m.val = true ∧ (getEnd s.blk d.val m.val).inCount = count.toNat) ∧
    (∃ (s : State) (d : Fin 5) (m : Fin 34) (count : BitVec 32), Running s.blk ∧ hasEnd d.val m.val = true ∧ dieOff s.blk d.val = false ∧ linkUp s.blk
    d.val m.val = true ∧ (getEnd s.blk d.val m.val).inCount ≠ count.toNat) ∧
    (∃ (s : State) (d : Fin 5) (m : Fin 34) (lane : Fin 64), Running s.blk ∧ hasEnd d.val m.val = true ∧ dieOff s.blk d.val = false ∧ linkUp s.blk
    d.val m.val = true ∧ (getEnd s.blk d.val m.val).rxFail.getLsbD lane.val = false ∧ s.blk.flag (Rg.dl d.val m.val) Rg.mAutoSteer = true) ∧
    (∃ (s : State) (d : Fin 5) (m : Fin 34) (lane : Fin 64), Running s.blk ∧ hasEnd d.val m.val = true ∧ dieOff s.blk d.val = false ∧ linkUp s.blk
    d.val m.val = true ∧ (getEnd s.blk d.val m.val).rxFail.getLsbD lane.val = false ∧ s.blk.flag (Rg.dl d.val m.val) Rg.mAutoSteer = false) ∧
    (∃ (s : State) (d : Fin 5) (m : Fin 34) (k : Fin 4), Running s.blk ∧ hasEnd d.val m.val = true ∧ dieOff s.blk d.val = false ∧ (getEnd s.blk d.val
    (sibling m.val k.val)).carrier = some (m.val, false)) ∧
    (∃ (s : State) (d : Fin 5) (m : Fin 34), Running s.blk ∧ hasEnd d.val m.val = true ∧ clockDie (edgeOf m.val) = some d.val ∧ (((siblings m.val).all
    fun b => (clockLost m.val s.blk).dl.clkLost.contains b) = true)) ∧
    (∃ (s : State) (d : Fin 5) (m : Fin 34), Running s.blk ∧ hasEnd d.val m.val = true ∧ clockDie (edgeOf m.val) = some d.val ∧ (((siblings m.val).all
    fun b => (clockLost m.val s.blk).dl.clkLost.contains b) = false)) :=
  ⟨⟨stOf (linkW 4 (fun e => { e with inCount := 4294967295 })), 3, 33, 4294967295, runs_of (by decide +kernel), by decide +kernel⟩,
   ⟨stOf (linkW 4), 3, 33, 4294967295, runs_of (by decide +kernel), by decide +kernel⟩,
   ⟨stOf ((linkW 4).putB (Rg.dl 3 33) Rg.mAutoSteer true), 3, 33, 63, runs_of (by decide +kernel), by decide +kernel⟩,
   ⟨stOf ((linkW 4).putB (Rg.dl 3 33) Rg.mAutoSteer false), 3, 33, 63, runs_of (by decide +kernel), by decide +kernel⟩,
   ⟨stOf (modEnd 3 32 (fun e => { e with carrier := some (33, false) }) W), 3, 33, 0, runs_of (by decide +kernel), by decide +kernel⟩,
   ⟨stOf ({ W with dl := { W.dl with clkLost := [20, 21, 22] } }), 2, 23, runs_of (by decide +kernel), by decide +kernel⟩,
   ⟨stOf W, 2, 23, runs_of (by decide +kernel), by decide +kernel⟩⟩

/-- What the clauses of QueueCommands suppose is met. -/
theorem test_meets_QueueCommands :
    (∃ (s : State) (h : Hdr) (group : Nat) (owner : Nat) (o : Option Port), Admitted s.blk h { op := 2304, ports := [Port.svc], stage := 1 } ∧ ownerOf
    owner = some o ∧ group < 65536 ∧ ((s.blk.qe.made.any fun q => q / 16 == group) = false)) ∧
    (∃ (s : State) (h : Hdr) (queue : Nat) (base : Nat) (log2 : Nat) (dir : Nat) (esize : Nat) (vector : Nat) (cls : Nat) (irqEn : Nat) (pin : Nat)
    (pushSrc : Nat) (wbAddr : Nat) (deliv : Nat) (window : Nat) (b : Block), Admitted s.blk h
    { op := 2305, ports := [Port.h0, Port.p1, Port.p2, Port.svc, Port.fab], stage := 1 } ∧ createBad queue log2 dir esize vector cls irqEn pin pushSrc
    wbAddr deliv window = false ∧ ownsQueue s.blk h.port queue = true ∧ s.blk.qe.made.contains queue = false ∧ ringPlaced base ((if esize = 1 then 64
    else 32) * 2 ^ log2) = true ∧ (pin = 1 → pinnedCount s.blk < 8192) ∧ makeRoom queue s.blk = (true, b)) ∧
    (∃ (s : State) (h : Hdr) (queue : Nat) (x : QCtx) (b : Block), queue < 1048576 ∧ ownsQueue s.blk h.port queue = true ∧ s.blk.qe.made.contains
    queue = true ∧ s.blk.qe.closing.contains queue = false ∧ ctxOf s.blk queue = some x ∧ makeRoom queue s.blk = (true, b) ∧ Admitted s.blk h
    { op := 2306, ports := [Port.h0, Port.p1, Port.p2, Port.svc, Port.fab], stage := 1 }) ∧
    (∃ (s : State) (h : Hdr) (queue : Nat) (x : QCtx) (b : Block), queue < 1048576 ∧ ownsQueue s.blk h.port queue = true ∧ s.blk.qe.made.contains
    queue = true ∧ s.blk.qe.closing.contains queue = false ∧ ctxOf s.blk queue = some x ∧ makeRoom queue s.blk = (true, b) ∧ Admitted s.blk h
    { op := 2307, ports := [Port.h0, Port.p1, Port.p2, Port.svc, Port.fab], stage := 1 }) ∧
    (∃ (s : State) (h : Hdr) (queue : Nat) (x : QCtx) (b : Block), queue < 1048576 ∧ ownsQueue s.blk h.port queue = true ∧ s.blk.qe.made.contains
    queue = true ∧ s.blk.qe.closing.contains queue = false ∧ ctxOf s.blk queue = some x ∧ makeRoom queue s.blk = (true, b) ∧ Admitted s.blk h
    { op := 2308, ports := [Port.h0, Port.p1, Port.p2, Port.svc, Port.fab], stage := 1 }) ∧
    (∃ (s : State) (h : Hdr) (vector : Nat) (cls : Nat) (thresh : Nat) (timer : Nat) (target : Nat) (mask : Nat), Admitted s.blk h
    { op := 2309, ports := [Port.h0, Port.p1, Port.p2, Port.svc, Port.fab], stage := 1 } ∧ 0 < thresh ∧ thresh ≤ 255 ∧ 0 < timer ∧ timer ≤ 1000 ∧ mask
    ≤ 1 ∧ (cls = 0 ∧ vector < 4096 ∧ target ≤ 3 ∨ cls = 1 ∧ vector < 256 ∧ target ≤ 1) ∧ maySetVector s.blk h.port (4096 * cls + vector) = true) ∧
    (∃ (s : State) (h : Hdr), Admitted s.blk h { op := 2310, ports := [Port.h0, Port.p1, Port.p2, Port.svc, Port.fab], stage := 1 }) :=
  ⟨⟨stOf W, port .svc, 65535, 6, _, adm_of (by decide +kernel), rfl, by decide +kernel⟩,
   ⟨stOf (modQe (fun x => { x with owners := [(65535, some .h0)] }) W), H, 1048574, 0, 6, 1, 1, 255, 1, 1, 1, 0, 8, 64, 4096, _, adm_of
   (by decide +kernel), by decide +kernel, by decide +kernel, by decide +kernel, by decide +kernel, by decide +kernel, rfl⟩,
   ⟨stOf (qeW qctx), H, 1048575, qctx, _, by decide +kernel, by decide +kernel, by decide +kernel, by decide +kernel, by decide +kernel, rfl, adm_of
   (by decide +kernel)⟩,
   ⟨stOf (qeW qctx), H, 1048575, qctx, _, by decide +kernel, by decide +kernel, by decide +kernel, by decide +kernel, by decide +kernel, rfl, adm_of
   (by decide +kernel)⟩,
   ⟨stOf (qeW qctx), H, 1048575, qctx, _, by decide +kernel, by decide +kernel, by decide +kernel, by decide +kernel, by decide +kernel, rfl, adm_of
   (by decide +kernel)⟩,
   ⟨stOf (qeW qctx), H, 4095, 0, 255, 1000, 3, 1, adm_of (by decide +kernel), by decide +kernel⟩,
   ⟨stOf W, H, adm_of (by decide +kernel)⟩⟩

/-- What clauses, part 1 of 2, of QueueEvents suppose is met. -/
theorem test_meets_QueueEvents_1 :
    (∃ (s : State), Running s.blk ∧ qeOn s.blk = true) ∧
    (∃ (s : State) (q : Fin 1048576) (src : BitVec 12), Running s.blk ∧ qeOn s.blk = true ∧ ownerWrites (groupOwner s.blk (q.val / 16)) src.toNat =
    true ∧ otherDir s.blk q.val false = false) ∧
    (∃ (s : State) (q : Fin 1048576) (src : BitVec 12), Running s.blk ∧ qeOn s.blk = true ∧ ownerWrites (groupOwner s.blk (q.val / 16)) src.toNat =
    true ∧ otherDir s.blk q.val true = false) ∧
    (∃ (s : State) (q : Fin 1048576) (src : BitVec 12), Running s.blk ∧ qeOn s.blk = true ∧ ownerWrites (groupOwner s.blk (q.val / 16)) src.toNat =
    true) ∧
    (∃ (s : State) (q : Fin 1048576), Running s.blk ∧ ((s.blk.qe.waiting.any fun w => workQueue w == q.val) = true) ∧ cached? s.blk q.val = none ∧
    s.blk.qe.retry.contains q.val = false) ∧
    (∃ (s : State) (q : Fin 1048576), Running s.blk ∧ s.blk.qe.retry.contains q.val = true ∧ cached? s.blk q.val = none) ∧
    (∃ (s : State) (q : Fin 1048576) (e : QCache), Running s.blk ∧ cached? s.blk q.val = some e ∧ e.dirty = true ∧ s.blk.qe.retry.contains q.val =
    false) ∧
    (∃ (s : State) (q : Fin 1048576) (e : QCache), Running s.blk ∧ cached? s.blk q.val = some e ∧ evictable s.blk (q.val, some e) = true) ∧
    (∃ (s : State) (i : Nat) (w : RingWrite), Running s.blk ∧ s.blk.qe.writes[i]? = some w) ∧
    (∃ (s : State) (q : Fin 1048576) (i : Nat) (p : Nat) (n : Nat), Running s.blk ∧ s.blk.qe.fetches[i]? = some (q.val, p, n)) ∧
    (∃ (s : State) (q : Fin 1048576) (c : QCtx) (b : Block), Running s.blk ∧ ctxOf s.blk q.val = some c ∧ qeOn s.blk = true ∧ c.valid = true ∧ c.sub =
    true ∧ c.error = false ∧ ((s.blk.qe.fetches.any fun f => f.fst == q.val) = false) ∧ 0 < fetchCount c ∧ makeRoom q.val s.blk = (true, b)) ∧
    (∃ (s : State) (q : Fin 1048576) (c : QCtx) (b : Block), Running s.blk ∧ (b = modQe (fun x =>
    { cache := x.cache, waiting := x.waiting, retry := x.retry, owners := x.owners, made := x.made, closing := x.closing, writes := x.writes, fetches := x.fetches, delivered := x.delivered, badSaid := x.badSaid, lost := x.lost, wbDue := List.filter (fun x => x != q.val) x.wbDue, due := x.due, firings := x.firings, entering := x.entering, awakeSeen := x.awakeSeen })
    s.blk) ∧ s.blk.qe.wbDue.contains q.val = true ∧ ctxOf b q.val = some c ∧ c.wb = true) :=
  ⟨⟨stOf (qeW qctx), runs_of (by decide +kernel), by decide +kernel⟩,
   ⟨stOf (qeW qctx), 1048575, 0x500, runs_of (by decide +kernel), by decide +kernel⟩,
   ⟨stOf (qeW ({ qctx with sub := true, wb := true })), 1048575, 0x500, runs_of (by decide +kernel), by decide +kernel⟩,
   ⟨stOf (qeW qctx), 1048575, 0x500, runs_of (by decide +kernel), by decide +kernel⟩,
   ⟨stOf (qeW qctx (fun x => { x with cache := [], waiting := [.doorbell 0x500 1048575 1] })), 1048575, runs_of (by decide +kernel),
   by decide +kernel⟩,
   ⟨stOf (qeW qctx (fun x => { x with cache := [], retry := [1048575] })), 1048575, runs_of (by decide +kernel), by decide +kernel⟩,
   ⟨stOf (qeW qctx), 1048575, { ctx := qctx, dirty := true }, runs_of (by decide +kernel), by decide +kernel⟩,
   ⟨stOf (qeW qctx), 1048575, { ctx := qctx, dirty := true }, runs_of (by decide +kernel), by decide +kernel⟩,
   ⟨stOf (qeW qctx (fun x => { x with writes := [ringWrite0] })), 0, ringWrite0, runs_of (by decide +kernel), by decide +kernel⟩,
   ⟨stOf (qeW qctx (fun x => { x with fetches := [(1048575, 0, 1)] })), 1048575, 0, 0, 1, runs_of (by decide +kernel), by decide +kernel⟩,
   ⟨stOf (qeW ({ qctx with sub := true, tail := 1 })), 1048575, { qctx with sub := true, tail := 1 }, _, runs_of (by decide +kernel),
   by decide +kernel, by decide +kernel, by decide +kernel, by decide +kernel, by decide +kernel, by decide +kernel, by decide +kernel, rfl⟩,
   ⟨stOf (qeW ({ qctx with sub := true, wb := true }) (fun x => { x with wbDue := [1048575] })), 1048575, { qctx with sub := true, wb := true }, _,
   runs_of (by decide +kernel), rfl, by decide +kernel⟩⟩

/-- What clauses, part 2 of 2, of QueueEvents suppose is met. -/
theorem test_meets_QueueEvents_2 :
    (∃ (s : State) (v : Fin 4352) (f : VecFire), Running s.blk ∧ (List.find? (fun f => f.vec == v.val && f.wait.isEmpty && !f.woken) s.blk.qe.firings
    = some f) ∧ hostVec v.val = true ∧ sleepState s.blk ≠ 0 ∧ s.blk.qe.entering.contains v.val = false) ∧
    (∃ (s : State) (v : Fin 4352) (f : VecFire), Running s.blk ∧ (List.find? (fun f => f.vec == v.val && f.wait.isEmpty && !f.woken) s.blk.qe.firings
    = some f) ∧ sleepState s.blk = 0) ∧
    (∃ (s : State) (v : Fin 4352), Running s.blk ∧ s.blk.flag (Rg.vec v.val) Rg.vTimerRun = true) ∧
    (∃ (s : State), Running s.blk ∧ sleepState s.blk = 0) ∧
    (∃ (s : State), Running s.blk ∧ sleepState s.blk = 1 ∧ s.blk.qe.entering = [] ∧ s.blk.qe.awakeSeen = false) ∧
    (∃ (s : State), Running s.blk ∧ sleepState s.blk = 1 ∧ s.blk.qe.entering = [] ∧ s.blk.qe.awakeSeen = true) ∧
    (∃ (s : State), Running s.blk ∧ sleepState s.blk = 1) ∧
    (∃ (s : State), Running s.blk ∧ 2 ≤ sleepState s.blk) :=
  ⟨⟨stOf (sleepW 1 (fun x => { x with firings := [{ vec := 4095, wait := [], later := 0, woken := false }] })), 4095,
   { vec := 4095, wait := [], later := 0, woken := false }, runs_of (by decide +kernel), by decide +kernel⟩,
   ⟨stOf (sleepW 0 (fun x => { x with firings := [{ vec := 4351, wait := [], later := 0, woken := false }] })), 4351,
   { vec := 4351, wait := [], later := 0, woken := false }, runs_of (by decide +kernel), by decide +kernel⟩,
   ⟨stOf (W.putB (Rg.vec 4351) Rg.vTimerRun true), 4351, runs_of (by decide +kernel), by decide +kernel⟩,
   ⟨stOf (sleepW 0), runs_of (by decide +kernel), by decide +kernel⟩,
   ⟨stOf (sleepW 1), runs_of (by decide +kernel), by decide +kernel⟩,
   ⟨stOf (sleepW 1 (fun x => { x with awakeSeen := true })), runs_of (by decide +kernel), by decide +kernel⟩,
   ⟨stOf (sleepW 1), runs_of (by decide +kernel), by decide +kernel⟩,
   ⟨stOf (sleepW 2), runs_of (by decide +kernel), by decide +kernel⟩⟩

/-- What the clauses of EicRows suppose is met. -/
theorem test_meets_EicRows :
    (∃ (s : State) (n : Fin 2048), Running s.blk ∧ srcF s.blk n.val Rg.srcMode = 0) ∧
    (∃ (s : State), Running s.blk) ∧
    (∃ (s : State) (t : Fin 8) (n : Nat), Running s.blk ∧ eicBest s.blk t.val = some n ∧ s.blk.flag (Rg.eicT t.val) Rg.eicNotified = false ∧ (t.val <
    2 ∨ 6 ≤ t.val ∨ sleepState s.blk < 2)) ∧
    (∃ (s : State) (t : Fin 8) (n : Fin 2048), Running s.blk ∧ activeFor s.blk t.val n.val = true) ∧
    (∃ (s : State) (h : Hdr) (src : Nat) (prio : Nat) (enable : Nat) (mode : Nat), Admitted s.blk h
    { op := 2560, ports := [Port.h0, Port.p1, Port.p2, Port.svc, Port.fab], stage := 1 } ∧ src < 2048 ∧ eicAssigned src = true ∧ prio ≤ 31 ∧ enable ≤
    255 ∧ mode ≤ 1 ∧ enable.land (portTargets h.port) = enable) ∧
    (∃ (s : State) (h : Hdr) (t : Fin 8) (thresh : Nat) (msgAddr : Nat), Admitted s.blk h
    { op := 2561, ports := [Port.h0, Port.p1, Port.p2, Port.svc, Port.fab], stage := 1 } ∧ thresh ≤ 31 ∧ (portTargets h.port).testBit t.val = true ∧
    inSiteWindow s.blk t.val msgAddr = true ∧ msgAddr % 64 = 0) ∧
    (∃ (s : State) (h : Hdr), Admitted s.blk h { op := 2562, ports := [Port.h0, Port.p1, Port.p2, Port.svc, Port.fab], stage := 1 }) :=
  ⟨⟨stOf W, 1291, runs_of (by decide +kernel), by decide +kernel⟩,
   ⟨stOf W, runs_of (by decide +kernel)⟩,
   ⟨stOf (((W.put (Rg.eicS 1291) Rg.srcPending 1).put (Rg.eicS 1291) Rg.srcEnable 255).put (Rg.eicS 1291) Rg.srcPrio 31), 0, 1291, runs_of
   (by decide +kernel), by decide +kernel⟩,
   ⟨stOf ((W.put (Rg.eicS 2047) Rg.srcActive 1).put (Rg.eicS 2047) Rg.srcActiveTarget 7), 7, 2047, runs_of (by decide +kernel), by decide +kernel⟩,
   ⟨stOf W, H, 1291, 31, 0x3C, 1, adm_of (by decide +kernel), by decide +kernel⟩,
   ⟨stOf W, H, 5, 31, 0x60FFFFFFFFC0, adm_of (by decide +kernel), by decide +kernel⟩,
   ⟨stOf W, H, adm_of (by decide +kernel)⟩⟩

/-- What the clauses of RestartEvents suppose is met. -/
theorem test_meets_RestartEvents :
    (∃ (s : State), s.blk.start.inReset = false ∧ s.blk.gr.up = true ∧ s.blk.gr.restarting = false) ∧
    (∃ (s : State) (cause : Nat), s.blk.start.inReset = false ∧ s.blk.gr.restartDue = some cause ∧ s.blk.gr.restarting = false ∧ restartWaits s.blk
    cause = false) ∧
    (∃ (s : State) (cause : Nat) (b : Block), s.blk.start.inReset = false ∧ s.blk.gr.restartDue = some cause ∧ s.blk.gr.restarting = true ∧
    s.blk.start.imageChosen = true ∧ (b = modGr (fun g =>
    { up := g.up, restarting := false, restartDue := none, segFail := g.segFail, slReplies := g.slReplies, staged := g.staged, committed := g.committed, applied := g.applied, schedule := g.schedule, tests := g.tests, slotStatus := g.slotStatus, aborted := g.aborted })
    s.blk) ∧ stageOf b ≠ 0 ∧ stageOf b ≠ 7) ∧
    (∃ (s : State) (cause : Nat) (b : Block), s.blk.start.inReset = false ∧ s.blk.gr.restartDue = some cause ∧ s.blk.gr.restarting = true ∧
    s.blk.start.imageChosen = true ∧ (b = modGr (fun g =>
    { up := g.up, restarting := false, restartDue := none, segFail := g.segFail, slReplies := g.slReplies, staged := g.staged, committed := g.committed, applied := g.applied, schedule := g.schedule, tests := g.tests, slotStatus := g.slotStatus, aborted := g.aborted })
    s.blk) ∧ (stageOf b = 0 ∨ stageOf b = 7)) ∧
    (∃ (s : State) (f : BitVec 160) (w : Nat), s.blk.start.inReset = false ∧ safelightOk f = true ∧ (fldGet f.toNat 0 4 = 2 ∨ fldGet f.toNat 0 4 = 3)
    ∧ portWindow (fldGet f.toNat 8 12) = some w) ∧
    (∃ (s : State) (f : BitVec 160), s.blk.start.inReset = false ∧ safelightOk f = true ∧ fldGet f.toNat 0 4 = 4) ∧
    (∃ (s : State) (f : BitVec 160), s.blk.start.inReset = false ∧ safelightOk f = true ∧ fldGet f.toNat 0 4 = 5) ∧
    (∃ (s : State) (k : Fin 5) (rev : Bool), s.blk.start.inReset = false ∧ s.blk.gr.segFail.getLsbD (k.val + if rev = true then 5 else 0) = false) ∧
    (∃ (s : State) (f : EvFrame) (l : List EvFrame), s.blk.start.inReset = false ∧ s.blk.ev.frames = f :: l ∧ s.blk.ev.fifo.length < 512) ∧
    (∃ (s : State) (f : EvFrame) (l : List EvFrame), s.blk.start.inReset = false ∧ s.blk.ev.fifo = f :: l ∧ firmwareRuns s.blk = true) :=
  ⟨⟨stOf (W), by decide +kernel⟩,
   ⟨stOf (modGr (fun g => { g with restartDue := some 4, restarting := false }) W), 4, by decide +kernel⟩,
   ⟨stOf (modGr (fun g => { g with restartDue := some 1, restarting := true }) W), 1, _, by decide +kernel, by decide +kernel, by decide +kernel,
   by decide +kernel, rfl, by decide +kernel⟩,
   ⟨stOf (modGr (fun g => { g with restartDue := some 1, restarting := true }) (stg 7 W)), 1, _, by decide +kernel, by decide +kernel,
   by decide +kernel, by decide +kernel, rfl, by decide +kernel⟩,
   ⟨stOf W, 0xb69a00000000000000000000000000048502, 5, by decide +kernel⟩,
   ⟨stOf W, 0xead800000000000000000000000000000004, by decide +kernel⟩,
   ⟨stOf W, 0x42fc00000000000000000000000000000005, by decide +kernel⟩,
   ⟨stOf W, 4, true, by decide +kernel⟩,
   ⟨stOf (modEv (fun x => { x with frames := [ev0] }) W), ev0, [], by decide +kernel⟩,
   ⟨stOf (modEv (fun x => { x with fifo := [ev0] }) W), ev0, [], by decide +kernel⟩⟩

/-- What the clauses of MailboxRows suppose is met. -/
theorem test_meets_MailboxRows :
    (∃ (s : State) (p : Port) (tail : BitVec 7), s.blk.start.inReset = false ∧ (tail.toNat + 128 - s.blk.f (Rg.mbx (portNum p)) Rg.cmdTail) % 128 ≤ 64
    - (s.blk.f (Rg.mbx (portNum p)) Rg.cmdTail + 128 - s.blk.f (Rg.mbx (portNum p)) Rg.cmdHead) % 128) ∧
    (∃ (s : State) (p : Port) (head : BitVec 7), s.blk.start.inReset = false ∧ (head.toNat + 128 - s.blk.f (Rg.mbx (portNum p)) Rg.rspHead) % 128 ≤
    (s.blk.f (Rg.mbx (portNum p)) Rg.rspTail + 128 - s.blk.f (Rg.mbx (portNum p)) Rg.rspHead) % 128) ∧
    (∃ (s : State) (p : Port) (v1 : Bool), s.blk.start.inReset = false ∧ canTake s.blk p v1 = true ∧ s.blk.f (Rg.mbx (portNum p)) Rg.cmdHead ≠ s.blk.f
    (Rg.mbx (portNum p)) Rg.cmdTail) ∧
    (∃ (s : State) (p : Port) (r : Rsp), s.blk.start.inReset = false ∧ (List.find? (fun r => r.cmd.port == p) s.blk.mbx.rsp = some r) ∧ s.blk.gr.up =
    true ∧ s.blk.gr.restarting = false ∧ rspUsed s.blk p < 64) ∧
    (∃ (s : State), s.blk.start.inReset = false) ∧
    (∃ (s : State) (addr : BitVec 32), s.blk.start.inReset = false ∧ hasCounter addr.toNat = true) :=
  ⟨⟨stOf W, .fab, 64, by decide +kernel⟩,
   ⟨stOf (W.put (Rg.mbx 5) Rg.rspTail 63), .fab, 63, by decide +kernel⟩,
   ⟨stOf ((W.put (Rg.mbx 4) Rg.cmdTail 127).putB (Rg.mbx 4) Rg.mbxProto true), .jtag, true, by decide +kernel⟩,
   ⟨stOf ({ W with mbx := { W.mbx with rsp := [rsp0] } }), .jtag, rsp0, by decide +kernel⟩,
   ⟨stOf W, by decide +kernel⟩,
   ⟨stOf W, BitVec.ofNat 32 (Rg.lane 127 + Rg.lCnt 1), by decide +kernel⟩⟩

/-- What the clauses of DeviceCommands suppose is met. -/
theorem test_meets_DeviceCommands :
    (∃ (s : State) (h : Hdr), Admitted s.blk h { op := 0, ports := [Port.h0, Port.p1, Port.p2, Port.svc, Port.jtag, Port.fab], stage := 0 }) ∧
    (∃ (s : State) (h : Hdr), Admitted s.blk h { op := 1, ports := [Port.h0, Port.p1, Port.p2, Port.svc, Port.jtag, Port.fab], stage := 0 }) ∧
    (∃ (s : State) (h : Hdr), Admitted s.blk h { op := 2, ports := [Port.h0, Port.p1, Port.p2, Port.svc, Port.jtag, Port.fab], stage := 1 }) ∧
    (∃ (s : State) (h : Hdr) (addr : Nat) (size : Nat) (a : Nat), cmdReg addr size = some a ∧ dieUnreachable s.blk a = false ∧ Admitted s.blk h
    { op := 3, ports := [Port.h0, Port.p1, Port.p2, Port.svc, Port.jtag, Port.fab], stage := 1 } ∧ regReadable s.blk h.port a = true) ∧
    (∃ (s : State) (h : Hdr) (addr : Nat) (size : Nat) (a : Nat), cmdReg addr size = some a ∧ dieUnreachable s.blk a = false ∧ Admitted s.blk h
    { op := 4, ports := [Port.h0, Port.p1, Port.p2, Port.svc, Port.fab], stage := 1, expert := true } ∧ winOf a ≠ 1 ∧ (winOf a = 0 → a / 1048576 =
    portNum h.port) ∧ greoneWrites a = false) ∧
    (∃ (s : State) (h : Hdr), Admitted s.blk h { op := 7, ports := [Port.svc], stage := 1 }) ∧
    (∃ (s : State) (h : Hdr) (level : Nat), Admitted s.blk h
    { op := 8, ports := [Port.h0, Port.p1, Port.p2, Port.svc, Port.jtag, Port.fab], stage := 1 } ∧ level ≤ 2) ∧
    (∃ (s : State) (h : Hdr) (seq : Nat) (e : EvEntry), Admitted s.blk h
    { op := 9, ports := [Port.h0, Port.p1, Port.p2, Port.svc, Port.jtag, Port.fab], stage := 1 } ∧ (List.find? (fun e => decide (seq ≤ e.seq.toNat))
    s.blk.ev.log = some e)) ∧
    (∃ (s : State) (h : Hdr), Admitted s.blk h { op := 10, ports := [Port.h0, Port.svc], stage := 1 }) ∧
    (∃ (s : State) (h : Hdr) (q : Nat) (floor : Nat), Admitted s.blk h { op := 10, ports := [Port.h0, Port.svc], stage := 1 } ∧ q < 1048575 ∧ floor ≤
    3 ∧ eventQueueOk s.blk h.port q = true) ∧
    (∃ (s : State) (h : Hdr) (id : Nat), settingDefault id ≠ none ∧ Admitted s.blk h
    { op := 11, ports := [Port.h0, Port.p1, Port.p2, Port.svc, Port.jtag, Port.fab], stage := 1 }) ∧
    (∃ (s : State) (h : Hdr) (id : Nat) (v : Nat), settingDefault id ≠ none ∧ Admitted s.blk h { op := 12, ports := [Port.h0, Port.svc], stage := 1 }
    ∧ settingInRange s.blk id v = true ∧ overCeiling s.blk id v = false) ∧
    (∃ (s : State) (h : Hdr), Admitted s.blk h { op := 13, ports := [Port.h0, Port.svc], stage := 1 } ∧ storeBlocked s.blk = false ∧
    ((s.blk.gr.staged.any fun x => settingOwner x.fst) = false ∨ activeSlots s.blk = [])) :=
  ⟨⟨stOf W, H, adm_of (by decide +kernel)⟩,
   ⟨stOf W, H, adm_of (by decide +kernel)⟩,
   ⟨stOf W, H, adm_of (by decide +kernel)⟩,
   ⟨stOf W, H, 0x7F0000000000 + Rg.rst, 8, Rg.rst, by decide +kernel, by decide +kernel, adm_of (by decide +kernel), by decide +kernel⟩,
   ⟨stOf W, H, 0x7F0000000000 + Rg.lane 127, 8, Rg.lane 127, by decide +kernel, by decide +kernel, adm_of (by decide +kernel), by decide +kernel⟩,
   ⟨stOf W, port .svc, adm_of (by decide +kernel)⟩,
   ⟨stOf W, H, 2, adm_of (by decide +kernel), by decide +kernel⟩,
   ⟨stOf (modEv (fun x => { x with log := [{ frame := ev0, seq := 5, first := true }] }) W), H, 5, { frame := ev0, seq := 5, first := true }, adm_of
   (by decide +kernel), by decide +kernel⟩,
   ⟨stOf W, H, adm_of (by decide +kernel)⟩,
   ⟨stOf (modQe (fun x => { x with cache := [(1048574, some { ctx := qctx, dirty := true })], owners := [(65535, some .h0)] }) W), H, 1048574, 3,
   adm_of (by decide +kernel), by decide +kernel⟩,
   ⟨stOf W, H, 1, by decide +kernel, adm_of (by decide +kernel)⟩,
   ⟨stOf W, H, 2, 3, by decide +kernel, adm_of (by decide +kernel), by decide +kernel⟩,
   ⟨stOf (W.putB Rg.pwr Rg.pHoldup true), H, adm_of (by decide +kernel), by decide +kernel⟩⟩

/-- What the clauses of SelfTests suppose is met. -/
theorem test_meets_SelfTests :
    (∃ (s : State) (h : Hdr) (test : Nat) (target : Nat) (args : Nat) (n : Nat), Admitted s.blk h
    { op := 3584, ports := [Port.h0, Port.p1, Port.p2, Port.svc, Port.fab], stage := 1 } ∧ testTargets test = some n ∧ testTarget test target < n ∧
    testArgsOk s.blk test (testTarget test target) args = true ∧ test ≠ 17 ∧ stageOk s.blk (testStage test) = true ∧ testReach s.blk test (testTarget
    test target) = true ∧ (test = 1 → laneState s.blk (testTarget test target) = 5) ∧ testCond s.blk test (testTarget test target) = true ∧ testBusy
    s.blk test (testTarget test target) = false) ∧
    (∃ (s : State) (h : Hdr) (test : Nat) (quiet : Nat) (target : Nat) (time : Nat) (args : Nat) (n : Nat) (k : Nat), Admitted s.blk h
    { op := 3585, ports := [Port.h0, Port.p1, Port.p2, Port.svc, Port.fab], stage := 1 } ∧ testTargets test = some n ∧ testTarget test target < n ∧
    quiet ≤ 3 ∧ (quiet = 1 → test = 13) ∧ (quiet = 2 → time ≠ 2 ^ 64 - 1) ∧ testArgsOk s.blk test (testTarget test target) args = true ∧ (List.find?
    (fun k => (getSlot s.blk k).isNone) (List.range 16) = some k)) ∧
    (∃ (s : State) (h : Hdr) (k : Nat), k < 16 ∧ Admitted s.blk h { op := 3586, ports := [Port.h0, Port.p1, Port.p2, Port.svc, Port.fab], stage := 1 }
    ∧ getSlot s.blk k ≠ none ∧ slotRun s.blk k = none) ∧
    (∃ (s : State) (h : Hdr) (k : Nat), k < 16 ∧ Admitted s.blk h
    { op := 3587, ports := [Port.h0, Port.p1, Port.p2, Port.svc, Port.fab], stage := 1 }) ∧
    (∃ (s : State) (k : Fin 16) (e : TestEntry), Running s.blk ∧ firmwareRuns s.blk = true ∧ getSlot s.blk k.val = some e ∧ slotRun s.blk k.val = none
    ∧ quietNow s.blk e = true ∧ e.quiet ≠ 2 ∧ stageOk s.blk (testStage e.test) = true ∧ testArgsOk s.blk e.test e.target e.args = true ∧ testReach
    s.blk e.test e.target = true ∧ (e.test = 1 → laneState s.blk e.target = 5) ∧ testCond s.blk e.test e.target = true ∧ testBusy s.blk e.test
    e.target = false) ∧
    (∃ (s : State) (k : Fin 16) (e : TestEntry), Running s.blk ∧ firmwareRuns s.blk = true ∧ getSlot s.blk k.val = some e ∧ slotRun s.blk k.val = none
    ∧ quietNow s.blk e = true ∧ e.quiet ≠ 2 ∧ stageOk s.blk (testStage e.test) = true ∧ testArgsOk s.blk e.test e.target e.args = true ∧ testReach
    s.blk e.test e.target = true ∧ (e.test = 1 → laneState s.blk e.target = 5) ∧ testCond s.blk e.test e.target = false) ∧
    (∃ (s : State) (test : Fin 256) (target : Fin 65536) (pass : Bool) (t : TestRun), Running s.blk ∧ firmwareRuns s.blk = true ∧ (List.find? (fun t
    => t.test == test.val && t.target == target.val && t.begun) s.blk.gr.tests = some t) ∧ testDone s.blk t = true ∧ testPassed s.blk t pass = true) ∧
    (∃ (s : State) (test : Fin 256) (target : Fin 65536) (pass : Bool) (t : TestRun), Running s.blk ∧ firmwareRuns s.blk = true ∧ (List.find? (fun t
    => t.test == test.val && t.target == target.val && t.begun) s.blk.gr.tests = some t) ∧ testDone s.blk t = true ∧ testPassed s.blk t pass = false) :=
  ⟨⟨stOf (laneW 5 0), H, 1, 127, 2 ^ 64 + 2 ^ 128 + 2 ^ 256 + 2 ^ 320 + 20 * 2 ^ 384, 128, adm_of (by decide +kernel), by decide +kernel⟩,
   ⟨stOf W, H, 13, 1, 23, 2 ^ 64 - 1, 0, 24, 0, adm_of (by decide +kernel), by decide +kernel⟩,
   ⟨stOf (testW entry0), H, 15, by decide +kernel, adm_of (by decide +kernel), by decide +kernel⟩,
   ⟨stOf W, H, 15, by decide +kernel, adm_of (by decide +kernel)⟩,
   ⟨stOf (testW entry0 [] (tppW 2)), 15, entry0, runs_of (by decide +kernel), by decide +kernel⟩,
   ⟨stOf (testW { entry0 with quiet := 0 }), 15, { entry0 with quiet := 0 }, runs_of (by decide +kernel), by decide +kernel⟩,
   ⟨stOf (testW entry0 [run0]), 8, 319, true, run0, runs_of (by decide +kernel), by decide +kernel⟩,
   ⟨stOf (testW entry0 [run0]), 8, 319, false, run0, runs_of (by decide +kernel), by decide +kernel⟩⟩

/-- What the clauses of V1Commands suppose is met. -/
theorem test_meets_V1Commands :
    (∃ (s : State) (h : Hdr), AdmittedV1 s.blk h { op := 0, ports := [Port.h0, Port.p1, Port.p2, Port.svc, Port.jtag, Port.fab], stage := 0 }) ∧
    (∃ (s : State) (h : Hdr), AdmittedV1 s.blk h { op := 1, ports := [Port.h0, Port.p1, Port.p2, Port.svc, Port.jtag, Port.fab], stage := 0 }) ∧
    (∃ (s : State) (h : Hdr), AdmittedV1 s.blk h { op := 2, ports := [Port.h0, Port.p1, Port.p2, Port.svc, Port.jtag, Port.fab], stage := 1 }) ∧
    (∃ (s : State) (h : Hdr) (addr : Nat) (len : Nat) (bs : List Nat) (l : Load) (b : Block) (b' : Block), AdmittedV1 s.blk h
    { op := 256, ports := [Port.h0, Port.p1, Port.p2, Port.svc, Port.fab], stage := 3 } ∧ plateRead false addr 256 s.blk = (some bs, b) ∧ headerOk bs
    = true ∧ (headerOf bs).kind ≠ 2 ∧ b.start.trainingEnded = true ∧ checkPlate
    { op2 := 256, flash := false, addr := addr, len := some len, freeze := false, retain := false, target := 65535, region := 0, policy := 0, moveFrom := none, auto := false, boot := false }
    b = (Sum.inr l, b')) ∧
    (∃ (s : State) (h : Hdr) (r : Nat), AdmittedV1 s.blk h { op := 264, ports := [Port.h0, Port.p1, Port.p2, Port.svc, Port.fab], stage := 3 } ∧ 1 ≤ r
    ∧ r < 256) ∧
    (∃ (s : State) (h : Hdr) (n : Nat), n < 8 ∧ dieOff s.blk (n / 2) = false ∧ AdmittedV1 s.blk h
    { op := 1280, ports := [Port.h0, Port.p1, Port.p2, Port.svc, Port.fab], stage := 3 } ∧ dcTesting s.blk n = false ∧ (dcState s.blk n = 0 ∨ dcState
    s.blk n = 4 ∨ dcState s.blk n = 6)) ∧
    (∃ (s : State) (h : Hdr) (n : Nat), n < 8 ∧ dieOff s.blk (n / 2) = false ∧ AdmittedV1 s.blk h
    { op := 1281, ports := [Port.h0, Port.p1, Port.p2, Port.svc, Port.fab], stage := 3 }) ∧
    (∃ (s : State) (h : Hdr) (die : Nat) (mask : Nat), die < 4 ∧ 0 < mask ∧ mask < 2 ^ 32 ∧ dieOff s.blk die = false ∧ AdmittedV1 s.blk h
    { op := 1024, ports := [Port.h0, Port.p1, Port.p2, Port.svc, Port.fab], stage := 3 } ∧ (∀ (m : Nat), m ∈ maskLanes die mask → laneMode s.blk m ≠ 3
    ∧ laneState s.blk m = 0)) ∧
    (∃ (s : State) (h : Hdr) (die : Nat) (mask : Nat), die < 4 ∧ 0 < mask ∧ mask < 2 ^ 32 ∧ dieOff s.blk die = false ∧ AdmittedV1 s.blk h
    { op := 1025, ports := [Port.h0, Port.p1, Port.p2, Port.svc, Port.fab], stage := 3 }) ∧
    (∃ (s : State) (h : Hdr) (addr : Nat) (size : Nat) (a : Nat), (size = 4 ∨ size = 8) ∧ cmdReg addr size = some a ∧ dieUnreachable s.blk a = false ∧
    AdmittedV1 s.blk h { op := 3, ports := [Port.h0, Port.p1, Port.p2, Port.svc, Port.jtag, Port.fab], stage := 1 } ∧ size = 8 ∧ regReadable s.blk
    h.port a = true) ∧
    (∃ (s : State) (h : Hdr) (addr : Nat) (size : Nat) (a : Nat), (size = 4 ∨ size = 8) ∧ cmdReg addr size = some a ∧ dieUnreachable s.blk a = false ∧
    AdmittedV1 s.blk h { op := 4, ports := [Port.h0, Port.p1, Port.p2, Port.svc, Port.fab], stage := 1, expert := true } ∧ size = 4 ∧ winOf a ≠ 1 ∧
    (winOf a = 0 → a / 1048576 = portNum h.port) ∧ greoneWrites a = false) :=
  ⟨⟨stOf ((W).putB (Rg.mbx 0) Rg.mbxProto true), H, admV1_of (by decide +kernel)⟩,
   ⟨stOf ((W).putB (Rg.mbx 0) Rg.mbxProto true), H, admV1_of (by decide +kernel)⟩,
   ⟨stOf ((W).putB (Rg.mbx 0) Rg.mbxProto true), H, admV1_of (by decide +kernel)⟩,
   ⟨stOf ((memW fullPlate).putB (Rg.mbx 0) Rg.mbxProto true), H, 0, 2240, fullPlate.take 256, _, _, _, admV1_of (by decide +kernel), pair_of
   (by decide +kernel), by decide +kernel, by decide +kernel, by decide +kernel, pair_of (right_of load0 (by decide +kernel))⟩,
   ⟨stOf ((W).putB (Rg.mbx 0) Rg.mbxProto true), H, 255, admV1_of (by decide +kernel), by decide +kernel⟩,
   ⟨stOf ((dcW 4).putB (Rg.mbx 0) Rg.mbxProto true), H, 7, by decide +kernel, by decide +kernel, admV1_of (by decide +kernel), by decide +kernel⟩,
   ⟨stOf ((W).putB (Rg.mbx 0) Rg.mbxProto true), H, 7, by decide +kernel, by decide +kernel, admV1_of (by decide +kernel)⟩,
   ⟨stOf ((W).putB (Rg.mbx 0) Rg.mbxProto true), H, 3, 2 ^ 31, by decide +kernel, by decide +kernel, by decide +kernel, by decide +kernel, admV1_of
   (by decide +kernel), by decide +kernel⟩,
   ⟨stOf ((W).putB (Rg.mbx 0) Rg.mbxProto true), H, 3, 2 ^ 31, by decide +kernel, by decide +kernel, by decide +kernel, by decide +kernel, admV1_of
   (by decide +kernel)⟩,
   ⟨stOf ((W).putB (Rg.mbx 0) Rg.mbxProto true), H, 0x7F0000000000 + Rg.rst, 8, Rg.rst, by decide +kernel, by decide +kernel, by decide +kernel,
   admV1_of (by decide +kernel), by decide +kernel⟩,
   ⟨stOf ((W).putB (Rg.mbx 0) Rg.mbxProto true), H, 0x7F0000000000 + Rg.lane 127, 4, Rg.lane 127, by decide +kernel, by decide +kernel,
   by decide +kernel, admV1_of (by decide +kernel), by decide +kernel⟩⟩

/-- What clauses, part 1 of 4, of SecurityCommands suppose is met. -/
theorem test_meets_SecurityCommands_1 :
    (∃ (s : State) (h : Hdr), Admitted s.blk h { op := 2816, ports := [Port.h0, Port.p1, Port.p2, Port.svc, Port.jtag, Port.fab], stage := 1 }) ∧
    (∃ (s : State) (h : Hdr), Admitted s.blk h { op := 2817, ports := [Port.h0, Port.svc], stage := 1 }) ∧
    (∃ (s : State) (h : Hdr) (which : Nat) (addr : Nat) (len : Nat) (b : Block), Admitted s.blk h
    { op := 2818, ports := [Port.h0, Port.p1, Port.p2, Port.svc, Port.jtag, Port.fab], stage := 1 } ∧ which ≤ 1 ∧ (if which = 0 then
    s.blk.nv.fuses.idCert else s.blk.nv.fuses.mfgCert).length ≤ len ∧ writeMem srcGreone addr (List.map BitVec.toNat (if which = 0 then
    s.blk.nv.fuses.idCert else s.blk.nv.fuses.mfgCert)) s.blk = (true, b)) ∧
    (∃ (s : State) (h : Hdr), Admitted s.blk h { op := 2819, ports := [Port.h0, Port.p1, Port.p2, Port.svc, Port.fab], stage := 1 } ∧
    s.blk.sec.quotes.length < 9) :=
  ⟨⟨stOf W, H, adm_of (by decide +kernel)⟩,
   ⟨stOf W, H, adm_of (by decide +kernel)⟩,
   ⟨stOf { W with nv := { W.nv with fuses := { W.nv.fuses with mfgCert := [48] } } }, H, 1, 0, 2048, _, adm_of (by decide +kernel), by decide +kernel,
   by decide +kernel, pair_of (by decide +kernel)⟩,
   ⟨stOf W, H, adm_of (by decide +kernel), by decide +kernel⟩⟩

/-- What clauses, part 2 of 4, of SecurityCommands suppose is met. -/
theorem test_meets_SecurityCommands_2 :
    (∃ (s : State) (h : Hdr) (slot : Nat) (addr : Nat) (bs : List Nat) (m : BitVec 3072) (b : Block), Admitted s.blk h
    { op := 2820, ports := [Port.h0, Port.svc], stage := 1 } ∧ slot < 4 ∧ readMem srcGreone addr 388 s.blk = (some bs, b) ∧ keyOfBytes bs = some m ∧
    (ownerFuse b slot).hash = keyHash m) ∧
    (∃ (s : State) (h : Hdr) (slot : Nat) (addr : Nat) (r : Option (List Nat) × Block), Admitted s.blk h
    { op := 2820, ports := [Port.h0, Port.svc], stage := 1 } ∧ slot < 4 ∧ readMem srcGreone addr 388 s.blk = r ∧ (∀ (m : BitVec 3072), r.fst.bind
    keyOfBytes = some m → (ownerFuse r.snd slot).hash ≠ keyHash m)) ∧
    (∃ (s : State) (h : Hdr) (addr : Nat) (len : Nat) (status : Nat) (b : Block), noOwner s.blk = false ∧ Admitted s.blk h
    { op := 2821, ports := [Port.h0, Port.svc], stage := 1 } ∧ authRequest (cmdOf h 2821) 2821 addr len s.blk = (AuthResult.refused status, b)) ∧
    (∃ (s : State) (h : Hdr) (addr : Nat) (len : Nat) (status : Nat) (b : Block), noOwner s.blk = false ∧ Admitted s.blk h
    { op := 2822, ports := [Port.h0, Port.svc], stage := 1 } ∧ authRequest (cmdOf h 2822) 2822 addr len s.blk = (AuthResult.refused status, b)) :=
  ⟨⟨stOf ({ memW keyBytesN with nv := keyNv }), port .svc, 3, 0, keyBytesN, keyN, _, adm_of (by decide +kernel), by decide +kernel, pair_of
   (by decide +kernel), by decide +kernel⟩,
   ⟨stOf (W), port .svc, 3, 0, _, adm_of (by decide +kernel), by decide +kernel, rfl, by
        intro m h
        have e : ((readMem srcGreone 0 388 (stOf W).blk).1.bind keyOfBytes) = none := by decide +kernel
        exact absurd (e.symm.trans h) (by simp)⟩,
   ⟨stOf { W with nv := keyNv }, port .svc, 0, 0, Machine.St.nonceStale, _, by decide +kernel, adm_of (by decide +kernel), pair_of
   (by decide +kernel)⟩,
   ⟨stOf { W with nv := keyNv }, port .svc, 0, 0, Machine.St.nonceStale, _, by decide +kernel, adm_of (by decide +kernel), pair_of
   (by decide +kernel)⟩⟩

/-- What clauses, part 3 of 4, of SecurityCommands suppose is met. -/
theorem test_meets_SecurityCommands_3 :
    (∃ (s : State) (h : Hdr) (addr : Nat) (len : Nat) (bs : List Nat) (b : Block) (p : List Nat) (m : BitVec 3072), Admitted s.blk h
    { op := 2821, ports := [Port.h0, Port.svc], stage := 1 } ∧ noOwner s.blk = true ∧ h.port = Port.svc ∧ readMem srcGreone addr (len.min 4544) s.blk
    = (some bs, b) ∧ fieldAt bs 0 4 = 1364541778 ∧ fieldAt bs 4 2 = 2821 ∧ fieldAt bs 8 8 = (deviceId s.blk).toNat ∧ p = List.take (fieldAt bs 32 4)
    (List.drop 64 bs) ∧ p.length = 392 ∧ fieldAt p 0 1 < 4 ∧ fieldAt p 1 3 = 0 ∧ keyOfBytes (List.drop 4 p) = some m) ∧
    (∃ (s : State) (h : Hdr) (addr : Nat) (len : Nat) (signer : Nat) (p : List Nat) (b : Block) (m : BitVec 3072), Admitted s.blk h
    { op := 2821, ports := [Port.h0, Port.svc], stage := 1 } ∧ noOwner s.blk = false ∧ authRequest (cmdOf h 2821) 2821 addr len s.blk =
    (AuthResult.accepted signer p, b) ∧ p.length = 392 ∧ fieldAt p 0 1 < 4 ∧ fieldAt p 1 3 = 0 ∧ keyOfBytes (List.drop 4 p) = some m) ∧
    (∃ (s : State) (h : Hdr) (addr : Nat) (len : Nat) (signer : Nat) (p : List Nat) (b : Block), Admitted s.blk h
    { op := 2822, ports := [Port.h0, Port.svc], stage := 1 } ∧ authRequest (cmdOf h 2822) 2822 addr len s.blk = (AuthResult.accepted signer p, b) ∧
    p.length = 1 ∧ fieldAt p 0 1 < 4) ∧
    (∃ (s : State) (h : Hdr) (addr : Nat) (len : Nat) (signer : Nat) (p : List Nat) (b : Block), Admitted s.blk h
    { op := 2823, ports := [Port.h0, Port.svc], stage := 1 } ∧ authRequest (cmdOf h 2823) 2823 addr len s.blk = (AuthResult.accepted signer p, b) ∧
    p.length = 1 ∧ fieldAt p 0 1 < 128) :=
  ⟨⟨stOf (let b := memW (request 2821 ([3, 0, 0, 0] ++ keyBytesN) 0); { b with nv := { keyNv with fuses := { keyNv.fuses with owners := [] } } }),
   port .svc, 0, 840, request 2821 ([3, 0, 0, 0] ++ keyBytesN) 0, _, _, keyN, adm_of (by decide +kernel), by decide +kernel, by decide +kernel,
   pair_of (by decide +kernel), by decide +kernel, by decide +kernel, by decide +kernel, rfl, by decide +kernel⟩,
   ⟨stOf (ownedW .h0 (request 2821 ([3, 0, 0, 0] ++ keyBytesN)
   0x48fa0fba266a2cf1bbb04d77f1820f96144858e707420706ae830d0589c2c15b593131284b8dd4237696fe9521a345a0f26ecd5428aa841faea4c5abce5c53207d0424fb2be8980b7197de55cbccd90abf29de220dba7c557f0dc90909dd244f200a8c798cd10ab44cce68f2bba0d5e6b2ff46deb30bc01ee6b5558f08fd035a7b14df3fa6bb49ab2cbb6d8cfad0f9bc8a0b7ef9bd4d993852b07774104ca7c51f23cc8ebbad2dcefc9564e002d5a207b1bec8e086f66315fb33e881b9deb9ac89e4ffc837d1bb2ada7009c57632385a4af15bb89e48e8dff7846f6e8ca2e5a679063209761a22d21002ab6d0b7e3678cc68d73dadb5aff12f8e3f346cb268498112eda3da5d22eb3116c36053e895cdaa1f55aff34f457101e188beba84897c102099bd4ec63c9f82236dfb099e2072e9ad93e27d952d958ab7249806c57f2352e69e965903041bc6413ff194fd7432bde89b978f3d4a3cb6c067a0f8b2d22da8c367516a49a8cf046b0dcc587aa1fdb24aa88241b2c464acb8eadff47797a6)),
   port .h0, 0, 448 + 392, 3, _, _, keyN, adm_of (by decide +kernel), by decide +kernel, accepted_of (n := 392) (bs := (request 2821 ([3, 0, 0, 0] ++
   keyBytesN)
   0x48fa0fba266a2cf1bbb04d77f1820f96144858e707420706ae830d0589c2c15b593131284b8dd4237696fe9521a345a0f26ecd5428aa841faea4c5abce5c53207d0424fb2be8980b7197de55cbccd90abf29de220dba7c557f0dc90909dd244f200a8c798cd10ab44cce68f2bba0d5e6b2ff46deb30bc01ee6b5558f08fd035a7b14df3fa6bb49ab2cbb6d8cfad0f9bc8a0b7ef9bd4d993852b07774104ca7c51f23cc8ebbad2dcefc9564e002d5a207b1bec8e086f66315fb33e881b9deb9ac89e4ffc837d1bb2ada7009c57632385a4af15bb89e48e8dff7846f6e8ca2e5a679063209761a22d21002ab6d0b7e3678cc68d73dadb5aff12f8e3f346cb268498112eda3da5d22eb3116c36053e895cdaa1f55aff34f457101e188beba84897c102099bd4ec63c9f82236dfb099e2072e9ad93e27d952d958ab7249806c57f2352e69e965903041bc6413ff194fd7432bde89b978f3d4a3cb6c067a0f8b2d22da8c367516a49a8cf046b0dcc587aa1fdb24aa88241b2c464acb8eadff47797a6))
   (by decide +kernel) rfl rfl (by decide +kernel) (by decide +kernel), by decide +kernel⟩,
   ⟨stOf (ownedW .h0 (request 2822 [3]
   0x29d84e5f80d028ce9a33015e38dd91f45486571e85c8eea09d47e29402ad6717d33468b99dc186bac8f2ad207630fb17e4bc889c5eb598fd8b3b5e41ce469b462438c8ea728bc27f144221b84427c71e92045e52b4bc0f4f6eda27a849485362e7aa9f88e13b9f0d2329d9d8d1da266a154676ebb17c2f401a2db0df367f926e408c72bcda287b811322d89b690bda558c0c4d06e8eff3a6e0f912b202c8b69e72eabacc02ebb1950d855332b0f88dfe67ebf7567a73c72300fc7fcaadd20f92f8a33f68912a12f13d27c2f7159e89b6c4bd6e99a105cab0922a96f2665b5930105c3da199e9bc23d5167f5d938b6b0990746a5dcc9af5198c3f26913c8c721550a873446e6dc8f860db8ce9f2e00c817a5f7af79ec3f39fbd1d98d231fcd7ee02e92c18ceb8dea86c7b8d202acad267964376518fe6472f6461412ef523eaa069dc05a254aae274341fff065be52dc0875e0bbf4c34a906cabc33f62ecb5fbb8246114913c3d4e7e94fad38ae5cafdccd3b47cf52a82bcebcc148c1ef552ed9)),
   port .h0, 0, 448 + 1, 3, _, _, adm_of (by decide +kernel), accepted_of (n := 1) (bs := (request 2822 [3]
   0x29d84e5f80d028ce9a33015e38dd91f45486571e85c8eea09d47e29402ad6717d33468b99dc186bac8f2ad207630fb17e4bc889c5eb598fd8b3b5e41ce469b462438c8ea728bc27f144221b84427c71e92045e52b4bc0f4f6eda27a849485362e7aa9f88e13b9f0d2329d9d8d1da266a154676ebb17c2f401a2db0df367f926e408c72bcda287b811322d89b690bda558c0c4d06e8eff3a6e0f912b202c8b69e72eabacc02ebb1950d855332b0f88dfe67ebf7567a73c72300fc7fcaadd20f92f8a33f68912a12f13d27c2f7159e89b6c4bd6e99a105cab0922a96f2665b5930105c3da199e9bc23d5167f5d938b6b0990746a5dcc9af5198c3f26913c8c721550a873446e6dc8f860db8ce9f2e00c817a5f7af79ec3f39fbd1d98d231fcd7ee02e92c18ceb8dea86c7b8d202acad267964376518fe6472f6461412ef523eaa069dc05a254aae274341fff065be52dc0875e0bbf4c34a906cabc33f62ecb5fbb8246114913c3d4e7e94fad38ae5cafdccd3b47cf52a82bcebcc148c1ef552ed9))
   (by decide +kernel) rfl rfl (by decide +kernel) (by decide +kernel), by decide +kernel⟩,
   ⟨stOf (ownedW .h0 (request 2823 [127]
   0x507b337a9fce745d5d8208ee9979304fbfd9bdd149e19a32d7457250e9f7a010b74a2632db8683ae1b951a43cfe20a2fb6447987f21036b31013efea517415b2c86758d45b8e5bbbc06dea518376113b1db81095abb12836f557516a2551605ab383d0a64d7a8c609a9ce37b004fe9d8dd1c4893dc5ea728d729272ca71ab860c50f5b66486bce482a816af09f963125b7180656f65b3376c80294588892b919a89e37f0d15de0ff6233882167d1b6313ef6f09c3ee65ccdcb3227a845f52bca72492b74501d547db4ca27a0ecfa093ddf85d8f5bd1428a36a56d5f56b2b36d57aa1c992f1f96d7daf9d3a8a77ee69f1092121921911e09879f107bb8aa4914b65840c9d64e7116b7d414cb08a2c62f70e0ed3abedf4ca4ec4fc891ba81d7e7b331a95fa8641bc437d206eec3c4d5f8a771acae3a81d1be2e6460127d126267d300f76167f4269b6c796021fbd6ab819d2e3d5e4cc66613b1dd126848685ae4452d0cd46b688b65dc1acd409721da07ad984cc42c68b2a6ddfc00cc0cac87232)),
   port .h0, 0, 448 + 1, 3, _, _, adm_of (by decide +kernel), accepted_of (n := 1) (bs := (request 2823 [127]
   0x507b337a9fce745d5d8208ee9979304fbfd9bdd149e19a32d7457250e9f7a010b74a2632db8683ae1b951a43cfe20a2fb6447987f21036b31013efea517415b2c86758d45b8e5bbbc06dea518376113b1db81095abb12836f557516a2551605ab383d0a64d7a8c609a9ce37b004fe9d8dd1c4893dc5ea728d729272ca71ab860c50f5b66486bce482a816af09f963125b7180656f65b3376c80294588892b919a89e37f0d15de0ff6233882167d1b6313ef6f09c3ee65ccdcb3227a845f52bca72492b74501d547db4ca27a0ecfa093ddf85d8f5bd1428a36a56d5f56b2b36d57aa1c992f1f96d7daf9d3a8a77ee69f1092121921911e09879f107bb8aa4914b65840c9d64e7116b7d414cb08a2c62f70e0ed3abedf4ca4ec4fc891ba81d7e7b331a95fa8641bc437d206eec3c4d5f8a771acae3a81d1be2e6460127d126267d300f76167f4269b6c796021fbd6ab819d2e3d5e4cc66613b1dd126848685ae4452d0cd46b688b65dc1acd409721da07ad984cc42c68b2a6ddfc00cc0cac87232))
   (by decide +kernel) rfl rfl (by decide +kernel) (by decide +kernel), by decide +kernel⟩⟩

/-- What clauses, part 4 of 4, of SecurityCommands suppose is met. -/
theorem test_meets_SecurityCommands_4 :
    (∃ (s : State) (h : Hdr) (addr : Nat) (len : Nat) (signer : Nat) (p : List Nat) (b : Block), Admitted s.blk h
    { op := 2824, ports := [Port.h0, Port.svc], stage := 1 } ∧ authRequest (cmdOf h 2824) 2824 addr len s.blk = (AuthResult.accepted signer p, b) ∧
    p.length = 2 ∧ (fieldAt p 0 1 = 0 ∧ fieldAt p 1 1 ≤ 255 ∧ fieldAt p 1 1 ≤ (Option.map ImgInfo.svn b.fwu.running).getD 0 ∨ fieldAt p 0 1 = 1 ∧
    fieldAt p 1 1 ≤ 63)) ∧
    (∃ (s : State) (h : Hdr) (addr : Nat) (len : Nat) (signer : Nat) (p : List Nat) (b : Block) (key : BitVec 256), storeBlocked s.blk = false ∧
    Admitted s.blk h { op := 2825, ports := [Port.h0, Port.svc], stage := 1 } ∧ authRequest (cmdOf h 2825) 2825 addr len s.blk = (AuthResult.accepted
    signer p, b) ∧ p.length = 384 ∧ sealKeyOf b p = some key) ∧
    (∃ (s : State) (h : Hdr) (addr : Nat) (len : Nat) (signer : Nat) (p : List Nat) (b : Block), storeBlocked s.blk = false ∧ Admitted s.blk h
    { op := 2826, ports := [Port.h0, Port.svc], stage := 1 } ∧ authRequest (cmdOf h 2826) 2826 addr len s.blk = (AuthResult.accepted signer p, b) ∧
    p.length = 4 ∧ fieldAt p 0 4 < 32) :=
  ⟨⟨stOf (ownedW .h0 (request 2824 [1, 63]
   0x295a09c60038d75f4499d252d16618bea07a73186d32eeb686246584feb116bb3da3d786a8da439cfe7086e24f102e317b1e782e084ecac0b126a5be7b733145a0a571272bdaf444c401647c8c23319f909f7969bd698658d0fb580f40b55203d07560a5110454d427d72f6fd9694c8d9481c40a442f4dc7a8fc463c7a6e9b551072e1fe1e6971e614db54b8517f808a4916c507bd46e5156fc2779fb055ba54b2a8fb515bf735246a8daf3fd89efb7415fd6de9d33151cc3c17dd1440461f8690d617c8c32cb244cf67552afcb8e48bfa62865e2beebe20a409cb5672a616dda76c1c1447e59ef2bf8f3e7ab81ab0005f4c22d8032909a7ee5abbfe408feca0d93f51ef6b635a8bca6474403c302a5c478013f923b7a8233253472e024a54227c234725161b8357aae24d48351ec10c9f53f04654e2caa54ad23837a95100aa497305981c92a87b9ebabe0c15fa5e37245d2ff8ccc3d3f5f534adbe855ed73aed8b89a8b24fcf95664ead883c3d4d2f0d6b907cde81b5c708d2b7c41cf4fc61)),
   port .h0, 0, 448 + 2, 3, _, _, adm_of (by decide +kernel), accepted_of (n := 2) (bs := (request 2824 [1, 63]
   0x295a09c60038d75f4499d252d16618bea07a73186d32eeb686246584feb116bb3da3d786a8da439cfe7086e24f102e317b1e782e084ecac0b126a5be7b733145a0a571272bdaf444c401647c8c23319f909f7969bd698658d0fb580f40b55203d07560a5110454d427d72f6fd9694c8d9481c40a442f4dc7a8fc463c7a6e9b551072e1fe1e6971e614db54b8517f808a4916c507bd46e5156fc2779fb055ba54b2a8fb515bf735246a8daf3fd89efb7415fd6de9d33151cc3c17dd1440461f8690d617c8c32cb244cf67552afcb8e48bfa62865e2beebe20a409cb5672a616dda76c1c1447e59ef2bf8f3e7ab81ab0005f4c22d8032909a7ee5abbfe408feca0d93f51ef6b635a8bca6474403c302a5c478013f923b7a8233253472e024a54227c234725161b8357aae24d48351ec10c9f53f04654e2caa54ad23837a95100aa497305981c92a87b9ebabe0c15fa5e37245d2ff8ccc3d3f5f534adbe855ed73aed8b89a8b24fcf95664ead883c3d4d2f0d6b907cde81b5c708d2b7c41cf4fc61))
   (by decide +kernel) rfl rfl (by decide +kernel) (by decide +kernel), by decide +kernel⟩,
   ⟨stOf (ownedW .h0 (request 2825 (beBytes 384
   0x36175c9859eb8155b67b043b1cf65ae0bb8ef3fc9fc9845adeb01f36fb8ab5793a57187096c39cc6a75c2560bf8cc1952a96e681eb8c65a669ba2dd2a74c7bf288a4cacac054d5904d7cb01170a2e9bbebb7a2abedc7aab4958eaedd9ec3d052e0e08ba5edc8f276c280433abc54bf654dafd06a5b9edf48d2abead207a3831a437d0708bcee048277b18409b6076d7dab59d36f714d30271caf381051386ad41fa2888789e739da67f6d6fa29dd12367ea41bf21634be3818fef0dc8a32a5097120052c3409e6be2eef3553064a57f65400680268ca4f6d5bedf200d271241dad1fb1d5675470465ffdf98ea48b936c4936b7e0333c23b4171d0f1c712e162816445ecc8af751ee977601661076f97a6dd1fc5fd8fb47450efc75f5c69cef96f3926fb6d6ddcddbd44be09b313a654cbcb5c8f94937c3831422e1a9562c6242061fb7201d7fab7de2092c551894d8a338f5a29047e404508cde07f3bd7397eeb0d8a3eceef0f94ec3b431a5b7781b99888c1c25c2ee68eeb3f104ee9fc4f224)
   0x123143ff8039ed25dcbf8db3fd90ecf5e3a2e66d2bf5a9aed0777dabdcfd27aa645f17c3799f3a06659c6aa12079468b835f95f19ec17ab87b97859dfa4d53ad8edc62912be92ea01740bb9410a245770758060d08650844d8209309074432aa281cb1da8450242827ef5c6fc75754b54bce88de2cdd10741ddf07d9120b251ecb3731d27f1a0ee38ab15c450fbff98b25e55b7a1db19476ef03dd24b4bf82b75fdda37d65865e32441219ad978d96e5df9b0d65f60b59e5fe802993d6fb42fc2f99732373b0319db31a342010620bad1fd9c20fdcee4e73741b0e3c1dee46163b74e63014a0234d4925d286dc5209e8d7d5b0140a5174cd0a2a987bd8f3a86ca523b910d5b6f52a0336aeec1d9253463ba63156c273afcf8891e2897b64a1529032de427c1e2726a1eb428eb3ae8d1f1841afb09147e59a3fb3269d4f1dc196b0333008b99e4adf8a4e611871eee5814b2fd4f464742f43ce4312afaf7a0d0ad8a4c5e0e8066c3db97a516a33516c1f3a359eeeba20d93af3d6980d9989993a)
   (fun b => fwW 0 id b)), port .h0, 0, 448 + 384, 3, _, _, 0x1f1e1d1c1b1a191817161514131211100f0e0d0c0b0a09080706050403020100, by decide +kernel,
   adm_of (by decide +kernel), accepted_of (n := 384) (bs := (request 2825 (beBytes 384
   0x36175c9859eb8155b67b043b1cf65ae0bb8ef3fc9fc9845adeb01f36fb8ab5793a57187096c39cc6a75c2560bf8cc1952a96e681eb8c65a669ba2dd2a74c7bf288a4cacac054d5904d7cb01170a2e9bbebb7a2abedc7aab4958eaedd9ec3d052e0e08ba5edc8f276c280433abc54bf654dafd06a5b9edf48d2abead207a3831a437d0708bcee048277b18409b6076d7dab59d36f714d30271caf381051386ad41fa2888789e739da67f6d6fa29dd12367ea41bf21634be3818fef0dc8a32a5097120052c3409e6be2eef3553064a57f65400680268ca4f6d5bedf200d271241dad1fb1d5675470465ffdf98ea48b936c4936b7e0333c23b4171d0f1c712e162816445ecc8af751ee977601661076f97a6dd1fc5fd8fb47450efc75f5c69cef96f3926fb6d6ddcddbd44be09b313a654cbcb5c8f94937c3831422e1a9562c6242061fb7201d7fab7de2092c551894d8a338f5a29047e404508cde07f3bd7397eeb0d8a3eceef0f94ec3b431a5b7781b99888c1c25c2ee68eeb3f104ee9fc4f224)
   0x123143ff8039ed25dcbf8db3fd90ecf5e3a2e66d2bf5a9aed0777dabdcfd27aa645f17c3799f3a06659c6aa12079468b835f95f19ec17ab87b97859dfa4d53ad8edc62912be92ea01740bb9410a245770758060d08650844d8209309074432aa281cb1da8450242827ef5c6fc75754b54bce88de2cdd10741ddf07d9120b251ecb3731d27f1a0ee38ab15c450fbff98b25e55b7a1db19476ef03dd24b4bf82b75fdda37d65865e32441219ad978d96e5df9b0d65f60b59e5fe802993d6fb42fc2f99732373b0319db31a342010620bad1fd9c20fdcee4e73741b0e3c1dee46163b74e63014a0234d4925d286dc5209e8d7d5b0140a5174cd0a2a987bd8f3a86ca523b910d5b6f52a0336aeec1d9253463ba63156c273afcf8891e2897b64a1529032de427c1e2726a1eb428eb3ae8d1f1841afb09147e59a3fb3269d4f1dc196b0333008b99e4adf8a4e611871eee5814b2fd4f464742f43ce4312afaf7a0d0ad8a4c5e0e8066c3db97a516a33516c1f3a359eeeba20d93af3d6980d9989993a))
   (by decide +kernel) rfl rfl (by decide +kernel) (by decide +kernel), by decide +kernel⟩,
   ⟨stOf (ownedW .h0 (request 2826 [31, 0, 0, 0]
   0x18577dfa9882bb9c4d87346bf02965fd9922fafc452021ac6fc7d9e189446cc18e4393dcecef999225dcce1ac04f360b327d4d9460460fd6b32f0194fc461cdb82be71dc077dc0a2a57c0bc1214d22c11d3afe9d2ac579317721e7ed01fa232b19c6922b7d1cafa350a8c131f1d7c15531fdd8e3d9ed26919a3aa3c4650270535509228c7e0bd691aa4a4513f77c5d461845ab0717c3eb6b15e5c2aef83610b60199d789a2f6f733939268f70b8a15af19602d7dc28a3efd44cb07d92ac22605a85e8f9083fd02f676adf95f24d7732db21d607708457999874a5c4b3346ba2dbd06bc58358b4f1a8dfb963ecfc116925f69249d7b7bf0e193f5f8842af991fb157ca87ac790a56da099a53f1e884a21b369b91b9e139cae4fdc102547015289a3e50966affb290bbffac350c1f5096c8ed62ecc07da8f8beca8c3a20b86587bb833a782e0efca8bd4128dddf9f8060f023775f8f3d9e76a0b38e08778b62ff3de6d25d094c6c207414a24ab18dc9083c73390d7d0c31d55724c5451e71ae378)
   (fun b => fwW 0 id b)), port .h0, 0, 448 + 4, 3, _, _, by decide +kernel, adm_of (by decide +kernel), accepted_of (n := 4) (bs := (request 2826
   [31, 0, 0, 0]
   0x18577dfa9882bb9c4d87346bf02965fd9922fafc452021ac6fc7d9e189446cc18e4393dcecef999225dcce1ac04f360b327d4d9460460fd6b32f0194fc461cdb82be71dc077dc0a2a57c0bc1214d22c11d3afe9d2ac579317721e7ed01fa232b19c6922b7d1cafa350a8c131f1d7c15531fdd8e3d9ed26919a3aa3c4650270535509228c7e0bd691aa4a4513f77c5d461845ab0717c3eb6b15e5c2aef83610b60199d789a2f6f733939268f70b8a15af19602d7dc28a3efd44cb07d92ac22605a85e8f9083fd02f676adf95f24d7732db21d607708457999874a5c4b3346ba2dbd06bc58358b4f1a8dfb963ecfc116925f69249d7b7bf0e193f5f8842af991fb157ca87ac790a56da099a53f1e884a21b369b91b9e139cae4fdc102547015289a3e50966affb290bbffac350c1f5096c8ed62ecc07da8f8beca8c3a20b86587bb833a782e0efca8bd4128dddf9f8060f023775f8f3d9e76a0b38e08778b62ff3de6d25d094c6c207414a24ab18dc9083c73390d7d0c31d55724c5451e71ae378))
   (by decide +kernel) rfl rfl (by decide +kernel) (by decide +kernel), by decide +kernel⟩⟩

/-- What the clauses of SecurityEvents suppose is met. -/
theorem test_meets_SecurityEvents :
    (∃ (s : State) (j : FuseJob) (l : List FuseJob), s.blk.start.inReset = false ∧ s.blk.sec.jobs = j :: l ∧ j.started = true) ∧
    (∃ (s : State) (p : Port) (n : BitVec 128) (t : BitVec 64), s.blk.start.inReset = false ∧ nonceOf s.blk p = some (n, t)) ∧
    (∃ (s : State) (q : Machine.Quote) (l : List Machine.Quote) (bs : List Nat) (b : Block), s.blk.start.inReset = false ∧ s.blk.sec.quotes = q :: l ∧
    q.bytes = some bs ∧ writeMem srcGreone q.addr (bs ++ (identitySign bs s.blk).fst) (identitySign bs s.blk).snd = (true, b)) ∧
    (∃ (s : State), s.blk.start.inReset = false) :=
  ⟨⟨stOf ({ W with sec := { W.sec with jobs := [{ id := 0, op2 := 0, what := .advance 1 63, started := true }] } }),
   { id := 0, op2 := 0, what := .advance 1 63, started := true }, [], by decide +kernel⟩,
   ⟨stOf (ownedW .svc []), .svc, 0, 0, by decide +kernel⟩,
   ⟨stOf ({ W with sec := { W.sec with quotes := [quote0] } }), quote0, [], [1], _, by decide +kernel, rfl, rfl, pair_of (by decide +kernel)⟩,
   ⟨stOf W, by decide +kernel⟩⟩

/-- What the clauses of UpdateCommands suppose is met. -/
theorem test_meets_UpdateCommands :
    (∃ (s : State) (h : Hdr), Admitted s.blk h { op := 3072, ports := [Port.h0, Port.p1, Port.p2, Port.svc, Port.jtag, Port.fab], stage := 0 }) ∧
    (∃ (s : State) (h : Hdr) (len : Nat), stageOf s.blk ≠ 0 ∧ Admitted s.blk h { op := 3073, ports := [Port.svc], stage := 0 } ∧ (fwState s.blk = 0 ∨
    fwState s.blk = 6) ∧ 512 + 384 < len ∧ len ≤ 16777216 ∧ updateRefused s.blk false = none) ∧
    (∃ (s : State) (h : Hdr) (digest : BitVec 256), stageOf s.blk ≠ 0 ∧ Admitted s.blk h { op := 3074, ports := [Port.svc], stage := 0 } ∧ fwState
    s.blk = 1 ∧ s.blk.fwu.erasing = false ∧ s.blk.fwu.flashBad = false ∧ fwTaken s.blk = s.blk.fwu.length ∧ sha256 (receivedBytes s.blk) = digest) ∧
    (∃ (s : State) (h : Hdr), stageOf s.blk ≠ 0 ∧ Admitted s.blk h { op := 3075, ports := [Port.svc], stage := 0 } ∧ fwState s.blk = 2 ∧
    s.blk.fwu.reading = false) ∧
    (∃ (s : State) (h : Hdr) (whenPermitted : Nat), stageOf s.blk ≠ 0 ∧ Admitted s.blk h { op := 3076, ports := [Port.h0, Port.svc], stage := 0 } ∧
    fwState s.blk = 3 ∧ openOf s.blk 3076 0 = [] ∧ whenPermitted ≤ 1 ∧ updateRefused s.blk false = none) ∧
    (∃ (s : State) (h : Hdr) (whenPermitted : Nat), stageOf s.blk ≠ 0 ∧ Admitted s.blk h { op := 3076, ports := [Port.h0, Port.svc], stage := 0 } ∧
    fwState s.blk = 3 ∧ openOf s.blk 3076 0 = [] ∧ whenPermitted ≤ 1 ∧ whenPermitted = 1 ∧ updateRefused s.blk false ≠ none ∧ updateLocked s.blk =
    false) ∧
    (∃ (s : State) (h : Hdr), stageOf s.blk ≠ 0 ∧ Admitted s.blk h { op := 3077, ports := [Port.svc], stage := 0 } ∧ fwState s.blk = 4) ∧
    (∃ (s : State) (h : Hdr), stageOf s.blk ≠ 0 ∧ Admitted s.blk h { op := 3077, ports := [Port.svc], stage := 0 } ∧ (fwState s.blk = 1 ∨ fwState
    s.blk = 2 ∨ fwState s.blk = 3 ∧ openOf s.blk 3076 0 = [])) ∧
    (∃ (s : State) (h : Hdr), Admitted s.blk h { op := 3078, ports := [Port.h0, Port.svc], stage := 1 } ∧ provisional s.blk = true ∧ activeSlots s.blk
    = [] ∧ h.port = Port.svc) ∧
    (∃ (s : State) (h : Hdr) (addr : Nat) (len : Nat) (signer : Nat) (p : List Nat) (b : Block), Admitted s.blk h
    { op := 3078, ports := [Port.h0, Port.svc], stage := 1 } ∧ provisional s.blk = true ∧ activeSlots s.blk ≠ [] ∧ authRequest (cmdOf h 3078) 3078
    addr len s.blk = (AuthResult.accepted signer p, b)) ∧
    (∃ (s : State) (h : Hdr), Admitted s.blk h { op := 3079, ports := [Port.h0, Port.svc], stage := 1 } ∧ fwState s.blk = 5 ∧ s.blk.fwu.jobs = [] ∧
    s.blk.gr.restartDue = none ∧ updateRefused s.blk true = none) ∧
    (∃ (s : State) (h : Hdr) (lease : Nat), Admitted s.blk h { op := 3080, ports := [Port.h0, Port.p1, Port.p2, Port.fab], stage := 1 } ∧ 1 ≤ lease ∧
    lease ≤ 86400) ∧
    (∃ (s : State) (h : Hdr), Admitted s.blk h { op := 3081, ports := [Port.h0, Port.p1, Port.p2, Port.svc, Port.fab], stage := 1 }) ∧
    (∃ (s : State) (h : Hdr), Admitted s.blk h { op := 3081, ports := [Port.h0, Port.p1, Port.p2, Port.svc, Port.fab], stage := 1 } ∧ h.port =
    Port.svc) :=
  ⟨⟨stOf W, H, adm_of (by decide +kernel)⟩,
   ⟨stOf (fwW 6), port .svc, 897, by decide +kernel, adm_of (by decide +kernel), by decide +kernel⟩,
   ⟨stOf (fwW 1), port .svc, _, by decide +kernel, adm_of (by decide +kernel), by decide +kernel, by decide +kernel, by decide +kernel,
   by decide +kernel, rfl⟩,
   ⟨stOf (fwW 2), port .svc, by decide +kernel, adm_of (by decide +kernel), by decide +kernel⟩,
   ⟨stOf (fwW 3), H, 1, by decide +kernel, adm_of (by decide +kernel), by decide +kernel⟩,
   ⟨stOf (fwW 3 id (W.putB Rg.fw (Rg.runHeld 5) true)), H, 1, by decide +kernel, adm_of (by decide +kernel), by decide +kernel⟩,
   ⟨stOf (fwW 4), port .svc, by decide +kernel, adm_of (by decide +kernel), by decide +kernel⟩,
   ⟨stOf (fwW 3), port .svc, by decide +kernel, adm_of (by decide +kernel), by decide +kernel⟩,
   ⟨stOf (W.putB Rg.rst Rg.provisional true), port .svc, adm_of (by decide +kernel), by decide +kernel⟩,
   ⟨stOf (ownedW .h0 (request 3078 [0]
   0x9da6ea42c0cee4b141b27483c9ee15327f490bc4a0dffd3cec7eca642e35aac7d2bec9f4d1d3977143751611feec2f3fbc10620958effa184a5facba440221647d7bf50b69d7daf18e934eb678413e19ab1fb18b752ee119022f421fa3c1242e521f63e6396f2d4c6e363900471af66ec68448dfaf09d8a3701c027feaef405cd59005f9330644530bd634709450f2bc71ab835c4b077501cc90facd92cece19f5b1c8a27383a6c3349e6ec2bd71638e5adff91f17219ed9889d584465c44272132cd6ae714094f51f536c42bb610b4ac9c3d0dc2878aef78243d4a1a6d99ec245d819f0e1c2872da3908b627e8cf761f90d0ff3991babf352e8aa1b27a61cec07c40aec1e4612cb0f4fb966c0390821fa5f07999eac283599cbec16b03c72b96e3d90963155ae90f8ba3a84f942faeedc73ba5e2b87a8e137b29c753935bb0bdde56f64eebc457a8865e9c56a8f29687ba8db79b707a8079efd2290f09e540e4bb309ee42d6ad880abeeb6afdddaf8374d541dbcaef5479f1e7e6b0cd77f359)
   (fun b => b.putB Rg.rst Rg.provisional true)), port .h0, 0, 448 + 1, 3, _, _, adm_of (by decide +kernel), by decide +kernel, by decide +kernel,
   accepted_of (n := 1) (bs := (request 3078 [0]
   0x9da6ea42c0cee4b141b27483c9ee15327f490bc4a0dffd3cec7eca642e35aac7d2bec9f4d1d3977143751611feec2f3fbc10620958effa184a5facba440221647d7bf50b69d7daf18e934eb678413e19ab1fb18b752ee119022f421fa3c1242e521f63e6396f2d4c6e363900471af66ec68448dfaf09d8a3701c027feaef405cd59005f9330644530bd634709450f2bc71ab835c4b077501cc90facd92cece19f5b1c8a27383a6c3349e6ec2bd71638e5adff91f17219ed9889d584465c44272132cd6ae714094f51f536c42bb610b4ac9c3d0dc2878aef78243d4a1a6d99ec245d819f0e1c2872da3908b627e8cf761f90d0ff3991babf352e8aa1b27a61cec07c40aec1e4612cb0f4fb966c0390821fa5f07999eac283599cbec16b03c72b96e3d90963155ae90f8ba3a84f942faeedc73ba5e2b87a8e137b29c753935bb0bdde56f64eebc457a8865e9c56a8f29687ba8db79b707a8079efd2290f09e540e4bb309ee42d6ad880abeeb6afdddaf8374d541dbcaef5479f1e7e6b0cd77f359))
   (by decide +kernel) rfl rfl (by decide +kernel) (by decide +kernel)⟩,
   ⟨stOf (fwW 5), port .svc, adm_of (by decide +kernel), by decide +kernel⟩,
   ⟨stOf W, H, 86400, adm_of (by decide +kernel), by decide +kernel⟩,
   ⟨stOf W, H, adm_of (by decide +kernel)⟩,
   ⟨stOf W, port .svc, adm_of (by decide +kernel), by decide +kernel⟩⟩

/-- What the clauses of FirmwareEvents suppose is met. -/
theorem test_meets_FirmwareEvents :
    (∃ (s : State), s.blk.start.inReset = false ∧ s.blk.start.imageChosen = false ∧ (stageOf s.blk = 0 ∧ s.blk.gr.up = true ∨ s.blk.gr.restarting =
    true)) ∧
    (∃ (s : State), s.blk.start.inReset = false ∧ s.blk.fwu.erasing = true) ∧
    (∃ (s : State) (r : ActRec) (op2 : Nat) (l : List FlashJob), s.blk.start.inReset = false ∧ s.blk.fwu.jobs = FlashJob.record r op2 :: l) ∧
    (∃ (s : State) (k : SetBank) (op2 : Nat) (l : List FlashJob), s.blk.start.inReset = false ∧ s.blk.fwu.jobs = FlashJob.settings k op2 :: l ∧
    powerGood s.blk = true) ∧
    (∃ (s : State), s.blk.start.inReset = false ∧ s.blk.fwu.jobs = [] ∧ s.blk.fwu.buffer ≠ [] ∧ s.blk.fwu.erasing = false ∧ powerGood s.blk = true) ∧
    (∃ (s : State), s.blk.start.inReset = false ∧ s.blk.fwu.reading = true ∧ s.blk.fwu.buffer = [] ∧ s.blk.fwu.flashBad = false) ∧
    (∃ (s : State), s.blk.start.inReset = false ∧ s.blk.fwu.reading = true ∧ s.blk.fwu.buffer = []) ∧
    (∃ (s : State), s.blk.start.inReset = false ∧ fwState s.blk = 4 ∧ s.blk.gr.restarting = false ∧ updateRefused s.blk false = none) ∧
    (∃ (s : State), s.blk.start.inReset = false ∧ fwState s.blk = 5 ∧ s.blk.gr.restarting = false ∧ s.blk.gr.restartDue = none ∧ s.blk.fwu.jobs = []) ∧
    (∃ (s : State), s.blk.start.inReset = false ∧ fwState s.blk = 5 ∧ s.blk.gr.restarting = false ∧ s.blk.gr.restartDue = none ∧ s.blk.fwu.jobs = [] ∧
    allReady s.blk = true ∧ (provisional s.blk = false ∨ s.blk.fwu.accepted = true)) ∧
    (∃ (s : State), s.blk.start.inReset = false ∧ (actRec s.blk).trial = false ∧ (actRec s.blk).crashes ≠ 0 ∧ s.blk.fwu.running ≠ none ∧
    s.blk.gr.restarting = false ∧ s.blk.fwu.jobs = []) ∧
    (∃ (s : State) (p : Port), s.blk.start.inReset = false ∧ p ≠ Port.svc ∧ p ≠ Port.jtag ∧ s.blk.flag Rg.fw (Rg.runHeld (portNum p)) = true) :=
  ⟨⟨stOf (modGr (fun g => { g with restarting := true }) { W with start := { W.start with imageChosen := false } }), by decide +kernel⟩,
   ⟨stOf (fwW 1 (fun x => { x with erasing := true })), by decide +kernel⟩,
   ⟨stOf (fwW 0 (fun x => { x with jobs := [.record rec0 0] })), rec0, 0, [], by decide +kernel⟩,
   ⟨stOf (fwW 0 (fun x => { x with jobs := [.settings bank0 0] })), bank0, 0, [], by decide +kernel⟩,
   ⟨stOf (fwW 1 (fun x => { x with buffer := [255] })), by decide +kernel⟩,
   ⟨stOf (fwW 2 (fun x => { x with reading := true })), by decide +kernel⟩,
   ⟨stOf (fwW 2 (fun x => { x with reading := true })), by decide +kernel⟩,
   ⟨stOf (fwW 4), by decide +kernel⟩,
   ⟨stOf (fwW 5), by decide +kernel⟩,
   ⟨stOf (allReadyW), by decide +kernel⟩,
   ⟨stOf (fwW 0 id { W with nv := { W.nv with rec0 := some rec0 } }), by decide +kernel⟩,
   ⟨stOf (W.putB Rg.fw (Rg.runHeld 5) true), .fab, by decide +kernel⟩⟩

/-- What the clauses of ServiceFrames suppose is met. -/
theorem test_meets_ServiceFrames :
    (∃ (s : State) (f : List (BitVec 8)), s.blk.start.inReset = false ∧ s.blk.flag Rg.sec Rg.sSvcDisable = false ∧ (frameBytes f).getD 0 0 = 165 ∧
    frameOk (frameBytes f) = true ∧ (frameBytes f).getD 1 0 = 4) ∧
    (∃ (s : State) (f : List (BitVec 8)) (p : List Nat), s.blk.start.inReset = false ∧ s.blk.flag Rg.sec Rg.sSvcDisable = false ∧ (frameBytes f).getD
    0 0 = 165 ∧ frameOk (frameBytes f) = true ∧ (frameBytes f).getD 1 0 = 3 ∧ fwState s.blk = 1 ∧ p = framePayload (frameBytes f) ∧ s.blk.fwu.lastSeq
    ≠ some (fieldAt (frameBytes f) 3 2, fieldAt (frameBytes f) 5 8) ∧ fieldAt (frameBytes f) 5 8 = fwTaken s.blk ∧ fwTaken s.blk + p.length ≤
    s.blk.fwu.length ∧ p ≠ [] ∧ p.length ≤ 4096 ∧ s.blk.fwu.buffer.length + p.length ≤ 65536) ∧
    (∃ (s : State) (f : List (BitVec 8)) (a : Nat) (p : List Nat), s.blk.start.inReset = false ∧ s.blk.flag Rg.sec Rg.sSvcDisable = false ∧
    (frameBytes f).getD 0 0 = 165 ∧ frameOk (frameBytes f) = true ∧ a = fieldAt (frameBytes f) 5 8 ∧ mayIssue s.blk 1028 4 a = true ∧ fenceBusy s.blk
    1028 = false ∧ (frameBytes f).getD 1 0 = 1 ∧ p = framePayload (frameBytes f) ∧ svcForm (frameBytes f) p.length = true ∧ flipHeld s.blk 1028 =
    false) ∧
    (∃ (s : State) (f : List (BitVec 8)) (a : Nat) (n : Nat), s.blk.start.inReset = false ∧ s.blk.flag Rg.sec Rg.sSvcDisable = false ∧ (frameBytes
    f).getD 0 0 = 165 ∧ frameOk (frameBytes f) = true ∧ a = fieldAt (frameBytes f) 5 8 ∧ mayIssue s.blk 1028 4 a = true ∧ fenceBusy s.blk 1028 = false
    ∧ (frameBytes f).getD 1 0 = 2 ∧ n = fieldAt (frameBytes f) 13 4 ∧ svcForm (frameBytes f) n = true ∧ s.blk.fwu.svcRead = none ∧ (List.filter
    (segTagged s.blk 0) (netSegs s.blk 1028 0 a n)).length ≤ (freeTags s.blk 1028 (List.filter (segTagged s.blk 0) (netSegs s.blk 1028 0 a
    n)).length).length) :=
  ⟨⟨stOf W, svcFrameOf 4 65535 0 0 [], by decide +kernel⟩,
   ⟨stOf (fwW 1 (fun x => { x with length := 1000 })), svcFrameOf 3 1 0 2 [1, 255], _, by decide +kernel, by decide +kernel, by decide +kernel,
   by decide +kernel, by decide +kernel, by decide +kernel, rfl, by decide +kernel⟩,
   ⟨stOf W, svcFrameOf 1 1 0x7F0000000000 4 [1, 2, 3, 4], _, _, by decide +kernel, by decide +kernel, by decide +kernel, by decide +kernel, rfl,
   by decide +kernel, by decide +kernel, by decide +kernel, rfl, by decide +kernel⟩,
   ⟨stOf W, svcFrameOf 2 1 0x7F0000000000 4096 [], _, _, by decide +kernel, by decide +kernel, by decide +kernel, by decide +kernel, rfl,
   by decide +kernel, by decide +kernel, by decide +kernel, rfl, by decide +kernel⟩⟩

/-- What the clauses of PowerCommands suppose is met. -/
theorem test_meets_PowerCommands :
    (∃ (s : State), s.blk.start.inReset = false ∧ s.blk.flag Rg.pwr Rg.pWarn = false) ∧
    (∃ (s : State), s.blk.start.inReset = false ∧ s.blk.flag Rg.pwr Rg.pWarn = true) ∧
    (∃ (s : State), s.blk.start.inReset = false ∧ s.blk.flag Rg.pwr Rg.pHoldup = true) ∧
    (∃ (s : State), s.blk.start.inReset = false ∧ s.blk.flag Rg.pwr Rg.pHoldup = false) ∧
    (∃ (s : State), s.blk.start.inReset = false) ∧
    (∃ (s : State) (mv : List Nat), s.blk.start.inReset = false ∧ mv.length = 13 ∧ (∀ (v : Nat), v ∈ mv → v < 65536)) ∧
    (∃ (s : State) (h : Hdr), s.blk.start.inReset = false ∧ Admitted s.blk h { op := 3328, ports := [Port.h0, Port.svc], stage := 1 }) ∧
    (∃ (s : State) (h : Hdr) (die : Nat) (thresh : Nat), s.blk.start.inReset = false ∧ Admitted s.blk h
    { op := 3329, ports := [Port.h0, Port.svc], stage := 1 } ∧ die ≤ 4 ∧ 60 ≤ thresh ∧ thresh ≤ 105) :=
  ⟨⟨stOf W, by decide +kernel⟩,
   ⟨stOf (W.putB Rg.pwr Rg.pWarn true), by decide +kernel⟩,
   ⟨stOf (W.putB Rg.pwr Rg.pHoldup true), by decide +kernel⟩,
   ⟨stOf W, by decide +kernel⟩,
   ⟨stOf W, by decide +kernel⟩,
   ⟨stOf W, List.replicate 13 65535, by decide +kernel⟩,
   ⟨stOf W, port .svc, by decide +kernel, adm_of (by decide +kernel)⟩,
   ⟨stOf W, port .svc, 4, 105, by decide +kernel, adm_of (by decide +kernel), by decide +kernel⟩⟩

end Sys2Proof.Tests
end

section
/-! Scope and reset (00): what every command keeps, what reset leaves, and the mailbox rows. -/

namespace Sys2Proof.Proofs

open Sys2Proof.Machine Sys2Proof.Laws

/-! ## What every command keeps -/

/-- What a row of the table may change, as a mask of `Kept`: the parts that its row of `partsOf` names and, for the one row that puts the
device into RESET (R39), bit 32, which stands for entering RESET. -/
def rowMask (c : Instr) : Nat :=
  match c with
  | .porstNAssert .. => Nat.lor 0x100000000 (maskOf (partsOf c))
  | c => maskOf (partsOf c)

/-- Every row answers, leaves the queue behind it, and changes no part but those of its mask. The masks are concrete numbers once the
constructor is known, so that each operation's own law applies. -/
theorem exec_ran (c : Instr) (s : State) : Ran (rowMask c) s (exec c s) := by
  cases c <;> dsimp only [rowMask, partsOf, exec]
  case porstNAssert lowNs mayReset => exact execPorstNAssert_ran rfl lowNs mayReset s
  case porstNRelease => exact execPorstNRelease_ran rfl s
  case stage1Enter faults => exact execStage1Enter_ran rfl faults s
  case stage2Enter => exact execStage2Enter_ran rfl s
  case stage3Enter fitted => exact execStage3Enter_ran rfl fitted s
  case bootPlateLoad => exact execBootPlateLoad_ran rfl s
  case dieReset h die => exact execDieReset_ran rfl h die s
  case dieResetTakeEffect die => exact execDieResetTakeEffect_ran rfl die s
  case dieResetRelease die faults => exact execDieResetRelease_ran rfl die faults s
  case siteReset h site => exact execSiteReset_ran rfl h site s
  case siteResetRelease site => exact execSiteResetRelease_ran rfl site s
  case vccauxLoss => exact execVccauxLoss_ran rfl s
  case ringLockAcquired => exact execRingLockAcquired_ran rfl s
  case ringLockLost => exact execRingLockLost_ran rfl s
  case ringWindow delay length => exact execRingWindow_ran rfl delay length s
  case ringWindowStart => exact execRingWindowStart_ran rfl s
  case ringCensus hop rxError => exact execRingCensus_ran rfl hop rxError s
  case ringStartPacket group lead => exact execRingStartPacket_ran rfl group lead s
  case ringTriggerPacket group trig lead => exact execRingTriggerPacket_ran rfl group trig lead s
  case ringAbortPacket group => exact execRingAbortPacket_ran rfl group s
  case ringPacketForward packet => exact execRingPacketForward_ran rfl packet s
  case ringJoinTimeout => exact execRingJoinTimeout_ran rfl s
  case ringJoin h => exact execRingJoin_ran rfl h s
  case ringLeave h => exact execRingLeave_ran rfl h s
  case alignmentMarker => exact execAlignmentMarker_ran rfl s
  case devTimeWrap => exact execDevTimeWrap_ran rfl s
  case primaryRingLost => exact execPrimaryRingLost_ran rfl s
  case refclkLost => exact execRefclkLost_ran rfl s
  case referenceRestored ring => exact execReferenceRestored_ran rfl ring s
  case referenceSlewDone => exact execReferenceSlewDone_ran rfl s
  case rootPllUnlock => exact execRootPllUnlock_ran rfl s
  case fpllUnlock die pll => exact execFpllUnlock_ran rfl die pll s
  case fpllRelock die pll => exact execFpllRelock_ran rfl die pll s
  case seamMarginLoss edge group wire margin => exact execSeamMarginLoss_ran rfl edge group wire margin s
  case seamParityFail edge group wire => exact execSeamParityFail_ran rfl edge group wire s
  case configUpset sector frame bits => exact execConfigUpset_ran rfl sector frame bits s
  case ramPortAccess sector ram a b near bFirst err => exact execRamPortAccess_ran rfl sector ram a b near bFirst err s
  case tankQueueWrite sector tank din we => exact execTankQueueWrite_ran rfl sector tank din we s
  case tankQueueRead sector tank orCe orSr err => exact execTankQueueRead_ran rfl sector tank orCe orSr err s
  case userRamScrubRead sector ram which err => exact execUserRamScrubRead_ran rfl sector ram which err s
  case userRamScrubWriteback sector ram => exact execUserRamScrubWriteback_ran rfl sector ram s
  case scrubStarved sector ram => exact execScrubStarved_ran rfl sector ram s
  case engineStart e => exact execEngineStart_ran rfl e s
  case engineHalt e => exact execEngineHalt_ran rfl e s
  case engineHaltRelease e => exact execEngineHaltRelease_ran rfl e s
  case engineReset e high => exact execEngineReset_ran rfl e high s
  case engineFifoWrite e b word => exact execEngineFifoWrite_ran rfl e b word s
  case engineOqRead e => exact execEngineOqRead_ran rfl e s
  case engineNop e => exact execEngineNop_ran rfl e s
  case engineMac e errA errB => exact execEngineMac_ran rfl e errA errB s
  case engineNmac e errA errB => exact execEngineNmac_ran rfl e errA errB s
  case engineNorm e => exact execEngineNorm_ran rfl e s
  case engineAgset e => exact execEngineAgset_ran rfl e s
  case engineSet e errA errB => exact execEngineSet_ran rfl e errA errB s
  case engineRep e => exact execEngineRep_ran rfl e s
  case engineLoop e => exact execEngineLoop_ran rfl e s
  case engineJmp e => exact execEngineJmp_ran rfl e s
  case engineWait e => exact execEngineWait_ran rfl e s
  case engineSig e => exact execEngineSig_ran rfl e s
  case engineStop e => exact execEngineStop_ran rfl e s
  case engineStopDrained e => exact execEngineStopDrained_ran rfl e s
  case engineGpiChange e gpi0 gpi1 => exact execEngineGpiChange_ran rfl e gpi0 gpi1 s
  case plateLoad h source freezeFirst retain target region policy addr len =>
    exact execPlateLoad_ran rfl h source freezeFirst retain target region policy addr len s
  case plateRelocate h region target => exact execPlateRelocate_ran rfl h region target s
  case regionFreeze h region => exact execRegionFreeze_ran rfl h region s
  case regionRelease h regions => exact execRegionRelease_ran rfl h regions s
  case regionReset h region => exact execRegionReset_ran rfl h region s
  case regionClear h region => exact execRegionClear_ran rfl h region s
  case plateSpares h sectors => exact execPlateSpares_ran rfl h sectors s
  case plateUnretain h region => exact execPlateUnretain_ran rfl h region s
  case plateStatus h region => exact execPlateStatus_ran rfl h region s
  case frameRecordWrite load readBackOk => exact execFrameRecordWrite_ran rfl load readBackOk s
  case loadStreamDone load dies routes => exact execLoadStreamDone_ran rfl load dies routes s
  case loadVerifyDone load faults => exact execLoadVerifyDone_ran rfl load faults s
  case freezeDrainEnd region => exact execFreezeDrainEnd_ran rfl region s
  case relocateCutover region => exact execRelocateCutover_ran rfl region s
  case linkReroute link route => exact execLinkReroute_ran rfl link route s
  case configScrubFrame die => exact execConfigScrubFrame_ran rfl die s
  case mbeReload sector => exact execMbeReload_ran rfl sector s
  case autoRelocate region spare => exact execAutoRelocate_ran rfl region spare s
  case shutter h addr => exact execShutter_ran rfl h addr s
  case shutterResume h => exact execShutterResume_ran rfl h s
  case shutterCancel h => exact execShutterCancel_ran rfl h s
  case shutterStatus h => exact execShutterStatus_ran rfl h s
  case shutterTriggerLine line => exact execShutterTriggerLine_ran rfl line s
  case shutterCapture => exact execShutterCapture_ran rfl s
  case shutterNoEdgeTimeout => exact execShutterNoEdgeTimeout_ran rfl s
  case contactRecordWrite => exact execContactRecordWrite_ran rfl s
  case shutterReadoutDone => exact execShutterReadoutDone_ran rfl s
  case vccoFaultEnter die bank mv => exact execVccoFaultEnter_ran rfl die bank mv s
  case vccoFaultExit die bank mv => exact execVccoFaultExit_ran rfl die bank mv s
  case ioCalibration die ok => exact execIoCalibration_ran rfl die ok s
  case ioPinWrite die pin size8 high value => exact execIoPinWrite_ran rfl die pin size8 high value s
  case delayFabricStep die pin output inc => exact execDelayFabricStep_ran rfl die pin output inc s
  case termEnChange die pin on => exact execTermEnChange_ran rfl die pin on s
  case vccoLevelChange die bank mv => exact execVccoLevelChange_ran rfl die bank mv s
  case delayLineTapMove die pin => exact execDelayLineTapMove_ran rfl die pin s
  case tppLoad h tpp addr first count => exact execTppLoad_ran rfl h tpp addr first count s
  case tppRun h tpp addr => exact execTppRun_ran rfl h tpp addr s
  case tppAbort h mask => exact execTppAbort_ran rfl h mask s
  case tppStatus h tpp => exact execTppStatus_ran rfl h tpp s
  case tppCalibrate h mask => exact execTppCalibrate_ran rfl h mask s
  case tppSite h tpp enables => exact execTppSite_ran rfl h tpp enables s
  case tppCalDone tpp cals temp => exact execTppCalDone_ran rfl tpp cals temp s
  case tppStreamReady tpp => exact execTppStreamReady_ran rfl tpp s
  case tppStartInstant tpp => exact execTppStartInstant_ran rfl tpp s
  case startFEdge tpp => exact execStartFEdge_ran rfl tpp s
  case abortFEdge tpp => exact execAbortFEdge_ran rfl tpp s
  case trigFEdge tpp trig => exact execTrigFEdge_ran rfl tpp trig s
  case siteOffChange tpp off => exact execSiteOffChange_ran rfl tpp off s
  case seqNext tpp dbe => exact execSeqNext_ran rfl tpp dbe s
  case seqRepeat tpp dbe => exact execSeqRepeat_ran rfl tpp dbe s
  case seqLoop tpp dbe => exact execSeqLoop_ran rfl tpp dbe s
  case seqJump tpp dbe => exact execSeqJump_ran rfl tpp dbe s
  case seqCall tpp dbe => exact execSeqCall_ran rfl tpp dbe s
  case seqRet tpp dbe => exact execSeqRet_ran rfl tpp dbe s
  case seqJof tpp dbe => exact execSeqJof_ran rfl tpp dbe s
  case seqMatch tpp dbe hits fails => exact execSeqMatch_ran rfl tpp dbe hits fails s
  case seqApgStep tpp dbe => exact execSeqApgStep_ran rfl tpp dbe s
  case seqStream tpp dbe => exact execSeqStream_ran rfl tpp dbe s
  case seqStreamVector tpp => exact execSeqStreamVector_ran rfl tpp s
  case seqWaitTrig tpp dbe => exact execSeqWaitTrig_ran rfl tpp dbe s
  case seqStop tpp dbe => exact execSeqStop_ran rfl tpp dbe s
  case streamRefillRead tpp => exact execStreamRefillRead_ran rfl tpp s
  case streamReadResponse tpp line ok data => exact execStreamReadResponse_ran rfl tpp line ok data s
  case tppDrainEnd tpp => exact execTppDrainEnd_ran rfl tpp s
  case tppDrainTimeout tpp => exact execTppDrainTimeout_ran rfl tpp s
  case compareResult tpp vecnum volts => exact execCompareResult_ran rfl tpp vecnum volts s
  case failRecordSend tpp => exact execFailRecordSend_ran rfl tpp s
  case bitmapLineEvict tpp line => exact execBitmapLineEvict_ran rfl tpp line s
  case bitmapAorResponse tpp line ok => exact execBitmapAorResponse_ran rfl tpp line ok s
  case cntClear tpp => exact execCntClear_ran rfl tpp s
  case laneUp h die mask group spares => exact execLaneUp_ran rfl h die mask group spares s
  case laneDown h die mask => exact execLaneDown_ran rfl h die mask s
  case laneQuiesce h die mask => exact execLaneQuiesce_ran rfl h die mask s
  case laneResume h die mask => exact execLaneResume_ran rfl h die mask s
  case laneLoopback h lane kind squelch => exact execLaneLoopback_ran rfl h lane kind squelch s
  case lanePrbs h lane poly gen chk inv => exact execLanePrbs_ran rfl h lane poly gen chk inv s
  case laneEyescan h lane hStart hLen hStep vStart vLen vStep dwell addr =>
    exact execLaneEyescan_ran rfl h lane hStart hLen hStep vStart vLen vStep dwell addr s
  case laneStatus h lane => exact execLaneStatus_ran rfl h lane s
  case laneUpTimeout die mask => exact execLaneUpTimeout_ran rfl die mask s
  case laneTxBlock lane ctrl payload => exact execLaneTxBlock_ran rfl lane ctrl payload s
  case laneRxBlock lane hdr payload drained => exact execLaneRxBlock_ran rfl lane hdr payload drained s
  case rxSlip lane => exact execRxSlip_ran rfl lane s
  case blockLockGained lane => exact execBlockLockGained_ran rfl lane s
  case blockLockLost lane => exact execBlockLockLost_ran rfl lane s
  case lnbCaps lane map nonce groupCap => exact execLnbCaps_ran rfl lane map nonce groupCap s
  case lnbStepReq lane code => exact execLnbStepReq_ran rfl lane code s
  case lnbStepAck lane code => exact execLnbStepAck_ran rfl lane code s
  case laneRateSwitch lane => exact execLaneRateSwitch_ran rfl lane s
  case lnbCoeff lane preset pre post => exact execLnbCoeff_ran rfl lane preset pre post s
  case lnbCoeffAck lane => exact execLnbCoeffAck_ran rfl lane s
  case lnbSteerReq lane logical abrupt => exact execLnbSteerReq_ran rfl lane logical abrupt s
  case lnbSteerAck lane logical => exact execLnbSteerAck_ran rfl lane logical s
  case lnbSteerDone lane logical => exact execLnbSteerDone_ran rfl lane logical s
  case groupMarker lane logical dup clean => exact execGroupMarker_ran rfl lane logical dup clean s
  case laneEqEnd lane ctle tap1 margin => exact execLaneEqEnd_ran rfl lane ctle tap1 margin s
  case laneCheckEnd lane pass => exact execLaneCheckEnd_ran rfl lane pass s
  case laneLockTimeout lane => exact execLaneLockTimeout_ran rfl lane s
  case laneBaseRetry lane => exact execLaneBaseRetry_ran rfl lane s
  case laneRetrain lane => exact execLaneRetrain_ran rfl lane s
  case laneDegrading lane errs margin => exact execLaneDegrading_ran rfl lane errs margin s
  case eyescanDone lane counts => exact execEyescanDone_ran rfl lane counts s
  case laneSnap lane => exact execLaneSnap_ran rfl lane s
  case bmkSend die group => exact execBmkSend_ran rfl die group s
  case lnbRepeat lane => exact execLnbRepeat_ran rfl lane s
  case dramTrain h ch rate => exact execDramTrain_ran rfl h ch rate s
  case dramStatus h ch => exact execDramStatus_ran rfl h ch s
  case dramQuiesce h ch => exact execDramQuiesce_ran rfl h ch s
  case dramResume h ch => exact execDramResume_ran rfl h ch s
  case dramOffline h ch => exact execDramOffline_ran rfl h ch s
  case dramOnline h ch => exact execDramOnline_ran rfl h ch s
  case dramSelftest h ch off len kind => exact execDramSelftest_ran rfl h ch off len kind s
  case dramBracket h ch ctrl => exact execDramBracket_ran rfl h ch ctrl s
  case dramRecover h ch => exact execDramRecover_ran rfl h ch s
  case dramTrainDone ch dimm pairDdr4 pass selfRef => exact execDramTrainDone_ran rfl ch dimm pairDdr4 pass selfRef s
  case bracketGo ch => exact execBracketGo_ran rfl ch s
  case bracketDone ch results => exact execBracketDone_ran rfl ch results s
  case dramLineRead ch id line src stream => exact execDramLineRead_ran rfl ch id line src stream s
  case dramLineWrite ch id line src data => exact execDramLineWrite_ran rfl ch id line src data s
  case dramLockedPair ch id line src merge => exact execDramLockedPair_ran rfl ch id line src merge s
  case dramBurstComplete ch idx errs => exact execDramBurstComplete_ran rfl ch idx errs s
  case dramWriteStarve ch => exact execDramWriteStarve_ran rfl ch s
  case dramRefreshDue ch sub rank => exact execDramRefreshDue_ran rfl ch sub rank s
  case dramRefreshRateRead ch hot => exact execDramRefreshRateRead_ran rfl ch hot s
  case actTableClear ch sub rank bg bank => exact execActTableClear_ran rfl ch sub rank bg bank s
  case dramAlert ch sub => exact execDramAlert_ran rfl ch sub s
  case dramAlertRelease ch sub => exact execDramAlertRelease_ran rfl ch sub s
  case dramReplayWindowEnd ch sub => exact execDramReplayWindowEnd_ran rfl ch sub s
  case dramPatrolRead ch errs overtaken => exact execDramPatrolRead_ran rfl ch errs overtaken s
  case dramInitBlock ch => exact execDramInitBlock_ran rfl ch s
  case dramZqCal ch rank => exact execDramZqCal_ran rfl ch rank s
  case dramDriftTrack ch rank moves => exact execDramDriftTrack_ran rfl ch rank moves s
  case dramDrainDone ch => exact execDramDrainDone_ran rfl ch s
  case dramSchedulerSlot ch sub => exact execDramSchedulerSlot_ran rfl ch sub s
  case vddqDcRemoved pair => exact execVddqDcRemoved_ran rfl pair s
  case lsuKeyLoad h slot ref => exact execLsuKeyLoad_ran rfl h slot ref s
  case lsuKeyClear h slot => exact execLsuKeyClear_ran rfl h slot s
  case lsuRegionSet h region base limit valid => exact execLsuRegionSet_ran rfl h region base limit valid s
  case lsuRekey h region slot tagEn => exact execLsuRekey_ran rfl h region slot tagEn s
  case lsuStatus h region => exact execLsuStatus_ran rfl h region s
  case lsuReadCheck ch idx => exact execLsuReadCheck_ran rfl ch idx s
  case sweepLineConvert ch => exact execSweepLineConvert_ran rfl ch s
  case sweepReadReturn ch => exact execSweepReadReturn_ran rfl ch s
  case sweepComplete region => exact execSweepComplete_ran rfl region s
  case nocRequestIssue src via kind addr len label stream data => exact execNocRequestIssue_ran rfl src via kind addr len label stream data s
  case routerFlit router header payload headerError => exact execRouterFlit_ran rfl router header payload headerError s
  case nocCreditReturn router port vc => exact execNocCreditReturn_ran rfl router port vc s
  case nocResponseArrive dst tag status flits fifoFull => exact execNocResponseArrive_ran rfl dst tag status flits fifoFull s
  case apTargetRequest d k src tag kind off len data => exact execApTargetRequest_ran rfl d k src tag kind off len data s
  case apTargetResponse d k id targetError data => exact execApTargetResponse_ran rfl d k id targetError data s
  case nocFence src label => exact execNocFence_ran rfl src label s
  case fenceMark src dst => exact execFenceMark_ran rfl src dst s
  case fenceAck src dst => exact execFenceAck_ran rfl src dst s
  case targetTimeout port => exact execTargetTimeout_ran rfl port s
  case rerouteStart gone spared halved sites => exact execRerouteStart_ran rfl gone spared halved sites s
  case rerouteTablesConfirmed => exact execRerouteTablesConfirmed_ran rfl s
  case routerTableRetire router => exact execRouterTableRetire_ran rfl router s
  case rerouteSlow => exact execRerouteSlow_ran rfl s
  case domainDrainEnd domain => exact execDomainDrainEnd_ran rfl domain s
  case domainOpened domain => exact execDomainOpened_ran rfl domain s
  case nocGlobalFence h => exact execNocGlobalFence_ran rfl h s
  case nocStatus h die isPort number => exact execNocStatus_ran rfl h die isPort number s
  case nocIsolate h port => exact execNocIsolate_ran rfl h port s
  case nocRelease h port => exact execNocRelease_ran rfl h port s
  case nocDomainOff h domain => exact execNocDomainOff_ran rfl h domain s
  case nocDomainOn h domain => exact execNocDomainOn_ran rfl h domain s
  case sitePortMoveConfirm site => exact execSitePortMoveConfirm_ran rfl site s
  case dlStatus h module => exact execDlStatus_ran rfl h module s
  case dlRetrain h module => exact execDlRetrain_ran rfl h module s
  case dlDown h module => exact execDlDown_ran rfl h module s
  case dlUp h module => exact execDlUp_ran rfl h module s
  case dlClearDegrade h module => exact execDlClearDegrade_ran rfl h module s
  case seamSteer h die group wire => exact execSeamSteer_ran rfl h die group wire s
  case discoverySend d m => exact execDiscoverySend_ran rfl d m s
  case discoveryRecord d m record => exact execDiscoveryRecord_ran rfl d m record s
  case discoverTimeout d m => exact execDiscoverTimeout_ran rfl d m s
  case parameterExchangeDone d m record found => exact execParameterExchangeDone_ran rfl d m record found s
  case retrainTimeout d m => exact execRetrainTimeout_ran rfl d m s
  case fregalFlitReceive d m flit => exact execFregalFlitReceive_ran rfl d m flit s
  case fregalNak d m seq => exact execFregalNak_ran rfl d m seq s
  case replayTimeout d m => exact execReplayTimeout_ran rfl d m s
  case carryReq d m k => exact execCarryReq_ran rfl d m k s
  case carryAck d m k seq offset => exact execCarryAck_ran rfl d m k seq offset s
  case carryResume d m count => exact execCarryResume_ran rfl d m count s
  case dlLaneMargin d m lane => exact execDlLaneMargin_ran rfl d m lane s
  case dlClockLoss d m => exact execDlClockLoss_ran rfl d m s
  case dlTrainTimeout d m => exact execDlTrainTimeout_ran rfl d m s
  case dlRxLockLoss d m => exact execDlRxLockLoss_ran rfl d m s
  case qeGroupAssign h group owner => exact execQeGroupAssign_ran rfl h group owner s
  case qeQueueCreate h queue base log2 dir esize vector cls irqEn pin pushSrc wbAddr delivAddr window =>
    exact execQeQueueCreate_ran rfl h queue base log2 dir esize vector cls irqEn pin pushSrc wbAddr delivAddr window s
  case qeQueueDestroy h queue => exact execQeQueueDestroy_ran rfl h queue s
  case qeQueueReset h queue => exact execQeQueueReset_ran rfl h queue s
  case qeQueueStatus h queue => exact execQeQueueStatus_ran rfl h queue s
  case qeVectorSet h vector cls thresh timer target mask => exact execQeVectorSet_ran rfl h vector cls thresh timer target mask s
  case qeStatus h => exact execQeStatus_ran rfl h s
  case qeCompletionDoorbell src q value => exact execQeCompletionDoorbell_ran rfl src q value s
  case qeSubmissionDoorbell src q value => exact execQeSubmissionDoorbell_ran rfl src q value s
  case qePush src q wide data => exact execQePush_ran rfl src q wide data s
  case qeCreditReturn src q n => exact execQeCreditReturn_ran rfl src q n s
  case qeRingWriteResponse idx ok => exact execQeRingWriteResponse_ran rfl idx ok s
  case qeContextFill q => exact execQeContextFill_ran rfl q s
  case qeContextWriteback q evict => exact execQeContextWriteback_ran rfl q evict s
  case qeContextRetry q => exact execQeContextRetry_ran rfl q s
  case qeSubmissionFetch q => exact execQeSubmissionFetch_ran rfl q s
  case qeFetchResponse idx ok => exact execQeFetchResponse_ran rfl idx ok s
  case qeHeadWriteback q => exact execQeHeadWriteback_ran rfl q s
  case qeVectorTimer vec => exact execQeVectorTimer_ran rfl vec s
  case qeVectorFire vec => exact execQeVectorFire_ran rfl vec s
  case qeSleepReq => exact execQeSleepReq_ran rfl s
  case qeSleepEntered => exact execQeSleepEntered_ran rfl s
  case qeAwake => exact execQeAwake_ran rfl s
  case eicSourceEdge n => exact execEicSourceEdge_ran rfl n s
  case eicSourceLevel sector line high => exact execEicSourceLevel_ran rfl sector line high s
  case eicNotify t => exact execEicNotify_ran rfl t s
  case eicClaim t => exact execEicClaim_ran rfl t s
  case eicComplete t src => exact execEicComplete_ran rfl t src s
  case eicSourceSet h src prio enable mode => exact execEicSourceSet_ran rfl h src prio enable mode s
  case eicTargetSet h target thresh msgAddr => exact execEicTargetSet_ran rfl h target thresh msgAddr s
  case eicStatus h => exact execEicStatus_ran rfl h s
  case lockstepMismatch => exact execLockstepMismatch_ran rfl s
  case watchdogExpiry => exact execWatchdogExpiry_ran rfl s
  case greoneRestartBegin => exact execGreoneRestartBegin_ran rfl s
  case greoneReady => exact execGreoneReady_ran rfl s
  case safelightFrame frame => exact execSafelightFrame_ran rfl frame s
  case safelightSegmentFail segment reverse => exact execSafelightSegmentFail_ran rfl segment reverse s
  case mbxDoorbell p tail => exact execMbxDoorbell_ran rfl p tail s
  case mbxRspRelease p head => exact execMbxRspRelease_ran rfl p head s
  case mbxCommandTake p => exact execMbxCommandTake_ran rfl p s
  case mbxResponseWrite p => exact execMbxResponseWrite_ran rfl p s
  case devInfo h => exact execDevInfo_ran rfl h s
  case devStatus h => exact execDevStatus_ran rfl h s
  case mbxBarrier h => exact execMbxBarrier_ran rfl h s
  case regRead h addr size => exact execRegRead_ran rfl h addr size s
  case regWrite h addr size value => exact execRegWrite_ran rfl h addr size value s
  case greoneRestart h => exact execGreoneRestart_ran rfl h s
  case expertDrop h level => exact execExpertDrop_ran rfl h level s
  case eventRead h seq => exact execEventRead_ran rfl h seq s
  case eventQueue h queue floor => exact execEventQueue_ran rfl h queue floor s
  case settingsRead h id => exact execSettingsRead_ran rfl h id s
  case settingsWrite h id value => exact execSettingsWrite_ran rfl h id value s
  case settingsCommit h reqAddr reqLen => exact execSettingsCommit_ran rfl h reqAddr reqLen s
  case testRun h test target args => exact execTestRun_ran rfl h test target args s
  case testSchedule h test quiet target time args => exact execTestSchedule_ran rfl h test quiet target time args s
  case testCancel h slot => exact execTestCancel_ran rfl h slot s
  case testStatus h slot => exact execTestStatus_ran rfl h slot s
  case testQuietPoint slot => exact execTestQuietPoint_ran rfl slot s
  case selfTestComplete test target pass offsets => exact execSelfTestComplete_ran rfl test target pass offsets s
  case v1Info h => exact execV1Info_ran rfl h s
  case v1Status h => exact execV1Status_ran rfl h s
  case v1Barrier h => exact execV1Barrier_ran rfl h s
  case cfgLoad h arg0 arg1 arg2 => exact execCfgLoad_ran rfl h arg0 arg1 arg2 s
  case cfgStatus h arg0 => exact execCfgStatus_ran rfl h arg0 s
  case memTrain h arg0 => exact execMemTrain_ran rfl h arg0 s
  case memStatus h arg0 => exact execMemStatus_ran rfl h arg0 s
  case linkUp h arg0 arg1 => exact execLinkUp_ran rfl h arg0 arg1 s
  case linkDown h arg0 arg1 => exact execLinkDown_ran rfl h arg0 arg1 s
  case regRd h arg2 => exact execRegRd_ran rfl h arg2 s
  case regWr h arg1 arg2 => exact execRegWr_ran rfl h arg1 arg2 s
  case counterClearWrite addr size8 value => exact execCounterClearWrite_ran rfl addr size8 value s
  case registerWrite addr size8 value => exact execRegisterWrite_ran rfl addr size8 value s
  case eventFrame => exact execEventFrame_ran rfl s
  case eventLogWrite => exact execEventLogWrite_ran rfl s
  case secStatus h => exact execSecStatus_ran rfl h s
  case secNonce h => exact execSecNonce_ran rfl h s
  case secIdCert h which addr len => exact execSecIdCert_ran rfl h which addr len s
  case secQuote h addr len nonce => exact execSecQuote_ran rfl h addr len nonce s
  case quoteSigned => exact execQuoteSigned_ran rfl s
  case secOwnerKeyPut h slot addr => exact execSecOwnerKeyPut_ran rfl h slot addr s
  case secOwnerProgram h addr len => exact execSecOwnerProgram_ran rfl h addr len s
  case secOwnerRevoke h addr len => exact execSecOwnerRevoke_ran rfl h addr len s
  case secFuseLock h addr len => exact execSecFuseLock_ran rfl h addr len s
  case secSvnAdvance h addr len => exact execSecSvnAdvance_ran rfl h addr len s
  case secSealKeySet h addr len => exact execSecSealKeySet_ran rfl h addr len s
  case secPolicySet h addr len => exact execSecPolicySet_ran rfl h addr len s
  case fuseProgramDone ok got => exact execFuseProgramDone_ran rfl ok got s
  case nonceExpiry p => exact execNonceExpiry_ran rfl p s
  case jtagTapInstruction instr => exact execJtagTapInstruction_ran rfl instr s
  case bootImageChoice => exact execBootImageChoice_ran rfl s
  case svcWrite frame => exact execSvcWrite_ran rfl frame s
  case svcRead frame => exact execSvcRead_ran rfl frame s
  case svcImage frame => exact execSvcImage_ran rfl frame s
  case svcPing frame => exact execSvcPing_ran rfl frame s
  case fwStatus h => exact execFwStatus_ran rfl h s
  case fwBegin h len => exact execFwBegin_ran rfl h len s
  case fwEraseDone ok => exact execFwEraseDone_ran rfl ok s
  case fwEnd h digest => exact execFwEnd_ran rfl h digest s
  case fwVerify h => exact execFwVerify_ran rfl h s
  case fwActivate h whenPermitted => exact execFwActivate_ran rfl h whenPermitted s
  case fwAbort h => exact execFwAbort_ran rfl h s
  case fwAcceptDefaults h addr len => exact execFwAcceptDefaults_ran rfl h addr len s
  case fwRevert h => exact execFwRevert_ran rfl h s
  case runLock h lease => exact execRunLock_ran rfl h lease s
  case runUnlock h force => exact execRunUnlock_ran rfl h force s
  case runLockExpiry p => exact execRunLockExpiry_ran rfl p s
  case fwArmedActivation => exact execFwArmedActivation_ran rfl s
  case fwTrialCheck pass => exact execFwTrialCheck_ran rfl pass s
  case crashClear => exact execCrashClear_ran rfl s
  case flashProgramDone ok => exact execFlashProgramDone_ran rfl ok s
  case fwReadbackDone ok => exact execFwReadbackDone_ran rfl ok s
  case powerWarn => exact execPowerWarn_ran rfl s
  case powerWarnClear => exact execPowerWarnClear_ran rfl s
  case holdupLost => exact execHoldupLost_ran rfl s
  case holdupGood => exact execHoldupGood_ran rfl s
  case thermalSample temps => exact execThermalSample_ran rfl temps s
  case railSample mv => exact execRailSample_ran rfl mv s
  case pwrStatus h => exact execPwrStatus_ran rfl h s
  case thermSet h die thresh => exact execThermSet_ran rfl h die thresh s

/-- The canonical form is kept by every command. -/
theorem exec_blockWf {c : Instr} {s t : State} (h : exec c s = .next t) (w : BlockWf s.blk = true) : BlockWf t.blk = true := by
  obtain ⟨-, -, hwf, -⟩ := (exec_ran c s).next h
  exact hwf w

/-- The canonical form is kept by the tick of an empty queue. -/
theorem idleTick_blockWf {b : Block} (w : BlockWf b = true) : BlockWf (idleTick b) = true := by
  obtain ⟨-, hwf, -⟩ := idleTick_kept rfl (Kept.refl 2164330511 b)
  exact hwf w

/-- Settles O5: a step is a command, whose law is `exec_ran`, or the tick of an empty queue. -/
theorem stepKeepsCanonicalForm : Obligations.StepKeepsCanonicalForm := by
  intro s t w h
  cases hp : s.pending with
  | nil =>
    simp only [step, hp] at h
    cases h
    exact idleTick_blockWf w
  | cons c rest =>
    simp only [step, hp] at h
    exact exec_blockWf h w

/-! ## What reset leaves -/

/-! ### The register map at an offset -/

/-- The register with index `j` of an array of one dimension stands at `j` steps from its offset. -/
theorem idx_rArr {off n step reset rw w1c j : Nat} (hj : j < n) (hs : 0 < step) (hw : step * j < 0x1000000) :
    (rArr off n step reset rw w1c).idx? (off + step * j) = some (0, j) := by
  have hlt : ¬ off + step * j < off := by omega
  have hsub : off + step * j - off = step * j := by omega
  simp [RegRow.idx?, rArr, hlt, hsub, Nat.div_eq_of_lt hw, Nat.mod_eq_of_lt hw, hs, hj]

theorem findRow_cons_some {r : RegRow} {rs : List RegRow} {o i j : Nat} (h : r.idx? o = some (i, j)) :
    findRow (r :: rs) o = some (r, i, j) := by
  simp only [findRow, h]

theorem findRow_cons_none {r : RegRow} {rs : List RegRow} {o : Nat} (h : r.idx? o = none) :
    findRow (r :: rs) o = findRow rs o := by
  simp only [findRow, h]

/-- An offset within a window of a fabric die is looked up in that window's table (R36). -/
theorem regAt_dieWin {d o x : Nat} (hd : d < 4) (ho : o < 0x20) (hx : x < 0x1000000) :
    regAt (dieWin d o + x) = findRow (dieRows o) x := by
  have hw : (dieWin d o + x) / 0x1000000 = 0x20 + 0x20 * d + o := by unfold dieWin win; omega
  have hr : (dieWin d o + x) % 0x1000000 = x := by unfold dieWin win; omega
  have hin : (decide (0x20 ≤ 0x20 + 0x20 * d + o) && decide (0x20 + 0x20 * d + o < 0xA0)) = true := by
    simp only [Bool.and_eq_true, decide_eq_true_eq]; omega
  have hm : (0x20 + 0x20 * d + o - 0x20) % 0x20 = o := by omega
  rw [regAt, hw, hr, winRows, if_pos hin, hm]

/-- At reset no register is listed: a field of a die's register reads its bits of the Reset column `v` of the register's row (R11). -/
theorem f_reset_dieWin {b d o x i j v : Nat} {fl : Fld} {r : RegRow} (ha : b + fl.off = dieWin d o + x)
    (hd : d < 4) (ho : o < 0x20) (hx : x < 0x1000000) (hr : findRow (dieRows o) x = some (r, i, j))
    (hv : r.reset i j = v) : State.reset.blk.f b fl = fldGet (BitVec.ofNat 64 v).toNat fl.lo fl.w := by
  have hreg : State.reset.blk.reg (b + fl.off) = BitVec.ofNat 64 v := by
    show regDefault (b + fl.off) = _
    simp only [regDefault, ha, regAt_dieWin hd ho hx, hr, hv]
  rw [Block.f, hreg]

/-! ### The state fields of sectors, TPPs, lanes and channels -/

/-- CFG_SECTOR_n is a register of the configuration engine's table, behind its two counters. -/
theorem findRow_cfgRows_sector {j : Nat} (hj : j < 80) :
    findRow cfgRows (0x1000 + 8 * j) = some (rArr 0x1000 80 8 0 0 0, 0, j) := by
  have hcnt {a : Nat} (ha : a < 0x1000) : (rCnt a).idx? (0x1000 + 8 * j) = none := by
    grind [RegRow.idx?, rCnt]
  rw [cfgRows, findRow_cons_none (hcnt (by decide)), findRow_cons_none (hcnt (by decide)),
    findRow_cons_some (idx_rArr hj (by decide) (by omega))]

/-- Every sector is EMPTY at reset (R190). -/
theorem secState_reset {k : Nat} (hk : k < 320) : State.reset.blk.f (Rg.sector k) Rg.secState = 0 := by
  have ha : Rg.sector k + Rg.secState.off = dieWin (k / 80) 0x00 + (0x1000 + 8 * (k % 80)) := by
    simp only [Rg.sector, Rg.secState]; omega
  have hj : k % 80 < 80 := Nat.mod_lt _ (by decide)
  exact f_reset_dieWin (v := 0) ha (by omega) (by decide) (by omega) (findRow_cfgRows_sector hj) rfl

/-- The six TPPs of a die have the die offsets 0x08 to 0x0D (R36). -/
theorem dieRows_tpp {j : Nat} (hj : j < 6) : dieRows (0x08 + j) = tppRows := by
  interval_cases j <;> rfl

/-- Every TPP is OFF at reset (R296). -/
theorem tState_reset {n : Nat} (hn : n < 24) : State.reset.blk.f (Rg.tpp n) Rg.tState = 0 := by
  have hj : n % 6 < 6 := Nat.mod_lt _ (by decide)
  exact f_reset_dieWin (r := rOne 0x0000 0 0 (fm 5 2)) (i := 0) (j := 0) rfl (by omega) (by omega) (by decide)
    (by rw [dieRows_tpp hj]; rfl) rfl

/-- The eight lane quads of a die have the die offsets 0x18 to 0x1F (R36). -/
theorem dieRows_quad {q : Nat} (hq : q < 8) : dieRows (0x18 + q) = quadRows := by
  interval_cases q <;> rfl

/-- The status register of lane `j` of a quad. -/
theorem findRow_quadRows_status {j : Nat} (hj : j < 4) :
    findRow quadRows (0x1000 * j + 0x08) = some (rArr2 0x08 4 0x1000 1 8 0x1F000000 0 (fm 9 1 + fm 12 1), j, 0) := by
  interval_cases j <;> rfl

/-- Every lane is DISABLED at reset. -/
theorem lState_reset {n : Nat} (hn : n < 128) : State.reset.blk.f (Rg.lane n) Rg.lState = 0 := by
  have hq : n % 32 / 4 < 8 := by omega
  have hj : n % 4 < 4 := Nat.mod_lt _ (by decide)
  exact f_reset_dieWin (v := 0x1F000000) (Nat.add_assoc _ _ _) (by omega) (by omega)
    (show 0x1000 * (n % 4) + 0x08 < _ by omega) (by rw [dieRows_quad hq]; exact findRow_quadRows_status hj) rfl

/-- The two DRAM channels of a die have the die offsets 0x10 and 0x11 (R36). -/
theorem dieRows_dc {j : Nat} (hj : j < 2) : dieRows (0x10 + j) = dcRows := by
  interval_cases j <;> rfl

/-- Every DRAM channel is UNTRAINED at reset (R409). -/
theorem dcState_reset {n : Nat} (hn : n < 8) : State.reset.blk.f (Rg.dc n) Rg.dcState = 0 := by
  have hj : n % 2 < 2 := Nat.mod_lt _ (by decide)
  exact f_reset_dieWin (r := rOne 0x0000 0 0 (fm 8 1 + fm 11 1)) (i := 0) (j := 0) rfl (by omega) (by omega) (by decide)
    (by rw [dieRows_dc hj]; rfl) rfl

/-! ### The obligations at reset -/

/-- Settles O6: at reset every table is empty. -/
theorem resetIsCanonical : Obligations.ResetIsCanonical := rfl

/-- Settles O7: the parts that are plain fields of the reset state are so by definition, a register that is not listed reads its default
(R11), and the state fields of the units follow from their rows of the register map. -/
theorem resetState : Obligations.ResetState :=
  ⟨rfl, rfl, rfl, fun _ => rfl, fun k => secState_reset k.isLt, rfl, fun n => tState_reset n.isLt,
    fun n => lState_reset n.isLt, fun n => dcState_reset n.isLt, rfl, rfl, rfl⟩

/-! ## Mailbox rings and register writes -/

/-- Out of RESET a live row has any effect that agrees with its own on the state's block. -/
theorem live_acts {f g : Block → Block} {s : State} (h : s.blk.start.inReset = false) (e : f s.blk = g s.blk) :
    live f s = .next (s.on g) := by
  rw [live_answers f s h, State.on, State.on, e]

/-- A tail that moves within the free slots becomes MBX_CMD_TAIL (R562). -/
theorem mbxDoorbellStep_within {p tail : Nat} {b : Block}
    (h : (tail + 128 - b.f (Rg.mbx p) Rg.cmdTail) % 128 ≤
      64 - (b.f (Rg.mbx p) Rg.cmdTail + 128 - b.f (Rg.mbx p) Rg.cmdHead) % 128) :
    mbxDoorbellStep p tail b = b.put (Rg.mbx p) Rg.cmdTail tail := by
  simp only [mbxDoorbellStep, if_pos h]

/-- A head that moves up to the responses written becomes MBX_RSP_HEAD (R562). -/
theorem mbxRspReleaseStep_within {p head : Nat} {b : Block}
    (h : (head + 128 - b.f (Rg.mbx p) Rg.rspHead) % 128 ≤
      (b.f (Rg.mbx p) Rg.rspTail + 128 - b.f (Rg.mbx p) Rg.rspHead) % 128) :
    mbxRspReleaseStep p head b = b.put (Rg.mbx p) Rg.rspHead head := by
  simp only [mbxRspReleaseStep, if_pos h]

/-- A port takes commands in its own protocol alone (R573). -/
theorem canTake_proto {b : Block} {p : Port} {v1 : Bool} (h : canTake b p v1 = true) :
    b.flag (Rg.mbx (portNum p)) Rg.mbxProto = v1 := by
  simp only [canTake, Bool.and_eq_true, beq_iff_eq] at h
  exact h.2

/-- A port that takes commands, and whose ring holds one, takes the entry at MBX_CMD_HEAD (R562, R573). -/
theorem mbxCommandTakeStep_takes {p : Port} {v1 : Bool} {b : Block} (ht : canTake b p v1 = true)
    (hne : b.f (Rg.mbx (portNum p)) Rg.cmdHead ≠ b.f (Rg.mbx (portNum p)) Rg.cmdTail) :
    mbxCommandTakeStep p b = takeEntry p v1 b := by
  simp [mbxCommandTakeStep, canTake_proto ht, ht, hne]

/-- While firmware runs and a response slot is free, the port's oldest decided response is written (R562, R568). -/
theorem mbxResponseWriteStep_writes {p : Port} {r : Rsp} {b : Block}
    (hr : b.mbx.rsp.find? (fun r => r.cmd.port == p) = some r) (hu : b.gr.up = true) (hn : b.gr.restarting = false)
    (hf : rspUsed b p < 64) : mbxResponseWriteStep p b = writeResponse p r b := by
  simp [mbxResponseWriteStep, hr, hu, hn, Nat.not_le.2 hf]

/-- A write of a register that holds a counter is a register write (R579). -/
theorem counterClearWriteStep_of_hasCounter {a v : Nat} {size8 : Bool} {b : Block} (h : hasCounter a = true) :
    counterClearWriteStep a size8 v b = writeReg a size8 v b := by
  rw [counterClearWriteStep, if_pos h]

/-- Settles O51: each row is live, and its step is the effect named under the condition named. -/
theorem mailboxRows : Obligations.MailboxRows := fun _ _ h =>
  ⟨fun _ hw => live_acts h (mbxDoorbellStep_within hw),
   fun _ hw => live_acts h (mbxRspReleaseStep_within hw),
   fun _ ht hne => live_acts h (mbxCommandTakeStep_takes ht hne),
   fun _ hr hu hn hf => live_acts h (mbxResponseWriteStep_writes hr hu hn hf),
   fun _ _ _ => ⟨live_answers _ _ h, fun hc => live_acts h (counterClearWriteStep_of_hasCounter hc)⟩⟩

end Sys2Proof.Proofs
end

section
/-! The DRAM window of the address map (01): what it maps (R29, R30), and its inverse (R28, R423). -/

namespace Sys2Proof.Proofs

open Sys2Proof.Machine

/-! ## Interleaving k channels by granules of g bytes -/

/-- The channel, among the k of a set, that holds byte b of the set (R28). -/
def wayOf (k g b : Nat) : Nat := b / g % k

/-- The offset in its channel of byte b of a set of k channels (R28). -/
def wayOffset (k g b : Nat) : Nat := b / (k * g) * g + b % g

/-- The byte of a set of k channels that lies at an offset in channel w of the set (R423). -/
def wayByte (k g w off : Nat) : Nat := off / g * (k * g) + w * g + off % g

section
variable {k g b w off C : Nat}

theorem wayOf_lt (hk : 0 < k) : wayOf k g b < k := Nat.mod_lt _ hk

/-- A granule of a channel and a place in the granule are the quotient and the remainder of an offset. -/
theorem granule_div_mod {q r : Nat} (hr : r < g) : (q * g + r) / g = q ∧ (q * g + r) % g = r :=
  (Nat.div_mod_unique (by omega)).2 ⟨by rw [Nat.mul_comm]; omega, hr⟩

theorem wayByte_wayOffset (hg : 0 < g) : wayByte k g (wayOf k g b) (wayOffset k g b) = b := by
  obtain ⟨hq, hr⟩ := granule_div_mod (q := b / (k * g)) (Nat.mod_lt b hg)
  have hrow : b / (k * g) * k + b / g % k = b / g := by
    rw [Nat.mul_comm k g, ← Nat.div_div_eq_div_mul, Nat.div_add_mod']
  calc wayByte k g (wayOf k g b) (wayOffset k g b)
      = b / (k * g) * (k * g) + b / g % k * g + b % g := by rw [wayByte, wayOffset, hq, hr, wayOf]
    _ = b / g * g + b % g := by rw [← Nat.mul_assoc, ← Nat.add_mul, hrow]
    _ = b := Nat.div_add_mod' b g

/-- A byte of a set lies in granule w of row off / g of the set. -/
theorem wayByte_div_mod (hg : 0 < g) :
    wayByte k g w off / g = off / g * k + w ∧ wayByte k g w off % g = off % g := by
  rw [wayByte, ← Nat.mul_assoc, ← Nat.add_mul]
  exact granule_div_mod (Nat.mod_lt off hg)

theorem wayOf_wayByte (hg : 0 < g) (hw : w < k) : wayOf k g (wayByte k g w off) = w := by
  rw [wayOf, (wayByte_div_mod hg).1, (granule_div_mod hw).2]

theorem wayOffset_wayByte (hg : 0 < g) (hw : w < k) : wayOffset k g (wayByte k g w off) = off := by
  obtain ⟨hq, hr⟩ := wayByte_div_mod (k := k) (w := w) (off := off) hg
  rw [wayOffset, Nat.mul_comm k g, ← Nat.div_div_eq_div_mul, hq, hr, (granule_div_mod hw).1, Nat.div_add_mod']

/-- A set whose channels give C bytes each, whole granules, maps k × C bytes from its base (R29). -/
theorem wayOffset_lt_iff (hk : 0 < k) (hg : 0 < g) (hC : g ∣ C) : wayOffset k g b < C ↔ b < k * C := by
  obtain ⟨n, rfl⟩ := hC
  have hq := (granule_div_mod (q := b / (k * g)) (Nat.mod_lt b hg)).1
  rw [wayOffset, Nat.mul_comm g n, ← Nat.div_lt_iff_lt_mul hg, hq, Nat.div_lt_iff_lt_mul (Nat.mul_pos hk hg),
    Nat.mul_left_comm]

theorem wayByte_lt (hg : 0 < g) (hw : w < k) (hC : g ∣ C) (ho : off < C) : wayByte k g w off < k * C :=
  (wayOffset_lt_iff (by omega) hg hC).1 (by rwa [wayOffset_wayByte hg hw])

end

/-! ## The granules and the capacities -/

theorem granBytes_pos (n : Nat) : 0 < granBytes n := by
  unfold granBytes
  split_ifs <;> decide

/-- Every granule divides the 256 GiB that a channel may hold (R28). -/
theorem granBytes_dvd (n : Nat) : granBytes n ∣ 0x4000000000 := by
  unfold granBytes
  split_ifs <;> decide

theorem minCap_mem {caps : List Nat} (h : caps ≠ []) : minCap caps ∈ caps := by
  cases caps with
  | nil => exact absurd rfl h
  | cons c cs => exact List.min?_mem (List.min?_cons' ..)

/-- The smallest of capacities that are whole granules is whole granules; a set without channels has none. -/
theorem dvd_minCap {caps : List Nat} {g : Nat} (h : ∀ c ∈ caps, g ∣ c) : g ∣ minCap caps := by
  cases caps with
  | nil => exact Nat.dvd_zero g
  | cons c cs => exact h _ (minCap_mem (List.cons_ne_nil c cs))

/-! ## The two directions of the map -/

section
variable {m : DMap} {a ch off : Nat}

theorem dramSplit_mode0 (h : m.mode = 0) : dramSplit m a = (wayOf 8 (granBytes m.gran) a, wayOffset 8 (granBytes m.gran) a) := by
  simp [dramSplit, h, wayOf, wayOffset]

theorem dramSplit_mode1 (h : m.mode = 1) :
    dramSplit m a = (4 * (a / 0x10000000000) + wayOf 4 (granBytes m.gran) (a % 0x10000000000),
      wayOffset 4 (granBytes m.gran) (a % 0x10000000000)) := by
  simp [dramSplit, h, wayOf, wayOffset]

theorem dramSplit_mode2 (h : m.mode = 2) : dramSplit m a = (a / 0x4000000000, a % 0x4000000000) := by
  simp [dramSplit, h]

theorem dramJoin_mode0 (h : m.mode = 0) : dramJoin m ch off = wayByte 8 (granBytes m.gran) ch off := by
  simp [dramJoin, h, wayByte]

theorem dramJoin_mode1 (h : m.mode = 1) :
    dramJoin m ch off = ch / 4 * 0x10000000000 + wayByte 4 (granBytes m.gran) (ch % 4) off := by
  simp [dramJoin, h, wayByte, Nat.add_assoc]

theorem dramJoin_mode2 (h : m.mode = 2) : dramJoin m ch off = ch * 0x4000000000 + off := by
  simp [dramJoin, h]

theorem mappedCap_mode0 (h : m.mode = 0) : mappedCap m ch = minCap m.caps := by
  simp [mappedCap, h]

theorem mappedCap_mode1 (h : m.mode = 1) : mappedCap m ch = minCap ((m.caps.drop (4 * (ch / 4))).take 4) := by
  simp [mappedCap, h]

theorem mappedCap_mode2 (h : m.mode = 2) : mappedCap m ch = min (m.caps.getD ch 0) 0x4000000000 := by
  simp [mappedCap, h]

/-- The address of the byte that an address leads to is that address, in each mode. -/
theorem dramJoin_of_dramSplit (hm : m.mode = 0 ∨ m.mode = 1 ∨ m.mode = 2) (h : dramSplit m a = (ch, off)) :
    dramJoin m ch off = a := by
  have hg := granBytes_pos m.gran
  obtain hm | hm | hm := hm
  · obtain ⟨rfl, rfl⟩ := Prod.mk.inj ((dramSplit_mode0 hm).symm.trans h)
    rw [dramJoin_mode0 hm, wayByte_wayOffset hg]
  · obtain ⟨rfl, rfl⟩ := Prod.mk.inj ((dramSplit_mode1 hm).symm.trans h)
    have hw : wayOf 4 (granBytes m.gran) (a % 0x10000000000) < 4 := wayOf_lt (by decide)
    rw [dramJoin_mode1 hm, Nat.mul_add_div (by decide), Nat.div_eq_of_lt hw, Nat.mul_add_mod, Nat.mod_eq_of_lt hw,
      wayByte_wayOffset hg, Nat.add_zero, Nat.div_add_mod']
  · obtain ⟨rfl, rfl⟩ := Prod.mk.inj ((dramSplit_mode2 hm).symm.trans h)
    rw [dramJoin_mode2 hm, Nat.div_add_mod']

/-- The address of a byte of a channel lies in the DRAM window and leads back to the byte, in each mode. -/
theorem dramJoin_lt_and_dramSplit (hm : m.mode = 0 ∨ m.mode = 1 ∨ m.mode = 2) (hc : ch < 8) (ho : off < 0x4000000000) :
    dramJoin m ch off < 0x20000000000 ∧ dramSplit m (dramJoin m ch off) = (ch, off) := by
  have hg := granBytes_pos m.gran
  have hd := granBytes_dvd m.gran
  obtain hm | hm | hm := hm
  · rw [dramSplit_mode0 hm, dramJoin_mode0 hm, wayOf_wayByte hg hc, wayOffset_wayByte hg hc]
    exact ⟨wayByte_lt hg hc hd ho, rfl⟩
  · have hw : ch % 4 < 4 := Nat.mod_lt _ (by decide)
    have hb : wayByte 4 (granBytes m.gran) (ch % 4) off < 0x10000000000 := wayByte_lt hg hw hd ho
    obtain ⟨hq, hr⟩ := granule_div_mod (q := ch / 4) hb
    rw [dramSplit_mode1 hm, dramJoin_mode1 hm, hq, hr, wayOf_wayByte hg hw, wayOffset_wayByte hg hw, Nat.div_add_mod]
    exact ⟨by omega, rfl⟩
  · obtain ⟨hq, hr⟩ := granule_div_mod (q := ch) ho
    rw [dramSplit_mode2 hm, dramJoin_mode2 hm, hq, hr]
    exact ⟨by omega, rfl⟩

end

/-! ## Where an address of the DRAM window leads -/

section
variable {s : Block} {a ch off : Nat}

/-- In the DRAM window an address leads to a byte that is mapped, or to a hole (R29, R30). -/
theorem destOf_window (ha : a < 0x20000000000) (h : dramSplit s.dmap a = (ch, off)) (hc : ch < 8) :
    destOf s a = if off < mappedCap s.dmap ch then .dram ch off else .hole := by
  simp [destOf, ha, h, hc]

/-- An address outside the DRAM window leads to no channel (R26). -/
theorem destOf_ne_dram (ha : 0x20000000000 ≤ a) : destOf s a ≠ .dram ch off := by
  dsimp only [destOf]
  rw [if_neg (Nat.not_lt.2 ha)]
  split_ifs <;> exact Dest.noConfusion

theorem dramSplit_of_destOf (h : destOf s a = .dram ch off) : dramSplit s.dmap a = (ch, off) := by
  have ha : a < 0x20000000000 := Nat.lt_of_not_le fun ha => destOf_ne_dram ha h
  simp only [destOf, if_pos ha] at h
  split at h
  · exact Prod.ext (Dest.dram.inj h).1 (Dest.dram.inj h).2
  · exact Dest.noConfusion h

/-- Mode 0: one set of eight channels, from address 0. -/
theorem destOf_mode0 (hm : s.dmap.mode = 0) (ha : a < 0x20000000000) (hd : granBytes s.dmap.gran ∣ minCap s.dmap.caps) :
    destOf s a = if a < 8 * minCap s.dmap.caps then
      .dram (wayOf 8 (granBytes s.dmap.gran) a) (wayOffset 8 (granBytes s.dmap.gran) a) else .hole := by
  rw [destOf_window ha (dramSplit_mode0 hm) (wayOf_lt (by decide)), mappedCap_mode0 hm]
  simp only [wayOffset_lt_iff (by decide : 0 < 8) (granBytes_pos _) hd]

/-- Mode 1: two sets of four channels, each from its TiB. -/
theorem destOf_mode1 (hm : s.dmap.mode = 1) (ha : a < 0x20000000000)
    (hd : granBytes s.dmap.gran ∣ minCap ((s.dmap.caps.drop (4 * (a / 0x10000000000))).take 4)) :
    destOf s a = if a % 0x10000000000 < 4 * minCap ((s.dmap.caps.drop (4 * (a / 0x10000000000))).take 4) then
      .dram (4 * (a / 0x10000000000) + wayOf 4 (granBytes s.dmap.gran) (a % 0x10000000000))
        (wayOffset 4 (granBytes s.dmap.gran) (a % 0x10000000000)) else .hole := by
  have hw : wayOf 4 (granBytes s.dmap.gran) (a % 0x10000000000) < 4 := wayOf_lt (by decide)
  rw [destOf_window ha (dramSplit_mode1 hm) (by omega), mappedCap_mode1 hm, Nat.mul_add_div (by decide),
    Nat.div_eq_of_lt hw, Nat.add_zero]
  simp only [wayOffset_lt_iff (by decide : 0 < 4) (granBytes_pos _) hd]

/-- Mode 2: each channel from its 256 GiB. -/
theorem destOf_mode2 (hm : s.dmap.mode = 2) (ha : a < 0x20000000000) :
    destOf s a = if a % 0x4000000000 < s.dmap.caps.getD (a / 0x4000000000) 0 then
      .dram (a / 0x4000000000) (a % 0x4000000000) else .hole := by
  have hr : a % 0x4000000000 < 0x4000000000 := Nat.mod_lt _ (by decide)
  rw [destOf_window ha (dramSplit_mode2 hm) (by omega), mappedCap_mode2 hm]
  simp only [lt_min_iff, hr, and_true]

/-- What a set maps, once its bytes below n lead to offsets below C of its channels and the others to a hole. -/
theorem set_maps {d : Dest} {b n C : Nat} (h : d = if b < n then .dram ch off else .hole) (ho : b < n → off < C) :
    ((∃ c o, d = .dram c o) ↔ b < n) ∧ (∀ c o, d = .dram c o → o < C) ∧ (n ≤ b → d = .hole) := by
  by_cases hb : b < n
  · rw [if_pos hb] at h
    exact ⟨⟨fun _ => hb, fun _ => ⟨ch, off, h⟩⟩, fun c o e => (Dest.dram.inj (h.symm.trans e)).2 ▸ ho hb, fun hn => by omega⟩
  · rw [if_neg hb] at h
    exact ⟨⟨fun ⟨_, _, e⟩ => Dest.noConfusion (h.symm.trans e), fun hn => absurd hn hb⟩,
      fun _ _ e => Dest.noConfusion (h.symm.trans e), fun _ => h⟩

end

/-! ## The obligations of the DRAM window -/

/-- Settles O15: `dramSplit` and `dramJoin` are inverse to each other, and inside the window `destOf` asks only whether the byte is mapped. -/
theorem dramHome : Obligations.DramHome := fun s ch off hm => by
  constructor
  · exact fun a h => (dramJoin_of_dramSplit hm (dramSplit_of_destOf h)).symm
  · intro hc hcap ho
    obtain ⟨hlt, hsplit⟩ := dramJoin_lt_and_dramSplit hm hc ho
    rw [destOf_window hlt hsplit hc, if_pos hcap]

/-- Settles O14: since the smallest capacity of a set is whole granules, an offset in a channel is below it exactly when the byte of the set
is below k times that capacity. -/
theorem dramSets : Obligations.DramSets := fun s a _ hcaps ha => by
  have hg := granBytes_pos s.dmap.gran
  have hdvd : ∀ c ∈ s.dmap.caps, granBytes s.dmap.gran ∣ c := fun c hc => Nat.dvd_of_mod_eq_zero (hcaps c hc).2
  have hall := dvd_minCap hdvd
  have hset : granBytes s.dmap.gran ∣ minCap ((s.dmap.caps.drop (4 * (a / 0x10000000000))).take 4) :=
    dvd_minCap fun c hc => hdvd c (List.mem_of_mem_drop (List.mem_of_mem_take hc))
  exact ⟨fun hm => set_maps (destOf_mode0 hm ha hall) (wayOffset_lt_iff (by decide) hg hall).2,
    fun hm => set_maps (destOf_mode1 hm ha hset) (wayOffset_lt_iff (by decide) hg hset).2,
    fun hm => destOf_mode2 hm ha⟩

end Sys2Proof.Proofs
end

section
/-! Every command (00, 02): what it keeps, when it acts, and what a mailbox command is checked for before it acts. -/

namespace Sys2Proof.Proofs

open Sys2Proof.Machine Sys2Proof.Laws

/-! ## The frame of every command -/

/-- Settles O2: `exec_ran` gives the next state and its queue. -/
theorem everyCommandAnswers : Obligations.EveryCommandAnswers := fun c s => by
  obtain ⟨t, ht, hq, -⟩ := exec_ran c s
  exact ⟨t, ht, hq⟩

/-- A Device reset's row names every part. -/
theorem mem_partsOf_porstNAssert (p : Part) (lowNs : Nat) (may : Bool) : p ∈ partsOf (.porstNAssert lowNs may) := by
  cases p <;> simp [partsOf]

/-- The mask of a row has no bit of a part that the row does not name. -/
theorem testBit_rowMask {c : Instr} {p : Part} (h : p ∉ partsOf c) : (rowMask c).testBit p.idx = false := by
  unfold rowMask
  split
  · exact absurd (mem_partsOf_porstNAssert ..) h
  · exact testBit_maskOf h

/-- Settles O4: the law `exec_ran` of the row, read at a part outside its mask. -/
theorem commandsKeepOtherParts : Obligations.CommandsKeepOtherParts := fun c s t h p hp => by
  obtain ⟨-, hsame, -⟩ := (exec_ran c s).next h
  exact hsame p (testBit_rowMask hp)

/-- No part has the number 32, which stands for entering RESET in a mask. -/
theorem testBit_maskOf_32 (l : List Part) : (maskOf l).testBit 32 = false := by
  induction l with
  | nil => exact Nat.zero_testBit _
  | cons p l ih =>
    have hp : p.idx ≠ 32 := by cases p <;> decide
    show (2 ^ p.idx ||| maskOf l).testBit 32 = false
    rw [Nat.testBit_or, ih, Bool.or_false, Nat.testBit_two_pow_of_ne hp]

/-- Settles O9: a row that enters RESET has bit 32 in its mask, and PORST_N's assertion alone has it. -/
theorem onlyPorstResets : Obligations.OnlyPorstResets := fun c s t h hs ht => by
  obtain ⟨-, -, -, hreset⟩ := (exec_ran c s).next h
  have hbit : (rowMask c).testBit 32 = true := ((hreset ht).resolve_left (by simp [hs])).one
  unfold rowMask at hbit
  split at hbit
  · exact ⟨_, _, rfl⟩
  · rw [testBit_maskOf_32] at hbit
    cases hbit

/-! ## When commands act -/

/-- The effect `f` as a row of the tables `actsOf` and `dieOf` lets it act. -/
def rowEffect (a : Acts) (die : Option Nat) (f : Block → Block) : State → Host.Outcome State Fault Refusal :=
  match a, die with
  | .always, _ => always f
  | .live, _ => live f
  | .clocked, none => clocked f
  | .clocked, some d => clockedOn d f

/-- Every row's meaning is an effect on the block that acts when `actsOf` and `dieOf` say. Once the constructor is known, `exec` and the two tables
reduce, and the effect is read off the row's meaning. -/
theorem exec_eq_rowEffect (c : Instr) : ∃ f, ∀ s, exec c s = rowEffect (actsOf c) (dieOf c) f s := by
  cases c <;> dsimp only [exec, actsOf, dieOf, rowEffect] <;> exact ⟨_, fun _ => rfl⟩

/-- In RESET no effect acts but one that acts always (R39). -/
theorem rowEffect_reset {a : Acts} {die : Option Nat} {f : Block → Block} {s : State} (ha : a ≠ .always)
    (hr : s.blk.start.inReset = true) : rowEffect a die f s = .next s := by
  have hstop : ¬ Running s.blk := fun hrun => Bool.noConfusion (hr.symm.trans hrun.1)
  unfold rowEffect
  split
  · exact absurd rfl ha
  · exact live_reset f s hr
  · exact clocked_stopped f s hstop
  · exact clocked_stopped _ s hstop

/-- Settles O8: the row acts in RESET only if it acts always. -/
theorem inReset : Obligations.InReset := fun c s hc hr => by
  obtain ⟨f, hf⟩ := exec_eq_rowEffect c
  rw [hf, rowEffect_reset hc hr]

/-! ## The checks of a mailbox command -/

/-- The row names the port and, at the JTAG mailbox, the JTAG level allows the command (R567, R605). -/
def PortOk (b : Block) (n : Need) (p : Port) : Prop :=
  n.ports.contains p = true ∧ (p = .jtag → jtagAllows b n.op = true)

/-- The port has the level that the row asks (R566). -/
def LevelOk (b : Block) (n : Need) (p : Port) : Prop := n.expert = true → portLevel b p ≠ 0

section
variable {b : Block} {c : Cmd} {n : Need} {f : Cmd → Block → Block}

theorem portGuard_iff {p : Port} :
    (!n.ports.contains p || (p == .jtag && !jtagAllows b n.op)) = true ↔ ¬ PortOk b n p := by
  unfold PortOk
  cases n.ports.contains p <;> cases jtagAllows b n.op <;> simp

theorem levelGuard_iff {p : Port} : (n.expert && portLevel b p == 0) = true ↔ ¬ LevelOk b n p := by
  simp [LevelOk]

/-- The port is the first check (R567). -/
theorem checked_port_refused (hp : ¬ PortOk b n c.port) : b.checked c n f = b.respond c St.authFail :=
  if_pos (portGuard_iff.2 hp)

/-- The level is the second (R566). -/
theorem checked_level_refused (hp : PortOk b n c.port) (hl : ¬ LevelOk b n c.port) :
    b.checked c n f = b.respond c St.expertDisabled := by
  rw [Block.checked, if_neg (mt portGuard_iff.1 (not_not.2 hp)), if_pos (levelGuard_iff.2 hl)]

/-- The stage is the last (R41): a command that it does not permit is refused, by the check or by the command's own first answer. -/
theorem checked_stage_refused (hp : PortOk b n c.port) (hl : LevelOk b n c.port)
    (hs : stageOk b n.stage = true → f c b = b.respond c St.refusedState) :
    b.checked c n f = b.respond c St.refusedState := by
  rw [Block.checked, if_neg (mt portGuard_iff.1 (not_not.2 hp)), if_neg (mt levelGuard_iff.1 (not_not.2 hl))]
  cases h : stageOk b n.stage with
  | false => rfl
  | true => exact hs h

/-- What a command taken from its port is answered before its own effect, in the order of the checks; `permitted` says that the stage permits
the command. -/
theorem taken_refusals {s : State} {permitted : Bool} {o : Host.Outcome State Fault Refusal} (hr : s.blk.start.inReset = false)
    (ho : o = live (fun b => if canTake b c.port c.v1 then b.checked c n f else b) s)
    (hs : permitted = false → stageOk s.blk n.stage = true → f c s.blk = s.blk.respond c St.refusedState) :
    (canTake s.blk c.port c.v1 = false → o = .next s) ∧
    (canTake s.blk c.port c.v1 = true →
      (¬ PortOk s.blk n c.port → o = .next (s.on fun b => b.respond c St.authFail)) ∧
      (PortOk s.blk n c.port → n.expert = true → portLevel s.blk c.port = 0 →
        o = .next (s.on fun b => b.respond c St.expertDisabled)) ∧
      (PortOk s.blk n c.port → LevelOk s.blk n c.port → permitted = false →
        o = .next (s.on fun b => b.respond c St.refusedState))) := by
  subst ho
  refine ⟨fun ht => live_acts hr (g := id) (if_neg (by simp [ht])), fun ht => ?_⟩
  have hto {g : Block → Block} (hg : s.blk.checked c n f = g s.blk) :
      live (fun b => if canTake b c.port c.v1 then b.checked c n f else b) s = .next (s.on g) :=
    live_acts hr ((if_pos ht).trans hg)
  exact ⟨fun hp => hto (checked_port_refused hp),
    fun hp he h0 => hto (checked_level_refused hp fun hl => hl he h0),
    fun hp hl hn => hto (checked_stage_refused hp hl (hs hn))⟩

end

/-- A command of protocol v2 is a command of its port, with its row's needs; an update command refuses Stage 0 itself (R628). -/
theorem exec_of_needOf {c : Instr} {h : Hdr} {n : Need} (hn : needOf c = some (h, n)) :
    ∃ f, (∀ s, exec c s = live (fun b => b.command h n f) s) ∧
      (isUpdate c = true → ∀ k b, stageOf b = 0 → f k b = b.respond k St.refusedState) := by
  cases c <;> cases hn <;> dsimp only [exec]
  case fwBegin | fwEnd | fwVerify | fwActivate | fwAbort =>
    exact ⟨_, fun _ => rfl, fun _ _ _ h0 => if_pos (beq_iff_eq.2 h0)⟩
  all_goals exact ⟨_, fun _ => rfl, nofun⟩

/-- A command of protocol v1 is one of its port, with the needs of the v2 command that it stands for (R574). -/
theorem exec_of_needOfV1 {c : Instr} {h : Hdr} {op1 : Nat} {n : Need} (hn : needOfV1 c = some (h, op1, n)) :
    ∃ f, ∀ s, exec c s = live (fun b => b.commandV1 h op1 n f) s := by
  cases c <;> cases hn <;> dsimp only [exec] <;> exact ⟨_, fun _ => rfl⟩

/-- Where the stage check passes and the stage does not permit the command, it is an update command in Stage 0. -/
theorem update_of_not_stagePermits {b : Block} {c : Instr} {n : Need} (h : stagePermits b c n = false)
    (hs : stageOk b n.stage = true) : isUpdate c = true ∧ stageOf b = 0 := by
  simpa [stagePermits, hs] using h

/-- Settles O13: out of RESET a command is taken when its port takes commands of its protocol, and then goes through `Block.checked`. -/
theorem commandChecks : Obligations.CommandChecks := by
  constructor
  · intro c h n s hn hr
    obtain ⟨f, hf, hup⟩ := exec_of_needOf hn
    exact taken_refusals (c := cmdOf h n.op) hr (hf s) fun hp hs =>
      have ⟨hu, h0⟩ := update_of_not_stagePermits hp hs
      hup hu _ _ h0
  · intro c h op1 n s hn hr
    obtain ⟨f, hf⟩ := exec_of_needOfV1 hn
    exact taken_refusals (c := cmdOfV1 h op1) hr (hf s) fun hp hs => Bool.noConfusion (hp.symm.trans hs)

end Sys2Proof.Proofs
end

section
/-! Start, reset and ring (02): PORST_N and the stages, die and site resets, and the Ring Port. -/

namespace Sys2Proof.Proofs

open Sys2Proof.Machine Sys2Proof.Laws

/-! ## PORST_N and the stages of the start -/

/-- An effect on two states agrees when it agrees on the block. -/
theorem on_congr {f g : Block → Block} {s : State} (e : f s.blk = g s.blk) : s.on f = s.on g := by
  rw [State.on, State.on, e]

/-- On running clocks a clocked row has any effect that agrees with its own on the state's block. -/
theorem clocked_acts {f g : Block → Block} {s : State} (h : Running s.blk) (e : f s.blk = g s.blk) :
    clocked f s = .next (s.on g) := by
  rw [clocked_answers f s h, on_congr e]

/-- An admitted command has any effect that agrees with its own on the state's block. -/
theorem command_acts {h : Hdr} {n : Need} {f : Cmd → Block → Block} {g : Block → Block} {s : State} (A : Admitted s.blk h n)
    (e : f (cmdOf h n.op) s.blk = g s.blk) : live (fun b => b.command h n f) s = .next (s.on g) := by
  rw [live_command s h n f A, on_congr e]

theorem when_beq (a k : Nat) (f : Block → Block) (b : Block) : when (a == k) f b = if a = k then f b else b := by
  simp only [when, beq_iff_eq]

/-- The assertion of PORST_N resets the device when the filter of R48 lets the pulse through, and has no effect else. -/
theorem exec_porstNAssert (lowNs : Nat) (may : Bool) (s : State) :
    exec (.porstNAssert lowNs may) s =
      if lowNs < 1000 ∨ (lowNs < 10000 ∧ may = false) then .next s else .next (s.on deviceReset) := by
  show always (porstNAssertStep lowNs may) s = _
  rw [always_answers, State.on, porstNAssertStep]
  simp only [Bool.or_eq_true, Bool.and_eq_true, decide_eq_true_eq, Bool.not_eq_true']
  split <;> rfl

/-- Settles O16: a pulse below 1 µs, and one below 10 µs with either operand, in `exec_porstNAssert`. -/
theorem pulseFilter : Obligations.PulseFilter := fun lowNs may s => by
  simp only [exec_porstNAssert]
  refine ⟨fun h => if_pos (.inl h), fun hlo hhi => ⟨if_neg ?_, if_pos (.inr ⟨hhi, trivial⟩)⟩⟩
  simp [Nat.not_lt.2 hlo]

/-- A plate whose header checks, asked for by the boot, begins to load. -/
theorem loadAsk_boot {q : LoadAsk} {l : Load} {a b : Block} (h : checkPlate q a = (.inr l, b)) : loadAsk q none a = loadBegin l b := by
  rw [loadAsk, h]

/-- Settles O17: each row's guard is met, and its effect is the one named. -/
theorem startEvents : Obligations.StartEvents := by
  refine ⟨fun s lowNs may h => ?_, fun s hr => ?_, fun s hrun => ⟨?_, ?_, ?_, ?_, ?_⟩⟩
  · -- PORST_N_ASSERT
    rw [exec_porstNAssert, if_neg (by omega)]
  · -- PORST_N_RELEASE
    exact congrArg Host.Outcome.next (on_congr (if_pos hr))
  · -- STAGE1_ENTER
    intro faults h0 hup hch
    exact clocked_acts hrun (if_neg (by simp [h0, hup, hch]))
  · -- STAGE2_ENTER
    intro h1 hcl hset
    exact clocked_acts hrun ((if_neg (by simp [h1, hcl, hset])).trans (when_beq ..))
  · -- STAGE3_ENTER
    intro fitted h2
    exact clocked_acts hrun (if_pos (beq_iff_eq.2 h2))
  · -- BOOT_PLATE_LOAD, with source NONE
    intro h3 htr hfw hsrc
    exact clocked_acts hrun ((if_neg (by simp [h3, htr, hfw])).trans (if_pos (by simp [hsrc])))
  · -- BOOT_PLATE_LOAD, with source FLASH
    intro l b h3 htr hfw hsrc hrel hld hchk
    have hstep : bootPlateLoadStep s.blk = loadBegin l b := by
      rw [bootPlateLoadStep, if_neg (by simp [h3, htr, hfw]), if_neg (by simp [hsrc]), if_pos (by simp [hsrc, hrel, hld]),
        loadAsk_boot hchk]
    exact clocked_acts (g := fun _ => loadBegin l b) hrun hstep

/-! ## Die and site resets -/

/-- A die that R53 lets go into reset begins to drain, and its command waits. -/
theorem dieResetCmd_drains {d : Nat} {c : Cmd} {b : Block} (hd : d < 4) (hfree : b.flag Rg.rst (Rg.dieInReset d) = false)
    (hfew : ((upto 4).filter (fun x => b.flag Rg.rst (Rg.dieInReset x))).length < 2) (hlayout : cutsDie b (fun _ _ => true) d = false)
    (hedges : cutsDie b (edgeUp b) d = false) :
    dieResetCmd d c b = dieDrainStart d ((b.putB Rg.rst (Rg.dieInReset d) true).hold c 0x0005 d) := by
  rw [dieResetCmd, if_neg (Nat.not_le.2 hd), if_neg (by simp [hfree]), if_neg (by simpa [hlayout] using hfew), if_neg (by simp [hedges])]

/-- A site that is not held in reset is reset at once. -/
theorem siteResetCmd_resets {n : Nat} {c : Cmd} {b : Block} (hn : n < 3) (hfree : b.start.siteHeld.getLsbD n = false) :
    siteResetCmd n c b = (siteResetBegin n b).respond c St.ok := by
  rw [siteResetCmd, if_neg (Nat.not_le.2 hn), if_neg (by simp [hfree])]

/-- Settles O18: each row's guard is met. The release of a site asks twice for the stage: before it, for P1 and P2, and behind it, for the
discovery of the site's modules. -/
theorem resetCommands : Obligations.ResetCommands := by
  refine fun s => ⟨?_, ?_, ?_, ?_, ?_, ?_⟩
  · -- DIE_RESET
    intro h d hA hd hfree hfew hlayout hedges
    exact command_acts (f := dieResetCmd d) hA (dieResetCmd_drains hd hfree hfew hlayout hedges)
  · -- SITE_RESET
    intro h n hA hn hfree
    exact command_acts (f := siteResetCmd n) hA (siteResetCmd_resets hn hfree)
  · -- SITE_RESET_RELEASE, from Stage 2 on
    intro n hr hheld hlo hhi
    have hup : (decide (2 ≤ stageOf s.blk) && stageOf s.blk != 7) = true := by simp [hlo, hhi]
    exact live_acts hr ((if_neg (by simp [hheld, hhi, Nat.not_lt.2 hlo])).trans (if_pos hup))
  · -- SITE_RESET_RELEASE of H0, before Stage 2 or in RECOVERY
    intro hr hheld hst
    have hdown : ¬ (decide (2 ≤ stageOf s.blk) && stageOf s.blk != 7) = true := by rcases hst with h | h <;> simp [h]
    exact live_acts hr ((if_neg (by simp [hheld])).trans (if_neg hdown))
  · -- DIE_RESET_TAKE_EFFECT
    intro d hrun hin hheld hdr hrt
    exact clocked_acts hrun (if_neg (by simp [-BitVec.getLsbD_eq_getElem, hin, hheld, hdr, hrt]))
  · -- DIE_RESET_RELEASE
    intro d faults hrun hheld
    exact clocked_acts hrun (if_neg (by simp [hheld]))

/-! ## The Ring Port -/

/-! ### What the port's state and forwarding depend on -/

section
variable {b : Block}

@[simp] theorem ringSt_emit (o : Out) : ringSt (b.emit o) = ringSt b := rfl

@[simp] theorem ringSt_modRing (f : RingSt → RingSt) : ringSt (modRing f b) = ringSt b := rfl

@[simp] theorem modRing_ring (f : RingSt → RingSt) : (modRing f b).ring = f b.ring := rfl

@[simp] theorem setRingSt_ring (v : Nat) : (setRingSt v b).ring = b.ring := rfl

@[simp] theorem ringThrough_emit (o : Out) : ringThrough (b.emit o) = ringThrough b := rfl

@[simp] theorem ringActs_emit (o : Out) : ringActs (b.emit o) = ringActs b := rfl

/-- A port that acts on start and trigger packets forwards them too. -/
theorem ringThrough_of_ringActs (h : ringActs b = true) : ringThrough b = true := by
  simp only [ringActs, Bool.and_eq_true] at h
  obtain ⟨⟨-, hth⟩, -⟩ := h
  exact hth

/-- With the bypass open and the receiver locked a packet goes on (R56). -/
theorem ringForward_of_through {p : BitVec 64} (h : ringThrough b = true) : ringForward p b = b.emit (.ringPacket p) := by
  rw [ringForward, when, if_pos h]

/-- With the bypass closed nothing is sent. -/
theorem ringForward_of_bypassed {p : BitVec 64} (h : b.flag Rg.ring Rg.ringBypassOpen = false) : ringForward p b = b := by
  rw [ringForward, when, if_neg (by simp [ringThrough, h])]

end

/-! ### The obligation of the Ring Port -/

/-- Settles O19: each row's guard is met; a packet is forwarded where the port is inserted and hears, and what follows it reads the port's state
as it was before. -/
theorem ringPort : Obligations.RingPort := by
  intro s hr
  refine ⟨live_answers _ s hr, ?_, ?_, fun hg => ?_⟩
  · -- RING_JOIN
    intro h hA h0 hg
    exact command_acts (f := ringJoinCmd) hA (if_pos (by simp [h0, hg]))
  · -- RING_LEAVE
    intro h hA h4
    exact command_acts (f := ringLeaveCmd) hA (if_pos (by simp [h4]))
  have hrun : Running s.blk := ⟨hr, hg⟩
  refine ⟨?_, ?_, ?_, ?_, ?_, ?_, ?_, ?_, ?_, ?_, ?_⟩
  · -- RING_LOCK_ACQUIRED, the first lock
    intro h1 hh
    exact clocked_acts hrun (by simp [ringLockAcquiredStep, h1, hh, when])
  · -- RING_LOCK_LOST, in WAIT_WINDOW
    intro hh h2
    exact clocked_acts hrun (by simp [ringLockLostStep, hh, h2])
  · -- RING_WINDOW
    intro delay length hh hby hlen hst
    exact clocked_acts hrun (by simp [ringWindowStep, hh, ringForward_of_bypassed hby, hlen, or_assoc, hst])
  · -- RING_WINDOW_START, in WAIT_WINDOW
    intro hw h2 hv
    exact clocked_acts hrun (by simp [ringWindowStartStep, Option.isNone_eq_false_iff.2 hw, h2, hv, when])
  · -- RING_WINDOW_START, in LEAVING
    intro hw h5
    exact clocked_acts hrun (by simp [ringWindowStartStep, Option.isNone_eq_false_iff.2 hw, h5])
  · -- RING_CENSUS, in INSERTING
    intro hop hth h3
    exact clocked_acts hrun (by simp [ringCensusStep, hth, h3, ringForward_of_through hth, when])
  · -- RING_START_PACKET
    intro g lead ha
    exact clocked_acts hrun (by simp [ringStartPacketStep, ringForward_of_through (ringThrough_of_ringActs ha), ha, forEach])
  · -- RING_TRIGGER_PACKET
    intro g trig lead ha
    refine clocked_acts hrun ?_
    rw [ringTriggerPacketStep, ringForward_of_through (ringThrough_of_ringActs ha)]
    exact if_neg (by simp [ha])
  · -- RING_ABORT_PACKET
    intro g h4 hth
    refine clocked_acts hrun ?_
    rw [ringAbortPacketStep, ringForward_of_through hth]
    exact if_pos (by simp [h4, hth])
  · -- RING_PACKET_FORWARD: a failing CRC is counted, an IDLE or reserved packet goes on as it is
    intro p hth hh
    refine ⟨fun hc => clocked_acts hrun ?_, fun hc ht => clocked_acts hrun ?_⟩
    · rw [ringPacketForwardStep, if_neg (by simp [hh, hc]), ringForward_of_through hth]
      exact if_pos (by simp [hc])
    · rw [ringPacketForwardStep, if_neg (by rw [hh, hc, ht]; decide), ringForward_of_through hth]
      exact if_neg (by simp [hc])
  · -- RING_JOIN_TIMEOUT
    intro h2 ht
    exact clocked_acts hrun (if_neg (by simp [h2, ht]))

end Sys2Proof.Proofs
end

section
/-! Clocks (03): what gated clocks hold still, and the root clock's events. -/

namespace Sys2Proof.Proofs

open Sys2Proof.Machine Sys2Proof.Laws

/-! ## Rows on clocks that stand -/

/-- A row that needs a fabric die's clocks is a clocked row, so `rowEffect` looks at the die. -/
theorem actsOf_of_dieOf {c : Instr} {d : Nat} (h : dieOf c = some d) : actsOf c = .clocked := by
  cases c <;> cases h <;> rfl

/-- With the derived clocks gated no clocked effect acts (R85). -/
theorem rowEffect_gated {die : Option Nat} {f : Block → Block} {s : State} (hg : s.blk.clk.gated = true) :
    rowEffect .clocked die f s = .next s := by
  have hstop : ¬ Running s.blk := fun hrun => Bool.noConfusion (hg.symm.trans hrun.2)
  cases die with
  | none => exact clocked_stopped f s hstop
  | some d => rw [rowEffect, clockedOn, clocked_stopped _ s hstop]

/-- Settles O10: a clocked row is `clocked` or `clockedOn`, and the clocks of either stand (log entry 9). -/
theorem gatedRows : Obligations.GatedRows := by
  refine ⟨fun c s hc hg => ?_, fun c d s hd hoff => ?_⟩
  · obtain ⟨f, hf⟩ := exec_eq_rowEffect c
    rw [hf, hc, rowEffect_gated hg]
  · obtain ⟨f, hf⟩ := exec_eq_rowEffect c
    rw [hf, actsOf_of_dieOf hd, hd]
    exact clockedOn_stopped d f s hoff

/-! ## The root clock's events -/

/-- On a die whose clocks run, a row that needs them has any effect that agrees with its own on the state's block. -/
theorem clockedOn_acts {d : Nat} {f g : Block → Block} {s : State} (h : RunsOn s.blk d) (e : f s.blk = g s.blk) :
    clockedOn d f s = .next (s.on g) := by
  rw [clockedOn_answers d f s h, on_congr e]

theorem when_of_iff {c : Bool} {p : Prop} [Decidable p] (h : c = true ↔ p) (f : Block → Block) (b : Block) :
    when c f b = if p then f b else b := by
  simp only [when, h]

/-- The ring is slewed to on its return where it is the primary reference and not in use (R85). -/
theorem ringRestored_eq (b : Block) :
    ringRestored b =
      let b := b.putB Rg.clk Rg.clkRingOk true
      if primaryRing b = true ∧ (b.flag Rg.clk Rg.clkOnRing = false ∨ b.flag Rg.clk Rg.clkHoldover = true) then startSlew true b else b :=
  when_of_iff (by simp) ..

theorem takesRefclk_of_primaryRing {b : Block} (h : primaryRing b = true) :
    takesRefclk b = true ↔
      b.flag Rg.clk Rg.clkHoldover = true ∧ (b.flag Rg.clk Rg.clkOnRing = false ∨ b.flag Rg.clk Rg.clkFallbackEn = true) := by
  simp [takesRefclk, h]

theorem takesRefclk_of_primaryRefclk {b : Block} (h : ¬ primaryRing b = true) :
    takesRefclk b = true ↔ b.flag Rg.clk Rg.clkOnRing = true ∨ b.flag Rg.clk Rg.clkHoldover = true := by
  simp [takesRefclk, h]

/-- REFCLK is slewed to on its return from what its rank as primary or other reference allows (R85). -/
theorem refclkRestored_eq (b : Block) :
    refclkRestored b =
      let b := b.putB Rg.clk Rg.clkRefclkOk true
      if primaryRing b = true then
        if b.flag Rg.clk Rg.clkHoldover = true ∧ (b.flag Rg.clk Rg.clkOnRing = false ∨ b.flag Rg.clk Rg.clkFallbackEn = true) then
          startSlew false b
        else b
      else if b.flag Rg.clk Rg.clkOnRing = true ∨ b.flag Rg.clk Rg.clkHoldover = true then startSlew false b else b := by
  by_cases h : primaryRing (b.putB Rg.clk Rg.clkRefclkOk true) = true
  · exact (when_of_iff (takesRefclk_of_primaryRing h) ..).trans (if_pos h).symm
  · exact (when_of_iff (takesRefclk_of_primaryRefclk h) ..).trans (if_neg h).symm

/-- Settles O20: each row's guard is met, and its effect is the one named. When a marker falls is log entry 25, and what REFCLK's
return ends log entry 24. -/
theorem clockEvents : Obligations.ClockEvents := by
  intro s hrun
  refine ⟨?_, ?_, ?_, ?_, ?_, ?_, ?_, ?_, ?_⟩
  · -- ALIGNMENT_MARKER
    exact clocked_answers _ s hrun
  · -- DEV_TIME_WRAP
    exact clocked_answers _ s hrun
  · -- PRIMARY_RING_LOST and REFCLK_LOST
    intro hf
    exact ⟨clocked_acts hrun (if_neg (by simp [hf])), clocked_acts hrun (if_neg (by simp [hf]))⟩
  · -- REFERENCE_RESTORED, of the ring
    intro hf hl
    exact clocked_acts hrun ((if_neg (by simp [hf, hl])).trans (ringRestored_eq s.blk))
  · -- REFERENCE_RESTORED, of REFCLK
    intro hf
    exact clocked_acts hrun ((if_neg (by simp [hf])).trans (refclkRestored_eq s.blk))
  · -- REFERENCE_SLEW_DONE
    exact clocked_answers _ s hrun
  · -- ROOT_PLL_UNLOCK, which acts on gated clocks too
    intro hl
    exact live_acts hrun.1 (if_pos hl)
  · -- FPLL_UNLOCK
    intro d p hoff hl
    exact clockedOn_acts ⟨hrun, hoff⟩ (if_pos hl)
  · -- FPLL_RELOCK
    intro d p hoff hu
    exact clockedOn_acts ⟨hrun, hoff⟩ (if_pos hu)

end Sys2Proof.Proofs
end

section
/-! Fabric logic and routing (04): the Seam's wires, and the stored bits of configuration memory. -/

namespace Sys2Proof.Proofs

open Sys2Proof.Machine Sys2Proof.Laws

/-! ## Seam wires that fail -/

section
variable {b : Block} {e g w k side : Nat}

/-- A loss of margin on a wire that no steering has taken steers it, or raises the event of log entry 44 alone (R127). -/
theorem seamMarginLossStep_below {margin : Nat} (hside : seamSender b e g = some side) (hk : seamLogical b e g w = some k)
    (hlost : b.flag (seamEnd e g 0) Rg.sgLost = false) (hfree : seamSteerOf b e g k = none)
    (hlow : margin < b.f (Rg.seam (seamDie e (1 - side))) Rg.seamMarginMin) :
    seamMarginLossStep e g w margin b =
      if b.flag (Rg.seam (seamDie e (1 - side))) Rg.seamAutoSteer then seamSteer e g k 1 none (seamSpareFails e g w b)
      else b.raise Ev.seamWireSteered (originOf (0x22 + 0x20 * seamDie e (1 - side))) (seamNo e g * 0x100 + k) 1 := by
  simp only [seamMarginLossStep, hside, hk]
  exact if_neg (by simp [hlost, hfree, hlow])

/-- A parity failure loses the group where no spare carries parity, and steers the wire where one does (R128, R129). -/
theorem seamParityFailStep_carried (hside : seamSender b e g = some side) (hk : seamLogical b e g w = some k)
    (hlost : b.flag (seamEnd e g 0) Rg.sgLost = false) :
    seamParityFailStep e g w b =
      if seamParityOn b e g = false then seamLose e g b
      else
        let b := b.bumpBy (seamEnd e g (1 - side)) seamCnt 1
        if (seamSteerOf b e g k).isSome then seamTurnAbrupt e g k b
        else seamSteer e g k 2 (some b.devTime) (seamSpareFails e g w b) := by
  simp only [seamParityFailStep, hside, hk, hlost, Bool.not_eq_true', Bool.false_eq_true, if_false]

end

/-! ## One bit of a field -/

theorem testBit_eq_fldGet (x i : Nat) : x.testBit i = decide (fldGet x i 1 = 1) := Nat.testBit_eq_decide_div_mod_eq

theorem testBit_putBit_same (x j : Nat) (v : Bool) : (putBit x j v).testBit j = v := by
  rw [testBit_eq_fldGet, putBit, fldGet_fldSet_same]
  cases v <;> rfl

theorem testBit_putBit_ne {x i j : Nat} (v : Bool) (h : i ≠ j) : (putBit x j v).testBit i = x.testBit i := by
  rw [testBit_eq_fldGet, testBit_eq_fldGet, putBit]
  obtain h | h := Nat.lt_or_gt_of_ne h
  · rw [fldGet_fldSet_below x j 1 _ i 1 h]
  · rw [fldGet_fldSet_above x j 1 _ i 1 h]

/-- A bit that is inverted differs from what it was, and the others do not. -/
theorem testBit_putBit_not (x i j : Nat) : (putBit x j (!x.testBit j)).testBit i = (x.testBit i ^^ j == i) := by
  by_cases h : i = j
  · simp [h, testBit_putBit_same]
  · simp [testBit_putBit_ne _ h, beq_false_of_ne (Ne.symm h)]

/-! ## One bit of a stored frame -/

/-- Bit x of a stored frame changes: it is among the upsets of the frame exactly when it was not. -/
def toggleBit (l : List Nat) (x : Nat) : List Nat := if l.contains x then l.filter (· != x) else l ++ [x]

/-- One bit of a CONFIG_UPSET. -/
def upsetBit (k f : Nat) (s : Block) (x : Nat) : Block :=
  flipFrameBit k f x (modCfg (fun c => { c with
    upsets := spSet (fun _ => []) c.upsets (6656 * k + f) (toggleBit (spGet (fun _ => []) c.upsets (6656 * k + f)) x) }) s)

theorem configUpsetStep_eq_foldl (k f : Nat) (bits : List Nat) (s : Block) :
    configUpsetStep k f bits s = bits.eraseDups.foldl (upsetBit k f) s := rfl

theorem contains_toggleBit (l : List Nat) (x y : Nat) : (toggleBit l x).contains y = (l.contains y ^^ x == y) := by
  unfold toggleBit
  by_cases h : y = x
  · subst h
    by_cases hx : y ∈ l <;> simp [hx]
  · by_cases hx : x ∈ l <;> simp [hx, h, beq_false_of_ne (Ne.symm h)]

section
variable (k f x : Nat) (s : Block)

@[simp] theorem modCfg_regs (u : CfgSt → CfgSt) : (modCfg u s).regs = s.regs := rfl

@[simp] theorem modCfg_cfg (u : CfgSt → CfgSt) : (modCfg u s).cfg = u s.cfg := rfl

@[simp] theorem flipFrameBit_regs : (flipFrameBit k f x s).regs = s.regs := by
  unfold flipFrameBit
  split <;> rfl

@[simp] theorem flipFrameBit_frames : (flipFrameBit k f x s).cfg.frames = s.cfg.frames := by
  unfold flipFrameBit
  split <;> rfl

@[simp] theorem flipFrameBit_upsets : (flipFrameBit k f x s).cfg.upsets = s.cfg.upsets := by
  unfold flipFrameBit
  split <;> rfl

theorem flipFrameBit_of_none (h : frameBit k f x = none) : flipFrameBit k f x s = s := by
  simp only [flipFrameBit, h]

theorem flipFrameBit_fields_of_some {key j : Nat} (h : frameBit k f x = some (key, j)) :
    (flipFrameBit k f x s).cfg.fields = spSet cfgCleared s.cfg.fields key
      (putBit (spGet cfgCleared s.cfg.fields key) j (!(spGet cfgCleared s.cfg.fields key).testBit j)) := by
  simp only [flipFrameBit, h, cfgPut, modCfg_cfg]

/-- The one bit of a field that a bit of a frame holds is inverted with it (R117). -/
theorem testBit_fields_flipFrameBit (key j : Nat) :
    (spGet cfgCleared (flipFrameBit k f x s).cfg.fields key).testBit j =
      ((spGet cfgCleared s.cfg.fields key).testBit j ^^ frameBit k f x == some (key, j)) := by
  cases hx : frameBit k f x with
  | none => simp [flipFrameBit_of_none k f x s hx]
  | some p =>
    obtain ⟨key', j'⟩ := p
    rw [flipFrameBit_fields_of_some k f x s hx, spGet_spSet]
    by_cases h : key = key'
    · subst h
      simp [testBit_putBit_not]
    · have hne : ((key', j') == (key, j)) = false := beq_false_of_ne fun e => h (Prod.mk.inj e).1.symm
      simp [h, hne]

theorem upsetBit_regs : (upsetBit k f s x).regs = s.regs := by simp [upsetBit]

theorem upsetBit_frames : (upsetBit k f s x).cfg.frames = s.cfg.frames := by simp [upsetBit]

theorem contains_upsets_upsetBit (i y : Nat) :
    (spGet (fun _ => []) (upsetBit k f s x).cfg.upsets i).contains y =
      ((spGet (fun _ => []) s.cfg.upsets i).contains y ^^ (i == 6656 * k + f && x == y)) := by
  rw [upsetBit, flipFrameBit_upsets, modCfg_cfg, spGet_spSet]
  by_cases h : i = 6656 * k + f
  · simp [-List.contains_eq_mem, h, contains_toggleBit]
  · simp [h, beq_false_of_ne h]

theorem testBit_fields_upsetBit (key j : Nat) :
    (spGet cfgCleared (upsetBit k f s x).cfg.fields key).testBit j =
      ((spGet cfgCleared s.cfg.fields key).testBit j ^^ frameBit k f x == some (key, j)) :=
  testBit_fields_flipFrameBit ..

end

/-! ## A list of bits -/

/-- What every step of a fold leaves, the fold leaves. -/
theorem foldl_keeps {α β γ : Type} {step : β → α → β} (obs : β → γ) (h : ∀ s x, obs (step s x) = obs s) (l : List α) (s : β) :
    obs (l.foldl step s) = obs s :=
  (List.foldl_hom obs fun s x => (h s x).symm).symm.trans (List.foldl_fixed l)

/-- A bit that some steps of a fold invert is inverted by the fold when their number is odd. -/
theorem foldl_inverts {α β : Type} {step : β → α → β} (obs : β → Bool) (flips : α → Bool)
    (h : ∀ s x, obs (step s x) = (obs s ^^ flips x)) (l : List α) (s : β) :
    obs (l.foldl step s) = (obs s ^^ (l.filter flips).length % 2 == 1) := by
  induction l generalizing s with
  | nil => simp
  | cons x l ih =>
    rw [List.foldl_cons, ih, h, Bool.xor_assoc, List.filter_cons]
    cases flips x
    · simp
    · obtain hn | hn := Nat.mod_two_eq_zero_or_one (l.filter flips).length <;> simp [hn, Nat.add_mod]

theorem nodup_eraseDups {α : Type} [BEq α] [LawfulBEq α] : (l : List α) → l.eraseDups.Nodup
  | [] => List.nodup_nil
  | a :: l => by
    rw [List.eraseDups_cons]
    exact List.nodup_cons.2 ⟨by simp [List.mem_eraseDups], nodup_eraseDups _⟩
termination_by l => l.length
decreasing_by exact Nat.lt_succ_of_le (List.length_filter_le ..)

/-- A value stands once among the different values of a list that holds it. -/
theorem length_filter_eraseDups {α : Type} [BEq α] [LawfulBEq α] (l : List α) (x : α) :
    (l.eraseDups.filter (· == x)).length = (l.contains x).toNat := by
  rw [← List.countP_eq_length_filter]
  change l.eraseDups.count x = _
  by_cases hx : x ∈ l
  · rw [List.count_eq_one_of_mem (nodup_eraseDups l) (List.mem_eraseDups.2 hx)]
    simp [hx]
  · rw [List.count_eq_zero_of_not_mem (mt List.mem_eraseDups.1 hx)]
    simp [hx]

section
variable (k f : Nat) (bits : List Nat) (s : Block)

/-- Each bit that the row names becomes an upset of its frame when it was none, and none when it was one. -/
theorem contains_upsets_configUpsetStep (i x : Nat) :
    (spGet (fun _ => []) (configUpsetStep k f bits s).cfg.upsets i).contains x =
      ((spGet (fun _ => []) s.cfg.upsets i).contains x ^^ (i == 6656 * k + f && bits.contains x)) := by
  rw [configUpsetStep_eq_foldl, foldl_inverts (fun b : Block => (spGet (fun _ => []) b.cfg.upsets i).contains x) _
    fun b y => contains_upsets_upsetBit k f y b i x]
  by_cases h : i = 6656 * k + f
  · simp only [h, beq_self_eq_true, Bool.true_and, length_filter_eraseDups]
    cases bits.contains x <;> rfl
  · simp [beq_false_of_ne h]

/-- A bit of a field changes when an odd number of the bits that the row names hold it (R117). -/
theorem testBit_fields_configUpsetStep (key j : Nat) :
    (spGet cfgCleared (configUpsetStep k f bits s).cfg.fields key).testBit j =
      ((spGet cfgCleared s.cfg.fields key).testBit j ^^
        (bits.eraseDups.filter fun x => frameBit k f x == some (key, j)).length % 2 == 1) :=
  foldl_inverts (fun b : Block => (spGet cfgCleared b.cfg.fields key).testBit j) _ (fun b y => testBit_fields_upsetBit k f y b key j) ..

theorem configUpsetStep_regs : (configUpsetStep k f bits s).regs = s.regs :=
  foldl_keeps Block.regs (fun b x => upsetBit_regs k f x b) ..

theorem configUpsetStep_frames : (configUpsetStep k f bits s).cfg.frames = s.cfg.frames :=
  foldl_keeps (fun b : Block => b.cfg.frames) (fun b x => upsetBit_frames k f x b) ..

end

/-! ## The obligation of the fabric -/

/-- Settles O21: a wire that carries data meets the guard of either failure's row, and an upset is a fold over different bits, each of which
inverts what it stands for. The event with AUTO_STEER 0 is log entry 44. -/
theorem fabricEvents : Obligations.FabricEvents := by
  constructor
  · intro s e g w k side hrun hside hk hlost
    constructor
    · -- SEAM_MARGIN_LOSS
      intro margin hfree hlow
      refine clocked_acts hrun ?_
      rw [ite_apply]
      exact seamMarginLossStep_below hside hk hlost hfree hlow
    · -- SEAM_PARITY_FAIL
      refine clocked_acts hrun ?_
      rw [ite_apply]
      exact seamParityFailStep_carried hside hk hlost
  · -- CONFIG_UPSET
    intro s k f bits hr
    exact ⟨_, live_answers _ s hr, rfl, configUpsetStep_regs .., configUpsetStep_frames ..,
      contains_upsets_configUpsetStep _ _ _ _, testBit_fields_configUpsetStep _ _ _ _⟩

end Sys2Proof.Proofs
end

section
/-! Die links (16): the commands on a module and the steering of a Seam wire by command. -/

namespace Sys2Proof.Proofs

open Sys2Proof.Machine Sys2Proof.Laws

/-! ## Commands on a module whose dies are not held -/

/-- A module without an end on a die in reset has the command's own effect (R556). -/
theorem onLink_reached {m : Nat} {f : Cmd → Block → Block} {c : Cmd} {b : Block}
    (hends : ∀ d ∈ linkEnds m, b.start.dieHeld.getLsbD d = false) : onLink m f c b = f c b :=
  if_neg (by simpa [-BitVec.getLsbD_eq_getElem] using hends)

/-- An admitted command on such a module has any effect that agrees with its own on the state's block. -/
theorem linkCommand_acts {h : Hdr} {n : Need} {m : Nat} {f : Cmd → Block → Block} {g : Block → Block} {s : State}
    (hends : ∀ d ∈ linkEnds m, s.blk.start.dieHeld.getLsbD d = false) (A : Admitted s.blk h n)
    (e : f (cmdOf h n.op) s.blk = g s.blk) : live (fun b => b.command h n (onLink m f)) s = .next (s.on g) :=
  command_acts A ((onLink_reached hends).trans e)

section
variable {m : Nat} {c : Cmd} {b : Block}

theorem dlStatusCmd_known (hm : m < 34) :
    dlStatusCmd m c b = b.respond c St.ok ((linkEnds m).map fun d => (8, (b.reg (Rg.dl d m)).toNat)) :=
  if_neg (Nat.not_le.2 hm)

/-- An ACTIVE or DEGRADED module retrains, and its command waits (R493). -/
theorem dlRetrainCmd_up (hm : m < 34) (hst : moduleState b m = 4 ∨ moduleState b m = 5) :
    dlRetrainCmd m c b = (enterRetrain m b).hold c 0x0801 m := by
  rw [dlRetrainCmd, if_neg (Nat.not_le.2 hm), if_neg, if_pos (by simpa using hst)]
  rcases hst with h | h <;> simp [h]

/-- One that retrains is busy (R54). -/
theorem dlRetrainCmd_retraining (hm : m < 34) (hst : moduleState b m = 6) : dlRetrainCmd m c b = b.respond c St.busy := by
  rw [dlRetrainCmd, if_neg (Nat.not_le.2 hm), if_pos (by simp [hst])]

/-- DL_DOWN looks at the last path once the module is up and no other DL_DOWN waits on it. -/
theorem dlDownCmd_up (hm : m < 34) (hst : moduleState b m = 4 ∨ moduleState b m = 5 ∨ moduleState b m = 6)
    (hheld : held b [0x0802] m = false) :
    dlDownCmd m c b = if lastPath b m then b.respond c stLastPath else (downAsked m b).hold c 0x0802 m := by
  rw [dlDownCmd, if_neg (Nat.not_le.2 hm)]
  refine (if_neg ?_).trans (if_neg (by simp [hheld]))
  rcases hst with h | h | h <;> simp [h]

/-- A module between the device's dies whose siblings are not up is its edge's last path (R464, R465). -/
theorem lastPath_of_alone (hm : m < 24) (halone : ∀ x ∈ siblings m, x ≠ m → moduleState b x ≠ 4 ∧ moduleState b x ≠ 5) :
    lastPath b m = true := by
  simp only [lastPath, hm, decide_true, Bool.true_and, List.all_eq_true]
  intro x hx
  by_cases h : x = m
  · simp [h]
  · simp [halone x hx h]

/-- A DOWN module starts discovery, and its command waits (R489). -/
theorem dlUpCmd_down (hm : m < 34) (hst : moduleState b m = 0) : dlUpCmd m c b = (discover m b).hold c 0x0803 m := by
  rw [dlUpCmd, if_neg (Nat.not_le.2 hm), if_pos (by simp [hst])]

/-- A width hold at either end ends at both (R488). -/
theorem dlClearDegradeCmd_held {d : Nat} (hm : m < 34) (hd : d ∈ linkEnds m) (hheld : b.flag (Rg.dl d m) Rg.mWidthHeld = true) :
    dlClearDegradeCmd m c b = (holdEnds m b).respond c St.ok := by
  rw [dlClearDegradeCmd, if_neg (Nat.not_le.2 hm), if_pos (List.any_eq_true.2 ⟨d, hd, hheld⟩)]

end

/-! ## The steering of a Seam wire by command -/

/-- On a die that is reached, a wire that no spare carries, in a group that is not LOST and has an idle spare, is steered from step 2, and the
command waits (R127, R506). -/
theorem onDie_seamSteerCmd_steers {d g k : Nat} {c : Cmd} {b : Block} (hd : d < 4) (hg : g < 1536) (hk : k < 32)
    (hon : dieOff b d = false) (hlost : b.flag (seamEnd (seamOfDie d g).1 (seamOfDie d g).2 0) Rg.sgLost = false)
    (hfree : seamCarried b (seamOfDie d g).1 (seamOfDie d g).2 k = false)
    (hidle : seamIdle? b (seamOfDie d g).1 (seamOfDie d g).2 ≠ none) :
    onDie d (seamSteerCmd d g k) c b =
      (seamSteer (seamOfDie d g).1 (seamOfDie d g).2 k 2 none b).hold c 0x0805 (seamObj (seamOfDie d g).1 (seamOfDie d g).2 k) := by
  rw [onDie, if_neg (by simp [hon]), seamSteerCmd, if_neg (by simp [hd, hg, hk])]
  exact (if_neg (by simp [hlost, hfree])).trans (if_neg (by simpa using hidle))

/-! ## The obligation of the die-link commands -/

/-- Settles O45: each command is admitted and reaches its module or die, and its effect is the one named under the condition named. The
response of DL_STATUS is log entry 12, and DL_DOWN's last path log entry 56. -/
theorem dieLinkCommands : Obligations.DieLinkCommands := by
  intro s h m hm hends
  refine ⟨?_, ?_, ?_, ?_, ?_, ?_, ?_, ?_⟩
  · -- DL_STATUS
    intro hA
    exact linkCommand_acts hends hA (dlStatusCmd_known hm)
  · -- DL_RETRAIN of a module that is up
    intro hA hst
    exact linkCommand_acts hends hA (dlRetrainCmd_up hm hst)
  · -- DL_RETRAIN of one that retrains
    intro hA hst
    exact linkCommand_acts hends hA (dlRetrainCmd_retraining hm hst)
  · -- DL_DOWN
    intro hA hst hheld hpath
    exact linkCommand_acts hends hA ((dlDownCmd_up hm hst hheld).trans (if_neg (by simp [hpath])))
  · -- DL_DOWN of the last path
    intro hA hst hm24 hheld halone
    exact linkCommand_acts hends hA ((dlDownCmd_up hm (.inl hst) hheld).trans (if_pos (lastPath_of_alone hm24 halone)))
  · -- DL_UP
    intro hA hst
    exact linkCommand_acts hends hA (dlUpCmd_down hm hst)
  · -- DL_CLEAR_DEGRADE
    intro d hd hA hheld
    exact linkCommand_acts hends hA (dlClearDegradeCmd_held hm hd hheld)
  · -- SEAM_STEER
    intro d g k hA hd hg hk hon hlost hfree hidle
    exact command_acts hA (onDie_seamSteerCmd_steers hd hg hk hon hlost hfree hidle)

end Sys2Proof.Proofs
end

section
/-! Tray RAM and Tank RAM (05): port cycles, QUEUE mode and the user RAM scrub. -/

namespace Sys2Proof.Proofs

open Sys2Proof.Machine Sys2Proof.Laws

/-! ## What an edge of the output stages leaves -/

section
variable (s : Block) (k i k' i' : Nat) (p ce sr : Bool)

@[simp] theorem ramSet_stageEdge : ramSet (stageEdge k i p ce sr s) k' i' = ramSet s k' i' := rfl

@[simp] theorem portsSync_stageEdge : portsSync (stageEdge k i p ce sr s) k' i' = portsSync s k' i' := rfl

end

/-! ## A cycle at the ports -/

section
variable {s : Block} {k i err : Nat} {near bFirst : Bool} {a b : RamReq}

/-- A port that runs has its cycle on its own behind the edge of its output stages (R151). -/
theorem ramPortAccessStep_onlyA (hm : (ramSet s k i).mode ≠ .queue) (ha : portRuns s k i false = true) :
    ramPortAccessStep k i (some a) none near bFirst err s = portCycle k i false a err (stageEdge k i false a.orCe a.orSr s) := by
  simp [ramPortAccessStep, arrayCycle, ha, hm]

theorem ramPortAccessStep_onlyB (hm : (ramSet s k i).mode ≠ .queue) (hb : portRuns s k i true = true) :
    ramPortAccessStep k i none (some b) near bFirst err s = portCycle k i true b err (stageEdge k i true b.orCe b.orSr s) := by
  simp [ramPortAccessStep, arrayCycle, hb, hm]

/-- Two ports that run: how their cycles meet is read off the settings, which no edge changes. -/
theorem ramPortAccessStep_both (hm : (ramSet s k i).mode ≠ .queue) (ha : portRuns s k i false = true)
    (hb : portRuns s k i true = true) :
    ramPortAccessStep k i (some a) (some b) near bFirst err s =
      let edges := stageEdge k i true b.orCe b.orSr (stageEdge k i false a.orCe a.orSr s)
      let x := ramSet s k i
      let clash := spansMeet (portSpan x i false a) (portSpan x i true b) && a.en && b.en && (portWrites x false a || portWrites x true b)
      if portsSync s k i then bothSync k i a b err edges
      else if near && clash then bothNear k i a b edges
      else if bFirst then portCycle k i false a err (portCycle k i true b err edges)
      else portCycle k i true b err (portCycle k i false a err edges) := by
  simp only [ramPortAccessStep, arrayCycle, ha, hb, if_true, ramSet_stageEdge, portsSync_stageEdge, beq_iff_eq, if_neg hm,
    Bool.and_assoc]

end

/-! ## QUEUE mode -/

section
variable {s : Block} {k t : Nat}

/-- A write of a queue whose port runs stores while FULL is low, and sets QERR while it is high (R137). -/
theorem tankQueueWriteStep_runs {din : BitVec 72} {we : BitVec 8} (hm : (ramSet s k (60 + t)).mode = .queue)
    (ha : portRuns s k (60 + t) false = true) :
    tankQueueWriteStep k t din we s =
      if (getRam s k (60 + t)).count < queueDepth (ramSet s k (60 + t)) then queuePush k (60 + t) din we s
      else setRam s k (60 + t) { getRam s k (60 + t) with qerr := true } := by
  rw [tankQueueWriteStep, if_neg (by simp [ha, hm])]
  by_cases hroom : (getRam s k (60 + t)).count < queueDepth (ramSet s k (60 + t))
  · rw [if_neg (Nat.not_le.2 hroom), if_pos hroom]
  · rw [if_pos (Nat.not_lt.1 hroom), if_neg hroom]

/-- A read of a queue whose port runs moves the stages and then the position; OREG_SR clears QERR behind them (R137). -/
theorem tankQueueReadStep_runs {ce sr : Bool} {err : Nat} (hm : (ramSet s k (60 + t)).mode = .queue)
    (hb : portRuns s k (60 + t) true = true) :
    tankQueueReadStep k t ce sr err s =
      when sr (fun x => setRam x k (60 + t) { getRam x k (60 + t) with qerr := false })
        (queuePop k (60 + t) err (stageEdge k (60 + t) true ce sr s)) := by
  rw [tankQueueReadStep, if_neg (by simp [hb, hm])]

end

/-! ## The user RAM scrub -/

/-- A corrected word that waits goes back, at the block that holds it, while the head of its cascade scrubs (R148). -/
theorem userRamScrubWritebackStep_waits {s : Block} {k i w : Nat} (hw : (getRam s k i).scrubBack = some w)
    (hs : scrubs s k (cascadeHead s k i) = true) :
    userRamScrubWritebackStep k i s =
      let r := getRam s k i
      setRam s k i { r with scrubBack := none, marks := spSet (fun _ => 0) r.marks w 0 } := by
  simp only [userRamScrubWritebackStep, hw, hs, if_true]

/-! ## The obligation of the fabric RAMs -/

/-- Settles O22: each row acts on its die's clocks, and its effect there is the one named: the array follows the edges of the ports that
run, a queue's ends are its FULL and EMPTY, and the scrub's rows ask only whether the RAM scrubs. -/
theorem fabricRamCycles : Obligations.FabricRamCycles := by
  intro s k hrun
  refine ⟨fun i a b near bFirst err hm => ⟨?_, ?_, ?_⟩, fun t hm => ⟨?_, ?_⟩, fun i which err => ⟨?_, ?_, ?_⟩⟩
  · -- RAM_PORT_ACCESS at port A
    intro ha
    exact clockedOn_acts hrun (ramPortAccessStep_onlyA hm ha)
  · -- RAM_PORT_ACCESS at port B
    intro hb
    exact clockedOn_acts hrun (ramPortAccessStep_onlyB hm hb)
  · -- RAM_PORT_ACCESS at both
    intro ha hb
    exact clockedOn_acts hrun (ramPortAccessStep_both hm ha hb)
  · -- TANK_QUEUE_WRITE
    intro din we ha
    refine clockedOn_acts hrun ?_
    rw [ite_apply]
    exact tankQueueWriteStep_runs hm ha
  · -- TANK_QUEUE_READ, with OREG_SR low and high
    intro ce err hb
    exact ⟨clockedOn_acts hrun (tankQueueReadStep_runs hm hb), clockedOn_acts hrun (tankQueueReadStep_runs hm hb)⟩
  · -- USER_RAM_SCRUB_READ
    intro hs
    exact clockedOn_acts hrun (if_pos hs)
  · -- USER_RAM_SCRUB_WRITEBACK
    intro w hw hs
    exact clockedOn_acts hrun (userRamScrubWritebackStep_waits hw hs)
  · -- SCRUB_STARVED
    intro hs honce
    exact clockedOn_acts hrun (if_pos (by simp [hs, honce]))

end Sys2Proof.Proofs
end

section
/-! MAC engines (06): the instruction at the program counter, and the lines and FIFO ports. -/

namespace Sys2Proof.Proofs

open Sys2Proof.Machine Sys2Proof.Laws

/-! ## An engine's state in the block -/

section
variable (b : Block) (e : Nat) (g g' : Engine)

@[simp] theorem getEng_setEng_same : getEng (setEng b e g) e = g := spGet_spSet_same ..

@[simp] theorem setEng_setEng : setEng (setEng b e g) e g' = setEng b e g' := by
  simp only [setEng, spSet_spSet]

@[simp] theorem getEng_engReady : getEng (engReady e b) e = engSettle (getEng b e) := getEng_setEng_same ..

@[simp] theorem setEng_engReady : setEng (engReady e b) e g = setEng b e g := setEng_setEng ..

end

/-! ## What the levels of HALT and START ask for -/

section
variable {g : Engine}

theorem haltCheck_of_not_running (hm : g.mode ≠ .running) : haltCheck g = g := if_neg (by simp [hm])

theorem startIfIdle_of_not_idle (hm : g.mode ≠ .idle) : startIfIdle g = g := if_neg (by simp [hm])

/-- An idle engine starts at address 0 where a start waits and HALT is low (R176). -/
theorem engSettle_idle (hm : g.mode = .idle) :
    engSettle g = if g.startReq = true ∧ g.halt = false then { g with mode := .running, pc := 0, startReq := false } else g := by
  have hc : haltCheck g = g := haltCheck_of_not_running (by simp [hm])
  simp [engSettle, startIfIdle, hm, hc]

/-- A running engine halts where HALT is high and no REP or waiting instruction holds the boundary off (R177). -/
theorem engSettle_running (hm : g.mode = .running) :
    engSettle g = if g.halt = true ∧ g.rep = none ∧ g.inProgress = false then { g with mode := .halted } else g := by
  have hs : engSettle g = startIfIdle (haltCheck g) := by simp [engSettle, hm]
  have hc : haltCheck g = if g.halt = true ∧ g.rep = none ∧ g.inProgress = false then { g with mode := .halted } else g := by
    simp [haltCheck, hm, and_assoc]
  rw [hs, hc]
  split
  · exact startIfIdle_of_not_idle (by simp)
  · exact startIfIdle_of_not_idle (by simp [hm])

/-- A halted engine runs again where HALT is low (R177). -/
theorem engSettle_halted (hm : g.mode = .halted) (hh : g.halt = false) : engSettle g = { g with mode := .running } := by
  rw [engSettle, if_pos (by simp [hm, hh])]
  exact startIfIdle_of_not_idle (by simp)

@[simp] theorem startIfIdle_rst : (startIfIdle g).rst = g.rst := by
  unfold startIfIdle
  split <;> rfl

@[simp] theorem haltCheck_rst : (haltCheck g).rst = g.rst := by
  unfold haltCheck
  split <;> rfl

@[simp] theorem engSettle_rst : (engSettle g).rst = g.rst := by
  unfold engSettle
  split <;> simp

end

/-- Acting on its lines neither resets an engine nor stops its clock. -/
@[simp] theorem engUp_engReady (e : Nat) (b : Block) : engUp (engReady e b) e = engUp b e := by
  have hr : engInReset (engReady e b) e = engInReset b e := by
    simp only [engInReset, getEng_engReady, engSettle_rst]
    rfl
  simp only [engUp, hr]
  rfl

/-- New levels are acted on at once where the engine's clock runs. -/
theorem engLevels_up {e : Nat} {g : Engine} {b : Block} (h : engUp b e = true) : engLevels e g b = setEng b e (engSettle g) := by
  rw [engLevels, if_pos h]

/-- Levels that ask for nothing are only noted, whether the clock runs or not. -/
theorem engLevels_of_settled {e : Nat} {g : Engine} {b : Block} (h : engSettle g = g) : engLevels e g b = setEng b e g := by
  rw [engLevels, h, ite_self]

/-! ## The instruction at the program counter -/

/-- The row that names the opcode of the legal instruction at the program counter executes it (R175, R182). -/
theorem engExec_at {op e w : Nat} {body : Nat → Block → Block} {b : Block} (h : EngineAt b e op w) :
    engExec op e body b = body w (engReady e b) := by
  obtain ⟨hup, hmode, hword, hop, hlegal⟩ := h
  have hready : (if engUp b e then setEng b e (engSettle (getEng b e)) else b) = engReady e b := if_pos hup
  rw [engExec, hready]
  simp [hup, hmode, hword, hop, hlegal]

/-- On a die whose clocks run, its row has any effect that agrees there with the instruction's own. -/
theorem engine_acts {d op e w : Nat} {body : Nat → Block → Block} {g : Block → Block} {s : State} (hrun : RunsOn s.blk d)
    (hat : EngineAt s.blk e op w) (h : body w (engReady e s.blk) = g s.blk) : clockedOn d (engExec op e body) s = .next (s.on g) :=
  clockedOn_acts hrun ((engExec_at hat).trans h)

@[simp] theorem stallsIn_nil (g : Engine) : stallsIn g [] = false := by simp [stallsIn]

/-- Without a source to fetch, an engine's state is as it was. -/
theorem getEng_fetch_nil (e x y : Nat) (b : Block) : getEng (fetch e x y [] b).2 e = getEng b e := by
  simp [fetch, setFlag]

theorem setEng_fetch_nil (e x y : Nat) (b : Block) (g : Engine) : setEng (fetch e x y [] b).2 e g = setEng b e g := by
  simp [fetch]

/-! ## The obligation of the instructions -/

/-- Settles O23: each row's opcode is that of the instruction at the program counter, which is legal, and no stall holds it: its body acts on
the block whose engine has acted on its lines. -/
theorem engineInstructions : Obligations.EngineInstructions := by
  intro s e w hrun
  refine ⟨?_, ?_, ?_, ?_, ?_, ?_, ?_, ?_, ?_, ?_, ?_, ?_, ?_⟩
  · -- NOP
    intro hat
    exact engine_acts hrun hat (by simp)
  · -- MAC
    intro hat x y hin hout
    exact engine_acts hrun hat (if_neg (by simp [hin, hout]))
  · -- NMAC
    intro hat x y hin hout
    refine engine_acts hrun hat ((if_neg (by simp [hin, hout])).trans ?_)
    simp only [beq_iff_eq]
    rfl
  · -- NORM
    intro hat
    exact engine_acts hrun hat (by simp)
  · -- AGSET
    intro hat
    exact engine_acts hrun hat (by simp)
  · -- SET without LDNW, which has no source
    intro hat hld x y
    exact engine_acts hrun hat (by simp [hld, getEng_fetch_nil, setEng_fetch_nil])
  · -- SET with LDNW
    intro hat hld x y hin
    exact engine_acts hrun hat (by simp [hld, hin])
  · -- REP
    intro hat
    exact engine_acts hrun hat (by simp)
  · -- LOOP
    intro hat
    exact engine_acts hrun hat (by simp)
  · -- JMP
    intro hat
    exact engine_acts hrun hat (by simp)
  · -- WAIT, its condition met
    intro hat hcond
    exact engine_acts hrun hat (by simp [hcond])
  · -- SIG
    intro hat
    exact engine_acts hrun hat (by simp [when])
  · -- STOP
    intro hat
    exact engine_acts hrun hat (by simp)

/-! ## The obligation of the lines and ports -/

/-- Settles O24: new levels are acted on as the engine's mode says, at once where its clock runs; a start that waits for the clock or for HALT
is log entry 33. -/
theorem enginePorts : Obligations.EnginePorts := by
  intro s e hrun
  refine ⟨?_, ?_, ?_, ?_, ?_, ?_, ?_, ?_, ?_, ?_, ?_, ?_⟩
  · -- START of an idle engine
    intro hreset hidle
    refine clockedOn_acts hrun ((if_pos (by simp [hreset, hidle])).trans ?_)
    by_cases hup : engUp s.blk e = true
    · simp [engLevels_up hup, engSettle_idle, hidle, hup]
    · simp [engLevels, hup]
  · -- HALT at a boundary
    intro hup hmode hrep hprog
    exact clockedOn_acts hrun ((engLevels_up hup).trans (by simp [engSettle_running, hmode, hrep, hprog]))
  · -- HALT inside a REP or a waiting instruction
    intro hmode hbusy
    have hhold : ¬ ((getEng s.blk e).rep = none ∧ (getEng s.blk e).inProgress = false) := by
      rintro ⟨hrep, hprog⟩
      simp [hrep, hprog] at hbusy
    exact clockedOn_acts hrun (engLevels_of_settled ((engSettle_running (by exact hmode)).trans (if_neg fun h => hhold h.2)))
  · -- HALT falls on a halted engine
    intro hup hmode
    exact clockedOn_acts hrun ((engLevels_up hup).trans (by simp [engSettle_halted, hmode]))
  · -- HALT falls where a start waits
    intro hup hmode hreq
    exact clockedOn_acts hrun ((engLevels_up hup).trans (by simp [engSettle_idle, hmode, hreq]))
  · -- a word into IB
    intro word hup hroom
    exact clockedOn_acts hrun ((if_neg (by simp [hup])).trans (if_pos hroom))
  · -- a word into IA
    intro word hup hroom
    exact clockedOn_acts hrun ((if_neg (by simp [hup])).trans (if_pos hroom))
  · -- a word out of OQ
    intro hup
    exact clockedOn_acts hrun (if_pos hup)
  · -- the end of the drain
    intro hup hmode
    exact clockedOn_acts hrun (if_pos (by simp [hup, hmode]))
  · -- RST rises
    exact clockedOn_acts hrun (by simp [engineResetStep, engResetAt, when])
  · -- RST falls
    exact clockedOn_answers _ _ s hrun
  · -- GPI levels
    intro g0 g1
    exact clockedOn_answers _ _ s hrun

end Sys2Proof.Proofs
end

section
/-! Plates (07): the plate and region commands. -/

namespace Sys2Proof.Proofs

open Sys2Proof.Machine Sys2Proof.Laws

/-! ## The plate commands past their checks -/

section
variable {q : LoadAsk} {l : Load} {c : Cmd} {a b b' : Block}

/-- A plate that passes CHECK, asked for by a command, begins to load with the command held (R208). -/
theorem loadAsk_command (h : checkPlate q a = (.inr l, b)) : loadAsk q (some c) a = loadBegin l (b.hold c q.op2 l.id) := by
  rw [loadAsk, h]

/-- PLATE_LOAD with legal options asks for its plate once DRAM training has ended (R39). -/
theorem plateLoadCmd_asks {src fr ret : Nat} (target region policy addr len : Nat) (ht : b.start.trainingEnded = true) (hsrc : src < 2)
    (hfr : fr < 2) (hret : ret < 2) :
    plateLoadCmd src fr ret target region policy addr len c b =
      loadAsk { op2 := 0x0100, flash := src == 1, addr := addr, len := some len, freeze := fr == 1, retain := ret == 1, target := target,
                region := region % 256, policy := BitVec.ofNat 32 policy, moveFrom := none, auto := false, boot := false } (some c) b :=
  (if_neg (by simp [ht])).trans (if_neg (by simp [hsrc, hfr, hret]))

theorem regionGiven_of_bounds {r : Nat} (hlo : 1 ≤ r) (hhi : r < 256) : regionGiven r = true := by
  simp [regionGiven, hlo, hhi]

section
variable {r : Nat} (hr : regionGiven r = true)
include hr

/-- PLATE_RELOCATE of an idle region asks for its retained plate at the target, whose source still has its digests (R227, R230). -/
theorem plateRelocateCmd_asks {target : Nat}
    (hq : relocAsk b r (if target = 0xFFFF then (suitableSpares b r).headD 0xFFFF else target) 0x0101 false = some q)
    (hload : b.cfg.loads.any (fun x => x.regions.contains r) = false) (hcut : inCutover b r = false) (hkept : retainedOk b r = (true, b')) :
    plateRelocateCmd r target c b = loadAsk q (some c) b' := by
  simp only [plateRelocateCmd, hr, beq_iff_eq, hq, hload, hcut, hkept]
  rfl

theorem regionFreezeCmd_freezes (hlive : regionLive b r = true) (hheld : held b [0x0102] r = false)
    (hidle : b.cfg.freezes.any (fun f => f.region == r) = false) :
    regionFreezeCmd r c b = (freezeStart r b).hold c 0x0102 r := by
  rw [regionFreezeCmd, hr, hlive, hheld, hidle]
  rfl

theorem regionResetCmd_asks (hlive : regionLive b r = true) (hheld : held b [0x0104] r = false) :
    regionResetCmd r c b = (modCfg (fun x => { x with resets := x.resets ++ [(r, false)] }) b).hold c 0x0104 r := by
  rw [regionResetCmd, hr, hlive, hheld]
  rfl

/-- A LOADED or FROZEN region that nothing loads or moves is cleared at once (R190; log entry 37). -/
theorem regionClearCmd_clears (hst : regionState b r = 2 ∨ regionState b r = 4)
    (hload : b.cfg.loads.any (fun l => l.regions.contains r) = false) (hcut : inCutover b r = false) :
    regionClearCmd r c b = (portsReset (regionAps b r) (emptySectors (regionSectors b r) b)).respond c St.ok := by
  have hcode : (regionState b r == 2 || regionState b r == 4) = true := by simpa using hst
  rw [regionClearCmd, hr, hload, hcut]
  exact (if_neg (by decide)).trans (if_neg (by simp [hcode]))

theorem plateUnretainCmd_given :
    plateUnretainCmd r c b = (setRegion r { getRegion b r with retained := none } b).respond c St.ok :=
  if_neg (by simp [hr])

/-- PLATE_STATUS of protocol v2 answers 44 bytes on the region (log entry 12). -/
theorem plateStatusCmd_v2 (hv : c.v1 = false) :
    plateStatusCmd r c b = b.respond c St.ok [(1, regionState b r), (40, (regionSectors b r).foldl (fun m k => m + 2 ^ k) 0),
      (1, (getRegion b r).retained.isSome.toNat), (2, (getRegion b r).lastLoad)] :=
  (if_neg (by simp [hr])).trans (if_neg (by simp [hv]))

end

/-- Regions that may all be released, with those loaded along in their full plates, are released together (R213; log entry 37). -/
theorem regionReleaseCmd_asks {m : BitVec 256} (hne : bitsOf 256 m.toNat ≠ []) (h0 : 0 ∉ bitsOf 256 m.toNat)
    (hall : ∀ r ∈ withFull b (bitsOf 256 m.toNat), releasable b r = true) :
    regionReleaseCmd m c b = (releaseAsk (withFull b (bitsOf 256 m.toNat)) b).hold c 0x0103 b.cfg.nextLoad := by
  have hall' : (withFull b (bitsOf 256 m.toNat)).all (releasable b) = true := List.all_eq_true.2 hall
  exact (if_neg (by simp [hne, h0])).trans (if_neg (by simp [hall']))

end

/-! ## The obligation of the plate commands -/

/-- Settles O25: each command is admitted and its guard is met, so that its effect is the one named. That a release takes the regions of
one full plate together and that REGION_CLEAR is answered at once are log entry 37, the response of PLATE_STATUS log entry 12. -/
theorem plateCommands : Obligations.PlateCommands := by
  intro s h
  refine ⟨?_, ?_, fun r hlo hhi => ?_, ?_, ?_⟩
  · -- PLATE_LOAD
    intro src fr ret target region policy addr len l b hA htr hsrc hfr hret hchk
    exact command_acts (f := plateLoadCmd src fr ret target region policy addr len) (g := fun _ => loadBegin l _) hA
      ((plateLoadCmd_asks target region policy addr len htr hsrc hfr hret).trans (loadAsk_command hchk))
  · -- PLATE_RELOCATE
    intro r target q b b' l hA hlo hhi hq hload hcut hkept hchk
    exact command_acts (f := plateRelocateCmd r target) (g := fun _ => loadBegin l _) hA
      ((plateRelocateCmd_asks (regionGiven_of_bounds hlo hhi) hq hload hcut hkept).trans (loadAsk_command hchk))
  · have hr := regionGiven_of_bounds hlo hhi
    refine ⟨?_, ?_, ?_, ?_, ?_⟩
    · -- REGION_FREEZE
      intro hA hlive hheld hidle
      exact command_acts hA (regionFreezeCmd_freezes hr hlive hheld hidle)
    · -- REGION_RESET
      intro hA hlive hheld
      exact command_acts hA (regionResetCmd_asks hr hlive hheld)
    · -- REGION_CLEAR
      intro hA hst hload hcut
      exact command_acts hA (regionClearCmd_clears hr hst hload hcut)
    · -- PLATE_UNRETAIN
      intro hA
      exact command_acts hA (plateUnretainCmd_given hr)
    · -- PLATE_STATUS
      intro hA
      exact command_acts hA (plateStatusCmd_v2 hr rfl)
  · -- REGION_RELEASE
    intro m hA hne h0 hall
    exact command_acts hA (regionReleaseCmd_asks hne h0 hall)
  · -- PLATE_SPARES
    intro m hA
    exact command_acts (f := plateSparesCmd m) hA rfl

end Sys2Proof.Proofs
end

section
/-! Plates and configuration (07): the steps of the loader, cutovers, links and the configuration scrub. -/

namespace Sys2Proof.Proofs

open Sys2Proof.Machine Sys2Proof.Laws

/-! ## The loader's steps past their guards -/

section
variable {l : Load} {d : PlateSec} {rb : List Nat} {rest : List (Nat × Nat)} {b b' : Block}

/-- A record whose CRC does not fit its bytes ends the load (R200). -/
theorem takeRecord_badCrc (back : Bool) (h : fieldAt rb 260 4 ≠ crc32 (rb.take 260)) :
    takeRecord l d rb rest back b = loadFail l ldSectionCrc (fieldAt rb 0 4) b :=
  if_pos (by simp [h])

/-- So does one that names another sector than its section (log entry 36), or whose frame may not be written (R115, R218). -/
theorem takeRecord_rejected (back : Bool) (hcrc : fieldAt rb 260 4 = crc32 (rb.take 260))
    (h : (frameNames d (fieldAt rb 0 4) && frameAllowed l (recordSector l d) (recordFrame rb) (frameData rb) b) = false) :
    takeRecord l d rb rest back b = loadFail l ldFrameReject (fieldAt rb 0 4) b :=
  (if_neg (by simp [hcrc])).trans (if_pos (by rw [← Bool.not_and, h]; rfl))

/-- Every other record is written (R200). -/
theorem takeRecord_written (back : Bool) (hcrc : fieldAt rb 260 4 = crc32 (rb.take 260)) (hname : frameNames d (fieldAt rb 0 4) = true)
    (hallow : frameAllowed l (recordSector l d) (recordFrame rb) (frameData rb) b = true) :
    takeRecord l d rb rest back b = writeRecord l d rb rest back b :=
  (if_neg (by simp [hcrc])).trans (if_neg (by simp [hname, hallow]))

section
variable {id : Nat} (hup : b.gr.restarting = false) (hl : b.cfg.loads.find? (fun x => x.id == id) = some l)
include hup hl

/-- A load in STREAM takes its next record (R200, R208). -/
theorem frameRecordWriteStep_takes {i n : Nat} {bs : List Nat} (back : Bool) (hst : l.state = 1) (hrec : l.records = (i, n) :: rest)
    (hsec : l.secs.find? (fun x => x.index == i) = some d) (hbs : sectionBytes l d = .inr bs) :
    frameRecordWriteStep id back b = takeRecord l d (frameRecord bs n) rest back b := by
  simp [frameRecordWriteStep, hup, hl, hst, hrec, hsec, hbs]

/-- STREAM ends when every record is written, every section is good and no setting conflicts (R208). -/
theorem loadStreamDoneStep_ends {dies : List DieSettings} {rs : List (Nat × List RamRec)} (routes : List LinkRoute) (hst : l.state = 1)
    (hrec : l.records = []) (hsecs : sectionsBad l = none) (hrams : loadRams l = .inr rs)
    (hset : (if l.hdr.kind = 2 then [] else dies).findSome? (settingsConflict b l) = none) :
    loadStreamDoneStep id dies routes b =
      streamEnd l (if l.hdr.kind = 2 then [] else dies) routes (streamWritten l (if l.hdr.kind = 2 then [] else dies) rs b) := by
  simp [loadStreamDoneStep, hup, hl, hst, hrec, hsecs, hrams, hset, -List.findSome?_eq_none_iff]

/-- VERIFY passes with the PLLs locked, the digests as given, and the signature and the counter in order; a retained plate is checked
by its digests alone (R208, R230, R602). -/
theorem loadVerifyDoneStep_passes {sig : Bool} (faults : List SeamFault) (hst : l.state = 2) (hpll : pllsLocked b l.plls = true)
    (hsig : plateSigned l b = (some sig, b')) (hdig : digestsOk l = true) (hok : sig = true ∨ l.moveFrom.isSome = true)
    (hsvn : counterReading b' 1 ≤ l.hdr.svn ∨ l.moveFrom.isSome = true) :
    loadVerifyDoneStep id faults b = loadPassed l (sha256 l.signed) faults b' := by
  have hsigned : (sig || l.moveFrom.isSome) = true := by simpa using hok
  have hcount : (!l.moveFrom.isSome && decide (l.hdr.svn < counterReading b' 1)) = false := by
    rcases hsvn with h | h
    · simp [Nat.not_lt.2 h]
    · simp [h]
  simp only [loadVerifyDoneStep, hup, hl, hst, hpll, hsig, hdig, hsigned, hcount]
  rfl

end
end

/-! ## Cutovers, links, the scrub and what follows errors -/

section
variable {b b' : Block}

/-- The cutover's start writes the new routes and freezes the region (R226; log entry 38). -/
theorem relocateCutoverStep_starts {r : Nat} {y : Cutover} (hup : b.gr.restarting = false)
    (hy : b.cfg.cutovers.find? (fun x => x.region == r && x.step == 0) = some y) :
    relocateCutoverStep r b = freezeStart r (modCfg (fun c => { c with
        cutovers := c.cutovers.map (fun x => if x.region == r && x.step == 0 then { x with step := 1 } else x) })
      (y.links.foldl (fun b l => writeTaps l.1 l.2 b) b)) := by
  simp only [relocateCutoverStep, hup, hy]
  rfl

/-- While firmware runs LINK_REROUTE is the model's step (R223). -/
theorem exec_linkReroute {i : Nat} {route : Option (List Hop)} {s : State} (hrun : Running s.blk) (hup : s.blk.gr.restarting = false) :
    exec (.linkReroute i route) s = .next (s.on (linkRerouteStep i route)) :=
  clocked_acts (f := fun b => if b.gr.restarting then b else linkRerouteStep i route b) hrun (if_neg (by simp [hup]))

section
variable {i : Nat} {x : Link} (hx : getLink b i = some x) (hlost : x.hops.any (hopLost b) = true)
include hx hlost

/-- A link over a LOST group moves to a route that fits it (R223; log entry 39). -/
theorem linkRerouteStep_moves {r : List Hop} (hr : routeOk b i x (timedHops x.latency r) = true) :
    linkRerouteStep i (some r) b =
      (setLink i { x with hops := timedHops x.latency r, writing := false } b).raise Ev.linkRerouted (originOf 0x01) i := by
  simp only [linkRerouteStep, hx, hlost, hr]
  rfl

/-- Without a route it stays DOWN (R223). -/
theorem linkRerouteStep_waits :
    linkRerouteStep i none b = modCfg (fun c => { c with links := spSet (fun _ => none) c.links i (some { x with writing := true }) }) b := by
  simp only [linkRerouteStep, hx, hlost]
  rfl

end

/-- The place of the frame that the scrub of die d reads next: its sector, its number there, and its key. -/
def scrubSector (b : Block) (d : Nat) : Nat := 80 * d + spGet (fun _ => 0) b.cfg.scrubPos d / 6656
def scrubFrame (b : Block) (d : Nat) : Nat := spGet (fun _ => 0) b.cfg.scrubPos d % 6656
def scrubKey (b : Block) (d : Nat) : Nat := 6656 * scrubSector b d + scrubFrame b d

/-- The scrub of die d moves on by one frame, and behind the last one to the first (R228). -/
def scrubAdvance (b : Block) (d : Nat) : Block → Block := modCfg fun c => { c with
  scrubPos := spSet (fun _ => 0) c.scrubPos d
    (if 532480 ≤ spGet (fun _ => 0) b.cfg.scrubPos d + 1 then 0 else spGet (fun _ => 0) b.cfg.scrubPos d + 1) }

/-- Outside a sector in LOADING the scrub reads its next frame, and acts on the number of changed bits there (R228). -/
theorem configScrubFrameStep_reads {d : Nat} (h : secState b (scrubSector b d) ≠ 1) :
    configScrubFrameStep d b =
      match spGet (fun _ => []) b.cfg.upsets (scrubKey b d) with
      | [] => modCfg (fun c => { c with fixes := spSet (fun _ => (0, 0)) c.fixes (scrubKey b d) (0, 0) }) (scrubAdvance b d b)
      | [x] => if x < 2061 then scrubSbe (scrubSector b d) (scrubKey b d) x (scrubAdvance b d b)
          else scrubMbe (scrubSector b d) (scrubFrame b d) (scrubAdvance b d b)
      | _ => scrubMbe (scrubSector b d) (scrubFrame b d) (scrubAdvance b d b) :=
  if_neg (mt beq_iff_eq.1 h)

/-- A frozen sector that waits for its reload is written again from its retained plate (R229, R230). -/
theorem mbeReloadStep_reloads {k : Nat} (hup : b.gr.restarting = false) (hwait : k ∈ b.cfg.mbeWait) (hst : secState b k = 4)
    (hkept : retainedOk (modCfg (fun c => { c with mbeWait := c.mbeWait.filter (· != k) }) b) (secRegion b k) = (true, b')) :
    mbeReloadStep k b =
      let r := secRegion b k
      let x := (rewriteFrames k b').putB (Rg.sector k) Rg.secHardFault false
      if x.cfg.mbeWait.any (fun j => secRegion x j == r) then x else releaseAsk [r] x := by
  refine (if_neg (by simp [hup])).trans ((if_neg (by simp [hwait, hst])).trans ?_)
  simp only [hkept]
  rfl

/-- A region whose policy asks for it leaves its HARD_FAULT sector for a suitable spare (R227, R231). -/
theorem autoRelocateStep_begins {r spare old : Nat} {q : LoadAsk} {l : Load} {b'' : Block} (hup : b.gr.restarting = false)
    (hq : relocAsk b r spare 0 true = some q) (hold : q.moveFrom = some old) (hpol : (getRegion b r).policy.getLsbD 2 = true)
    (hfault : b.flag (Rg.sector old) Rg.secHardFault = true) (hst : secState b old = 3 ∨ secState b old = 4)
    (hload : b.cfg.loads.any (fun x => x.regions.contains r) = false) (hcut : inCutover b r = false)
    (hspare : spare ∈ suitableSpares b r) (hkept : retainedOk b r = (true, b')) (hchk : checkPlate q b' = (.inr l, b'')) :
    autoRelocateStep r spare b = loadBegin l b'' := by
  have hcode : (secState b old == 3 || secState b old == 4) = true := by simpa using hst
  have hsome : (suitableSpares b r).isEmpty = false := by simpa using List.ne_nil_of_mem hspare
  simp only [autoRelocateStep, hup, hq, hold, Option.getD_some, hpol, hfault, hcode, hload, hcut, hsome,
    List.contains_iff_mem.2 hspare, hkept, loadAsk_boot hchk]
  rfl

end

/-! ## The obligation of the plates' events -/

/-- Settles O26: each step's guard is met while firmware runs. A record that names another sector is log entry 36, the cutover's writes are
log entry 38, and the route that LINK_REROUTE takes is log entry 39. -/
theorem plateEvents : Obligations.PlateEvents := by
  intro s hrun hup
  refine ⟨?_, ?_, ?_, ?_, ?_, ?_, ?_, ?_, ?_⟩
  · -- FRAME_RECORD_WRITE
    intro id i n l rest d bs hl hst hrec hsec hbs
    have htake (back : Bool) := frameRecordWriteStep_takes hup hl back hst hrec hsec hbs
    refine ⟨fun back hcrc => ?_, fun back hcrc hrej => ?_, fun hcrc hname hallow => ⟨?_, ?_⟩⟩
    · exact clocked_acts hrun ((htake back).trans (takeRecord_badCrc back hcrc))
    · exact clocked_acts hrun ((htake back).trans (takeRecord_rejected back hcrc hrej))
    · exact clocked_acts hrun ((htake true).trans (takeRecord_written true hcrc hname hallow))
    · exact clocked_acts hrun ((htake false).trans (takeRecord_written false hcrc hname hallow))
  · -- LOAD_STREAM_DONE
    intro id l dies routes rs hl hst hrec hsecs hrams hset
    exact clocked_acts hrun (loadStreamDoneStep_ends hup hl routes hst hrec hsecs hrams hset)
  · -- LOAD_VERIFY_DONE
    intro id l faults sig b hl hst hpll hsig hdig hok hsvn
    exact clocked_acts (g := fun _ => loadPassed l (sha256 l.signed) faults b) hrun
      (loadVerifyDoneStep_passes hup hl faults hst hpll hsig hdig hok hsvn)
  · -- FREEZE_DRAIN_END
    exact fun r => clocked_answers (freezeDrainEndStep r) s hrun
  · -- RELOCATE_CUTOVER
    intro r y hy
    exact clocked_acts hrun (relocateCutoverStep_starts hup hy)
  · -- LINK_REROUTE
    intro i x hx hlost
    refine ⟨fun r hr => ?_, ?_⟩
    · exact (exec_linkReroute hrun hup).trans (congrArg _ (on_congr (linkRerouteStep_moves hx hlost hr)))
    · exact (exec_linkReroute hrun hup).trans (congrArg _ (on_congr (linkRerouteStep_waits hx hlost)))
  · -- CONFIG_SCRUB_FRAME, with no bit changed, with one and with more
    intro d hon pos i on hst
    have hread := configScrubFrameStep_reads hst
    refine ⟨fun (hnone : spGet _ s.blk.cfg.upsets (scrubKey s.blk d) = []) => ?_,
      fun x (hone : spGet _ s.blk.cfg.upsets (scrubKey s.blk d) = [x]) => ?_,
      fun x y l (hmore : spGet _ s.blk.cfg.upsets (scrubKey s.blk d) = x :: y :: l) => ?_⟩
    · exact clockedOn_acts ⟨hrun, hon⟩ (hread.trans (by rw [hnone]; rfl))
    · exact clockedOn_acts ⟨hrun, hon⟩ (hread.trans (by rw [hone]; rfl))
    · exact clockedOn_acts ⟨hrun, hon⟩ (hread.trans (by rw [hmore]; rfl))
  · -- MBE_RELOAD
    intro k b hwait hst hkept
    exact clocked_acts (g := fun _ => _) hrun (mbeReloadStep_reloads hup hwait hst hkept)
  · -- AUTO_RELOCATE
    intro r spare q old b b' l hq hold hpol hfault hst hload hcut hspare hkept hchk
    exact clocked_acts (g := fun _ => loadBegin l b') hrun
      (autoRelocateStep_begins hup hq hold hpol hfault hst hload hcut hspare hkept hchk)

end Sys2Proof.Proofs
end

section
/-! Shutter capture and contact sheets (08): the commands on a session, its trigger, capture and readout. -/

namespace Sys2Proof.Proofs

open Sys2Proof.Machine Sys2Proof.Laws

section
variable {c : Cmd} {b b' : Block}

/-! ## Commands on a session -/

/-- An IDLE device arms the session of a descriptor that is read and valid, and the command waits (R239). -/
theorem shutterCmd_arms {addr : Nat} {bs : List Nat} {x : ShutSt} (hidle : b.shut.state = 0)
    (hread : readMem srcGreone addr 128 b = (some bs, b')) (hparse : shutParse b' bs c = .inr x) :
    shutterCmd addr c b = (setShut x b').hold c 0x0200 0 := by
  simp only [shutterCmd, hidle, hread, hparse]
  rfl

/-- A HELD session that nobody has yet asked to resume is to restart at the next marker (R242). -/
theorem shutterResumeCmd_waits (hheld : b.shut.state = 4) (hnone : b.shut.resume = none) :
    shutterResumeCmd c b = (setShut { b.shut with resume := some c } b).hold c 0x0201 0 :=
  (if_neg (by simp [hheld])).trans (if_neg (by simp [hnone]))

/-- An ARMED or READING session ends at a cancel, its own command with CANCELLED (R239, R240). -/
theorem shutterCancelCmd_ends (hst : b.shut.state = 1 ∨ b.shut.state = 3) :
    shutterCancelCmd c b = (shutEnd (shutAnswer St.cancelled b)).respond c St.ok :=
  if_pos (by simpa using hst)

/-! ## Trigger and capture -/

/-- The line that a session is armed on sets its T 16 ns ahead (R234). -/
theorem shutterTriggerLineStep_sets {l : Nat} (hst : b.shut.state = 1) (hkind : b.shut.kind = 2) (hline : b.shut.line = l)
    (hnone : b.shut.time = none) :
    shutterTriggerLineStep l b = setShut { b.shut with time := some (b.devTime + 16) } b :=
  if_pos (by simp [hst, hkind, hline, hnone])

/-- A session with a T, ARMED or CAPTURING, takes the edges up to 192 ns past it (R233; log entries 8 and 40). -/
theorem shutterCaptureStep_passes {t : BitVec 64} (ht : b.shut.time = some t) (hst : b.shut.state = 1 ∨ b.shut.state = 2) :
    shutterCaptureStep b = fabricCatchUp (reachTime (t + 192) b) := by
  rw [shutterCaptureStep, ht]
  exact if_pos (by simpa using hst)

/-- The masked networks still without a capture edge 1 ms after T are marked, and the session reads without them (R236). -/
def noEdgeMarked (b : Block) : Block :=
  if b.shut.state = 2 then shutReading (setShut { b.shut with noEdge := b.shut.domain &&& ~~~b.shut.captured } b) else b

/-- A CAPTURING session takes the edges up to 1 ms past T before its networks are marked; those may end its capture (R236). -/
theorem shutterNoEdgeTimeoutStep_marks (hst : b.shut.state = 2) :
    shutterNoEdgeTimeoutStep b = noEdgeMarked (fabricCatchUp (reachTime (b.shut.time.getD 0 + 1000000) b)) := by
  rw [shutterNoEdgeTimeoutStep, if_neg (by simp [hst])]
  simp only [noEdgeMarked, bne_iff_ne, ne_eq, ite_not]

/-! ## Readout -/

/-- While records are left, a READING session writes the next: the clusters' first, and behind them the memories' (R245). -/
theorem contactRecordWriteStep_writes (hst : b.shut.state = 3) (hleft : b.shut.next < shutTotal b.shut) :
    contactRecordWriteStep b =
      if b.shut.next < shutClusters b.shut then clusterRecord b.shut.next b
      else memoryRecord (b.shut.next - shutClusters b.shut) b :=
  if_neg (by simp [hst, hleft])

/-- Behind the last record comes the trailer (R246). -/
theorem shutterReadoutDoneStep_trails (hst : b.shut.state = 3) (hdone : shutTotal b.shut ≤ b.shut.next) :
    shutterReadoutDoneStep b = shutTrailer b :=
  if_neg (by simp [hst, hdone])

end

/-! ## The obligation of the Shutter -/

/-- Settles O27: each command is admitted and each event falls on running clocks, and the session's state meets its guard. That
SHUTTER_CAPTURE and the time-out bring DEV_TIME to their instant is log entry 8, the 192 ns log entry 40, and the response of
SHUTTER_STATUS log entry 12. -/
theorem shutterCommands : Obligations.ShutterCommands := by
  refine ⟨fun s h => ⟨?_, ?_, ?_, ?_⟩, fun s hrun => ⟨?_, ?_, ?_, ?_, ?_⟩⟩
  · -- SHUTTER
    intro addr bs b x hA hidle hread hparse
    exact command_acts (g := fun _ => (setShut x b).hold _ _ _) hA (shutterCmd_arms hidle hread hparse)
  · -- SHUTTER_RESUME
    intro hA hheld hnone
    exact command_acts hA (shutterResumeCmd_waits hheld hnone)
  · -- SHUTTER_CANCEL
    intro hA hst
    exact command_acts hA (shutterCancelCmd_ends hst)
  · -- SHUTTER_STATUS, which answers in every state
    intro hA
    exact live_command s h (needShutter 0x0203) shutterStatusCmd hA
  · -- SHUTTER_TRIGGER_LINE
    intro l hst hkind hline hnone
    exact clocked_acts hrun (shutterTriggerLineStep_sets hst hkind hline hnone)
  · -- SHUTTER_CAPTURE
    intro t ht hst
    exact clocked_acts hrun (shutterCaptureStep_passes ht hst)
  · -- SHUTTER_NO_EDGE_TIMEOUT
    intro hst
    exact clocked_acts hrun (shutterNoEdgeTimeoutStep_marks hst)
  · -- CONTACT_RECORD_WRITE, of a cluster and of a memory
    intro hst hleft
    have hnext := contactRecordWriteStep_writes hst hleft
    exact ⟨fun hc => clocked_acts hrun (hnext.trans (if_pos hc)),
      fun hm => clocked_acts hrun (hnext.trans (if_neg (Nat.not_lt.2 hm)))⟩
  · -- SHUTTER_READOUT_DONE
    intro hst hdone
    exact clocked_acts hrun (shutterReadoutDoneStep_trails hst hdone)

end Sys2Proof.Proofs
end

section
/-! I/O banks (09): the supplies of a bank, its calibration, writes of IO_PIN, and the ports of a running design's pins. -/

namespace Sys2Proof.Proofs

open Sys2Proof.Machine Sys2Proof.Laws

section
variable {d b mv n : Nat} {x : Block}

/-! ## Supplies and calibration -/

/-- A bank that has a class and no fault enters VCCO_FAULT at a voltage outside 8% of the class (R255). -/
theorem vccoFaultEnterStep_outside (hclass : classMv x d b ≠ 0) (hfree : 8 * d + b ∉ x.io.faulted)
    (hout : within 8 (classMv x d b) mv = false) :
    vccoFaultEnterStep d b mv x = bankFault d b (vccoNow d b mv x) :=
  if_neg (by simp [hclass, hfree, hout])

/-- A bank in VCCO_FAULT that has a class leaves it at a voltage within 5% of the class (R255). -/
theorem vccoFaultExitStep_inside (hclass : classMv x d b ≠ 0) (hfault : 8 * d + b ∈ x.io.faulted)
    (hin : within 5 (classMv x d b) mv = true) :
    vccoFaultExitStep d b mv x = bankClears d b (vccoNow d b mv x) :=
  if_pos (by simp [hclass, hfault, hin])

/-- Outside Stage 0 and RECOVERY a die's banks calibrate (R266). -/
theorem ioCalibrationStep_started {ok : Bool} (h0 : stageOf x ≠ 0) (h7 : stageOf x ≠ 7) :
    ioCalibrationStep d ok x = ioCalibrated d ok x :=
  if_neg (by simp [h0, h7])

/-! ## Writes of IO_PIN -/

/-- A write of 8 bytes or of the low 4 reaches SAFE, whose code waits for the next marker (R261). -/
theorem ioPinWriteStep_low {size8 high : Bool} {v : Nat} (hpin : pinExists n = true) (hlow : size8 = true ∨ high = false) :
    ioPinWriteStep d n size8 high v x = safeWritten d n (x.plainWrite (Rg.ioPin d n) size8 v) := by
  rcases hlow with rfl | rfl <;> simp [ioPinWriteStep, hpin, when]

/-- A write of the high 4 bytes leaves SAFE as it is. -/
theorem ioPinWriteStep_high {v : Nat} (hpin : pinExists n = true) :
    ioPinWriteStep d n false true v x = x.plainWrite (Rg.ioPin d n + 4) false v := by
  simp [ioPinWriteStep, hpin, when]

/-! ## Delay lines and termination -/

/-- Where the plate enables DLY_CE and DLY_INC on an HP pin of a running design, a step moves the target by one tap, and not beyond tap 0
or tap 255 (R269). -/
theorem delayFabricStepStep_enabled {output inc : Bool} (hhp : n < 288) (hfab : pinFabric x d n = true)
    (hen : (pinLogic x d n).dlyEn = true) :
    delayFabricStepStep d n output inc x =
      let fl := if output then Rg.pinOdelay else Rg.pinIdelay
      let tap := x.f (Rg.ioPin d n) fl
      if inc then (if tap < 255 then x.put (Rg.ioPin d n) fl (tap + 1) else x) else x.put (Rg.ioPin d n) fl (tap - 1) :=
  if_pos (by simp [hhp, hfab, hen])

/-- Both delay lines of a fabric-assigned HP pin move one tap toward their targets (R268, R269). -/
theorem delayLineTapMoveStep_assigned (hhp : n < 288) (howner : x.f (Rg.ioPin d n) Rg.pinOwner = 1) :
    delayLineTapMoveStep d n x =
      (x.put (Rg.ioPin d n) Rg.pinIdelayNow (towards (x.f (Rg.ioPin d n) Rg.pinIdelayNow) (x.f (Rg.ioPin d n) Rg.pinIdelay))).put
        (Rg.ioPin d n) Rg.pinOdelayNow (towards (x.f (Rg.ioPin d n) Rg.pinOdelayNow) (x.f (Rg.ioPin d n) Rg.pinOdelay)) :=
  if_pos (by simp [hhp, howner])

/-- Where the plate enables TERM_EN on a pin of a running design, its termination follows it (R265). -/
theorem termEnChangeStep_enabled {on : Bool} (hfab : pinFabric x d n = true) (hen : (pinLogic x d n).termEn = true) :
    termEnChangeStep d n on x = modIo (fun io => { io with termOn := spSet (fun _ => false) io.termOn (ioKey d n) on }) x :=
  if_pos (by simp [hfab, hen])

end

/-! ## The obligation of the I/O banks -/

/-- Settles O28: a bank's events and a pin's writes ask for no clock, the ports and delay lines of a pin for its die's; each row's guard is met,
and its effect is the one named. -/
theorem ioEvents : Obligations.IoEvents := by
  intro s d b n hr
  refine ⟨fun mv => ⟨?_, ?_, ?_⟩, ?_, fun v hpin => ⟨?_, ?_, ?_⟩, fun hgate hon => ?_⟩
  · -- VCCO_FAULT_ENTER
    intro hclass hfree hout
    exact live_acts hr (vccoFaultEnterStep_outside hclass hfree hout)
  · -- VCCO_FAULT_EXIT
    intro hclass hfault hin
    exact live_acts hr (vccoFaultExitStep_inside hclass hfault hin)
  · -- VCCO_LEVEL_CHANGE
    exact live_answers _ s hr
  · -- IO_CALIBRATION
    intro ok h0 h7
    exact live_acts hr (ioCalibrationStep_started h0 h7)
  · -- IO_PIN_WRITE of 8 bytes, whose operand of the half says nothing
    intro high
    exact live_acts hr (ioPinWriteStep_low hpin (.inl rfl))
  · -- IO_PIN_WRITE of the low half, which holds SAFE
    exact live_acts hr (ioPinWriteStep_low hpin (.inr rfl))
  · -- IO_PIN_WRITE of the high half
    exact live_acts hr (ioPinWriteStep_high hpin)
  · have hrun : RunsOn s.blk d := ⟨⟨hr, hgate⟩, hon⟩
    refine ⟨?_, ?_, ?_⟩
    · -- DELAY_FABRIC_STEP, up and down
      intro hhp hfab hen output
      exact ⟨clockedOn_acts hrun ((delayFabricStepStep_enabled hhp hfab hen).trans (if_pos rfl)),
        clockedOn_acts hrun ((delayFabricStepStep_enabled hhp hfab hen).trans (if_neg Bool.false_ne_true))⟩
    · -- DELAY_LINE_TAP_MOVE
      intro hhp howner
      exact clockedOn_acts hrun (delayLineTapMoveStep_assigned hhp howner)
    · -- TERM_EN_CHANGE
      intro hfab hen on
      exact clockedOn_acts hrun (termEnChangeStep_enabled hfab hen)

end Sys2Proof.Proofs
end

section
/-! Test pattern processors (10): the commands on a TPP, its calibration and start, its fabric port, and the stream buffer. -/

namespace Sys2Proof.Proofs

open Sys2Proof.Machine Sys2Proof.Laws

/-! ## Commands on a die whose clocks run -/

/-- A command on a block of a die that is reached has its own effect (R556). -/
theorem onDie_reached {d : Nat} {f : Cmd → Block → Block} {c : Cmd} {b : Block} (hon : dieOff b d = false) : onDie d f c b = f c b :=
  if_neg (by simp [hon])

/-- An admitted command on such a die has any effect that agrees with its own on the state's block. -/
theorem dieCommand_acts {h : Hdr} {n : Need} {d : Nat} {f : Cmd → Block → Block} {g : Block → Block} {s : State}
    (A : Admitted s.blk h n) (hon : dieOff s.blk d = false) (e : f (cmdOf h n.op) s.blk = g s.blk) :
    live (fun b => b.command h n (onDie d f)) s = .next (s.on g) :=
  command_acts A ((onDie_reached hon).trans e)

section
variable {n : Nat} {c : Cmd} {b b' : Block}

/-! ## The commands on a TPP -/

/-- An IDLE TPP takes the words that a TPP_LOAD reads into its vector cache (R298, R307). -/
theorem tppLoadCmd_loads {addr first count : Nat} {bs : List Nat} (hn : n < 24) (hfit : first + count ≤ 32768) (halign : addr % 32 = 0)
    (hidle : tppState b n = 2) (hread : readMem (srcTpp n) addr (32 * count) b = (some bs, b')) :
    tppLoadCmd n addr first count c b = (modTpp n (fun t => (List.range count).foldl (fun t i =>
      { t with cache := spSet (fun _ => 0) t.cache (first + i) (BitVec.ofNat 256 (fieldAt bs (32 * i) 32)) }) t) b').respond c St.ok := by
  refine (if_neg (by simp [hn, hfit, halign])).trans ((if_neg (by simp [hidle])).trans ?_)
  simp only [hread]
  rfl

/-- An IDLE TPP arms a run from a valid descriptor; without a stream buffer the run is READY at once (R300). -/
theorem tppRunCmd_arms {addr : Nat} {bs : List Nat} (hn : n < 24) (hidle : tppState b n = 2)
    (hread : readMem (srcTpp n) addr 320 b = (some bs, b')) (hvalid : tppRunCheck b' n bs = none) :
    tppRunCmd n addr c b =
      let x := (tppArm n bs b').hold c 0x0301 n
      if fieldAt bs 1 1 = 0 then runReady n x else x := by
  refine (if_neg (Nat.not_le.2 hn)).trans ((if_neg (by simp [hidle])).trans ?_)
  simp only [hread, hvalid, beq_iff_eq]

/-- A mask of existing TPPs is aborted: those of them that are ARMED or RUNNING end (R305, R676). -/
theorem tppAbortCmd_stops {mask : Nat} (hm : mask < 2 ^ 24) :
    tppAbortCmd mask c b =
      let l := (bitsOf 24 mask).filter (fun n => tppState b n == 3 || tppState b n == 4)
      (l.foldl (fun b n => runStopAt n St.hostAbort (nowPs b + 1) b) b).respond c St.ok [(4, l.foldl (fun v n => v + 2 ^ n) 0)] :=
  if_neg (Nat.not_le.2 hm)

/-- An existing TPP answers with its status registers (R298; log entry 12). -/
theorem tppStatusCmd_known (hn : n < 24) :
    tppStatusCmd n c b = b.respond c St.ok [(8, (b.reg (Rg.tpp n)).toNat), (8, (b.reg (Rg.tpp n + 8)).toNat)] :=
  if_neg (Nat.not_le.2 hn)

/-- Where every TPP of the mask is IDLE, each starts its calibration, and the command waits (R292, R676). -/
theorem tppCalibrateCmd_begins {mask : Nat} (h0 : mask ≠ 0) (hm : mask < 2 ^ 24)
    (hidle : (bitsOf 24 mask).all (fun n => tppState b n == 2) = true) :
    tppCalibrateCmd mask c b = ((bitsOf 24 mask).foldl (fun b n => tppCalBegin n b) b).hold c 0x0304 mask :=
  (if_neg (by simp [h0, -Nat.reducePow, hm])).trans (if_pos hidle)

/-- The sites of an ARMED or RUNNING TPP change at the first period boundary after the command (R294). -/
theorem tppSiteCmd_queues {en : Nat} (hn : n < 24) (hen : en < 256) (hst : tppState b n = 3 ∨ tppState b n = 4) :
    tppSiteCmd n en c b =
      (modTpp n (fun t => { t with siteQ := t.siteQ ++ [(nowPs b + 1, false, BitVec.ofNat 8 en)] }) b).respond c St.ok :=
  (if_neg (by simp [hn, hen])).trans (if_pos (by simpa using hst))

/-! ## Calibration and start -/

/-- A TPP in CALIBRATING completes its calibration (R292). -/
theorem tppCalDoneStep_calibrating {cals : List (BitVec 12 × BitVec 12 × Bool)} {temp : BitVec 8} (hst : tppState b n = 1) :
    tppCalDoneStep n cals temp b = tppCalibrated n cals temp b :=
  if_pos (by simp [hst])

/-- An ARMED run with a start instant starts at it, or ends there where it is not READY (R677). -/
theorem tppStartInstantStep_armed {at' : Int} (hat : (getTpp b n).startAt = some at') (hst : tppState b n = 3) :
    tppStartInstantStep n b =
      let b := reachTime (BitVec.ofNat 64 (at'.toNat / 1000)) b
      if b.flag (Rg.tpp n) Rg.tReady then tppBegin n at' b else runEnd n St.streamUnderrun b := by
  rw [tppStartInstantStep, hat]
  exact if_neg (by simp [hst])

/-! ## The fabric port -/

section
variable (hlive : tppPortLive b n = true)
include hlive

/-- At the port of a LIVE region START_F of an ARMED run that waits for it sets its start instant where the run is READY, and is held
before (R303, R677). -/
theorem startFEdgeStep_armed (hst : tppState b n = 3) (hsrc : (getTpp b n).startSrc = 2) (hnone : (getTpp b n).startAt = none) :
    startFEdgeStep n b =
      if b.flag (Rg.tpp n) Rg.tReady then
        setTpp n { getTpp b n with startAt := some (((nowPs b + 8000 + 624) / 625 * 625 : Nat) +
          (if (getTpp b n).offset < 0 then 0 else 2 * (getTpp b n).offset)) } b
      else setTpp n { getTpp b n with startHeld := true } b :=
  if_neg (by simp [hlive, hst, hsrc, hnone])

/-- ABORT_F ends the run at the first period boundary at least 8 ns later (R303). -/
theorem abortFEdgeStep_live : abortFEdgeStep n b = runStopAt n St.fabricAbort (nowPs b + 8000) b := if_pos hlive

/-- A trigger of an ARMED run that has not ended is latched (R284, R303). -/
theorem trigFEdgeStep_armed {i : Nat} (hst : tppState b n = 3) (hrun : (getTpp b n).ended = none) :
    trigFEdgeStep n i b = setTpp n { getTpp b n with trigs := (getTpp b n).trigs ++ [(true, i, ((nowPs b + 8000 : Nat) : Int))] } b :=
  (if_pos hlive).trans (if_pos (by simp [hst, hrun]))

/-- A change of SITE_OFF reaches an ARMED or RUNNING run 8 ns later (R303, R304). -/
theorem siteOffChangeStep_queues {off : BitVec 8} (hst : tppState b n = 3 ∨ tppState b n = 4) :
    siteOffChangeStep n off b =
      setTpp n { getTpp b n with siteLine := off, siteQ := (getTpp b n).siteQ ++ [(nowPs b + 8000, true, off)] } b :=
  (if_neg (by simp [hlive])).trans (if_pos (by simpa using hst))

end

/-! ## The stream buffer -/

/-- A run that has not ended asks for its next line while the buffer has room and fewer than 1,024 reads are out (R308). -/
theorem streamRefillReadStep_asks (hst : tppState b n = 3 ∨ tppState b n = 4) (hrun : (getTpp b n).ended = none)
    (hleft : (getTpp b n).sNext < streamTotal (getTpp b n)) (hout : (getTpp b n).sAsked.length < 1024)
    (hroom : (getTpp b n).sNext < streamBase (getTpp b n) + bufLines (getTpp b n).buf) :
    streamRefillReadStep n b =
      let t := getTpp b n
      (setTpp n { t with sNext := t.sNext + 1, sAsked := t.sAsked ++ [t.sNext] } b).emit
        (.streamRead n t.sNext (lineAddr t.segs t.sNext)) :=
  if_pos (by simp [hst, hrun, hleft, hout, hroom])

/-- The response to a line that was asked for is kept: its data, or that it failed (R305). -/
theorem streamReadResponseStep_asked {line : Nat} {ok : Bool} {data : BitVec 512} (hline : line ∈ (getTpp b n).sAsked) :
    streamReadResponseStep n line ok data b =
      let t := getTpp b n
      setTpp n { t with sAsked := t.sAsked.erase line,
                        sLines := spSet (fun _ => none) t.sLines line
                          (some (if ok && accessStatus b (lineAddr t.segs line) == 0 then some data else none)) } b :=
  if_neg (by simp [hline])

/-- An ARMED run is READY when no read is out and its buffer is full or holds every line (R300, R308). -/
theorem tppStreamReadyStep_filled (hst : tppState b n = 3) (hwaits : b.flag (Rg.tpp n) Rg.tReady = false)
    (hnone : (getTpp b n).sAsked = []) (hfull : min (streamTotal (getTpp b n)) (bufLines (getTpp b n).buf) ≤ (getTpp b n).sNext) :
    tppStreamReadyStep n b = runReady n b :=
  if_pos (by simpa [hst, hwaits, hnone] using hfull)

end

/-! ## The obligations of the TPPs -/

/-- Settles O29: each command is admitted, the TPP's die is reached, and the TPP's state and the arguments meet its guard. The response of
TPP_STATUS is log entry 12. -/
theorem tppCommands : Obligations.TppCommands := by
  intro s h
  refine ⟨?_, ?_, ?_, ?_, ?_, ?_⟩
  · -- TPP_LOAD
    intro n addr first count bs b hA hon hn hfit halign hidle hread
    exact dieCommand_acts (g := fun _ => Block.respond _ _ _) hA hon (tppLoadCmd_loads hn hfit halign hidle hread)
  · -- TPP_RUN
    intro n addr bs b hA hon hn hidle hread hvalid
    exact dieCommand_acts (g := fun _ => _) hA hon (tppRunCmd_arms hn hidle hread hvalid)
  · -- TPP_ABORT
    intro mask hA hm
    exact command_acts hA (tppAbortCmd_stops hm)
  · -- TPP_STATUS
    intro n hA hon hn
    exact dieCommand_acts hA hon (tppStatusCmd_known hn)
  · -- TPP_CALIBRATE
    intro mask hA h0 hm hidle
    exact command_acts hA (tppCalibrateCmd_begins h0 hm hidle)
  · -- TPP_SITE
    intro n en hA hon hn hen hst
    exact dieCommand_acts hA hon (tppSiteCmd_queues hn hen hst)

/-- Settles O30: each event falls on a die whose clocks run, and its guard is met. That a start instant brings DEV_TIME to itself is log
entry 8. -/
theorem tppEvents : Obligations.TppEvents := by
  intro s n hrun
  refine ⟨?_, ?_, fun hlive => ⟨?_, ?_, ?_, ?_, ?_⟩, ?_, ?_, ?_⟩
  · -- TPP_CAL_DONE
    intro cals temp hst
    exact clockedOn_acts hrun (tppCalDoneStep_calibrating hst)
  · -- TPP_START_INSTANT
    intro at' hat hst
    exact clockedOn_acts hrun (tppStartInstantStep_armed hat hst)
  · -- START_F_EDGE before READY
    intro hst hsrc hnone hwaits
    exact clockedOn_acts hrun ((startFEdgeStep_armed hlive hst hsrc hnone).trans (if_neg (by simp [hwaits])))
  · -- START_F_EDGE of a READY run
    intro hst hsrc hnone hready
    exact clockedOn_acts hrun ((startFEdgeStep_armed hlive hst hsrc hnone).trans (if_pos hready))
  · -- ABORT_F_EDGE
    exact clockedOn_acts hrun (abortFEdgeStep_live hlive)
  · -- TRIG_F_EDGE
    intro i hst hend
    exact clockedOn_acts hrun (trigFEdgeStep_armed hlive hst hend)
  · -- SITE_OFF_CHANGE
    intro off hst
    exact clockedOn_acts hrun (siteOffChangeStep_queues hlive hst)
  · -- STREAM_REFILL_READ
    intro hst hend hleft hout hroom
    exact clockedOn_acts hrun (streamRefillReadStep_asks hst hend hleft hout hroom)
  · -- STREAM_READ_RESPONSE
    intro line ok data hline
    exact clockedOn_acts hrun (streamReadResponseStep_asked hline)
  · -- TPP_STREAM_READY
    intro hst hwaits hnone hfull
    exact clockedOn_acts hrun (tppStreamReadyStep_filled hst hwaits hnone hfull)

end Sys2Proof.Proofs
end

section
/-! The sequencer of a TPP (10): the vector word it stands at, ends of the run at a word's boundary, and stream vectors. -/

namespace Sys2Proof.Proofs

open Sys2Proof.Machine Sys2Proof.Laws

section
variable {n op w code : Nat} {dbe : Bool} {f : Nat → Block → Block} {b : Block}

/-! ## The word at the program counter -/

/-- The row that names the opcode of the legal word a TPP stands at runs that word, its EVT pulsed (R277, R279). -/
theorem seqRow_at (h : SeqAt b n op w) : seqRow n op false f b = showPc n (f w (seqBegin n w b)) := by
  obtain ⟨happ, hword, hfirst, hstop, hlegal, hw, hop⟩ := h
  refine (if_neg (by simp [happ, hword])).trans ?_
  simp only [hfirst, hstop, beq_self_eq_true, if_true, hlegal, hw, hop, Bool.and_true]
  rfl

/-- Every row ends the run at the boundary where it is to end, or before a word that is illegal or has a double-bit error, whatever the
row's opcode (R281, R285, R305). -/
theorem seqRow_ends (happ : applying b n = true) (hword : (getTpp b n).streaming = none)
    (hend : stopNow (getTpp b n) = some code ∨ (stopNow (getTpp b n) = none ∧ (getTpp b n).waited = 0 ∧
      wordFault (reachTime (BitVec.ofNat 64 ((getTpp b n).time / 1000)) b) n dbe = some code)) :
    seqRow n op dbe f b = showPc n (runEnd n code (reachTime (BitVec.ofNat 64 ((getTpp b n).time / 1000)) b)) := by
  refine (if_neg (by simp [happ, hword])).trans ?_
  rcases hend with hstop | ⟨hgo, hfirst, hfault⟩
  · simp only [hstop]
  · simp only [hgo, hfirst, beq_self_eq_true, if_true, hfault]

/-- On a die whose clocks run, a row of the word's opcode has the word's effect. -/
theorem seqWord_acts {d : Nat} {s : State} (hrun : RunsOn s.blk d) (hat : SeqAt s.blk n op w) :
    clockedOn d (seqRow n op false f) s = .next (s.on fun b => showPc n (f w (seqBegin n w b))) :=
  clockedOn_acts hrun (seqRow_at hat)

/-- LOOP enters its body, or passes an empty one (R281). -/
theorem seqLoopStep_eq (n w : Nat) (b : Block) :
    seqLoopStep n w b = thenSeq n (modTpp n (fun t =>
        if wordArg w 24 15 = t.word then seqAdvance t.word t
        else { t with loops := { first := t.word + 1, last := wordArg w 24 15, left := orMax (wordArg w 0 24) 24 } :: t.loops,
                      word := t.word + 1 })) (applyWord n 1 (plainWord w) b) := by
  simp only [seqLoopStep, beq_iff_eq]

/-! ## Stream vectors -/

/-- A TPP that streams applies its next vector from the two lines that hold it (R278, R311). -/
theorem seqStreamVectorStep_applies {c g v : Nat} {x y : BitVec 512} (happ : applying b n = true)
    (hstream : (getTpp b n).streaming = some c) (hgo : stopNow (getTpp b n) = none)
    (hat : streamAt (getTpp b n).segs (getTpp b n).sSeg (getTpp b n).sVec = some (g, v))
    (hx : spGet (fun _ => none) (getTpp b n).sLines (segFirst (getTpp b n) g + 24 * v / 64) = some (some x))
    (hy : spGet (fun _ => none) (getTpp b n).sLines (segFirst (getTpp b n) g + (24 * v + 23) / 64) = some (some y)) :
    seqStreamVectorStep n b = streamVector n g v c x y (reachTime (BitVec.ofNat 64 ((getTpp b n).time / 1000)) b) := by
  simp only [seqStreamVectorStep, hstream, happ, hgo, hat, hx, hy]
  rfl

end

/-! ## The obligation of the sequencer -/

/-- Settles O31: each row's opcode is that of the legal word the TPP stands at (`seqRow_at`), an end of the run comes before any word
(`seqRow_ends`), and a stream vector has both its lines. A row is one word, log entry 42, and brings DEV_TIME to its boundary, log
entry 8. -/
theorem sequencerWords : Obligations.SequencerWords := by
  intro s n w hrun
  refine ⟨?_, ?_, ?_, ?_, ?_, ?_, ?_, ?_, ?_, ?_, ?_, ?_, ?_, ?_⟩
  · -- NEXT
    exact seqWord_acts hrun
  · -- REPEAT
    exact seqWord_acts hrun
  · -- LOOP
    intro hat
    exact clockedOn_acts hrun ((seqRow_at hat).trans (congrArg _ (seqLoopStep_eq ..)))
  · -- JUMP
    exact seqWord_acts hrun
  · -- CALL
    exact seqWord_acts hrun
  · -- RET
    exact seqWord_acts hrun
  · -- JOF, which waits until every compare before it has its result
    intro hat hnone
    exact clockedOn_acts hrun ((if_pos (by simp [hnone])).trans (seqRow_at hat))
  · -- MATCH
    exact fun hat hits fails => seqWord_acts hrun hat
  · -- APG_STEP
    exact seqWord_acts hrun
  · -- STREAM
    exact seqWord_acts hrun
  · -- WAIT_TRIG
    exact seqWord_acts hrun
  · -- STOP
    exact seqWord_acts hrun
  · -- the end of the run before a word, whichever row comes
    intro dbe hits fails code happ hword hend
    have hends (op : Nat) (f : Nat → Block → Block) :
        clockedOn (n.val / 6) (seqRow n.val op dbe f) s = .next (s.on fun b =>
          showPc n (runEnd n code (reachTime (BitVec.ofNat 64 ((getTpp b n).time / 1000)) b))) :=
      clockedOn_acts hrun (seqRow_ends happ hword hend)
    simp only [List.forall_mem_cons]
    exact ⟨hends _ _, hends _ _, hends _ _, hends _ _, hends _ _, hends _ _, hends _ _, hends _ _, hends _ _, hends _ _, hends _ _,
      List.forall_mem_nil _⟩
  · -- SEQ_STREAM_VECTOR
    intro c g v x y happ hstream hgo hat hx hy
    exact clockedOn_acts (f := fun b => showPc n (seqStreamVectorStep n b)) hrun
      (congrArg (showPc n) (seqStreamVectorStep_applies happ hstream hgo hat hx hy))

end Sys2Proof.Proofs
end

section
/-! The steps of the machine (00, 19): the command at the front of the queue, the idle tick, and the queue worked off. -/

namespace Sys2Proof.Proofs

open Sys2Proof.Machine Sys2Proof.Laws

/-! ## One step -/

/-- With a command waiting a step runs it with the queue's rest. -/
theorem step_cons {c : Instr} {rest : List Instr} {s : State} (h : s.pending = c :: rest) : step s = exec c { s with pending := rest } := by
  rw [step, h]

/-- With none waiting the block idles. -/
theorem step_nil {s : State} (h : s.pending = []) : step s = .next (s.on idleTick) := by
  obtain ⟨_, _⟩ := s
  subst h
  rfl

/-- In RESET and while the clocks are gated the idle tick leaves the block. -/
theorem idleTick_stopped {b : Block} (h : b.start.inReset = true ∨ b.clk.gated = true) : idleTick b = b :=
  if_pos (by simpa using h)

/-- Else it brings DEV_TIME on by one and the fabric up to it. -/
theorem idleTick_running {b : Block} (h : Running b) : idleTick b = fabricCatchUp (advanceTime 1 b) :=
  if_neg (by simp [h.1, h.2])

/-- Settles O1: `step` looks at the queue alone, and on an empty one the idle tick at RESET and the clocks. What an idle step does is log
entry 2. -/
theorem stepRunsFront : Obligations.StepRunsFront := by
  refine ⟨fun c rest s => step_cons rfl, fun s h hstop => ?_, fun s h hrun => ?_⟩
  · rw [step_nil h, State.on, idleTick_stopped hstop]
  · exact (step_nil h).trans (congrArg _ (on_congr (idleTick_running hrun)))

/-! ## The queue -/

/-- A run's first step. -/
theorem run_succ {k : Nat} {s t : State} (h : step s = .next t) : core.run (k + 1) s = core.run k t := by
  have hstep : core.step s = .next t := h
  simp only [Host.Core.run, hstep]

/-- Steps work off a queue whatever its commands do, since each leaves the queue behind it as it was. -/
theorem run_drains (l : List Instr) : ∀ s : State, s.pending = l → ∃ t, core.run l.length s = .next t ∧ t.pending = [] := by
  induction l with
  | nil => exact fun s h => ⟨s, rfl, h⟩
  | cons c l ih =>
    intro s h
    obtain ⟨t, ht, hq⟩ := everyCommandAnswers c { s with pending := l }
    obtain ⟨u, hu, hempty⟩ := ih t hq
    exact ⟨u, (run_succ ((step_cons h).trans ht)).trans hu, hempty⟩

/-- Settles O3: by induction on the queue, `run_drains`. -/
theorem queueDrains : Obligations.QueueDrains := fun s => run_drains s.pending s rfl

end Sys2Proof.Proofs
end

section
/-! Mailbox entries (19): the bytes of a command entry, and the entries that spell none. -/

namespace Sys2Proof.Proofs

open Sys2Proof.Machine Sys2Proof.Laws

/-! ## Bytes of a number -/

@[simp] theorem leBytes_length (n v : Nat) : (leBytes n v).length = n := by
  induction n generalizing v with
  | zero => rfl
  | succ n ih => rw [leBytes, List.length_cons, ih]

/-- The bytes of a number that they hold read as the number (R7). -/
theorem leNat_leBytes {n v : Nat} (hv : v < 2 ^ (8 * n)) : leNat (leBytes n v) = v := by
  induction n generalizing v with
  | zero => exact (Nat.lt_one_iff.1 hv).symm
  | succ n ih =>
    have hrest : v / 256 < 2 ^ (8 * n) := by
      rw [Nat.div_lt_iff_lt_mul (by decide), show (256 : Nat) = 2 ^ 8 from rfl, ← Nat.pow_add]
      exact hv
    rw [leBytes, leNat, ih hrest]
    omega

/-- A field reads the bytes that stand at its offset. -/
theorem fieldAt_append (pre suf : List Nat) {n v : Nat} (hv : v < 2 ^ (8 * n)) :
    fieldAt (pre ++ leBytes n v ++ suf) pre.length n = v := by
  rw [fieldAt, List.append_assoc, List.drop_left, List.take_left' (leBytes_length n v), leNat_leBytes hv]

/-! ## Packed arguments -/

/-- An argument of at least a byte starts at or behind the end of the one before it. -/
theorem le_argStart {off n : Nat} (hn : 0 < n) : off ≤ argStart off n := by
  have hpos : 0 < argAlign n := by unfold argAlign; split <;> omega
  have hlt := Nat.lt_div_mul_add (a := off + argAlign n - 1) hpos
  unfold argStart
  omega

/-- Arguments packed by the rule of arguments read back as their values, and end where the packing ends (R564). -/
theorem argsFrom_packResults {sizes vals : List Nat} (hlen : vals.length = sizes.length) (hpos : ∀ n ∈ sizes, 0 < n)
    (hfit : ∀ x ∈ sizes.zip vals, x.2 < 2 ^ (8 * x.1)) (pre suf : List Nat) :
    argsFrom (pre ++ packResults pre.length (sizes.zip vals) ++ suf) pre.length sizes =
      (vals, (pre ++ packResults pre.length (sizes.zip vals)).length) := by
  induction sizes generalizing vals pre with
  | nil => simp [List.length_eq_zero_iff.1 hlen, argsFrom, packResults]
  | cons n sizes ih =>
    obtain _ | ⟨v, vals⟩ := vals
    · simp at hlen
    have hle : pre.length ≤ argStart pre.length n := le_argStart (hpos n List.mem_cons_self)
    have hgap : (pre ++ List.replicate (argStart pre.length n - pre.length) 0).length = argStart pre.length n := by
      simp only [List.length_append, List.length_replicate]; omega
    have hnext : (pre ++ List.replicate (argStart pre.length n - pre.length) 0 ++ leBytes n v).length = argStart pre.length n + n := by
      rw [List.length_append, hgap, leBytes_length]
    have hv : v < 2 ^ (8 * n) := hfit (n, v) List.mem_cons_self
    have hrest := ih (Nat.succ.inj hlen) (fun m hm => hpos m (List.mem_cons_of_mem _ hm))
      (fun x hx => hfit x (List.mem_cons_of_mem _ hx)) (pre ++ List.replicate (argStart pre.length n - pre.length) 0 ++ leBytes n v)
    rw [hnext] at hrest
    have hfield := fieldAt_append (pre ++ List.replicate (argStart pre.length n - pre.length) 0)
      (packResults (argStart pre.length n + n) (sizes.zip vals) ++ suf) hv
    rw [hgap] at hfield
    simp only [List.append_assoc] at hfield hrest
    simp only [argsFrom, packResults, List.zip_cons_cons, List.append_assoc, hfield, hrest]

/-! ## The entry of a command -/

/-- The first eight bytes of an entry: opcode, tag, version, and three zeros (R563). -/
def entryHead (op tag : Nat) : List Nat := leBytes 2 op ++ leBytes 2 tag ++ [2, 0, 0, 0]

/-- An entry is its head, its packed arguments and zeros up to 64 bytes. -/
theorem entryOf_eq (op tag : Nat) (args : List (Nat × Nat)) :
    entryOf op tag args = entryHead op tag ++ packResults (entryHead op tag).length args ++
      List.replicate (64 - (entryHead op tag ++ packResults (entryHead op tag).length args).length) 0 := rfl

section
variable {op tag : Nat} {args : List (Nat × Nat)}

theorem fieldAt_entryOf_op (hop : op < 2 ^ 16) : fieldAt (entryOf op tag args) 0 2 = op := by
  rw [entryOf_eq, entryHead]
  simp only [List.append_assoc]
  exact fieldAt_append [] _ hop

theorem fieldAt_entryOf_tag (htag : tag < 2 ^ 16) : fieldAt (entryOf op tag args) 2 2 = tag := by
  rw [entryOf_eq, entryHead]
  simp only [List.append_assoc]
  rw [← List.append_assoc (leBytes 2 op)]
  exact fieldAt_append (leBytes 2 op) _ htag

theorem version_entryOf : (entryOf op tag args).getD 4 0 = 2 := rfl

theorem zeroFrom_entryOf_head : zeroFrom (entryOf op tag args) 5 8 = true := rfl

/-- Behind its arguments an entry is zero. -/
theorem zeroFrom_entryOf_end : zeroFrom (entryOf op tag args) (entryHead op tag ++ packResults (entryHead op tag).length args).length 64 = true := by
  rw [entryOf_eq, zeroFrom, List.all_eq_true]
  intro x hx
  rw [List.drop_take, List.drop_left] at hx
  simp [List.eq_of_mem_replicate (List.mem_of_mem_take hx)]

end

/-! ## The catalogue -/

/-- The opcodes of the catalogue, which an entry's bytes do not change (R572). -/
def catalogueOps : List Nat := (cmdRows []).map CmdRow.op

theorem map_op_cmdRows (bs : List Nat) : (cmdRows bs).map CmdRow.op = catalogueOps := rfl

theorem catalogueOps_nodup : catalogueOps.Nodup := by decide

theorem op_lt_of_mem_cmdRows {bs : List Nat} {r : CmdRow} (hr : r ∈ cmdRows bs) : r.op < 2 ^ 16 := by
  have hall : ∀ op ∈ catalogueOps, op < 2 ^ 16 := by decide
  exact hall r.op (map_op_cmdRows bs ▸ List.mem_map_of_mem hr)

/-- An opcode of the catalogue selects its row: no other has it. -/
theorem find_op_of_mem {bs : List Nat} {r : CmdRow} (hr : r ∈ cmdRows bs) : (cmdRows bs).find? (fun x => x.op == r.op) = some r := by
  obtain ⟨x, hx⟩ := Option.isSome_iff_exists.1 (List.find?_isSome (p := fun x => x.op == r.op).2 ⟨r, hr, beq_self_eq_true _⟩)
  have hop : x.op = r.op := by simpa using List.find?_some hx
  have hinj := List.inj_on_of_nodup_map (map_op_cmdRows bs ▸ catalogueOps_nodup)
  rw [hx, hinj (List.mem_of_find?_eq_some hx) hr hop]

theorem pos_of_mem_queueArgs {dir n : Nat} (hn : n ∈ queueArgs dir) : 0 < n := by
  unfold queueArgs at hn
  split at hn
  · revert n; decide
  · revert n; decide

theorem pos_of_mem_testSizes {test n : Nat} (hn : n ∈ testSizes test) : 0 < n := by
  unfold testSizes at hn
  split at hn
  · revert n; decide
  · split at hn
    · revert n; decide
    · split at hn
      · revert n; decide
      · cases hn

/-- Every argument of the catalogue takes at least a byte. -/
theorem args_pos {bs : List Nat} {r : CmdRow} (hr : r ∈ cmdRows bs) : ∀ n ∈ r.args, 0 < n := by
  have hfixed : ∀ r ∈ deviceRows ++ plateRows ++ unitRows ++ memoryRows ++ networkRows, ∀ n ∈ r.args, 0 < n := by decide
  have hqueue : ∀ r ∈ queueRows (bs.getD 25 0), ∀ n ∈ r.args, 0 < n := by
    simpa [queueRows] using fun n => pos_of_mem_queueArgs (n := n)
  have hsec : ∀ r ∈ securityRows, ∀ n ∈ r.args, 0 < n := by decide
  have htest : ∀ r ∈ testRows (bs.getD 8 0), ∀ n ∈ r.args, 0 < n := by
    simpa [testRows, or_imp, forall_and] using fun n => pos_of_mem_testSizes (n := n)
  rw [cmdRows, List.mem_append, List.mem_append, List.mem_append] at hr
  obtain ((hr | hr) | hr) | hr := hr
  · exact hfixed r hr
  · exact hqueue r hr
  · exact hsec r hr
  · exact htest r hr

/-! ## The commands that the rows run -/

section
variable (h : Hdr) (a : Nat → Nat)

theorem deviceRows_run : deviceRows.map (fun r => r.run h a) = List.map exec
      [.devInfo h, .devStatus h, .mbxBarrier h, .regRead h (a 0) (a 1), .regWrite h (a 0) (a 1) (a 2), .dieReset h (a 0),
       .siteReset h (a 0), .greoneRestart h, .expertDrop h (a 0), .eventRead h (a 0), .eventQueue h (a 0) (a 1), .settingsRead h (a 0),
       .settingsWrite h (a 0) (a 1), .settingsCommit h (a 0) (a 1), .ringJoin h, .ringLeave h] := rfl

theorem plateRows_run : plateRows.map (fun r => r.run h a) = List.map exec
      [.plateLoad h (a 0) (a 1) (a 2) (a 3) (a 4) (a 5) (a 6) (a 7), .plateRelocate h (a 0) (a 1), .regionFreeze h (a 0),
       .regionRelease h (BitVec.ofNat 256 (a 0)), .regionReset h (a 0), .regionClear h (a 0), .plateSpares h (BitVec.ofNat 320 (a 0)),
       .plateUnretain h (a 0), .plateStatus h (a 0), .shutter h (a 0), .shutterResume h, .shutterCancel h, .shutterStatus h] := rfl

theorem unitRows_run : unitRows.map (fun r => r.run h a) = List.map exec
      [.tppLoad h (a 0) (a 1) (a 2) (a 3), .tppRun h (a 0) (a 1), .tppAbort h (a 0), .tppStatus h (a 0), .tppCalibrate h (a 0),
       .tppSite h (a 0) (a 1), .laneUp h (a 0) (a 1) (a 2) (a 3), .laneDown h (a 0) (a 1), .laneQuiesce h (a 0) (a 1),
       .laneResume h (a 0) (a 1), .laneLoopback h (a 0) (a 1) (a 2), .lanePrbs h (a 0) (a 1) (a 2) (a 3) (a 4),
       .laneEyescan h (a 0) (a 1) (a 2) (a 3) (a 4) (a 5) (a 6) (a 7) (a 8), .laneStatus h (a 0)] := rfl

theorem memoryRows_run : memoryRows.map (fun r => r.run h a) = List.map exec
      [.dramTrain h (a 0) (a 1), .dramStatus h (a 0), .dramQuiesce h (a 0), .dramResume h (a 0), .dramOffline h (a 0),
       .dramOnline h (a 0), .dramSelftest h (a 0) (a 1) (a 2) (a 3), .dramBracket h (a 0) (BitVec.ofNat 64 (a 1)), .dramRecover h (a 0),
       .lsuKeyLoad h (a 0) (a 1), .lsuKeyClear h (a 0), .lsuRegionSet h (a 0) (a 1) (a 2) (a 3), .lsuRekey h (a 0) (a 1) (a 2),
       .lsuStatus h (a 0)] := rfl

theorem networkRows_run : networkRows.map (fun r => r.run h a) = List.map exec
      [.nocGlobalFence h, .nocStatus h (a 0) (a 1) (a 2), .nocIsolate h (a 0), .nocRelease h (a 0), .nocDomainOff h (a 0),
       .nocDomainOn h (a 0), .dlStatus h (a 0), .dlRetrain h (a 0), .dlDown h (a 0), .dlUp h (a 0), .dlClearDegrade h (a 0),
       .seamSteer h (a 0) (a 1) (a 2)] := rfl

theorem securityRows_run : securityRows.map (fun r => r.run h a) = List.map exec
      [.secStatus h, .secNonce h, .secIdCert h (a 0) (a 1) (a 2), .secQuote h (a 0) (a 1) (BitVec.ofNat 256 (a 2)),
       .secOwnerKeyPut h (a 0) (a 1), .secOwnerProgram h (a 0) (a 1), .secOwnerRevoke h (a 0) (a 1), .secFuseLock h (a 0) (a 1),
       .secSvnAdvance h (a 0) (a 1), .secSealKeySet h (a 0) (a 1), .secPolicySet h (a 0) (a 1), .fwStatus h, .fwBegin h (a 0),
       .fwEnd h (BitVec.ofNat 256 (a 0)), .fwVerify h, .fwActivate h (a 0), .fwAbort h, .fwAcceptDefaults h (a 0) (a 1), .fwRevert h,
       .runLock h (a 0), .runUnlock h (a 0), .pwrStatus h, .thermSet h (a 0) (a 1)] := rfl

theorem testRows_run (test : Nat) : (testRows test).map (fun r => r.run h a) = List.map exec
      [.testRun h (a 0) (a 1) (testArgs a 2 (testSizes test).length),
       .testSchedule h (a 0) (a 1) (a 2) (a 3) (testArgs a 4 (testSizes test).length), .testCancel h (a 0), .testStatus h (a 0)] := rfl

/-- DIR says which of its arguments QE_QUEUE_CREATE has (R531). -/
theorem queueRows_run (dir : Nat) : (queueRows dir).map (fun r => r.run h a) = List.map exec
      [.qeGroupAssign h (a 0) (a 1),
       if dir = 1 then .qeQueueCreate h (a 0) (a 1) (a 2) (a 3) (a 4) (a 5) (a 6) (a 7) (a 8) 0 (a 9) (a 10) (a 11)
       else .qeQueueCreate h (a 0) (a 1) (a 2) (a 3) (a 4) (a 5) (a 6) (a 7) (a 8) (a 9) 0 0 0,
       .qeQueueDestroy h (a 0), .qeQueueReset h (a 0), .qeQueueStatus h (a 0), .qeVectorSet h (a 0) (a 1) (a 2) (a 3) (a 4) (a 5),
       .qeStatus h, .eicSourceSet h (a 0) (a 1) (a 2) (a 3), .eicTargetSet h (a 0) (a 1) (a 2), .eicStatus h] := by
  by_cases hd : dir = 1
  · subst hd; rfl
  · simp only [queueRows, List.map_cons, List.map_nil, beq_iff_eq, if_neg hd]; rfl

/-- Every row of the catalogue is a command of the table. -/
theorem cmdRows_run (bs : List Nat) : ∃ l : List Instr, (cmdRows bs).map (fun r => r.run h a) = l.map exec := by
  simp only [cmdRows, List.map_append, deviceRows_run, plateRows_run, unitRows_run, memoryRows_run, networkRows_run, queueRows_run,
    securityRows_run, testRows_run]
  simp only [← List.map_append]
  exact ⟨_, rfl⟩

end

/-! ## The obligations of the entries -/

/-- Settles O11: an entry's opcode selects its row, its header and arguments read back, and the rest of it is zero; and each chapter's rows
run commands of the table. -/
theorem mailboxEntries : Obligations.MailboxEntries := by
  constructor
  · intro p tag r vals s hr hlen hfit
    have hargs : argsFrom (entryOf r.op tag.toNat (r.args.zip vals)) 8 r.args = (vals, _) :=
      argsFrom_packResults hlen (args_pos hr) hfit (entryHead r.op tag.toNat) _
    simp only [runEntry, fieldAt_entryOf_op (op_lt_of_mem_cmdRows hr), fieldAt_entryOf_tag tag.isLt, find_op_of_mem hr, version_entryOf,
      zeroFrom_entryOf_head, hargs, zeroFrom_entryOf_end, BitVec.ofNat_toNat, BitVec.setWidth_eq]
    rfl
  · intro bs r hr h a
    obtain ⟨l, hl⟩ := cmdRows_run h a bs
    have hrun : r.run h a ∈ l.map exec := hl ▸ List.mem_map_of_mem (f := fun r => r.run h a) hr
    obtain ⟨c, -, hc⟩ := List.mem_map.1 hrun
    exact ⟨c, fun s => by rw [hc]⟩

/-- Settles O12: an opcode that no row has selects none, and one that a row has is answered before it runs where its form is bad. The order
of the two answers is log entry 10. -/
theorem entryChecks : Obligations.EntryChecks := by
  intro p bs s c
  constructor
  · intro hnone
    have hfind : (cmdRows bs).find? (fun r => r.op == fieldAt bs 0 2) = none := by simpa using hnone
    simp only [runEntry, hfind]
    rfl
  · intro r hr hop hbad
    have hform : (bs.getD 4 0 != 2 || !zeroFrom bs 5 8 || !zeroFrom bs (argsFrom bs 8 r.args).2 64) = true := by
      simpa only [Bool.or_eq_true, bne_iff_ne, Bool.not_eq_true', or_assoc] using hbad
    have hfind := find_op_of_mem hr
    rw [hop] at hfind
    simp only [runEntry, hfind]
    exact if_pos hform

end Sys2Proof.Proofs
end

section
/-! Fail capture (11): compare results, records, bitmap lines and the drain. -/

namespace Sys2Proof.Proofs

open Sys2Proof.Machine Sys2Proof.Laws

section
variable {n : Nat} {b : Block}

/-! ## Compare results -/

/-- A result of a running TPP acts on the application that its vector number names, where no capture is passed over (R325, R328). -/
theorem compareResultStep_acts {v : Nat} {volts : List (Nat × Int)} {x : AppBatch} (hrun : tppState b n = 4)
    (hx : (getTpp b n).batches.find? (fun x => decide (x.first ≤ v) && decide (v < x.first + x.count)) = some x)
    (hpast : (batchesBefore (getTpp b n) v).any (owesCapture b n) = false) (hfirst : owesCapture b n x = false ∨ x.first = v) :
    compareResultStep n v volts b = applicationResult n v x volts b := by
  have howes : (owesCapture b n x && x.first != v) = false := by
    rcases hfirst with h | h <;> simp [h]
  rw [compareResultStep, if_neg (by simp [hrun])]
  simp only [hx, hpast, howes]
  rfl

/-! ## Fail records -/

/-- Two records at the front of the FIFO go together where their queue is one, and the first alone where not (R333). -/
theorem failRecordSendStep_two {a a' : FailRec} {l : List FailRec} (h : (getTpp b n).fifo = a :: a' :: l) :
    failRecordSendStep n b =
      if a.queue = a'.queue then writeMarkers n (recordsOut n a.queue [a.word, a'.word] (modTpp n (fun t => { t with fifo := l }) b))
      else writeMarkers n (recordsOut n a.queue [a.word] (modTpp n (fun t => { t with fifo := a' :: l }) b)) := by
  simp only [failRecordSendStep, h, beq_iff_eq]

/-- The only record of the FIFO goes alone. -/
theorem failRecordSendStep_one {a : FailRec} (h : (getTpp b n).fifo = [a]) :
    failRecordSendStep n b = writeMarkers n (recordsOut n a.queue [a.word] (modTpp n (fun t => { t with fifo := [] }) b)) := by
  simp only [failRecordSendStep, h]

/-! ## Bitmap lines -/

/-- A line of the cache leaves while fewer than 512 are outstanding (R338, R339). -/
theorem bitmapLineEvictStep_leaves {i : Nat} {l : BmLine} (hl : (getTpp b n).bmLines[i]? = some l) (hroom : (getTpp b n).bmOut.length < 512) :
    bitmapLineEvictStep n i b = evictLine n l b := by
  simp only [bitmapLineEvictStep, hl, hroom, if_true]

/-- An outstanding atomic OR is answered (R340). -/
theorem bitmapAorResponseStep_answers {i : Nat} {ok : Bool} {l : BmLine} (hl : (getTpp b n).bmOut[i]? = some l) :
    bitmapAorResponseStep n i ok b = aorAnswered n l ok (modTpp n (fun t => { t with bmOut := t.bmOut.eraseIdx i }) b) := by
  simp only [bitmapAorResponseStep, hl]

/-! ## The capture drain -/

section
variable {code at' : Nat} (hend : (getTpp b n).ended = some (code, at'))
include hend

/-- A run that has ended finishes once its capture path is drained (R345). -/
theorem tppDrainEndStep_drained (h : drained (getTpp b n) = true) : tppDrainEndStep n b = runFinish n code b := by
  simp only [tppDrainEndStep, hend, h, if_true]

/-- Where it is not, the time-out loses what is left (R345). -/
theorem tppDrainTimeoutStep_loses (h : drained (getTpp b n) = false) :
    tppDrainTimeoutStep n b = runFinish n code (drainLost n (reachTime (BitVec.ofNat 64 (at' / 1000 + 10000000)) b)) := by
  simp only [tppDrainTimeoutStep, hend, h, Bool.false_eq_true, if_false]

end
end

/-! ## The obligation of fail capture -/

/-- Settles O32: each event falls on a die whose clocks run, and the TPP's state meets its guard. That the drain's time-out brings DEV_TIME to
its instant is log entry 8, and that levels come with COMPARE_RESULT is log entry 42. -/
theorem failCaptureEvents : Obligations.FailCaptureEvents := by
  intro s n hrun
  refine ⟨?_, ?_, ?_, ?_, ?_, ?_, fun code at' hend => ⟨?_, ?_⟩, ?_⟩
  · -- COMPARE_RESULT
    intro v volts b h4 hb hpast hfirst
    exact clockedOn_acts hrun (compareResultStep_acts h4 hb hpast hfirst)
  · -- FAIL_RECORD_SEND of two records of one queue
    intro a b l hl hq
    exact clockedOn_acts hrun ((failRecordSendStep_two hl).trans (if_pos hq))
  · -- FAIL_RECORD_SEND before a record of another queue
    intro a b l hl hq
    exact clockedOn_acts hrun ((failRecordSendStep_two hl).trans (if_neg hq))
  · -- FAIL_RECORD_SEND of the last record
    intro a hl
    exact clockedOn_acts hrun (failRecordSendStep_one hl)
  · -- BITMAP_LINE_EVICT
    intro i l hl hroom
    exact clockedOn_acts hrun (bitmapLineEvictStep_leaves hl hroom)
  · -- BITMAP_AOR_RESPONSE
    intro i ok l hl
    exact clockedOn_acts hrun (bitmapAorResponseStep_answers hl)
  · -- TPP_DRAIN_END
    intro hd
    exact clockedOn_acts hrun (tppDrainEndStep_drained hend hd)
  · -- TPP_DRAIN_TIMEOUT
    intro hd
    exact clockedOn_acts hrun (tppDrainTimeoutStep_loses hend hd)
  · -- CNT_CLEAR
    intro h2
    exact clockedOn_acts hrun (if_pos (beq_iff_eq.2 h2))

end Sys2Proof.Proofs
end

section
/-! Serial lanes (12): the commands on the lanes of a mask and on one lane. -/

namespace Sys2Proof.Proofs

open Sys2Proof.Machine Sys2Proof.Laws

/-! ## Commands on the lanes of a mask -/

section
variable {die mask : Nat} {c : Cmd} {b : Block} (hd : die < 4) (h0 : 0 < mask) (hm : mask < 2 ^ 32)
include hd h0 hm

/-- A die of the device and a mask of its lanes pass the check of the arguments (R375). -/
theorem maskArgs_legal : (decide (4 ≤ die) || mask == 0 || decide (2 ^ 32 ≤ mask)) = false := by
  rw [Bool.or_eq_false_iff, Bool.or_eq_false_iff]
  exact ⟨⟨decide_eq_false (Nat.not_le.2 hd), beq_false_of_ne (by omega)⟩, decide_eq_false (Nat.not_le.2 hm)⟩

/-- LANE_UP of DISABLED lanes outside a mode conflict brings them up, numbered first where they form a group that R365 allows. -/
theorem laneUpCmd_starts {group spares : Nat} (hg : group < 256) (hs : spares < 256)
    (hlanes : ∀ m ∈ maskLanes die mask, laneMode b m ≠ 3 ∧ laneState b m = 0)
    (hgroup : group ≠ 0 → groupOk b (maskLanes die mask) spares = true) :
    laneUpCmd die mask group spares c b =
      (maskLanes die mask).foldl (fun b m => laneFirst m b)
        ((if group = 0 then b else groupNumber group spares (maskLanes die mask) b).hold c 0x0400 (die * 2 ^ 32 + mask)) := by
  have hmode : (maskLanes die mask).any (fun n => laneMode b n == 3) = false := by
    simpa using fun m hm => (hlanes m hm).1
  have hdis : (maskLanes die mask).all (fun n => laneState b n == 0) = true := by
    simpa using fun m hm => (hlanes m hm).2
  have hok : (group != 0 && !groupOk b (maskLanes die mask) spares) = false := by
    by_cases h : group = 0
    · simp [h]
    · simp [hgroup h]
  rw [laneUpCmd, if_neg (by rw [maskArgs_legal hd h0 hm]; simp [hg, hs])]
  refine (if_neg (by simp [hmode])).trans ((if_neg (by simp [hdis])).trans ((if_neg (by simp [hok])).trans ?_))
  simp only [forEach, beq_iff_eq]

theorem laneDownCmd_legal :
    laneDownCmd die mask c b = ((maskLanes die mask).foldl (fun b m => laneOff m b) b).respond c St.ok :=
  if_neg (by rw [maskArgs_legal hd h0 hm]; decide)

/-- ACTIVE lanes are quiesced together (R374). -/
theorem laneQuiesceCmd_active (hst : ∀ m ∈ maskLanes die mask, laneState b m = 5) :
    laneQuiesceCmd die mask c b =
      ((maskLanes die mask).foldl (fun b m => b.putB (Rg.lane m) Rg.lQuiesced true) b).respond c St.ok :=
  (if_neg (by rw [maskArgs_legal hd h0 hm]; decide)).trans (if_pos (by simpa using hst))

/-- QUIESCED lanes resume together (R374). -/
theorem laneResumeCmd_quiesced (hq : ∀ m ∈ maskLanes die mask, b.flag (Rg.lane m) Rg.lQuiesced = true) :
    laneResumeCmd die mask c b =
      ((maskLanes die mask).foldl (fun b m => b.putB (Rg.lane m) Rg.lQuiesced false) b).respond c St.ok :=
  (if_neg (by rw [maskArgs_legal hd h0 hm]; decide)).trans (if_pos (by simpa using hq))

end

/-- The lanes of a NEGOTIATED group with at most two spares (R365, R375). -/
theorem groupOk_of_negotiated {l : List Nat} {spares : Nat} {b : Block} (hs : spares ≤ 2) (hlt : spares < l.length)
    (hle : l.length ≤ 16 + spares) (hmode : ∀ m ∈ l, laneMode b m = 0) : groupOk b l spares = true := by
  simpa [groupOk, hs, hlt, hle] using hmode

/-! ## Commands on one lane -/

section
variable {n : Nat} {c : Cmd} {b : Block} (hn : n < 128)
include hn

/-- A DISABLED or QUIESCED lane takes a loopback; the coded kinds do not go with RAW mode (R370, R373). -/
theorem laneLoopbackCmd_idle {kind : Nat} {squelch : Bool} (hidle : laneState b n = 0 ∨ b.flag (Rg.lane n) Rg.lQuiesced = true)
    (hk : kind ≤ 4) (hraw : kind = 2 ∨ kind = 4 → laneMode b n ≠ 2) :
    laneLoopbackCmd n kind squelch.toNat c b =
      (laneTest n (modLane n (fun x => { x with loop := kind, squelch := squelch }) b)).respond c St.ok := by
  have hfree : laneIdleForTest b n = true := by simpa [laneIdleForTest] using hidle
  have hmode : ((kind == 2 || kind == 4) && laneMode b n == 2) = false := by
    rw [Bool.and_eq_false_imp]
    exact fun h => beq_false_of_ne (hraw (by simpa using h))
  rw [laneLoopbackCmd, if_neg (by simp [Nat.not_le.2 hn, Nat.not_lt.2 hk, Nat.not_lt.2 (Bool.toNat_le squelch)]),
    if_neg (by simp [hfree]), if_neg (by simp [hmode])]
  cases squelch <;> rfl

/-- It takes a generator and a checker (R371, R373). -/
theorem lanePrbsCmd_idle {poly : Nat} {gen chk inv : Bool} (hidle : laneState b n = 0 ∨ b.flag (Rg.lane n) Rg.lQuiesced = true)
    (hp : poly ≤ 3) :
    lanePrbsCmd n poly gen.toNat chk.toNat inv.toNat c b = (laneTest n (modLane n (prbsSet poly gen chk inv) b)).respond c St.ok := by
  have hfree : laneIdleForTest b n = true := by simpa [laneIdleForTest] using hidle
  have hbit (x : Bool) : (x.toNat == 1) = x := by cases x <;> rfl
  rw [lanePrbsCmd, if_neg (by simp [Nat.not_le.2 hn, Nat.not_lt.2 hp, Nat.not_lt.2 (Bool.toNat_le _)]), if_neg (by simp [hfree])]
  simp only [hbit]

/-- A scan whose ranges are legal begins on an ACTIVE lane without one, and the command waits (R372). -/
theorem laneEyescanCmd_begins {a1 a2 a3 a4 a5 a6 dwell addr : Nat} {scan : EyeScan} (hst : laneState b n = 5)
    (hnone : (getLane b n).scan = none) (hscan : eyeScanOf a1 a2 a3 a4 a5 a6 dwell addr = some scan) :
    laneEyescanCmd n a1 a2 a3 a4 a5 a6 dwell addr c b = (modLane n (fun x => { x with scan := some scan }) b).hold c 0x0406 n := by
  delta laneEyescanCmd
  simp only [hscan]
  rw [if_neg (Nat.not_le.2 hn), if_neg (by simp [hst]), if_neg (by simp [hnone])]

theorem laneStatusCmd_known :
    laneStatusCmd n c b =
      b.respond c St.ok [(8, (b.reg (Rg.lane n + 0x08)).toNat), (4, (b.reg (Rg.lane n + 0x10)).toNat % 2 ^ 32)] :=
  if_neg (Nat.not_le.2 hn)

end

/-! ## The obligation of the lane commands -/

/-- Settles O33: each command is admitted, its die is reached, and the lanes' states and the arguments meet its guard. The response of
LANE_STATUS is log entry 12, and that group 0 takes any spare count log entry 45. -/
theorem laneCommands : Obligations.LaneCommands := by
  intro s h die mask n h0 hm hd hn
  refine ⟨fun hon => ⟨fun hA hlanes => ⟨fun spares hs => ?_, fun group spares hg0 hg hs hlt hle hmode => ?_⟩, fun hA => ?_, fun hA hst => ?_,
    fun hA hq => ?_⟩, fun hon => ⟨fun hidle => ⟨fun kind squelch hk hraw hA => ?_, fun poly gen chk inv hp hA => ?_⟩, ?_, fun hA => ?_⟩⟩
  · -- LANE_UP of lanes without a group
    exact dieCommand_acts hA hon (laneUpCmd_starts hd h0 hm (by decide) hs hlanes (fun h => absurd rfl h))
  · -- LANE_UP of a group
    refine dieCommand_acts hA hon ((laneUpCmd_starts hd h0 hm hg (by omega) hlanes fun _ => groupOk_of_negotiated hs hlt hle hmode).trans ?_)
    rw [if_neg (Nat.ne_of_gt hg0)]
    rfl
  · -- LANE_DOWN
    exact dieCommand_acts hA hon (laneDownCmd_legal hd h0 hm)
  · -- LANE_QUIESCE
    exact dieCommand_acts hA hon (laneQuiesceCmd_active hd h0 hm hst)
  · -- LANE_RESUME
    exact dieCommand_acts hA hon (laneResumeCmd_quiesced hd h0 hm hq)
  · -- LANE_LOOPBACK
    exact dieCommand_acts hA hon (laneLoopbackCmd_idle hn hidle hk hraw)
  · -- LANE_PRBS
    exact dieCommand_acts hA hon (lanePrbsCmd_idle hn hidle hp)
  · -- LANE_EYESCAN
    intro a1 a2 a3 a4 a5 a6 dwell addr scan hA hst hnone hscan
    exact dieCommand_acts hA hon (laneEyescanCmd_begins hn hst hnone hscan)
  · -- LANE_STATUS
    exact dieCommand_acts hA hon (laneStatusCmd_known hn)

end Sys2Proof.Proofs
end

section
/-! Serial lanes (12): blocks at a lane's port and at its receiver, and block lock. -/

namespace Sys2Proof.Proofs

open Sys2Proof.Machine Sys2Proof.Laws

/-- A row that needs its die's clocks sets the block to what its effect on it is. -/
theorem clockedOn_sets {d : Nat} {f : Block → Block} {s : State} {x : Block} (h : RunsOn s.blk d) (e : f s.blk = x) :
    clockedOn d f s = .next (s.set x) :=
  clockedOn_acts (g := fun _ => x) h e

section
variable {n : Nat} {b : Block}

/-! ## Blocks that a port presents -/

/-- A block of the fabric whose type the lane layer keeps for itself is rejected (R355). -/
def txBad (ctrl : Bool) (payload : BitVec 64) : Bool := ctrl && payload.toNat / 16 % 16 == 0xA

/-- The lane after a rejected block. -/
def txRejected (n : Nat) (bad : Bool) (b : Block) : Block := if bad then b.putB (Rg.lane n) Rg.lTxReject true else b

/-- The payload that goes out in place of a rejected block's. -/
def txPayload (bad : Bool) (payload : BitVec 64) : BitVec 64 := if bad then idlePayload else payload

/-- A generator's word takes the place of the fabric's data (R371). -/
theorem laneTxBlockStep_gen {ctrl : Bool} {payload : BitVec 64} (hg : (getLane b n).gen = true) :
    laneTxBlockStep n ctrl payload b =
      let r := prbsWord (getLane b n).poly 0 64 (0, (getLane b n).genReg.toNat)
      laneOut n none (BitVec.ofNat 64 (if (getLane b n).inv then 2 ^ 64 - 1 - r.1 else r.1))
        (setLane n { getLane b n with genReg := BitVec.ofNat 31 r.2 } b) :=
  if_pos hg

section
variable {ctrl : Bool} {payload : BitVec 64} (hg : (getLane b n).gen = false) (ho : laneOpen b n = true)
include hg ho

/-- At the port of an open lane without a far-end loopback the mode says what happens to the block (R348, R356). -/
theorem laneTxBlockStep_open (hl : (getLane b n).loop ≤ 2) :
    laneTxBlockStep n ctrl payload b =
      if laneMode b n = 2 then laneOut n none payload b
      else
        let bad := txBad ctrl payload
        let b' := txRejected n bad b
        if (getLane b n).loop = 1 ∨ (getLane b n).loop = 2 then laneAround n (bad || ctrl) (txPayload bad payload) b'
        else if laneGroup b' n = 0 then laneSend n (bad || ctrl) (txPayload bad payload) b'
        else if 16 ≤ (getLane b n).port then b'
        else
          forEach ((carrier b' n (getLane b n).port).toList ++ (groupLanes b' n).filterMap (fun m => match (getLane b' m).sendOn with
            | some (k, true) => if logicalOf b' m == (getLane b n).port then some k else none
            | _ => none)) (fun m => laneSend m (bad || ctrl) (txPayload bad payload)) b' := by
  have hnear : ((getLane b n).loop == 3 || (getLane b n).loop == 4) = false := by
    rw [Bool.or_eq_false_iff]
    exact ⟨beq_false_of_ne (by omega), beq_false_of_ne (by omega)⟩
  delta laneTxBlockStep
  refine (if_neg (by simp [hg])).trans ((if_neg (by simp only [ho, Bool.or_assoc, hnear]; decide)).trans ?_)
  simp only [beq_iff_eq, Bool.or_eq_true]
  rfl

theorem laneTxBlockStep_raw (hl : (getLane b n).loop ≤ 2) (hm : laneMode b n = 2) :
    laneTxBlockStep n ctrl payload b = laneOut n none payload b :=
  (laneTxBlockStep_open hg ho hl).trans (if_pos hm)

end

/-! ## Blocks at the receiver -/

/-- The cycles that the port fed by a lane has taken. -/
def portTaken (n drained : Nat) (b : Block) : Block :=
  match rxPort b n with
  | some port => laneDrain port drained b
  | none => b

/-- A received block reaches its lane unless the lane is DISABLED without a test, or loops back at the near end; kind 3 sends it back
first (R349, R370, R371). -/
theorem laneRxBlockStep_reaches {hdr bits drained : Nat} (h1 : (getLane b n).loop ≠ 1) (h2 : (getLane b n).loop ≠ 2)
    (hon : laneState b n ≠ 0 ∨ (getLane b n).loop ≠ 0 ∨ (getLane b n).chk = true) :
    laneRxBlockStep n hdr bits drained b =
      let inv := laneCfg b n Rg.lRxInvert == 1
      let hd := if inv then 3 - hdr else hdr
      let x := if inv then 2 ^ 64 - 1 - bits else bits
      let t := portTaken n drained b
      laneTakes n hd x (if (getLane b n).loop = 3 then
        laneLine n (if laneMode t n = 2 then none else some (BitVec.ofNat 2 hd)) (BitVec.ofNat 64 x) t else t) := by
  have hdis : (laneState b n == 0 && (getLane b n).loop == 0 && !(getLane b n).chk) = false := by
    rcases hon with h | h | h <;> simp [h]
  delta laneRxBlockStep
  refine (if_neg (by simp [hdis, h1, h2])).trans ?_
  simp only [when, beq_iff_eq]
  rfl

/-! ## Slips and block lock -/

/-- Block lock gained leads STEP on to EQ, and makes BASE ready with CAPS (R358). -/
theorem blockLockGainedStep_gains (hm : laneMode b n ≠ 2) (hst : laneState b n ≠ 0) (hlock : b.flag (Rg.lane n) Rg.lBlockLock = false) :
    blockLockGainedStep n b =
      let b := lockGained n b
      if laneState b n = 2 ∧ (getLane b n).stepTo = none then b.put (Rg.lane n) Rg.lState 3 else baseReady n b := by
  rw [blockLockGainedStep, if_neg (by simp [hm, hst, hlock])]
  simp only [Bool.and_eq_true, beq_iff_eq, Option.isNone_iff_eq_none]

/-- Block lock lost is counted; it makes a data lane of an ACTIVE group steer or degrade its group (R354, R368, R369). -/
theorem blockLockLostStep_drops (hlock : b.flag (Rg.lane n) Rg.lBlockLock = true) :
    blockLockLostStep n b =
      let b := lockDropped n b
      if laneState b n = 5 ∧ laneGroup b n ≠ 0 ∧ logicalOf b n < 16 ∧ laneFailed b n = false then
        if idleSpares b n = [] then laneLost n b else steerReq n true (steerAbrupt n b)
      else b := by
  rw [blockLockLostStep, if_neg (by simp [hlock])]
  simp only [Bool.and_eq_true, beq_iff_eq, bne_iff_ne, decide_eq_true_eq, Bool.not_eq_true', List.isEmpty_iff, and_assoc]

end

/-! ## The obligation of blocks and block lock -/

/-- Settles O34: each row acts on its die's clocks, and the lane's mode, loopback and state choose the branch named. -/
theorem laneBlocks : Obligations.LaneBlocks := by
  intro s n hrun
  refine ⟨fun ctrl payload => ⟨?_, fun hg ho hl => ⟨?_, fun hm => ⟨?_, ?_, ?_⟩⟩⟩, fun hdr payload drained h1 h2 hon => ⟨?_, ?_⟩, ?_, ?_, ?_⟩
  · -- LANE_TX_BLOCK with a generator
    intro hg
    exact clockedOn_acts hrun (laneTxBlockStep_gen hg)
  · -- LANE_TX_BLOCK in RAW mode
    intro hm
    exact clockedOn_acts hrun (laneTxBlockStep_raw hg ho hl hm)
  · -- LANE_TX_BLOCK around a near-end loopback
    intro h1
    exact clockedOn_acts hrun ((laneTxBlockStep_open hg ho hl).trans ((if_neg hm).trans (if_pos (by omega))))
  · -- LANE_TX_BLOCK of a lane without a group
    intro h0 hgrp
    exact clockedOn_acts hrun ((laneTxBlockStep_open hg ho hl).trans ((if_neg hm).trans ((if_neg (by omega)).trans (if_pos hgrp))))
  · -- LANE_TX_BLOCK over a group
    intro h0 hgrp hport
    exact clockedOn_acts hrun ((laneTxBlockStep_open hg ho hl).trans
      ((if_neg hm).trans ((if_neg (by omega)).trans ((if_neg hgrp).trans (if_neg (Nat.not_le.2 hport))))))
  · -- LANE_RX_BLOCK
    intro h3
    exact clockedOn_acts hrun ((laneRxBlockStep_reaches h1 h2 hon).trans (congrArg (laneTakes n _ _) (if_neg h3)))
  · -- LANE_RX_BLOCK in a far-end loopback of the line
    intro h3
    exact clockedOn_acts hrun ((laneRxBlockStep_reaches h1 h2 hon).trans (congrArg (laneTakes n _ _) (if_pos h3)))
  · -- RX_SLIP
    intro hm ho
    exact clockedOn_acts hrun (if_pos (by simp [hm, ho]))
  · -- BLOCK_LOCK_GAINED
    intro hm hst hlock
    exact clockedOn_acts hrun (blockLockGainedStep_gains hm hst hlock)
  · -- BLOCK_LOCK_LOST
    intro hlock b hb
    subst hb
    have hdrop := blockLockLostStep_drops hlock
    refine ⟨fun h5 hgrp hlog hfail => ⟨fun hnone => ?_, fun hsome => ?_⟩, fun hout => ?_⟩
    · exact clockedOn_sets hrun (hdrop.trans ((if_pos ⟨h5, hgrp, hlog, hfail⟩).trans (if_pos hnone)))
    · exact clockedOn_sets hrun (hdrop.trans ((if_pos ⟨h5, hgrp, hlog, hfail⟩).trans (if_neg hsome)))
    · exact clockedOn_sets hrun (hdrop.trans (if_neg fun h => hout.elim (· h.1) (h.2.1 ·)))

end Sys2Proof.Proofs
end

section
/-! Serial lanes (12): the messages of the lane layer. -/

namespace Sys2Proof.Proofs

open Sys2Proof.Machine Sys2Proof.Laws

section
variable {n : Nat} {b : Block}

/-! ## Negotiation -/

/-- In BASE the far end's CAPS, with a code in common and another NONCE, are kept (R358). -/
theorem lnbCapsStep_keeps {map nonce : BitVec 8} {cap : Bool} (hst : laneState b n = 1) (hgrp : laneGroup b n = 0)
    (hcommon : Nat.land map.toNat (localMap (b.put (Rg.lane n) Rg.lFarMap map.toNat) n) ≠ 0) (hnonce : nonce ≠ (getLane b n).nonce) :
    lnbCapsStep n map nonce cap b =
      baseReady n (modLane n (fun x => { x with farNonce := some nonce }) (b.put (Rg.lane n) Rg.lFarMap map.toNat)) := by
  delta lnbCapsStep
  refine (if_neg (by simp [hst])).trans ((if_neg (by simp [hgrp])).trans ?_)
  exact (if_neg (by simpa using hcommon)).trans (if_neg (by simpa using hnonce))

/-- The end with the smaller NONCE acknowledges the step to the next common code, and takes it (R358). -/
theorem lnbStepReqStep_follows {code : Nat} (hm : laneMode b n = 0) (hp : (getLane b n).phase = 3) (hst : laneState b n ≠ 5)
    (hnext : nextCode b n = some code) (hless : (getLane b n).nonce.toNat < ((getLane b n).farNonce.getD 0).toNat) :
    lnbStepReqStep n code b = laneStepBegin n code (laneMsg n 3 code 0xF 0 0 b) :=
  if_pos (by simp only [hm, hp, hnext, hless]; simpa using hst)

/-! ## Coefficients -/

section
variable {pre post : Nat} (hm : laneMode b n = 0) (hst : laneState b n = 3)
include hm hst

/-- In EQ a coefficient request is answered, whatever it changes (R362). -/
theorem lnbCoeffStep_answers (preset : Nat) :
    lnbCoeffStep n preset pre post b = laneMsg n 5 0 0xF 0 0
      (if preset < 8 then lanePreset n preset b
      else
        match coeffStep (b.f (Rg.lane n) Rg.lCPre) pre 12, coeffStep (b.f (Rg.lane n) Rg.lCPost) post 24 with
        | some x, some y => (b.put (Rg.lane n) Rg.lCPre x).put (Rg.lane n) Rg.lCPost y
        | _, _ => b) := by
  have heq : laneInEq b n = true := by simp [laneInEq, hst]
  delta lnbCoeffStep
  exact if_neg (by simp [hm, heq])

theorem lnbCoeffStep_preset {preset : Nat} (hp : preset < 8) :
    lnbCoeffStep n preset pre post b = laneMsg n 5 0 0xF 0 0 (lanePreset n preset b) := by
  rw [lnbCoeffStep_answers hm hst, if_pos hp]

theorem lnbCoeffStep_update {preset x y : Nat} (hp : 8 ≤ preset) (hx : coeffStep (b.f (Rg.lane n) Rg.lCPre) pre 12 = some x)
    (hy : coeffStep (b.f (Rg.lane n) Rg.lCPost) post 24 = some y) :
    lnbCoeffStep n preset pre post b =
      laneMsg n 5 0 0xF 0 0 ((b.put (Rg.lane n) Rg.lCPre x).put (Rg.lane n) Rg.lCPost y) := by
  rw [lnbCoeffStep_answers hm hst, if_neg (Nat.not_lt.2 hp)]
  simp only [hx, hy]

end

/-! ## Steering -/

section
variable {k m sp : Nat} (hcar : carrier b n k = some m)
include hcar

/-- The sender of a data lane chooses the first idle spare (R367). -/
theorem lnbSteerReqStep_chooses {rest : List Nat} (hsp : idleSpares b n = sp :: rest) (hnone : (getLane b m).sendOn = none) (hk : k < 16) :
    lnbSteerReqStep n k b = modLane m (fun x => { x with sendOn := some (sp, false) }) b := by
  simp only [lnbSteerReqStep, hcar, hsp]
  exact if_pos (by simp [hnone, hk])

/-- A lane whose logical lane a spare duplicates gives it up (R367). -/
theorem lnbSteerDoneStep_moves (hdup : (getLane b m).sendOn = some (sp, true)) : lnbSteerDoneStep n k b = steerMove m sp b := by
  simp only [lnbSteerDoneStep, hcar, hdup]

end

/-! ## Repetition -/

/-- A message that is not acknowledged is sent again (R357). -/
theorem lnbRepeatStep_sends {p : BitVec 64} (hp : (getLane b n).msg = some p) : lnbRepeatStep n b = laneSend n true p b := by
  simp only [lnbRepeatStep, hp]

end

/-! ## The obligation of the messages -/

/-- Settles O35: each message falls on a die whose clocks run, and the lane's state and what it has exchanged meet its guard. -/
theorem laneMessages : Obligations.LaneMessages := by
  intro s n code k hrun
  refine ⟨?_, ?_, ?_, fun hm hst => ⟨?_, ?_⟩, ?_, fun m sp rest hcar => ⟨?_, ?_⟩, ?_, ?_⟩
  · -- LNB_CAPS
    intro map nonce cap hst hgrp b hb hcommon hnonce
    subst hb
    exact clockedOn_sets hrun (lnbCapsStep_keeps hst hgrp hcommon hnonce)
  · -- LNB_STEP_REQ
    intro hm hp hst hnext hless
    exact clockedOn_acts hrun (lnbStepReqStep_follows hm hp hst hnext hless)
  · -- LNB_STEP_ACK
    intro hasked
    exact clockedOn_acts hrun (if_pos (beq_iff_eq.2 hasked))
  · -- LNB_COEFF with a preset
    intro preset pre post hp
    exact clockedOn_acts hrun (lnbCoeffStep_preset hm hst hp)
  · -- LNB_COEFF with one-step updates
    intro pre post x y hx hy
    exact clockedOn_acts hrun (lnbCoeffStep_update hm hst (by decide) hx hy)
  · -- LNB_COEFF_ACK
    exact clockedOn_answers _ _ s hrun
  · -- LNB_STEER_REQ
    intro abrupt hsp hnone hk
    exact clockedOn_acts hrun (lnbSteerReqStep_chooses hcar hsp hnone hk)
  · -- LNB_STEER_DONE
    intro hdup
    exact clockedOn_acts hrun (lnbSteerDoneStep_moves hcar hdup)
  · -- LNB_STEER_ACK
    exact clockedOn_answers _ _ s hrun
  · -- LNB_REPEAT
    intro p hp
    exact clockedOn_acts hrun (lnbRepeatStep_sends hp)

end Sys2Proof.Proofs
end

section
/-! Serial lanes (12): the events of bring-up, equalisation, steering, eye scans and snapshots. -/

namespace Sys2Proof.Proofs

open Sys2Proof.Machine Sys2Proof.Laws

section
variable {n : Nat} {b : Block}

/-! ## Bring-up and equalisation -/

/-- A lane in STEP switches to the code of its step, with START_PRESET (R358, R362). -/
theorem laneRateSwitchStep_switches {code : Nat} (hto : (getLane b n).stepTo = some code) (hst : laneState b n = 2) :
    laneRateSwitchStep n b = lanePreset n (laneCfg b n Rg.lStartPreset) (rateSwitched n code b) := by
  simp only [laneRateSwitchStep, hto]
  exact if_neg (by simp [hst])

/-- EQ ends in ACTIVE in FIXED and RAW modes, and else in CHECK (R359, R364). -/
theorem laneEqEndStep_inEq {ctle : BitVec 4} {tap1 margin : BitVec 8} (heq : laneInEq b n = true) :
    laneEqEndStep n ctle tap1 margin b =
      let b := eqFound n ctle tap1 margin b
      if laneMode b n ≠ 0 then laneActive n b else checkBegin n (if laneState b n = 1 then b else b.put (Rg.lane n) Rg.lState 4) := by
  rw [laneEqEndStep, if_neg (by simp [heq])]
  simp only [bne_iff_ne, beq_iff_eq]

/-- CHECK passes or fails with what came by blocks and by the row (R359, R360). -/
theorem laneCheckEndStep_results {pass : Bool} (hm : laneMode b n = 0) (hp : (getLane b n).phase = 2)
    (hst : laneState b n = 4 ∨ laneState b n = 1) :
    laneCheckEndStep n pass b = laneResult n (pass && !(getLane b n).spoiled) b :=
  if_pos (by simpa [hm, hp] using hst)

/-- Without block lock in time the code of a step fails (R360). -/
theorem laneLockTimeoutStep_fails (hst : laneState b n = 2) (hto : (getLane b n).stepTo = none)
    (hlock : b.flag (Rg.lane n) Rg.lBlockLock = false) : laneLockTimeoutStep n b = laneResult n false b :=
  if_pos (by simp [hst, hto, hlock])

/-- A lane in BASE tries again, and after 100 tries says once that it has no partner (R360). -/
theorem laneBaseRetryStep_tries (hst : laneState b n = 1) :
    laneBaseRetryStep n b =
      if 99 ≤ (getLane b n).retries ∧ (getLane b n).said = false then laneEvent n Ev.laneNoPartner (baseReady n (laneAgain n b))
      else baseReady n (laneAgain n b) :=
  (if_neg (by simp [hst])).trans (when_of_iff (by simp) ..)

/-- An ACTIVE lane that has lost block lock outside a test retrains: alone, or with its group behind a test (R361, R374). -/
theorem laneRetrainStep_unlocked (hst : laneState b n = 5) (hlock : b.flag (Rg.lane n) Rg.lBlockLock = false)
    (htest : b.flag (Rg.lane n) Rg.lTest = false) (hm : laneMode b n ≠ 2) :
    laneRetrainStep n b =
      if laneGroup b n = 0 then
        let b := laneEvent n Ev.laneRetrain b
        if laneMode b n = 0 then laneBase n b else laneStart n b
      else if (getLane b n).tested then (groupLanes b n).foldl (fun b m => laneBase m b) b
      else b := by
  rw [laneRetrainStep, if_neg (by simp [hst, hlock, htest, hm])]
  simp only [beq_iff_eq]
  rfl

/-! ## Steering -/

/-- A degrading data lane of an ACTIVE group asks to be steered while an idle spare remains (R367). -/
theorem laneDegradingStep_eq {errs : Nat} {margin : BitVec 8} :
    laneDegradingStep n errs margin b =
      let b := b.put (Rg.lane n) Rg.lMargin margin.toNat
      if (laneCfg b n Rg.lDegradeThresh ≤ errs ∨ margin.toNat < laneCfg b n Rg.lMarginMin) ∧ laneState b n = 5 ∧ laneGroup b n ≠ 0 ∧
          logicalOf b n < 16 ∧ laneFailed b n = false ∧ b.flag (Rg.lane n) Rg.lSteering = false ∧ idleSpares b n ≠ [] then
        steerReq n false (steerAsked n b)
      else b := by
  simp only [laneDegradingStep, Bool.and_eq_true, Bool.or_eq_true, decide_eq_true_eq, beq_iff_eq, bne_iff_ne, Bool.not_eq_true',
    List.isEmpty_eq_false_iff, and_assoc]

section
variable {k old flagged : Nat} {clean : Bool} (hidle : idleSpare b n = true) (hcar : carrier b n k = some old)
include hidle hcar

/-- After an abrupt fault the marker that duplicates the lane moves it at once (R368). -/
theorem groupMarkerStep_abrupt {t : BitVec 64} {seen : Option Nat} (hs : (getLane b old).steer = some (some t, flagged, seen)) :
    groupMarkerStep n k true clean b = steerTake old n (some t) flagged b := by
  refine (if_neg (by simp [hidle])).trans ?_
  simp only [hcar, hs]

/-- A steering without loss takes two markers: the first on a spare is noted, and the one that ends a clean interval there moves
the lane (R367). -/
theorem groupMarkerStep_gentle {seen : Option Nat} (hs : (getLane b old).steer = some (none, flagged, seen)) :
    groupMarkerStep n k true clean b =
      if seen = some n ∧ clean = true then steerTake old n none flagged b
      else modLane old (fun x => { x with steer := some (none, flagged, some n) }) b := by
  refine (if_neg (by simp [hidle])).trans ?_
  simp only [hcar, hs, Bool.and_eq_true, beq_iff_eq]

end

/-! ## Eye scans and time-outs -/

/-- The records of a scan are written, and its command answered (R372). -/
theorem eyescanDoneStep_writes {counts : List Nat} {x : EyeScan} (hx : (getLane b n).scan = some x) :
    eyescanDoneStep n counts b =
      (writeMem (srcQuad n) x.addr (scanBytes x counts) (modLane n (fun x => { x with scan := none }) b)).2.close 0x0406 n St.ok := by
  delta eyescanDoneStep
  simp only [hx]

/-- A LANE_UP that waits is answered with NO_PARTNER (R375). -/
theorem laneUpTimeoutStep_closes {die mask : Nat} (h : openOf b 0x0400 (die * 2 ^ 32 + mask) ≠ []) :
    laneUpTimeoutStep die mask b =
      (reachTime (BitVec.ofNat 64 (upSince b die mask + 1000000000)) b).close 0x0400 (die * 2 ^ 32 + mask) St.noPartner := by
  delta laneUpTimeoutStep
  split
  · next e => exact absurd e h
  · rfl

end

/-! ## The obligation of the lane events -/

/-- Settles O36: each event falls on running clocks, and the lane's state meets its guard. That rows bring DEV_TIME to their instant is log
entry 8, and that the row says how CHECK passed log entry 45. -/
theorem laneEvents : Obligations.LaneEvents := by
  intro s n hrun
  refine ⟨?_, ?_, ?_, ?_, ?_, fun hst hlock htest hm => ⟨?_, ?_⟩, fun errs margin b hb => ⟨?_, ?_⟩,
    fun k clean old flagged hidle hcar => ⟨?_, ?_, ?_⟩, ?_, ?_, ?_, ?_⟩
  · -- LANE_RATE_SWITCH
    intro code hto hst
    exact clockedOn_acts hrun (laneRateSwitchStep_switches hto hst)
  · -- LANE_EQ_END
    intro ctle tap1 margin heq b hb
    subst hb
    have hend := laneEqEndStep_inEq (ctle := ctle) (tap1 := tap1) (margin := margin) heq
    refine ⟨fun hm => ?_, fun hm => ?_⟩
    · exact clockedOn_sets hrun (hend.trans (if_pos hm))
    · exact clockedOn_sets hrun (hend.trans (if_neg (not_not.2 hm)))
  · -- LANE_CHECK_END
    intro pass hm hp hst
    exact clockedOn_acts hrun (laneCheckEndStep_results hm hp hst)
  · -- LANE_LOCK_TIMEOUT
    intro hst hto hlock
    exact clockedOn_acts hrun (laneLockTimeoutStep_fails hst hto hlock)
  · -- LANE_BASE_RETRY
    intro hst
    exact clockedOn_acts hrun (laneBaseRetryStep_tries hst)
  · -- LANE_RETRAIN of a lane without a group
    intro hgrp
    exact clockedOn_acts hrun ((laneRetrainStep_unlocked hst hlock htest hm).trans (if_pos hgrp))
  · -- LANE_RETRAIN of a group
    intro hgrp htested
    exact clockedOn_acts hrun ((laneRetrainStep_unlocked hst hlock htest hm).trans ((if_neg hgrp).trans (if_pos htested)))
  · -- LANE_DEGRADING with a spare to steer to
    intro hbad h5 hgrp hlog hfail hsteer hsp
    subst hb
    exact clockedOn_sets hrun (laneDegradingStep_eq.trans (if_pos ⟨hbad, h5, hgrp, hlog, hfail, hsteer, hsp⟩))
  · -- LANE_DEGRADING within its bounds
    intro herrs hmargin
    subst hb
    exact clockedOn_sets hrun
      (laneDegradingStep_eq.trans (if_neg fun h => h.1.elim (Nat.not_le.2 herrs) (Nat.not_lt.2 hmargin)))
  · -- GROUP_MARKER after an abrupt fault
    intro t seen hs
    exact clockedOn_acts hrun (groupMarkerStep_abrupt hidle hcar hs)
  · -- GROUP_MARKER, the first on the spare
    intro hs
    exact clockedOn_acts hrun ((groupMarkerStep_gentle hidle hcar hs).trans (if_neg (by simp)))
  · -- GROUP_MARKER that ends a clean interval on the spare
    intro hs
    exact clockedOn_acts hrun ((groupMarkerStep_gentle hidle hcar hs).trans (if_pos ⟨rfl, rfl⟩))
  · -- BMK_SEND
    intro d g hd
    exact clockedOn_answers _ _ s hd
  · -- EYESCAN_DONE
    intro counts x hx
    exact clockedOn_acts hrun (eyescanDoneStep_writes hx)
  · -- LANE_SNAP
    exact clockedOn_answers _ _ s hrun
  · -- LANE_UP_TIMEOUT
    intro d mask hopen
    exact clocked_acts hrun.1 (laneUpTimeoutStep_closes hopen)

end Sys2Proof.Proofs
end

section
/-! DRAM controllers (13): the commands on a channel. -/

namespace Sys2Proof.Proofs

open Sys2Proof.Machine Sys2Proof.Laws

section
variable {n : Nat} {c : Cmd} {b : Block} (hn : n < 8)
include hn

/-! ## The commands on a channel -/

/-- An UNTRAINED, QUIESCED or FAILED channel without a test starts to train, at a given rate or, with rate 255, at its best
(R413; log entry 46). -/
theorem dramTrainCmd_starts {rate : Nat} (hrate : rate < 4 ∨ rate = 255) (hst : dcState b n = 0 ∨ dcState b n = 4 ∨ dcState b n = 6)
    (hfree : dcTesting b n = false) :
    dramTrainCmd n rate c b = (trainStart n .command (if rate = 255 then none else some rate) b).hold c 0x0500 n := by
  have hargs : (decide (8 ≤ n) || decide (4 ≤ rate) && rate != 255) = false := by
    rcases hrate with h | h <;> simp [Nat.not_le.2 hn, h]
  rw [dramTrainCmd, if_neg (by simp only [hargs]; decide)]
  refine (if_pos (by simpa [or_assoc] using hst)).trans ((if_neg (by simp [hfree])).trans ?_)
  simp only [beq_iff_eq]

theorem dramStatusCmd_known : dramStatusCmd n c b = b.respond c St.ok [(4, (b.reg (Rg.dc n)).toNat)] :=
  if_neg (Nat.not_le.2 hn)

/-- An ONLINE channel drains (R409). -/
theorem dramQuiesceCmd_online (hst : dcState b n = 2) : dramQuiesceCmd n c b = (enterDc n 3 b).hold c 0x0502 n :=
  (if_neg (Nat.not_le.2 hn)).trans (if_pos (beq_iff_eq.2 hst))

/-- A QUIESCED channel without a test leaves self-refresh (R409). -/
theorem dramResumeCmd_quiesced (hst : dcState b n = 4) (hfree : dcTesting b n = false) :
    dramResumeCmd n c b = (modDc n (fun c => { c with selfRefresh := false }) (enterDc n 2 b)).respond c St.ok :=
  (if_neg (Nat.not_le.2 hn)).trans ((if_pos (beq_iff_eq.2 hst)).trans (if_neg (by simp [hfree])))

/-- A channel out of service is taken OFFLINE (R411). -/
theorem dramOfflineCmd_idle (hst : dcState b n = 4 ∨ dcState b n = 5 ∨ dcState b n = 6) (hfree : dcTesting b n = false) :
    dramOfflineCmd n c b =
      (modDc n (fun c => { c with dimm := none, selfRefresh := false, lost := false }) (contentsNew n (enterDc n 7 b))).respond
        c St.ok := by
  rw [dramOfflineCmd, if_neg (Nat.not_le.2 hn)]
  exact (if_pos (by simpa [or_assoc] using hst)).trans (if_neg (by simp [hfree]))

/-- An OFFLINE channel whose domain is switched on trains its new memory (R411; log entry 46). -/
theorem dramOnlineCmd_offline (hdom : (40 + n) ∉ b.net.domOff) (hst : dcState b n = 7) :
    dramOnlineCmd n c b = (trainStart n .online none b).hold c 0x0505 n :=
  (if_neg (Nat.not_le.2 hn)).trans ((if_neg (by simpa using hdom)).trans (if_pos (beq_iff_eq.2 hst)))

/-- A march runs over a range of a QUIESCED channel (R416). -/
theorem dramSelftestCmd_begins {off len : Nat} (hin : off + len ≤ (getDc b n).cap) (hlen : 0 < len) (hst : dcState b n = 4)
    (hfree : dcTesting b n = false) :
    dramSelftestCmd n off len c b =
      (testBegins { test := 6, target := n, slot := none, resume := false, begun := true } (marchRange n off len b)).hold c 0x0506 n := by
  rw [dramSelftestCmd, if_neg (by simp [Nat.not_le.2 hn, Nat.not_lt.2 hin, Nat.ne_of_gt hlen]), if_neg (by simp [hst]),
    if_neg (by simp [hst]), if_neg (by simp [hfree])]

/-- A sweep whose last point is in range begins on a channel that trains or is QUIESCED (R415). -/
theorem dramBracketCmd_begins {ctrl : BitVec 64} (hst : dcState b n = 1 ∨ dcState b n = 4) (hfree : dcTesting b n = false)
    (hin : bracketInRange ctrl.toNat = true) :
    dramBracketCmd n ctrl c b =
      ((b.plainWrite (Rg.dc n + 0x1000) true ctrl.toNat).putB (Rg.dc n) Rg.bkBusy true).hold c 0x0507 n := by
  rw [dramBracketCmd, if_neg (Nat.not_le.2 hn)]
  have herr : ¬ (dcState b n == 5) = true := by rcases hst with h | h <;> simp [h]
  have hidle : ¬ (dcState b n != 1 && dcState b n != 4) = true := by rcases hst with h | h <;> simp [h]
  exact (if_neg herr).trans ((if_neg hidle).trans ((if_neg (by simp [hfree])).trans (if_neg (by simp [hin]))))

/-- A channel in CHANNEL_ERROR trains again (R412). -/
theorem dramRecoverCmd_failed (hst : dcState b n = 5) :
    dramRecoverCmd n c b = (trainStart n .recover none b).hold c 0x0508 n :=
  (if_neg (Nat.not_le.2 hn)).trans (if_pos (beq_iff_eq.2 hst))

end

/-! ## The obligation of the DRAM commands -/

/-- Settles O37: each command is admitted, its die is reached, and the channel's state meets its guard. The response of DRAM_STATUS is log
entry 12; rate 255 and DRAM_ONLINE's domain are log entry 46. -/
theorem dramCommands : Obligations.DramCommands := by
  intro s h n hn hon
  refine ⟨fun hA hfree hst => ⟨fun rate hrate => ?_, ?_⟩, ?_, ?_, ?_, ?_, ?_, ?_, ?_, ?_⟩
  · -- DRAM_TRAIN at a rate
    refine dieCommand_acts hA hon ((dramTrainCmd_starts hn (.inl hrate) hst hfree).trans ?_)
    rw [if_neg (by omega)]
    rfl
  · -- DRAM_TRAIN without a rate
    exact dieCommand_acts hA hon (dramTrainCmd_starts hn (.inr rfl) hst hfree)
  · -- DRAM_STATUS
    intro hA
    exact dieCommand_acts hA hon (dramStatusCmd_known hn)
  · -- DRAM_QUIESCE
    intro hA hst
    exact dieCommand_acts hA hon (dramQuiesceCmd_online hn hst)
  · -- DRAM_RESUME
    intro hA hst hfree
    exact dieCommand_acts hA hon (dramResumeCmd_quiesced hn hst hfree)
  · -- DRAM_OFFLINE
    intro hA hst hfree
    exact dieCommand_acts hA hon (dramOfflineCmd_idle hn hst hfree)
  · -- DRAM_ONLINE
    intro hA hdom hst
    exact dieCommand_acts hA hon (dramOnlineCmd_offline hn hdom hst)
  · -- DRAM_SELFTEST
    intro off len kind hA hin hlen hst hfree
    exact dieCommand_acts hA hon (dramSelftestCmd_begins hn hin hlen hst hfree)
  · -- DRAM_BRACKET
    intro ctrl hA hst hfree hin
    exact dieCommand_acts hA hon (dramBracketCmd_begins hn hst hfree hin)
  · -- DRAM_RECOVER
    intro hA hst
    exact dieCommand_acts hA hon (dramRecoverCmd_failed hn hst)

end Sys2Proof.Proofs
end

section
/-! DRAM controllers (13): requests for lines, and a channel's own events. -/

namespace Sys2Proof.Proofs

open Sys2Proof.Machine Sys2Proof.Laws

section
variable {n line src : Nat} {b : Block}

/-! ## Requests that a channel takes -/

/-- An ONLINE channel with its port open takes requests (R409). -/
theorem dcTakes_of_online (hst : dcState b n = 2) (hp : portState b (dcPortId n) = 0) : dcTakes b n = true := by
  simp [dcTakes, hst, hp]

/-- A line that a request cannot have now: one behind the channel's memory, or one that a locked pair holds (R384). -/
def lineBusy (b : Block) (n line : Nat) : Bool := !dcHasLine b n line || (getDc b n).lock.contains line

theorem lineBusy_eq_false (hin : 64 * line < (getDc b n).cap) (hlock : (getDc b n).lock.contains line = false) :
    lineBusy b n line = false := by
  simp only [lineBusy, dcHasLine, hin, hlock, decide_true, Bool.not_true, Bool.or_self]

section
variable {id : Nat} {stream : Bool}

/-- A channel that takes no request answers a read with its status (R409). -/
theorem dramLineReadStep_refused (ht : dcTakes b n = false) :
    dramLineReadStep n id line src stream b = b.emit (.lineResponse n id (dcStatusOf b n) false 0) :=
  if_pos (by simp [ht])

/-- A read of a line at hand joins the reads, or reads zeros from a block without contents (R385, R406). -/
theorem dramLineReadStep_taken (ht : dcTakes b n = true) (hfree : lineBusy b n line = false) (hroom : (getDc b n).rq.length < 256) :
    dramLineReadStep n id line src stream b =
      if blockDone (getDc b n) (blockOf line) = false then b.emit (.lineResponse n id 0 false 0)
      else acceptRead n { id := id, kind := .read, line := line, scr := viewScr b n src, form := lineForm b n line, stream := stream,
                          time := b.devTime, merge := none, issued := none } b := by
  have hfull : rqFull (getDc b n) = false := decide_eq_false (Nat.not_le.2 hroom)
  delta dramLineReadStep
  refine (if_neg (by simp [ht])).trans ((if_neg (by rw [← lineBusy, hfree, hfull]; decide)).trans ?_)
  simp only [Bool.not_eq_true']

end

section
variable {data : BitVec 512}

theorem dramLineWriteStep_refused {id : Nat} (ht : dcTakes b n = false) :
    dramLineWriteStep n (some id) line src data b = b.emit (.lineResponse n id (dcStatusOf b n) false 0) :=
  if_pos (by simp [ht])

/-- A posted write that a channel does not take is discarded and counted (R469). -/
theorem dramLineWriteStep_discarded (ht : dcTakes b n = false) :
    dramLineWriteStep n none line src data b = bumpDiscard (dcPortId n) b :=
  if_pos (by simp [ht])

/-- The block of a line has contents: a write initialises it first (R407). -/
def blockReady (n line : Nat) (b : Block) : Block := if blockDone (getDc b n) (blockOf line) then b else initBlock n (blockOf line) b

/-- A line enters the write queue in its stored form with its tag (R386, R430, R434). -/
def writeStored (n line src : Nat) (data : BitVec 512) (b : Block) : Block :=
  let v := storedForm (lineForm b n line) (viewScr b n src) data
  enterWrite n line v.1 v.2 b

/-- A write of a line at hand enters the queue, and one that is not posted is answered (R386, R407). -/
theorem dramLineWriteStep_taken {id : Option Nat} (ht : dcTakes b n = true) (hfree : lineBusy b n line = false)
    (hroom : (getDc b n).wq.length < 128) :
    dramLineWriteStep n id line src data b =
      match id with
      | some i => (writeStored n line src data (blockReady n line b)).emit (.lineResponse n i 0 false 0)
      | none => writeStored n line src data (blockReady n line b) := by
  delta dramLineWriteStep
  refine (if_neg (by simp [ht])).trans ((if_neg ?_).trans ?_)
  · rw [← lineBusy, hfree, Bool.false_or]
    simpa using hroom
  · cases id <;> rfl

end

section
variable {id : Nat} {merge : Merge}

theorem dramLockedPairStep_refused (ht : dcTakes b n = false) :
    dramLockedPairStep n id line src merge b = b.emit (.lineResponse n id (dcStatusOf b n) false 0) :=
  if_pos (by simp [ht])

/-- In the scrambled view a keyed line denies a locked pair (R434). -/
theorem dramLockedPairStep_denied (ht : dcTakes b n = true) (hscr : viewScr b n src = true) (hkey : (lineForm b n line).key.isSome = true) :
    dramLockedPairStep n id line src merge b = b.emit (.lineResponse n id 2 false 0) :=
  (if_neg (by simp [ht])).trans (if_pos (by simp only [hscr, hkey]; decide))

/-- Elsewhere it locks its line and reads it (R384, R407). -/
theorem dramLockedPairStep_taken (ht : dcTakes b n = true) (hview : viewScr b n src = false ∨ (lineForm b n line).key = none)
    (hfree : lineBusy b n line = false) (hroom : (getDc b n).rq.length < 256) :
    dramLockedPairStep n id line src merge b =
      pairAccepted n id line (viewScr b n src) merge (if blockDone (getDc b n) (blockOf line) then b else initBlock n (blockOf line) b) := by
  have hfull : rqFull (getDc b n) = false := decide_eq_false (Nat.not_le.2 hroom)
  have hden : (viewScr b n src && (lineForm b n line).key.isSome) = false := by
    rcases hview with h | h <;> simp [h]
  delta dramLockedPairStep
  exact (if_neg (by simp [ht])).trans ((if_neg (by simp [hden])).trans (if_neg (by rw [← lineBusy, hfree, hfull]; decide)))

end
end

/-! ## The obligation of the requests -/

/-- Settles O38: a channel that takes no request answers its status; on one that does the line is at hand and its queue has room. -/
theorem dramRequests : Obligations.DramRequests := by
  intro s n id line src hrun
  refine ⟨fun ht => ⟨fun stream => ?_, fun data => ?_, fun data => ?_, fun merge => ?_⟩, fun hst hp hin hlock => ?_⟩
  · -- DRAM_LINE_READ of a channel that takes none
    exact clockedOn_acts hrun (dramLineReadStep_refused ht)
  · -- DRAM_LINE_WRITE of such a channel
    exact clockedOn_acts hrun (dramLineWriteStep_refused ht)
  · -- DRAM_LINE_WRITE of such a channel, posted
    exact clockedOn_acts hrun (dramLineWriteStep_discarded ht)
  · -- DRAM_LOCKED_PAIR of such a channel
    exact clockedOn_acts hrun (dramLockedPairStep_refused ht)
  have ht := dcTakes_of_online hst hp
  have hfree := lineBusy_eq_false hin hlock
  refine ⟨fun stream hroom => ⟨fun hdone => ?_, fun hdone => ?_⟩, fun data hroom => ⟨?_, ?_⟩, fun merge => ⟨fun hscr hkey => ?_, fun hview hroom => ?_⟩⟩
  · -- DRAM_LINE_READ of a block without contents
    exact clockedOn_acts hrun ((dramLineReadStep_taken ht hfree hroom).trans (if_pos hdone))
  · -- DRAM_LINE_READ
    exact clockedOn_acts hrun ((dramLineReadStep_taken ht hfree hroom).trans (if_neg (by simp [hdone])))
  · -- DRAM_LINE_WRITE
    exact clockedOn_acts hrun (dramLineWriteStep_taken ht hfree hroom)
  · -- DRAM_LINE_WRITE, posted
    exact clockedOn_acts hrun (dramLineWriteStep_taken ht hfree hroom)
  · -- DRAM_LOCKED_PAIR of a keyed line in the scrambled view
    exact clockedOn_acts hrun (dramLockedPairStep_denied ht hscr hkey)
  · -- DRAM_LOCKED_PAIR
    exact clockedOn_acts hrun (dramLockedPairStep_taken ht hview hfree hroom)

end Sys2Proof.Proofs
end

section
/-! DRAM controllers (13): a channel's own events. -/

namespace Sys2Proof.Proofs

open Sys2Proof.Machine Sys2Proof.Laws

section
variable {n : Nat} {b : Block}

/-! ## Training, draining and a lost supply -/

/-- Training of a supported memory that fits its pair and its place passes at a rate that is not below the one asked for
(R376, R411, R414). -/
theorem dramTrainDoneStep_passes {w : TrainWhy} {d : Dimm} {pair : Option Bool} {r : Nat} {selfRef : Bool}
    (hw : (getDc b n).training = some w) (hsup : dimmSupported d = true) (hsame : d.sameRanks = true) (hpair : pair ≠ some (!d.ddr4))
    (hcap : ¬ (w = .online ∧ dimmCapacity d < mappedCap b.dmap n))
    (htop : (dimmRates d).contains (((getDc b n).rateAsked).getD ((dimmRates d).headD 0)) = true)
    (hr : (dimmRates d).contains r = true) (hle : ((getDc b n).rateAsked).getD ((dimmRates d).headD 0) ≤ r) :
    dramTrainDoneStep n (some d) pair (some r) selfRef b =
      trainPass n w d r (decide (((getDc b n).rateAsked).getD ((dimmRates d).headD 0) < r)) (trainKeeps n w selfRef b) b := by
  delta dramTrainDoneStep
  simp only [hw]
  refine (if_neg (by rw [hsup, htop]; decide)).trans ((if_neg (by simp [hsame])).trans ((if_neg (by simpa using hpair)).trans ?_))
  exact (if_neg (by simpa using hcap)).trans (if_neg (by rw [hr]; simpa using hle))

/-- A DRAINING channel without a request left is QUIESCED, in self-refresh (R409). -/
theorem dramDrainDoneStep_empty (hst : dcState b n = 3) (hrq : (getDc b n).rq = []) (hissued : (getDc b n).issued = [])
    (hrets : (getDc b n).rets = []) (hwq : (getDc b n).wq = []) (hlock : (getDc b n).lock = []) :
    dramDrainDoneStep n b =
      (modDc n (fun c => { c with selfRefresh := true, drain := false, forced := false }) (enterDc n 4 b)).close 0x0502 n St.ok :=
  if_pos (by rw [hst, hrq, hissued, hrets, hwq, hlock]; decide)

/-! ## Refresh, scheduling and starving writes -/

/-- An interval of a fitted rank of a running channel's subchannel is owed, and changed settings act (R394, R395). -/
theorem dramRefreshDueStep_owes {sub rank : Nat} {d : Dimm} (hon : dcRuns b n = true) (hd : (getDc b n).dimm = some d) (hr : rank < d.ranks)
    (hsub : sub = 0 ∨ b.flag (Rg.dc n) Rg.dcDdr4 = false) :
    dramRefreshDueStep n sub rank b = modDc n (fun c => { c with
      owed := spSet (fun _ => 0) c.owed (4 * sub + rank) (owedOf c sub rank + 1), schedNow := (b.reg (Rg.dc n + 0x08)).toNat,
      refNow := (b.reg (Rg.dc n + 0x10)).toNat, actNow := (b.reg (Rg.dc n + 0x18)).toNat }) b := by
  have hhas : (sub == 1 && b.flag (Rg.dc n) Rg.dcDdr4) = false := by
    rcases hsub with h | h <;> simp [h]
  delta dramRefreshDueStep
  simp only [hd]
  exact if_neg (by simp [hon, hhas, hr])

/-- A running subchannel without an alert, whose window has room, has its slot (R388, R399). -/
theorem dramSchedulerSlotStep_runs {sub : Nat} (hon : dcRuns b n = true) (hfree : alertOn (getDc b n) sub = none)
    (hroom : (cmdsWithin b n sub b.devTime).length + 7 ≤ 64) : dramSchedulerSlotStep n sub b = schedulerSlot n sub b :=
  if_pos (by simpa [hon, hfree] using hroom)

/-- The oldest write of a running channel that does not drain forces a drain (R390). -/
theorem dramWriteStarveStep_forces {w : DWrite} {l : List DWrite} (hwq : (getDc b n).wq = w :: l) (hdrain : (getDc b n).drain = false)
    (hon : dcRuns b n = true) :
    dramWriteStarveStep n b =
      (modDc n (fun c => { c with drain := true, forced := true }) (writeWaited w b)).bump (Rg.dcWstarveCount n) := by
  delta dramWriteStarveStep
  simp only [hwq, List.head?_cons]
  exact if_neg (by simp [hdrain, hon])

/-! ## Bursts and the patrol -/

/-- The data of a read whose subchannel has no alert returns (R400, R402). -/
theorem dramBurstCompleteStep_returns {i : Nat} {r : DReq} {errs : List (Nat × Nat)} (hi : (getDc b n).issued[i]? = some r)
    (hfree : alertOn (getDc b n) (coordOf (getDc b n) r.line).sub = none) :
    dramBurstCompleteStep n i errs b = burstReturns n i r (realErrs (getDc b n) errs) b := by
  have hvoid : readVoid (getDc b n) r = false := by simp only [readVoid, hfree]
  simp only [dramBurstCompleteStep, hi]
  exact if_neg (by simp [hvoid])

/-- The patrol of an ONLINE channel reads a line that no alert and no locked pair holds (R404, R405). -/
theorem dramPatrolReadStep_reads {errs : List (Nat × Nat)} {overtaken : Bool} (hst : dcState b n = 2)
    (hfree : alertOn (getDc b n) (coordOf (getDc b n) (getDc b n).patrolPos).sub = none)
    (hlock : (getDc b n).lock.contains (getDc b n).patrolPos = false) :
    dramPatrolReadStep n errs overtaken b = patrolRead n (realErrs (getDc b n) errs) overtaken b :=
  if_neg (by rw [hst, hfree, hlock]; decide)

/-! ## Alerts and replays -/

section
variable {sub : Nat}

/-- The first alert of a running subchannel makes the reads of its window void (R400). -/
theorem dramAlertStep_first (hon : dcRuns b n = true) (hfree : alertOn (getDc b n) sub = none) :
    dramAlertStep n sub b = alertVoid n sub { replays := 0, asserted := true, time := b.devTime } (b.bump (Rg.dcAlertCount n)) := by
  rw [dramAlertStep, if_neg (by simp [hon])]
  simp only [hfree]

section
variable {a : DAlert} (ha : alertOn (getDc b n) sub = some a)
include ha

/-- An alert behind a replay does so again, and behind the fourth is the channel's error (R400, R401). -/
theorem dramAlertStep_again (hon : dcRuns b n = true) (hrel : a.asserted = false) :
    dramAlertStep n sub b =
      if 4 ≤ a.replays then channelError n (b.bump (Rg.dcAlertCount n))
      else alertVoid n sub { a with asserted := true, time := b.devTime } (b.bump (Rg.dcAlertCount n)) := by
  rw [dramAlertStep, if_neg (by simp [hon])]
  simp only [ha]
  exact if_neg (by simp [hrel])

/-- The release of an alert begins the replay (R400). -/
theorem dramAlertReleaseStep_replays (has : a.asserted = true) :
    dramAlertReleaseStep n sub b = dcReplay n sub a (modDc n (fun c => { c with
      alerts := spSet (fun _ => none) c.alerts sub (some { a with replays := a.replays + 1, asserted := false }) }) b) := by
  delta dramAlertReleaseStep
  simp only [ha]
  exact if_pos has

/-- A replay without another alert has succeeded (R400). -/
theorem dramReplayWindowEndStep_succeeds (hrel : a.asserted = false) :
    dramReplayWindowEndStep n sub b =
      (modDc n (fun c => { c with alerts := spSet (fun _ => none) c.alerts sub none }) b).bump (Rg.dcReplayCount n) := by
  delta dramReplayWindowEndStep
  simp only [ha]
  exact if_neg (by simp [hrel])

end
end

/-! ## Initialisation and brackets -/

/-- An ONLINE channel initialises its next block while one is left (R406). -/
theorem dramInitBlockStep_next (hst : dcState b n = 2) (hleft : (getDc b n).initBelow < dcBlocks (getDc b n)) :
    dramInitBlockStep n b = initBlock n (getDc b n).initBelow b :=
  if_pos (by simp [hst, hleft])

/-- GO starts a sweep in range where none runs (R415). -/
theorem bracketGoStep_starts (hfree : b.flag (Rg.dc n) Rg.bkBusy = false) (hst : dcState b n = 1 ∨ dcState b n = 4)
    (hin : bracketInRange (b.reg (Rg.dc n + 0x1000)).toNat = true) : bracketGoStep n b = b.putB (Rg.dc n) Rg.bkBusy true :=
  (if_neg (by simp [hfree])).trans (if_pos (by simpa [hin] using hst))

/-- A sweep that runs ends with its results (R415). -/
theorem bracketDoneStep_ends {results : List (BitVec 27)} (hbusy : b.flag (Rg.dc n) Rg.bkBusy = true) :
    bracketDoneStep n results b = ((bracketResults n results b).putB (Rg.dc n) Rg.bkBusy false).close 0x0507 n St.ok :=
  if_neg (by simp [hbusy])

end

/-! ## The obligation of the channel's events -/

/-- Settles O39: each event falls on running clocks, and the channel's state meets its guard. What training and replays leave open is log
entry 46, and that ZQ calibration shows nothing log entry 70. -/
theorem dramEvents : Obligations.DramEvents := by
  intro s n sub rank hrun
  refine ⟨?_, ?_, ?_, ?_, ?_, ?_, ?_, ?_, ?_, ?_, fun a ha => ⟨?_, ?_, ?_⟩, ?_, ?_, ?_, ?_, ?_, ?_⟩
  · -- DRAM_TRAIN_DONE
    intro w d pair r selfRef hw hsup hsame hpair hcap htop hr hle
    exact clockedOn_acts hrun (dramTrainDoneStep_passes hw hsup hsame hpair hcap htop hr hle)
  · -- DRAM_DRAIN_DONE
    intro hst hrq hissued hrets hwq hlock
    exact clockedOn_acts hrun (dramDrainDoneStep_empty hst hrq hissued hrets hwq hlock)
  · -- DRAM_REFRESH_DUE
    intro hon d hd hr hsub
    exact clockedOn_acts hrun (dramRefreshDueStep_owes hon hd hr hsub)
  · -- DRAM_SCHEDULER_SLOT
    intro hon hfree hroom
    exact clockedOn_acts hrun (dramSchedulerSlotStep_runs hon hfree hroom)
  · -- DRAM_WRITE_STARVE
    intro w l hwq hdrain hon
    exact clockedOn_acts hrun (dramWriteStarveStep_forces hwq hdrain hon)
  · -- DRAM_REFRESH_RATE_READ
    intro hon hot
    exact clockedOn_acts hrun (if_pos hon)
  · -- DRAM_BURST_COMPLETE
    intro i r hi hfree errs
    exact clockedOn_acts hrun (dramBurstCompleteStep_returns hi hfree)
  · -- DRAM_PATROL_READ
    intro hst hfree hlock errs overtaken
    exact clockedOn_acts hrun (dramPatrolReadStep_reads hst hfree hlock)
  · -- ACT_TABLE_CLEAR
    intro bg bank
    exact clockedOn_answers _ _ s hrun
  · -- DRAM_ALERT, the first
    intro hon hfree
    exact clockedOn_acts hrun (dramAlertStep_first hon hfree)
  · -- DRAM_ALERT behind a replay
    intro hon hrel
    exact clockedOn_acts hrun (dramAlertStep_again ha hon hrel)
  · -- DRAM_ALERT_RELEASE
    intro has
    exact clockedOn_acts hrun (dramAlertReleaseStep_replays ha has)
  · -- DRAM_REPLAY_WINDOW_END
    intro hrel
    exact clockedOn_acts hrun (dramReplayWindowEndStep_succeeds ha hrel)
  · -- DRAM_INIT_BLOCK
    intro hst hleft
    exact clockedOn_acts hrun (dramInitBlockStep_next hst hleft)
  · -- DRAM_ZQ_CAL
    exact clockedOn_answers _ _ s hrun
  · -- DRAM_DRIFT_TRACK
    intro hon moves
    exact clockedOn_acts hrun (if_pos hon)
  · -- BRACKET_GO
    intro hfree hst hin
    exact clockedOn_acts hrun (bracketGoStep_starts hfree hst hin)
  · -- BRACKET_DONE
    intro hbusy results
    exact clockedOn_acts hrun (bracketDoneStep_ends hbusy)
  · -- VDDQ_DC_REMOVED, which asks for no clock
    intro p
    exact live_answers _ s hrun.1.1

end Sys2Proof.Proofs
end

section
/-! Line scramblers (14): the commands on slots and regions, the check of a returned line, and the sweep. -/

namespace Sys2Proof.Proofs

open Sys2Proof.Machine Sys2Proof.Laws

section
variable {k r : Nat} {c : Cmd} {b : Block}

/-! ## Key slots -/

/-- A slot that no region names takes the key of its next generation (R610). -/
theorem lsuKeyLoadCmd_next (hk : k < 16) (hfree : slotInUse b k = false) :
    lsuKeyLoadCmd k 0 c b =
      (setSlot k (some (lsuKey b k ((spGet (fun _ => 0) b.lsu.gens k + 1) % 2 ^ 32)))
        (setGen k ((spGet (fun _ => 0) b.lsu.gens k + 1) % 2 ^ 32) b)).respond c St.ok := by
  delta lsuKeyLoadCmd
  exact (if_neg (by simp [Nat.not_le.2 hk])).trans ((if_neg (by simp [hfree])).trans (if_neg (by simp)))

/-- It takes the key of its present generation where it has had one (R610). -/
theorem lsuKeyLoadCmd_present (hk : k < 16) (hfree : slotInUse b k = false) (hgen : spGet (fun _ => 0) b.lsu.gens k ≠ 0) :
    lsuKeyLoadCmd k 1 c b =
      (setSlot k (some (lsuKey b k (spGet (fun _ => 0) b.lsu.gens k))) (setGen k (spGet (fun _ => 0) b.lsu.gens k) b)).respond c St.ok := by
  delta lsuKeyLoadCmd
  exact (if_neg (by simp [Nat.not_le.2 hk])).trans ((if_neg (by simp [hfree])).trans (if_neg (by simp [hgen])))

/-- It is emptied (R422). -/
theorem lsuKeyClearCmd_empties (hk : k < 16) (hfree : slotInUse b k = false) :
    lsuKeyClearCmd k c b = (setSlot k none b).respond c St.ok :=
  (if_neg (Nat.not_le.2 hk)).trans (if_neg (by simp [hfree]))

/-! ## Regions -/

/-- A legal range is set where the region is clear and not swept, or does not change, and meets no other VALID region (R443). -/
theorem lsuRegionSetCmd_sets {base limit valid : Nat} (hr : r < 64) (hbase : base % 0x10000 = 0) (hlimit : limit % 0x10000 = 0)
    (hle : base ≤ limit) (hvalid : valid < 2)
    (hset : b.flag (Rg.lsu (lsuRef b)) (Rg.rgKeyClear r) = true ∧ b.flag (Rg.lsu (lsuRef b)) (Rg.rgSweep r) = false ∨
      regionChanges b r base limit valid = false)
    (hover : valid = 1 → regionOverlaps b r base limit = false) :
    lsuRegionSetCmd r base limit valid c b =
      (lsuPutAll (Rg.rgValid r) valid (lsuPutAll (Rg.rgLimit r) limit (lsuPutAll (Rg.rgBase r) base b))).respond c St.ok := by
  have hclear : ((!b.flag (Rg.lsu (lsuRef b)) (Rg.rgKeyClear r) || b.flag (Rg.lsu (lsuRef b)) (Rg.rgSweep r)) &&
      regionChanges b r base limit valid) = false := by
    rcases hset with ⟨hc, hs⟩ | h
    · simp [hc, hs]
    · simp [h]
  have hmeet : (valid == 1 && regionOverlaps b r base limit) = false := by
    rw [Bool.and_eq_false_imp]
    exact fun h => hover (beq_iff_eq.1 h)
  delta lsuRegionSetCmd
  refine (if_neg (by simp [Nat.not_le.2 hr, hbase, hlimit, Nat.not_lt.2 hle, Nat.not_le.2 hvalid])).trans ?_
  exact (if_neg (by rw [hclear]; decide)).trans (if_neg (by rw [hmeet]; decide))

/-- A sweep of a region that is not swept begins, to a slot with a key or to CLEAR; tags want a key and DDR5 (R436, R443; log
entry 49). -/
theorem lsuRekeyCmd_begins {slot tagEn : Nat} (hr : r < 64) (hslot : slot ≤ 16) (htag : tagEn < 2)
    (hidle : b.flag (Rg.lsu (lsuRef b)) (Rg.rgSweep r) = false) (hkey : slot < 16 → heldKey b slot ≠ none)
    (htags : tagEn = 1 → slot < 16 ∧ ∀ n, n < 8 → b.flag (Rg.dc n) Rg.dcDdr4 = false) :
    lsuRekeyCmd r slot tagEn c b = (rekeyBegins r slot tagEn c b).hold c 0x0603 r := by
  have hempty : (slot != 16 && (heldKey b slot).isNone) = false := by
    rw [Bool.and_eq_false_imp]
    exact fun h => Option.isNone_eq_false_iff.2 (Option.isSome_iff_ne_none.2 (hkey (by simp at h; omega)))
  have hunfit : (tagEn == 1 && (slot == 16 || (upto 8).any (fun n => b.flag (Rg.dc n) Rg.dcDdr4))) = false := by
    rw [Bool.and_eq_false_imp]
    intro h
    obtain ⟨hlt, hddr5⟩ := htags (beq_iff_eq.1 h)
    rw [Bool.or_eq_false_iff, List.any_eq_false]
    exact ⟨beq_false_of_ne (Nat.ne_of_lt hlt), fun n hn => by simp [hddr5 n (List.mem_range.1 hn)]⟩
  rw [lsuRekeyCmd, if_neg (by simp [Nat.not_le.2 hr, Nat.not_le.2 (Nat.lt_succ_of_le hslot), Nat.not_le.2 htag]),
    if_neg (by simp [hidle]), if_neg (by rw [hempty]; decide), if_neg (by rw [hunfit]; decide)]

theorem lsuStatusCmd_known (hr : r < 64) :
    lsuStatusCmd r c b = b.respond c St.ok [(8, (b.reg (Rg.lsu (lsuRef b) + 0x1010 + 0x20 * r)).toNat)] :=
  if_neg (Nat.not_le.2 hr)

end

/-- Settles O40: each command is admitted, and its slot or region meets its guard. The response of LSU_STATUS is log entry 12, and slot code
16 for no key log entry 49. -/
theorem lsuCommands : Obligations.LsuCommands := by
  intro s h
  refine ⟨fun k hk hfree => ⟨fun hA => ⟨?_, fun hgen => ?_⟩, fun hA => ?_⟩, ?_, ?_, ?_⟩
  · -- LSU_KEY_LOAD of the next generation
    exact command_acts (f := lsuKeyLoadCmd k 0) hA (lsuKeyLoadCmd_next hk hfree)
  · -- LSU_KEY_LOAD of the present generation
    exact command_acts (f := lsuKeyLoadCmd k 1) hA (lsuKeyLoadCmd_present hk hfree hgen)
  · -- LSU_KEY_CLEAR
    exact command_acts (f := lsuKeyClearCmd k) hA (lsuKeyClearCmd_empties hk hfree)
  · -- LSU_REGION_SET
    intro r base limit valid hA hr hbase hlimit hle hvalid hset hover
    exact command_acts (f := lsuRegionSetCmd r base limit valid) hA (lsuRegionSetCmd_sets hr hbase hlimit hle hvalid hset hover)
  · -- LSU_REKEY
    intro r slot tagEn hA hr hslot htag hidle hkey htags
    exact command_acts (f := lsuRekeyCmd r slot tagEn) hA (lsuRekeyCmd_begins hr hslot htag hidle hkey htags)
  · -- LSU_STATUS
    intro r hA hr
    exact command_acts (f := lsuStatusCmd r) hA (lsuStatusCmd_known hr)

section
variable {n : Nat} {b : Block}

/-! ## The check of a returned line -/

section
variable {i : Nat} {r : DRet} (hi : (getDc b n).rets[i]? = some r)
include hi

/-- A returned read is answered (R429, R434). -/
theorem lsuReadCheckStep_read (hk : r.req.kind = .read) :
    lsuReadCheckStep n i b = readAnswer n r (modDc n (fun c => { c with rets := c.rets.eraseIdx i }) b) := by
  delta lsuReadCheckStep
  simp only [hi, hk]

/-- A returned locked pair ends where the write queue has room (R387, R431). -/
theorem lsuReadCheckStep_pair {m : Merge} (hk : r.req.kind = .pair) (hm : r.req.merge = some m) (hroom : (getDc b n).wq.length < 128) :
    lsuReadCheckStep n i b = pairAnswer n r m (modDc n (fun c => { c with rets := c.rets.eraseIdx i }) b) := by
  delta lsuReadCheckStep
  simp only [hi, hk, hm]
  exact if_neg (Nat.not_le.2 hroom)

end

/-! ## The sweep -/

section
variable {w : Sweep} {rest : List Sweep} (hw : b.lsu.sweeps = w :: rest)
include hw

/-- A channel that takes requests and holds no line of the sweep goes on to the region's next line, if it is free (R438). -/
theorem sweepLineConvertStep_goesOn (ht : dcTakes b n = true) (hidle : sweeping (getDc b n) = false) (hroom : (getDc b n).rq.length < 256) :
    sweepLineConvertStep n b =
      match sweepNext b n w.region (regionBound b n w.region) with
      | none => b.put (Rg.lsu n) (Rg.rgBound w.region) (regionLimit b n w.region)
      | some (a, line) => if (getDc b n).lock.contains line then b else sweepRead n w.region a line b := by
  have hfull : rqFull (getDc b n) = false := decide_eq_false (Nat.not_le.2 hroom)
  have hgo : (!dcTakes b n || sweeping (getDc b n) || rqFull (getDc b n)) = false := by simp [ht, hidle, hfull]
  delta sweepLineConvertStep
  simp only [hw, List.head?_cons, hgo]
  rfl

/-- The line that the sweep has read is written in its target form (R438, R439). -/
theorem sweepReadReturnStep_writes {r : DRet} (hr : (getDc b n).rets.find? (fun x => x.req.kind == .sweep) = some r)
    (hroom : (getDc b n).wq.length < 128) : sweepReadReturnStep n b = sweepWritten n w.region r b := by
  simp only [sweepReadReturnStep, hw, List.head?_cons, hr]
  exact if_neg (Nat.not_le.2 hroom)

/-- The sweep ends when every channel's BOUND is LIMIT and none holds a line of it (R441). -/
theorem sweepCompleteStep_ends {r : Nat} (hup : b.gr.restarting = false) (hreg : w.region = r)
    (hdone : ∀ m, m < 8 → regionBound b m r = regionLimit b (lsuRef b) r ∧ sweeping (getDc b m) = false) :
    sweepCompleteStep r b = (sweepEnds r rest b).close 0x0603 r St.ok := by
  have hleft : (w.region != r || (upto 8).any (fun n => regionBound b n r != regionLimit b (lsuRef b) r || sweeping (getDc b n))) = false := by
    rw [Bool.or_eq_false_iff, List.any_eq_false]
    refine ⟨by simp [hreg], fun m hm => ?_⟩
    obtain ⟨hbound, hidle⟩ := hdone m (List.mem_range.1 hm)
    simp [hbound, hidle]
  rw [sweepCompleteStep, if_neg (by simp [hup])]
  simp only [hw]
  exact if_neg (by rw [hleft]; decide)

end
end

/-- Settles O41: each row acts on its die's clocks, `sweepComplete` on running ones; the returned line, or the sweep at the front, meets its
guard. -/
theorem lsuEvents : Obligations.LsuEvents := by
  intro s n hrun
  refine ⟨fun i r hi => ⟨fun hk => ?_, fun m hk hm hroom => ?_⟩, fun w rest hw => ⟨fun a line ht hidle hroom => ⟨fun hnext hfree => ?_, fun hnext => ?_⟩,
    fun r hr hroom => ?_, fun r hup hreg hdone => ?_⟩⟩
  · -- LSU_READ_CHECK of a read
    exact clockedOn_acts hrun (lsuReadCheckStep_read hi hk)
  · -- LSU_READ_CHECK of a locked pair
    exact clockedOn_acts hrun (lsuReadCheckStep_pair hi hk hm hroom)
  · -- SWEEP_LINE_CONVERT with a line left
    refine clockedOn_acts hrun ((sweepLineConvertStep_goesOn hw ht hidle hroom).trans ?_)
    simp only [hnext]
    exact if_neg (by rw [hfree]; decide)
  · -- SWEEP_LINE_CONVERT with none left
    refine clockedOn_acts hrun ((sweepLineConvertStep_goesOn hw ht hidle hroom).trans ?_)
    simp only [hnext]
  · -- SWEEP_READ_RETURN
    exact clockedOn_acts hrun (sweepReadReturnStep_writes hw hr hroom)
  · -- SWEEP_COMPLETE
    exact clocked_acts hrun.1 (sweepCompleteStep_ends hw hup hreg hdone)

end Sys2Proof.Proofs
end

section
/-! What the wrappers of a row and of a command answer where the block that its effect leaves is known. -/

namespace Sys2Proof.Proofs

open Sys2Proof.Machine Sys2Proof.Laws

/-- On running clocks a clocked row whose effect on the block is known leaves that block. -/
theorem clocked_sets {f : Block → Block} {s : State} {x : Block} (h : Running s.blk) (e : f s.blk = x) :
    clocked f s = .next (s.set x) := by
  subst e
  exact clocked_answers f s h

/-- An admitted command whose effect on the block is known leaves that block. -/
theorem command_sets {h : Hdr} {n : Need} {f : Cmd → Block → Block} {s : State} {x : Block} (A : Admitted s.blk h n)
    (e : f (cmdOf h n.op) s.blk = x) : live (fun b => b.command h n f) s = .next (s.set x) := by
  subst e
  exact live_command s h n f A

/-- Out of RESET a live row whose effect on the block is known leaves that block. -/
theorem live_sets {f : Block → Block} {s : State} {x : Block} (h : s.blk.start.inReset = false) (e : f s.blk = x) :
    live f s = .next (s.set x) := by
  subst e
  exact live_answers f s h

/-- An admitted command of protocol v1 has any effect that agrees with its own on the state's block. -/
theorem commandV1_acts {h : Hdr} {op1 : Nat} {n : Need} {f : Cmd → Block → Block} {g : Block → Block} {s : State}
    (A : AdmittedV1 s.blk h n) (e : f (cmdOfV1 h op1) s.blk = g s.blk) :
    live (fun b => b.commandV1 h op1 n f) s = .next (s.on g) := by
  rw [live_commandV1 s h op1 n f A, on_congr e]

/-- Such a command whose effect on the block is known leaves that block. -/
theorem commandV1_sets {h : Hdr} {op1 : Nat} {n : Need} {f : Cmd → Block → Block} {s : State} {x : Block} (A : AdmittedV1 s.blk h n)
    (e : f (cmdOfV1 h op1) s.blk = x) : live (fun b => b.commandV1 h op1 n f) s = .next (s.set x) := by
  subst e
  exact live_commandV1 s h op1 n f A

/-- Such a command on a die that runs has any effect that agrees with its own on the state's block. -/
theorem dieCommandV1_acts {h : Hdr} {op1 : Nat} {n : Need} {d : Nat} {f : Cmd → Block → Block} {g : Block → Block} {s : State}
    (A : AdmittedV1 s.blk h n) (hon : dieOff s.blk d = false) (e : f (cmdOfV1 h op1) s.blk = g s.blk) :
    live (fun b => b.commandV1 h op1 n (onDie d f)) s = .next (s.on g) :=
  commandV1_acts A ((onDie_reached hon).trans e)

end Sys2Proof.Proofs
end

section
/-! The network on chip (15): its commands, requests and responses, fences, routers, re-routing, timeouts and power domains. -/

namespace Sys2Proof.Proofs

open Sys2Proof.Machine Sys2Proof.Laws

section
variable {c : Cmd} {b : Block}

/-! ## The commands -/

/-- The state of a router (R462). -/
theorem nocStatusCmd_router {die number : Nat} (hd : die < 5) (hn : number < (if die < 4 then 24 else 4)) :
    nocStatusCmd die 0 number c b = b.respond c St.ok [(8, routerWord b die number)] := by
  have hfit : number < 256 := by split at hn <;> omega
  exact (if_neg (by simp [Nat.not_le.2 hd, Nat.not_le.2 hn, Nat.not_le.2 hfit])).trans (if_pos rfl)

/-- The states of a local port's target port and initiator bridge. -/
theorem nocStatusCmd_port {die number : Nat} (hd : die < 5) (hn : number < 256) :
    nocStatusCmd die 1 number c b = b.respond c St.ok [(8, tportWord b die number), (8, iportWord b die number)] :=
  (if_neg (by simp [Nat.not_le.2 hd, Nat.not_le.2 hn])).trans (if_neg (by decide))

/-- A target port that is not isolated is (R469). -/
theorem nocIsolateCmd_isolates {p : Nat} (ht : isTarget b p = true) (hst : portState b p ≠ 3) :
    nocIsolateCmd p c b = (isolatePort p true b).respond c St.ok :=
  (if_neg (by simp [ht])).trans (if_neg (by simp [hst]))

/-- One that is isolated, and behind which no reset is owed, is released (R469). -/
theorem nocReleaseCmd_releases {p : Nat} (ht : isTarget b p = true) (hst : portState b p = 3)
    (hreset : b.net.unreset.contains p = false) : nocReleaseCmd p c b = (portReleased p b).respond c St.ok :=
  (if_neg (by simp [ht])).trans ((if_neg (by simp [hst])).trans (if_neg (by rw [hreset]; decide)))

/-- A domain that R470 frees begins to drain, with its command held. -/
theorem nocDomainOffCmd_drains {m : Nat} (hm : m < 75) (hsite : 72 ≤ m → b.start.sitePresent.getLsbD (m - 72) = true)
    (hoff : b.net.domOff.contains m = false) (hdrain : b.net.domDrain.contains m = false) (hfree : domFree b m = true) :
    nocDomainOffCmd m c b = drainAtOnce m ((domDrainStart m b).hold c 0x0704 m) := by
  rw [nocDomainOffCmd, if_neg (by simp [-BitVec.getLsbD_eq_getElem, Nat.not_le.2 hm]; exact hsite),
    if_neg (by rw [hoff, hdrain]; decide), if_neg (by simp [hfree])]

/-- A domain that is off, and that a set of tables reaches, is switched on (R470, R471). -/
theorem nocDomainOnCmd_switches {m : Nat} (hm : m < 75) (hoff : b.net.domOff.contains m = true)
    (hcut : 72 ≤ m → siteCut b (m - 72) = false) : nocDomainOnCmd m c b = (domainOn m b).respond c St.ok := by
  rw [nocDomainOnCmd, if_neg (Nat.not_le.2 hm), if_neg (by rw [hoff]; decide), if_neg (by simpa using hcut)]

end

/-- Settles O42: each command is admitted on a die that runs, and its target meets its guard. NOC_STATUS's arguments and words are log
entry 12, and the numbering of the domains is log entry 54. -/
theorem nocCommands : Obligations.NocCommands := by
  refine fun s h => ⟨?_, fun die number hA hd hon => ⟨?_, ?_⟩, fun p ht hon => ⟨?_, ?_⟩, fun m hm hon => ⟨?_, ?_⟩⟩
  · -- NOC_GLOBAL_FENCE
    exact fun hA => live_command s h _ _ hA
  · -- NOC_STATUS of a router
    exact fun hn => dieCommand_acts (f := nocStatusCmd die 0 number) hA hon (nocStatusCmd_router hd hn)
  · -- NOC_STATUS of a local port
    exact fun hn => dieCommand_acts (f := nocStatusCmd die 1 number) hA hon (nocStatusCmd_port hd hn)
  · -- NOC_ISOLATE
    exact fun hA hst => dieCommand_acts (f := nocIsolateCmd p) hA hon (nocIsolateCmd_isolates ht hst)
  · -- NOC_RELEASE
    exact fun hA hst hreset => dieCommand_acts (f := nocReleaseCmd p) hA hon (nocReleaseCmd_releases ht hst hreset)
  · -- NOC_DOMAIN_OFF
    exact fun hA hsite hoff hdrain hfree =>
      dieCommand_acts (f := nocDomainOffCmd m) hA hon (nocDomainOffCmd_drains hm hsite hoff hdrain hfree)
  · -- NOC_DOMAIN_ON
    exact fun hA hoff hcut => dieCommand_acts (f := nocDomainOnCmd m) hA hon (nocDomainOnCmd_switches hm hoff hcut)

section
variable {b : Block}

/-! ## Requests, responses and fences -/

/-- A request that its initiator may issue, with a free tag for each part that needs one, goes out (R449, R459 to R461). -/
theorem nocIssue_issues {src via kind addr total label : Nat} {stream : Bool} {data : List Nat} (hmay : mayIssue b src via addr = true)
    (hform : nocRequestForm kind addr total data = true) (hfence : fenceBusy b src = false)
    (hflip : kindPosted kind = true → flipHeld b src = false)
    (htags : tagsNeeded b src kind addr total ≤ (freeTags b src (tagsNeeded b src kind addr total)).length) :
    nocIssue src via kind addr total label stream data b =
      issueParts src via kind addr total label stream data (freeTags b src (tagsNeeded b src kind addr total)) b := by
  rw [nocIssue]
  exact if_neg (by simpa [hmay, hform, hfence, Nat.not_lt.2 htags] using hflip)

/-- The response of a part that has left its initiator is taken (R460). -/
theorem nocResponseArriveStep_takes {dst tag status : Nat} {flits : List (Nat × Bool × BitVec 512)} {full : Bool} {p : NetPart}
    (hp : b.net.parts.find? (fun p => p.src == dst && p.tag == tag && p.phase != 0) = some p) :
    nocResponseArriveStep dst tag status flits full b = responseTaken p status flits full b := by
  simp only [nocResponseArriveStep, hp]

/-- A posted write at an access point is handed to the design, or discarded (R33, R469). -/
theorem apTargetRequestStep_posted {d k src tag off total : Nat} {data : List Nat} :
    apTargetRequestStep d k src tag 2 off total data b =
      if targetStatus b (256 * d + k) = 0 then b.emit (.apTarget d k 2 off (total - 1) 0 data) else bumpDiscard (256 * d + k) b := by
  simp only [apTargetRequestStep, beq_self_eq_true, if_true, bne_iff_ne, ne_eq, ite_not]

/-- A part that waits there is handed to the design, or answered with the port's status (R33, R452; its number is log entry 52). -/
theorem apTargetRequestStep_part {d k src tag kind off total : Nat} {data : List Nat} {x : NetPart} (hkind : kind ≠ 2)
    (hx : b.net.parts.find? (fun x => x.src == src && x.tag == tag && x.dst == 256 * d + k && x.phase == 1) = some x) :
    apTargetRequestStep d k src tag kind off total data b =
      if targetStatus b (256 * d + k) = 0 then b.emit (.apTarget d k kind off (total - 1) (4096 * src + tag) data)
      else partFail x (targetStatus b (256 * d + k)) b := by
  refine (if_neg (by simp [hkind])).trans ?_
  simp only [hx, bne_iff_ne, ne_eq, ite_not]

/-- A design's answer to such a part goes back through a port that is OPEN or DRAINING, and is dropped at another (R455, R469). -/
theorem apTargetResponseStep_part {d k id : Nat} {err : Bool} {data : List Nat} {x : NetPart}
    (hx : b.net.parts.find? (fun x => x.src == id / 4096 && x.tag == id % 4096 && x.dst == 256 * d + k && x.phase == 1) = some x) :
    apTargetResponseStep d k id err data b =
      if portState b (256 * d + k) ≤ 1 ∧ apLive b d k = true then apAnswered d k id x err data b
      else bumpRspDrop (256 * d + k) b := by
  simp only [apTargetResponseStep, hx, Bool.and_eq_true, Bool.or_eq_true, beq_iff_eq, Nat.le_one_iff_eq_zero_or_eq_one]

/-- An initiator that runs, with no fence of its own under way, takes a fence point (R475). -/
theorem nocFenceStep_fences {src label : Nat} (hinit : isInitiator src = true) (hon : dieOff b (src / 256) = false)
    (hap : ∀ d k, apOf src = some (d, k) → apLive b d k = true ∧ apHeld b d k = false) (hfree : fenceBusy b src = false)
    (hlo : 2 ≤ stageOf b) (hhi : stageOf b ≠ 7) :
    nocFenceStep src label b = settleFences (fencePoint src (.own label) (postedEpoch b src) (tagsOf b src) b) := by
  have hruns : (match apOf src with
      | some (d, k) => apLive b d k && !apHeld b d k
      | none => true) = true := by
    cases hsrc : apOf src with
    | none => rfl
    | some x =>
      obtain ⟨hlive, hheld⟩ := hap x.1 x.2 hsrc
      simp [hlive, hheld]
  delta nocFenceStep
  exact if_neg (by simp [hinit, hon, hfree, Nat.not_lt.2 hlo, hhi]; exact hruns)

/-- A marker that a fence waits for is acknowledged where the network answers for the target (R475). -/
theorem fenceMarkStep_acknowledges {src dst : Nat} (hwait : b.net.fences.any (fun f => f.src == src && f.dsts.contains dst) = true)
    (hsite : isSitePort dst = true → targetStatus b dst ≠ 0) : fenceMarkStep src dst b = b.emit (.fenceAck src dst) :=
  (if_neg (by rw [hwait]; decide)).trans (if_neg (by simpa using hsite))

end

/-- Settles O43: the initiator may issue and its tags suffice; the part, the port or the fence that a row is about is there. The number of an
access point's request, `4096 * SRC + TAG`, is log entry 52. -/
theorem nocTraffic : Obligations.NocTraffic := by
  refine fun s src dst tag hrun => ⟨?_, ?_, fun d k off len data hon => ⟨?_, ?_⟩, ?_, ?_, ?_, clocked_answers _ s hrun⟩
  · -- NOC_REQUEST_ISSUE
    exact fun via kind addr len label stream data hmay hform hfence hflip htags =>
      live_acts hrun.1 (nocIssue_issues hmay hform hfence hflip htags)
  · -- NOC_RESPONSE_ARRIVE
    exact fun status flits full p hp => clocked_acts hrun (nocResponseArriveStep_takes hp)
  · -- AP_TARGET_REQUEST, a posted write
    exact clockedOn_acts ⟨hrun, hon⟩ apTargetRequestStep_posted
  · -- AP_TARGET_REQUEST, a part with its tag
    exact fun kind x hkind hx => clockedOn_acts ⟨hrun, hon⟩ (apTargetRequestStep_part hkind hx)
  · -- AP_TARGET_RESPONSE
    exact fun d k id err data x hon hx => clockedOn_acts ⟨hrun, hon⟩ (apTargetResponseStep_part hx)
  · -- NOC_FENCE
    exact fun label hinit hon hap hfree hlo hhi => clocked_acts hrun (nocFenceStep_fences hinit hon hap hfree hlo hhi)
  · -- FENCE_MARK
    exact fun hwait hsite => clocked_acts hrun (fenceMarkStep_acknowledges hwait hsite)

section
variable {b : Block}

/-! ## Routers -/

/-- An uncorrectable header is an event and an interrupt (R457). -/
theorem routerFlitStep_headerError {r : Nat} {hd : BitVec 128} {pl : BitVec 512} :
    routerFlitStep r hd pl 2 b =
      (b.raise Ev.nocHeaderError (originOf (if routerDie r < 4 then 0x21 + 0x20 * routerDie r else 0x0A))).eicEdge 1291 := by
  simp only [routerFlitStep, beq_self_eq_true, if_true]

/-- A flit for an endpoint of the router itself leaves there. -/
theorem routerFlitStep_local {r err : Nat} {hd : BitVec 128} {pl : BitVec 512} (herr : err ≠ 2) (hdst : routerOf (hdrDst hd.toNat) = r) :
    routerFlitStep r hd pl err b = b.emit (.routerLocal r hd) :=
  (if_neg (by simp [herr])).trans (if_pos (by simp [hdst]))

section
variable {r err e : Nat} {hd : BitVec 128} {pl : BitVec 512} (herr : err ≠ 2) (hdst : routerOf (hdrDst hd.toNat) ≠ r)
  (he : e = routeEntry b (routerDie r) (r % 24) (fldGet hd.toNat 6 1) (routerOf (hdrDst hd.toNat)))
include herr hdst he

/-- Another flit goes out on the port that its table entry and its hash pick (R458, R463). -/
theorem routerFlitStep_routes {port : Nat} (h1 : fldGet e 16 2 ≠ 1) (h2 : fldGet e 16 2 ≠ 2)
    (hport : pickPort (e % 2 ^ 16) (hdrSrc hd.toNat) (hdrDst hd.toNat) = some port) :
    routerFlitStep r hd pl err b = pumpFlits { b with net := { b.net with
      flits := b.net.flits ++ [{ router := r, port := port, header := hd, payload := pl }] } } := by
  subst he
  delta routerFlitStep
  refine (if_neg (by simp [herr])).trans ((if_neg (by simp [hdst])).trans ((if_neg (by simp [h1, h2])).trans ?_))
  simp only [hport]

/-- An entry that closes the way has a marker acknowledged, a non-posted request answered, and the rest dropped (R457, R468). -/
theorem routerFlitStep_answers (hact : fldGet e 16 2 = 1 ∨ fldGet e 16 2 = 2) :
    routerFlitStep r hd pl err b =
      if hd.toNat % 16 = 5 then b.emit (.fenceAck (hdrSrc hd.toNat) (hdrDst hd.toNat))
      else if hd.toNat % 16 = 0 ∨ hd.toNat % 16 = 1 ∨ hd.toNat % 16 = 3 then
        b.emit (.routerAnswer r (if fldGet e 16 2 = 1 then 4 else 3) hd)
      else b := by
  subst he
  delta routerFlitStep
  refine (if_neg (by simp [herr])).trans ((if_neg (by simp [hdst])).trans ((if_pos (by simpa using hact)).trans ?_))
  simp only [beq_iff_eq, Bool.or_eq_true, or_assoc]

end

/-! ## Re-routing -/

/-- Firmware that runs re-routes to a set that fits (R466). -/
theorem rerouteStartStep_begins {gone : BitVec 4} {spared halved sites : List Nat} (hlo : 2 ≤ stageOf b) (hhi : stageOf b ≠ 7)
    (hup : b.gr.up = true) (hrs : b.gr.restarting = false) (hfit : setFits b gone spared = true) :
    rerouteStartStep gone spared halved sites b = rerouteBegin (rerouteAsked (setFor b gone spared halved) sites b) :=
  if_neg (by simp [Nat.not_lt.2 hlo, hhi, hup, hrs, hfit])

section
variable {r : Nat} {x : Reroute} {rest : List Reroute} (hx : b.net.reroutes = x :: rest)
include hx

/-- Changes of the running re-route that agree on it agree. -/
theorem modReroute_congr {f g : Reroute → Reroute} (h : f x = g x) : modReroute f b = modReroute g b := by
  simp only [modReroute, hx, h]

/-- After the flip a router without old flits or posted writes held retires its old table, and the last one completes the re-route
(R466, R467). -/
theorem routerTableRetireStep_retires (h3 : x.step = 3) (hseen : b.flag (Rg.router (routerDie r) (r % 24)) Rg.rtFlipSeen = true)
    (hold : oldCount b r = 0) (hflip : b.net.fences.any (fun f => f.what == .flip) = false) :
    routerTableRetireStep r b = if flipsLeft (tableRetired r b) then tableRetired r b else rerouteComplete (tableRetired r b) := by
  simp only [routerTableRetireStep, hx]
  exact if_neg (by rw [hflip]; simp [h3, hseen, hold])

/-- A re-route that is not complete 10 ms after its flip is slow (R467). -/
theorem rerouteSlowStep_tells (h3 : x.step = 3) (hslow : x.slow = false) :
    rerouteSlowStep b = (modReroute (fun x => { x with slow := true }) ((reachTime (x.flipped + 10000000#64) b).raise Ev.nocRerouteSlow
      (originOf 0x01))).eicEdge 1291 := by
  simp only [rerouteSlowStep, hx]
  exact if_pos (by simp [h3, hslow])

end

/-! ## Target ports and power domains -/

/-- A target that times out is isolated (R468). -/
theorem targetTimeoutStep_isolates {p : Nat} (ht : isTarget b p = true) (hst : portState b p ≠ 3)
    (hdc : ¬ (p / 256 < 4 ∧ (p % 256 = 0x68 ∨ p % 256 = 0x69))) : targetTimeoutStep p b = isolatePort p false b :=
  (if_neg (by simp [ht, hst])).trans (if_neg (by simpa using hdc))

/-- A DRAM channel that times out is in error (R468). -/
theorem targetTimeoutStep_channel {p : Nat} (ht : isTarget b p = true) (hst : portState b p ≠ 3) (hd : p / 256 < 4)
    (hq : p % 256 = 0x68 ∨ p % 256 = 0x69) :
    targetTimeoutStep p b = (channelError (2 * (p / 256) + (p % 256 - 0x68)) b).putB (tportAt p) Rg.tpTimeoutSeen true :=
  (if_neg (by simp [ht, hst])).trans (if_pos (by simp [hd, hq]))

/-- The end of a drain that a NOC_DOMAIN_OFF waits for switches the domain off and answers it (R470, R471). -/
theorem domainDrainEndStep_off {m : Nat} (hdrain : b.net.domDrain.contains m = true) (hopen : openOf (drainEnded m b) 0x0704 m ≠ []) :
    domainDrainEndStep m b = (domainOff m (drainEnded m b)).close 0x0704 m St.ok :=
  (if_neg (by rw [hdrain]; decide)).trans (if_neg (by simp [hopen]))

/-- Another drain ends with the domain's ports closed. -/
theorem domainDrainEndStep_closes {m : Nat} (hdrain : b.net.domDrain.contains m = true) (hopen : openOf (drainEnded m b) 0x0704 m = []) :
    domainDrainEndStep m b = drainEnded m b :=
  (if_neg (by rw [hdrain]; decide)).trans (if_pos (by simp [hopen]))

end

/-- Settles O44: each row's guard is met. A timeout that brings DEV_TIME to its instant is log entry 8; table epochs and entries are log entry
53, and what a domain's end does is log entry 54. -/
theorem nocEvents : Obligations.NocEvents := by
  refine fun s r hon => ⟨fun hd pl err => ⟨?_, fun herr => ⟨?_, fun port hdst e he => ⟨?_, ?_⟩⟩⟩, ?_, ?_,
    fun x rest hx => ⟨?_, ?_, fun h3 hseen hold hflip => ⟨?_, ?_⟩, ?_⟩, fun p ht hst => ⟨?_, ?_⟩, fun m => ⟨?_, ?_, ?_⟩⟩
  · -- ROUTER_FLIT with a header error
    intro h2
    refine clockedOn_acts hon ?_
    rw [h2]
    exact routerFlitStep_headerError
  · -- ROUTER_FLIT for an endpoint of the router
    exact fun hdst => clockedOn_acts hon (routerFlitStep_local herr hdst)
  · -- ROUTER_FLIT that goes on
    exact fun h1 h2 hport => clockedOn_acts hon (routerFlitStep_routes herr hdst he h1 h2 hport)
  · -- ROUTER_FLIT whose way is closed
    exact fun hact => clockedOn_acts hon (routerFlitStep_answers herr hdst he hact)
  · -- NOC_CREDIT_RETURN
    exact fun port vc => clockedOn_answers _ _ s hon
  · -- REROUTE_START
    exact fun gone spared halved sites hlo hhi hup hrs hfit => clocked_acts hon.1 (rerouteStartStep_begins hlo hhi hup hrs hfit)
  · -- REROUTE_TABLES_CONFIRMED
    exact fun h1 => clocked_acts hon.1 (modReroute_congr hx (if_pos (by simp [h1])))
  · -- SITE_PORT_MOVE_CONFIRM
    exact fun site => clocked_acts hon.1 (modReroute_congr hx rfl)
  · -- ROUTER_TABLE_RETIRE, another router to follow
    exact fun hleft => clockedOn_acts hon ((routerTableRetireStep_retires hx h3 hseen hold hflip).trans (if_pos hleft))
  · -- ROUTER_TABLE_RETIRE, the last router
    exact fun hleft => clockedOn_acts hon ((routerTableRetireStep_retires hx h3 hseen hold hflip).trans (if_neg (by simp [hleft])))
  · -- REROUTE_SLOW
    exact fun h3 hslow => clocked_acts hon.1 (rerouteSlowStep_tells hx h3 hslow)
  · -- TARGET_TIMEOUT
    exact fun hdc => clocked_acts hon.1 (targetTimeoutStep_isolates ht hst hdc)
  · -- TARGET_TIMEOUT of a DRAM channel
    exact fun hd hq => clocked_acts hon.1 (targetTimeoutStep_channel ht hst hd hq)
  · -- DOMAIN_DRAIN_END behind NOC_DOMAIN_OFF
    exact fun hdrain hopen => clocked_acts hon.1 (domainDrainEndStep_off hdrain hopen)
  · -- DOMAIN_DRAIN_END of another drain
    exact fun hdrain hopen => clocked_acts hon.1 (domainDrainEndStep_closes hdrain hopen)
  · -- DOMAIN_OPENED
    exact clocked_answers _ s hon.1

end Sys2Proof.Proofs
end

section
/-! Die links (16): what an end of a module receives. -/

namespace Sys2Proof.Proofs

open Sys2Proof.Machine Sys2Proof.Laws

section
variable {d m : Nat} {b : Block} (hend : hasEnd d m = true)
include hend

/-! ## Discovery and training -/

theorem discoverySendStep_sends (h1 : linkState b d m = 1) :
    discoverySendStep d m b = b.emit (.discoveryRecord d m (recordOf b d m)) :=
  if_pos (by simp [hend, h1])

/-- Without a record discovery ends (R489). -/
theorem discoverTimeoutStep_ends (h1 : linkState b d m = 1) : discoverTimeoutStep d m b = discoverEnds m b :=
  if_neg (by simp [hend, h1])

/-- In DISCOVER a record is taken where its CRC is good, and discarded else (R484). -/
theorem discoveryRecordStep_eq {r : List Nat} (h1 : linkState b d m = 1) :
    discoveryRecordStep d m r b = if recGood r then recordTaken d m r b else b := by
  simp only [discoveryRecordStep, hend, h1, bne_self_eq_false, Bool.not_true, Bool.false_or, Bool.not_eq_true']
  cases recGood r <;> rfl

/-- Parameters come at the end of training and of retraining (R487). -/
theorem parameterExchangeDoneStep_takes {r : List Nat} {found : BitVec 68} (hst : linkState b d m = 3 ∨ linkState b d m = 6)
    (hgood : recGood r = true) : parameterExchangeDoneStep d m r found b = paramsTaken d m r found b :=
  if_neg (by rcases hst with h | h <;> simp [hend, h, hgood])

theorem dlTrainTimeoutStep_down (h3 : linkState b d m = 3) :
    dlTrainTimeoutStep d m b = (moduleDown m true b).close 0x0803 m St.timeout :=
  if_pos (by simp [hend, h3])

theorem retrainTimeoutStep_down (h6 : linkState b d m = 6) :
    retrainTimeoutStep d m b = (moduleDown m true b).close 0x0801 m St.timeout :=
  if_pos (by simp [hend, h6])

/-! ## Traffic on a module that is up -/

section
variable (hup : linkUp b d m = true)
include hup

theorem dlRxLockLossStep_retrains : dlRxLockLossStep d m b = enterRetrain m b :=
  if_pos (by simp [hend, hup])

/-- A flit whose CRC is good is accepted; one whose CRC is bad is counted and answered with a NAK (R493). -/
theorem fregalFlitReceiveStep_eq {flit : Nat} :
    fregalFlitReceiveStep d m flit b = if flitGood (flitOf (linkV2 b d m) flit) then flitAccepted d m (flitOf (linkV2 b d m) flit) b
      else sendNak d m (b.bump (Rg.dl d m + Rg.mCrcErr)) :=
  if_neg (by simp [hend, hup])

/-- A NAK of a flit that is held replays from it (R493). -/
theorem fregalNakStep_replays {seq : Nat}
    (hheld : (unacked (ackHeld ((seq + 0xFFFF) % 0x10000) (getEnd b d m))).any (fun x => x.1 == seq) = true) :
    fregalNakStep d m seq b = replay d m seq (modEnd d m (ackHeld ((seq + 0xFFFF) % 0x10000)) b) :=
  (if_neg (by simp [hend, hup])).trans (if_pos hheld)

/-- A timeout replays from the first flit that is not acknowledged (R493). -/
theorem replayTimeoutStep_replays {x : Nat × List Nat} {l : List (Nat × List Nat)} (hl : unacked (getEnd b d m) = x :: l) :
    replayTimeoutStep d m b = replay d m x.1 b :=
  (if_neg (by simp [hend, hup])).trans (by simp only [hl, List.head?_cons])

/-- A carrier is told the first unit that its sibling has not accepted (R497). -/
theorem carryReqStep_grants {k : Nat} (hother : sibling m k ≠ m) (hk : k < (siblings m).length) :
    carryReqStep d m k b = carryGranted d m k b :=
  if_neg (by simp [hend, hup, hother, Nat.not_le.2 hk])

/-- A carry-over ends once as many units have entered as were carried, and is awaited else (R497). -/
theorem carryResumeStep_eq {count : Nat} :
    carryResumeStep d m count b = if (getEnd b d m).inCount = count then carryEnd d m b
      else modEnd d m (fun e => { e with resumeAt := some count }) b := by
  refine (if_neg (by simp [hend, hup])).trans ?_
  simp only [beq_iff_eq]

/-- A lane below its margin is steered where AUTO_STEER is set, and told else (R501). -/
theorem dlLaneMarginStep_eq {l : Nat} (hlane : (getEnd b d m).rxFail.getLsbD l = false) :
    dlLaneMarginStep d m l b = if b.flag (Rg.dl d m) Rg.mAutoSteer then
      enterRetrain m (modEnd d m (fun e => { e with low := some l }) (b.putB (Rg.dl d m) Rg.mSteering true))
    else dlEvent d Ev.dlLaneSteered 0 b :=
  if_neg (by simp only [hend, hup, hlane]; decide)

end

/-- The acknowledgement of a carrier that was asked moves a module's units over (R497). -/
theorem carryAckStep_carries {k seq off : Nat} (hasked : (getEnd b d (sibling m k)).carrier = some (m, false)) :
    carryAckStep d m k seq off b = carriedOver d m k seq off b :=
  if_neg (by simp [hend, hasked])

end

/-- A die whose edge's last clock is lost stands; with another clock left it moves to that (R482). -/
theorem dlClockLossStep_eq {d m : Nat} {b : Block} (hdie : clockDie (edgeOf m) = some d) :
    dlClockLossStep d m b = if (siblings m).all (fun k => (clockLost m b).dl.clkLost.contains k) then dieDown d (clockLost m b)
      else clockMove m (clockLost m b) :=
  if_neg (by simp [hdie])

/-- Settles O46: the end is in the state that each row's guard asks for. Records taken in DISCOVER alone are log entry 57, and the event of a
low margin without AUTO_STEER is log entry 56. -/
theorem dieLinkEvents : Obligations.DieLinkEvents := by
  refine fun s d m hrun hend => ⟨fun h1 => ⟨?_, ?_, fun r hbad => ?_, fun r hgood => ?_⟩, ?_, ?_, ?_,
    fun hon hup => ⟨?_, fun flit => ⟨?_, ?_⟩, ?_, ?_, ?_, fun count => ⟨?_, ?_⟩, fun lane hlane => ⟨?_, ?_⟩⟩, ?_, fun hdie => ⟨?_, ?_⟩⟩
  · -- DISCOVERY_SEND
    exact clocked_acts hrun (discoverySendStep_sends hend h1)
  · -- DISCOVER_TIMEOUT
    exact clocked_acts hrun (discoverTimeoutStep_ends hend h1)
  · -- DISCOVERY_RECORD with a bad CRC
    exact clocked_acts (g := id) hrun ((discoveryRecordStep_eq hend h1).trans (if_neg (by simp [hbad])))
  · -- DISCOVERY_RECORD
    exact clocked_acts hrun ((discoveryRecordStep_eq hend h1).trans (if_pos hgood))
  · -- PARAMETER_EXCHANGE_DONE
    exact fun r found hon hst hgood => clockedOn_acts ⟨hrun, hon⟩ (parameterExchangeDoneStep_takes hend hst hgood)
  · -- DL_TRAIN_TIMEOUT
    exact fun h3 => clocked_acts hrun (dlTrainTimeoutStep_down hend h3)
  · -- RETRAIN_TIMEOUT
    exact fun h6 => clocked_acts hrun (retrainTimeoutStep_down hend h6)
  · -- DL_RX_LOCK_LOSS
    exact clockedOn_acts ⟨hrun, hon⟩ (dlRxLockLossStep_retrains hend hup)
  · -- FREGAL_FLIT_RECEIVE
    exact fun hgood => clockedOn_acts ⟨hrun, hon⟩ ((fregalFlitReceiveStep_eq hend hup).trans (if_pos hgood))
  · -- FREGAL_FLIT_RECEIVE with a bad CRC
    exact fun hbad => clockedOn_acts ⟨hrun, hon⟩ ((fregalFlitReceiveStep_eq hend hup).trans (if_neg (by simp [hbad])))
  · -- FREGAL_NAK
    exact fun seq hheld => clockedOn_acts ⟨hrun, hon⟩ (fregalNakStep_replays hend hup hheld)
  · -- REPLAY_TIMEOUT
    exact fun x l hl => clockedOn_acts ⟨hrun, hon⟩ (replayTimeoutStep_replays hend hup hl)
  · -- CARRY_REQ
    exact fun k hother hk => clockedOn_acts ⟨hrun, hon⟩ (carryReqStep_grants hend hup hother hk)
  · -- CARRY_RESUME, every carried unit in
    exact fun hall => clockedOn_acts ⟨hrun, hon⟩ ((carryResumeStep_eq hend hup).trans (if_pos hall))
  · -- CARRY_RESUME, units to come
    exact fun hleft => clockedOn_acts ⟨hrun, hon⟩ ((carryResumeStep_eq hend hup).trans (if_neg hleft))
  · -- DL_LANE_MARGIN with AUTO_STEER
    exact fun hauto => clockedOn_acts ⟨hrun, hon⟩ ((dlLaneMarginStep_eq hend hup hlane).trans (if_pos hauto))
  · -- DL_LANE_MARGIN without
    exact fun hauto => clockedOn_acts ⟨hrun, hon⟩ ((dlLaneMarginStep_eq hend hup hlane).trans (if_neg (by simp [hauto])))
  · -- CARRY_ACK
    exact fun k seq offset hon hasked => clockedOn_acts ⟨hrun, hon⟩ (carryAckStep_carries hend hasked)
  · -- DL_CLOCK_LOSS, the edge's last clock
    exact fun hlast => clocked_acts hrun ((dlClockLossStep_eq hdie).trans (if_pos hlast))
  · -- DL_CLOCK_LOSS, another clock left
    exact fun hmore => clocked_acts hrun ((dlClockLossStep_eq hdie).trans (if_neg (by rw [hmore]; decide)))

end Sys2Proof.Proofs
end

section
/-! The queue engine (17) and the interrupt controller (18): their commands and their own rows. -/

namespace Sys2Proof.Proofs

open Sys2Proof.Machine Sys2Proof.Laws

section
variable {c : Cmd} {b b' : Block}

/-! ## The commands of the queue engine -/

/-- A group that holds no queue takes its owner (R508). -/
theorem qeGroupAssignCmd_assigns {group owner : Nat} {o : Option Port} (ho : ownerOf owner = some o) (hg : group < 65536)
    (hfree : b.qe.made.any (fun q => q / 16 == group) = false) :
    qeGroupAssignCmd group owner c b =
      (modQe (fun x => { x with owners := spSet (fun _ => none) x.owners group o }) b).respond c St.ok := by
  simp only [qeGroupAssignCmd, ho]
  exact (if_neg (Nat.not_le.2 hg)).trans (if_neg (by rw [hfree]; decide))

/-- A queue of the port's own group, with arguments in their ranges and a ring well placed, is made (R509, R531). -/
theorem qeQueueCreateCmd_makes {queue base log2 dir esize vector cls irqEn pin pushSrc wbAddr deliv window : Nat}
    (hargs : createBad queue log2 dir esize vector cls irqEn pin pushSrc wbAddr deliv window = false)
    (hown : ownsQueue b c.port queue = true) (hnew : b.qe.made.contains queue = false)
    (hring : ringPlaced base ((if esize = 1 then 64 else 32) * 2 ^ log2) = true) (hpin : pin = 1 → pinnedCount b < 8192)
    (hroom : makeRoom queue b = (true, b')) :
    qeQueueCreateCmd queue base log2 dir esize vector cls irqEn pin pushSrc wbAddr deliv window c b =
      (putCtx queue (newQueue base log2 dir esize vector cls irqEn pin pushSrc wbAddr deliv window)
        (modQe (fun y => { y with made := y.made ++ [queue] }) b')).respond c St.ok := by
  have hunpinned : (pin == 1 && decide (pinnedMax ≤ pinnedCount b)) = false := by
    rw [Bool.and_eq_false_imp]
    exact fun h => decide_eq_false (Nat.not_le.2 (hpin (beq_iff_eq.1 h)))
  simp only [qeQueueCreateCmd, beq_iff_eq, hargs, hown, hnew, hring, hunpinned, hroom, Bool.not_true, Bool.false_eq_true, if_false]

/-- A command on a queue that its port owns, and that is not closing, has its effect with the context at hand (R531). -/
theorem onQueue_acts {queue : Nat} {f : QCtx → Block → Block} {x : QCtx} (hq : queue < 1048576) (hown : ownsQueue b c.port queue = true)
    (hmade : b.qe.made.contains queue = true) (hopen : b.qe.closing.contains queue = false) (hctx : ctxOf b queue = some x)
    (hroom : makeRoom queue b = (true, b')) : onQueue queue c f b = f x b' := by
  simp only [onQueue, Nat.not_le.2 hq, hown, hmade, hopen, hctx, hroom, Bool.not_true, Bool.false_eq_true, if_false]

/-- The number of a vector of its class: those of Greone start at 4,096. -/
theorem vectorNumber {vector cls : Nat} (hcls : cls ≤ 1) : (if (cls == 0) = true then vector else 4096 + vector) = 4096 * cls + vector := by
  obtain rfl | rfl : cls = 0 ∨ cls = 1 := by omega
  · simp
  · simp

/-- A vector that the port may set takes settings in their ranges (R522, R524). -/
theorem qeVectorSetCmd_sets {vector cls thresh timer target mask : Nat} (hlo : 0 < thresh) (hhi : thresh ≤ 255) (htlo : 0 < timer)
    (hthi : timer ≤ 1000) (hmask : mask ≤ 1) (hcls : cls = 0 ∧ vector < 4096 ∧ target ≤ 3 ∨ cls = 1 ∧ vector < 256 ∧ target ≤ 1)
    (hmay : maySetVector b c.port (4096 * cls + vector) = true) :
    qeVectorSetCmd vector cls thresh timer target mask c b =
      (vecChanged (4096 * cls + vector) (vectorPut (4096 * cls + vector) thresh timer target mask b)).respond c St.ok := by
  have hle : cls ≤ 1 := by omega
  have hargs : (decide (1 < cls) || decide ((if (cls == 0) = true then 4096 else 256) ≤ vector) || thresh == 0 || decide (255 < thresh) ||
      timer == 0 || decide (1000 < timer) || decide ((if (cls == 0) = true then 3 else 1) < target) || decide (1 < mask)) = false := by
    rcases hcls with ⟨rfl, hv, ht⟩ | ⟨rfl, hv, ht⟩ <;> simp <;> omega
  rw [qeVectorSetCmd, if_neg (by rw [hargs]; decide)]
  simp only [vectorNumber hle, hmay, Bool.not_true, Bool.false_eq_true, if_false]

end

/-- Settles O47: each command is admitted, and its group, queue or vector meets its guard. Owner code 6 for Greone is log entry 58, and the
responses are log entry 12. -/
theorem queueCommands : Obligations.QueueCommands := by
  refine fun s h => ⟨?_, ?_, fun queue x b hq hown hmade hopen hctx hroom => ⟨?_, ?_, ?_⟩, ?_, fun hA => live_command s h _ _ hA⟩
  · -- QE_GROUP_ASSIGN
    exact fun group owner o hA ho hg hfree => command_acts (f := qeGroupAssignCmd group owner) hA (qeGroupAssignCmd_assigns ho hg hfree)
  · -- QE_QUEUE_CREATE
    intro queue base log2 dir esize vector cls irqEn pin pushSrc wbAddr deliv window b hA hargs hown hnew hring hpin hroom
    exact command_sets hA (qeQueueCreateCmd_makes hargs hown hnew hring hpin hroom)
  · -- QE_QUEUE_DESTROY
    exact fun hA => command_sets hA (onQueue_acts hq hown hmade hopen hctx hroom)
  · -- QE_QUEUE_RESET
    exact fun hA => command_sets hA (onQueue_acts hq hown hmade hopen hctx hroom)
  · -- QE_QUEUE_STATUS
    exact fun hA => command_sets hA (onQueue_acts hq hown hmade hopen hctx hroom)
  · -- QE_VECTOR_SET
    intro vector cls thresh timer target mask hA hlo hhi htlo hthi hmask hcls hmay
    exact command_acts (f := qeVectorSetCmd vector cls thresh timer target mask) hA
      (qeVectorSetCmd_sets hlo hhi htlo hthi hmask hcls hmay)

section
variable {b b' : Block}

/-! ## What reaches port 0x402 -/

theorem qePushArrive_on {src q : Nat} {wide : Bool} {data : BitVec 512} (hon : qeOn b = true) :
    qePushArrive src q wide data b = workArrive (.push src q wide data) b :=
  if_pos hon

theorem qeDoorbellArrive_on {src q v : Nat} (hon : qeOn b = true) (hmay : ownerWrites (groupOwner b (q / 16)) src = true) :
    qeDoorbellArrive src q v b = workArrive (.doorbell src q v) b :=
  if_pos (by rw [hon, hmay]; decide)

theorem qeCreditArrive_on {src q n : Nat} (hon : qeOn b = true) (hmay : ownerWrites (groupOwner b (q / 16)) src = true) :
    qeCreditArrive src q n b = workArrive (.credit src q (n % 8192)) b :=
  if_pos (by rw [hon, hmay]; decide)

/-! ## Contexts -/

section
variable {q : Nat}

/-- The context that work waits for is read (R511). -/
theorem qeContextFillStep_reads (hwait : b.qe.waiting.any (fun w => workQueue w == q) = true) (hnone : cached? b q = none)
    (hretry : b.qe.retry.contains q = false) : qeContextFillStep q b = contextRead q b :=
  if_pos (by rw [hwait, hnone, hretry]; decide)

/-- A failed read is tried again (R512). -/
theorem qeContextRetryStep_reads (hretry : b.qe.retry.contains q = true) (hnone : cached? b q = none) :
    qeContextRetryStep q b = contextRead q b := by
  simp only [qeContextRetryStep, hretry, hnone, Bool.not_true, Bool.false_eq_true, if_false]

/-- A changed context is written back (R511). -/
theorem qeContextWritebackStep_writes {e : QCache} (he : cached? b q = some e) (hdirty : e.dirty = true)
    (hretry : b.qe.retry.contains q = false) : qeContextWritebackStep q false b = (writeBack q e b).2 := by
  simp only [qeContextWritebackStep, he, hdirty, hretry, Bool.not_false, Bool.and_true, Bool.false_eq_true, if_true, if_false]

/-- A context that may go is evicted (R511). -/
theorem qeContextWritebackStep_evicts {e : QCache} (he : cached? b q = some e) (hev : evictable b (q, some e) = true) :
    qeContextWritebackStep q true b = evictNow q e b := by
  simp only [qeContextWritebackStep, he, hev, if_true]

/-! ## Rings -/

theorem qeRingWriteResponseStep_answers {i : Nat} {ok : Bool} {w : RingWrite} (hw : b.qe.writes[i]? = some w) :
    qeRingWriteResponseStep i ok b = writeAnswered w ok b := by
  simp only [qeRingWriteResponseStep, hw]

theorem qeFetchResponseStep_answers {i p n : Nat} {ok : Bool} (hf : b.qe.fetches[i]? = some (q, p, n)) :
    qeFetchResponseStep i ok b = fetchAnswered q p n ok b := by
  simp only [qeFetchResponseStep, hf]

/-- A submission queue with entries and free delivery slots fetches (R519). -/
theorem qeSubmissionFetchStep_fetches {c : QCtx} (hctx : ctxOf b q = some c) (hon : qeOn b = true) (hv : c.valid = true)
    (hsub : c.sub = true) (herr : c.error = false) (hidle : b.qe.fetches.any (fun f => f.1 == q) = false) (hcount : 0 < fetchCount c)
    (hroom : makeRoom q b = (true, b')) :
    qeSubmissionFetchStep q b =
      modQe (fun x => { x with fetches := x.fetches ++ [(q, c.head, fetchCount c)] }) (putCtx q c b') := by
  simp only [qeSubmissionFetchStep, hctx, hon, hv, hsub, herr, hidle, hcount, hroom, Bool.not_false, Bool.and_true, decide_true, if_true]

/-- A head that is owed is written back (R520). -/
theorem qeHeadWritebackStep_writes {c : QCtx} (hb : b' = modQe (fun x => { x with wbDue := x.wbDue.filter (· != q) }) b)
    (hdue : b.qe.wbDue.contains q = true) (hctx : ctxOf b' q = some c) (hwb : c.wb = true) :
    qeHeadWritebackStep q b = postWrite c.wbAddr (leBytes 8 (posWord c.log2 c.head)) b' := by
  subst hb
  simp only [qeHeadWritebackStep, hdue, hctx, hwb, Bool.not_true, Bool.false_eq_true, if_true, if_false]

end

/-! ## Vectors and the host's sleep -/

section
variable {v : Nat}

/-- While the host sleeps its vector is WAKE_PENDING (R526). -/
theorem qeVectorFireStep_pends {f : VecFire} (hf : b.qe.firings.find? (fun f => f.vec == v && f.wait.isEmpty && !f.woken) = some f)
    (hhost : hostVec v = true) (hsleep : sleepState b ≠ 0) (hent : b.qe.entering.contains v = false) :
    qeVectorFireStep v b = wakePend f b := by
  simp only [qeVectorFireStep, hf]
  exact if_pos (by rw [hhost, hent]; simp [hsleep])

/-- While it is awake the firing is sent (R523). -/
theorem qeVectorFireStep_sends {f : VecFire} (hf : b.qe.firings.find? (fun f => f.vec == v && f.wait.isEmpty && !f.woken) = some f)
    (hawake : sleepState b = 0) : qeVectorFireStep v b = firingSent f b := by
  simp only [qeVectorFireStep, hf]
  exact if_neg (by simp [hawake])

theorem qeVectorTimerStep_due (hrun : b.flag (Rg.vec v) Rg.vTimerRun = true) :
    qeVectorTimerStep v b =
      tryFire v (modQe (fun x => { x with due := x.due.filter (· != v) ++ [v] }) (b.putB (Rg.vec v) Rg.vTimerRun false)) :=
  if_pos hrun

end

theorem qeSleepReqStep_begins (h0 : sleepState b = 0) : qeSleepReqStep b = sleepBegin b :=
  if_pos (by simp [h0])

/-- Once the last firings are out the host is asleep, or awake again where AWAKE has come (R525). -/
theorem qeSleepEnteredStep_eq (h1 : sleepState b = 1) (hent : b.qe.entering = []) :
    qeSleepEnteredStep b = if b.qe.awakeSeen then hostAwake b else asleep b :=
  if_neg (by simp [h1, hent])

theorem qeAwakeStep_entering (h1 : sleepState b = 1) : qeAwakeStep b = modQe (fun x => { x with awakeSeen := true }) b :=
  if_pos (by simp [h1])

theorem qeAwakeStep_asleep (h2 : 2 ≤ sleepState b) : qeAwakeStep b = hostAwake b :=
  (if_neg (by simp; omega)).trans (if_neg (by simp; omega))

end

/-- Settles O48: each row's guard is met. A doorbell finds the queue's direction not to be the other one. -/
theorem queueEvents : Obligations.QueueEvents := by
  refine fun s q src hrun => ⟨fun hon => ⟨?_, fun hmay v => ⟨?_, ?_, ?_⟩⟩, ?_, ?_, fun e he => ⟨?_, ?_⟩, fun i ok => ⟨?_, ?_⟩, ?_, ?_,
    fun v => ⟨fun f hf => ⟨?_, ?_⟩, ?_⟩, ?_, fun h1 hent => ⟨?_, ?_⟩, ?_, ?_⟩
  · -- QE_PUSH
    exact fun wide data => clocked_acts hrun (qePushArrive_on hon)
  · -- QE_COMPLETION_DOORBELL
    exact fun hdir => clocked_acts hrun (f := fun b => if otherDir b q false then b else qeDoorbellArrive src.toNat q v.toNat b)
      ((if_neg (by simp [hdir])).trans (qeDoorbellArrive_on hon hmay))
  · -- QE_SUBMISSION_DOORBELL
    exact fun hdir => clocked_acts hrun (f := fun b => if otherDir b q true then b else qeDoorbellArrive src.toNat q v.toNat b)
      ((if_neg (by simp [hdir])).trans (qeDoorbellArrive_on hon hmay))
  · -- QE_CREDIT_RETURN
    exact clocked_acts hrun (qeCreditArrive_on hon hmay)
  · -- QE_CONTEXT_FILL
    exact fun hwait hnone hretry => clocked_acts hrun (qeContextFillStep_reads hwait hnone hretry)
  · -- QE_CONTEXT_RETRY
    exact fun hretry hnone => clocked_acts hrun (qeContextRetryStep_reads hretry hnone)
  · -- QE_CONTEXT_WRITEBACK of a change
    exact fun hdirty hretry => clocked_acts hrun (qeContextWritebackStep_writes he hdirty hretry)
  · -- QE_CONTEXT_WRITEBACK on eviction
    exact fun hev => clocked_acts hrun (qeContextWritebackStep_evicts he hev)
  · -- QE_RING_WRITE_RESPONSE
    exact fun w hw => clocked_acts hrun (qeRingWriteResponseStep_answers hw)
  · -- QE_FETCH_RESPONSE
    exact fun p n hf => clocked_acts hrun (qeFetchResponseStep_answers hf)
  · -- QE_SUBMISSION_FETCH
    exact fun c b hctx hon hv hsub herr hidle hcount hroom =>
      clocked_sets hrun (qeSubmissionFetchStep_fetches hctx hon hv hsub herr hidle hcount hroom)
  · -- QE_HEAD_WRITEBACK
    exact fun c b hb hdue hctx hwb => clocked_sets hrun (qeHeadWritebackStep_writes hb hdue hctx hwb)
  · -- QE_VECTOR_FIRE while the host sleeps
    exact fun hhost hsleep hent => clocked_acts hrun (qeVectorFireStep_pends hf hhost hsleep hent)
  · -- QE_VECTOR_FIRE while it is awake
    exact fun hawake => clocked_acts hrun (qeVectorFireStep_sends hf hawake)
  · -- QE_VECTOR_TIMER
    exact fun htimer => clocked_acts hrun (qeVectorTimerStep_due htimer)
  · -- QE_SLEEP_REQ
    exact fun h0 => clocked_acts hrun (qeSleepReqStep_begins h0)
  · -- QE_SLEEP_ENTERED
    exact fun hno => clocked_acts hrun ((qeSleepEnteredStep_eq h1 hent).trans (if_neg (by simp [hno])))
  · -- QE_SLEEP_ENTERED after AWAKE
    exact fun hseen => clocked_acts hrun ((qeSleepEnteredStep_eq h1 hent).trans (if_pos hseen))
  · -- QE_AWAKE while the host goes to sleep
    exact fun h1 => clocked_acts hrun (qeAwakeStep_entering h1)
  · -- QE_AWAKE while it sleeps
    exact fun h2 => clocked_acts hrun (qeAwakeStep_asleep h2)

section
variable {b : Block}

/-! ## The interrupt controller -/

theorem eicSourceEdgeStep_edge {n : Nat} (hmode : srcF b n Rg.srcMode = 0) : eicSourceEdgeStep n b = b.eicEdge n :=
  if_pos (by simp [hmode])

/-- A target that is not yet notified, and whose site is not asleep, is notified of its best source (R545, R548). -/
theorem eicNotifyStep_notifies {t n : Nat} (hbest : eicBest b t = some n) (hno : b.flag (Rg.eicT t) Rg.eicNotified = false)
    (hawake : t < 2 ∨ 6 ≤ t ∨ sleepState b < 2) : eicNotifyStep t b = notifyTarget t n b := by
  simp only [eicNotifyStep, hbest]
  exact (if_neg (by simp [hno])).trans (if_neg (by simp; omega))

theorem eicCompleteStep_completes {t n : Nat} (hact : activeFor b t n = true) : eicCompleteStep t n b = completeSource t n b :=
  if_pos hact

/-- A source takes settings in their ranges, with ENABLE bits of the port's own targets (R674). -/
theorem eicSourceSetCmd_sets {src prio enable mode : Nat} {c : Cmd} (hsrc : src < 2048) (hasg : eicAssigned src = true) (hprio : prio ≤ 31)
    (hen : enable ≤ 255) (hmode : mode ≤ 1) (hown : Nat.land enable (portTargets c.port) = enable) :
    eicSourceSetCmd src prio enable mode c b =
      (sourceChanged src (sourcePut src prio enable mode (portTargets c.port) b)).respond c St.ok :=
  (if_neg (by simp [Nat.not_le.2 hsrc, hasg, Nat.not_lt.2 hprio, Nat.not_lt.2 hen, Nat.not_lt.2 hmode])).trans
    (if_neg (by rw [hown]; simp))

/-- A target of the port's own takes a threshold and a message address in its site's window (R673, R674). -/
theorem eicTargetSetCmd_sets {t thresh msgAddr : Nat} {c : Cmd} (ht : t < 8) (hth : thresh ≤ 31)
    (hown : (portTargets c.port).testBit t = true) (hwin : inSiteWindow b t msgAddr = true) (halign : msgAddr % 64 = 0) :
    eicTargetSetCmd t thresh msgAddr c b =
      (settleNotified ((b.put (Rg.eicT t) Rg.eicThresh thresh).put (Rg.eicT t) Rg.eicMsgAddr msgAddr)).respond c St.ok :=
  (if_neg (by simp [Nat.not_le.2 ht, Nat.not_lt.2 hth])).trans ((if_neg (by simp [hown])).trans (if_neg (by simp [hwin, halign])))

end

/-- Settles O49: each row's guard is met. The taps that the model holds are log entry 59, and the response of EIC_STATUS is log entry 12. -/
theorem eicRows : Obligations.EicRows := by
  refine fun s h t => ⟨fun hrun => ⟨?_, ?_, ?_, ?_, ?_⟩, ?_, ?_, fun hA => live_command s h _ _ hA⟩
  · -- EIC_SOURCE_EDGE
    exact fun n hmode => clocked_acts hrun (eicSourceEdgeStep_edge hmode)
  · -- EIC_SOURCE_LEVEL
    exact fun sector line high => clocked_answers _ s hrun
  · -- EIC_NOTIFY
    exact fun n hbest hno hawake => clocked_acts hrun (eicNotifyStep_notifies hbest hno hawake)
  · -- EIC_CLAIM
    exact clocked_answers (eicClaimStep t) s hrun
  · -- EIC_COMPLETE
    exact fun n hact => clocked_acts hrun (eicCompleteStep_completes hact)
  · -- EIC_SOURCE_SET
    exact fun src prio enable mode hA hsrc hasg hprio hen hmode hown =>
      command_acts (f := eicSourceSetCmd src prio enable mode) hA (eicSourceSetCmd_sets hsrc hasg hprio hen hmode hown)
  · -- EIC_TARGET_SET
    exact fun thresh msgAddr hA hth hown hwin halign =>
      command_acts (f := eicTargetSetCmd t thresh msgAddr) hA (eicTargetSetCmd_sets t.isLt hth hown hwin halign)

end Sys2Proof.Proofs
end

section
/-! Greone (19): restarts, the Safelight network and events, and the device commands. -/

namespace Sys2Proof.Proofs

open Sys2Proof.Machine Sys2Proof.Laws

section
variable {b : Block}

/-! ## Restarts -/

/-- A crash of cores that run makes a restart due (R551). -/
theorem crashStep_due {cause : Nat} (hup : b.gr.up = true) (hrs : b.gr.restarting = false) :
    crashStep cause b = modGr (fun g => { g with restartDue := some cause }) b :=
  (if_neg (by simp [hup])).trans (if_neg (by simp [hrs]))

/-- A restart that is due, and waits for no response, begins (R552). -/
theorem greoneRestartBeginStep_begins {cause : Nat} (hdue : b.gr.restartDue = some cause) (hrs : b.gr.restarting = false)
    (hwait : restartWaits b cause = false) : greoneRestartBeginStep b = restartBegin cause b := by
  simp only [greoneRestartBeginStep, hdue, hrs, hwait, Bool.or_self, Bool.false_eq_true, if_false]

/-- With an image chosen the restart ends; firmware takes up its work outside Stage 0 and RECOVERY (R552; log entry 63). -/
theorem greoneReadyStep_eq {cause : Nat} {b' : Block} (hdue : b.gr.restartDue = some cause) (hrs : b.gr.restarting = true)
    (himg : b.start.imageChosen = true) (hb : b' = modGr (fun g => { g with restarting := false, restartDue := none }) b) :
    greoneReadyStep b = if stageOf b' = 0 ∨ stageOf b' = 7 then b' else restartedFirmware cause b' := by
  subst hb
  refine (if_neg (by simp [hrs, himg])).trans ?_
  simp only [hdue, Option.getD_some, Bool.or_eq_true, beq_iff_eq]

/-! ## The Safelight network and events -/

/-- A good READ or WRITE acts at its destination's window (R553 to R555). -/
theorem safelightFrameStep_access {f : BitVec 160} {w : Nat} (hok : safelightOk f = true)
    (hkind : fldGet f.toNat 0 4 = 2 ∨ fldGet f.toNat 0 4 = 3) (hw : portWindow (fldGet f.toNat 8 12) = some w) :
    safelightFrameStep f b = safelightAccess (fldGet f.toNat 0 4) w (fldGet f.toNat 56 8) (fldGet f.toNat 20 12)
      (fldGet f.toNat 32 24) (fldGet f.toNat 64 64) b := by
  delta safelightFrameStep
  refine (if_neg (by simp [hok])).trans ((if_pos (by simpa using hkind)).trans ?_)
  simp only [hw]

/-- A good RESPONSE is taken by its destination. -/
theorem safelightFrameStep_response {f : BitVec 160} (hok : safelightOk f = true) (hkind : fldGet f.toNat 0 4 = 4) :
    safelightFrameStep f b = modGr (fun g =>
      { g with slReplies := g.slReplies.filter (fun x => !(x.1 == fldGet f.toNat 56 8 && x.2.1 == fldGet f.toNat 8 12)) }) b := by
  delta safelightFrameStep
  exact (if_neg (by simp [hok])).trans ((if_neg (by simp [hkind])).trans (if_pos (by simp [hkind])))

/-- A good EVENT enters the FIFO (R582). -/
theorem safelightFrameStep_event {f : BitVec 160} (hok : safelightOk f = true) (hkind : fldGet f.toNat 0 4 = 5) :
    safelightFrameStep f b = eventFrameStep b := by
  delta safelightFrameStep
  exact (if_neg (by simp [hok])).trans ((if_neg (by simp [hkind])).trans ((if_neg (by simp [hkind])).trans (if_pos (by simp [hkind]))))

theorem safelightSegmentFailStep_fails {k : Nat} {rev : Bool} (hgood : b.gr.segFail.getLsbD (k + (if rev then 5 else 0)) = false) :
    safelightSegmentFailStep k rev b = segmentFailed k rev b :=
  if_neg (by rw [hgood]; decide)

/-- The oldest frame enters a FIFO with room (R582). -/
theorem eventFrameStep_enters {f : EvFrame} {l : List EvFrame} (hf : b.ev.frames = f :: l) (hroom : b.ev.fifo.length < 512) :
    eventFrameStep b = modEv (fun e => { e with frames := l, fifo := e.fifo ++ [f] }) b := by
  simp only [eventFrameStep, hf]
  exact if_pos hroom

/-- Firmware that runs logs the FIFO's front (R582). -/
theorem eventLogWriteStep_logs {f : EvFrame} {l : List EvFrame} (hf : b.ev.fifo = f :: l) (hrun : firmwareRuns b = true) :
    eventLogWriteStep b = logFrame f b := by
  simp only [eventLogWriteStep, hf, hrun, if_true]

end

/-- Settles O50: each row's guard is met. In Stage 0 and in RECOVERY Greone only becomes ready again, which is log entry 63. -/
theorem restartEvents : Obligations.RestartEvents := by
  refine fun s hr => ⟨fun hup hrs => ⟨?_, ?_⟩, ?_, fun cause hdue hrs himg b hb => ⟨?_, ?_⟩, fun f hok => ⟨?_, ?_, ?_⟩, ?_, ?_, ?_⟩
  · -- LOCKSTEP_MISMATCH
    exact live_acts hr (crashStep_due hup hrs)
  · -- WATCHDOG_EXPIRY
    exact live_acts hr (crashStep_due hup hrs)
  · -- GREONE_RESTART_BEGIN
    exact fun cause hdue hrs hwait => live_acts hr (greoneRestartBeginStep_begins hdue hrs hwait)
  · -- GREONE_READY of firmware
    intro h0 h7
    exact live_sets hr ((greoneReadyStep_eq hdue hrs himg hb).trans (if_neg (by simp [h0, h7])))
  · -- GREONE_READY of the boot ROM
    exact fun hst => live_sets hr ((greoneReadyStep_eq hdue hrs himg hb).trans (if_pos hst))
  · -- SAFELIGHT_FRAME: READ and WRITE
    exact fun w hkind hw => live_acts hr (safelightFrameStep_access hok hkind hw)
  · -- SAFELIGHT_FRAME: RESPONSE
    exact fun hkind => live_acts hr (safelightFrameStep_response hok hkind)
  · -- SAFELIGHT_FRAME: EVENT
    exact fun hkind => live_acts hr (safelightFrameStep_event hok hkind)
  · -- SAFELIGHT_SEGMENT_FAIL
    exact fun k rev hgood => live_acts hr (safelightSegmentFailStep_fails hgood)
  · -- EVENT_FRAME
    exact fun f l hf hroom => live_acts hr (eventFrameStep_enters hf hroom)
  · -- EVENT_LOG_WRITE
    exact fun f l hf hrun => live_acts hr (eventLogWriteStep_logs hf hrun)

section
variable {c : Cmd} {b : Block}

/-! ## Device commands -/

/-- A register that the port may read is read (R566). -/
theorem regReadCmd_reads {addr size a : Nat} (ha : cmdReg addr size = some a) (hon : dieUnreachable b a = false)
    (hmay : regReadable b c.port a = true) :
    regReadCmd addr size c b = (readReg a (size == 8) b).2.respond c St.ok [(8, (readReg a (size == 8) b).1)] := by
  simp only [regReadCmd, ha, hon, hmay, Bool.not_true, Bool.false_eq_true, if_false]

/-- A register outside Greone's window and other ports' mailboxes, and that Greone does not write alone, is written (R566). -/
theorem regWriteCmd_writes {addr size a v : Nat} (ha : cmdReg addr size = some a) (hon : dieUnreachable b a = false)
    (hgreone : winOf a ≠ 0x01) (hmbx : winOf a = 0x00 → a / 0x100000 = portNum c.port) (hfree : greoneWrites a = false) :
    regWriteCmd addr size v c b = (writeReg a (size == 8) v b).respond c St.ok := by
  have hmine : (winOf a == 0x00 && a / 0x100000 != portNum c.port) = false := by
    rw [Bool.and_eq_false_imp]
    exact fun h => bne_eq_false_iff_eq.2 (hmbx (beq_iff_eq.1 h))
  simp only [regWriteCmd, ha, hon, hmine, hfree, beq_false_of_ne hgreone, Bool.or_self, Bool.false_eq_true, if_false]

theorem expertDropCmd_drops {level : Nat} (hl : level ≤ 2) : expertDropCmd level c b = (levelDrop c.port level b).respond c St.ok :=
  if_neg (Nat.not_lt.2 hl)

theorem eventReadCmd_finds {seq : Nat} {e : EvEntry} (he : b.ev.log.find? (fun e => decide (seq ≤ e.seq.toNat)) = some e) :
    eventReadCmd seq c b = b.respond c St.ok ((eventBytes e).map (fun x => (1, x))) := by
  simp only [eventReadCmd, he]

/-- Queue 0xF_FFFF stops the delivery of events (R584). -/
theorem eventQueueCmd_stops {floor : Nat} : eventQueueCmd 0xFFFFF floor c b = (modEv (fun e => { e with queue := none }) b).respond c St.ok :=
  if_pos (by decide)

/-- A queue that may take events takes those at or above the floor (R584). -/
theorem eventQueueCmd_delivers {q floor : Nat} (hq : q < 0xFFFFF) (hf : floor ≤ 3) (hok : eventQueueOk b c.port q = true) :
    eventQueueCmd q floor c b = (modEv (fun e => { e with queue := some (q, floor) }) b).respond c St.ok :=
  (if_neg (by simp; omega)).trans (if_neg (by simp [hok, Nat.not_lt.2 hf]; omega))

section
variable {id : Nat} (hid : settingDefault id ≠ none)
include hid

theorem settingsReadCmd_known : settingsReadCmd id c b =
    b.respond c St.ok [(8, settingIn b.gr.committed id), (1, settingLen id), (1, settingSource b id)] :=
  if_neg (by simp [hid])

/-- A value in its setting's range, no level above the ceiling, is staged (R586). -/
theorem settingsWriteCmd_stages {v : Nat} (hrange : settingInRange b id v = true) (hceil : overCeiling b id v = false) :
    settingsWriteCmd id v c b = (stageValue id v b).respond c St.ok :=
  if_neg (by simp [hid, hrange, hceil])

end

/-- Staged values that need no owner's authority are committed (R586). -/
theorem settingsCommitCmd_starts {addr len : Nat} (hstore : storeBlocked b = false)
    (howner : b.gr.staged.any (fun x => settingOwner x.1) = false ∨ activeSlots b = []) :
    settingsCommitCmd addr len c b = commitStart c b := by
  have hfree : (b.gr.staged.any (fun x => settingOwner x.1) && !(activeSlots b).isEmpty) = false := by
    rcases howner with h | h <;> simp only [h] <;> simp
  rw [settingsCommitCmd, if_neg (by simp [hstore]), if_neg (by rw [hfree]; decide)]

end

/-- Settles O52: each command is admitted and its arguments meet its guard. EXPERT_DROP takes a level above the present one too, which is log
entry 14. -/
theorem deviceCommands : Obligations.DeviceCommands := by
  refine fun s h => ⟨?_, ?_, ?_, fun addr size a ha hon => ⟨?_, ?_⟩, ?_, ?_, ?_, fun hA => ⟨?_, ?_⟩, fun id v hid => ⟨?_, ?_⟩, ?_⟩
  · -- DEV_INFO
    exact fun hA => live_command s h _ devInfoCmd hA
  · -- DEV_STATUS
    exact fun hA => live_command s h _ devStatusCmd hA
  · -- MBX_BARRIER
    exact fun hA => live_command s h _ mbxBarrierCmd hA
  · -- REG_READ
    exact fun hA hmay => command_sets hA (regReadCmd_reads ha hon hmay)
  · -- REG_WRITE
    exact fun v hA hgreone hmbx hfree =>
      command_acts (f := regWriteCmd addr size v) hA (regWriteCmd_writes ha hon hgreone hmbx hfree)
  · -- GREONE_RESTART
    exact fun hA => live_command s h _ greoneRestartCmd hA
  · -- EXPERT_DROP
    exact fun level hA hl => command_acts (f := expertDropCmd level) hA (expertDropCmd_drops hl)
  · -- EVENT_READ
    exact fun seq e hA he => command_acts (f := eventReadCmd seq) hA (eventReadCmd_finds he)
  · -- EVENT_QUEUE, none
    exact fun floor => command_acts (f := eventQueueCmd 0xFFFFF floor) hA eventQueueCmd_stops
  · -- EVENT_QUEUE
    exact fun q floor hq hf hok => command_acts (f := eventQueueCmd q floor) hA (eventQueueCmd_delivers hq hf hok)
  · -- SETTINGS_READ
    exact fun hA => command_acts (f := settingsReadCmd id) hA (settingsReadCmd_known hid)
  · -- SETTINGS_WRITE
    exact fun hA hrange hceil => command_acts (f := settingsWriteCmd id v) hA (settingsWriteCmd_stages hid hrange hceil)
  · -- SETTINGS_COMMIT
    exact fun addr len hA hstore howner => command_acts (f := settingsCommitCmd addr len) hA (settingsCommitCmd_starts hstore howner)

end Sys2Proof.Proofs
end

section
/-! Self-tests (19): the commands, the quiet points of the schedule and the ends of runs. -/

namespace Sys2Proof.Proofs

open Sys2Proof.Machine Sys2Proof.Laws

section
variable {c : Cmd} {b : Block}

/-! ## The commands -/

/-- An eye scan runs on an ACTIVE lane alone (R576). -/
theorem scanLane_ok {test target : Nat} (h : test = 1 → laneState b target = 5) : (test == 1 && laneState b target != 5) = false := by
  rw [Bool.and_eq_false_imp]
  exact fun h1 => bne_eq_false_iff_eq.2 (h (beq_iff_eq.1 h1))

/-- A test other than 0x11, on a target that is there, that runs, and whose condition holds, begins with its command held (R575, R576). -/
theorem testRunCmd_begins {test target args n : Nat} (hn : testTargets test = some n) (ht : testTarget test target < n)
    (hargs : testArgsOk b test (testTarget test target) args = true) (h11 : test ≠ 0x11) (hstage : stageOk b (testStage test) = true)
    (hreach : testReach b test (testTarget test target) = true) (hscan : test = 1 → laneState b (testTarget test target) = 5)
    (hcond : testCond b test (testTarget test target) = true) (hbusy : testBusy b test (testTarget test target) = false) :
    testRunCmd test target args c b =
      (testAdd { test := test, target := testTarget test target, slot := none, resume := false, begun := true }
        (testBegin test (testTarget test target) args b)).hold c 0x0E00 (testObj test (testTarget test target)) := by
  simp only [testRunCmd, hn, hargs, hstage, hreach, scanLane_ok hscan, hcond, hbusy, beq_false_of_ne h11, decide_eq_false (Nat.not_le.2 ht),
    Bool.not_true, Bool.or_self, Bool.false_eq_true, if_false]

/-- A test with a legal quiet point and arguments enters the lowest empty slot (R577). -/
theorem testScheduleCmd_enters {test quiet target time args n k : Nat} (hn : testTargets test = some n) (ht : testTarget test target < n)
    (hq : quiet ≤ 3) (h1 : quiet = 1 → test = 0xD) (h2 : quiet = 2 → time ≠ 2 ^ 64 - 1)
    (hargs : testArgsOk b test (testTarget test target) args = true)
    (hk : (List.range 16).find? (fun k => (getSlot b k).isNone) = some k) :
    testScheduleCmd test quiet target time args c b =
      (slotPut k (some { test := test, quiet := quiet, target := testTarget test target, time := time, args := args, port := c.port }) 0
        b).respond c St.ok [(1, k)] := by
  have hidle : (quiet == 1 && test != 0xD) = false := by
    rw [Bool.and_eq_false_imp]
    exact fun h => bne_eq_false_iff_eq.2 (h1 (beq_iff_eq.1 h))
  have htime : (quiet == 2 && time == 2 ^ 64 - 1) = false := by
    rw [Bool.and_eq_false_imp]
    exact fun h => beq_false_of_ne (h2 (beq_iff_eq.1 h))
  simp only [testScheduleCmd, upto, hn, hargs, hidle, htime, hk, decide_eq_false (Nat.not_le.2 ht), decide_eq_false (Nat.not_lt.2 hq),
    Bool.not_true, Bool.or_self, Bool.false_eq_true, if_false]

section
variable {k : Nat} (hk : k < 16)
include hk

/-- A test that waits leaves its slot, which shows CANCELLED (R577). -/
theorem testCancelCmd_cancels (hslot : getSlot b k ≠ none) (hwait : slotRun b k = none) :
    testCancelCmd k c b = (slotPut k none stCancelled b).respond c St.ok :=
  (if_neg (by simp [Nat.not_le.2 hk, hslot])).trans (if_neg (by simp [hwait]))

theorem testStatusCmd_tells : testStatusCmd k c b = b.respond c St.ok
    [(1, if (slotRun b k).isSome then 2 else if (getSlot b k).isSome then 1 else 0), (2, spGet (fun _ => 0) b.gr.slotStatus k)] :=
  if_neg (Nat.not_le.2 hk)

end

/-! ## Quiet points and ends -/

/-- At its quiet point a waiting test begins where its condition holds, and its block is quiesced else (R577). -/
theorem testQuietPointStep_eq {k : Nat} {e : TestEntry} (hrun : firmwareRuns b = true) (he : getSlot b k = some e)
    (hwait : slotRun b k = none) (hquiet : quietNow b e = true) (h2 : e.quiet ≠ 2) (hstage : stageOk b (testStage e.test) = true)
    (hargs : testArgsOk b e.test e.target e.args = true) (hreach : testReach b e.test e.target = true)
    (hscan : e.test = 1 → laneState b e.target = 5) :
    testQuietPointStep k b = if testCond b e.test e.target then
        if testBusy b e.test e.target then b else slotBegin k e false b
      else quietQuiesce k e b := by
  simp only [testQuietPointStep, hrun, he, hwait, hquiet, hstage, when, beq_false_of_ne h2, hargs, hreach, scanLane_ok hscan, Bool.not_true,
    Bool.or_self, Bool.false_eq_true, if_false]

/-- A run that has done its work ends with its result (R575, R576; log entry 62). -/
theorem selfTestCompleteStep_eq {test target : Nat} {pass : Bool} {offsets : List Nat} {t : TestRun} (hrun : firmwareRuns b = true)
    (ht : b.gr.tests.find? (fun t => t.test == test && t.target == target && t.begun) = some t) (hdone : testDone b t = true) :
    selfTestCompleteStep test target pass offsets b = if testPassed b t pass then testEnd t St.ok [] b
      else testEnd t stTestFailed ((offsets.take 16).map (fun x => (8, x))) b := by
  simp only [selfTestCompleteStep, ht]
  exact if_neg (by simp [hrun, hdone])

end

/-- Settles O53: each command is admitted, and each row's guard is met. TEST_STATUS's response is log entry 12; the tests' arguments, the
offsets and TEST_FAILED are log entry 62. -/
theorem selfTests : Obligations.SelfTests := by
  refine fun s h => ⟨?_, ?_, fun k hk => ⟨?_, ?_⟩, fun hclk hrun => ⟨fun k e he hwait hquiet h2 hstage hargs hreach hscan => ⟨?_, ?_⟩,
    fun test target pass offsets t ht hdone => ⟨?_, ?_⟩⟩⟩
  · -- TEST_RUN
    intro test target args n hA hn ht hargs h11 hstage hreach hscan hcond hbusy
    exact command_acts (f := testRunCmd test target args) hA (testRunCmd_begins hn ht hargs h11 hstage hreach hscan hcond hbusy)
  · -- TEST_SCHEDULE
    intro test quiet target time args n k hA hn ht hq h1 h2 hargs hk
    exact command_acts (f := testScheduleCmd test quiet target time args) hA (testScheduleCmd_enters hn ht hq h1 h2 hargs hk)
  · -- TEST_CANCEL
    exact fun hA hslot hwait => command_acts (f := testCancelCmd k) hA (testCancelCmd_cancels hk hslot hwait)
  · -- TEST_STATUS
    exact fun hA => command_acts (f := testStatusCmd k) hA (testStatusCmd_tells hk)
  · -- TEST_QUIET_POINT, the condition holding
    intro hcond hbusy
    refine clocked_acts hclk ((testQuietPointStep_eq hrun he hwait hquiet h2 hstage hargs hreach hscan).trans ?_)
    exact (if_pos hcond).trans (if_neg (by simp [hbusy]))
  · -- TEST_QUIET_POINT of a block to quiesce
    exact fun hcond => clocked_acts hclk ((testQuietPointStep_eq hrun he hwait hquiet h2 hstage hargs hreach hscan).trans
      (if_neg (by simp [hcond])))
  · -- SELF_TEST_COMPLETE, passed
    exact fun hpass => clocked_acts hclk ((selfTestCompleteStep_eq hrun ht hdone).trans (if_pos hpass))
  · -- SELF_TEST_COMPLETE, failed
    exact fun hfail => clocked_acts hclk ((selfTestCompleteStep_eq hrun ht hdone).trans (if_neg (by simp [hfail])))

end Sys2Proof.Proofs
end

section
/-! Protocol v1 (19): its commands act as those of v2 that they stand for. -/

namespace Sys2Proof.Proofs

open Sys2Proof.Machine Sys2Proof.Laws

section
variable {c : Cmd} {b b' : Block}

/-- CFG_LOAD of a plate that is not relocatable is a PLATE_LOAD from memory without options (R574). -/
theorem cfgLoadCmd_loads {addr len : Nat} {bs : List Nat} (hread : plateRead false addr 256 b = (some bs, b'))
    (hkind : (headerOf bs).kind ≠ 2) : cfgLoadCmd addr len c b = plateLoadCmd 0 0 0 0xFFFF 0 0 addr len c b' := by
  simp only [cfgLoadCmd, hread, Option.map_some, Option.getD_some, beq_false_of_ne hkind, Bool.and_false, Bool.false_eq_true, if_false]

/-- CFG_STATUS of a region that may be given answers its state and its last load (R574). -/
theorem plateStatusCmd_v1 {r : Nat} (hr : regionGiven r = true) (hv : c.v1 = true) :
    plateStatusCmd r c b =
      b.respond c St.ok [(1, regionState b r), (1, (getRegion b r).lastLoad % 256), (1, (getRegion b r).lastLoad / 256)] :=
  (if_neg (by simp [hr])).trans (if_pos hv)

end

/-- Settles O54: each command is admitted, and meets the guard of the v2 command that it stands for. -/
theorem v1Commands : Obligations.V1Commands := by
  refine fun s h => ⟨?_, ?_, ?_, ?_, ?_, fun n hn hon => ⟨?_, ?_⟩, fun die mask hd h0 hm hon => ⟨?_, ?_⟩,
    fun addr size a v _ ha hon => ⟨?_, ?_⟩⟩
  · -- INFO
    exact fun hA => live_commandV1 s h _ _ devInfoCmd hA
  · -- STATUS
    exact fun hA => live_commandV1 s h _ _ devStatusCmd hA
  · -- BARRIER
    exact fun hA => live_commandV1 s h _ _ mbxBarrierCmd hA
  · -- CFG_LOAD
    intro a0 addr len bs l b b' hA hread _ hkind htr hchk
    refine commandV1_sets hA ((cfgLoadCmd_loads hread hkind).trans ?_)
    exact (plateLoadCmd_asks _ _ _ addr len htr (by decide) (by decide) (by decide)).trans (loadAsk_command hchk)
  · -- CFG_STATUS
    exact fun r hA hlo hhi => commandV1_acts (f := plateStatusCmd r) hA (plateStatusCmd_v1 (regionGiven_of_bounds hlo hhi) rfl)
  · -- MEM_TRAIN
    exact fun hA hfree hst => dieCommandV1_acts (f := dramTrainCmd n 255) hA hon (dramTrainCmd_starts hn (.inr rfl) hst hfree)
  · -- MEM_STATUS
    exact fun hA => dieCommandV1_acts (f := dramStatusCmd n) hA hon (dramStatusCmd_known hn)
  · -- LINK_UP
    exact fun hA hlanes => dieCommandV1_acts (f := laneUpCmd die mask 0 0) hA hon
      (laneUpCmd_starts hd h0 hm (by decide) (by decide) hlanes (fun h => absurd rfl h))
  · -- LINK_DOWN
    exact fun hA => dieCommandV1_acts (f := laneDownCmd die mask) hA hon (laneDownCmd_legal hd h0 hm)
  · -- REG_RD
    intro hA h8 hmay
    subst h8
    exact commandV1_sets hA (regReadCmd_reads ha hon hmay)
  · -- REG_WR
    intro hA h4 hgreone hmbx hfree
    subst h4
    exact commandV1_acts (f := regWriteCmd addr 4 v) hA (regWriteCmd_writes ha hon hgreone hmbx hfree)

end Sys2Proof.Proofs
end

section
/-! Security (20): the commands, with authorised requests and without, and the engine's own events. -/

namespace Sys2Proof.Proofs

open Sys2Proof.Machine Sys2Proof.Laws

section
variable {c : Cmd} {b b' : Block}

/-! ## Certificates, owner keys and quotes -/

/-- A certificate that fits the space given is written to memory (R607). -/
theorem secIdCertCmd_writes {which addr len : Nat} (hw : which ≤ 1)
    (hlen : (if which = 0 then b.nv.fuses.idCert else b.nv.fuses.mfgCert).length ≤ len)
    (hmem : writeMem srcGreone addr ((if which = 0 then b.nv.fuses.idCert else b.nv.fuses.mfgCert).map BitVec.toNat) b = (true, b')) :
    secIdCertCmd which addr len c b = b'.respond c St.ok := by
  simp only [secIdCertCmd, beq_iff_eq, hmem, decide_eq_false (Nat.not_lt.2 hw), decide_eq_false (Nat.not_lt.2 hlen), Bool.or_self,
    Bool.false_eq_true, if_false, if_true]

section
variable {slot addr : Nat} (hslot : slot < 4)
include hslot

/-- A key that matches its slot's hash is kept (R594). -/
theorem secOwnerKeyPutCmd_takes {bs : List Nat} {m : BitVec 3072} (hread : readMem srcGreone addr 388 b = (some bs, b'))
    (hkey : keyOfBytes bs = some m) (hhash : (ownerFuse b' slot).hash = keyHash m) :
    secOwnerKeyPutCmd slot addr c b =
      ((modNv (fun x => { x with ownerKeys := spSet (fun _ => none) x.ownerKeys slot (some m) }) b').putB
        (Rg.owner slot) Rg.oKeyOk true).respond c St.ok := by
  rw [secOwnerKeyPutCmd, if_neg (Nat.not_le.2 hslot), hread]
  simp only [Option.bind_some, hkey]
  exact if_pos (beq_iff_eq.2 hhash)

/-- Bytes that are no key of that hash are a mismatch, those that cannot be read too (R594; log entry 65). -/
theorem secOwnerKeyPutCmd_mismatch {r : Option (List Nat) × Block} (hread : readMem srcGreone addr 388 b = r)
    (hno : ∀ m : BitVec 3072, r.1.bind keyOfBytes = some m → (ownerFuse r.2 slot).hash ≠ keyHash m) :
    secOwnerKeyPutCmd slot addr c b = r.2.respond c St.keyMismatch := by
  simp only [secOwnerKeyPutCmd, Nat.not_le.2 hslot, hread, if_false]
  cases hkey : r.1.bind keyOfBytes with
  | none => rfl
  | some m => exact if_neg (by simpa using hno m hkey)

end

/-- A quote joins those that wait, up to 8 beside the one that is signed (R612, R613). -/
theorem secQuoteCmd_asks {addr len : Nat} {nonce : BitVec 256} (hroom : b.sec.quotes.length < 9) :
    secQuoteCmd addr len nonce c b = quoteStart (quoteAsked c addr len nonce b) :=
  if_neg (Nat.not_le.2 hroom)

/-! ## Authorised requests -/

section
variable {op addr len : Nat} {f : List Nat → Block → Block}

theorem authorised_refuses {status : Nat} (h : authRequest c op addr len b = (.refused status, b')) :
    b.authorised c op addr len f = b'.respond c status := by
  rw [Block.authorised, h]

theorem authorised_accepts {signer : Nat} {p : List Nat} (h : authRequest c op addr len b = (.accepted signer p, b')) :
    b.authorised c op addr len f = f p b' := by
  rw [Block.authorised, h]

end

section
variable {addr len signer : Nat} {p : List Nat}

/-- The payload of SEC_OWNER_PROGRAM: a slot, three zero bytes and a key (R595). -/
theorem programPayload_queues {m : BitVec 3072} (hlen : p.length = 392) (hslot : fieldAt p 0 1 < 4) (hzero : fieldAt p 1 3 = 0)
    (hkey : keyOfBytes (p.drop 4) = some m) :
    programPayload c p b = fuseCommand c 0x0B05 (.program (fieldAt p 0 1) (keyHash m) m) b := by
  simp only [programPayload, hlen, hzero, hkey, bne_self_eq_false, decide_eq_false (Nat.not_le.2 hslot), Bool.or_self, Bool.false_eq_true,
    if_false]

/-- While no slot is ACTIVE or REVOKED, SVC programs an owner without a signature (R595). -/
theorem secOwnerProgramCmd_first {bs : List Nat} {m : BitVec 3072} (hno : noOwner b = true) (hport : c.port = .svc)
    (hread : readMem srcGreone addr (Nat.min len 4544) b = (some bs, b')) (hmagic : fieldAt bs 0 4 = 0x51554152)
    (hop : fieldAt bs 4 2 = 0x0B05) (hdev : fieldAt bs 8 8 = (deviceId b).toNat) (hp : p = (bs.drop 0x40).take (fieldAt bs 0x20 4))
    (hlen : p.length = 392) (hslot : fieldAt p 0 1 < 4) (hzero : fieldAt p 1 3 = 0) (hkey : keyOfBytes (p.drop 4) = some m) :
    secOwnerProgramCmd addr len c b = fuseCommand c 0x0B05 (.program (fieldAt p 0 1) (keyHash m) m) b' := by
  have hform : (fieldAt bs 0 4 == 0x51554152 && fieldAt bs 4 2 == 0x0B05 && fieldAt bs 8 8 == (deviceId b).toNat) = true := by
    simp only [hmagic, hop, hdev, beq_self_eq_true, Bool.and_self]
  simp only [secOwnerProgramCmd, hno, hport, hread, hform, bne_self_eq_false, Bool.false_eq_true, if_true, if_false, ← hp]
  exact programPayload_queues hlen hslot hzero hkey

/-- With an owner it takes an authorised request (R595). -/
theorem secOwnerProgramCmd_authorised (hown : noOwner b = false) :
    secOwnerProgramCmd addr len c b = b.authorised c 0x0B05 addr len (programPayload c) :=
  if_neg (by simp [hown])

section
variable {op : Nat} (hreq : authRequest c op addr len b = (.accepted signer p, b'))
include hreq

/-- An accepted SEC_OWNER_REVOKE names a slot (R596). -/
theorem secOwnerRevokeCmd_queues (hop : op = 0x0B06) (hlen : p.length = 1) (hslot : fieldAt p 0 1 < 4) :
    secOwnerRevokeCmd addr len c b = fuseCommand c 0x0B06 (.revoke (fieldAt p 0 1)) b' := by
  subst hop
  exact (authorised_accepts hreq).trans (if_neg (by simp [hlen, Nat.not_le.2 hslot]))

/-- An accepted SEC_FUSE_LOCK names the fuses of its bits 0 to 6 (R592). -/
theorem secFuseLockCmd_queues (hop : op = 0x0B07) (hlen : p.length = 1) (hmask : fieldAt p 0 1 < 128) :
    secFuseLockCmd addr len c b = fuseCommand c 0x0B07 (.locks (fieldAt p 0 1)) b' := by
  subst hop
  exact (authorised_accepts hreq).trans (if_neg (by simp [hlen, Nat.not_le.2 hmask]))

/-- An accepted SEC_SVN_ADVANCE names a counter and a value that it can reach, for firmware none above the image that runs (R601). -/
theorem secSvnAdvanceCmd_queues (hop : op = 0x0B08) (hlen : p.length = 2)
    (hto : fieldAt p 0 1 = 0 ∧ fieldAt p 1 1 ≤ 255 ∧ fieldAt p 1 1 ≤ (b'.fwu.running.map ImgInfo.svn).getD 0 ∨
      fieldAt p 0 1 = 1 ∧ fieldAt p 1 1 ≤ 63) :
    secSvnAdvanceCmd addr len c b = fuseCommand c 0x0B08 (.advance (fieldAt p 0 1) (fieldAt p 1 1)) b' := by
  subst hop
  refine (authorised_accepts hreq).trans (if_neg ?_)
  rcases hto with ⟨hc, hmax, himg⟩ | ⟨hc, hmax⟩
  · simp only [hlen, hc, counterMax, decide_eq_false (Nat.not_lt.2 hmax), decide_eq_false (Nat.not_lt.2 himg), beq_self_eq_true, if_true, Bool.and_false]
    decide
  · simp only [hlen, hc, counterMax, Nat.reduceBEq, Bool.false_eq_true, if_false, decide_eq_false (Nat.not_lt.2 hmax), Bool.false_and]
    decide

/-- An accepted SEC_SEAL_KEY_SET whose message holds a key begins the write of a bank with it (R608). -/
theorem secSealKeySetCmd_writes {key : BitVec 256} (hop : op = 0x0B09) (hstore : storeBlocked b = false) (hlen : p.length = 384)
    (hkey : sealKeyOf b' p = some key) :
    secSealKeySetCmd addr len c b =
      (writeBank { latestBank b' with keyNow := some key, keyOld := (latestBank b').keyNow } 0x0B09 b').hold c 0x0B09 0 := by
  subst hop
  refine (if_neg (by simp [hstore])).trans ((authorised_accepts hreq).trans ?_)
  simp only [hlen, hkey, bne_self_eq_false, Bool.false_eq_true, if_false]

/-- An accepted SEC_POLICY_SET with bits 0 to 4 begins the write of a bank with it (R611). -/
theorem secPolicySetCmd_writes (hop : op = 0x0B0A) (hstore : storeBlocked b = false) (hlen : p.length = 4) (hpol : fieldAt p 0 4 < 32) :
    secPolicySetCmd addr len c b =
      (writeBank { latestBank b' with policy := some (BitVec.ofNat 32 (fieldAt p 0 4)) } 0x0B0A b').hold c 0x0B0A 0 := by
  subst hop
  exact (if_neg (by simp [hstore])).trans ((authorised_accepts hreq).trans (if_neg (by simp [hlen, Nat.not_le.2 hpol])))

end

end

end

/-- Settles O55: each command is admitted, and its request and payload meet the guards. That SEC_OWNER_KEY_PUT answers KEY_MISMATCH where the bytes
cannot be read or form no key is log entry 65. -/
theorem securityCommands : Obligations.SecurityCommands := by
  refine fun s h => ⟨?_, ?_, ?_, ?_, ?_, ?_, fun addr len status b hown => ⟨?_, ?_⟩, ?_,
    fun addr len signer p b => ⟨?_, ?_, ?_, ?_, fun hstore => ⟨?_, ?_⟩⟩⟩
  · -- SEC_STATUS
    exact fun hA => live_command s h _ secStatusCmd hA
  · -- SEC_NONCE
    exact fun hA => live_command s h _ secNonceCmd hA
  · -- SEC_ID_CERT
    exact fun which addr len b hA hw hlen hmem => command_sets hA (secIdCertCmd_writes hw hlen hmem)
  · -- SEC_QUOTE
    exact fun addr len nonce hA hroom => command_acts (f := secQuoteCmd addr len nonce) hA (secQuoteCmd_asks hroom)
  · -- SEC_OWNER_KEY_PUT
    exact fun slot addr bs m b hA hslot hread hkey hhash => command_sets hA (secOwnerKeyPutCmd_takes hslot hread hkey hhash)
  · -- SEC_OWNER_KEY_PUT, no such key
    exact fun slot addr r hA hslot hread hno => command_sets hA (secOwnerKeyPutCmd_mismatch hslot hread hno)
  · -- SEC_OWNER_PROGRAM, refused
    exact fun hA hreq => command_sets hA ((secOwnerProgramCmd_authorised hown).trans (authorised_refuses hreq))
  · -- SEC_OWNER_REVOKE, refused
    exact fun hA hreq => command_sets hA (authorised_refuses hreq)
  · -- SEC_OWNER_PROGRAM, the first owner
    exact fun addr len bs b hA hno hport hread hmagic hop hdev p m hp hlen hslot hzero hkey =>
      command_sets hA (secOwnerProgramCmd_first hno hport hread hmagic hop hdev hp hlen hslot hzero hkey)
  · -- SEC_OWNER_PROGRAM
    exact fun m hA hown hreq hlen hslot hzero hkey => command_sets hA
      ((secOwnerProgramCmd_authorised hown).trans ((authorised_accepts hreq).trans (programPayload_queues hlen hslot hzero hkey)))
  · -- SEC_OWNER_REVOKE
    exact fun hA hreq hlen hslot => command_sets hA (secOwnerRevokeCmd_queues hreq rfl hlen hslot)
  · -- SEC_FUSE_LOCK
    exact fun hA hreq hlen hmask => command_sets hA (secFuseLockCmd_queues hreq rfl hlen hmask)
  · -- SEC_SVN_ADVANCE
    exact fun hA hreq hlen hto => command_sets hA (secSvnAdvanceCmd_queues hreq rfl hlen hto)
  · -- SEC_SEAL_KEY_SET
    exact fun key hA hreq hlen hkey => command_sets hA (secSealKeySetCmd_writes hreq rfl hstore hlen hkey)
  · -- SEC_POLICY_SET
    exact fun hA hreq hlen hpol => command_sets hA (secPolicySetCmd_writes hreq rfl hstore hlen hpol)

section
variable {b b' : Block}

/-! ## The engine's own events -/

/-- A request that had started has been programmed (R591). -/
theorem fuseProgramDoneStep_ends {j : FuseJob} {l : List FuseJob} {ok : Bool} {got : Nat} (hj : b.sec.jobs = j :: l)
    (hrun : j.started = true) : fuseProgramDoneStep ok got b = fuseProgrammed j ok got b := by
  simp only [fuseProgramDoneStep, hj, hrun, if_true]

/-- A nonce that has run its 600 s is gone (R599; log entry 8). -/
theorem nonceExpiryStep_expires {p : Port} {n : BitVec 128} {t : BitVec 64} (hn : nonceOf b p = some (n, t)) :
    nonceExpiryStep p b = reachTime (t + 600000000000) (setNonce p none b) := by
  simp only [nonceExpiryStep, hn]

/-- A quote and its signature are written, and the next one starts (R613). -/
theorem quoteSignedStep_writes {q : Quote} {l : List Quote} {bs : List Nat} (hq : b.sec.quotes = q :: l) (hbs : q.bytes = some bs)
    (hmem : writeMem srcGreone q.addr (bs ++ (identitySign bs b).1) (identitySign bs b).2 = (true, b')) :
    quoteSignedStep b = quoteStart ((modSec (fun x => { x with quotes := l }) b').close 0x0B03 q.id St.ok) := by
  simp only [quoteSignedStep, hq, hbs, hmem, if_true]

end

/-- Settles O56: each row's guard is met. That a nonce's expiry brings DEV_TIME to its instant is log entry 8. -/
theorem securityEvents : Obligations.SecurityEvents := by
  refine fun s hr => ⟨?_, ?_, ?_, ?_⟩
  · -- FUSE_PROGRAM_DONE
    exact fun j l ok got hj hrun => live_acts hr (fuseProgramDoneStep_ends hj hrun)
  · -- NONCE_EXPIRY
    exact fun p n t hn => live_acts hr (nonceExpiryStep_expires hn)
  · -- QUOTE_SIGNED
    exact fun q l bs b hq hbs hmem => live_sets hr (quoteSignedStep_writes hq hbs hmem)
  · -- JTAG_TAP_INSTRUCTION
    exact fun i => live_answers (jtagTapInstructionStep i) s hr

end Sys2Proof.Proofs
end

section
/-! Firmware update (21), power (22) and the Service Port (21): the commands, the events and the frames. -/

namespace Sys2Proof.Proofs

open Sys2Proof.Machine Sys2Proof.Laws

/-- An admitted update command outside Stage 0 has any effect that agrees with its own on the state's block (R628). -/
theorem updateCommand_acts {h : Hdr} {op : Nat} {ports : List Port} {f : Cmd → Block → Block} {g : Block → Block} {s : State}
    (h0 : stageOf s.blk ≠ 0) (A : Admitted s.blk h { op := op, ports := ports, stage := 0 }) (e : f (cmdOf h op) s.blk = g s.blk) :
    live (fun b => b.updateCommand h op ports f) s = .next (s.on g) :=
  command_acts (f := fun c b => if stageOf b == 0 then b.respond c St.refusedState else f c b) A ((if_neg (by simp [h0])).trans e)

section
variable {c : Cmd} {b b' : Block}

/-! ## Update commands -/

/-- From IDLE or CONFIRMED an image of a legal length is received where R629 does not refuse (R627). -/
theorem fwBeginCmd_receives {len : Nat} (hst : fwState b = 0 ∨ fwState b = 6) (hlo : 0x200 + 384 < len) (hhi : len ≤ 0x1000000)
    (hok : updateRefused b false = none) : fwBeginCmd len c b = (receivingBegins len b).hold c 0x0C01 0 := by
  have hlen : (decide (len ≤ 0x200 + 384) || decide (slotSize < len)) = false :=
    Bool.or_eq_false_iff.2 ⟨decide_eq_false (Nat.not_le.2 hlo), decide_eq_false (Nat.not_lt.2 hhi)⟩
  rw [fwBeginCmd, if_neg (by rcases hst with h | h <;> simp [h]), if_neg (by rw [hlen]; decide), hok]

/-- An image received whole, with the digest given, is RECEIVED (R627). -/
theorem fwEndCmd_received {digest : BitVec 256} (hst : fwState b = 1) (her : b.fwu.erasing = false) (hbad : b.fwu.flashBad = false)
    (hall : fwTaken b = b.fwu.length) (hdig : sha256 (receivedBytes b) = digest) :
    fwEndCmd digest c b = (modNv (fun x => { x with pending := 2 }) (setFwState 2 b)).respond c St.ok := by
  simp only [fwEndCmd, hst, her, hbad, hall, hdig, bne_self_eq_false, Bool.or_self, Bool.false_eq_true, if_false]

theorem fwVerifyCmd_reads (hst : fwState b = 2) (hidle : b.fwu.reading = false) :
    fwVerifyCmd c b = (modFwu (fun x => { x with reading := true }) b).hold c 0x0C03 0 :=
  if_neg (by simp [hst, hidle])

section
variable {whenPermitted : Nat} (hst : fwState b = 3) (hopen : openOf b 0x0C04 0 = []) (hw : whenPermitted ≤ 1)
include hst hopen hw

/-- A VERIFIED image is activated where R629 does not refuse (R627). -/
theorem fwActivateCmd_activates (hok : updateRefused b false = none) :
    fwActivateCmd whenPermitted c b = (fwActivateNow b).hold c 0x0C04 0 := by
  rw [fwActivateCmd, if_neg (by simp [hst, hopen]), if_neg (Nat.not_lt.2 hw), hok]

/-- Where R629 refuses, but no lock, it is ARMED on request (R627, R629). -/
theorem fwActivateCmd_arms (h1 : whenPermitted = 1) (hno : updateRefused b false ≠ none) (hlock : updateLocked b = false) :
    fwActivateCmd whenPermitted c b = (setFwState 4 b).hold c 0x0C04 0 := by
  obtain ⟨st, hst'⟩ := Option.ne_none_iff_exists'.1 hno
  rw [fwActivateCmd, if_neg (by simp [hst, hopen]), if_neg (Nat.not_lt.2 hw), hst']
  exact if_pos (by simp [h1, hlock])

end

/-- From ARMED the image is VERIFIED again, and its FW_ACTIVATE is answered (R627; log entry 66). -/
theorem fwAbortCmd_armed (hst : fwState b = 4) :
    fwAbortCmd c b = ((setFwState 3 b).close 0x0C04 0 St.refusedState).respond c St.ok :=
  if_pos (by simp [hst])

/-- Before its activation the update is dropped (R627). -/
theorem fwAbortCmd_drops (hst : fwState b = 1 ∨ fwState b = 2 ∨ fwState b = 3 ∧ openOf b 0x0C04 0 = []) :
    fwAbortCmd c b = (updateAborted b).respond c St.ok := by
  rcases hst with h | h | ⟨h, hopen⟩
  · exact (if_neg (by simp [h])).trans (if_pos (by simp [h]))
  · exact (if_neg (by simp [h])).trans (if_pos (by simp [h]))
  · exact (if_neg (by simp [h])).trans (if_pos (by simp [h, hopen]))

section
variable {addr len : Nat} (hprov : provisional b = true)
include hprov

/-- While no owner key is ACTIVE, SVC accepts the defaults (R635). -/
theorem fwAcceptDefaultsCmd_svc (hno : activeSlots b = []) (hport : c.port = .svc) :
    fwAcceptDefaultsCmd addr len c b = defaultsAccepted c b :=
  (if_neg (by simp [hprov])).trans ((if_pos (by simp [hno])).trans (if_pos (by simp [hport])))

/-- Otherwise an authorised request does (R635). -/
theorem fwAcceptDefaultsCmd_authorised {signer : Nat} {p : List Nat} (hown : activeSlots b ≠ [])
    (hreq : authRequest c 0x0C06 addr len b = (.accepted signer p, b')) : fwAcceptDefaultsCmd addr len c b = defaultsAccepted c b' :=
  (if_neg (by simp [hprov])).trans ((if_neg (by simp [hown])).trans (authorised_accepts hreq))

end

/-- In TRIAL, with nothing else under way, the record of the other image is written where that is usable (R633). -/
theorem fwRevertCmd_reverts (hst : fwState b = 5) (hjobs : b.fwu.jobs = []) (hdue : b.gr.restartDue = none)
    (hok : updateRefused b true = none) :
    fwRevertCmd c b = if slotUsable b (stagingSlot b) = true then
        (startRec { ActRec.none with slotB := stagingSlot b == 1 } 0x0C07 b).hold c 0x0C07 0
      else b.respond c St.noFallback := by
  rw [fwRevertCmd, if_neg (by simp [hst, hjobs, hdue]), hok]

/-- A run lock is taken for 1 s to 86,400 s (R630). -/
theorem runLockCmd_takes {lease : Nat} (hlo : 1 ≤ lease) (hhi : lease ≤ 86400) :
    runLockCmd lease c b = (takeRun (portNum c.port) lease b).respond c St.ok :=
  if_neg (by simp [Nat.not_lt.2 hhi]; omega)

theorem runUnlockCmd_own : runUnlockCmd 0 c b = (releaseRun (portNum c.port) b).respond c St.ok := rfl

/-- FORCE from SVC releases every lock (R630). -/
theorem runUnlockCmd_force (hport : c.port = .svc) :
    runUnlockCmd 1 c b = (releaseRun 5 (releaseRun 2 (releaseRun 1 (releaseRun 0 b)))).respond c St.ok :=
  (if_neg (by decide)).trans (if_neg (by simp [hport]))

end

/-- Settles O57: each command is admitted, from the update state of its rule. That FW_ABORT in ARMED answers the waiting FW_ACTIVATE with
REFUSED_STATE is log entry 66. -/
theorem updateCommands : Obligations.UpdateCommands := by
  refine fun s h => ⟨?_, fun h0 => ⟨?_, ?_, ?_, fun w hA hst hopen hw => ⟨?_, ?_⟩, fun hA => ⟨?_, ?_⟩⟩,
    fun hA hprov addr len => ⟨?_, ?_⟩, ?_, ?_, fun hA => ⟨?_, ?_⟩⟩
  · -- FW_STATUS
    exact fun hA => live_command s h _ fwStatusCmd hA
  · -- FW_BEGIN
    exact fun len hA hst hlo hhi hok => updateCommand_acts (f := fwBeginCmd len) h0 hA (fwBeginCmd_receives hst hlo hhi hok)
  · -- FW_END
    exact fun digest hA hst her hbad hall hdig =>
      updateCommand_acts (f := fwEndCmd digest) h0 hA (fwEndCmd_received hst her hbad hall hdig)
  · -- FW_VERIFY
    exact fun hA hst hidle => updateCommand_acts (f := fwVerifyCmd) h0 hA (fwVerifyCmd_reads hst hidle)
  · -- FW_ACTIVATE, at once
    exact fun hok => updateCommand_acts (f := fwActivateCmd w) h0 hA (fwActivateCmd_activates hst hopen hw hok)
  · -- FW_ACTIVATE, ARMED
    exact fun h1 hno hlock => updateCommand_acts (f := fwActivateCmd w) h0 hA (fwActivateCmd_arms hst hopen hw h1 hno hlock)
  · -- FW_ABORT of an armed activation
    exact fun hst => updateCommand_acts (f := fwAbortCmd) h0 hA (fwAbortCmd_armed hst)
  · -- FW_ABORT
    exact fun hst => updateCommand_acts (f := fwAbortCmd) h0 hA (fwAbortCmd_drops hst)
  · -- FW_ACCEPT_DEFAULTS without an owner
    exact fun hno hport => command_acts (f := fwAcceptDefaultsCmd addr len) hA (fwAcceptDefaultsCmd_svc hprov hno hport)
  · -- FW_ACCEPT_DEFAULTS with one
    exact fun signer p b hown hreq => command_sets hA (fwAcceptDefaultsCmd_authorised hprov hown hreq)
  · -- FW_REVERT
    exact fun hA hst hjobs hdue hok => command_acts (f := fwRevertCmd) hA (fwRevertCmd_reverts hst hjobs hdue hok)
  · -- RUN_LOCK
    exact fun lease hA hlo hhi => command_acts (f := runLockCmd lease) hA (runLockCmd_takes hlo hhi)
  · -- RUN_UNLOCK
    exact command_acts (f := runUnlockCmd 0) hA runUnlockCmd_own
  · -- RUN_UNLOCK with FORCE
    exact fun hport => command_acts (f := runUnlockCmd 1) hA (runUnlockCmd_force hport)

section
variable {b : Block}

/-! ## Firmware events -/

/-- The image is chosen once, in Stage 0 or in a restart (R623). -/
theorem bootImageChoiceStep_chooses (hno : b.start.imageChosen = false) (hat : stageOf b = 0 ∧ b.gr.up = true ∨ b.gr.restarting = true) :
    bootImageChoiceStep b = imageChoice (b.gr.restartDue == some 1 || b.gr.restartDue == some 2) b := by
  refine if_neg ?_
  rcases hat with ⟨h0, hup⟩ | hrs
  · simp [hno, h0, hup]
  · simp [hno, hrs]

/-- The end of an erase answers FW_BEGIN, and its failure ends the reception (R627; log entry 66). -/
theorem fwEraseDoneStep_eq {ok : Bool} (her : b.fwu.erasing = true) :
    fwEraseDoneStep ok b = if ok then (slotErased b).close 0x0C01 0 St.ok else endReceiving St.flashFail (slotErased b) :=
  if_neg (by simp [her])

/-- A record's write ends (R622). -/
theorem flashProgramDoneStep_record {ok : Bool} {r : ActRec} {op2 : Nat} {l : List FlashJob} (hj : b.fwu.jobs = .record r op2 :: l) :
    flashProgramDoneStep ok b = if ok then recordWritten r op2 (modFwu (fun x => { x with jobs := l }) b)
      else (modFwu (fun x => { x with jobs := l }) b).close op2 0 St.flashFail := by
  simp only [flashProgramDoneStep, hj]

/-- On good power a bank's write ends (R625, R647). -/
theorem flashProgramDoneStep_settings {ok : Bool} {k : SetBank} {op2 : Nat} {l : List FlashJob}
    (hj : b.fwu.jobs = .settings k op2 :: l) (hpow : powerGood b = true) :
    flashProgramDoneStep ok b = if ok then bankWritten k op2 (modFwu (fun x => { x with jobs := l }) b)
      else (putBank none (modFwu (fun x => { x with jobs := l }) b)).closeFirst op2 0 St.flashFail := by
  simp only [flashProgramDoneStep, hj]
  exact if_neg (by simp [hpow])

/-- On good power image data are programmed into the erased slot (R621). -/
theorem flashProgramDoneStep_image {ok : Bool} (hj : b.fwu.jobs = []) (hbuf : b.fwu.buffer ≠ []) (her : b.fwu.erasing = false)
    (hpow : powerGood b = true) : flashProgramDoneStep ok b = programImage ok b := by
  simp only [flashProgramDoneStep, hj]
  exact if_neg (by simp [hbuf, her, hpow])

/-- A read-back ends with the image's status, or with FLASH_FAIL (R617, R627; log entry 66). -/
theorem fwReadbackDoneStep_eq {ok : Bool} (hread : b.fwu.reading = true) (hbuf : b.fwu.buffer = []) :
    fwReadbackDoneStep ok b = readBack (if !ok || b.fwu.flashBad then St.flashFail else imageStatus b (stagingSlot b)) b :=
  if_neg (by simp [hread, hbuf])

theorem fwArmedActivationStep_activates (hst : fwState b = 4) (hrs : b.gr.restarting = false) (hok : updateRefused b false = none) :
    fwArmedActivationStep b = fwActivateNow (setFwState 3 b) :=
  if_pos (by simp [hst, hrs, hok])

section
variable (hst : fwState b = 5) (hrs : b.gr.restarting = false) (hdue : b.gr.restartDue = none) (hjobs : b.fwu.jobs = [])
include hst hrs hdue hjobs

/-- A trial that fails its checks ends with a restart (R632). -/
theorem fwTrialCheckStep_fails : fwTrialCheckStep false b = restartFor 4 (b.raise Ev.fwTrialFailed fwOrigin) :=
  (if_neg (by simp [hst, hrs, hdue, hjobs])).trans (if_pos rfl)

/-- One that passes them, 60 s after the boot, is confirmed (R631, R635; log entry 8). -/
theorem fwTrialCheckStep_passes (hready : allReady b = true) (hacc : provisional b = false ∨ b.fwu.accepted = true) :
    fwTrialCheckStep true b = trialPassed (reachTime (b.fwu.bootTime + 60000000000) b) := by
  have hset : (!allReady b || provisional b && !b.fwu.accepted) = false := by
    rcases hacc with h | h <;> simp [hready, h]
  rw [fwTrialCheckStep, if_neg (by simp [hst, hrs, hdue, hjobs]), if_neg (by decide), if_neg (by rw [hset]; decide)]

end

/-- Confirmed firmware that has run for 600 s clears the crashes (R624; log entry 8). -/
theorem crashClearStep_clears (htr : (actRec b).trial = false) (hcr : (actRec b).crashes ≠ 0) (hrun : b.fwu.running ≠ none)
    (hrs : b.gr.restarting = false) (hjobs : b.fwu.jobs = []) :
    crashClearStep b = startRec { actRec b with crashes := 0 } 1 (reachTime (b.fwu.bootTime + 600000000000) b) :=
  if_neg (by simp [htr, hcr, hrun, hrs, hjobs])

theorem runLockExpiryStep_expires {p : Nat} (hheld : b.flag Rg.fw (Rg.runHeld p) = true) :
    runLockExpiryStep p b =
      (releaseRun p (reachTime (BitVec.ofNat 64 (spGet (fun _ => 0) b.fwu.leases p)) b)).raise Ev.runLockExpired fwOrigin :=
  if_pos hheld

end

/-- The ports that take run locks: neither SVC nor JTAG (R630). -/
theorem lockPort_mem {p : Port} (hs : p ≠ .svc) (hj : p ≠ .jtag) : [0, 1, 2, 5].contains (portNum p) = true := by
  cases p with
  | svc => exact absurd rfl hs
  | jtag => exact absurd rfl hj
  | h0 | p1 | p2 | fab => rfl

/-- Settles O58: each row's guard is met. Rows that bring DEV_TIME to their instant are log entry 8, and the results of a failed erase and read-back
are log entry 66. -/
theorem firmwareEvents : Obligations.FirmwareEvents := by
  refine fun s hr => ⟨?_, fun her => ⟨?_, ?_⟩, fun r op2 l hj => ⟨?_, ?_⟩, fun k op2 l hj hpow => ⟨?_, ?_⟩, ?_,
    fun hread hbuf => ⟨?_, ?_⟩, ?_, fun hst hrs hdue hjobs => ⟨?_, ?_⟩, ?_, ?_⟩
  · -- BOOT_IMAGE_CHOICE
    exact fun hno hat => live_acts hr (bootImageChoiceStep_chooses hno hat)
  · -- FW_ERASE_DONE
    exact live_acts hr (fwEraseDoneStep_eq her)
  · -- FW_ERASE_DONE, failed
    exact live_acts hr (fwEraseDoneStep_eq her)
  · -- FLASH_PROGRAM_DONE of a record
    exact live_acts hr (flashProgramDoneStep_record hj)
  · -- FLASH_PROGRAM_DONE of a record, failed
    exact live_acts hr (flashProgramDoneStep_record hj)
  · -- FLASH_PROGRAM_DONE of a bank
    exact live_acts hr (flashProgramDoneStep_settings hj hpow)
  · -- FLASH_PROGRAM_DONE of a bank, failed
    exact live_acts hr (flashProgramDoneStep_settings hj hpow)
  · -- FLASH_PROGRAM_DONE of image data
    exact fun ok hj hbuf her hpow => live_acts hr (flashProgramDoneStep_image hj hbuf her hpow)
  · -- FW_READBACK_DONE
    intro hbad
    refine live_acts hr ((fwReadbackDoneStep_eq hread hbuf).trans ?_)
    simp only [hbad, Bool.not_true, Bool.or_self, Bool.false_eq_true, if_false]
  · -- FW_READBACK_DONE, failed
    exact live_acts hr (fwReadbackDoneStep_eq hread hbuf)
  · -- FW_ARMED_ACTIVATION
    exact fun hst hrs hok => live_acts hr (fwArmedActivationStep_activates hst hrs hok)
  · -- FW_TRIAL_CHECK, failed
    exact live_acts hr (fwTrialCheckStep_fails hst hrs hdue hjobs)
  · -- FW_TRIAL_CHECK
    exact fun hready hacc => live_acts hr (fwTrialCheckStep_passes hst hrs hdue hjobs hready hacc)
  · -- CRASH_CLEAR
    exact fun htr hcr hrun hrs hjobs => live_acts hr (crashClearStep_clears htr hcr hrun hrs hjobs)
  · -- RUN_LOCK_EXPIRY
    exact fun p hs hj hheld => live_acts hr (f := fun b => if [0, 1, 2, 5].contains (portNum p) then runLockExpiryStep (portNum p) b else b)
      ((if_pos (lockPort_mem hs hj)).trans (runLockExpiryStep_expires hheld))

section
variable {b : Block}

/-! ## Frames of the Service Port -/

/-- A good frame of its type acts on a Service Port that exists (R604, R618). -/
theorem svcFrame_acts {typ : Nat} {f : List (BitVec 8)} {act : List Nat → Block → Block} (hsvc : b.flag Rg.sec Rg.sSvcDisable = false)
    (hsync : (frameBytes f).getD 0 0 = 0xA5) (htyp : (frameBytes f).getD 1 0 = typ) (hok : frameOk (frameBytes f) = true) :
    svcFrame typ f act b = act (frameBytes f) b := by
  simp only [svcFrame, hsvc, hsync, htyp, hok, bne_self_eq_false, Bool.not_true, Bool.or_self, Bool.false_eq_true, if_false]

/-- The next bytes of an image enter the buffer where it has room for them (R621). -/
theorem svcImageAct_takes {bs p : List Nat} (hst : fwState b = 1) (hp : p = framePayload bs)
    (hnew : b.fwu.lastSeq ≠ some (fieldAt bs 3 2, fieldAt bs 5 8)) (hoff : fieldAt bs 5 8 = fwTaken b)
    (hfit : fwTaken b + p.length ≤ b.fwu.length) (hne : p ≠ []) (hmax : p.length ≤ 4096)
    (hroom : b.fwu.buffer.length + p.length ≤ 65536) :
    svcImageAct bs b = svcAck bs 0 (imageTaken p (fieldAt bs 3 2, fieldAt bs 5 8) b) := by
  subst hp
  have hnext : (fieldAt bs 5 8 != fwTaken b || decide (b.fwu.length < fwTaken b + (framePayload bs).length) || (framePayload bs).isEmpty ||
      decide (4096 < (framePayload bs).length)) = false := by
    rw [hoff, decide_eq_false (Nat.not_lt.2 hfit), decide_eq_false (Nat.not_lt.2 hmax), List.isEmpty_eq_false_iff.2 hne,
      bne_self_eq_false]
    decide
  rw [svcImageAct, if_neg (by simp [hst]), if_neg (by simp [hnew]), if_neg (by rw [hnext]; decide)]
  exact if_neg (Nat.not_lt.2 hroom)

section
variable {bs p : List Nat} {a : Nat} (ha : a = fieldAt bs 5 8) (hmay : mayIssue b 0x404 4 a = true) (hfence : fenceBusy b 0x404 = false)
include ha hmay hfence

/-- A WRITE of a legal span is a posted write of port 0x404 (R619, R620). -/
theorem svcWriteAct_issues (hp : p = framePayload bs) (hform : svcForm bs p.length = true) (hflip : flipHeld b 0x404 = false) :
    svcWriteAct bs b = svcAck bs 0 (nocIssue 0x404 4 2 a p.length 0 false p b) := by
  subst ha hp
  rw [svcWriteAct, if_neg (by rw [hform, hmay]; decide), if_neg (by rw [hfence, hflip]; decide)]

/-- A READ of a legal span is a read of port 0x404, with a free tag for each of its parts (R619, R620). -/
theorem svcReadAct_issues {n : Nat} (hn : n = fieldAt bs 13 4) (hform : svcForm bs n = true) (hidle : b.fwu.svcRead = none)
    (htags : ((netSegs b 0x404 0 a n).filter (segTagged b 0)).length ≤
      (freeTags b 0x404 ((netSegs b 0x404 0 a n).filter (segTagged b 0)).length).length) :
    svcReadAct bs b = nocIssue 0x404 4 0 a n svcLabel false []
      (modFwu (fun x => { x with svcRead := some { seq := fieldAt bs 3 2, addr := a, len := n, lines := [] } }) b) := by
  subst ha hn
  rw [svcReadAct, if_neg (by rw [hform, hmay]; decide)]
  exact if_neg (by rw [hfence, hidle, decide_eq_false (Nat.not_lt.2 htags)]; decide)

end

end

/-- Settles O59: a good frame of each type, at a Service Port that exists, acts. -/
theorem serviceFrames : Obligations.ServiceFrames := by
  refine fun s f hr hsvc hsync hok => ⟨?_, ?_, fun a ha hmay hfence => ⟨?_, ?_⟩⟩
  · -- PING
    exact fun htyp => live_acts hr (svcFrame_acts (act := fun bs b => svcAck bs 0 b) hsvc hsync htyp hok)
  · -- IMAGE
    exact fun htyp hst p hp hnew hoff hfit hne hmax hroom =>
      live_acts hr ((svcFrame_acts hsvc hsync htyp hok).trans (svcImageAct_takes hst hp hnew hoff hfit hne hmax hroom))
  · -- WRITE
    exact fun htyp p hp hform hflip =>
      live_acts hr ((svcFrame_acts hsvc hsync htyp hok).trans (svcWriteAct_issues ha hmay hfence hp hform hflip))
  · -- READ
    exact fun htyp n hn hform hidle htags =>
      live_acts hr ((svcFrame_acts hsvc hsync htyp hok).trans (svcReadAct_issues ha hmay hfence hn hform hidle htags))

section
variable {b : Block}

/-! ## Power -/

/-- The five dies' readings are taken in order (R649). -/
theorem thermalReadings {t0 t1 t2 t3 t4 : BitVec 12} :
    forEach (upto 5) (fun d b => thermalOne d ([t0, t1, t2, t3, t4].getD d 0) b) b =
      thermalOne 4 t4 (thermalOne 3 t3 (thermalOne 2 t2 (thermalOne 1 t1 (thermalOne 0 t0 b)))) :=
  rfl

/-- The 13 rails' readings are taken in order (R649). -/
theorem railSampleStep_takes {mv : List Nat} (hlen : mv.length = 13) (hmv : ∀ v ∈ mv, v < 65536) :
    railSampleStep mv b = (List.range 13).foldl (fun b i => railOne i (mv.getD i 0) b) b := by
  refine List.foldl_ext _ _ b fun b i hi => ?_
  have hlt : i < mv.length := by rw [hlen]; exact List.mem_range.1 hi
  simp only [List.getElem?_eq_getElem hlt, List.getD_eq_getElem _ _ hlt, Nat.mod_eq_of_lt (hmv _ (List.getElem_mem hlt))]

theorem thermSetCmd_sets {die thresh : Nat} {c : Cmd} (hd : die ≤ 4) (hlo : 60 ≤ thresh) (hhi : thresh ≤ 105) :
    thermSetCmd die thresh c b = (b.put Rg.pwr (Rg.thThresh die) thresh).respond c St.ok :=
  (if_neg (Nat.not_lt.2 hd)).trans (if_neg (by simp [Nat.not_lt.2 hlo, Nat.not_lt.2 hhi]))

end

/-- Settles O60: a warning or the loss of the hold-up supply changes where it is not yet told; the readings are taken in order. The response of
PWR_STATUS and the range of THERM_SET stand in the command table of chapter 22 and in R650. -/
theorem powerCommands : Obligations.PowerCommands := by
  refine fun s hr => ⟨?_, ?_, ?_, ?_, ?_, ?_, ?_, ?_⟩
  · -- POWER_WARN
    exact fun hw => live_acts (f := powerWarnStep) hr (if_neg (by simp [hw]))
  · -- POWER_WARN_CLEAR
    exact fun hw => live_acts (f := powerWarnClearStep) hr (if_pos hw)
  · -- HOLDUP_LOST
    exact fun hh => live_acts (f := holdupLostStep) hr (if_pos hh)
  · -- HOLDUP_GOOD
    exact fun hh => live_acts (f := holdupGoodStep) hr (if_neg (by simp [hh]))
  · -- THERMAL_SAMPLE
    intro t0 t1 t2 t3 t4
    refine live_acts (f := thermalSampleStep [t0, t1, t2, t3, t4]) hr ?_
    rw [thermalSampleStep, thermalReadings]
    rfl
  · -- RAIL_SAMPLE
    exact fun mv hlen hmv => live_acts hr (railSampleStep_takes hlen hmv)
  · -- PWR_STATUS
    exact fun h hA => live_command s h _ pwrStatusCmd hA
  · -- THERM_SET
    exact fun h die thresh hA hd hlo hhi => command_acts (f := thermSetCmd die thresh) hA (thermSetCmd_sets hd hlo hhi)

end Sys2Proof.Proofs
end
